-- ==== Sys2Proof/Word.lean ====
section
/-!
DEFINITION. Sys2Proof/Word.lean: the word and byte types, and the four-fold record the model keeps for quantities
that exist once per actuator, lane or pair.
-/
namespace Sys2Proof

/-- A register or a data word: 32 bits (R14). -/
abbrev Word := BitVec 32

/-- A byte. -/
abbrev Byte := BitVec 8

/-- A Rev-Angle Stamp as one number: revolution count times 2^32 plus the angle word (R11). -/
abbrev Stamp := Nat

/-- One value per actuator, lane or pair, 0 to 3. -/
structure Quad (α : Type) where
  a0 : α
  a1 : α
  a2 : α
  a3 : α
  deriving DecidableEq, Repr

/-- The value of lane n. -/
def Quad.get {α : Type} (q : Quad α) : Fin 4 → α
  | 0 => q.a0
  | 1 => q.a1
  | 2 => q.a2
  | 3 => q.a3

/-- The record with lane n's value replaced. -/
def Quad.set {α : Type} (q : Quad α) (n : Fin 4) (v : α) : Quad α :=
  match n with
  | 0 => { q with a0 := v }
  | 1 => { q with a1 := v }
  | 2 => { q with a2 := v }
  | 3 => { q with a3 := v }

/-- The same value on every lane. -/
def Quad.all {α : Type} (v : α) : Quad α := ⟨v, v, v, v⟩

/-- A lane's or a pair's part of a fourfold record changed. -/
def Quad.modify {α : Type} (q : Quad α) (n : Fin 4) (f : α → α) : Quad α := q.set n (f (q.get n))

/-- One value per host port or controller, 0 and 1. -/
structure Duo (α : Type) where
  b0 : α
  b1 : α
  deriving DecidableEq, Repr

/-- The value of port m. -/
def Duo.get {α : Type} (q : Duo α) : Fin 2 → α
  | 0 => q.b0
  | 1 => q.b1

/-- The record with port m's value replaced. -/
def Duo.set {α : Type} (q : Duo α) (m : Fin 2) (v : α) : Duo α :=
  match m with
  | 0 => { q with b0 := v }
  | 1 => { q with b1 := v }

/-- The same value on both ports. -/
def Duo.all {α : Type} (v : α) : Duo α := ⟨v, v⟩

/-- A port's part of a twofold record changed. -/
def Duo.modify {α : Type} (q : Duo α) (m : Fin 2) (f : α → α) : Duo α := q.set m (f (q.get m))

end Sys2Proof
end

