-- ==== Sys2Proof/Syntax.lean ====
section
/-!
DEFINITION. Sys2Proof/Syntax.lean: the commands of the MZ9400, one constructor of `Instr` per row of
spec/opcode_table.json, and the types of their operands.
-/
namespace Sys2Proof

/-- A master of the internal register space (R39), with the numbers R506 gives: cores C0 to C7, JTAG, the Register
Access command of a controller, Register Access tunnelled over SMBus, and the Viaduct chain. -/
inductive Master where
  | core (n : Fin 8)
  | jtag
  | host (m : Fin 2)
  | smbus
  | chain
  deriving DecidableEq, Repr

/-- The number of a master in a refused-access payload (R506). -/
def Master.number : Master → Nat
  | .core n => n.val
  | .jtag => 8
  | .host m => 9 + m.val
  | .smbus => 11
  | .chain => 12

/-- Whether the master is a firmware core. -/
def Master.isCore : Master → Bool
  | .core _ => true
  | _ => false

/-- Whether the access comes through the Register Access command. -/
def Master.isRegAccess : Master → Bool
  | .host _ => true
  | .smbus => true
  | _ => false

/-- A table of a Drive Parameter Image (R596): its type, its payload length, whether its CRC is correct, and its payload
(offsets not listed hold 0). -/
structure DpiTable where
  ty : Nat
  size : Nat
  crcOk : Bool
  bytes : List (Nat × Byte)
  deriving DecidableEq, Repr

/-- A Drive Parameter Image (R596, R597): the header fields, whether MAGIC, the reserved bytes, LEN and the table offsets
keep their rules, the SHA-384 of PUBKEY, whether SIG verifies, and the tables. -/
structure DpiImage where
  format : Nat
  ntab : Nat
  len : Nat
  dpiId : Nat
  svn : Nat
  chain : Nat
  layoutOk : Bool
  keyHash : List Byte
  sigOk : Bool
  tables : List DpiTable
  deriving DecidableEq, Repr

/-- The interpolated values of both readers, by bit index from 4 bits before the codeword (R269, R289); an unlisted bit reads 0. -/
abbrev Samples := List (Nat × Int × Int)

/-- A control store image (R260) as its bytes: a customer image with its signature block and padding, or the Smipoent control store
image of a firmware image. -/
structure CsImage where
  bytes : List Byte
  deriving DecidableEq, Repr

/-- A firmware image (R595) as its bytes. -/
structure FwImage where
  bytes : List Byte
  deriving DecidableEq, Repr

/-- A media operation descriptor (spec/06_media_scheduler.md, R198), field by field. -/
structure OpDesc where
  slot : Nat
  kind : Nat
  flags : Nat
  head : Nat
  rz : Nat
  entry : Nat
  prio : Nat
  cyl : Nat
  band : Nat
  first : Nat
  count : Nat
  start : Nat
  endA : Nat
  buf : Nat
  defect : Nat
  deriving DecidableEq, Repr

/-- A submission queue entry, by its fields (R94): opcode, command identifier, namespace, and dwords 10 to 15. -/
structure Sqe where
  opc : Nat
  cid : Nat
  nsid : Nat
  cdw10 : Word
  cdw11 : Word
  cdw12 : Word
  cdw13 : Word
  cdw14 : Word
  cdw15 : Word
  deriving DecidableEq, Repr

/-- A 32-bit access of the host to BAR0 or BAR2 of a function (R86, R552): a read, or a write of a word. -/
inductive BarAccess where
  | read
  | write (w : Nat)
  deriving DecidableEq, Repr

/-- An access of the host to the configuration space of a function (R84, R111, R123): MSI-X enable, function mask and Bus Master Enable;
the codes of Max_Payload_Size and Max_Read_Request_Size; the enables of ASPM L1 and of the L1.1 substate (R556); the clearing of the AER status, with the header log; a read of a word. -/
inductive CfgAccess where
  | control (msixen fmask bme : Bool)
  | device (mps mrrs : Nat)
  | link (l1 l11 : Bool)
  | aerClear
  | read (off : Nat)
  deriving DecidableEq, Repr

/-- A media operation as resident firmware posts it for a command (R209): the intake ring it chooses (0 to 5), its
descriptor, and the logical range it carries (first LBA and blocks). -/
structure PostReq where
  ring : Fin 6
  d : OpDesc
  slba : Nat
  nlb : Nat
  deriving DecidableEq, Repr


/-- What a word or line with an uncorrectable error holds (R466): clean cache data; write data of a command not completed;
dirty acknowledged data, with the logical ranges it holds (namespace, first LBA, blocks); read data in staging; a compression
context (namespace, zone); a slot of the event ring; a capture buffer; or firmware structures, whether the system
area holds a current copy. -/
inductive MemContent where
  | clean
  | writeData
  | dirty (exts : List (Nat × Nat × Nat))
  | readData
  | context (nsid zone : Nat)
  | ring (slot : Nat)
  | capture (unit : Fin 2)
  | firmware (current : Bool)
  deriving DecidableEq, Repr

/-- A memory error as a client's read meets it: the address, the symbols or bits in error (0xFF: uncorrectable), the client
(MEM_x_INFO.CLIENT), and what the word or line holds. -/
structure MemErr where
  addr : Nat
  nsym : Nat
  client : Nat
  content : MemContent
  deriving DecidableEq, Repr

/-- A write of a Locking table row (R186): the columns it sets. -/
structure LockSet where
  nsid : Option Nat
  lo : Option Nat
  len : Option Nat
  rle : Option Bool
  wle : Option Bool
  rl : Option Bool
  wl : Option Bool
  deriving DecidableEq, Repr

/-- A method of the TCG subset (R186) as Security Send carries it: an authority is 0 EraseMaster, 1 to 65 BandMaster0 to
BandMaster64; a Locking row is 0 to 63 the global range of NSID row + 1, 64 to 127 key band row − 63. -/
inductive TcgMethod where
  | properties
  | startSession (sp : Fin 2)
  | syncSession
  | closeSession
  | authenticate (auth : Fin 66) (pin : List Byte)
  | getRow (row : Fin 128)
  | setRow (row : Fin 128) (v : LockSet)
  | setPin (auth : Fin 66) (pin : List Byte)
  | erase (row : Fin 128)
  | random (n : Nat)
  deriving DecidableEq, Repr

/-- A chain frame between its control characters (R525): the fields of its header, its payload, and the CRC word that follows it. -/
structure Frame where
  dst : Nat
  src : Nat
  ty : Nat
  flags : Nat
  tag : Nat
  len : Nat
  payload : List Byte
  crc : Nat
  deriving DecidableEq, Repr
/-- The conditions a start-up meets (R583): the DRAM subchannels that fail training (bit s), whether the entropy source passes
its health tests (R189), VMOT in mV at step 9, and what the read-back of a reloaded customer image finds other than written (R264):
words of the customer region by address, and pattern entry k as 0x4000 + k. -/
structure StartUp where
  trainFail : Nat
  drbgOk : Bool
  vmot : Nat
  custBad : List (Nat × Nat)
  deriving DecidableEq, Repr

/-- The JTAG instructions (R628). -/
inductive JtagIr where
  | bypass | idcode | sample | extest | highz | clamp
  deriving DecidableEq, Repr

/-- The commands of the MZ9400: one constructor per row of spec/opcode_table.json. -/
inductive Instr where
  /-- POWER_ON_RESET. -/
  | powerOnReset (env : StartUp) (vddio : Bool)
  /-- CHIP_RESET_PIN. -/
  | chipResetPin (env : StartUp) (low : Nat)
  /-- SYS_RST_CHIP. -/
  | sysRstChip (m : Master) (w : Word)
  /-- CLOCK_LOSS. -/
  | clockLoss
  /-- RAIL_SEQUENCE_VIOLATION. -/
  | railSequenceViolation (rail : Fin 7)
  /-- VDDA_BELOW_RETRACT_MIN. -/
  | vddaBelowRetractMin
  /-- REGISTER_WRITE. -/
  | registerWrite (m : Master) (a : Nat) (w : Word)
  /-- MISALIGNED_ACCESS. -/
  | misalignedAccess (m : Master) (a bytes : Nat) (write : Bool) (v : Nat)
  /-- UNASSIGNED_ACCESS. -/
  | unassignedAccess (m : Master) (a : Nat) (write : Bool)
  /-- BLOCK_BASIC_WRITE. -/
  | blockBasicWrite (m : Master) (a : Nat) (w : Word)
  /-- BLOCK_BASIC_KEEP_WRITE. -/
  | blockBasicKeepWrite (m : Master) (a : Nat) (w : Word)
  /-- EXPERT_REGISTER_WRITE. -/
  | expertRegisterWrite (m : Master) (a : Nat) (w : Word)
  /-- LOCK_SET. -/
  | lockSet (m : Master) (a : Nat) (w : Word)
  /-- COUNTER_CLEAR. -/
  | counterClear (m : Master) (a : Nat) (w : Word)
  /-- FABRIC_CYCLE_ADVANCE. -/
  | fabricCycleAdvance
  /-- ATB_SPAN_END. -/
  | atbSpanEnd
  /-- HOLDOVER_EXPIRY. -/
  | holdoverExpiry
  /-- PIER_DETECTION. -/
  | pierDetection (n : Fin 4) (instant : Nat) (idx : Option Nat) (head cyl : Nat)
  /-- ATB_CTRL_FREE. -/
  | atbCtrlFree (m : Master)
  /-- ATB_CTRL_ACQ. -/
  | atbCtrlAcq (m : Master)
  /-- DISAGREE_CLEAR. -/
  | disagreeClear (m : Master) (mask : BitVec 4)
  /-- ATB_PIERS_WRITE. -/
  | atbPiersWrite (m : Master) (w : Word)
  /-- ATB_OFFSET_TABLE_WRITE. -/
  | atbOffsetTableWrite (m : Master) (a : Nat) (w : Word)
  /-- ATB_SYNC_OFF_WRITE. -/
  | atbSyncOffWrite (m : Master) (w : Word)
  /-- ATB_ANGLE_READ. -/
  | atbAngleRead (m : Master)
  /-- TRIGGER_CTRL_WRITE. -/
  | triggerCtrlWrite (m : Master) (n : Fin 5) (i : Nat) (w : Word)
  /-- TRIGGER_ANGLE_WRITE. -/
  | triggerAngleWrite (m : Master) (n : Fin 5) (i : Nat) (w : Word)
  /-- TRIGGER_FIRE. -/
  | triggerFire (n : Fin 5) (i : Nat)
  /-- GPIO_PULSE_END. -/
  | gpioPulseEnd (pin : Nat)
  /-- VSYNC_EMIT. -/
  | vsyncEmit
  /-- SQ_TAIL_DOORBELL. -/
  | sqTailDoorbell (m : Fin 2) (off : Nat) (acc : BarAccess)
  /-- CQ_HEAD_DOORBELL. -/
  | cqHeadDoorbell (m : Fin 2) (off : Nat) (acc : BarAccess)
  /-- COMMAND_FETCH. -/
  | commandFetch (m : Fin 2) (qid : Nat) (e : Sqe)
  /-- RLT_ADMISSION. -/
  | rltAdmission (ranges : List (Nat × Nat))
  /-- LOCK_GRANT. -/
  | lockGrant (arr : Nat)
  /-- ZONE_TAIL_GRANT. -/
  | zoneTailGrant (arr : Nat) (band : Option (Nat × Nat × Nat))
  /-- DATA_STORED. -/
  | dataStored (arr : Nat) (posts : List PostReq)
  /-- DIRTY_LIMIT_RESUME. -/
  | dirtyLimitResume (arr : Nat)
  /-- COMPLETION_POST. -/
  | completionPost (arr : Nat)
  /-- MSIX_UNMASK. -/
  | msixUnmask (m : Fin 2) (off : Nat) (acc : BarAccess)
  /-- COALESCE_TIMER_EXPIRY. -/
  | coalesceTimerExpiry (m : Fin 2) (v : Nat)
  /-- CC_ENABLE. -/
  | ccEnable (m : Fin 2) (css mps ams iosqes iocqes asqs acqs asq acq : Nat)
  /-- CONTROLLER_RESET. -/
  | controllerReset (m : Fin 2)
  /-- NORMAL_SHUTDOWN. -/
  | normalShutdown (m : Fin 2)
  /-- SHUTDOWN_COMPLETE. -/
  | shutdownComplete (m : Fin 2)
  /-- ABRUPT_SHUTDOWN. -/
  | abruptShutdown (m : Fin 2)
  /-- FUNCTION_LEVEL_RESET. -/
  | functionLevelReset (m : Fin 2)
  /-- PERST_ASSERT. -/
  | perstAssert (m : Fin 2) (held : Nat)
  /-- PCIE_LINK_DOWN. -/
  | pcieLinkDown (m : Fin 2)
  /-- PCIE_LINK_CHANGE. -/
  | pcieLinkChange (m : Fin 2) (pstate rate width : Nat) (reversed recov : Bool)
  /-- PCIE_ERROR_LOGGED. -/
  | pcieErrorLogged (m : Fin 2) (kind : Fin 3) (header : Nat) (arr : Option Nat)
  /-- D_STATE_CHANGE. -/
  | dStateChange (m : Fin 2) (d3 : Bool)
  /-- CREATE_IO_SQ. -/
  | createIoSq (arr : Nat)
  /-- CREATE_IO_CQ. -/
  | createIoCq (arr : Nat)
  /-- DELETE_IO_SQ. -/
  | deleteIoSq (arr : Nat)
  /-- DELETE_IO_CQ. -/
  | deleteIoCq (arr : Nat)
  /-- IDENTIFY. -/
  | identify (arr : Nat)
  /-- ABORT. -/
  | abort (arr : Nat)
  /-- GET_LOG_PAGE. -/
  | getLogPage (arr : Nat)
  /-- GET_FEATURES. -/
  | getFeatures (arr : Nat)
  /-- SET_FEATURES. -/
  | setFeatures (arr : Nat) (data : List Byte)
  /-- SET_FEATURES_ARBITRATION. -/
  | setFeaturesArbitration (arr : Nat)
  /-- SET_FEATURES_POWER_MANAGEMENT. -/
  | setFeaturesPowerManagement (arr : Nat)
  /-- SET_FEATURES_ERROR_RECOVERY. -/
  | setFeaturesErrorRecovery (arr : Nat)
  /-- SET_FEATURES_VOLATILE_WRITE_CACHE. -/
  | setFeaturesVolatileWriteCache (arr : Nat)
  /-- SET_FEATURES_NUMBER_OF_QUEUES. -/
  | setFeaturesNumberOfQueues (arr : Nat)
  /-- SET_FEATURES_INTERRUPT_COALESCING. -/
  | setFeaturesInterruptCoalescing (arr : Nat)
  /-- SET_FEATURES_MODE_PROFILE. -/
  | setFeaturesModeProfile (arr : Nat)
  /-- ASYNC_EVENT_REQUEST. -/
  | asyncEventRequest (arr : Nat)
  /-- NAMESPACE_CREATE. -/
  | namespaceCreate (arr : Nat) (data : List (Nat × Byte))
  /-- NAMESPACE_DELETE. -/
  | namespaceDelete (arr : Nat)
  /-- NAMESPACE_ATTACH. -/
  | namespaceAttach (arr : Nat) (l : List Nat)
  /-- NAMESPACE_DETACH. -/
  | namespaceDetach (arr : Nat) (l : List Nat)
  /-- FIRMWARE_IMAGE_DOWNLOAD. -/
  | firmwareImageDownload (arr : Nat) (data : List Byte)
  /-- FIRMWARE_COMMIT_STORE. -/
  | firmwareCommitStore (arr : Nat) (slotOk : Bool)
  /-- FIRMWARE_COMMIT_STORE_ACTIVATE. -/
  | firmwareCommitStoreActivate (arr : Nat) (slotOk recOk : Bool)
  /-- FIRMWARE_COMMIT_ACTIVATE. -/
  | firmwareCommitActivate (arr : Nat) (recOk : Bool)
  /-- DIRECTIVE_SEND. -/
  | directiveSend (arr : Nat)
  /-- DIRECTIVE_RECEIVE. -/
  | directiveReceive (arr : Nat)
  /-- FORMAT_NVM. -/
  | formatNvm (arr : Nat)
  /-- SECURITY_SEND. -/
  | securitySend (arr : Nat) (m : TcgMethod)
  /-- SECURITY_RECEIVE. -/
  | securityReceive (arr : Nat)
  /-- SANITIZE. -/
  | sanitize (arr : Nat)
  /-- REGISTER_ACCESS_READ. -/
  | registerAccessRead (arr : Nat)
  /-- REGISTER_ACCESS_WRITE. -/
  | registerAccessWrite (arr : Nat)
  /-- OWNERSHIP_CLAIM. -/
  | ownershipClaim (arr : Nat) (data : List Byte)
  /-- OWNERSHIP_HANDOVER. -/
  | ownershipHandover (arr : Nat) (data : List Byte)
  /-- OWNERSHIP_ACCEPT. -/
  | ownershipAccept (arr : Nat) (data : List Byte)
  /-- OWNERSHIP_RELEASE. -/
  | ownershipRelease (arr : Nat) (data : List Byte)
  /-- CAPTURE_CONFIGURE_AND_START. -/
  | captureConfigureAndStart (arr : Nat)
  /-- CAPTURE_READ. -/
  | captureRead (arr : Nat) (errs : List MemErr)
  /-- CAPTURE_STOP. -/
  | captureStop (arr : Nat)
  /-- CAPTURE_STATUS. -/
  | captureStatus (arr : Nat)
  /-- CUSTOMER_MICROCODE_LOAD. -/
  | customerMicrocodeLoad (arr : Nat) (img : CsImage) (wrong : List (Nat × Nat)) (flashOk : Bool)
  /-- OTP_PROGRAM_CONFIG_RECORD. -/
  | otpProgramConfigRecord (arr : Nat) (data : List Byte) (ok : Bool)
  /-- OTP_PROGRAM_DPI_KEY. -/
  | otpProgramDpiKey (arr : Nat) (data : List Byte) (ok : Bool)
  /-- OTP_REVOKE_DPI_KEY. -/
  | otpRevokeDpiKey (arr : Nat) (ok : Bool)
  /-- OTP_REVOKE_ROOT_KEY. -/
  | otpRevokeRootKey (arr : Nat) (ok : Bool)
  /-- OTP_RAISE_FW_SVN. -/
  | otpRaiseFwSvn (arr : Nat) (ok : Bool)
  /-- OTP_RAISE_DPI_SVN. -/
  | otpRaiseDpiSvn (arr : Nat) (ok : Bool)
  /-- EVR_READ_CONFIGURATION. -/
  | evrReadConfiguration (arr : Nat)
  /-- EVR_SET_LINE. -/
  | evrSetLine (arr : Nat)
  /-- EVR_WRITE_LIST. -/
  | evrWriteList (arr : Nat) (data : List Word)
  /-- EVR_SET_CONFIGURATION. -/
  | evrSetConfiguration (arr : Nat)
  /-- EVR_CLEAR. -/
  | evrClear (arr : Nat)
  /-- EVR_UNFREEZE. -/
  | evrUnfreeze (arr : Nat)
  /-- EVR_POST_MARKER. -/
  | evrPostMarker (arr : Nat) (data : List Byte)
  /-- DPI_LOAD. -/
  | dpiLoad (arr : Nat) (d : DpiImage) (slotOk recOk : Bool)
  /-- DPI_ACTIVATE_OTHER. -/
  | dpiActivateOther (arr : Nat) (recOk : Bool)
  /-- FLUSH. -/
  | flush (arr : Nat)
  /-- WRITE. -/
  | write (arr : Nat) (data : Option (List (List Byte))) (pays : List (List Byte)) (merr : List MemErr)
  /-- READ. -/
  | read (arr : Nat) (posts : List PostReq) (seen : List (Nat × Nat × List Byte)) (merr : List MemErr)
  /-- DATASET_MANAGEMENT. -/
  | datasetManagement (arr : Nat)
  /-- WRITE_ZEROES. -/
  | writeZeroes (arr : Nat) (pays : List (List Byte))
  /-- RESERVATION_REGISTER. -/
  | reservationRegister (arr crkey nrkey : Nat)
  /-- RESERVATION_REPORT. -/
  | reservationReport (arr : Nat)
  /-- RESERVATION_ACQUIRE. -/
  | reservationAcquire (arr crkey prkey : Nat)
  /-- RESERVATION_RELEASE. -/
  | reservationRelease (arr crkey : Nat)
  /-- ZONE_APPEND. -/
  | zoneAppend (arr : Nat) (data : Option (List (List Byte))) (pays : List (List Byte)) (merr : List MemErr)
  /-- ZONE_MANAGEMENT_RECEIVE. -/
  | zoneManagementReceive (arr : Nat)
  /-- ZONE_CLOSE. -/
  | zoneClose (arr : Nat)
  /-- ZONE_FINISH. -/
  | zoneFinish (arr : Nat)
  /-- ZONE_OPEN. -/
  | zoneOpen (arr : Nat)
  /-- ZONE_RESET. -/
  | zoneReset (arr : Nat)
  /-- ZONE_OFFLINE. -/
  | zoneOffline (arr : Nat)
  /-- SET_ZONE_DESCRIPTOR_EXTENSION. -/
  | setZoneDescriptorExtension (arr : Nat)
  /-- RECORD_PERSIST. -/
  | recordPersist (posts : List PostReq)
  /-- XTS_GENERATE. -/
  | xtsGenerate (m : Master) (slot : Fin 128) (auth : Fin 128)
  /-- XTS_LOAD. -/
  | xtsLoad (m : Master) (slot : Fin 128) (auth : Fin 128)
  /-- XTS_CLEAR. -/
  | xtsClear (m : Master) (slot : Fin 128) (auth : Fin 128)
  /-- XTS_REWRAP. -/
  | xtsRewrap (m : Master) (slot : Fin 128) (auth : Fin 128)
  /-- XTS_OPERATION_DONE. -/
  | xtsOperationDone
  /-- DRBG_HEALTH_RETEST. -/
  | drbgHealthRetest (ok : Bool)
  /-- INTAKE_ACCEPT. -/
  | intakeAccept (r : Fin 6)
  /-- OPERATION_SELECT. -/
  | operationSelect (n : Fin 4)
  /-- LEASE_EXPIRY. -/
  | leaseExpiry
  /-- LEASE_REVOKE. -/
  | leaseRevoke (n : Fin 4)
  /-- TRS_DESCRIPTOR_ACCEPT. -/
  | trsDescriptorAccept (n : Fin 4)
  /-- OPERATION_OUTCOME. -/
  | operationOutcome (n : Fin 4) (posts : List PostReq) (rdBad : Bool)
  /-- ABORT_PENDING_TIMEOUT. -/
  | abortPendingTimeout (n : Fin 4)
  /-- FORCED_STOP_TIMEOUT. -/
  | forcedStopTimeout (n : Fin 4)
  /-- MOVE_LIST_ENTRY. -/
  | moveListEntry
  /-- DESTAGE_ROUTE_CHECK. -/
  | destageRouteCheck
  /-- MARGIN_CAP_EVAL. -/
  | marginCapEval
  /-- DESTAGE_ESTIMATE_UPDATE. -/
  | destageEstimateUpdate (exts : List (Nat × Nat × Nat))
  /-- WORD_RELEASE. -/
  | wordRelease (n : Fin 4)
  /-- TRS_CTRL_STOP. -/
  | trsCtrlStop (m : Master) (n : Fin 4)
  /-- TRS_CTRL_ABORT. -/
  | trsCtrlAbort (m : Master) (n : Fin 4)
  /-- TRS_CTRL_CLR. -/
  | trsCtrlClr (m : Master) (n : Fin 4)
  /-- TRS_CTRL_HOLD. -/
  | trsCtrlHold (m : Master) (n : Fin 4) (v : Bool)
  /-- TRS_CTRL_STEP. -/
  | trsCtrlStep (m : Master) (n : Fin 4)
  /-- CONTROL_STORE_HOLDING_WRITE. -/
  | controlStoreHoldingWrite (m : Master) (w : Fin 16384) (part : Fin 4) (v : Word)
  /-- CONTROL_STORE_COMMIT. -/
  | controlStoreCommit (m : Master) (w : Fin 16384) (v : Word)
  /-- SM1_ACCEPT. -/
  | sm1Accept (n : Fin 4) (e : Int) (bits : Word)
  /-- SM2_CHECK. -/
  | sm2Check (n : Fin 4) (found : Option (Int × Word))
  /-- SYNC_WINDOW_CLOSE. -/
  | syncWindowClose (n : Fin 4) (vals : Samples)
  /-- CODEWORD_ARRIVAL. -/
  | codewordArrival (n : Fin 4) (vals : Samples)
  /-- DECODE_COMPLETE. -/
  | decodeComplete (n : Fin 4) (u iters : Nat) (payload parity : List Byte)
  /-- REDECODE_START. -/
  | redecodeStart (n : Fin 4)
  /-- SERVO_WINDOW_BEGIN. -/
  | servoWindowBegin (n : Fin 4)
  /-- SERVO_WINDOW_END. -/
  | servoWindowEnd (n : Fin 4)
  /-- BUFFER_UNDERRUN. -/
  | bufferUnderrun (n : Fin 4)
  /-- RWC_SVWIN_WRITE. -/
  | rwcSvwinWrite (m : Master) (n : Fin 4) (w : Word)
  /-- PREAMP_COMMAND_SEND. -/
  | preampCommandSend (n : Fin 4)
  /-- PREAMP_FRAME_ACK. -/
  | preampFrameAck (n : Fin 4) (rdata : BitVec 16)
  /-- ESCAPE_DETECT. -/
  | escapeDetect (n : Fin 4)
  /-- SHOCK_COMPARATOR_CHANGE. -/
  | shockComparatorChange (rot : Bool) (level held : Nat)
  /-- SHOCK_HOLD_EXPIRY. -/
  | shockHoldExpiry
  /-- MEMS_READ. -/
  | memsRead (x0 x1 y0 y1 z0 z1 : Byte)
  /-- SHOCK_INPUT_STUCK. -/
  | shockInputStuck (which : Fin 3)
  /-- PIF_SHK_ACK_WRITE. -/
  | pifShkAckWrite (m : Master) (ack : BitVec 2)
  /-- PREAMP_FAULT_LINE. -/
  | preampFaultLine (n : Fin 4) (held : Nat)
  /-- PA_FORCE_WRITE. -/
  | paForceWrite (m : Master) (n : Fin 4) (v : Bool)
  /-- ASSIST_OVERON. -/
  | assistOveron (n : Fin 4)
  /-- INHIBIT_CLEAR_REPOST. -/
  | inhibitClearRepost (k : Nat) (ring : Fin 6)
  /-- WRITE_INHIBITED_TIMEOUT. -/
  | writeInhibitedTimeout (k : Nat)
  /-- SAM_DETECT. -/
  | samDetect (n : Fin 4) (instant : Nat) (bits : BitVec 16) (bn bq : Int) (idxWord : BitVec 12) (gray : BitVec 24)
  /-- SAMPLE_PUBLISH. -/
  | samplePublish (n : Fin 4)
  /-- ENGINE_DELIVERY. -/
  | engineDelivery (n : Fin 4) (e : Fin 2) (dv dm : Int) (dsig : Word) (flag : Bool) (ecc : Nat)
  /-- OUTPUT_DEADLINE. -/
  | outputDeadline (n : Fin 4)
  /-- KEYSTONE_EXPIRY. -/
  | keystoneExpiry (n : Fin 4)
  /-- SWITCHOVER_INHIBIT_RELEASE. -/
  | switchoverInhibitRelease (n : Fin 4)
  /-- RESYNC_PARAMETER_COPY_DONE. -/
  | resyncParameterCopyDone (n : Fin 4) (e : Fin 2)
  /-- PLANNED_SWAP_SCHEDULE. -/
  | plannedSwapSchedule (n : Fin 4)
  /-- SRF_CTRL_SWAP. -/
  | srfCtrlSwap (m : Master) (n : Fin 4)
  /-- SRF_CTRL_FENCE. -/
  | srfCtrlFence (m : Master) (n : Fin 4) (e : Fin 2)
  /-- SRF_CTRL_RESYNC. -/
  | srfCtrlResync (m : Master) (n : Fin 4) (e : Fin 2)
  /-- SRF_CTRL_CORRUPT. -/
  | srfCtrlCorrupt (m : Master) (n : Fin 4) (e : Fin 2)
  /-- SCE_CTRL_LOAD. -/
  | sceCtrlLoad (m : Master) (e : Fin 8)
  /-- SCE_CTRL_UNLOAD. -/
  | sceCtrlUnload (m : Master) (e : Fin 8)
  /-- SCE_CTRL_FORCE_RED. -/
  | sceCtrlForceRed (m : Master) (e : Fin 8)
  /-- SCE_CTRL_RESUME. -/
  | sceCtrlResume (m : Master) (e : Fin 8)
  /-- SCE_CTRL_APPLY. -/
  | sceCtrlApply (m : Master) (e : Fin 8)
  /-- SCE_PAIR_REGISTER_WRITE. -/
  | scePairRegisterWrite (m : Master) (a : Nat) (w : Word)
  /-- RAMP_LOAD_TIMEOUT. -/
  | rampLoadTimeout (n : Fin 4)
  /-- HOLD_RELOCK_TIMEOUT. -/
  | holdRelockTimeout (n : Fin 4)
  /-- INJECTION_END. -/
  | injectionEnd (n : Fin 4)
  /-- CAPTURE_ARM. -/
  | captureArm (m : Master) (u : Fin 2)
  /-- CAPTURE_CTRL_STOP. -/
  | captureCtrlStop (m : Master) (u : Fin 2)
  /-- BRIDGE_SWITCH. -/
  | bridgeSwitch (n : Fin 4) (i : Int)
  /-- VCM_OVERCURRENT_TRIP. -/
  | vcmOvercurrentTrip (n : Fin 4) (i : Int)
  /-- COIL_THERMAL_UPDATE. -/
  | coilThermalUpdate (n : Fin 4) (mean : Int) (rms : Nat) (mv : Int)
  /-- RETRACT_PHASE_END. -/
  | retractPhaseEnd (n : Fin 4)
  /-- SMC_CTRL_START. -/
  | smcCtrlStart (m : Master)
  /-- SMC_CTRL_STOP. -/
  | smcCtrlStop (m : Master)
  /-- SMC_SETPT_WRITE. -/
  | smcSetptWrite (m : Master) (w : Word)
  /-- DETECT_COMPLETE. -/
  | detectComplete (p0 p1 p2 p3 p4 p5 : Nat)
  /-- ALIGN_END. -/
  | alignEnd
  /-- OPEN_LOOP_STEP. -/
  | openLoopStep
  /-- BEMF_CROSSING. -/
  | bemfCrossing (kind : Fin 6) (edge held : Nat)
  /-- COMMUTATION. -/
  | commutation
  /-- START_BOUND_EXPIRY. -/
  | startBoundExpiry
  /-- STANDSTILL_DETECT. -/
  | standstillDetect
  /-- CATCH_TIMEOUT. -/
  | catchTimeout
  /-- SPEED_LOOP_RUN. -/
  | speedLoopRun (obsTheta : BitVec 32) (obsSpeed obsEmf : Nat) (ibr : BitVec 16)
  /-- SPINDLE_OVERCURRENT_TRIP. -/
  | spindleOvercurrentTrip (i : Nat)
  /-- SPREF_SAMPLE. -/
  | sprefSample (code : BitVec 12)
  /-- CHOPPER_GATE_ON. -/
  | chopperGateOn (mv held : Nat)
  /-- CHOPPER_GATE_OFF. -/
  | chopperGateOff (mv held : Nat)
  /-- CHOPPER_FAULT. -/
  | chopperFault (mv brki : Nat)
  /-- VMOT_OVERVOLTAGE. -/
  | vmotOvervoltage (mv held : Nat)
  /-- OVP_SHORT_BRAKE_RETRY. -/
  | ovpShortBrakeRetry (mv held : Nat)
  /-- VMOT_POWER_LOSS. -/
  | vmotPowerLoss (mv held : Nat)
  /-- VMOT_RESTORE. -/
  | vmotRestore (mv : Nat)
  /-- VMOT_RESTART_COUNT. -/
  | vmotRestartCount
  /-- IDLE_SEAL. -/
  | idleSeal (nsid zone : Nat)
  /-- SCRUB_READ. -/
  | scrubRead (dram : Bool) (nsym : Fin 256) (content : MemContent) (client : Option Bool)
  /-- DRAM_REFRESH. -/
  | dramRefresh (sub : Fin 4) (deg : Int)
  /-- RMT_ENTRY_WRITE. -/
  | rmtEntryWrite (m : Master) (dram : Bool) (i : Fin 32) (w : Word)
  /-- RMT_COPY_DONE. -/
  | rmtCopyDone (dram : Bool) (i : Fin 32)
  /-- FMR_ARM. -/
  | fmrArm (m : Master) (w : Word)
  /-- RECOVERY_BOUND_REACHED. -/
  | recoveryBoundReached (k : Nat)
  /-- BACKGROUND_SCAN_POST. -/
  | backgroundScanPost (ring : Fin 6) (d : OpDesc) (ext : Option (Nat × Nat × Nat))
  /-- FAULT_HANDLER_TIMEOUT. -/
  | faultHandlerTimeout
  /-- FAULT_STOP_RESET_REQUEST. -/
  | faultStopResetRequest
  /-- EVR_RECORD_WRITE. -/
  | evrRecordWrite
  /-- EVR_MIRROR_COPY. -/
  | evrMirrorCopy (slot : Nat) (posts : List PostReq)
  /-- EVR_POST. -/
  | evrPost (m : Master) (w : Word)
  /-- EVR_CTRL_CLEAR. -/
  | evrCtrlClear (m : Master) (w : Word)
  /-- EVR_CTRL_UNFREEZE. -/
  | evrCtrlUnfreeze (m : Master) (w : Word)
  /-- EVR_LIST_WRITE. -/
  | evrListWrite (m : Master) (l : Fin 8) (k : Fin 48) (w : Word)
  /-- CHAIN_LINK_UP. -/
  | chainLinkUp (up : Bool) (idles : Nat) (present : Bool)
  /-- CHAIN_LINK_DOWN. -/
  | chainLinkDown (up : Bool) (violations silent : Nat) (present : Bool)
  /-- HEAD_TIMER_EXPIRY. -/
  | headTimerExpiry
  /-- ENUM_FRAME. -/
  | enumFrame (up : Bool) (f : Frame)
  /-- ENUM_END_FRAME. -/
  | enumEndFrame (up : Bool) (f : Frame)
  /-- PROBE_FRAME. -/
  | probeFrame (up : Bool) (f : Frame)
  /-- ECHO_FRAME. -/
  | echoFrame (up : Bool) (f : Frame)
  /-- TIME_FRAME. -/
  | timeFrame (up : Bool) (f : Frame)
  /-- ATTACH_FRAME. -/
  | attachFrame (up : Bool) (f : Frame)
  /-- DETACH_FRAME. -/
  | detachFrame (up : Bool) (f : Frame)
  /-- REG_READ_FRAME. -/
  | regReadFrame (up : Bool) (f : Frame)
  /-- REG_WRITE_FRAME. -/
  | regWriteFrame (up : Bool) (f : Frame)
  /-- OWN_FRAME. -/
  | ownFrame (up : Bool) (f : Frame)
  /-- RESPONSE_FRAME. -/
  | responseFrame (up : Bool) (f : Frame)
  /-- PROBE_TIMER. -/
  | probeTimer
  /-- ECHO_TIMEOUT. -/
  | echoTimeout
  /-- ENUM_SEND. -/
  | enumSend
  /-- ATTACH_SEND. -/
  | attachSend
  /-- VCH_CTRL_ENUM. -/
  | vchCtrlEnum (m : Master)
  /-- VCH_CTRL_PROBE. -/
  | vchCtrlProbe (m : Master)
  /-- VSYNC_RECEIVE. -/
  | vsyncReceive
  /-- VSYNC_FORWARD. -/
  | vsyncForward
  /-- VSYNC_WINDOW_CLOSE. -/
  | vsyncWindowClose
  /-- TIME_SEND. -/
  | timeSend
  /-- HANDOVER_TIMEOUT. -/
  | handoverTimeout
  /-- GRACE_EXPIRY. -/
  | graceExpiry
  /-- SMBUS_OWNER_TIMEOUT. -/
  | smbusOwnerTimeout
  /-- BAR2_OWN_ACTION. -/
  | bar2OwnAction (m : Fin 2) (off : Nat) (acc : BarAccess)
  /-- SMBUS_BASIC_MANAGEMENT_READ. -/
  | smbusBasicManagementRead
  /-- MCTP_SET_ENDPOINT_ID. -/
  | mctpSetEndpointId (eid : Fin 256)
  /-- MCTP_GET_ENDPOINT_ID. -/
  | mctpGetEndpointId
  /-- MCTP_GET_VERSION_SUPPORT. -/
  | mctpGetVersionSupport
  /-- MCTP_GET_MESSAGE_TYPE_SUPPORT. -/
  | mctpGetMessageTypeSupport
  /-- MI_READ_DATA_STRUCTURE. -/
  | miReadDataStructure (len : Nat)
  /-- MI_SUBSYSTEM_HEALTH_POLL. -/
  | miSubsystemHealthPoll
  /-- MI_CONTROLLER_HEALTH_POLL. -/
  | miControllerHealthPoll
  /-- MI_CONFIGURATION_GET. -/
  | miConfigurationGet (id : Fin 256)
  /-- MI_CONFIGURATION_SET. -/
  | miConfigurationSet (id : Fin 256) (v : Nat)
  /-- MI_VPD_READ. -/
  | miVpdRead (len : Nat)
  /-- MI_GET_STATE. -/
  | miGetState
  /-- MI_ABORT. -/
  | miAbort
  /-- MI_TUNNELLED_ADMIN. -/
  | miTunnelledAdmin (e : Sqe)
  /-- SMBUS_BUS_TIMEOUT. -/
  | smbusBusTimeout
  /-- PMU_TICK. -/
  | pmuTick (rails : List (Nat × Nat)) (d0 d1 d2 d3 d4 d5 : Option Int) (vmot vdda : Nat)
  /-- DIODE_CONVERSION. -/
  | diodeConversion (k : Fin 4) (v : Option Int)
  /-- POWER_STATE_TRANSITION. -/
  | powerStateTransition
  /-- PS4_WAKE. -/
  | ps4Wake
  /-- SELF_REFRESH_RETURN. -/
  | selfRefreshReturn
  /-- ACTUATOR_RESTORE. -/
  | actuatorRestore (n : Fin 4)
  /-- OUT_RESTORE_ATTEMPT. -/
  | outRestoreAttempt (n : Fin 4)
  /-- ACTUATOR_LOAD. -/
  | actuatorLoad (n : Fin 4)
  /-- FIRST_LOADS. -/
  | firstLoads
  /-- MEDIA_NOT_READY_TIMEOUT. -/
  | mediaNotReadyTimeout (arr : Nat)
  /-- START_UP_MEDIA_FAILURE. -/
  | startUpMediaFailure
  /-- SYSTEM_AREA_READ_RETRY. -/
  | systemAreaReadRetry (ok : Bool)
  /-- PMU_PSTATE_REQ_WRITE. -/
  | pmuPstateReqWrite (m : Master) (w : Word)
  /-- GPIO_INPUT_CHANGE. -/
  | gpioInputChange (pin : Fin 32) (level : Bool) (held : Nat)
  /-- UART_RX_CHARACTER. -/
  | uartRxCharacter (ch : Byte) (framed : Bool)
  /-- JTAG_BYPASS. -/
  | jtagBypass
  /-- JTAG_IDCODE. -/
  | jtagIdcode
  /-- JTAG_SAMPLE_PRELOAD. -/
  | jtagSamplePreload (pins shift : Nat)
  /-- JTAG_EXTEST. -/
  | jtagExtest (pins shift : Nat)
  /-- JTAG_HIGHZ. -/
  | jtagHighz
  /-- JTAG_CLAMP. -/
  | jtagClamp
  /-- HQE_ARRIVAL_READ. -/
  | hqeArrivalRead (m : Master)
  /-- SVD_POS_READ. -/
  | svdPosRead (m : Master) (n : Fin 4)
  /-- VCH_TREF_READ. -/
  | vchTrefRead (m : Master)
  /-- PERST_DEASSERT. -/
  | perstDeassert (m : Fin 2) (held : Nat)
  /-- REFERENCE_CLOCK_RESTORE. -/
  | referenceClockRestore (env : StartUp)
  /-- OPEN_LOOP_BOUND_EXPIRY. -/
  | openLoopBoundExpiry
  /-- PREAMP_FAULT_LINE_INACTIVE. -/
  | preampFaultLineInactive (n : Fin 4) (held : Nat)
  /-- VMOT_LOSS_RUN_TIMEOUT. -/
  | vmotLossRunTimeout
  /-- CACHE_DESTAGE_POST. -/
  | cacheDestagePost (r : Fin 6) (d : OpDesc) (nsid slba nlb : Nat)
  /-- ENTROPY_HEALTH_TEST_FAIL. -/
  | entropyHealthTestFail
  /-- PS1_CHOICE_HOLDOFF_END. -/
  | ps1ChoiceHoldoffEnd (k : Fin 2)
  /-- PCIE_CONFIG_WRITE. -/
  | pcieConfigWrite (m : Fin 2) (acc : CfgAccess)
  deriving DecidableEq, Repr

end Sys2Proof
end

