-- ==== Sys2Proof/WellFormed.lean ====
section
/-!
DEFINITION. Sys2Proof/WellFormed.lean: the commands that the outside can send: operands within the fields that carry them.
-/
namespace Sys2Proof

/-- A submission queue entry whose fields fit (R94). -/
def Sqe.wf (q : Sqe) : Bool := decide (q.opc < 256) && decide (q.cid < 2 ^ 16) && decide (q.nsid < 2 ^ 32)

/-- The frame types of R525. -/
def frameTypes : List Nat := [1, 2, 3, 4, 5, 6, 7, 0x10, 0x11, 0x12, 0x13]

/-- A frame whose fields fit, of the row's type, or of a reserved one (R525, R526). -/
def Frame.wf (f : Frame) (ty : Nat) : Bool :=
  (decide (f.ty = ty) || ! frameTypes.contains f.ty) && decide (f.dst < 256) && decide (f.src < 256) && decide (f.ty < 256) &&
    decide (f.flags < 256) && decide (f.tag < 2 ^ 16) && decide (f.len < 2 ^ 16) && decide (f.payload.length < 2 ^ 16) && decide (f.crc < 2 ^ 32)

/-- A descriptor whose fields fit (R198). -/
def OpDesc.wf (d : OpDesc) : Bool :=
  decide (d.slot < 2 ^ 16) && [d.kind, d.flags, d.head, d.rz, d.entry, d.prio].all (fun x => decide (x < 256)) &&
    [d.cyl, d.band, d.start, d.endA].all (fun x => decide (x < 2 ^ 32)) &&
    [d.first, d.count, d.buf, d.defect].all (fun x => decide (x < 2 ^ 16))

/-- A word of a host access fits its 32 bits. -/
def BarAccess.wf : BarAccess → Bool
  | .read => true
  | .write w => decide (w < 2 ^ 32)

/-- The fields of a configuration access fit. -/
def CfgAccess.wf : CfgAccess → Bool
  | .control _ _ _ => true
  | .device mps mrrs => decide (mps < 8) && decide (mrrs < 8)
  | .link _ _ => true
  | .aerClear => true
  | .read off => decide (off < 4096) && decide (off % 4 = 0)

/-- A memory error lies within the address space. -/
def MemErr.wf (e : MemErr) : Bool := decide (e.addr < 2 ^ 64) && decide (e.nsym < 256)

/-- Whether a command's operands are within the fields that carry them; a row whose operands' types say so by themselves has
nothing to check. -/
def Instr.wf : Instr → Bool
  | .powerOnReset env _ =>
    decide (env.trainFail < 16)
  | .chipResetPin env _ =>
    decide (env.trainFail < 16)
  | .registerWrite _ a _ =>
    decide (a < 2 ^ 32) && decide (a % 4 = 0)
  | .misalignedAccess _ a bytes _ v =>
    decide (a < 2 ^ 32) && decide (1 ≤ bytes) && decide (bytes ≤ 8) && (decide (a % 4 ≠ 0) || decide (bytes ≠ 4)) &&
      decide (v < 2 ^ (8 * bytes))
  | .unassignedAccess _ a _ =>
    decide (a < 2 ^ 32) && decide (a % 4 = 0)
  | .blockBasicWrite _ a _ =>
    decide (a < 2 ^ 32) && decide (a % 4 = 0)
  | .blockBasicKeepWrite _ a _ =>
    decide (a < 2 ^ 32) && decide (a % 4 = 0)
  | .expertRegisterWrite _ a _ =>
    decide (a < 2 ^ 32) && decide (a % 4 = 0)
  | .lockSet _ a _ =>
    decide (a < 2 ^ 32) && decide (a % 4 = 0)
  | .counterClear _ a _ =>
    decide (a < 2 ^ 32) && decide (a % 4 = 0)
  | .pierDetection _ _ idx head cyl =>
    decide (head < 40) && decide (cyl < 2 ^ 24) && (match idx with | some x => decide (x < 1024) | none => true)
  | .atbOffsetTableWrite _ a _ =>
    decide (a < 2 ^ 32) && decide (a % 4 = 0)
  | .triggerCtrlWrite _ n i _ =>
    decide (i < (if n.val < 4 then 64 else 32))
  | .triggerAngleWrite _ n i _ =>
    decide (i < (if n.val < 4 then 64 else 32))
  | .triggerFire n i =>
    decide (i < (if n.val < 4 then 64 else 32))
  | .gpioPulseEnd pin =>
    decide (pin < 32)
  | .sqTailDoorbell _ off acc =>
    decide (off < 2 ^ 18) && acc.wf
  | .cqHeadDoorbell _ off acc =>
    decide (off < 2 ^ 18) && acc.wf
  | .commandFetch _ qid e =>
    decide (qid < 2 ^ 16) && e.wf
  | .dataStored _ posts =>
    posts.all (fun p => p.d.wf)
  | .msixUnmask _ off acc =>
    decide (off < 2 ^ 18) && acc.wf
  | .coalesceTimerExpiry _ v =>
    decide (v < 2048)
  | .ccEnable _ css mps ams iosqes iocqes asqs acqs asq acq =>
    [css, ams].all (fun x => decide (x < 8)) && [mps, iosqes, iocqes].all (fun x => decide (x < 16)) &&
      [asqs, acqs].all (fun x => decide (x < 4096)) && [asq, acq].all (fun x => decide (x < 2 ^ 64) && decide (x % 4096 = 0))
  | .pcieLinkChange _ pstate rate width _ _ =>
    decide (pstate < 3) && decide (1 ≤ rate) && decide (rate ≤ 5) && [1, 2, 4].contains width
  | .pcieErrorLogged _ _ header _ =>
    decide (header < 2 ^ 128)
  | .setFeatures _ data =>
    decide (data.length ≤ 16)
  | .namespaceCreate _ data =>
    data.all (fun kb => decide (kb.1 < 4096))
  | .namespaceAttach _ l =>
    decide (l.length ≤ 2047) && l.all (fun x => decide (x < 2 ^ 16))
  | .namespaceDetach _ l =>
    decide (l.length ≤ 2047) && l.all (fun x => decide (x < 2 ^ 16))
  | .firmwareImageDownload _ data =>
    decide (data.length < 2 ^ 34)
  | .ownershipClaim _ data =>
    decide (data.length = 16)
  | .ownershipHandover _ data =>
    decide (data.length = 16)
  | .ownershipAccept _ data =>
    decide (data.length = 16)
  | .ownershipRelease _ data =>
    decide (data.length = 16)
  | .captureRead _ errs =>
    errs.all MemErr.wf
  | .customerMicrocodeLoad _ img _ _ =>
    decide (img.bytes.length < 2 ^ 32)
  | .otpProgramConfigRecord _ data _ =>
    decide (data.length = 64)
  | .otpProgramDpiKey _ data _ =>
    decide (data.length = 48)
  | .evrWriteList _ data =>
    decide (data.length = 48)
  | .evrPostMarker _ data =>
    decide (data.length = 24)
  | .dpiLoad _ d _ _ =>
    decide (d.keyHash.length = 48)
  | .write _ data _ merr =>
    merr.all MemErr.wf && (match data with | some l => l.all (fun b => decide (b.length = 4096)) | none => true)
  | .read _ posts seen merr =>
    posts.all (fun p => p.d.wf) && seen.all (fun d => decide (d.2.2.length = 4096)) && merr.all MemErr.wf
  | .reservationRegister _ crkey nrkey =>
    decide (crkey < 2 ^ 64) && decide (nrkey < 2 ^ 64)
  | .reservationAcquire _ crkey prkey =>
    decide (crkey < 2 ^ 64) && decide (prkey < 2 ^ 64)
  | .reservationRelease _ crkey =>
    decide (crkey < 2 ^ 64)
  | .zoneAppend _ data _ merr =>
    merr.all MemErr.wf && (match data with | some l => l.all (fun b => decide (b.length = 4096)) | none => true)
  | .recordPersist posts =>
    posts.all (fun p => p.d.wf)
  | .operationOutcome _ posts _ =>
    posts.all (fun p => p.d.wf)
  | .samDetect _ _ _ bn bq _ _ =>
    decide (bn.natAbs < 2 ^ 15) && decide (bq.natAbs < 2 ^ 15)
  | .scePairRegisterWrite _ a _ =>
    decide (a < 2 ^ 32) && decide (a % 4 = 0)
  | .idleSeal nsid zone =>
    decide (1 ≤ nsid) && decide (nsid ≤ 64) && decide (zone < 2 ^ 20)
  | .backgroundScanPost _ d _ =>
    d.wf
  | .evrMirrorCopy slot posts =>
    decide (slot < 1024) && posts.all (fun p => p.d.wf)
  | .enumFrame _ f =>
    f.wf 1
  | .enumEndFrame _ f =>
    f.wf 2
  | .probeFrame _ f =>
    f.wf 3
  | .echoFrame _ f =>
    f.wf 4
  | .timeFrame _ f =>
    f.wf 5
  | .attachFrame _ f =>
    f.wf 6
  | .detachFrame _ f =>
    f.wf 7
  | .regReadFrame _ f =>
    f.wf 16
  | .regWriteFrame _ f =>
    f.wf 17
  | .ownFrame _ f =>
    f.wf 18
  | .responseFrame _ f =>
    f.wf 19
  | .bar2OwnAction _ off acc =>
    decide (off < 2 ^ 16) && (match acc with | .write w => decide (w < 2 ^ 32) | .read => true)
  | .miReadDataStructure len =>
    decide (len ≤ 4224)
  | .miConfigurationSet _ v =>
    decide (v < 2 ^ 24)
  | .miVpdRead len =>
    decide (len ≤ 4224)
  | .miTunnelledAdmin e =>
    e.wf
  | .pmuTick rails d0 d1 d2 d3 d4 d5 _ _ =>
    decide (rails.length = 6) && [d0, d1, d2, d3, d4, d5].all (fun d => d.all (fun x => decide (x % 4 = 0)))
  | .referenceClockRestore env =>
    decide (env.trainFail < 16)
  | .cacheDestagePost _ d nsid _ _ =>
    d.wf && decide (1 ≤ nsid) && decide (nsid ≤ 64)
  | .pcieConfigWrite _ acc =>
    acc.wf
  | .sysRstChip .. | .clockLoss | .railSequenceViolation .. | .vddaBelowRetractMin | .fabricCycleAdvance | .atbSpanEnd
  | .holdoverExpiry | .atbCtrlFree .. | .atbCtrlAcq .. | .disagreeClear .. | .atbPiersWrite .. | .atbSyncOffWrite ..
  | .atbAngleRead .. | .vsyncEmit | .rltAdmission .. | .lockGrant .. | .zoneTailGrant .. | .dirtyLimitResume ..
  | .completionPost .. | .controllerReset .. | .normalShutdown .. | .shutdownComplete .. | .abruptShutdown ..
  | .functionLevelReset .. | .perstAssert .. | .pcieLinkDown .. | .dStateChange .. | .createIoSq .. | .createIoCq ..
  | .deleteIoSq .. | .deleteIoCq .. | .identify .. | .abort .. | .getLogPage .. | .getFeatures ..
  | .setFeaturesArbitration .. | .setFeaturesPowerManagement .. | .setFeaturesErrorRecovery ..
  | .setFeaturesVolatileWriteCache .. | .setFeaturesNumberOfQueues .. | .setFeaturesInterruptCoalescing ..
  | .setFeaturesModeProfile .. | .asyncEventRequest .. | .namespaceDelete .. | .firmwareCommitStore ..
  | .firmwareCommitStoreActivate .. | .firmwareCommitActivate .. | .directiveSend .. | .directiveReceive ..
  | .formatNvm .. | .securitySend .. | .securityReceive .. | .sanitize .. | .registerAccessRead ..
  | .registerAccessWrite .. | .captureConfigureAndStart .. | .captureStop .. | .captureStatus .. | .otpRevokeDpiKey ..
  | .otpRevokeRootKey .. => true
  | .otpRaiseFwSvn .. | .otpRaiseDpiSvn .. | .evrReadConfiguration .. | .evrSetLine .. | .evrSetConfiguration ..
  | .evrClear .. | .evrUnfreeze .. | .dpiActivateOther .. | .flush .. | .datasetManagement .. | .writeZeroes ..
  | .reservationReport .. | .zoneManagementReceive .. | .zoneClose .. | .zoneFinish .. | .zoneOpen .. | .zoneReset ..
  | .zoneOffline .. | .setZoneDescriptorExtension .. | .xtsGenerate .. | .xtsLoad .. | .xtsClear .. | .xtsRewrap ..
  | .xtsOperationDone | .drbgHealthRetest .. | .intakeAccept .. | .operationSelect .. | .leaseExpiry | .leaseRevoke ..
  | .trsDescriptorAccept .. | .abortPendingTimeout .. | .forcedStopTimeout .. | .moveListEntry | .destageRouteCheck
  | .marginCapEval | .destageEstimateUpdate .. | .wordRelease .. | .trsCtrlStop .. | .trsCtrlAbort .. | .trsCtrlClr ..
  | .trsCtrlHold .. | .trsCtrlStep .. | .controlStoreHoldingWrite .. | .controlStoreCommit .. | .sm1Accept ..
  | .sm2Check .. | .syncWindowClose .. | .codewordArrival .. | .decodeComplete .. | .redecodeStart ..
  | .servoWindowBegin .. | .servoWindowEnd .. | .bufferUnderrun .. | .rwcSvwinWrite .. | .preampCommandSend ..
  | .preampFrameAck .. | .escapeDetect .. | .shockComparatorChange .. | .shockHoldExpiry | .memsRead .. => true
  | .shockInputStuck .. | .pifShkAckWrite .. | .preampFaultLine .. | .paForceWrite .. | .assistOveron ..
  | .inhibitClearRepost .. | .writeInhibitedTimeout .. | .samplePublish .. | .engineDelivery .. | .outputDeadline ..
  | .keystoneExpiry .. | .switchoverInhibitRelease .. | .resyncParameterCopyDone .. | .plannedSwapSchedule ..
  | .srfCtrlSwap .. | .srfCtrlFence .. | .srfCtrlResync .. | .srfCtrlCorrupt .. | .sceCtrlLoad .. | .sceCtrlUnload ..
  | .sceCtrlForceRed .. | .sceCtrlResume .. | .sceCtrlApply .. | .rampLoadTimeout .. | .holdRelockTimeout ..
  | .injectionEnd .. | .captureArm .. | .captureCtrlStop .. | .bridgeSwitch .. | .vcmOvercurrentTrip ..
  | .coilThermalUpdate .. | .retractPhaseEnd .. | .smcCtrlStart .. | .smcCtrlStop .. | .smcSetptWrite ..
  | .detectComplete .. | .alignEnd | .openLoopStep | .bemfCrossing .. | .commutation | .startBoundExpiry
  | .standstillDetect | .catchTimeout | .speedLoopRun .. | .spindleOvercurrentTrip .. | .sprefSample ..
  | .chopperGateOn .. | .chopperGateOff .. | .chopperFault .. | .vmotOvervoltage .. | .ovpShortBrakeRetry ..
  | .vmotPowerLoss .. | .vmotRestore .. | .vmotRestartCount | .scrubRead .. | .dramRefresh .. | .rmtEntryWrite ..
  | .rmtCopyDone .. | .fmrArm .. | .recoveryBoundReached .. => true
  | .faultHandlerTimeout | .faultStopResetRequest | .evrRecordWrite | .evrPost .. | .evrCtrlClear ..
  | .evrCtrlUnfreeze .. | .evrListWrite .. | .chainLinkUp .. | .chainLinkDown .. | .headTimerExpiry | .probeTimer
  | .echoTimeout | .enumSend | .attachSend | .vchCtrlEnum .. | .vchCtrlProbe .. | .vsyncReceive | .vsyncForward
  | .vsyncWindowClose | .timeSend | .handoverTimeout | .graceExpiry | .smbusOwnerTimeout | .smbusBasicManagementRead
  | .mctpSetEndpointId .. | .mctpGetEndpointId | .mctpGetVersionSupport | .mctpGetMessageTypeSupport
  | .miSubsystemHealthPoll | .miControllerHealthPoll | .miConfigurationGet .. | .miGetState | .miAbort
  | .smbusBusTimeout | .diodeConversion .. | .powerStateTransition | .ps4Wake | .selfRefreshReturn
  | .actuatorRestore .. | .outRestoreAttempt .. | .actuatorLoad .. | .firstLoads | .mediaNotReadyTimeout ..
  | .startUpMediaFailure | .systemAreaReadRetry .. | .pmuPstateReqWrite .. | .gpioInputChange .. | .uartRxCharacter ..
  | .jtagBypass | .jtagIdcode | .jtagSamplePreload .. | .jtagExtest .. | .jtagHighz | .jtagClamp | .hqeArrivalRead ..
  | .svdPosRead .. | .vchTrefRead .. | .perstDeassert .. | .openLoopBoundExpiry | .preampFaultLineInactive .. => true
  | .vmotLossRunTimeout | .entropyHealthTestFail | .ps1ChoiceHoldoffEnd .. => true

end Sys2Proof
end

