-- ==== Sys2Proof/Decode.lean ====
section
/-!
DEFINITION. Sys2Proof/Decode.lean: the command that a word spells by the bits of spec/opcode_table.json. The table gives no
row any bits (the commands of a block are events, not words), so no word spells a command.
-/
namespace Sys2Proof

/-- The command an `nbits`-bit word spells: none, since the table gives no row an encoding. -/
def decodeTableWord (_nbits _w : Nat) : Option Instr := none

end Sys2Proof
end

