-- ==== Sys2Proof/Config.lean ====
section
/-!
DEFINITION. Sys2Proof/Config.lean: what the specification leaves open: free values, as constants without a body. No
statement can rest on what they are. Each is applied to the operands it depends on, or to the model's counter of values
consumed (`State.fresh`), which makes every use a value of its own.
-/
namespace Sys2Proof

/-- A byte the specification does not fix: an analog reading, a random draw (notes/assumptions/4.md). -/
opaque Config.freeByte : Nat → Byte

/-- A word the specification does not fix (notes/assumptions/4.md). -/
opaque Config.freeWord : Nat → Word

/-- A natural number the specification does not fix: the key bits of the DRBG (R183, notes/assumptions/4.md). -/
opaque Config.freeNat : Nat → Nat

/-- A signed number the specification does not fix: an error that an analog loop measures (R270, R284, notes/assumptions/4.md). -/
opaque Config.freeInt : Nat → Int

/-- The value of a reader k/16 of the way between two neighbouring bits (R283), the interpolation not being stated
(notes/assumptions/4.md). -/
opaque Config.between : Nat → Int → Int → Int

/-- Where in its eighth of a turn, from 0 below 1,024, the scaled angle of two burst amplitudes lies (R338 gives atan2 scaled to 13 bits
and no rounding). -/
opaque Config.octant : Int → Int → Nat

/-- The signature of an engine's state (R377): CRC-32C over items whose order and widths in bytes are not stated, so a
free function of the items (notes/assumptions/8.md). -/
opaque Config.signature : List Int → Word

/-- AMP times the sine of an injection (R367) at a position of the 4,096-position table, whose entries are not stated
(notes/assumptions/4.md). -/
opaque Config.sine : Int → Nat → Int

/-- The sign of the PRBS output for a state of the LFSR (R367), which bit gives it not being stated
(notes/assumptions/4.md). -/
opaque Config.prbs : Nat → Bool

/-- The resistance of the VCM current shunt in micro-ohms (R360): a part of the board (notes/assumptions/4.md). -/
opaque Config.shunt : Nat

/-- The MSID credential, the PIN of every authority that none has been set for (R186, R189): a value of the part
(notes/assumptions/4.md). -/
opaque Config.msid : List Byte

/-- The CODE of a firmware post (R498): the specification names the post by the rule that makes it and gives no code; the
argument is the number of that rule (notes/assumptions/6.md). -/
opaque Config.fwCode : Nat → Nat

end Sys2Proof
end

