-- ==== Sys2Proof/Machine/RegTypes.lean ====
section
/-!
DEFINITION. Sys2Proof/Machine/RegTypes.lean: what a register description is: the access types of R15 and R16, a
field, a row of a register table, a unit (a block or an instance sub-window, R35 and R36), and a named field.
-/
namespace Sys2Proof.Machine

/-- Access types (spec/00_scope.md, R15). `rwoAct` is an RWO field that performs an action and reads 0. -/
inductive Access where
  | ro | rw | w1c | w1s | wo | rwo | rwoAct | rwl
  deriving DecidableEq, Repr

/-- One field of a register table: bits, type, reset value, and whether STK is attached (R16). -/
structure FieldSpec where
  hi : Nat
  lo : Nat
  acc : Access
  rst : Nat
  stk : Bool
  deriving DecidableEq, Repr

/-- One row of a register map: offset inside its unit, the arrays it repeats over (count, stride), whether it is an
expert register of its unit's BLOCK_BASIC (R21), and its fields. -/
structure RegRow where
  off : Nat
  dims : List (Nat × Nat)
  expert : Bool
  flds : List FieldSpec
  deriving DecidableEq, Repr

/-- A block, or the sub-windows of a block with instances (R36). -/
structure RegUnit where
  base : Nat
  count : Nat
  stride : Nat
  basicOff : Option Nat
  lockOff : Option Nat
  rows : List RegRow
  deriving DecidableEq, Repr

/-- A named field: the address of its register and its bits. -/
structure Fld where
  addr : Nat
  hi : Nat
  lo : Nat
  deriving DecidableEq, Repr

end Sys2Proof.Machine
end

