-- ==== Sys2Proof/Machine/RegMap.lean ====
section
/-!
DEFINITION. Sys2Proof/Machine/RegMap.lean: every register of the MZ9400's internal register space, block by block,
with the offset, the access type and the reset value of each of its fields, as the register tables of spec/ give
them (each row names its register; each unit names the rule that holds its table). A field whose Reset column says
DPI or OTP holds 0 until its load (R20).
-/
namespace Sys2Proof.Machine

/-- Registers of SYS (spec/01*, R46, R602, R609), part 0. -/
def unitSYSRows0 : List RegRow := [
  ⟨0, [], false, [⟨31, 16, .ro, 0x9400, false⟩, ⟨15, 8, .ro, 1, false⟩, ⟨7, 0, .ro, 0, false⟩]⟩,  -- SYS_ID
  ⟨0x100, [], false, [⟨31, 0, .ro, 0, false⟩]⟩,  -- SYS_IRQ_PEND0
  ⟨0x104, [], false, [⟨31, 0, .ro, 0, false⟩]⟩,  -- SYS_IRQ_PEND1
  ⟨0x10, [], false, [⟨31, 16, .wo, 0, false⟩, ⟨0, 0, .wo, 0, false⟩]⟩,  -- SYS_RST
  ⟨0x14, [], false, [⟨31, 28, .ro, 0, false⟩, ⟨27, 24, .ro, 0, false⟩, ⟨23, 20, .ro, 0, false⟩, ⟨17, 17, .ro, 0, false⟩, ⟨16, 16, .ro, 0, false⟩, ⟨9, 8, .ro, 0, false⟩, ⟨2, 0, .ro, 1, false⟩]⟩,  -- SYS_BOOT
  ⟨0x200, [(32, 4)], false, [⟨8, 8, .ro, 0, false⟩, ⟨4, 4, .rwo, 1, false⟩, ⟨3, 3, .rwo, 0, false⟩, ⟨1, 0, .rwo, 0, false⟩]⟩]  -- SYS_GPIO_CFGn

/-- SYS: base, instances, stride, the offsets of its BLOCK_BASIC and lock registers, its rows (R46). -/
def unitSYS : RegUnit :=
  ⟨0x40000000, 1, 0x10000, none, none, unitSYSRows0⟩

/-- Registers of ATB (spec/02*, R75), part 0. -/
def unitATBRows0 : List RegRow := [
  ⟨0, [], false, [⟨9, 9, .wo, 0, false⟩, ⟨8, 8, .ro, 0, false⟩, ⟨7, 4, .rw, 0, false⟩, ⟨0, 0, .rw, 0, false⟩]⟩,  -- ATB_BASIC
  ⟨4, [], false, [⟨0, 0, .w1s, 0, false⟩]⟩,  -- ATB_LOCK
  ⟨8, [], false, [⟨10, 0, .rwl, 0x380, false⟩]⟩,  -- ATB_PIERS
  ⟨0xc, [], false, [⟨9, 9, .wo, 0, false⟩, ⟨8, 8, .wo, 0, false⟩, ⟨3, 0, .rw, 0, false⟩]⟩,  -- ATB_CTRL
  ⟨0x10, [], false, [⟨15, 12, .w1c, 0, false⟩, ⟨11, 8, .ro, 0, false⟩, ⟨4, 4, .ro, 0, false⟩, ⟨3, 3, .ro, 0, false⟩, ⟨2, 0, .ro, 0, false⟩]⟩,  -- ATB_STATUS
  ⟨0x14, [], false, [⟨31, 0, .ro, 0, false⟩]⟩,  -- ATB_ANGLE
  ⟨0x18, [], false, [⟨31, 0, .ro, 0, false⟩]⟩,  -- ATB_REV
  ⟨0x1c, [], false, [⟨31, 0, .ro, 0x1c2f8b89, false⟩]⟩,  -- ATB_RATE
  ⟨0x20, [], false, [⟨31, 0, .rwl, 0x1c2f8b89, false⟩]⟩,  -- ATB_FREE_RATE
  ⟨0x24, [], true, [⟨31, 16, .rw, 0x400, false⟩, ⟨7, 0, .rw, 0x40, false⟩]⟩,  -- ATB_GAIN
  ⟨0x28, [], true, [⟨21, 0, .rw, 0x10000, false⟩]⟩,  -- ATB_WIN
  ⟨0x2c, [], true, [⟨21, 0, .rw, 0x4000, false⟩]⟩,  -- ATB_CORR
  ⟨0x30, [], true, [⟨25, 16, .rw, 0x20, false⟩, ⟨11, 8, .rw, 4, false⟩, ⟨7, 0, .rw, 8, false⟩]⟩,  -- ATB_HOLD
  ⟨0x40, [(4, 4)], false, [⟨31, 0, .ro, 0, false⟩]⟩,  -- ATB_MISSn
  ⟨0x50, [(4, 4)], false, [⟨31, 0, .ro, 0, false⟩]⟩,  -- ATB_REJn
  ⟨0x60, [(4, 4)], false, [⟨31, 0, .ro, 0, false⟩]⟩,  -- ATB_LATEn
  ⟨0x70, [], false, [⟨31, 0, .ro, 0, false⟩]⟩,  -- ATB_GLATE
  ⟨0x74, [], false, [⟨31, 0, .ro, 0, false⟩]⟩,  -- ATB_STEPS
  ⟨0x78, [], false, [⟨31, 0, .ro, 0, false⟩]⟩,  -- ATB_HOLDS
  ⟨0x7c, [], false, [⟨31, 0, .ro, 0, false⟩]⟩]  -- ATB_LOSSES

/-- Registers of ATB (spec/02*, R75), part 1. -/
def unitATBRows1 : List RegRow := [
  ⟨0x80, [], false, [⟨0, 0, .wo, 0, false⟩]⟩,  -- ATB_CNT_CLR
  ⟨0x84, [], false, [⟨7, 7, .w1c, 0, false⟩, ⟨6, 6, .w1c, 0, false⟩, ⟨5, 5, .w1c, 0, false⟩, ⟨4, 4, .w1c, 0, false⟩, ⟨3, 3, .w1c, 0, false⟩, ⟨2, 2, .w1c, 0, false⟩, ⟨1, 1, .w1c, 0, false⟩, ⟨0, 0, .w1c, 0, false⟩]⟩,  -- ATB_EVT_STAT
  ⟨0x88, [], false, [⟨7, 0, .rw, 0x3f, false⟩]⟩,  -- ATB_EVT_EN
  ⟨0x90, [(4, 4)], false, [⟨31, 0, .ro, 0, false⟩]⟩,  -- ATB_LOFFn
  ⟨0xa0, [(4, 4)], false, [⟨31, 0, .rwl, 0, false⟩]⟩,  -- ATB_NOMn
  ⟨0xb0, [], false, [⟨31, 0, .rwo, 0, false⟩]⟩,  -- ATB_SYNC_OFF
  ⟨0xb4, [], false, [⟨31, 0, .ro, 0, false⟩]⟩,  -- ATB_SYNC_ERR
  ⟨0xb8, [], false, [⟨31, 0, .ro, 0, false⟩]⟩,  -- ATB_SYNC_REV
  ⟨0x100, [(40, 4)], false, [⟨31, 0, .rwl, 0, false⟩]⟩,  -- ATB_HEADn
  ⟨0x400, [(2, 0x400), (256, 4)], false, [⟨31, 0, .rwl, 0, false⟩]⟩,  -- ATB_SKEWn_i
  ⟨0x1000, [(4, 0x400), (64, 0x10)], false, [⟨31, 0, .rw, 0, false⟩]⟩,  -- ATB_LTRIGn_i_ANGLE
  ⟨0x1004, [(4, 0x400), (64, 0x10)], false, [⟨23, 16, .rw, 0, false⟩, ⟨8, 8, .rw, 0, false⟩, ⟨7, 4, .rw, 0, false⟩, ⟨2, 1, .rw, 0, false⟩, ⟨0, 0, .rw, 0, false⟩]⟩,  -- ATB_LTRIGn_i_CTRL
  ⟨0x1008, [(4, 0x400), (64, 0x10)], false, [⟨15, 8, .ro, 0, false⟩, ⟨2, 2, .w1c, 0, false⟩, ⟨1, 1, .w1c, 0, false⟩, ⟨0, 0, .w1c, 0, false⟩]⟩,  -- ATB_LTRIGn_i_STATUS
  ⟨0x100c, [(4, 0x400), (64, 0x10)], false, [⟨31, 0, .ro, 0, false⟩]⟩,  -- ATB_LTRIGn_i_LASTREV
  ⟨0x2000, [(32, 0x10)], false, [⟨31, 0, .rw, 0, false⟩]⟩,  -- ATB_GTRIG_n_ANGLE
  ⟨0x2004, [(32, 0x10)], false, [⟨23, 16, .rw, 0, false⟩, ⟨14, 10, .rw, 0, false⟩, ⟨8, 8, .rw, 0, false⟩, ⟨7, 4, .rw, 0, false⟩, ⟨2, 1, .rw, 0, false⟩, ⟨0, 0, .rw, 0, false⟩]⟩,  -- ATB_GTRIG_n_CTRL
  ⟨0x2008, [(32, 0x10)], false, [⟨15, 8, .ro, 0, false⟩, ⟨2, 2, .w1c, 0, false⟩, ⟨1, 1, .w1c, 0, false⟩, ⟨0, 0, .w1c, 0, false⟩]⟩,  -- ATB_GTRIG_n_STATUS
  ⟨0x200c, [(32, 0x10)], false, [⟨31, 0, .ro, 0, false⟩]⟩]  -- ATB_GTRIG_n_LASTREV

/-- ATB: base, instances, stride, the offsets of its BLOCK_BASIC and lock registers, its rows (R75). -/
def unitATB : RegUnit :=
  ⟨0x400b0000, 1, 0x10000, some 0, some 4, unitATBRows0 ++ unitATBRows1⟩

/-- Registers of HPXn (spec/03*, R123), part 0. -/
def unitHPXInstRows0 : List RegRow := [
  ⟨0, [], false, [⟨31, 31, .ro, 0, false⟩, ⟨26, 24, .ro, 3, false⟩, ⟨18, 16, .ro, 0, false⟩, ⟨10, 8, .ro, 0, false⟩, ⟨4, 4, .ro, 0, false⟩, ⟨3, 3, .ro, 0, false⟩]⟩,  -- HPXn_LINK
  ⟨4, [], false, [⟨8, 8, .ro, 0, false⟩, ⟨5, 4, .ro, 0, false⟩, ⟨1, 1, .ro, 0, false⟩, ⟨0, 0, .ro, 0, false⟩]⟩,  -- HPXn_FUNC
  ⟨0x10, [], false, [⟨5, 5, .w1c, 0, false⟩, ⟨4, 4, .w1c, 0, false⟩, ⟨3, 3, .w1c, 0, false⟩, ⟨2, 2, .w1c, 0, false⟩, ⟨1, 1, .w1c, 0, false⟩, ⟨0, 0, .w1c, 0, false⟩]⟩,  -- HPXn_EVT_STAT
  ⟨0x14, [], false, [⟨5, 0, .rw, 0x3f, false⟩]⟩,  -- HPXn_EVT_EN
  ⟨0x40, [], false, [⟨31, 0, .ro, 0, false⟩]⟩,  -- HPXn_RECOV
  ⟨0x44, [], false, [⟨31, 0, .ro, 0, false⟩]⟩,  -- HPXn_LINKDOWN
  ⟨0x48, [], false, [⟨31, 0, .ro, 0, false⟩]⟩,  -- HPXn_CE
  ⟨0x4c, [], false, [⟨31, 0, .ro, 0, false⟩]⟩,  -- HPXn_NFE
  ⟨0x50, [], false, [⟨31, 0, .ro, 0, false⟩]⟩,  -- HPXn_FE
  ⟨0x54, [], false, [⟨31, 0, .ro, 0, false⟩]⟩,  -- HPXn_FLR
  ⟨0x60, [], false, [⟨0, 0, .wo, 0, false⟩]⟩]  -- HPXn_CNT_CLR

/-- HPXn: base, instances, stride, the offsets of its BLOCK_BASIC and lock registers, its rows (R123). -/
def unitHPXInst : RegUnit :=
  ⟨0x40070000, 2, 0x1000, none, none, unitHPXInstRows0⟩

/-- Registers of HQE (spec/03*, R124, R155), part 0. -/
def unitHQERows0 : List RegRow := [
  ⟨4, [], false, [⟨8, 8, .ro, 0, false⟩, ⟨5, 3, .ro, 0, false⟩, ⟨2, 0, .ro, 0, false⟩]⟩,  -- HQE_PORTCFG
  ⟨8, [], false, [⟨14, 0, .ro, 0x4000, false⟩]⟩,  -- HQE_CTX_FREE
  ⟨0xc, [], false, [⟨14, 0, .ro, 0x4000, false⟩]⟩,  -- HQE_CTX_LOW
  ⟨0x10, [], false, [⟨26, 16, .ro, 0x400, false⟩, ⟨10, 0, .ro, 0x400, false⟩]⟩,  -- HQE_Q_FREE
  ⟨0x20, [], false, [⟨31, 0, .ro, 0, false⟩]⟩,  -- HQE_STALL_CTX
  ⟨0x24, [], false, [⟨31, 0, .ro, 0, false⟩]⟩,  -- HQE_STALL_CTX_US
  ⟨0x28, [], false, [⟨31, 0, .ro, 0, false⟩]⟩,  -- HQE_STALL_CQ
  ⟨0x2c, [], false, [⟨31, 0, .ro, 0, false⟩]⟩,  -- HQE_STALL_CQ_US
  ⟨0x30, [], false, [⟨31, 0, .ro, 0, false⟩]⟩,  -- HQE_STALL_WC
  ⟨0x34, [], false, [⟨31, 0, .ro, 0, false⟩]⟩,  -- HQE_STALL_WC_US
  ⟨0x40, [], false, [⟨0, 0, .wo, 0, false⟩]⟩,  -- HQE_CNT_CLR
  ⟨0x50, [(2, 4)], false, [⟨10, 0, .ro, 0, false⟩]⟩,  -- HQE_DE_PENDn
  ⟨0x58, [], false, [⟨31, 0, .ro, 0, false⟩]⟩,  -- HQE_DE_LOST
  ⟨0x5c, [], false, [⟨31, 0, .ro, 0, true⟩]⟩,  -- HQE_CQ_LOST
  ⟨0x60, [], false, [⟨31, 0, .ro, 0, false⟩]⟩,  -- HQE_ARRIVAL_LO
  ⟨0x64, [], false, [⟨31, 0, .ro, 0, false⟩]⟩]  -- HQE_ARRIVAL_HI

/-- HQE: base, instances, stride, the offsets of its BLOCK_BASIC and lock registers, its rows (R124). -/
def unitHQE : RegUnit :=
  ⟨0x40080000, 1, 0x10000, none, none, unitHQERows0⟩

/-- Registers of RLT (spec/04*, R154), part 0. -/
def unitRLTRows0 : List RegRow := [
  ⟨4, [], false, [⟨13, 0, .ro, 0, false⟩]⟩,  -- RLT_USED
  ⟨8, [], false, [⟨13, 0, .ro, 0, false⟩]⟩,  -- RLT_HIGH
  ⟨0x10, [], false, [⟨31, 0, .ro, 0, false⟩]⟩,  -- RLT_STALL
  ⟨0x14, [], false, [⟨31, 0, .ro, 0, false⟩]⟩,  -- RLT_STALL_US
  ⟨0x18, [], false, [⟨31, 0, .ro, 0, false⟩]⟩,  -- RLT_WAITS
  ⟨0x1c, [], false, [⟨31, 0, .ro, 0, false⟩]⟩,  -- RLT_TAIL_WAITS
  ⟨0x20, [], false, [⟨0, 0, .wo, 0, false⟩]⟩]  -- RLT_CNT_CLR

/-- RLT: base, instances, stride, the offsets of its BLOCK_BASIC and lock registers, its rows (R154). -/
def unitRLT : RegUnit :=
  ⟨0x40090000, 1, 0x10000, none, none, unitRLTRows0⟩

/-- Registers of MSC (spec/05*, R176, R218), part 0. -/
def unitMSCRows0 : List RegRow := [
  ⟨0x800, [], true, [⟨23, 16, .rw, 4, false⟩, ⟨15, 0, .rw, 0xa80, false⟩]⟩,  -- MSC_LEASE_CFG
  ⟨0x804, [], false, [⟨10, 0, .ro, 0, false⟩]⟩,  -- MSC_LEASE_USED
  ⟨0x808, [], false, [⟨31, 0, .ro, 0, false⟩]⟩,  -- MSC_LEASE_CUT
  ⟨0x80c, [], false, [⟨31, 0, .ro, 0, false⟩]⟩,  -- MSC_LEASE_WAIT
  ⟨0x810, [], false, [⟨31, 0, .ro, 0, false⟩]⟩,  -- MSC_LEASE_FULL
  ⟨0x814, [], false, [⟨31, 0, .ro, 0, false⟩]⟩,  -- MSC_LEASE_REVOKE
  ⟨0x818, [], false, [⟨0, 0, .wo, 0, false⟩]⟩,  -- MSC_LEASE_CLR
  ⟨0, [], false, [⟨9, 9, .wo, 0, false⟩, ⟨8, 8, .ro, 0, false⟩, ⟨7, 4, .rw, 0, false⟩, ⟨0, 0, .rw, 0, false⟩]⟩,  -- MSC_BASIC
  ⟨4, [], false, [⟨0, 0, .w1s, 0, false⟩]⟩,  -- MSC_LOCK
  ⟨0x10, [], true, [⟨23, 16, .rw, 0x40, false⟩, ⟨15, 8, .rw, 0x10, false⟩, ⟨7, 0, .rw, 0, false⟩]⟩,  -- MSC_CREDIT
  ⟨0x14, [], true, [⟨31, 24, .rw, 2, false⟩, ⟨23, 16, .rw, 8, false⟩, ⟨15, 8, .rw, 0x10, false⟩, ⟨7, 0, .rw, 0x40, false⟩]⟩,  -- MSC_AGE
  ⟨0x18, [], true, [⟨31, 24, .rw, 0x10, false⟩, ⟨23, 16, .rw, 6, false⟩, ⟨0, 0, .rw, 1, false⟩]⟩,  -- MSC_DISPATCH
  ⟨0x20, [], true, [⟨2, 0, .rw, 4, false⟩]⟩,  -- MSC_WCG_CFG
  ⟨0x24, [], false, [⟨29, 20, .rwl, 0x226, false⟩, ⟨19, 10, .rwl, 0x208, false⟩, ⟨9, 0, .rwl, 0x1ea, false⟩]⟩,  -- MSC_WCG_VMOT
  ⟨0x28, [], false, [⟨29, 20, .rwl, 0, false⟩, ⟨19, 10, .rwl, 0, false⟩, ⟨9, 0, .rwl, 0, false⟩]⟩,  -- MSC_WCG_VDDA
  ⟨0x2c, [], false, [⟨30, 28, .ro, 0, false⟩, ⟨26, 24, .ro, 4, false⟩, ⟨22, 20, .ro, 4, false⟩, ⟨18, 16, .ro, 4, false⟩, ⟨14, 12, .ro, 4, false⟩, ⟨10, 8, .ro, 4, false⟩, ⟨2, 0, .ro, 0, false⟩]⟩,  -- MSC_WCG_STATUS
  ⟨0x30, [], false, [⟨15, 0, .rw, 0x1c20, false⟩]⟩,  -- MSC_DESTAGE
  ⟨0x34, [], false, [⟨31, 0, .ro, 0, false⟩]⟩,  -- MSC_DESTAGE_EST
  ⟨0x38, [], false, [⟨31, 16, .rwl, 0, false⟩, ⟨15, 0, .rwl, 0, false⟩]⟩,  -- MSC_HSW
  ⟨0x40, [], false, [⟨0, 0, .wo, 0, false⟩]⟩]  -- MSC_CNT_CLR

/-- Registers of MSC (spec/05*, R176, R218), part 1. -/
def unitMSCRows1 : List RegRow := [
  ⟨0x100, [(4, 0x40)], false, [⟨11, 0, .ro, 0, false⟩]⟩,  -- MSC_USEDn
  ⟨0x104, [(4, 0x40)], false, [⟨11, 0, .ro, 0, false⟩]⟩,  -- MSC_HIGHn
  ⟨0x108, [(4, 0x40)], false, [⟨31, 0, .ro, 0, false⟩]⟩,  -- MSC_DISPn
  ⟨0x10c, [(4, 0x40)], false, [⟨31, 0, .ro, 0, false⟩]⟩,  -- MSC_RDSECn
  ⟨0x110, [(4, 0x40)], false, [⟨31, 0, .ro, 0, false⟩]⟩,  -- MSC_WRSECn
  ⟨0x114, [(4, 0x40)], false, [⟨31, 0, .ro, 0, false⟩]⟩,  -- MSC_ACCSUMn
  ⟨0x118, [(4, 0x40)], false, [⟨31, 0, .ro, 0, false⟩]⟩,  -- MSC_ROTMISSn
  ⟨0x11c, [(4, 0x40)], false, [⟨31, 0, .ro, 0, false⟩]⟩,  -- MSC_OVERDUEn
  ⟨0x120, [(4, 0x40)], false, [⟨31, 0, .ro, 0, false⟩]⟩,  -- MSC_STALLn
  ⟨0x124, [(4, 0x40)], false, [⟨31, 0, .ro, 0, false⟩]⟩,  -- MSC_STALL_USn
  ⟨0x128, [(4, 0x40)], false, [⟨31, 0, .ro, 0, false⟩]⟩,  -- MSC_STEALn
  ⟨0x12c, [(4, 0x40)], false, [⟨31, 0, .ro, 0, false⟩]⟩,  -- MSC_MOVEDn
  ⟨0x130, [(4, 0x40)], false, [⟨31, 0, .ro, 0, false⟩]⟩,  -- MSC_TMOn
  ⟨0x134, [(4, 0x40)], false, [⟨31, 0, .ro, 0, false⟩]⟩,  -- MSC_WCG_WAITn
  ⟨0x1000, [(4, 0x200), (64, 8)], false, [⟨23, 0, .rwl, 0, false⟩]⟩,  -- MSC_SEEKn_i_DIST
  ⟨0x1004, [(4, 0x200), (64, 8)], false, [⟨31, 16, .rwl, 0, false⟩, ⟨15, 0, .rwl, 0, false⟩]⟩]  -- MSC_SEEKn_i_TIME

/-- MSC: base, instances, stride, the offsets of its BLOCK_BASIC and lock registers, its rows (R176). -/
def unitMSC : RegUnit :=
  ⟨0x400a0000, 1, 0x10000, some 0, some 4, unitMSCRows0 ++ unitMSCRows1⟩

/-- Registers of XTS (spec/05*, R189), part 0. -/
def unitXTSRows0 : List RegRow := [
  ⟨8, [], false, [⟨22, 16, .wo, 0, false⟩, ⟨14, 8, .wo, 0, false⟩, ⟨3, 0, .wo, 0, false⟩]⟩,  -- XTS_KCTRL
  ⟨0xc, [], false, [⟨31, 31, .ro, 0, false⟩, ⟨19, 16, .ro, 0, false⟩, ⟨8, 8, .w1c, 0, false⟩, ⟨0, 0, .ro, 0, false⟩]⟩,  -- XTS_STATUS
  ⟨0x10, [(4, 4)], false, [⟨31, 0, .ro, 0, false⟩]⟩,  -- XTS_SLOTVn
  ⟨0x20, [], false, [⟨1, 1, .w1c, 0, false⟩, ⟨0, 0, .w1c, 0, false⟩]⟩,  -- XTS_EVT_STAT
  ⟨0x24, [], false, [⟨1, 0, .rw, 3, false⟩]⟩,  -- XTS_EVT_EN
  ⟨0x40, [(12, 4)], false, [⟨31, 0, .wo, 0, false⟩]⟩,  -- XTS_CRED_n
  ⟨0x80, [(18, 4)], false, [⟨31, 0, .rw, 0, false⟩]⟩,  -- XTS_BLOB_n
  ⟨0x100, [], false, [⟨31, 0, .ro, 0, false⟩]⟩,  -- XTS_SECTENC
  ⟨0x104, [], false, [⟨31, 0, .ro, 0, false⟩]⟩,  -- XTS_SECTDEC
  ⟨0x108, [], false, [⟨31, 0, .ro, 0, false⟩]⟩,  -- XTS_GENS
  ⟨0x10c, [], false, [⟨31, 0, .ro, 0, false⟩]⟩,  -- XTS_UNWRAPFAIL
  ⟨0x110, [], false, [⟨0, 0, .wo, 0, false⟩]⟩]  -- XTS_CNT_CLR

/-- XTS: base, instances, stride, the offsets of its BLOCK_BASIC and lock registers, its rows (R189). -/
def unitXTS : RegUnit :=
  ⟨0x401d0000, 1, 0x10000, none, none, unitXTSRows0⟩

/-- Registers of TRS (spec/07*, R266), part 0. -/
def unitTRSRows0 : List RegRow := [
  ⟨4, [], false, [⟨0, 0, .w1s, 0, false⟩]⟩,  -- TRS_LOCK
  ⟨8, [], false, [⟨10, 9, .rw, 0, false⟩, ⟨8, 8, .rw, 0, false⟩, ⟨0, 0, .rw, 0, false⟩]⟩,  -- TRS_CS_CTRL
  ⟨0x10, [], false, [⟨31, 0, .rw, 0, false⟩]⟩,  -- TRS_CENTRY_LO
  ⟨0x14, [], false, [⟨31, 0, .rw, 0, false⟩]⟩,  -- TRS_CENTRY_HI
  ⟨0x18, [], false, [⟨31, 5, .rwl, 0x8a4000, false⟩]⟩,  -- TRS_SKIP_BASE
  ⟨0x1c, [], false, [⟨14, 0, .rwl, 0, false⟩]⟩,  -- TRS_SKIP_LIMIT
  ⟨0x20, [], false, [⟨31, 0, .ro, 0, false⟩]⟩,  -- TRS_IMAGE_ID
  ⟨0x30, [], false, [⟨1, 1, .w1c, 0, false⟩, ⟨0, 0, .w1c, 0, false⟩]⟩,  -- TRS_EVT_STAT
  ⟨0x34, [], false, [⟨1, 0, .rw, 1, false⟩]⟩,  -- TRS_EVT_EN
  ⟨0x40, [], false, [⟨0, 0, .wo, 0, false⟩]⟩,  -- TRS_CNT_CLR
  ⟨0x400, [(20, 0x80), (32, 4)], false, [⟨31, 16, .rwl, 0, false⟩, ⟨15, 0, .rwl, 0, false⟩]⟩]  -- TRS_SPT_n_i

/-- TRS: base, instances, stride, the offsets of its BLOCK_BASIC and lock registers, its rows (R266). -/
def unitTRS : RegUnit :=
  ⟨0x400c0000, 1, 0x10000, none, some 4, unitTRSRows0⟩

/-- Registers of TRSn (spec/07*, R266), part 0. -/
def unitTRSInstRows0 : List RegRow := [
  ⟨4, [], false, [⟨4, 4, .wo, 0, false⟩, ⟨3, 3, .rw, 0, false⟩, ⟨2, 2, .wo, 0, false⟩, ⟨1, 1, .wo, 0, false⟩, ⟨0, 0, .wo, 0, false⟩]⟩,  -- TRSn_CTRL
  ⟨8, [], false, [⟨15, 12, .ro, 0, false⟩, ⟨11, 11, .ro, 0, false⟩, ⟨10, 10, .ro, 0, false⟩, ⟨9, 9, .ro, 0, false⟩, ⟨8, 8, .ro, 0, false⟩, ⟨7, 7, .ro, 0, false⟩, ⟨6, 6, .ro, 0, false⟩, ⟨2, 0, .ro, 0, false⟩]⟩,  -- TRSn_STATUS
  ⟨0xc, [], false, [⟨13, 0, .ro, 0, false⟩]⟩,  -- TRSn_PC
  ⟨0x10, [], false, [⟨26, 16, .ro, 0, false⟩, ⟨11, 10, .ro, 0, false⟩, ⟨9, 0, .ro, 0, false⟩]⟩,  -- TRSn_SECT
  ⟨0x14, [], false, [⟨31, 16, .ro, 0, false⟩, ⟨15, 0, .ro, 0, false⟩]⟩,  -- TRSn_CNT
  ⟨0x18, [], false, [⟨31, 0, .ro, 0, false⟩]⟩,  -- TRSn_SANG
  ⟨0x1c, [], false, [⟨31, 16, .ro, 0xffff, false⟩, ⟨7, 0, .ro, 0, false⟩]⟩,  -- TRSn_OUT
  ⟨0x20, [(8, 4)], false, [⟨31, 0, .ro, 0, false⟩]⟩,  -- TRSn_DESCi
  ⟨0x40, [], false, [⟨31, 31, .ro, 0, false⟩, ⟨29, 16, .ro, 0, false⟩, ⟨3, 0, .ro, 0, false⟩]⟩,  -- TRSn_MCHK
  ⟨0x48, [], false, [⟨4, 4, .w1c, 0, false⟩, ⟨3, 3, .w1c, 0, false⟩, ⟨2, 2, .w1c, 0, false⟩, ⟨1, 1, .w1c, 0, false⟩, ⟨0, 0, .w1c, 0, false⟩]⟩,  -- TRSn_EVT_STAT
  ⟨0x4c, [], false, [⟨4, 0, .rw, 0xf, false⟩]⟩,  -- TRSn_EVT_EN
  ⟨0x50, [], false, [⟨31, 0, .ro, 0, false⟩]⟩,  -- TRSn_OPS
  ⟨0x54, [], false, [⟨31, 0, .ro, 0, false⟩]⟩,  -- TRSn_MCHKS
  ⟨0x58, [], false, [⟨31, 0, .ro, 0, false⟩]⟩,  -- TRSn_LATEW
  ⟨0x5c, [], false, [⟨31, 0, .ro, 0, false⟩]⟩,  -- TRSn_LATER
  ⟨0x60, [], false, [⟨31, 0, .ro, 0, false⟩]⟩,  -- TRSn_FORCED
  ⟨0x64, [], false, [⟨31, 0, .ro, 0, false⟩]⟩]  -- TRSn_QSTALL

/-- TRSn: base, instances, stride, the offsets of its BLOCK_BASIC and lock registers, its rows (R266). -/
def unitTRSInst : RegUnit :=
  ⟨0x400c1000, 4, 0x1000, none, none, unitTRSInstRows0⟩

/-- Registers of RWCn (spec/08*, R299), part 0. -/
def unitRWCInstRows0 : List RegRow := [
  ⟨0, [], false, [⟨9, 9, .wo, 0, false⟩, ⟨8, 8, .ro, 0, false⟩, ⟨7, 4, .rw, 0, false⟩, ⟨0, 0, .rw, 0, false⟩]⟩,  -- RWCn_BASIC
  ⟨4, [], false, [⟨0, 0, .w1s, 0, false⟩]⟩,  -- RWCn_LOCK
  ⟨8, [], false, [⟨31, 16, .rwl, 0, false⟩, ⟨15, 0, .rwl, 0, false⟩]⟩,  -- RWCn_SVWIN
  ⟨0xc, [], false, [⟨31, 0, .rwl, 0x7c3a15d6, false⟩]⟩,  -- RWCn_SM1
  ⟨0x10, [], false, [⟨31, 0, .rwl, 0x83c5ea29, false⟩]⟩,  -- RWCn_SM2
  ⟨0x14, [], false, [⟨31, 12, .rwl, 0x11500, false⟩]⟩,  -- RWCn_ZBASE
  ⟨0x20, [], true, [⟨31, 24, .rw, 0x40, false⟩, ⟨23, 16, .rw, 0x10, false⟩, ⟨15, 8, .rw, 0x20, false⟩, ⟨7, 0, .rw, 4, false⟩]⟩,  -- RWCn_TLOOP
  ⟨0x24, [], true, [⟨14, 12, .rw, 1, false⟩, ⟨11, 8, .rw, 2, false⟩, ⟨6, 0, .rw, 0x18, false⟩]⟩,  -- RWCn_SYNC
  ⟨0x28, [], true, [⟨8, 8, .rw, 1, false⟩, ⟨6, 0, .rw, 0x40, false⟩]⟩,  -- RWCn_LDPC
  ⟨0x2c, [], true, [⟨12, 12, .rw, 0, false⟩, ⟨11, 8, .rw, 0xa, false⟩, ⟨7, 4, .rw, 8, false⟩, ⟨3, 0, .rw, 6, false⟩]⟩,  -- RWCn_ADAPT
  ⟨0x30, [], false, [⟨0, 0, .rw, 0, false⟩]⟩,  -- RWCn_PEAK
  ⟨0x100, [], false, [⟨14, 13, .ro, 0, false⟩, ⟨11, 11, .ro, 0, false⟩, ⟨10, 10, .ro, 0, false⟩, ⟨9, 9, .ro, 0, false⟩, ⟨8, 8, .ro, 0, false⟩, ⟨6, 4, .ro, 0, false⟩, ⟨2, 0, .ro, 0, false⟩]⟩,  -- RWCn_STATUS
  ⟨0x104, [], false, [⟨31, 31, .ro, 0, false⟩, ⟨30, 28, .ro, 0, false⟩, ⟨27, 27, .ro, 0, false⟩, ⟨26, 26, .ro, 0, false⟩, ⟨25, 25, .ro, 0, false⟩, ⟨24, 24, .ro, 0, false⟩, ⟨23, 23, .ro, 0, false⟩, ⟨22, 20, .ro, 0, false⟩, ⟨19, 19, .ro, 0, false⟩, ⟨15, 8, .ro, 0, false⟩, ⟨7, 0, .ro, 0, false⟩]⟩,  -- RWCn_RES
  ⟨0x108, [], false, [⟨31, 0, .ro, 0, false⟩]⟩,  -- RWCn_RTAG_LO
  ⟨0x10c, [], false, [⟨31, 0, .ro, 0, false⟩]⟩,  -- RWCn_RTAG_HI
  ⟨0x110, [], false, [⟨23, 16, .ro, 0, false⟩, ⟨15, 8, .ro, 0, false⟩, ⟨7, 0, .ro, 0, false⟩]⟩,  -- RWCn_ADOUT_A
  ⟨0x114, [], false, [⟨23, 16, .ro, 0, false⟩, ⟨15, 8, .ro, 0, false⟩, ⟨7, 0, .ro, 0, false⟩]⟩,  -- RWCn_ADOUT_B
  ⟨0x120, [], false, [⟨3, 3, .w1c, 0, false⟩, ⟨2, 2, .w1c, 0, false⟩, ⟨1, 1, .w1c, 0, false⟩, ⟨0, 0, .w1c, 0, false⟩]⟩,  -- RWCn_EVT_STAT
  ⟨0x124, [], false, [⟨3, 0, .rw, 7, false⟩]⟩,  -- RWCn_EVT_EN
  ⟨0x200, [], false, [⟨31, 0, .ro, 0, false⟩]⟩]  -- RWCn_SECT_RD

/-- Registers of RWCn (spec/08*, R299), part 1. -/
def unitRWCInstRows1 : List RegRow := [
  ⟨0x204, [], false, [⟨31, 0, .ro, 0, false⟩]⟩,  -- RWCn_SECT_WR
  ⟨0x208, [], false, [⟨31, 0, .ro, 0, false⟩]⟩,  -- RWCn_SM1MISS
  ⟨0x20c, [], false, [⟨31, 0, .ro, 0, false⟩]⟩,  -- RWCn_SYNCMISS
  ⟨0x210, [], false, [⟨31, 0, .ro, 0, false⟩]⟩,  -- RWCn_PROV
  ⟨0x214, [], false, [⟨31, 0, .ro, 0, false⟩]⟩,  -- RWCn_LDPCFAIL
  ⟨0x218, [], false, [⟨31, 0, .ro, 0, false⟩]⟩,  -- RWCn_TAGFAIL
  ⟨0x21c, [], false, [⟨31, 0, .ro, 0, false⟩]⟩,  -- RWCn_REDEC
  ⟨0x220, [], false, [⟨31, 0, .ro, 0, false⟩]⟩,  -- RWCn_REDECOK
  ⟨0x224, [], false, [⟨31, 0, .ro, 0, false⟩]⟩,  -- RWCn_OVERRUN
  ⟨0x228, [], false, [⟨31, 0, .ro, 0, false⟩]⟩,  -- RWCn_UNDERRUN
  ⟨0x22c, [], false, [⟨31, 0, .ro, 0, false⟩]⟩,  -- RWCn_INHHIT
  ⟨0x230, [], false, [⟨31, 0, .ro, 0, false⟩]⟩,  -- RWCn_ITERSUM
  ⟨0x240, [], false, [⟨0, 0, .wo, 0, false⟩]⟩,  -- RWCn_CNT_CLR
  ⟨0x400, [], false, [⟨3, 0, .rw, 0, false⟩]⟩,  -- RWCn_OP_ALIGN
  ⟨0x404, [], false, [⟨6, 0, .rw, 0, false⟩]⟩,  -- RWCn_OP_WIN
  ⟨0x408, [], false, [⟨6, 0, .rw, 0, false⟩]⟩,  -- RWCn_OP_ITER
  ⟨0x40c, [], false, [⟨0, 0, .rw, 0, false⟩]⟩,  -- RWCn_OP_PAR
  ⟨0x8000, [(58, 0x80), (32, 4)], false, [⟨31, 31, .rwl, 0, false⟩, ⟨25, 16, .rwl, 0, false⟩, ⟨5, 0, .rwl, 0, false⟩]⟩]  -- RWCn_CODE_r_k

/-- RWCn: base, instances, stride, the offsets of its BLOCK_BASIC and lock registers, its rows (R299). -/
def unitRWCInst : RegUnit :=
  ⟨0x40100000, 4, 0x10000, some 0, some 4, unitRWCInstRows0 ++ unitRWCInstRows1⟩

/-- Registers of PIF (spec/09*, R333), part 0. -/
def unitPIFRows0 : List RegRow := [
  ⟨0, [], false, [⟨9, 9, .wo, 0, false⟩, ⟨8, 8, .ro, 0, false⟩, ⟨7, 4, .rw, 0, false⟩, ⟨0, 0, .rw, 0, false⟩]⟩,  -- PIF_BASIC
  ⟨4, [], false, [⟨0, 0, .w1s, 0, false⟩]⟩,  -- PIF_LOCK
  ⟨8, [], false, [⟨3, 0, .rwl, 9, false⟩]⟩,  -- PIF_SCLK
  ⟨0xc, [], false, [⟨31, 12, .rwl, 0x11514, false⟩]⟩,  -- PIF_PBASE
  ⟨0x10, [], true, [⟨31, 24, .rw, 8, false⟩, ⟨23, 16, .rw, 0x40, false⟩, ⟨15, 8, .rw, 0x40, false⟩, ⟨7, 0, .rw, 0x40, false⟩]⟩,  -- PIF_SHK_CFG
  ⟨0x14, [], true, [⟨31, 24, .rw, 0x28, false⟩, ⟨15, 0, .rw, 0x2000, false⟩]⟩,  -- PIF_MEMS_CFG
  ⟨0x18, [], false, [⟨9, 9, .ro, 0, false⟩, ⟨8, 8, .ro, 0, false⟩, ⟨6, 6, .ro, 0, false⟩, ⟨5, 5, .ro, 0, false⟩, ⟨4, 4, .ro, 0, false⟩, ⟨2, 2, .ro, 0, false⟩, ⟨1, 1, .ro, 0, false⟩, ⟨0, 0, .ro, 0, false⟩]⟩,  -- PIF_SHK_STAT
  ⟨0x1c, [], false, [⟨1, 0, .rwoAct, 0, false⟩]⟩,  -- PIF_SHK_ACK
  ⟨0x20, [], false, [⟨1, 1, .w1c, 0, false⟩, ⟨0, 0, .w1c, 0, false⟩]⟩,  -- PIF_EVT_STAT
  ⟨0x24, [], false, [⟨1, 0, .rw, 3, false⟩]⟩,  -- PIF_EVT_EN
  ⟨0x30, [], false, [⟨31, 0, .ro, 0, false⟩]⟩,  -- PIF_SHK_LINCNT
  ⟨0x34, [], false, [⟨31, 0, .ro, 0, false⟩]⟩,  -- PIF_SHK_ROTCNT
  ⟨0x38, [], false, [⟨31, 0, .ro, 0, false⟩]⟩,  -- PIF_SHK_MEMSCNT
  ⟨0x3c, [], false, [⟨31, 0, .ro, 0, false⟩]⟩,  -- PIF_STUCKCNT
  ⟨0x40, [], false, [⟨0, 0, .wo, 0, false⟩]⟩,  -- PIF_CNT_CLR
  ⟨0x8008, [(255, 8)], false, [⟨31, 31, .rwl, 0, false⟩, ⟨30, 30, .rwl, 0, false⟩, ⟨29, 27, .rwl, 0, false⟩, ⟨22, 16, .rwl, 0, false⟩, ⟨15, 0, .rwl, 0, false⟩]⟩,  -- PIF_CMD_n_LO
  ⟨0x800c, [(255, 8)], false, [⟨31, 16, .rwl, 0, false⟩, ⟨15, 0, .rwl, 0, false⟩]⟩]  -- PIF_CMD_n_HI

/-- PIF: base, instances, stride, the offsets of its BLOCK_BASIC and lock registers, its rows (R333). -/
def unitPIF : RegUnit :=
  ⟨0x40150000, 1, 0x10000, some 0, some 4, unitPIFRows0⟩

/-- Registers of PAn (spec/09*, R333), part 0. -/
def unitPAInstRows0 : List RegRow := [
  ⟨0, [], false, [⟨9, 9, .wo, 0, false⟩, ⟨8, 8, .ro, 0, false⟩, ⟨7, 4, .rw, 0, false⟩, ⟨0, 0, .rw, 0, false⟩]⟩,  -- PAn_BASIC
  ⟨4, [], true, [⟨27, 24, .rw, 2, false⟩, ⟨23, 12, .rw, 0xcd, false⟩, ⟨11, 0, .rw, 0x133, false⟩]⟩,  -- PAn_WINH_CFG
  ⟨8, [], true, [⟨7, 0, .rw, 0x10, false⟩]⟩,  -- PAn_FLT_CFG
  ⟨0xc, [], false, [⟨9, 0, .ro, 0, false⟩]⟩,  -- PAn_WINH
  ⟨0x10, [], false, [⟨9, 0, .w1c, 0, false⟩]⟩,  -- PAn_WINH_LATCH
  ⟨0x14, [], false, [⟨6, 4, .ro, 0, false⟩, ⟨3, 3, .ro, 0, false⟩, ⟨2, 2, .w1c, 0, false⟩, ⟨1, 1, .w1c, 0, false⟩, ⟨0, 0, .w1c, 0, false⟩]⟩,  -- PAn_STATUS
  ⟨0x18, [], false, [⟨0, 0, .rw, 0, false⟩]⟩,  -- PAn_CTRL
  ⟨0x1c, [], false, [⟨15, 0, .ro, 0, false⟩]⟩,  -- PAn_RDATA
  ⟨0x20, [], false, [⟨2, 2, .w1c, 0, false⟩, ⟨1, 1, .w1c, 0, false⟩, ⟨0, 0, .w1c, 0, false⟩]⟩,  -- PAn_EVT_STAT
  ⟨0x24, [], false, [⟨2, 0, .rw, 7, false⟩]⟩,  -- PAn_EVT_EN
  ⟨0x40, [(9, 4)], false, [⟨31, 0, .ro, 0, false⟩]⟩,  -- PAn_INHi
  ⟨0x70, [], false, [⟨31, 0, .ro, 0, false⟩]⟩,  -- PAn_FAULTS
  ⟨0x74, [], false, [⟨0, 0, .wo, 0, false⟩]⟩,  -- PAn_CNT_CLR
  ⟨0x400, [], false, [⟨7, 0, .rw, 0, false⟩]⟩,  -- PAn_OP_IW
  ⟨0x404, [], false, [⟨7, 0, .rw, 0, false⟩]⟩,  -- PAn_OP_LWR
  ⟨0x408, [], false, [⟨7, 0, .rw, 0, false⟩]⟩,  -- PAn_OP_LBIAS
  ⟨0x40c, [], false, [⟨7, 0, .rw, 0, false⟩]⟩]  -- PAn_OP_AUX

/-- PAn: base, instances, stride, the offsets of its BLOCK_BASIC and lock registers, its rows (R333). -/
def unitPAInst : RegUnit :=
  ⟨0x40151000, 4, 0x1000, some 0, none, unitPAInstRows0⟩

/-- Registers of AST (spec/09*, R333), part 0. -/
def unitASTRows0 : List RegRow := [
  ⟨0, [], false, [⟨9, 9, .wo, 0, false⟩, ⟨8, 8, .ro, 0, false⟩, ⟨7, 4, .rw, 0, false⟩, ⟨0, 0, .rw, 0, false⟩]⟩,  -- AST_BASIC
  ⟨4, [], false, [⟨0, 0, .w1s, 0, false⟩]⟩,  -- AST_LOCK
  ⟨8, [], true, [⟨7, 0, .rw, 4, false⟩]⟩,  -- AST_GUARD
  ⟨0x10, [], false, [⟨11, 8, .ro, 0, false⟩, ⟨7, 0, .ro, 0, false⟩]⟩,  -- AST_STAT
  ⟨0x20, [], false, [⟨2, 2, .w1c, 0, false⟩, ⟨1, 1, .w1c, 0, false⟩, ⟨0, 0, .w1c, 0, false⟩]⟩,  -- AST_EVT_STAT
  ⟨0x24, [], false, [⟨2, 0, .rw, 7, false⟩]⟩,  -- AST_EVT_EN
  ⟨0x30, [(4, 4)], false, [⟨31, 0, .ro, 0, false⟩]⟩,  -- AST_LATEn
  ⟨0x40, [(4, 4)], false, [⟨31, 0, .ro, 0, false⟩]⟩,  -- AST_OVERONn
  ⟨0x50, [], false, [⟨0, 0, .wo, 0, false⟩]⟩,  -- AST_CNT_CLR
  ⟨0x100, [(40, 4)], false, [⟨15, 0, .rwl, 0, false⟩]⟩,  -- AST_LDLY_n
  ⟨0x400, [(4, 0x200)], false, [⟨0, 0, .rw, 0, false⟩]⟩,  -- AST_OPn_CTRL
  ⟨0x404, [(4, 0x200)], false, [⟨20, 16, .rw, 0, false⟩, ⟨15, 8, .rw, 0, false⟩, ⟨7, 2, .rw, 0, false⟩, ⟨0, 0, .rw, 0, false⟩]⟩]  -- AST_OPn_MOD

/-- AST: base, instances, stride, the offsets of its BLOCK_BASIC and lock registers, its rows (R333). -/
def unitAST : RegUnit :=
  ⟨0x40140000, 1, 0x10000, some 0, some 4, unitASTRows0⟩

/-- Registers of SVDn (spec/10*, R372), part 0. -/
def unitSVDInstRows0 : List RegRow := [
  ⟨0, [], false, [⟨9, 9, .wo, 0, false⟩, ⟨8, 8, .ro, 0, false⟩, ⟨7, 4, .rw, 0, false⟩, ⟨0, 0, .rw, 0, false⟩]⟩,  -- SVDn_BASIC
  ⟨4, [], false, [⟨0, 0, .w1s, 0, false⟩]⟩,  -- SVDn_LOCK
  ⟨8, [], true, [⟨31, 24, .rw, 0, false⟩, ⟨23, 16, .rw, 0, false⟩, ⟨7, 0, .rw, 0, false⟩]⟩,  -- SVDn_CFG0
  ⟨0xc, [], true, [⟨15, 8, .rw, 0, false⟩, ⟨7, 0, .rw, 0, false⟩]⟩,  -- SVDn_CFG1
  ⟨0x40, [], false, [⟨31, 31, .ro, 0, false⟩, ⟨30, 30, .ro, 0, false⟩, ⟨29, 24, .ro, 0, false⟩, ⟨9, 0, .ro, 0, false⟩]⟩,  -- SVDn_STATUS
  ⟨0x44, [], false, [⟨31, 0, .ro, 0, false⟩]⟩,  -- SVDn_POS_LO
  ⟨0x48, [], false, [⟨3, 0, .ro, 0, false⟩]⟩,  -- SVDn_POS_HI
  ⟨0x4c, [], false, [⟨15, 0, .ro, 0, false⟩]⟩,  -- SVDn_PES
  ⟨0x50, [], false, [⟨15, 0, .ro, 0, false⟩]⟩,  -- SVDn_AMP
  ⟨0x60, [], false, [⟨31, 0, .ro, 0, false⟩]⟩,  -- SVDn_SAMPLES
  ⟨0x64, [], false, [⟨31, 0, .ro, 0, false⟩]⟩,  -- SVDn_SAMMISS
  ⟨0x68, [], false, [⟨31, 0, .ro, 0, false⟩]⟩,  -- SVDn_IDXERR
  ⟨0x6c, [], false, [⟨31, 0, .ro, 0, false⟩]⟩,  -- SVDn_LOWAMP
  ⟨0x70, [], false, [⟨31, 0, .ro, 0, false⟩]⟩,  -- SVDn_CYLERR
  ⟨0x74, [], false, [⟨31, 0, .ro, 0, false⟩]⟩,  -- SVDn_LOCKLOSS
  ⟨0x78, [], false, [⟨0, 0, .wo, 0, false⟩]⟩,  -- SVDn_CNT_CLR
  ⟨0x80, [], false, [⟨0, 0, .w1c, 0, false⟩]⟩,  -- SVDn_EVT_STAT
  ⟨0x84, [], false, [⟨0, 0, .rw, 1, false⟩]⟩,  -- SVDn_EVT_EN
  ⟨0x100, [(10, 4)], false, [⟨15, 0, .rwl, 0, false⟩]⟩,  -- SVDn_JOG_i
  ⟨0x400, [(10, 0x110), (65, 4)], false, [⟨15, 0, .rwl, 0, false⟩]⟩]  -- SVDn_LIN_j_i

/-- SVDn: base, instances, stride, the offsets of its BLOCK_BASIC and lock registers, its rows (R372). -/
def unitSVDInst : RegUnit :=
  ⟨0x40160000, 4, 0x1000, some 0, some 4, unitSVDInstRows0⟩

/-- Registers of SVD (spec/10*, R372), part 0. -/
def unitSVDRows0 : List RegRow := [
  ⟨0x4000, [], false, [⟨15, 0, .rwl, 0, false⟩]⟩]  -- SVD_SB

/-- SVD: base, instances, stride, the offsets of its BLOCK_BASIC and lock registers, its rows (R372). -/
def unitSVD : RegUnit :=
  ⟨0x40160000, 1, 0x10000, none, none, unitSVDRows0⟩

/-- Registers of SVD_CAPn (spec/10*, R372), part 0. -/
def unitSVDCAPInstRows0 : List RegRow := [
  ⟨0, [], false, [⟨30, 28, .rwo, 0, false⟩, ⟨26, 26, .rwo, 0, false⟩, ⟨25, 25, .rwo, 0, false⟩, ⟨23, 16, .rwo, 0, false⟩, ⟨14, 0, .rwo, 0, false⟩]⟩,  -- SVD_CAPn_CFG
  ⟨4, [], false, [⟨31, 0, .rwo, 0, false⟩]⟩,  -- SVD_CAPn_CH
  ⟨8, [], false, [⟨1, 1, .rwoAct, 0, false⟩, ⟨0, 0, .rwoAct, 0, false⟩]⟩,  -- SVD_CAPn_CTRL
  ⟨0xc, [], false, [⟨31, 31, .ro, 0, false⟩, ⟨30, 30, .ro, 0, false⟩, ⟨18, 18, .ro, 0, false⟩, ⟨17, 17, .ro, 0, false⟩, ⟨16, 16, .ro, 0, false⟩, ⟨14, 0, .ro, 0, false⟩]⟩,  -- SVD_CAPn_STAT
  ⟨0x10, [], false, [⟨13, 0, .ro, 0, false⟩]⟩]  -- SVD_CAPn_NEXT

/-- SVD_CAPn: base, instances, stride, the offsets of its BLOCK_BASIC and lock registers, its rows (R372). -/
def unitSVDCAPInst : RegUnit :=
  ⟨0x40168000, 2, 0x100, none, none, unitSVDCAPInstRows0⟩

/-- Registers of SCEn (spec/10*, R372), part 0. -/
def unitSCEInstRows0 : List RegRow := [
  ⟨0, [], false, [⟨9, 9, .wo, 0, false⟩, ⟨8, 8, .ro, 0, false⟩, ⟨7, 4, .rw, 0, false⟩, ⟨0, 0, .rw, 0, false⟩]⟩,  -- SCEn_BASIC
  ⟨4, [], false, [⟨0, 0, .w1s, 0, false⟩]⟩,  -- SCEn_LOCK
  ⟨8, [], false, [⟨4, 4, .wo, 0, false⟩, ⟨3, 3, .wo, 0, false⟩, ⟨2, 2, .wo, 0, false⟩, ⟨1, 1, .wo, 0, false⟩, ⟨0, 0, .wo, 0, false⟩]⟩,  -- SCEn_CTRL
  ⟨0xc, [], false, [⟨26, 24, .ro, 0, false⟩, ⟨9, 9, .ro, 0, false⟩, ⟨8, 8, .ro, 0, false⟩]⟩,  -- SCEn_STATUS
  ⟨0x10, [], false, [⟨31, 16, .ro, 0, false⟩, ⟨15, 0, .ro, 0, false⟩]⟩,  -- SCEn_CYC
  ⟨0x20, [], true, [⟨7, 4, .rw, 0, false⟩, ⟨3, 0, .rw, 0, false⟩]⟩,  -- SCEn_STRUCT
  ⟨0x24, [], true, [⟨31, 16, .rw, 0, false⟩, ⟨15, 0, .rw, 0, false⟩]⟩,  -- SCEn_EST0
  ⟨0x28, [], true, [⟨31, 16, .rw, 0, false⟩, ⟨15, 0, .rw, 0, false⟩]⟩,  -- SCEn_EST1
  ⟨0x2c, [], true, [⟨31, 24, .rw, 0, false⟩, ⟨23, 16, .rw, 0, false⟩, ⟨15, 0, .rw, 0, false⟩]⟩,  -- SCEn_SEEK
  ⟨0x30, [], true, [⟨31, 16, .rw, 0, false⟩, ⟨15, 0, .rw, 0, false⟩]⟩,  -- SCEn_SETTLE0
  ⟨0x34, [], true, [⟨31, 28, .rw, 0, false⟩, ⟨27, 16, .rw, 0, false⟩, ⟨15, 0, .rw, 0, false⟩]⟩,  -- SCEn_SETTLE1
  ⟨0x38, [], true, [⟨31, 16, .rw, 0, false⟩, ⟨15, 0, .rw, 0, false⟩]⟩,  -- SCEn_RED
  ⟨0x3c, [], true, [⟨31, 16, .rw, 0, false⟩, ⟨15, 0, .rw, 0, false⟩]⟩,  -- SCEn_RAMP
  ⟨0x40, [], true, [⟨31, 16, .rw, 0, false⟩, ⟨3, 0, .rw, 4, false⟩]⟩,  -- SCEn_HOVER
  ⟨0x44, [], true, [⟨16, 16, .rw, 0, false⟩, ⟨15, 0, .rw, 0, false⟩]⟩,  -- SCEn_FF
  ⟨0x48, [], true, [⟨15, 0, .rw, 0, false⟩]⟩,  -- SCEn_SEEK1
  ⟨0x100, [(8, 0x14), (5, 4)], true, [⟨31, 0, .rw, 0, false⟩]⟩,  -- SCEn_VBQk_c
  ⟨0x200, [(4, 0x14), (5, 4)], true, [⟨31, 0, .rw, 0, false⟩]⟩,  -- SCEn_MBQk_c
  ⟨0x300, [(65, 4)], false, [⟨15, 0, .rwl, 0, false⟩]⟩,  -- SCEn_VPROF_i
  ⟨0x480, [], false, [⟨31, 24, .rwl, 0, false⟩, ⟨20, 16, .rwl, 0, false⟩, ⟨15, 0, .rwl, 0, false⟩]⟩]  -- SCEn_TBL

/-- Registers of SCEn (spec/10*, R372), part 1. -/
def unitSCEInstRows1 : List RegRow := [
  ⟨0x800, [(129, 4)], false, [⟨31, 16, .rwl, 0, false⟩, ⟨15, 0, .rwl, 0, false⟩]⟩]  -- SCEn_FFT_i

/-- SCEn: base, instances, stride, the offsets of its BLOCK_BASIC and lock registers, its rows (R372). -/
def unitSCEInst : RegUnit :=
  ⟨0x40180000, 8, 0x1000, some 0, some 4, unitSCEInstRows0 ++ unitSCEInstRows1⟩

/-- Registers of SCE_PAIRn (spec/10*, R372), part 0. -/
def unitSCEPAIRInstRows0 : List RegRow := [
  ⟨0, [], false, [⟨26, 24, .ro, 0, false⟩, ⟨22, 16, .ro, 0, false⟩, ⟨14, 8, .ro, 0, false⟩]⟩,  -- SCE_PAIRn_STATUS
  ⟨4, [], false, [⟨31, 31, .ro, 0, false⟩, ⟨29, 24, .ro, 0, false⟩, ⟨23, 0, .ro, 0, false⟩]⟩,  -- SCE_PAIRn_TARGET
  ⟨8, [], false, [⟨15, 0, .rw, 0, false⟩]⟩,  -- SCE_PAIRn_TOFF
  ⟨0xc, [], false, [⟨31, 16, .rwo, 0, false⟩, ⟨8, 8, .rwo, 0, false⟩, ⟨5, 4, .rwo, 0, false⟩, ⟨2, 0, .rwo, 0, false⟩]⟩,  -- SCE_PAIRn_INJ0
  ⟨0x10, [], false, [⟨31, 0, .rwo, 0, false⟩]⟩,  -- SCE_PAIRn_INJ1
  ⟨0x14, [], false, [⟨31, 0, .rwo, 0, false⟩]⟩,  -- SCE_PAIRn_INJ2
  ⟨0x18, [], false, [⟨3, 3, .w1c, 0, false⟩, ⟨2, 2, .w1c, 0, false⟩, ⟨1, 1, .w1c, 0, false⟩, ⟨0, 0, .w1c, 0, false⟩]⟩,  -- SCE_PAIRn_EVT_STAT
  ⟨0x1c, [], false, [⟨3, 0, .rw, 7, false⟩]⟩,  -- SCE_PAIRn_EVT_EN
  ⟨0x20, [], false, [⟨31, 0, .ro, 0, false⟩]⟩,  -- SCE_PAIRn_OVR
  ⟨0x24, [], false, [⟨31, 0, .ro, 0, false⟩]⟩,  -- SCE_PAIRn_REDS
  ⟨0x28, [], false, [⟨31, 0, .ro, 0, false⟩]⟩,  -- SCE_PAIRn_HOVERS
  ⟨0x2c, [], false, [⟨31, 0, .ro, 0, false⟩]⟩]  -- SCE_PAIRn_SEEKS

/-- SCE_PAIRn: base, instances, stride, the offsets of its BLOCK_BASIC and lock registers, its rows (R372). -/
def unitSCEPAIRInst : RegUnit :=
  ⟨0x40188000, 4, 0x100, none, none, unitSCEPAIRInstRows0⟩

/-- Registers of SCE (spec/10*, R372), part 0. -/
def unitSCERows0 : List RegRow := [
  ⟨0x8400, [], false, [⟨21, 0, .rw, 0xccccd, false⟩]⟩,  -- SCE_DEADLINE
  ⟨0x8404, [], false, [⟨0, 0, .wo, 0, false⟩]⟩]  -- SCE_CNT_CLR

/-- SCE: base, instances, stride, the offsets of its BLOCK_BASIC and lock registers, its rows (R372). -/
def unitSCE : RegUnit :=
  ⟨0x40180000, 1, 0x10000, none, none, unitSCERows0⟩

/-- Registers of VCDn (spec/10*, R372), part 0. -/
def unitVCDInstRows0 : List RegRow := [
  ⟨0, [], false, [⟨9, 9, .wo, 0, false⟩, ⟨8, 8, .ro, 0, false⟩, ⟨7, 4, .rw, 0, false⟩, ⟨0, 0, .rw, 0, false⟩]⟩,  -- VCDn_BASIC
  ⟨4, [], false, [⟨0, 0, .w1s, 0, false⟩]⟩,  -- VCDn_LOCK
  ⟨8, [], true, [⟨31, 16, .rw, 0, false⟩, ⟨15, 15, .rw, 0, false⟩, ⟨11, 0, .rw, 0xfa, false⟩]⟩,  -- VCDn_LOOP
  ⟨0xc, [], false, [⟨9, 8, .rwl, 0, false⟩, ⟨6, 0, .rwl, 0, false⟩]⟩,  -- VCDn_SCALE
  ⟨0x10, [], false, [⟨31, 16, .rwl, 0, false⟩, ⟨15, 0, .rwl, 0, false⟩]⟩,  -- VCDn_ILIM_CFG
  ⟨0x14, [], false, [⟨15, 0, .rwl, 0, false⟩]⟩,  -- VCDn_IHOT
  ⟨0x18, [], false, [⟨31, 16, .rwl, 0, false⟩, ⟨15, 0, .rwl, 0, false⟩]⟩,  -- VCDn_TH0
  ⟨0x1c, [], false, [⟨31, 24, .rwl, 0, false⟩, ⟨23, 16, .rwl, 0, false⟩, ⟨15, 0, .rwl, 0, false⟩]⟩,  -- VCDn_TH1
  ⟨0x20, [], false, [⟨23, 0, .rwl, 0, false⟩]⟩,  -- VCDn_TAU
  ⟨0x24, [], false, [⟨2, 0, .rwl, 0, false⟩]⟩,  -- VCDn_TSEN
  ⟨0x40, [], false, [⟨31, 24, .ro, 0x64, false⟩, ⟨18, 16, .ro, 0, false⟩, ⟨2, 0, .ro, 0, false⟩]⟩,  -- VCDn_STATUS
  ⟨0x44, [], false, [⟨15, 0, .ro, 0, false⟩]⟩,  -- VCDn_ILIM
  ⟨0x48, [], false, [⟨15, 0, .ro, 0, false⟩]⟩,  -- VCDn_TCOIL
  ⟨0x4c, [], false, [⟨31, 16, .ro, 0, false⟩, ⟨15, 0, .ro, 0, false⟩]⟩,  -- VCDn_IMEAS
  ⟨0x50, [], false, [⟨15, 0, .ro, 0, false⟩]⟩,  -- VCDn_VCOIL
  ⟨0x60, [], false, [⟨31, 0, .ro, 0, false⟩]⟩,  -- VCDn_CLAMPS
  ⟨0x64, [], false, [⟨31, 0, .ro, 0, false⟩]⟩,  -- VCDn_DWELLS
  ⟨0x68, [], false, [⟨31, 0, .ro, 0, false⟩]⟩,  -- VCDn_OCTRIPS
  ⟨0x6c, [], false, [⟨31, 0, .ro, 0, false⟩]⟩,  -- VCDn_THSPANS
  ⟨0x70, [], false, [⟨0, 0, .wo, 0, false⟩]⟩]  -- VCDn_CNT_CLR

/-- Registers of VCDn (spec/10*, R372), part 1. -/
def unitVCDInstRows1 : List RegRow := [
  ⟨0x78, [], false, [⟨2, 2, .w1c, 0, false⟩, ⟨1, 1, .w1c, 0, false⟩, ⟨0, 0, .w1c, 0, false⟩]⟩,  -- VCDn_EVT_STAT
  ⟨0x7c, [], false, [⟨2, 0, .rw, 3, false⟩]⟩]  -- VCDn_EVT_EN

/-- VCDn: base, instances, stride, the offsets of its BLOCK_BASIC and lock registers, its rows (R372). -/
def unitVCDInst : RegUnit :=
  ⟨0x401a0000, 4, 0x1000, some 0, some 4, unitVCDInstRows0 ++ unitVCDInstRows1⟩

/-- Registers of MADn (spec/10*, R372), part 0. -/
def unitMADInstRows0 : List RegRow := [
  ⟨4, [], false, [⟨0, 0, .w1s, 0, false⟩]⟩,  -- MADn_LOCK
  ⟨8, [], false, [⟨31, 16, .rwl, 0, false⟩, ⟨15, 0, .rwl, 0, false⟩]⟩,  -- MADn_CFG
  ⟨0x40, [], false, [⟨15, 0, .ro, 0, false⟩]⟩,  -- MADn_OUT
  ⟨0x60, [], false, [⟨31, 0, .ro, 0, false⟩]⟩,  -- MADn_CLAMPS
  ⟨0x70, [], false, [⟨0, 0, .wo, 0, false⟩]⟩]  -- MADn_CNT_CLR

/-- MADn: base, instances, stride, the offsets of its BLOCK_BASIC and lock registers, its rows (R372). -/
def unitMADInst : RegUnit :=
  ⟨0x401a8000, 4, 0x1000, none, some 4, unitMADInstRows0⟩

/-- Registers of SRFn (spec/11*, R392), part 0. -/
def unitSRFInstRows0 : List RegRow := [
  ⟨0, [], false, [⟨9, 9, .wo, 0, false⟩, ⟨8, 8, .ro, 0, false⟩, ⟨7, 4, .rw, 0, false⟩, ⟨0, 0, .rw, 0, false⟩]⟩,  -- SRFn_BASIC
  ⟨4, [], true, [⟨31, 24, .rw, 0x18, false⟩, ⟨23, 16, .rw, 8, false⟩, ⟨15, 8, .rw, 0x40, false⟩, ⟨7, 4, .rw, 3, false⟩, ⟨0, 0, .rw, 1, false⟩]⟩,  -- SRFn_CFG
  ⟨8, [], true, [⟨31, 16, .rw, 0, false⟩, ⟨15, 0, .rw, 0, false⟩]⟩,  -- SRFn_REF0
  ⟨0xc, [], true, [⟨31, 16, .rw, 0, false⟩, ⟨15, 0, .rw, 0, false⟩]⟩,  -- SRFn_REF1
  ⟨0x10, [], false, [⟨5, 5, .rwoAct, 0, false⟩, ⟨4, 4, .rwoAct, 0, false⟩, ⟨3, 3, .rwoAct, 0, false⟩, ⟨2, 2, .rwoAct, 0, false⟩, ⟨0, 0, .rwo, 0, false⟩]⟩,  -- SRFn_CTRL
  ⟨0x14, [], false, [⟨26, 24, .ro, 0, false⟩, ⟨22, 20, .ro, 0, false⟩, ⟨16, 16, .ro, 0, false⟩, ⟨15, 15, .ro, 0, false⟩, ⟨14, 14, .ro, 0, false⟩, ⟨9, 0, .ro, 0, false⟩]⟩,  -- SRFn_STATUS
  ⟨0x18, [], false, [⟨31, 28, .ro, 0, false⟩, ⟨24, 24, .ro, 0, false⟩, ⟨9, 0, .ro, 0, false⟩]⟩,  -- SRFn_JUDGE
  ⟨0x1c, [], false, [⟨15, 0, .ro, 0, false⟩]⟩,  -- SRFn_UREF
  ⟨0x20, [], false, [⟨4, 4, .w1c, 0, false⟩, ⟨3, 3, .w1c, 0, false⟩, ⟨2, 2, .w1c, 0, false⟩, ⟨1, 1, .w1c, 0, false⟩, ⟨0, 0, .w1c, 0, false⟩]⟩,  -- SRFn_EVT_STAT
  ⟨0x24, [], false, [⟨4, 0, .rw, 0x1f, false⟩]⟩,  -- SRFn_EVT_EN
  ⟨0x40, [], false, [⟨31, 0, .ro, 0, false⟩]⟩,  -- SRFn_CMP
  ⟨0x44, [], false, [⟨31, 0, .ro, 0, false⟩]⟩,  -- SRFn_MISMATCH
  ⟨0x48, [], false, [⟨31, 0, .ro, 0, false⟩]⟩,  -- SRFn_ABSENT
  ⟨0x4c, [], false, [⟨31, 0, .ro, 0, false⟩]⟩,  -- SRFn_SELF
  ⟨0x50, [], false, [⟨31, 0, .ro, 0, false⟩]⟩,  -- SRFn_REFFAIL
  ⟨0x54, [], false, [⟨31, 0, .ro, 0, false⟩]⟩,  -- SRFn_SWITCH
  ⟨0x58, [], false, [⟨31, 0, .ro, 0, false⟩]⟩,  -- SRFn_RESYNC
  ⟨0x5c, [], false, [⟨31, 0, .ro, 0, false⟩]⟩,  -- SRFn_EXPIRE
  ⟨0x60, [], false, [⟨31, 0, .ro, 0, false⟩]⟩,  -- SRFn_RETIRE
  ⟨0x70, [], false, [⟨0, 0, .wo, 0, false⟩]⟩]  -- SRFn_CNT_CLR

/-- SRFn: base, instances, stride, the offsets of its BLOCK_BASIC and lock registers, its rows (R392). -/
def unitSRFInst : RegUnit :=
  ⟨0x40190000, 4, 0x1000, some 0, none, unitSRFInstRows0⟩

/-- Registers of SMC (spec/12*, R428), part 0. -/
def unitSMCRows0 : List RegRow := [
  ⟨0, [], false, [⟨9, 9, .wo, 0, false⟩, ⟨8, 8, .ro, 0, false⟩, ⟨7, 4, .rw, 0, false⟩, ⟨0, 0, .rw, 0, false⟩]⟩,  -- SMC_BASIC
  ⟨4, [], false, [⟨0, 0, .w1s, 0, false⟩]⟩,  -- SMC_LOCK
  ⟨8, [], false, [⟨1, 1, .wo, 0, false⟩, ⟨0, 0, .wo, 0, false⟩]⟩,  -- SMC_CTRL
  ⟨0xc, [], false, [⟨25, 25, .ro, 0, false⟩, ⟨24, 24, .ro, 0, false⟩, ⟨23, 23, .ro, 0, false⟩, ⟨22, 22, .ro, 0, false⟩, ⟨21, 21, .ro, 0, false⟩, ⟨20, 20, .ro, 0, false⟩, ⟨17, 16, .ro, 0, false⟩, ⟨14, 12, .ro, 0, false⟩, ⟨9, 8, .ro, 0, false⟩, ⟨3, 0, .ro, 0, false⟩]⟩,  -- SMC_STATUS
  ⟨0x10, [], false, [⟨17, 16, .rw, 0, false⟩, ⟨15, 0, .rw, 0, false⟩]⟩,  -- SMC_SETPT
  ⟨0x14, [], false, [⟨31, 16, .ro, 0, false⟩, ⟨15, 0, .ro, 0, false⟩]⟩,  -- SMC_SPEED
  ⟨0x18, [], false, [⟨31, 16, .rwl, 0x9c40, false⟩, ⟨9, 8, .rwl, 0, false⟩, ⟨6, 0, .rwl, 0, false⟩]⟩,  -- SMC_PWM
  ⟨0x1c, [], false, [⟨31, 16, .rwl, 0, false⟩, ⟨15, 0, .rwl, 0, false⟩]⟩,  -- SMC_ILIM
  ⟨0x20, [], true, [⟨31, 24, .rw, 2, false⟩, ⟨23, 16, .rw, 0x20, false⟩, ⟨15, 0, .rw, 0x5400, false⟩]⟩,  -- SMC_START
  ⟨0x24, [], true, [⟨31, 16, .rw, 0x1000, false⟩, ⟨15, 0, .rw, 0x800, false⟩]⟩,  -- SMC_START1
  ⟨0x28, [], true, [⟨31, 16, .rw, 0x1000, false⟩, ⟨15, 0, .rw, 0x700, false⟩]⟩,  -- SMC_START2
  ⟨0x2c, [], true, [⟨31, 16, .rw, 0, false⟩, ⟨15, 0, .rw, 0, false⟩]⟩,  -- SMC_SPDLOOP
  ⟨0x30, [], true, [⟨31, 16, .rw, 0x20, false⟩, ⟨15, 0, .rw, 0x20, false⟩]⟩,  -- SMC_RAMP
  ⟨0x34, [], true, [⟨31, 16, .rw, 8, false⟩, ⟨15, 8, .rw, 0x50, false⟩, ⟨7, 0, .rw, 0x10, false⟩]⟩,  -- SMC_PHLOOP
  ⟨0x38, [], true, [⟨31, 24, .rw, 8, false⟩, ⟨15, 0, .rw, 4, false⟩]⟩,  -- SMC_SYNCCFG
  ⟨0x3c, [], true, [⟨31, 24, .rw, 8, false⟩, ⟨15, 0, .rw, 0xe39, false⟩]⟩,  -- SMC_OBS
  ⟨0x40, [], true, [⟨27, 16, .rw, 0xc4e, false⟩, ⟨15, 8, .rw, 5, false⟩, ⟨3, 0, .rw, 4, false⟩]⟩,  -- SMC_HOVER
  ⟨0x44, [], true, [⟨31, 16, .rw, 0x4b0, false⟩, ⟨15, 0, .rw, 0x190, false⟩]⟩,  -- SMC_SPEEDS
  ⟨0x48, [], true, [⟨31, 16, .rw, 0x2000, false⟩, ⟨15, 0, .rw, 0x12c, false⟩]⟩,  -- SMC_CATCH
  ⟨0x4c, [], false, [⟨31, 16, .rwl, 0, false⟩, ⟨15, 0, .rwl, 0, false⟩]⟩]  -- SMC_ISTART

/-- Registers of SMC (spec/12*, R428), part 1. -/
def unitSMCRows1 : List RegRow := [
  ⟨0x50, [], false, [⟨31, 0, .ro, 0, false⟩]⟩,  -- SMC_ROTOFF
  ⟨0x54, [], false, [⟨31, 16, .rwl, 0, false⟩, ⟨15, 0, .rwl, 0, false⟩]⟩,  -- SMC_SPREF
  ⟨0x58, [], false, [⟨11, 0, .ro, 0, false⟩]⟩,  -- SMC_SPREF_IN
  ⟨0x5c, [], false, [⟨23, 8, .rwl, 0, false⟩, ⟨1, 0, .rw, 0, false⟩]⟩,  -- SMC_BRAKE
  ⟨0x60, [], false, [⟨5, 5, .w1c, 0, false⟩, ⟨4, 4, .w1c, 0, false⟩, ⟨3, 3, .w1c, 0, false⟩, ⟨2, 2, .w1c, 0, false⟩, ⟨1, 1, .ro, 0, false⟩, ⟨0, 0, .ro, 0, false⟩]⟩,  -- SMC_FAULT
  ⟨0x64, [], false, [⟨31, 31, .rwl, 0, false⟩, ⟨27, 16, .rwl, 0, false⟩, ⟨11, 0, .rwl, 0, false⟩]⟩,  -- SMC_RETRACT0
  ⟨0x68, [], false, [⟨31, 16, .rwl, 0, false⟩, ⟨15, 0, .rwl, 0, false⟩]⟩,  -- SMC_RETRACT1
  ⟨0x6c, [], false, [⟨31, 16, .rwl, 0, false⟩, ⟨15, 0, .rwl, 0, false⟩]⟩,  -- SMC_MOTOR0
  ⟨0x70, [], false, [⟨31, 16, .rwl, 0, false⟩, ⟨15, 8, .rwl, 0, false⟩, ⟨7, 5, .rwl, 0, false⟩, ⟨4, 0, .rwl, 0, false⟩]⟩,  -- SMC_MOTOR1
  ⟨0x74, [], false, [⟨15, 0, .ro, 0, false⟩]⟩,  -- SMC_VMOT
  ⟨0x78, [], false, [⟨15, 0, .ro, 0, false⟩]⟩,  -- SMC_IBR
  ⟨0x7c, [], false, [⟨31, 0, .ro, 0, false⟩]⟩,  -- SMC_ANGLE
  ⟨0x80, [], false, [⟨15, 0, .ro, 0, false⟩]⟩,  -- SMC_OBSDIFF
  ⟨0x84, [], false, [⟨15, 0, .ro, 0, false⟩]⟩,  -- SMC_TRIM
  ⟨0x90, [], false, [⟨8, 8, .w1c, 0, false⟩, ⟨7, 7, .w1c, 0, false⟩, ⟨6, 6, .w1c, 0, false⟩, ⟨5, 5, .w1c, 0, false⟩, ⟨4, 4, .w1c, 0, false⟩, ⟨3, 3, .w1c, 0, false⟩, ⟨2, 2, .w1c, 0, false⟩, ⟨1, 1, .w1c, 0, false⟩, ⟨0, 0, .w1c, 0, false⟩]⟩,  -- SMC_EVT_STAT
  ⟨0x94, [], false, [⟨8, 0, .rw, 0x1ff, false⟩]⟩,  -- SMC_EVT_EN
  ⟨0xa0, [], false, [⟨31, 0, .ro, 0, false⟩]⟩,  -- SMC_STARTS
  ⟨0xa4, [], false, [⟨31, 0, .ro, 0, false⟩]⟩,  -- SMC_STARTFAIL
  ⟨0xa8, [], false, [⟨31, 0, .ro, 0, false⟩]⟩,  -- SMC_ABORTS
  ⟨0xac, [], false, [⟨31, 0, .ro, 0, false⟩]⟩]  -- SMC_BACKJ

/-- Registers of SMC (spec/12*, R428), part 2. -/
def unitSMCRows2 : List RegRow := [
  ⟨0xb0, [], false, [⟨31, 0, .ro, 0, false⟩]⟩,  -- SMC_OBSLOSS
  ⟨0xb4, [], false, [⟨31, 0, .ro, 0, false⟩]⟩,  -- SMC_CATCHES
  ⟨0xb8, [], false, [⟨31, 0, .ro, 0, false⟩]⟩,  -- SMC_CATCHFAIL
  ⟨0xbc, [], false, [⟨31, 0, .ro, 0, false⟩]⟩,  -- SMC_OCTRIPS
  ⟨0xc0, [], false, [⟨31, 0, .ro, 0, false⟩]⟩,  -- SMC_CHOPON
  ⟨0xc4, [], false, [⟨31, 0, .ro, 0, false⟩]⟩,  -- SMC_HOVERS
  ⟨0xd0, [], false, [⟨0, 0, .wo, 0, false⟩]⟩,  -- SMC_CNT_CLR
  ⟨0x100, [(256, 4)], false, [⟨15, 0, .rwl, 0, false⟩]⟩,  -- SMC_WAVE_i
  ⟨0x500, [(256, 4)], false, [⟨15, 0, .rwl, 0, false⟩]⟩]  -- SMC_COG_i

/-- SMC: base, instances, stride, the offsets of its BLOCK_BASIC and lock registers, its rows (R428). -/
def unitSMC : RegUnit :=
  ⟨0x401b0000, 1, 0x10000, some 0, some 4, unitSMCRows0 ++ unitSMCRows1 ++ unitSMCRows2⟩

/-- Registers of CXE (spec/13*, R456), part 0. -/
def unitCXERows0 : List RegRow := [
  ⟨0, [], false, [⟨9, 9, .wo, 0, false⟩, ⟨8, 8, .ro, 0, false⟩, ⟨7, 4, .rw, 0, false⟩, ⟨0, 0, .rw, 0, false⟩]⟩,  -- CXE_BASIC
  ⟨4, [], true, [⟨31, 24, .rw, 0x78, false⟩, ⟨8, 8, .rw, 1, false⟩, ⟨3, 0, .rw, 3, false⟩]⟩,  -- CXE_CFG
  ⟨0x10, [], false, [⟨24, 16, .ro, 0, false⟩, ⟨10, 8, .ro, 0, false⟩, ⟨1, 0, .ro, 0, false⟩]⟩,  -- CXE_STATUS
  ⟨0x20, [], false, [⟨2, 2, .w1c, 0, false⟩, ⟨1, 1, .w1c, 0, false⟩, ⟨0, 0, .w1c, 0, false⟩]⟩,  -- CXE_EVT_STAT
  ⟨0x24, [], false, [⟨2, 0, .rw, 7, false⟩]⟩,  -- CXE_EVT_EN
  ⟨0x30, [], false, [⟨31, 28, .ro, 0, false⟩, ⟨22, 16, .ro, 0, false⟩, ⟨15, 0, .ro, 0, false⟩]⟩,  -- CXE_DERR0
  ⟨0x34, [], false, [⟨19, 0, .ro, 0, false⟩]⟩,  -- CXE_DERR1
  ⟨0x100, [], false, [⟨31, 0, .ro, 0, false⟩]⟩,  -- CXE_INKIB
  ⟨0x104, [], false, [⟨31, 0, .ro, 0, false⟩]⟩,  -- CXE_OUTKIB
  ⟨0x108, [], false, [⟨31, 0, .ro, 0, false⟩]⟩,  -- CXE_BLOCKS
  ⟨0x10c, [], false, [⟨31, 0, .ro, 0, false⟩]⟩,  -- CXE_RAWBLK
  ⟨0x110, [], false, [⟨31, 0, .ro, 0, false⟩]⟩,  -- CXE_SEALS
  ⟨0x114, [], false, [⟨31, 0, .ro, 0, false⟩]⟩,  -- CXE_SWITCH
  ⟨0x118, [], false, [⟨31, 0, .ro, 0, false⟩]⟩,  -- CXE_DBLOCKS
  ⟨0x11c, [], false, [⟨31, 0, .ro, 0, false⟩]⟩,  -- CXE_DERRS
  ⟨0x120, [], false, [⟨31, 0, .ro, 0, false⟩]⟩,  -- CXE_CFULL
  ⟨0x140, [], false, [⟨0, 0, .wo, 0, false⟩]⟩]  -- CXE_CNT_CLR

/-- CXE: base, instances, stride, the offsets of its BLOCK_BASIC and lock registers, its rows (R456). -/
def unitCXE : RegUnit :=
  ⟨0x401c0000, 1, 0x10000, some 0, none, unitCXERows0⟩

/-- Registers of MEM (spec/14*, R476), part 0. -/
def unitMEMRows0 : List RegRow := [
  ⟨0, [], false, [⟨9, 9, .wo, 0, false⟩, ⟨8, 8, .ro, 0, false⟩, ⟨7, 4, .rw, 0, false⟩, ⟨0, 0, .rw, 0, false⟩]⟩,  -- MEM_BASIC
  ⟨4, [], false, [⟨0, 0, .w1s, 0, false⟩]⟩,  -- MEM_LOCK
  ⟨8, [], false, [⟨17, 16, .ro, 0, false⟩, ⟨12, 12, .ro, 0, false⟩, ⟨8, 8, .ro, 0, false⟩, ⟨3, 0, .ro, 0, false⟩]⟩,  -- MEM_CFG
  ⟨0xc, [], false, [⟨31, 31, .ro, 0, false⟩, ⟨30, 30, .ro, 0, false⟩, ⟨29, 29, .ro, 0, false⟩, ⟨27, 24, .ro, 0, false⟩, ⟨19, 16, .ro, 0, false⟩]⟩,  -- MEM_STATUS
  ⟨0x20, [], true, [⟨31, 16, .rw, 0x5a0, false⟩, ⟨15, 0, .rw, 0x258, false⟩]⟩,  -- SCB_CFG
  ⟨0x24, [], false, [⟨31, 31, .ro, 0, false⟩, ⟨28, 0, .ro, 0, false⟩]⟩,  -- SCB_DPOS
  ⟨0x28, [], false, [⟨31, 31, .ro, 0, false⟩, ⟨21, 0, .ro, 0, false⟩]⟩,  -- SCB_SPOS
  ⟨0x30, [], true, [⟨23, 20, .rw, 4, false⟩, ⟨19, 16, .rw, 6, false⟩, ⟨15, 12, .rw, 8, false⟩, ⟨11, 8, .rw, 4, false⟩, ⟨7, 4, .rw, 1, false⟩, ⟨3, 0, .rw, 0, false⟩]⟩,  -- DMC_ARB
  ⟨0x34, [], true, [⟨15, 0, .rw, 0x20, false⟩]⟩,  -- DMC_ARB1
  ⟨0x40, [], false, [⟨5, 5, .w1c, 0, false⟩, ⟨4, 4, .w1c, 0, false⟩, ⟨3, 3, .w1c, 0, false⟩, ⟨2, 2, .w1c, 0, false⟩, ⟨1, 1, .w1c, 0, false⟩, ⟨0, 0, .w1c, 0, false⟩]⟩,  -- MEM_EVT_STAT
  ⟨0x44, [], false, [⟨5, 0, .rw, 0x3e, false⟩]⟩,  -- MEM_EVT_EN
  ⟨0x50, [], false, [⟨31, 0, .ro, 0, false⟩]⟩,  -- MEM_UE_ADDR_LO
  ⟨0x54, [], false, [⟨3, 0, .ro, 0, false⟩]⟩,  -- MEM_UE_ADDR_HI
  ⟨0x58, [], false, [⟨31, 31, .w1c, 0, false⟩, ⟨30, 30, .w1c, 0, false⟩, ⟨29, 29, .ro, 0, false⟩, ⟨28, 28, .ro, 0, false⟩, ⟨27, 27, .ro, 0, false⟩, ⟨26, 24, .ro, 0, false⟩, ⟨23, 20, .ro, 0, false⟩, ⟨7, 0, .ro, 0, false⟩]⟩,  -- MEM_UE_INFO
  ⟨0x60, [], false, [⟨31, 0, .ro, 0, false⟩]⟩,  -- MEM_CE_ADDR_LO
  ⟨0x64, [], false, [⟨3, 0, .ro, 0, false⟩]⟩,  -- MEM_CE_ADDR_HI
  ⟨0x68, [], false, [⟨31, 31, .w1c, 0, false⟩, ⟨30, 30, .w1c, 0, false⟩, ⟨29, 29, .ro, 0, false⟩, ⟨28, 28, .ro, 0, false⟩, ⟨27, 27, .ro, 0, false⟩, ⟨26, 24, .ro, 0, false⟩, ⟨23, 20, .ro, 0, false⟩, ⟨7, 0, .ro, 0, false⟩]⟩,  -- MEM_CE_INFO
  ⟨0x80, [], false, [⟨22, 0, .rw, 0, false⟩]⟩,  -- MEM_NW_ADDR
  ⟨0x84, [], false, [⟨0, 0, .ro, 0, false⟩]⟩,  -- MEM_NW_RES
  ⟨0xa0, [], false, [⟨31, 31, .rw, 0, false⟩, ⟨30, 30, .rw, 0, false⟩, ⟨29, 29, .rw, 0, false⟩, ⟨28, 28, .rw, 0, false⟩, ⟨24, 24, .rw, 0, false⟩, ⟨23, 20, .rw, 0, false⟩, ⟨19, 10, .rw, 0, false⟩, ⟨9, 0, .rw, 0, false⟩]⟩]  -- MEM_FMR_CTRL

/-- Registers of MEM (spec/14*, R476), part 1. -/
def unitMEMRows1 : List RegRow := [
  ⟨0xa4, [], false, [⟨31, 0, .rw, 0, false⟩]⟩,  -- MEM_FMR_ADDR_LO
  ⟨0xa8, [], false, [⟨3, 0, .rw, 0, false⟩]⟩,  -- MEM_FMR_ADDR_HI
  ⟨0xac, [], false, [⟨31, 0, .ro, 0, false⟩]⟩,  -- MEM_FMR_LAST
  ⟨0x100, [], false, [⟨31, 0, .ro, 0, false⟩]⟩,  -- MEM_SRAM_CE
  ⟨0x104, [], false, [⟨31, 0, .ro, 0, false⟩]⟩,  -- MEM_SRAM_UE
  ⟨0x108, [], false, [⟨31, 0, .ro, 0, false⟩]⟩,  -- MEM_DRAM_CE
  ⟨0x10c, [], false, [⟨31, 0, .ro, 0, false⟩]⟩,  -- MEM_DRAM_UE
  ⟨0x110, [], false, [⟨31, 0, .ro, 0, false⟩]⟩,  -- MEM_POISONRD
  ⟨0x114, [], false, [⟨31, 0, .ro, 0, false⟩]⟩,  -- MEM_NWREAD
  ⟨0x118, [], false, [⟨31, 0, .ro, 0, false⟩]⟩,  -- MEM_SCBCANCEL
  ⟨0x11c, [], false, [⟨31, 0, .ro, 0, false⟩]⟩,  -- MEM_DPASSES
  ⟨0x120, [], false, [⟨31, 0, .ro, 0, false⟩]⟩,  -- MEM_SPASSES
  ⟨0x124, [], false, [⟨31, 0, .ro, 0, false⟩]⟩,  -- MEM_RMTFULL
  ⟨0x140, [], false, [⟨0, 0, .wo, 0, false⟩]⟩,  -- MEM_CNT_CLR
  ⟨0x200, [(32, 4)], false, [⟨31, 31, .rw, 0, false⟩, ⟨30, 30, .ro, 0, false⟩, ⟨22, 0, .rw, 0, false⟩]⟩,  -- MEM_RMT_D_n
  ⟨0x300, [(16, 4)], false, [⟨31, 31, .rw, 0, false⟩, ⟨30, 30, .ro, 0, false⟩, ⟨14, 0, .rw, 0, false⟩]⟩]  -- MEM_RMT_S_n

/-- MEM: base, instances, stride, the offsets of its BLOCK_BASIC and lock registers, its rows (R476). -/
def unitMEM : RegUnit :=
  ⟨0x40060000, 1, 0x10000, some 0, some 4, unitMEMRows0 ++ unitMEMRows1⟩

/-- Registers of EVR (spec/16*, R517), part 0. -/
def unitEVRRows0 : List RegRow := [
  ⟨4, [], false, [⟨0, 0, .w1s, 0, false⟩]⟩,  -- EVR_LOCK
  ⟨8, [], false, [⟨31, 31, .rwo, 1, false⟩, ⟨9, 8, .rwo, 1, false⟩]⟩,  -- EVR_CFG
  ⟨0xc, [], false, [⟨31, 31, .ro, 0, false⟩, ⟨27, 17, .ro, 0, false⟩, ⟨6, 0, .ro, 0, false⟩]⟩,  -- EVR_STATUS
  ⟨0x10, [], false, [⟨31, 0, .rwl, 0, false⟩]⟩,  -- EVR_BOOT
  ⟨0x14, [], false, [⟨1, 1, .wo, 0, false⟩, ⟨0, 0, .wo, 0, false⟩]⟩,  -- EVR_CTRL
  ⟨0x20, [], false, [⟨31, 0, .ro, 0, false⟩]⟩,  -- EVR_DROPQ
  ⟨0x24, [], false, [⟨31, 0, .ro, 0, false⟩]⟩,  -- EVR_DROPRING
  ⟨0x28, [], false, [⟨31, 0, .ro, 0, false⟩]⟩,  -- EVR_WRITTEN
  ⟨0x2c, [], false, [⟨0, 0, .wo, 0, false⟩]⟩,  -- EVR_CNT_CLR
  ⟨0x30, [], false, [⟨1, 1, .w1c, 0, false⟩, ⟨0, 0, .w1c, 0, false⟩]⟩,  -- EVR_EVT_STAT
  ⟨0x34, [], false, [⟨1, 0, .rw, 3, false⟩]⟩,  -- EVR_EVT_EN
  ⟨0x40, [(6, 4)], false, [⟨31, 0, .rw, 0, false⟩]⟩,  -- EVR_POST_Dn
  ⟨0x58, [], false, [⟨31, 16, .wo, 0, false⟩, ⟨4, 4, .wo, 0, false⟩, ⟨3, 2, .wo, 0, false⟩, ⟨1, 0, .wo, 0, false⟩]⟩,  -- EVR_POST_CTRL
  ⟨0x100, [(65, 4)], false, [⟨7, 7, .rwo, 1, false⟩, ⟨5, 4, .rwo, 1, false⟩, ⟨3, 3, .rwo, 0, false⟩, ⟨2, 0, .rwo, 0, false⟩]⟩,  -- EVR_LINE_n
  ⟨0x400, [(8, 0xc0), (48, 4)], false, [⟨31, 0, .rwo, 0, false⟩]⟩]  -- EVR_LIST_n_i

/-- EVR: base, instances, stride, the offsets of its BLOCK_BASIC and lock registers, its rows (R517). -/
def unitEVR : RegUnit :=
  ⟨0x40050000, 1, 0x10000, none, some 4, unitEVRRows0⟩

/-- Registers of VCH (spec/17*, R551), part 0. -/
def unitVCHRows0 : List RegRow := [
  ⟨4, [], false, [⟨0, 0, .w1s, 0, false⟩]⟩,  -- VCH_LOCK
  ⟨8, [], false, [⟨1, 1, .rwl, 0, false⟩, ⟨0, 0, .rwl, 0, false⟩]⟩,  -- VCH_CFG
  ⟨0xc, [], false, [⟨15, 15, .ro, 0, false⟩, ⟨14, 12, .ro, 0, false⟩, ⟨9, 9, .ro, 0, false⟩, ⟨8, 8, .ro, 0, false⟩, ⟨3, 3, .ro, 0, false⟩, ⟨2, 2, .ro, 0, false⟩, ⟨1, 1, .ro, 0, false⟩, ⟨0, 0, .ro, 0, false⟩]⟩,  -- VCH_STATUS
  ⟨0x10, [], false, [⟨22, 16, .ro, 0, false⟩, ⟨6, 0, .ro, 0, false⟩]⟩,  -- VCH_ADDR
  ⟨0x14, [], false, [⟨19, 0, .ro, 0, false⟩]⟩,  -- VCH_UPDLY
  ⟨0x18, [], false, [⟨23, 0, .ro, 0, false⟩]⟩,  -- VCH_ACCDLY
  ⟨0x1c, [], false, [⟨31, 0, .ro, 0, false⟩]⟩,  -- VCH_PERIOD
  ⟨0x20, [], false, [⟨1, 1, .wo, 0, false⟩, ⟨0, 0, .wo, 0, false⟩]⟩,  -- VCH_CTRL
  ⟨0x28, [], false, [⟨31, 0, .ro, 0, false⟩]⟩,  -- VCH_TREF_MLO
  ⟨0x2c, [], false, [⟨31, 0, .ro, 0, false⟩]⟩,  -- VCH_TREF_MHI
  ⟨0x30, [], false, [⟨31, 0, .ro, 0, false⟩]⟩,  -- VCH_TREF_TLO
  ⟨0x34, [], false, [⟨31, 0, .ro, 0, false⟩]⟩,  -- VCH_TREF_THI
  ⟨0x38, [], false, [⟨31, 0, .ro, 0, false⟩]⟩,  -- VCH_TREF_OLO
  ⟨0x3c, [], false, [⟨31, 0, .ro, 0, false⟩]⟩,  -- VCH_TREF_OHI
  ⟨0x40, [], false, [⟨5, 5, .w1c, 0, false⟩, ⟨4, 4, .w1c, 0, false⟩, ⟨3, 3, .w1c, 0, false⟩, ⟨2, 2, .w1c, 0, false⟩, ⟨1, 1, .w1c, 0, false⟩, ⟨0, 0, .w1c, 0, false⟩]⟩,  -- VCH_EVT_STAT
  ⟨0x44, [], false, [⟨5, 0, .rw, 0x3f, false⟩]⟩,  -- VCH_EVT_EN
  ⟨0x60, [], false, [⟨31, 0, .ro, 0, false⟩]⟩,  -- VCH_SYNCACC
  ⟨0x64, [], false, [⟨31, 0, .ro, 0, false⟩]⟩,  -- VCH_SYNCREJ
  ⟨0x68, [], false, [⟨31, 0, .ro, 0, false⟩]⟩,  -- VCH_HOLDS
  ⟨0x6c, [], false, [⟨31, 0, .ro, 0, false⟩]⟩]  -- VCH_CRCERR

/-- Registers of VCH (spec/17*, R551), part 1. -/
def unitVCHRows1 : List RegRow := [
  ⟨0x70, [], false, [⟨31, 0, .ro, 0, false⟩]⟩,  -- VCH_CODEERR
  ⟨0x74, [], false, [⟨31, 0, .ro, 0, false⟩]⟩,  -- VCH_ENUMS
  ⟨0x78, [], false, [⟨31, 0, .ro, 0, false⟩]⟩,  -- VCH_RXDROP
  ⟨0x7c, [], false, [⟨31, 0, .ro, 0, false⟩]⟩,  -- VCH_REFUSED
  ⟨0x80, [], false, [⟨31, 0, .ro, 0, false⟩]⟩,  -- VCH_ATTACHES
  ⟨0x90, [], false, [⟨0, 0, .wo, 0, false⟩]⟩]  -- VCH_CNT_CLR

/-- VCH: base, instances, stride, the offsets of its BLOCK_BASIC and lock registers, its rows (R551). -/
def unitVCH : RegUnit :=
  ⟨0x40040000, 1, 0x10000, none, some 4, unitVCHRows0 ++ unitVCHRows1⟩

/-- Registers of OWN (spec/17*, R551), part 0. -/
def unitOWNRows0 : List RegRow := [
  ⟨4, [], false, [⟨31, 16, .ro, 0, false⟩, ⟨10, 8, .ro, 0, false⟩, ⟨5, 4, .ro, 0, false⟩, ⟨2, 0, .ro, 0, false⟩]⟩,  -- OWN_STATE
  ⟨8, [], false, [⟨31, 24, .rwo, 0x3c, false⟩, ⟨15, 8, .rwo, 0xa, false⟩, ⟨7, 0, .rwo, 0xa, false⟩]⟩,  -- OWN_CFG
  ⟨0xc, [], false, [⟨31, 0, .ro, 0, false⟩]⟩,  -- OWN_LEFT
  ⟨0x10, [], false, [⟨1, 1, .w1c, 0, false⟩, ⟨0, 0, .w1c, 0, false⟩]⟩,  -- OWN_EVT_STAT
  ⟨0x14, [], false, [⟨1, 0, .rw, 3, false⟩]⟩,  -- OWN_EVT_EN
  ⟨0x20, [], false, [⟨31, 0, .ro, 0, false⟩]⟩,  -- OWN_CHANGES
  ⟨0x24, [], false, [⟨31, 0, .ro, 0, false⟩]⟩,  -- OWN_REFUSED
  ⟨0x30, [], false, [⟨0, 0, .wo, 0, false⟩]⟩]  -- OWN_CNT_CLR

/-- OWN: base, instances, stride, the offsets of its BLOCK_BASIC and lock registers, its rows (R551). -/
def unitOWN : RegUnit :=
  ⟨0x40030000, 1, 0x10000, none, none, unitOWNRows0⟩

/-- Registers of PMU (spec/18*, R578), part 0. -/
def unitPMURows0 : List RegRow := [
  ⟨0, [], false, [⟨9, 9, .wo, 0, false⟩, ⟨8, 8, .ro, 0, false⟩, ⟨7, 4, .rw, 0, false⟩, ⟨0, 0, .rw, 0, false⟩]⟩,  -- PMU_BASIC
  ⟨8, [], false, [⟨8, 8, .w1c, 0, true⟩, ⟨5, 0, .w1c, 0, true⟩]⟩,  -- PMU_SEQERR
  ⟨0xc, [], false, [⟨12, 12, .ro, 0, false⟩, ⟨10, 9, .ro, 0, false⟩, ⟨8, 8, .ro, 0, false⟩, ⟨6, 4, .ro, 0, false⟩, ⟨2, 0, .rw, 0, false⟩]⟩,  -- PMU_PSTATE
  ⟨0x10, [], false, [⟨15, 8, .ro, 0x64, false⟩, ⟨6, 4, .ro, 4, false⟩, ⟨2, 0, .ro, 4, false⟩]⟩,  -- PMU_CAPS
  ⟨0x14, [], false, [⟨31, 16, .ro, 0x7d0, false⟩, ⟨15, 0, .ro, 0, false⟩]⟩,  -- PMU_POWER
  ⟨0x18, [], true, [⟨31, 16, .rw, 0x7d0, false⟩, ⟨15, 8, .rw, 0xa0, false⟩, ⟨7, 0, .rw, 0x7d, false⟩]⟩,  -- PMU_PEAK0
  ⟨0x1c, [], true, [⟨31, 16, .rw, 0x2710, false⟩, ⟨15, 8, .rw, 0x3c, false⟩, ⟨2, 0, .rw, 2, false⟩]⟩,  -- PMU_PEAK1
  ⟨0x20, [], true, [⟨31, 24, .rw, 0x64, false⟩, ⟨23, 16, .rw, 0x6e, false⟩, ⟨15, 8, .rw, 5, false⟩]⟩,  -- PMU_THERM
  ⟨0x24, [], false, [⟨31, 24, .rwo, 0x64, false⟩, ⟨22, 20, .rwo, 4, false⟩, ⟨16, 16, .rwo, 0, false⟩]⟩,  -- PMU_LIMIT
  ⟨0x30, [], false, [⟨15, 0, .ro, 0, false⟩]⟩,  -- PMU_VMOT
  ⟨0x34, [], false, [⟨15, 0, .ro, 0, false⟩]⟩,  -- PMU_VDDA
  ⟨0x40, [], false, [⟨31, 31, .ro, 0, false⟩, ⟨15, 0, .ro, 0, false⟩]⟩,  -- PMU_TCOMP
  ⟨0x44, [(4, 4)], false, [⟨31, 31, .ro, 0, false⟩, ⟨30, 30, .ro, 0, false⟩, ⟨15, 0, .ro, 0, false⟩]⟩,  -- PMU_TDn
  ⟨0x60, [(6, 4)], false, [⟨31, 31, .ro, 0, false⟩, ⟨15, 0, .ro, 0, false⟩]⟩,  -- PMU_TDIE_n
  ⟨0x80, [], false, [⟨6, 6, .w1c, 0, false⟩, ⟨5, 5, .w1c, 0, false⟩, ⟨4, 4, .w1c, 0, false⟩, ⟨3, 3, .w1c, 0, false⟩, ⟨2, 2, .w1c, 0, false⟩, ⟨1, 1, .w1c, 0, false⟩, ⟨0, 0, .w1c, 0, false⟩]⟩,  -- PMU_EVT_STAT
  ⟨0x84, [], false, [⟨6, 0, .rw, 0x7e, false⟩]⟩,  -- PMU_EVT_EN
  ⟨0x90, [], false, [⟨31, 0, .ro, 0, false⟩]⟩,  -- PMU_PEAKS
  ⟨0x94, [], false, [⟨31, 0, .ro, 0, false⟩]⟩,  -- PMU_RECOVS
  ⟨0x98, [], false, [⟨31, 0, .ro, 0, false⟩]⟩,  -- PMU_THROTS
  ⟨0x9c, [], false, [⟨31, 0, .ro, 0, false⟩]⟩]  -- PMU_VLOSSES

/-- Registers of PMU (spec/18*, R578), part 1. -/
def unitPMURows1 : List RegRow := [
  ⟨0xa0, [], false, [⟨31, 0, .ro, 0, false⟩]⟩,  -- PMU_TDINV
  ⟨0xa4, [], false, [⟨31, 0, .ro, 0, false⟩]⟩,  -- PMU_RECOV_MS
  ⟨0xb0, [], false, [⟨0, 0, .wo, 0, false⟩]⟩]  -- PMU_CNT_CLR

/-- PMU: base, instances, stride, the offsets of its BLOCK_BASIC and lock registers, its rows (R578). -/
def unitPMU : RegUnit :=
  ⟨0x40010000, 1, 0x10000, some 0, none, unitPMURows0 ++ unitPMURows1⟩

/-- Registers of OTP (spec/19*, R602), part 0. -/
def unitOTPRows0 : List RegRow := [
  ⟨4, [], false, [⟨19, 16, .ro, 0, false⟩, ⟨13, 12, .ro, 0, false⟩, ⟨11, 8, .ro, 0, false⟩, ⟨7, 4, .ro, 0, false⟩, ⟨0, 0, .ro, 0, false⟩]⟩,  -- OTP_STATUS
  ⟨8, [], false, [⟨24, 16, .ro, 0, false⟩, ⟨8, 0, .ro, 0, false⟩]⟩,  -- OTP_SVN
  ⟨0x100, [(16, 4)], false, [⟨31, 0, .ro, 0, false⟩]⟩]  -- OTP_CREC_n

/-- OTP: base, instances, stride, the offsets of its BLOCK_BASIC and lock registers, its rows (R602). -/
def unitOTP : RegUnit :=
  ⟨0x40020000, 1, 0x10000, none, none, unitOTPRows0⟩

/-- Every register unit of the internal register space (R28, R35). -/
def regUnits : List RegUnit := [
  unitSYS, unitATB, unitHPXInst, unitHQE, unitRLT, unitMSC, unitXTS, unitTRS, unitTRSInst, unitRWCInst, unitPIF, unitPAInst, unitAST, unitSVDInst, unitSVD, unitSVDCAPInst, unitSCEInst, unitSCEPAIRInst, unitSCE, unitVCDInst, unitMADInst, unitSRFInst, unitSMC, unitCXE, unitMEM, unitEVR, unitVCH, unitOWN, unitPMU, unitOTP]

end Sys2Proof.Machine
end

