-- ==== Sys2Proof/Machine/Sparse.lean ====
section
/-!
DEFINITION. Sys2Proof/Machine/Sparse.lean: a sparse store, the one shape in which the model keeps registers, memory,
the control store and other large arrays: a list of (key, value) pairs in ONE canonical form (keys strictly rising, no
entry equal to what an unlisted key reads as), so that equal contents are equal data. What an unlisted key reads as is
a function given at each use.
-/
namespace Sys2Proof.Machine

/-- The entry at key k, if the list holds one. -/
def sparseFind {V : Type} (k : Nat) : List (Nat × V) → Option V
  | [] => none
  | (j, v) :: t => if j = k then some v else sparseFind k t

/-- The list with the entry at key k set, keys kept in rising order. -/
def sparseInsert {V : Type} (k : Nat) (v : V) : List (Nat × V) → List (Nat × V)
  | [] => [(k, v)]
  | (j, w) :: t =>
    if k < j then (k, v) :: (j, w) :: t
    else if j = k then (k, v) :: t
    else (j, w) :: sparseInsert k v t

/-- The list without any entry at key k. -/
def sparseErase {V : Type} (k : Nat) : List (Nat × V) → List (Nat × V)
  | [] => []
  | (j, w) :: t => if j = k then sparseErase k t else (j, w) :: sparseErase k t

/-- What key k reads as: its entry, or what the unlisted key reads as. -/
def sparseGet {V : Type} (dflt : Nat → V) (l : List (Nat × V)) (k : Nat) : V :=
  match sparseFind k l with
  | some v => v
  | none => dflt k

/-- The store with key k holding v; the entry is dropped when v is what the unlisted key reads as. -/
def sparseSet {V : Type} [DecidableEq V] (dflt : Nat → V) (l : List (Nat × V)) (k : Nat) (v : V) :
    List (Nat × V) :=
  if v = dflt k then sparseErase k l else sparseInsert k v l

/-- Keys strictly rise, all above the bound. -/
def sparseRises {V : Type} : Option Nat → List (Nat × V) → Bool
  | _, [] => true
  | none, (j, _) :: t => sparseRises (some j) t
  | some b, (j, _) :: t => decide (b < j) && sparseRises (some j) t

/-- No entry equals what its key would read as unlisted. -/
def sparseLean {V : Type} [DecidableEq V] (dflt : Nat → V) : List (Nat × V) → Bool
  | [] => true
  | (j, v) :: t => decide (v ≠ dflt j) && sparseLean dflt t

/-- The canonical form. -/
def sparseWf {V : Type} [DecidableEq V] (dflt : Nat → V) (l : List (Nat × V)) : Bool :=
  sparseRises none l && sparseLean dflt l

end Sys2Proof.Machine
end

