-- ==== Sys2Proof/Machine/RegFile.lean ====
section
/-!
DEFINITION. Sys2Proof/Machine/RegFile.lean: finding the register at an address, its reset value, the bit-field
arithmetic on register words, and the effect of a plain register write under the access types of R15.
-/
namespace Sys2Proof.Machine

/-- Matches an offset against a row's arrays: each array takes offset / stride as its index, which must lie below its
count, and leaves the remainder; the row is hit when nothing remains. -/
def dimsMatch : List (Nat × Nat) → Nat → Bool
  | [], r => decide (r = 0)
  | (c, st) :: t, r => decide (r / st < c) && dimsMatch t (r % st)

/-- Whether the row holds the register at this offset of its unit. -/
def RegRow.hits (r : RegRow) (off : Nat) : Bool :=
  decide (r.off ≤ off) && dimsMatch r.dims (off - r.off)

/-- A register found at an address: its unit, its instance, and its row. -/
structure RegHit where
  unit : RegUnit
  inst : Nat
  row : RegRow
  deriving DecidableEq, Repr

/-- The register of a unit at an address, if the unit defines one there. -/
def RegUnit.find (u : RegUnit) (a : Nat) : Option RegHit :=
  if u.base ≤ a ∧ (a - u.base) / u.stride < u.count then
    match u.rows.find? (fun r => r.hits ((a - u.base) % u.stride)) with
    | some r => some ⟨u, (a - u.base) / u.stride, r⟩
    | none => none
  else none

/-- The register defined at an address, among the given units. -/
def findRegIn : List RegUnit → Nat → Option RegHit
  | [], _ => none
  | u :: t, a =>
    match u.find a with
    | some h => some h
    | none => findRegIn t a

/-- The register defined at an address of the internal register space (R35, R37). -/
def findReg (a : Nat) : Option RegHit := findRegIn regUnits a

/-- The reset value of a row: each field's reset value at its place. -/
def RegRow.resetNat (r : RegRow) : Nat :=
  r.flds.foldl (fun acc f => acc + f.rst * 2 ^ f.lo) 0

/-- What a register holds after reset; 0 where no register is defined (R37). -/
def resetOf (a : Nat) : Word :=
  match findReg a with
  | some h => BitVec.ofNat 32 h.row.resetNat
  | none => 0#32

/-- The register file: the registers that hold something else than their reset value. -/
abbrev RegFile := List (Nat × Word)

/-- The word a register holds. -/
def regRead (rf : RegFile) (a : Nat) : Word := sparseGet resetOf rf a

/-- The register file with a register's word replaced. -/
def regWrite (rf : RegFile) (a : Nat) (w : Word) : RegFile := sparseSet resetOf rf a w

/-- The number of values a field can hold. -/
def Fld.card (f : Fld) : Nat := 2 ^ (f.hi + 1 - f.lo)

/-- Bits hi..lo of a number. -/
def bitsOf (x hi lo : Nat) : Nat := x / 2 ^ lo % 2 ^ (hi + 1 - lo)

/-- A number with bits hi..lo replaced by v (modulo the field's size). -/
def putBits (x hi lo v : Nat) : Nat :=
  x / 2 ^ (hi + 1) * 2 ^ (hi + 1) + v % 2 ^ (hi + 1 - lo) * 2 ^ lo + x % 2 ^ lo

/-- The value of a named field. -/
def fldRead (rf : RegFile) (f : Fld) : Nat := bitsOf (regRead rf f.addr).toNat f.hi f.lo

/-- The register file with a named field replaced. -/
def fldWrite (rf : RegFile) (f : Fld) (v : Nat) : RegFile :=
  regWrite rf f.addr (BitVec.ofNat 32 (putBits (regRead rf f.addr).toNat f.hi f.lo v))

/-- What one field becomes when a word is written to its register (R15): `owner` is whether the writer is the
configuration owner, `locked` whether the block's lock bit is 1. A WO or action field keeps 0. -/
def FieldSpec.written (f : FieldSpec) (owner locked : Bool) (old new : Nat) : Nat :=
  match f.acc with
  | .ro => old
  | .rw => new
  | .w1c => if f.hi = f.lo then (if new = 1 then 0 else old) else Nat.land old (2 ^ (f.hi + 1 - f.lo) - 1 - new)
  | .w1s => Nat.lor old new
  | .wo => 0
  | .rwoAct => 0
  | .rwo => if owner then new else old
  | .rwl => if locked then old else new

/-- What a register becomes when a word is written to it; bits outside its fields stay 0 (R19). -/
def RegRow.written (r : RegRow) (owner locked : Bool) (old new : Nat) : Nat :=
  r.flds.foldl (fun acc f =>
    putBits acc f.hi f.lo (f.written owner locked (bitsOf old f.hi f.lo) (bitsOf new f.hi f.lo))) 0

/-- What a read of a register returns of the word it holds: WO and action fields read 0. -/
def RegRow.readBack (r : RegRow) (w : Nat) : Nat :=
  r.flds.foldl (fun acc f =>
    match f.acc with
    | .wo => acc
    | .rwoAct => acc
    | _ => putBits acc f.hi f.lo (bitsOf w f.hi f.lo)) 0

/-- What a register keeps through a chip-wide reset: its STK fields; every other field returns to its reset value
(R16, R582). -/
def RegRow.afterReset (r : RegRow) (w : Nat) : Nat :=
  r.flds.foldl (fun acc f => putBits acc f.hi f.lo (if f.stk then bitsOf w f.hi f.lo else f.rst)) 0

/-- Whether a row has a field of type RWO (or an RWO action). -/
def RegRow.hasRwo (r : RegRow) : Bool :=
  r.flds.any (fun f => decide (f.acc = .rwo) || decide (f.acc = .rwoAct))

/-- Whether every field of a row is a counter in the sense of the CNT_CLR registers: one RO field of 32 bits. -/
def RegRow.isWholeRO (r : RegRow) : Bool :=
  match r.flds with
  | [f] => decide (f.hi = 31) && decide (f.lo = 0) && decide (f.acc = .ro)
  | _ => false

end Sys2Proof.Machine
end

