-- ==== Sys2Proof/Machine/RegNames.lean ====
section
/-!
DEFINITION. Sys2Proof/Machine/RegNames.lean: a name for every register of the internal register space (its address)
and for every field of it (its register's address and its bits), spelt as spec/ spells them; an index argument stands
where the spec writes an instance or array index (the first is n).
-/
namespace Sys2Proof.Machine.Reg

/-- Address of SYS_ID (R46). -/
def SYS_ID : Nat := 0x40000000
/-- SYS_ID.PART [31:16], RO. -/
def SYS_ID_PART : Fld := ⟨0x40000000, 31, 16⟩
/-- SYS_ID.MAJOR [15:8], RO. -/
def SYS_ID_MAJOR : Fld := ⟨0x40000000, 15, 8⟩
/-- SYS_ID.MINOR [7:0], RO. -/
def SYS_ID_MINOR : Fld := ⟨0x40000000, 7, 0⟩
/-- Address of SYS_IRQ_PEND0 (R46). -/
def SYS_IRQ_PEND0 : Nat := 0x40000100
/-- SYS_IRQ_PEND0.LINE [31:0], RO. -/
def SYS_IRQ_PEND0_LINE : Fld := ⟨0x40000100, 31, 0⟩
/-- Address of SYS_IRQ_PEND1 (R46). -/
def SYS_IRQ_PEND1 : Nat := 0x40000104
/-- SYS_IRQ_PEND1.LINE [31:0], RO. -/
def SYS_IRQ_PEND1_LINE : Fld := ⟨0x40000104, 31, 0⟩
/-- Address of SYS_RST (R602). -/
def SYS_RST : Nat := 0x40000010
/-- SYS_RST.KEY [31:16], WO. -/
def SYS_RST_KEY : Fld := ⟨0x40000010, 31, 16⟩
/-- SYS_RST.CHIP [0], WO. -/
def SYS_RST_CHIP : Fld := ⟨0x40000010, 0, 0⟩
/-- Address of SYS_BOOT (R602). -/
def SYS_BOOT : Nat := 0x40000014
/-- SYS_BOOT.MODE [31:28], RO. -/
def SYS_BOOT_MODE : Fld := ⟨0x40000014, 31, 28⟩
/-- SYS_BOOT.STEP [27:24], RO. -/
def SYS_BOOT_STEP : Fld := ⟨0x40000014, 27, 24⟩
/-- SYS_BOOT.FAIL [23:20], RO. -/
def SYS_BOOT_FAIL : Fld := ⟨0x40000014, 23, 20⟩
/-- SYS_BOOT.DPISLOT [17], RO. -/
def SYS_BOOT_DPISLOT : Fld := ⟨0x40000014, 17, 17⟩
/-- SYS_BOOT.FALLBACK [16], RO. -/
def SYS_BOOT_FALLBACK : Fld := ⟨0x40000014, 16, 16⟩
/-- SYS_BOOT.FWSLOT [9:8], RO. -/
def SYS_BOOT_FWSLOT : Fld := ⟨0x40000014, 9, 8⟩
/-- SYS_BOOT.CAUSE [2:0], RO. -/
def SYS_BOOT_CAUSE : Fld := ⟨0x40000014, 2, 0⟩
/-- Address of SYS_GPIO_CFGn (R609). -/
def SYS_GPIO_CFGn (n : Nat) : Nat := 0x40000200 + 4 * n
/-- SYS_GPIO_CFGn.IN [8], RO. -/
def SYS_GPIO_CFGn_IN (n : Nat) : Fld := ⟨0x40000200 + 4 * n, 8, 8⟩
/-- SYS_GPIO_CFGn.PULL [4], RWO. -/
def SYS_GPIO_CFGn_PULL (n : Nat) : Fld := ⟨0x40000200 + 4 * n, 4, 4⟩
/-- SYS_GPIO_CFGn.OUT [3], RWO. -/
def SYS_GPIO_CFGn_OUT (n : Nat) : Fld := ⟨0x40000200 + 4 * n, 3, 3⟩
/-- SYS_GPIO_CFGn.MODE [1:0], RWO. -/
def SYS_GPIO_CFGn_MODE (n : Nat) : Fld := ⟨0x40000200 + 4 * n, 1, 0⟩
/-- Address of ATB_BASIC (R75). -/
def ATB_BASIC : Nat := 0x400b0000
/-- ATB_BASIC.KEEP [9], WO. -/
def ATB_BASIC_KEEP : Fld := ⟨0x400b0000, 9, 9⟩
/-- ATB_BASIC.MODE [8], RO. -/
def ATB_BASIC_MODE : Fld := ⟨0x400b0000, 8, 8⟩
/-- ATB_BASIC.PROFILE [7:4], RW. -/
def ATB_BASIC_PROFILE : Fld := ⟨0x400b0000, 7, 4⟩
/-- ATB_BASIC.ENABLE [0], RW. -/
def ATB_BASIC_ENABLE : Fld := ⟨0x400b0000, 0, 0⟩
/-- Address of ATB_LOCK (R75). -/
def ATB_LOCK : Nat := 0x400b0004
/-- ATB_LOCK.LOCK [0], W1S. -/
def ATB_LOCK_LOCK : Fld := ⟨0x400b0004, 0, 0⟩
/-- Address of ATB_PIERS (R75). -/
def ATB_PIERS : Nat := 0x400b0008
/-- ATB_PIERS.COUNT [10:0], RWL. -/
def ATB_PIERS_COUNT : Fld := ⟨0x400b0008, 10, 0⟩
/-- Address of ATB_CTRL (R75). -/
def ATB_CTRL : Nat := 0x400b000c
/-- ATB_CTRL.ACQ [9], WO. -/
def ATB_CTRL_ACQ : Fld := ⟨0x400b000c, 9, 9⟩
/-- ATB_CTRL.FREE [8], WO. -/
def ATB_CTRL_FREE : Fld := ⟨0x400b000c, 8, 8⟩
/-- ATB_CTRL.SRC [3:0], RW. -/
def ATB_CTRL_SRC : Fld := ⟨0x400b000c, 3, 0⟩
/-- Address of ATB_STATUS (R75). -/
def ATB_STATUS : Nat := 0x400b0010
/-- ATB_STATUS.DISAGREE [15:12], W1C. -/
def ATB_STATUS_DISAGREE : Fld := ⟨0x400b0010, 15, 12⟩
/-- ATB_STATUS.CONTRIB [11:8], RO. -/
def ATB_STATUS_CONTRIB : Fld := ⟨0x400b0010, 11, 8⟩
/-- ATB_STATUS.QUAL [4], RO. -/
def ATB_STATUS_QUAL : Fld := ⟨0x400b0010, 4, 4⟩
/-- ATB_STATUS.VALID [3], RO. -/
def ATB_STATUS_VALID : Fld := ⟨0x400b0010, 3, 3⟩
/-- ATB_STATUS.STATE [2:0], RO. -/
def ATB_STATUS_STATE : Fld := ⟨0x400b0010, 2, 0⟩
/-- Address of ATB_ANGLE (R75). -/
def ATB_ANGLE : Nat := 0x400b0014
/-- ATB_ANGLE.G [31:0], RO. -/
def ATB_ANGLE_G : Fld := ⟨0x400b0014, 31, 0⟩
/-- Address of ATB_REV (R75). -/
def ATB_REV : Nat := 0x400b0018
/-- ATB_REV.COUNT [31:0], RO. -/
def ATB_REV_COUNT : Fld := ⟨0x400b0018, 31, 0⟩
/-- Address of ATB_RATE (R75). -/
def ATB_RATE : Nat := 0x400b001c
/-- ATB_RATE.RATE [31:0], RO. -/
def ATB_RATE_RATE : Fld := ⟨0x400b001c, 31, 0⟩
/-- Address of ATB_FREE_RATE (R75). -/
def ATB_FREE_RATE : Nat := 0x400b0020
/-- ATB_FREE_RATE.RATE [31:0], RWL. -/
def ATB_FREE_RATE_RATE : Fld := ⟨0x400b0020, 31, 0⟩
/-- Address of ATB_GAIN (R75). -/
def ATB_GAIN : Nat := 0x400b0024
/-- ATB_GAIN.KI [31:16], RW. -/
def ATB_GAIN_KI : Fld := ⟨0x400b0024, 31, 16⟩
/-- ATB_GAIN.KP [7:0], RW. -/
def ATB_GAIN_KP : Fld := ⟨0x400b0024, 7, 0⟩
/-- Address of ATB_WIN (R75). -/
def ATB_WIN : Nat := 0x400b0028
/-- ATB_WIN.WIN [21:0], RW. -/
def ATB_WIN_WIN : Fld := ⟨0x400b0028, 21, 0⟩
/-- Address of ATB_CORR (R75). -/
def ATB_CORR : Nat := 0x400b002c
/-- ATB_CORR.MAXCORR [21:0], RW. -/
def ATB_CORR_MAXCORR : Fld := ⟨0x400b002c, 21, 0⟩
/-- Address of ATB_HOLD (R75). -/
def ATB_HOLD : Nat := 0x400b0030
/-- ATB_HOLD.HOLD_MAX [25:16], RW. -/
def ATB_HOLD_HOLD_MAX : Fld := ⟨0x400b0030, 25, 16⟩
/-- ATB_HOLD.LATEWIN [11:8], RW. -/
def ATB_HOLD_LATEWIN : Fld := ⟨0x400b0030, 11, 8⟩
/-- ATB_HOLD.REQUAL [7:0], RW. -/
def ATB_HOLD_REQUAL : Fld := ⟨0x400b0030, 7, 0⟩
/-- Address of ATB_MISSn (R75). -/
def ATB_MISSn (n : Nat) : Nat := 0x400b0040 + 4 * n
/-- ATB_MISSn.COUNT [31:0], RO. -/
def ATB_MISSn_COUNT (n : Nat) : Fld := ⟨0x400b0040 + 4 * n, 31, 0⟩
/-- Address of ATB_REJn (R75). -/
def ATB_REJn (n : Nat) : Nat := 0x400b0050 + 4 * n
/-- ATB_REJn.COUNT [31:0], RO. -/
def ATB_REJn_COUNT (n : Nat) : Fld := ⟨0x400b0050 + 4 * n, 31, 0⟩
/-- Address of ATB_LATEn (R75). -/
def ATB_LATEn (n : Nat) : Nat := 0x400b0060 + 4 * n
/-- ATB_LATEn.COUNT [31:0], RO. -/
def ATB_LATEn_COUNT (n : Nat) : Fld := ⟨0x400b0060 + 4 * n, 31, 0⟩
/-- Address of ATB_GLATE (R75). -/
def ATB_GLATE : Nat := 0x400b0070
/-- ATB_GLATE.COUNT [31:0], RO. -/
def ATB_GLATE_COUNT : Fld := ⟨0x400b0070, 31, 0⟩
/-- Address of ATB_STEPS (R75). -/
def ATB_STEPS : Nat := 0x400b0074
/-- ATB_STEPS.COUNT [31:0], RO. -/
def ATB_STEPS_COUNT : Fld := ⟨0x400b0074, 31, 0⟩
/-- Address of ATB_HOLDS (R75). -/
def ATB_HOLDS : Nat := 0x400b0078
/-- ATB_HOLDS.COUNT [31:0], RO. -/
def ATB_HOLDS_COUNT : Fld := ⟨0x400b0078, 31, 0⟩
/-- Address of ATB_LOSSES (R75). -/
def ATB_LOSSES : Nat := 0x400b007c
/-- ATB_LOSSES.COUNT [31:0], RO. -/
def ATB_LOSSES_COUNT : Fld := ⟨0x400b007c, 31, 0⟩
/-- Address of ATB_CNT_CLR (R75). -/
def ATB_CNT_CLR : Nat := 0x400b0080
/-- ATB_CNT_CLR.ALL [0], WO. -/
def ATB_CNT_CLR_ALL : Fld := ⟨0x400b0080, 0, 0⟩
/-- Address of ATB_EVT_STAT (R75). -/
def ATB_EVT_STAT : Nat := 0x400b0084
/-- ATB_EVT_STAT.TRIG [7], W1C. -/
def ATB_EVT_STAT_TRIG : Fld := ⟨0x400b0084, 7, 7⟩
/-- ATB_EVT_STAT.VSYNC [6], W1C. -/
def ATB_EVT_STAT_VSYNC : Fld := ⟨0x400b0084, 6, 6⟩
/-- ATB_EVT_STAT.TRIG_ERR [5], W1C. -/
def ATB_EVT_STAT_TRIG_ERR : Fld := ⟨0x400b0084, 5, 5⟩
/-- ATB_EVT_STAT.LATE [4], W1C. -/
def ATB_EVT_STAT_LATE : Fld := ⟨0x400b0084, 4, 4⟩
/-- ATB_EVT_STAT.DISAGREE [3], W1C. -/
def ATB_EVT_STAT_DISAGREE : Fld := ⟨0x400b0084, 3, 3⟩
/-- ATB_EVT_STAT.STEP [2], W1C. -/
def ATB_EVT_STAT_STEP : Fld := ⟨0x400b0084, 2, 2⟩
/-- ATB_EVT_STAT.LOSS [1], W1C. -/
def ATB_EVT_STAT_LOSS : Fld := ⟨0x400b0084, 1, 1⟩
/-- ATB_EVT_STAT.HOLD [0], W1C. -/
def ATB_EVT_STAT_HOLD : Fld := ⟨0x400b0084, 0, 0⟩
/-- Address of ATB_EVT_EN (R75). -/
def ATB_EVT_EN : Nat := 0x400b0088
/-- ATB_EVT_EN.EN [7:0], RW. -/
def ATB_EVT_EN_EN : Fld := ⟨0x400b0088, 7, 0⟩
/-- Address of ATB_LOFFn (R75). -/
def ATB_LOFFn (n : Nat) : Nat := 0x400b0090 + 4 * n
/-- ATB_LOFFn.OFF [31:0], RO. -/
def ATB_LOFFn_OFF (n : Nat) : Fld := ⟨0x400b0090 + 4 * n, 31, 0⟩
/-- Address of ATB_NOMn (R75). -/
def ATB_NOMn (n : Nat) : Nat := 0x400b00a0 + 4 * n
/-- ATB_NOMn.OFF [31:0], RWL. -/
def ATB_NOMn_OFF (n : Nat) : Fld := ⟨0x400b00a0 + 4 * n, 31, 0⟩
/-- Address of ATB_SYNC_OFF (R75). -/
def ATB_SYNC_OFF : Nat := 0x400b00b0
/-- ATB_SYNC_OFF.OFF [31:0], RWO. -/
def ATB_SYNC_OFF_OFF : Fld := ⟨0x400b00b0, 31, 0⟩
/-- Address of ATB_SYNC_ERR (R75). -/
def ATB_SYNC_ERR : Nat := 0x400b00b4
/-- ATB_SYNC_ERR.ERR [31:0], RO. -/
def ATB_SYNC_ERR_ERR : Fld := ⟨0x400b00b4, 31, 0⟩
/-- Address of ATB_SYNC_REV (R75). -/
def ATB_SYNC_REV : Nat := 0x400b00b8
/-- ATB_SYNC_REV.COUNT [31:0], RO. -/
def ATB_SYNC_REV_COUNT : Fld := ⟨0x400b00b8, 31, 0⟩
/-- Address of ATB_HEADn (R75). -/
def ATB_HEADn (n : Nat) : Nat := 0x400b0100 + 4 * n
/-- ATB_HEADn.OFF [31:0], RWL. -/
def ATB_HEADn_OFF (n : Nat) : Fld := ⟨0x400b0100 + 4 * n, 31, 0⟩
/-- Address of ATB_SKEWn_i (R75). -/
def ATB_SKEWn_i (n i : Nat) : Nat := 0x400b0400 + 0x400 * n + 4 * i
/-- ATB_SKEWn_i.OFF [31:0], RWL. -/
def ATB_SKEWn_i_OFF (n i : Nat) : Fld := ⟨0x400b0400 + 0x400 * n + 4 * i, 31, 0⟩
/-- Address of ATB_LTRIGn_i_ANGLE (R75). -/
def ATB_LTRIGn_i_ANGLE (n i : Nat) : Nat := 0x400b1000 + 0x400 * n + 0x10 * i
/-- ATB_LTRIGn_i_ANGLE.ANGLE [31:0], RW. -/
def ATB_LTRIGn_i_ANGLE_ANGLE (n i : Nat) : Fld := ⟨0x400b1000 + 0x400 * n + 0x10 * i, 31, 0⟩
/-- Address of ATB_LTRIGn_i_CTRL (R75). -/
def ATB_LTRIGn_i_CTRL (n i : Nat) : Nat := 0x400b1004 + 0x400 * n + 0x10 * i
/-- ATB_LTRIGn_i_CTRL.REVS [23:16], RW. -/
def ATB_LTRIGn_i_CTRL_REVS (n i : Nat) : Fld := ⟨0x400b1004 + 0x400 * n + 0x10 * i, 23, 16⟩
/-- ATB_LTRIGn_i_CTRL.CAPSEL [8], RW. -/
def ATB_LTRIGn_i_CTRL_CAPSEL (n i : Nat) : Fld := ⟨0x400b1004 + 0x400 * n + 0x10 * i, 8, 8⟩
/-- ATB_LTRIGn_i_CTRL.TARGET [7:4], RW. -/
def ATB_LTRIGn_i_CTRL_TARGET (n i : Nat) : Fld := ⟨0x400b1004 + 0x400 * n + 0x10 * i, 7, 4⟩
/-- ATB_LTRIGn_i_CTRL.MODE [2:1], RW. -/
def ATB_LTRIGn_i_CTRL_MODE (n i : Nat) : Fld := ⟨0x400b1004 + 0x400 * n + 0x10 * i, 2, 1⟩
/-- ATB_LTRIGn_i_CTRL.ARM [0], RW. -/
def ATB_LTRIGn_i_CTRL_ARM (n i : Nat) : Fld := ⟨0x400b1004 + 0x400 * n + 0x10 * i, 0, 0⟩
/-- Address of ATB_LTRIGn_i_STATUS (R75). -/
def ATB_LTRIGn_i_STATUS (n i : Nat) : Nat := 0x400b1008 + 0x400 * n + 0x10 * i
/-- ATB_LTRIGn_i_STATUS.REMAIN [15:8], RO. -/
def ATB_LTRIGn_i_STATUS_REMAIN (n i : Nat) : Fld := ⟨0x400b1008 + 0x400 * n + 0x10 * i, 15, 8⟩
/-- ATB_LTRIGn_i_STATUS.ERR [2], W1C. -/
def ATB_LTRIGn_i_STATUS_ERR (n i : Nat) : Fld := ⟨0x400b1008 + 0x400 * n + 0x10 * i, 2, 2⟩
/-- ATB_LTRIGn_i_STATUS.LATE [1], W1C. -/
def ATB_LTRIGn_i_STATUS_LATE (n i : Nat) : Fld := ⟨0x400b1008 + 0x400 * n + 0x10 * i, 1, 1⟩
/-- ATB_LTRIGn_i_STATUS.FIRED [0], W1C. -/
def ATB_LTRIGn_i_STATUS_FIRED (n i : Nat) : Fld := ⟨0x400b1008 + 0x400 * n + 0x10 * i, 0, 0⟩
/-- Address of ATB_LTRIGn_i_LASTREV (R75). -/
def ATB_LTRIGn_i_LASTREV (n i : Nat) : Nat := 0x400b100c + 0x400 * n + 0x10 * i
/-- ATB_LTRIGn_i_LASTREV.REV [31:0], RO. -/
def ATB_LTRIGn_i_LASTREV_REV (n i : Nat) : Fld := ⟨0x400b100c + 0x400 * n + 0x10 * i, 31, 0⟩
/-- Address of ATB_GTRIG_n_ANGLE (R75). -/
def ATB_GTRIG_n_ANGLE (n : Nat) : Nat := 0x400b2000 + 0x10 * n
/-- ATB_GTRIG_n_ANGLE.ANGLE [31:0], RW. -/
def ATB_GTRIG_n_ANGLE_ANGLE (n : Nat) : Fld := ⟨0x400b2000 + 0x10 * n, 31, 0⟩
/-- Address of ATB_GTRIG_n_CTRL (R75). -/
def ATB_GTRIG_n_CTRL (n : Nat) : Nat := 0x400b2004 + 0x10 * n
/-- ATB_GTRIG_n_CTRL.REVS [23:16], RW. -/
def ATB_GTRIG_n_CTRL_REVS (n : Nat) : Fld := ⟨0x400b2004 + 0x10 * n, 23, 16⟩
/-- ATB_GTRIG_n_CTRL.GPIOSEL [14:10], RW. -/
def ATB_GTRIG_n_CTRL_GPIOSEL (n : Nat) : Fld := ⟨0x400b2004 + 0x10 * n, 14, 10⟩
/-- ATB_GTRIG_n_CTRL.CAPSEL [8], RW. -/
def ATB_GTRIG_n_CTRL_CAPSEL (n : Nat) : Fld := ⟨0x400b2004 + 0x10 * n, 8, 8⟩
/-- ATB_GTRIG_n_CTRL.TARGET [7:4], RW. -/
def ATB_GTRIG_n_CTRL_TARGET (n : Nat) : Fld := ⟨0x400b2004 + 0x10 * n, 7, 4⟩
/-- ATB_GTRIG_n_CTRL.MODE [2:1], RW. -/
def ATB_GTRIG_n_CTRL_MODE (n : Nat) : Fld := ⟨0x400b2004 + 0x10 * n, 2, 1⟩
/-- ATB_GTRIG_n_CTRL.ARM [0], RW. -/
def ATB_GTRIG_n_CTRL_ARM (n : Nat) : Fld := ⟨0x400b2004 + 0x10 * n, 0, 0⟩
/-- Address of ATB_GTRIG_n_STATUS (R75). -/
def ATB_GTRIG_n_STATUS (n : Nat) : Nat := 0x400b2008 + 0x10 * n
/-- ATB_GTRIG_n_STATUS.REMAIN [15:8], RO. -/
def ATB_GTRIG_n_STATUS_REMAIN (n : Nat) : Fld := ⟨0x400b2008 + 0x10 * n, 15, 8⟩
/-- ATB_GTRIG_n_STATUS.ERR [2], W1C. -/
def ATB_GTRIG_n_STATUS_ERR (n : Nat) : Fld := ⟨0x400b2008 + 0x10 * n, 2, 2⟩
/-- ATB_GTRIG_n_STATUS.LATE [1], W1C. -/
def ATB_GTRIG_n_STATUS_LATE (n : Nat) : Fld := ⟨0x400b2008 + 0x10 * n, 1, 1⟩
/-- ATB_GTRIG_n_STATUS.FIRED [0], W1C. -/
def ATB_GTRIG_n_STATUS_FIRED (n : Nat) : Fld := ⟨0x400b2008 + 0x10 * n, 0, 0⟩
/-- Address of ATB_GTRIG_n_LASTREV (R75). -/
def ATB_GTRIG_n_LASTREV (n : Nat) : Nat := 0x400b200c + 0x10 * n
/-- ATB_GTRIG_n_LASTREV.REV [31:0], RO. -/
def ATB_GTRIG_n_LASTREV_REV (n : Nat) : Fld := ⟨0x400b200c + 0x10 * n, 31, 0⟩
/-- Address of HPXn_LINK (R123). -/
def HPXn_LINK (n : Nat) : Nat := 0x40070000 + 0x1000 * n
/-- HPXn_LINK.UP [31], RO. -/
def HPXn_LINK_UP (n : Nat) : Fld := ⟨0x40070000 + 0x1000 * n, 31, 31⟩
/-- HPXn_LINK.PSTATE [26:24], RO. -/
def HPXn_LINK_PSTATE (n : Nat) : Fld := ⟨0x40070000 + 0x1000 * n, 26, 24⟩
/-- HPXn_LINK.RATE [18:16], RO. -/
def HPXn_LINK_RATE (n : Nat) : Fld := ⟨0x40070000 + 0x1000 * n, 18, 16⟩
/-- HPXn_LINK.WIDTH [10:8], RO. -/
def HPXn_LINK_WIDTH (n : Nat) : Fld := ⟨0x40070000 + 0x1000 * n, 10, 8⟩
/-- HPXn_LINK.PERST [4], RO. -/
def HPXn_LINK_PERST (n : Nat) : Fld := ⟨0x40070000 + 0x1000 * n, 4, 4⟩
/-- HPXn_LINK.REVERSED [3], RO. -/
def HPXn_LINK_REVERSED (n : Nat) : Fld := ⟨0x40070000 + 0x1000 * n, 3, 3⟩
/-- Address of HPXn_FUNC (R123). -/
def HPXn_FUNC (n : Nat) : Nat := 0x40070004 + 0x1000 * n
/-- HPXn_FUNC.BME [8], RO. -/
def HPXn_FUNC_BME (n : Nat) : Fld := ⟨0x40070004 + 0x1000 * n, 8, 8⟩
/-- HPXn_FUNC.DSTATE [5:4], RO. -/
def HPXn_FUNC_DSTATE (n : Nat) : Fld := ⟨0x40070004 + 0x1000 * n, 5, 4⟩
/-- HPXn_FUNC.MSIXMASK [1], RO. -/
def HPXn_FUNC_MSIXMASK (n : Nat) : Fld := ⟨0x40070004 + 0x1000 * n, 1, 1⟩
/-- HPXn_FUNC.MSIXEN [0], RO. -/
def HPXn_FUNC_MSIXEN (n : Nat) : Fld := ⟨0x40070004 + 0x1000 * n, 0, 0⟩
/-- Address of HPXn_EVT_STAT (R123). -/
def HPXn_EVT_STAT (n : Nat) : Nat := 0x40070010 + 0x1000 * n
/-- HPXn_EVT_STAT.DSTATE [5], W1C. -/
def HPXn_EVT_STAT_DSTATE (n : Nat) : Fld := ⟨0x40070010 + 0x1000 * n, 5, 5⟩
/-- HPXn_EVT_STAT.FLR [4], W1C. -/
def HPXn_EVT_STAT_FLR (n : Nat) : Fld := ⟨0x40070010 + 0x1000 * n, 4, 4⟩
/-- HPXn_EVT_STAT.FE [3], W1C. -/
def HPXn_EVT_STAT_FE (n : Nat) : Fld := ⟨0x40070010 + 0x1000 * n, 3, 3⟩
/-- HPXn_EVT_STAT.NFE [2], W1C. -/
def HPXn_EVT_STAT_NFE (n : Nat) : Fld := ⟨0x40070010 + 0x1000 * n, 2, 2⟩
/-- HPXn_EVT_STAT.CE [1], W1C. -/
def HPXn_EVT_STAT_CE (n : Nat) : Fld := ⟨0x40070010 + 0x1000 * n, 1, 1⟩
/-- HPXn_EVT_STAT.LINK [0], W1C. -/
def HPXn_EVT_STAT_LINK (n : Nat) : Fld := ⟨0x40070010 + 0x1000 * n, 0, 0⟩
/-- Address of HPXn_EVT_EN (R123). -/
def HPXn_EVT_EN (n : Nat) : Nat := 0x40070014 + 0x1000 * n
/-- HPXn_EVT_EN.EN [5:0], RW. -/
def HPXn_EVT_EN_EN (n : Nat) : Fld := ⟨0x40070014 + 0x1000 * n, 5, 0⟩
/-- Address of HPXn_RECOV (R123). -/
def HPXn_RECOV (n : Nat) : Nat := 0x40070040 + 0x1000 * n
/-- HPXn_RECOV.COUNT [31:0], RO. -/
def HPXn_RECOV_COUNT (n : Nat) : Fld := ⟨0x40070040 + 0x1000 * n, 31, 0⟩
/-- Address of HPXn_LINKDOWN (R123). -/
def HPXn_LINKDOWN (n : Nat) : Nat := 0x40070044 + 0x1000 * n
/-- HPXn_LINKDOWN.COUNT [31:0], RO. -/
def HPXn_LINKDOWN_COUNT (n : Nat) : Fld := ⟨0x40070044 + 0x1000 * n, 31, 0⟩
/-- Address of HPXn_CE (R123). -/
def HPXn_CE (n : Nat) : Nat := 0x40070048 + 0x1000 * n
/-- HPXn_CE.COUNT [31:0], RO. -/
def HPXn_CE_COUNT (n : Nat) : Fld := ⟨0x40070048 + 0x1000 * n, 31, 0⟩
/-- Address of HPXn_NFE (R123). -/
def HPXn_NFE (n : Nat) : Nat := 0x4007004c + 0x1000 * n
/-- HPXn_NFE.COUNT [31:0], RO. -/
def HPXn_NFE_COUNT (n : Nat) : Fld := ⟨0x4007004c + 0x1000 * n, 31, 0⟩
/-- Address of HPXn_FE (R123). -/
def HPXn_FE (n : Nat) : Nat := 0x40070050 + 0x1000 * n
/-- HPXn_FE.COUNT [31:0], RO. -/
def HPXn_FE_COUNT (n : Nat) : Fld := ⟨0x40070050 + 0x1000 * n, 31, 0⟩
/-- Address of HPXn_FLR (R123). -/
def HPXn_FLR (n : Nat) : Nat := 0x40070054 + 0x1000 * n
/-- HPXn_FLR.COUNT [31:0], RO. -/
def HPXn_FLR_COUNT (n : Nat) : Fld := ⟨0x40070054 + 0x1000 * n, 31, 0⟩
/-- Address of HPXn_CNT_CLR (R123). -/
def HPXn_CNT_CLR (n : Nat) : Nat := 0x40070060 + 0x1000 * n
/-- HPXn_CNT_CLR.ALL [0], WO. -/
def HPXn_CNT_CLR_ALL (n : Nat) : Fld := ⟨0x40070060 + 0x1000 * n, 0, 0⟩
/-- Address of HQE_PORTCFG (R124). -/
def HQE_PORTCFG : Nat := 0x40080004
/-- HQE_PORTCFG.MODE [8], RO. -/
def HQE_PORTCFG_MODE : Fld := ⟨0x40080004, 8, 8⟩
/-- HQE_PORTCFG.P1_WIDTH [5:3], RO. -/
def HQE_PORTCFG_P1_WIDTH : Fld := ⟨0x40080004, 5, 3⟩
/-- HQE_PORTCFG.P0_WIDTH [2:0], RO. -/
def HQE_PORTCFG_P0_WIDTH : Fld := ⟨0x40080004, 2, 0⟩
/-- Address of HQE_CTX_FREE (R124). -/
def HQE_CTX_FREE : Nat := 0x40080008
/-- HQE_CTX_FREE.COUNT [14:0], RO. -/
def HQE_CTX_FREE_COUNT : Fld := ⟨0x40080008, 14, 0⟩
/-- Address of HQE_CTX_LOW (R124). -/
def HQE_CTX_LOW : Nat := 0x4008000c
/-- HQE_CTX_LOW.COUNT [14:0], RO. -/
def HQE_CTX_LOW_COUNT : Fld := ⟨0x4008000c, 14, 0⟩
/-- Address of HQE_Q_FREE (R124). -/
def HQE_Q_FREE : Nat := 0x40080010
/-- HQE_Q_FREE.CQ [26:16], RO. -/
def HQE_Q_FREE_CQ : Fld := ⟨0x40080010, 26, 16⟩
/-- HQE_Q_FREE.SQ [10:0], RO. -/
def HQE_Q_FREE_SQ : Fld := ⟨0x40080010, 10, 0⟩
/-- Address of HQE_STALL_CTX (R124). -/
def HQE_STALL_CTX : Nat := 0x40080020
/-- HQE_STALL_CTX.COUNT [31:0], RO. -/
def HQE_STALL_CTX_COUNT : Fld := ⟨0x40080020, 31, 0⟩
/-- Address of HQE_STALL_CTX_US (R124). -/
def HQE_STALL_CTX_US : Nat := 0x40080024
/-- HQE_STALL_CTX_US.COUNT [31:0], RO. -/
def HQE_STALL_CTX_US_COUNT : Fld := ⟨0x40080024, 31, 0⟩
/-- Address of HQE_STALL_CQ (R124). -/
def HQE_STALL_CQ : Nat := 0x40080028
/-- HQE_STALL_CQ.COUNT [31:0], RO. -/
def HQE_STALL_CQ_COUNT : Fld := ⟨0x40080028, 31, 0⟩
/-- Address of HQE_STALL_CQ_US (R124). -/
def HQE_STALL_CQ_US : Nat := 0x4008002c
/-- HQE_STALL_CQ_US.COUNT [31:0], RO. -/
def HQE_STALL_CQ_US_COUNT : Fld := ⟨0x4008002c, 31, 0⟩
/-- Address of HQE_STALL_WC (R124). -/
def HQE_STALL_WC : Nat := 0x40080030
/-- HQE_STALL_WC.COUNT [31:0], RO. -/
def HQE_STALL_WC_COUNT : Fld := ⟨0x40080030, 31, 0⟩
/-- Address of HQE_STALL_WC_US (R124). -/
def HQE_STALL_WC_US : Nat := 0x40080034
/-- HQE_STALL_WC_US.COUNT [31:0], RO. -/
def HQE_STALL_WC_US_COUNT : Fld := ⟨0x40080034, 31, 0⟩
/-- Address of HQE_CNT_CLR (R124). -/
def HQE_CNT_CLR : Nat := 0x40080040
/-- HQE_CNT_CLR.ALL [0], WO. -/
def HQE_CNT_CLR_ALL : Fld := ⟨0x40080040, 0, 0⟩
/-- Address of HQE_DE_PENDn (R155). -/
def HQE_DE_PENDn (n : Nat) : Nat := 0x40080050 + 4 * n
/-- HQE_DE_PENDn.COUNT [10:0], RO. -/
def HQE_DE_PENDn_COUNT (n : Nat) : Fld := ⟨0x40080050 + 4 * n, 10, 0⟩
/-- Address of HQE_DE_LOST (R155). -/
def HQE_DE_LOST : Nat := 0x40080058
/-- HQE_DE_LOST.COUNT [31:0], RO. -/
def HQE_DE_LOST_COUNT : Fld := ⟨0x40080058, 31, 0⟩
/-- Address of HQE_CQ_LOST (R155). -/
def HQE_CQ_LOST : Nat := 0x4008005c
/-- HQE_CQ_LOST.COUNT [31:0], RO STK. -/
def HQE_CQ_LOST_COUNT : Fld := ⟨0x4008005c, 31, 0⟩
/-- Address of HQE_ARRIVAL_LO (R155). -/
def HQE_ARRIVAL_LO : Nat := 0x40080060
/-- HQE_ARRIVAL_LO.NUM [31:0], RO. -/
def HQE_ARRIVAL_LO_NUM : Fld := ⟨0x40080060, 31, 0⟩
/-- Address of HQE_ARRIVAL_HI (R155). -/
def HQE_ARRIVAL_HI : Nat := 0x40080064
/-- HQE_ARRIVAL_HI.NUM [31:0], RO. -/
def HQE_ARRIVAL_HI_NUM : Fld := ⟨0x40080064, 31, 0⟩
/-- Address of RLT_USED (R154). -/
def RLT_USED : Nat := 0x40090004
/-- RLT_USED.COUNT [13:0], RO. -/
def RLT_USED_COUNT : Fld := ⟨0x40090004, 13, 0⟩
/-- Address of RLT_HIGH (R154). -/
def RLT_HIGH : Nat := 0x40090008
/-- RLT_HIGH.COUNT [13:0], RO. -/
def RLT_HIGH_COUNT : Fld := ⟨0x40090008, 13, 0⟩
/-- Address of RLT_STALL (R154). -/
def RLT_STALL : Nat := 0x40090010
/-- RLT_STALL.COUNT [31:0], RO. -/
def RLT_STALL_COUNT : Fld := ⟨0x40090010, 31, 0⟩
/-- Address of RLT_STALL_US (R154). -/
def RLT_STALL_US : Nat := 0x40090014
/-- RLT_STALL_US.COUNT [31:0], RO. -/
def RLT_STALL_US_COUNT : Fld := ⟨0x40090014, 31, 0⟩
/-- Address of RLT_WAITS (R154). -/
def RLT_WAITS : Nat := 0x40090018
/-- RLT_WAITS.COUNT [31:0], RO. -/
def RLT_WAITS_COUNT : Fld := ⟨0x40090018, 31, 0⟩
/-- Address of RLT_TAIL_WAITS (R154). -/
def RLT_TAIL_WAITS : Nat := 0x4009001c
/-- RLT_TAIL_WAITS.COUNT [31:0], RO. -/
def RLT_TAIL_WAITS_COUNT : Fld := ⟨0x4009001c, 31, 0⟩
/-- Address of RLT_CNT_CLR (R154). -/
def RLT_CNT_CLR : Nat := 0x40090020
/-- RLT_CNT_CLR.ALL [0], WO. -/
def RLT_CNT_CLR_ALL : Fld := ⟨0x40090020, 0, 0⟩
/-- Address of MSC_LEASE_CFG (R176). -/
def MSC_LEASE_CFG : Nat := 0x400a0800
/-- MSC_LEASE_CFG.MARGIN [23:16], RW. -/
def MSC_LEASE_CFG_MARGIN : Fld := ⟨0x400a0800, 23, 16⟩
/-- MSC_LEASE_CFG.LEN [15:0], RW. -/
def MSC_LEASE_CFG_LEN : Fld := ⟨0x400a0800, 15, 0⟩
/-- Address of MSC_LEASE_USED (R176). -/
def MSC_LEASE_USED : Nat := 0x400a0804
/-- MSC_LEASE_USED.COUNT [10:0], RO. -/
def MSC_LEASE_USED_COUNT : Fld := ⟨0x400a0804, 10, 0⟩
/-- Address of MSC_LEASE_CUT (R176). -/
def MSC_LEASE_CUT : Nat := 0x400a0808
/-- MSC_LEASE_CUT.COUNT [31:0], RO. -/
def MSC_LEASE_CUT_COUNT : Fld := ⟨0x400a0808, 31, 0⟩
/-- Address of MSC_LEASE_WAIT (R176). -/
def MSC_LEASE_WAIT : Nat := 0x400a080c
/-- MSC_LEASE_WAIT.COUNT [31:0], RO. -/
def MSC_LEASE_WAIT_COUNT : Fld := ⟨0x400a080c, 31, 0⟩
/-- Address of MSC_LEASE_FULL (R176). -/
def MSC_LEASE_FULL : Nat := 0x400a0810
/-- MSC_LEASE_FULL.COUNT [31:0], RO. -/
def MSC_LEASE_FULL_COUNT : Fld := ⟨0x400a0810, 31, 0⟩
/-- Address of MSC_LEASE_REVOKE (R176). -/
def MSC_LEASE_REVOKE : Nat := 0x400a0814
/-- MSC_LEASE_REVOKE.COUNT [31:0], RO. -/
def MSC_LEASE_REVOKE_COUNT : Fld := ⟨0x400a0814, 31, 0⟩
/-- Address of MSC_LEASE_CLR (R176). -/
def MSC_LEASE_CLR : Nat := 0x400a0818
/-- MSC_LEASE_CLR.ALL [0], WO. -/
def MSC_LEASE_CLR_ALL : Fld := ⟨0x400a0818, 0, 0⟩
/-- Address of MSC_BASIC (R218). -/
def MSC_BASIC : Nat := 0x400a0000
/-- MSC_BASIC.KEEP [9], WO. -/
def MSC_BASIC_KEEP : Fld := ⟨0x400a0000, 9, 9⟩
/-- MSC_BASIC.MODE [8], RO. -/
def MSC_BASIC_MODE : Fld := ⟨0x400a0000, 8, 8⟩
/-- MSC_BASIC.PROFILE [7:4], RW. -/
def MSC_BASIC_PROFILE : Fld := ⟨0x400a0000, 7, 4⟩
/-- MSC_BASIC.ENABLE [0], RW. -/
def MSC_BASIC_ENABLE : Fld := ⟨0x400a0000, 0, 0⟩
/-- Address of MSC_LOCK (R218). -/
def MSC_LOCK : Nat := 0x400a0004
/-- MSC_LOCK.LOCK [0], W1S. -/
def MSC_LOCK_LOCK : Fld := ⟨0x400a0004, 0, 0⟩
/-- Address of MSC_CREDIT (R218). -/
def MSC_CREDIT : Nat := 0x400a0010
/-- MSC_CREDIT.HIGH [23:16], RW. -/
def MSC_CREDIT_HIGH : Fld := ⟨0x400a0010, 23, 16⟩
/-- MSC_CREDIT.MED [15:8], RW. -/
def MSC_CREDIT_MED : Fld := ⟨0x400a0010, 15, 8⟩
/-- MSC_CREDIT.LOW [7:0], RW. -/
def MSC_CREDIT_LOW : Fld := ⟨0x400a0010, 7, 0⟩
/-- Address of MSC_AGE (R218). -/
def MSC_AGE : Nat := 0x400a0014
/-- MSC_AGE.URG [31:24], RW. -/
def MSC_AGE_URG : Fld := ⟨0x400a0014, 31, 24⟩
/-- MSC_AGE.HIGH [23:16], RW. -/
def MSC_AGE_HIGH : Fld := ⟨0x400a0014, 23, 16⟩
/-- MSC_AGE.MED [15:8], RW. -/
def MSC_AGE_MED : Fld := ⟨0x400a0014, 15, 8⟩
/-- MSC_AGE.LOW [7:0], RW. -/
def MSC_AGE_LOW : Fld := ⟨0x400a0014, 7, 0⟩
/-- Address of MSC_DISPATCH (R218). -/
def MSC_DISPATCH : Nat := 0x400a0018
/-- MSC_DISPATCH.SEL_LEAD [31:24], RW. -/
def MSC_DISPATCH_SEL_LEAD : Fld := ⟨0x400a0018, 31, 24⟩
/-- MSC_DISPATCH.TMO [23:16], RW. -/
def MSC_DISPATCH_TMO : Fld := ⟨0x400a0018, 23, 16⟩
/-- MSC_DISPATCH.STEAL [0], RW. -/
def MSC_DISPATCH_STEAL : Fld := ⟨0x400a0018, 0, 0⟩
/-- Address of MSC_WCG_CFG (R218). -/
def MSC_WCG_CFG : Nat := 0x400a0020
/-- MSC_WCG_CFG.MAX [2:0], RW. -/
def MSC_WCG_CFG_MAX : Fld := ⟨0x400a0020, 2, 0⟩
/-- Address of MSC_WCG_VMOT (R218). -/
def MSC_WCG_VMOT : Nat := 0x400a0024
/-- MSC_WCG_VMOT.T1 [29:20], RWL. -/
def MSC_WCG_VMOT_T1 : Fld := ⟨0x400a0024, 29, 20⟩
/-- MSC_WCG_VMOT.T2 [19:10], RWL. -/
def MSC_WCG_VMOT_T2 : Fld := ⟨0x400a0024, 19, 10⟩
/-- MSC_WCG_VMOT.T3 [9:0], RWL. -/
def MSC_WCG_VMOT_T3 : Fld := ⟨0x400a0024, 9, 0⟩
/-- Address of MSC_WCG_VDDA (R218). -/
def MSC_WCG_VDDA : Nat := 0x400a0028
/-- MSC_WCG_VDDA.T1 [29:20], RWL. -/
def MSC_WCG_VDDA_T1 : Fld := ⟨0x400a0028, 29, 20⟩
/-- MSC_WCG_VDDA.T2 [19:10], RWL. -/
def MSC_WCG_VDDA_T2 : Fld := ⟨0x400a0028, 19, 10⟩
/-- MSC_WCG_VDDA.T3 [9:0], RWL. -/
def MSC_WCG_VDDA_T3 : Fld := ⟨0x400a0028, 9, 0⟩
/-- Address of MSC_WCG_STATUS (R218). -/
def MSC_WCG_STATUS : Nat := 0x400a002c
/-- MSC_WCG_STATUS.XFER_RUN [30:28], RO. -/
def MSC_WCG_STATUS_XFER_RUN : Fld := ⟨0x400a002c, 30, 28⟩
/-- MSC_WCG_STATUS.XFER_CAP [26:24], RO. -/
def MSC_WCG_STATUS_XFER_CAP : Fld := ⟨0x400a002c, 26, 24⟩
/-- MSC_WCG_STATUS.PMU_CAP [22:20], RO. -/
def MSC_WCG_STATUS_PMU_CAP : Fld := ⟨0x400a002c, 22, 20⟩
/-- MSC_WCG_STATUS.VMOT_CAP [18:16], RO. -/
def MSC_WCG_STATUS_VMOT_CAP : Fld := ⟨0x400a002c, 18, 16⟩
/-- MSC_WCG_STATUS.VDDA_CAP [14:12], RO. -/
def MSC_WCG_STATUS_VDDA_CAP : Fld := ⟨0x400a002c, 14, 12⟩
/-- MSC_WCG_STATUS.CAP [10:8], RO. -/
def MSC_WCG_STATUS_CAP : Fld := ⟨0x400a002c, 10, 8⟩
/-- MSC_WCG_STATUS.RUN [2:0], RO. -/
def MSC_WCG_STATUS_RUN : Fld := ⟨0x400a002c, 2, 0⟩
/-- Address of MSC_DESTAGE (R218). -/
def MSC_DESTAGE : Nat := 0x400a0030
/-- MSC_DESTAGE.BOUND [15:0], RW. -/
def MSC_DESTAGE_BOUND : Fld := ⟨0x400a0030, 15, 0⟩
/-- Address of MSC_DESTAGE_EST (R218). -/
def MSC_DESTAGE_EST : Nat := 0x400a0034
/-- MSC_DESTAGE_EST.MS [31:0], RO. -/
def MSC_DESTAGE_EST_MS : Fld := ⟨0x400a0034, 31, 0⟩
/-- Address of MSC_HSW (R218). -/
def MSC_HSW : Nat := 0x400a0038
/-- MSC_HSW.W [31:16], RWL. -/
def MSC_HSW_W : Fld := ⟨0x400a0038, 31, 16⟩
/-- MSC_HSW.R [15:0], RWL. -/
def MSC_HSW_R : Fld := ⟨0x400a0038, 15, 0⟩
/-- Address of MSC_CNT_CLR (R218). -/
def MSC_CNT_CLR : Nat := 0x400a0040
/-- MSC_CNT_CLR.ALL [0], WO. -/
def MSC_CNT_CLR_ALL : Fld := ⟨0x400a0040, 0, 0⟩
/-- Address of MSC_USEDn (R218). -/
def MSC_USEDn (n : Nat) : Nat := 0x400a0100 + 0x40 * n
/-- MSC_USEDn.COUNT [11:0], RO. -/
def MSC_USEDn_COUNT (n : Nat) : Fld := ⟨0x400a0100 + 0x40 * n, 11, 0⟩
/-- Address of MSC_HIGHn (R218). -/
def MSC_HIGHn (n : Nat) : Nat := 0x400a0104 + 0x40 * n
/-- MSC_HIGHn.COUNT [11:0], RO. -/
def MSC_HIGHn_COUNT (n : Nat) : Fld := ⟨0x400a0104 + 0x40 * n, 11, 0⟩
/-- Address of MSC_DISPn (R218). -/
def MSC_DISPn (n : Nat) : Nat := 0x400a0108 + 0x40 * n
/-- MSC_DISPn.COUNT [31:0], RO. -/
def MSC_DISPn_COUNT (n : Nat) : Fld := ⟨0x400a0108 + 0x40 * n, 31, 0⟩
/-- Address of MSC_RDSECn (R218). -/
def MSC_RDSECn (n : Nat) : Nat := 0x400a010c + 0x40 * n
/-- MSC_RDSECn.COUNT [31:0], RO. -/
def MSC_RDSECn_COUNT (n : Nat) : Fld := ⟨0x400a010c + 0x40 * n, 31, 0⟩
/-- Address of MSC_WRSECn (R218). -/
def MSC_WRSECn (n : Nat) : Nat := 0x400a0110 + 0x40 * n
/-- MSC_WRSECn.COUNT [31:0], RO. -/
def MSC_WRSECn_COUNT (n : Nat) : Fld := ⟨0x400a0110 + 0x40 * n, 31, 0⟩
/-- Address of MSC_ACCSUMn (R218). -/
def MSC_ACCSUMn (n : Nat) : Nat := 0x400a0114 + 0x40 * n
/-- MSC_ACCSUMn.COUNT [31:0], RO. -/
def MSC_ACCSUMn_COUNT (n : Nat) : Fld := ⟨0x400a0114 + 0x40 * n, 31, 0⟩
/-- Address of MSC_ROTMISSn (R218). -/
def MSC_ROTMISSn (n : Nat) : Nat := 0x400a0118 + 0x40 * n
/-- MSC_ROTMISSn.COUNT [31:0], RO. -/
def MSC_ROTMISSn_COUNT (n : Nat) : Fld := ⟨0x400a0118 + 0x40 * n, 31, 0⟩
/-- Address of MSC_OVERDUEn (R218). -/
def MSC_OVERDUEn (n : Nat) : Nat := 0x400a011c + 0x40 * n
/-- MSC_OVERDUEn.COUNT [31:0], RO. -/
def MSC_OVERDUEn_COUNT (n : Nat) : Fld := ⟨0x400a011c + 0x40 * n, 31, 0⟩
/-- Address of MSC_STALLn (R218). -/
def MSC_STALLn (n : Nat) : Nat := 0x400a0120 + 0x40 * n
/-- MSC_STALLn.COUNT [31:0], RO. -/
def MSC_STALLn_COUNT (n : Nat) : Fld := ⟨0x400a0120 + 0x40 * n, 31, 0⟩
/-- Address of MSC_STALL_USn (R218). -/
def MSC_STALL_USn (n : Nat) : Nat := 0x400a0124 + 0x40 * n
/-- MSC_STALL_USn.COUNT [31:0], RO. -/
def MSC_STALL_USn_COUNT (n : Nat) : Fld := ⟨0x400a0124 + 0x40 * n, 31, 0⟩
/-- Address of MSC_STEALn (R218). -/
def MSC_STEALn (n : Nat) : Nat := 0x400a0128 + 0x40 * n
/-- MSC_STEALn.COUNT [31:0], RO. -/
def MSC_STEALn_COUNT (n : Nat) : Fld := ⟨0x400a0128 + 0x40 * n, 31, 0⟩
/-- Address of MSC_MOVEDn (R218). -/
def MSC_MOVEDn (n : Nat) : Nat := 0x400a012c + 0x40 * n
/-- MSC_MOVEDn.COUNT [31:0], RO. -/
def MSC_MOVEDn_COUNT (n : Nat) : Fld := ⟨0x400a012c + 0x40 * n, 31, 0⟩
/-- Address of MSC_TMOn (R218). -/
def MSC_TMOn (n : Nat) : Nat := 0x400a0130 + 0x40 * n
/-- MSC_TMOn.COUNT [31:0], RO. -/
def MSC_TMOn_COUNT (n : Nat) : Fld := ⟨0x400a0130 + 0x40 * n, 31, 0⟩
/-- Address of MSC_WCG_WAITn (R218). -/
def MSC_WCG_WAITn (n : Nat) : Nat := 0x400a0134 + 0x40 * n
/-- MSC_WCG_WAITn.COUNT [31:0], RO. -/
def MSC_WCG_WAITn_COUNT (n : Nat) : Fld := ⟨0x400a0134 + 0x40 * n, 31, 0⟩
/-- Address of MSC_SEEKn_i_DIST (R218). -/
def MSC_SEEKn_i_DIST (n i : Nat) : Nat := 0x400a1000 + 0x200 * n + 8 * i
/-- MSC_SEEKn_i_DIST.DIST [23:0], RWL. -/
def MSC_SEEKn_i_DIST_DIST (n i : Nat) : Fld := ⟨0x400a1000 + 0x200 * n + 8 * i, 23, 0⟩
/-- Address of MSC_SEEKn_i_TIME (R218). -/
def MSC_SEEKn_i_TIME (n i : Nat) : Nat := 0x400a1004 + 0x200 * n + 8 * i
/-- MSC_SEEKn_i_TIME.WTIME [31:16], RWL. -/
def MSC_SEEKn_i_TIME_WTIME (n i : Nat) : Fld := ⟨0x400a1004 + 0x200 * n + 8 * i, 31, 16⟩
/-- MSC_SEEKn_i_TIME.RTIME [15:0], RWL. -/
def MSC_SEEKn_i_TIME_RTIME (n i : Nat) : Fld := ⟨0x400a1004 + 0x200 * n + 8 * i, 15, 0⟩
/-- Address of XTS_KCTRL (R189). -/
def XTS_KCTRL : Nat := 0x401d0008
/-- XTS_KCTRL.AUTH [22:16], WO. -/
def XTS_KCTRL_AUTH : Fld := ⟨0x401d0008, 22, 16⟩
/-- XTS_KCTRL.SLOT [14:8], WO. -/
def XTS_KCTRL_SLOT : Fld := ⟨0x401d0008, 14, 8⟩
/-- XTS_KCTRL.OP [3:0], WO. -/
def XTS_KCTRL_OP : Fld := ⟨0x401d0008, 3, 0⟩
/-- Address of XTS_STATUS (R189). -/
def XTS_STATUS : Nat := 0x401d000c
/-- XTS_STATUS.BUSY [31], RO. -/
def XTS_STATUS_BUSY : Fld := ⟨0x401d000c, 31, 31⟩
/-- XTS_STATUS.ERR [19:16], RO. -/
def XTS_STATUS_ERR : Fld := ⟨0x401d000c, 19, 16⟩
/-- XTS_STATUS.DONE [8], W1C. -/
def XTS_STATUS_DONE : Fld := ⟨0x401d000c, 8, 8⟩
/-- XTS_STATUS.DRBGOK [0], RO. -/
def XTS_STATUS_DRBGOK : Fld := ⟨0x401d000c, 0, 0⟩
/-- Address of XTS_SLOTVn (R189). -/
def XTS_SLOTVn (n : Nat) : Nat := 0x401d0010 + 4 * n
/-- XTS_SLOTVn.VALID [31:0], RO. -/
def XTS_SLOTVn_VALID (n : Nat) : Fld := ⟨0x401d0010 + 4 * n, 31, 0⟩
/-- Address of XTS_EVT_STAT (R189). -/
def XTS_EVT_STAT : Nat := 0x401d0020
/-- XTS_EVT_STAT.UNWRAP [1], W1C. -/
def XTS_EVT_STAT_UNWRAP : Fld := ⟨0x401d0020, 1, 1⟩
/-- XTS_EVT_STAT.HEALTH [0], W1C. -/
def XTS_EVT_STAT_HEALTH : Fld := ⟨0x401d0020, 0, 0⟩
/-- Address of XTS_EVT_EN (R189). -/
def XTS_EVT_EN : Nat := 0x401d0024
/-- XTS_EVT_EN.EN [1:0], RW. -/
def XTS_EVT_EN_EN : Fld := ⟨0x401d0024, 1, 0⟩
/-- Address of XTS_CRED_n (R189). -/
def XTS_CRED_n (n : Nat) : Nat := 0x401d0040 + 4 * n
/-- XTS_CRED_n.DATA [31:0], WO. -/
def XTS_CRED_n_DATA (n : Nat) : Fld := ⟨0x401d0040 + 4 * n, 31, 0⟩
/-- Address of XTS_BLOB_n (R189). -/
def XTS_BLOB_n (n : Nat) : Nat := 0x401d0080 + 4 * n
/-- XTS_BLOB_n.DATA [31:0], RW. -/
def XTS_BLOB_n_DATA (n : Nat) : Fld := ⟨0x401d0080 + 4 * n, 31, 0⟩
/-- Address of XTS_SECTENC (R189). -/
def XTS_SECTENC : Nat := 0x401d0100
/-- XTS_SECTENC.COUNT [31:0], RO. -/
def XTS_SECTENC_COUNT : Fld := ⟨0x401d0100, 31, 0⟩
/-- Address of XTS_SECTDEC (R189). -/
def XTS_SECTDEC : Nat := 0x401d0104
/-- XTS_SECTDEC.COUNT [31:0], RO. -/
def XTS_SECTDEC_COUNT : Fld := ⟨0x401d0104, 31, 0⟩
/-- Address of XTS_GENS (R189). -/
def XTS_GENS : Nat := 0x401d0108
/-- XTS_GENS.COUNT [31:0], RO. -/
def XTS_GENS_COUNT : Fld := ⟨0x401d0108, 31, 0⟩
/-- Address of XTS_UNWRAPFAIL (R189). -/
def XTS_UNWRAPFAIL : Nat := 0x401d010c
/-- XTS_UNWRAPFAIL.COUNT [31:0], RO. -/
def XTS_UNWRAPFAIL_COUNT : Fld := ⟨0x401d010c, 31, 0⟩
/-- Address of XTS_CNT_CLR (R189). -/
def XTS_CNT_CLR : Nat := 0x401d0110
/-- XTS_CNT_CLR.ALL [0], WO. -/
def XTS_CNT_CLR_ALL : Fld := ⟨0x401d0110, 0, 0⟩
/-- Address of TRS_LOCK (R266). -/
def TRS_LOCK : Nat := 0x400c0004
/-- TRS_LOCK.SLOCK [0], W1S. -/
def TRS_LOCK_SLOCK : Fld := ⟨0x400c0004, 0, 0⟩
/-- Address of TRS_CS_CTRL (R266). -/
def TRS_CS_CTRL : Nat := 0x400c0008
/-- TRS_CS_CTRL.QSEL [10:9], RW. -/
def TRS_CS_CTRL_QSEL : Fld := ⟨0x400c0008, 10, 9⟩
/-- TRS_CS_CTRL.INJ [8], RW. -/
def TRS_CS_CTRL_INJ : Fld := ⟨0x400c0008, 8, 8⟩
/-- TRS_CS_CTRL.COPEN [0], RW. -/
def TRS_CS_CTRL_COPEN : Fld := ⟨0x400c0008, 0, 0⟩
/-- Address of TRS_CENTRY_LO (R266). -/
def TRS_CENTRY_LO : Nat := 0x400c0010
/-- TRS_CENTRY_LO.VALID [31:0], RW. -/
def TRS_CENTRY_LO_VALID : Fld := ⟨0x400c0010, 31, 0⟩
/-- Address of TRS_CENTRY_HI (R266). -/
def TRS_CENTRY_HI : Nat := 0x400c0014
/-- TRS_CENTRY_HI.VALID [31:0], RW. -/
def TRS_CENTRY_HI_VALID : Fld := ⟨0x400c0014, 31, 0⟩
/-- Address of TRS_SKIP_BASE (R266). -/
def TRS_SKIP_BASE : Nat := 0x400c0018
/-- TRS_SKIP_BASE.ADDR [31:5], RWL. -/
def TRS_SKIP_BASE_ADDR : Fld := ⟨0x400c0018, 31, 5⟩
/-- Address of TRS_SKIP_LIMIT (R266). -/
def TRS_SKIP_LIMIT : Nat := 0x400c001c
/-- TRS_SKIP_LIMIT.COUNT [14:0], RWL. -/
def TRS_SKIP_LIMIT_COUNT : Fld := ⟨0x400c001c, 14, 0⟩
/-- Address of TRS_IMAGE_ID (R266). -/
def TRS_IMAGE_ID : Nat := 0x400c0020
/-- TRS_IMAGE_ID.ID [31:0], RO. -/
def TRS_IMAGE_ID_ID : Fld := ⟨0x400c0020, 31, 0⟩
/-- Address of TRS_EVT_STAT (R266). -/
def TRS_EVT_STAT : Nat := 0x400c0030
/-- TRS_EVT_STAT.REFUSED [1], W1C. -/
def TRS_EVT_STAT_REFUSED : Fld := ⟨0x400c0030, 1, 1⟩
/-- TRS_EVT_STAT.CINVAL [0], W1C. -/
def TRS_EVT_STAT_CINVAL : Fld := ⟨0x400c0030, 0, 0⟩
/-- Address of TRS_EVT_EN (R266). -/
def TRS_EVT_EN : Nat := 0x400c0034
/-- TRS_EVT_EN.EN [1:0], RW. -/
def TRS_EVT_EN_EN : Fld := ⟨0x400c0034, 1, 0⟩
/-- Address of TRS_CNT_CLR (R266). -/
def TRS_CNT_CLR : Nat := 0x400c0040
/-- TRS_CNT_CLR.ALL [0], WO. -/
def TRS_CNT_CLR_ALL : Fld := ⟨0x400c0040, 0, 0⟩
/-- Address of TRS_SPT_n_i (R266). -/
def TRS_SPT_n_i (n i : Nat) : Nat := 0x400c0400 + 0x80 * n + 4 * i
/-- TRS_SPT_n_i.ODD [31:16], RWL. -/
def TRS_SPT_n_i_ODD (n i : Nat) : Fld := ⟨0x400c0400 + 0x80 * n + 4 * i, 31, 16⟩
/-- TRS_SPT_n_i.EVEN [15:0], RWL. -/
def TRS_SPT_n_i_EVEN (n i : Nat) : Fld := ⟨0x400c0400 + 0x80 * n + 4 * i, 15, 0⟩
/-- Address of TRSn_CTRL (R266). -/
def TRSn_CTRL (n : Nat) : Nat := 0x400c1004 + 0x1000 * n
/-- TRSn_CTRL.STEP [4], WO. -/
def TRSn_CTRL_STEP (n : Nat) : Fld := ⟨0x400c1004 + 0x1000 * n, 4, 4⟩
/-- TRSn_CTRL.HOLD [3], RW. -/
def TRSn_CTRL_HOLD (n : Nat) : Fld := ⟨0x400c1004 + 0x1000 * n, 3, 3⟩
/-- TRSn_CTRL.CLR [2], WO. -/
def TRSn_CTRL_CLR (n : Nat) : Fld := ⟨0x400c1004 + 0x1000 * n, 2, 2⟩
/-- TRSn_CTRL.STOP [1], WO. -/
def TRSn_CTRL_STOP (n : Nat) : Fld := ⟨0x400c1004 + 0x1000 * n, 1, 1⟩
/-- TRSn_CTRL.ABORT [0], WO. -/
def TRSn_CTRL_ABORT (n : Nat) : Fld := ⟨0x400c1004 + 0x1000 * n, 0, 0⟩
/-- Address of TRSn_STATUS (R266). -/
def TRSn_STATUS (n : Nat) : Nat := 0x400c1008 + 0x1000 * n
/-- TRSn_STATUS.WAITING [15:12], RO. -/
def TRSn_STATUS_WAITING (n : Nat) : Fld := ⟨0x400c1008 + 0x1000 * n, 15, 12⟩
/-- TRSn_STATUS.ROOM [11], RO. -/
def TRSn_STATUS_ROOM (n : Nat) : Fld := ⟨0x400c1008 + 0x1000 * n, 11, 11⟩
/-- TRSn_STATUS.LEASE [10], RO. -/
def TRSn_STATUS_LEASE (n : Nat) : Fld := ⟨0x400c1008 + 0x1000 * n, 10, 10⟩
/-- TRSn_STATUS.WINH [9], RO. -/
def TRSn_STATUS_WINH (n : Nat) : Fld := ⟨0x400c1008 + 0x1000 * n, 9, 9⟩
/-- TRSn_STATUS.ABORTP [8], RO. -/
def TRSn_STATUS_ABORTP (n : Nat) : Fld := ⟨0x400c1008 + 0x1000 * n, 8, 8⟩
/-- TRSn_STATUS.FLAG1 [7], RO. -/
def TRSn_STATUS_FLAG1 (n : Nat) : Fld := ⟨0x400c1008 + 0x1000 * n, 7, 7⟩
/-- TRSn_STATUS.FLAG0 [6], RO. -/
def TRSn_STATUS_FLAG0 (n : Nat) : Fld := ⟨0x400c1008 + 0x1000 * n, 6, 6⟩
/-- TRSn_STATUS.STATE [2:0], RO. -/
def TRSn_STATUS_STATE (n : Nat) : Fld := ⟨0x400c1008 + 0x1000 * n, 2, 0⟩
/-- Address of TRSn_PC (R266). -/
def TRSn_PC (n : Nat) : Nat := 0x400c100c + 0x1000 * n
/-- TRSn_PC.ADDR [13:0], RO. -/
def TRSn_PC_ADDR (n : Nat) : Fld := ⟨0x400c100c + 0x1000 * n, 13, 0⟩
/-- Address of TRSn_SECT (R266). -/
def TRSn_SECT (n : Nat) : Nat := 0x400c1010 + 0x1000 * n
/-- TRSn_SECT.DONE [26:16], RO. -/
def TRSn_SECT_DONE (n : Nat) : Fld := ⟨0x400c1010 + 0x1000 * n, 26, 16⟩
/-- TRSn_SECT.CLASS [11:10], RO. -/
def TRSn_SECT_CLASS (n : Nat) : Fld := ⟨0x400c1010 + 0x1000 * n, 11, 10⟩
/-- TRSn_SECT.PSEC [9:0], RO. -/
def TRSn_SECT_PSEC (n : Nat) : Fld := ⟨0x400c1010 + 0x1000 * n, 9, 0⟩
/-- Address of TRSn_CNT (R266). -/
def TRSn_CNT (n : Nat) : Nat := 0x400c1014 + 0x1000 * n
/-- TRSn_CNT.CNT1 [31:16], RO. -/
def TRSn_CNT_CNT1 (n : Nat) : Fld := ⟨0x400c1014 + 0x1000 * n, 31, 16⟩
/-- TRSn_CNT.CNT0 [15:0], RO. -/
def TRSn_CNT_CNT0 (n : Nat) : Fld := ⟨0x400c1014 + 0x1000 * n, 15, 0⟩
/-- Address of TRSn_SANG (R266). -/
def TRSn_SANG (n : Nat) : Nat := 0x400c1018 + 0x1000 * n
/-- TRSn_SANG.ANGLE [31:0], RO. -/
def TRSn_SANG_ANGLE (n : Nat) : Fld := ⟨0x400c1018 + 0x1000 * n, 31, 0⟩
/-- Address of TRSn_OUT (R266). -/
def TRSn_OUT (n : Nat) : Nat := 0x400c101c + 0x1000 * n
/-- TRSn_OUT.FAIL [31:16], RO. -/
def TRSn_OUT_FAIL (n : Nat) : Fld := ⟨0x400c101c + 0x1000 * n, 31, 16⟩
/-- TRSn_OUT.CODE [7:0], RO. -/
def TRSn_OUT_CODE (n : Nat) : Fld := ⟨0x400c101c + 0x1000 * n, 7, 0⟩
/-- Address of TRSn_DESCi (R266). -/
def TRSn_DESCi (n i : Nat) : Nat := 0x400c1020 + 0x1000 * n + 4 * i
/-- TRSn_DESCi.DATA [31:0], RO. -/
def TRSn_DESCi_DATA (n i : Nat) : Fld := ⟨0x400c1020 + 0x1000 * n + 4 * i, 31, 0⟩
/-- Address of TRSn_MCHK (R266). -/
def TRSn_MCHK (n : Nat) : Nat := 0x400c1040 + 0x1000 * n
/-- TRSn_MCHK.VALID [31], RO. -/
def TRSn_MCHK_VALID (n : Nat) : Fld := ⟨0x400c1040 + 0x1000 * n, 31, 31⟩
/-- TRSn_MCHK.ADDR [29:16], RO. -/
def TRSn_MCHK_ADDR (n : Nat) : Fld := ⟨0x400c1040 + 0x1000 * n, 29, 16⟩
/-- TRSn_MCHK.CAUSE [3:0], RO. -/
def TRSn_MCHK_CAUSE (n : Nat) : Fld := ⟨0x400c1040 + 0x1000 * n, 3, 0⟩
/-- Address of TRSn_EVT_STAT (R266). -/
def TRSn_EVT_STAT (n : Nat) : Nat := 0x400c1048 + 0x1000 * n
/-- TRSn_EVT_STAT.SEQ [4], W1C. -/
def TRSn_EVT_STAT_SEQ (n : Nat) : Fld := ⟨0x400c1048 + 0x1000 * n, 4, 4⟩
/-- TRSn_EVT_STAT.LATEW [3], W1C. -/
def TRSn_EVT_STAT_LATEW (n : Nat) : Fld := ⟨0x400c1048 + 0x1000 * n, 3, 3⟩
/-- TRSn_EVT_STAT.FORCED [2], W1C. -/
def TRSn_EVT_STAT_FORCED (n : Nat) : Fld := ⟨0x400c1048 + 0x1000 * n, 2, 2⟩
/-- TRSn_EVT_STAT.ESCAL [1], W1C. -/
def TRSn_EVT_STAT_ESCAL (n : Nat) : Fld := ⟨0x400c1048 + 0x1000 * n, 1, 1⟩
/-- TRSn_EVT_STAT.MCHK [0], W1C. -/
def TRSn_EVT_STAT_MCHK (n : Nat) : Fld := ⟨0x400c1048 + 0x1000 * n, 0, 0⟩
/-- Address of TRSn_EVT_EN (R266). -/
def TRSn_EVT_EN (n : Nat) : Nat := 0x400c104c + 0x1000 * n
/-- TRSn_EVT_EN.EN [4:0], RW. -/
def TRSn_EVT_EN_EN (n : Nat) : Fld := ⟨0x400c104c + 0x1000 * n, 4, 0⟩
/-- Address of TRSn_OPS (R266). -/
def TRSn_OPS (n : Nat) : Nat := 0x400c1050 + 0x1000 * n
/-- TRSn_OPS.COUNT [31:0], RO. -/
def TRSn_OPS_COUNT (n : Nat) : Fld := ⟨0x400c1050 + 0x1000 * n, 31, 0⟩
/-- Address of TRSn_MCHKS (R266). -/
def TRSn_MCHKS (n : Nat) : Nat := 0x400c1054 + 0x1000 * n
/-- TRSn_MCHKS.COUNT [31:0], RO. -/
def TRSn_MCHKS_COUNT (n : Nat) : Fld := ⟨0x400c1054 + 0x1000 * n, 31, 0⟩
/-- Address of TRSn_LATEW (R266). -/
def TRSn_LATEW (n : Nat) : Nat := 0x400c1058 + 0x1000 * n
/-- TRSn_LATEW.COUNT [31:0], RO. -/
def TRSn_LATEW_COUNT (n : Nat) : Fld := ⟨0x400c1058 + 0x1000 * n, 31, 0⟩
/-- Address of TRSn_LATER (R266). -/
def TRSn_LATER (n : Nat) : Nat := 0x400c105c + 0x1000 * n
/-- TRSn_LATER.COUNT [31:0], RO. -/
def TRSn_LATER_COUNT (n : Nat) : Fld := ⟨0x400c105c + 0x1000 * n, 31, 0⟩
/-- Address of TRSn_FORCED (R266). -/
def TRSn_FORCED (n : Nat) : Nat := 0x400c1060 + 0x1000 * n
/-- TRSn_FORCED.COUNT [31:0], RO. -/
def TRSn_FORCED_COUNT (n : Nat) : Fld := ⟨0x400c1060 + 0x1000 * n, 31, 0⟩
/-- Address of TRSn_QSTALL (R266). -/
def TRSn_QSTALL (n : Nat) : Nat := 0x400c1064 + 0x1000 * n
/-- TRSn_QSTALL.COUNT [31:0], RO. -/
def TRSn_QSTALL_COUNT (n : Nat) : Fld := ⟨0x400c1064 + 0x1000 * n, 31, 0⟩
/-- Address of RWCn_BASIC (R299). -/
def RWCn_BASIC (n : Nat) : Nat := 0x40100000 + 0x10000 * n
/-- RWCn_BASIC.KEEP [9], WO. -/
def RWCn_BASIC_KEEP (n : Nat) : Fld := ⟨0x40100000 + 0x10000 * n, 9, 9⟩
/-- RWCn_BASIC.MODE [8], RO. -/
def RWCn_BASIC_MODE (n : Nat) : Fld := ⟨0x40100000 + 0x10000 * n, 8, 8⟩
/-- RWCn_BASIC.PROFILE [7:4], RW. -/
def RWCn_BASIC_PROFILE (n : Nat) : Fld := ⟨0x40100000 + 0x10000 * n, 7, 4⟩
/-- RWCn_BASIC.ENABLE [0], RW. -/
def RWCn_BASIC_ENABLE (n : Nat) : Fld := ⟨0x40100000 + 0x10000 * n, 0, 0⟩
/-- Address of RWCn_LOCK (R299). -/
def RWCn_LOCK (n : Nat) : Nat := 0x40100004 + 0x10000 * n
/-- RWCn_LOCK.LOCK [0], W1S. -/
def RWCn_LOCK_LOCK (n : Nat) : Fld := ⟨0x40100004 + 0x10000 * n, 0, 0⟩
/-- Address of RWCn_SVWIN (R299). -/
def RWCn_SVWIN (n : Nat) : Nat := 0x40100008 + 0x10000 * n
/-- RWCn_SVWIN.PRE [31:16], RWL. -/
def RWCn_SVWIN_PRE (n : Nat) : Fld := ⟨0x40100008 + 0x10000 * n, 31, 16⟩
/-- RWCn_SVWIN.POST [15:0], RWL. -/
def RWCn_SVWIN_POST (n : Nat) : Fld := ⟨0x40100008 + 0x10000 * n, 15, 0⟩
/-- Address of RWCn_SM1 (R299). -/
def RWCn_SM1 (n : Nat) : Nat := 0x4010000c + 0x10000 * n
/-- RWCn_SM1.PATTERN [31:0], RWL. -/
def RWCn_SM1_PATTERN (n : Nat) : Fld := ⟨0x4010000c + 0x10000 * n, 31, 0⟩
/-- Address of RWCn_SM2 (R299). -/
def RWCn_SM2 (n : Nat) : Nat := 0x40100010 + 0x10000 * n
/-- RWCn_SM2.PATTERN [31:0], RWL. -/
def RWCn_SM2_PATTERN (n : Nat) : Fld := ⟨0x40100010 + 0x10000 * n, 31, 0⟩
/-- Address of RWCn_ZBASE (R299). -/
def RWCn_ZBASE (n : Nat) : Nat := 0x40100014 + 0x10000 * n
/-- RWCn_ZBASE.ADDR [31:12], RWL. -/
def RWCn_ZBASE_ADDR (n : Nat) : Fld := ⟨0x40100014 + 0x10000 * n, 31, 12⟩
/-- Address of RWCn_TLOOP (R299). -/
def RWCn_TLOOP (n : Nat) : Nat := 0x40100020 + 0x10000 * n
/-- RWCn_TLOOP.AKP [31:24], RW. -/
def RWCn_TLOOP_AKP (n : Nat) : Fld := ⟨0x40100020 + 0x10000 * n, 31, 24⟩
/-- RWCn_TLOOP.AKI [23:16], RW. -/
def RWCn_TLOOP_AKI (n : Nat) : Fld := ⟨0x40100020 + 0x10000 * n, 23, 16⟩
/-- RWCn_TLOOP.TKP [15:8], RW. -/
def RWCn_TLOOP_TKP (n : Nat) : Fld := ⟨0x40100020 + 0x10000 * n, 15, 8⟩
/-- RWCn_TLOOP.TKI [7:0], RW. -/
def RWCn_TLOOP_TKI (n : Nat) : Fld := ⟨0x40100020 + 0x10000 * n, 7, 0⟩
/-- Address of RWCn_SYNC (R299). -/
def RWCn_SYNC (n : Nat) : Nat := 0x40100024 + 0x10000 * n
/-- RWCn_SYNC.CONF [14:12], RW. -/
def RWCn_SYNC_CONF (n : Nat) : Fld := ⟨0x40100024 + 0x10000 * n, 14, 12⟩
/-- RWCn_SYNC.SMTOL [11:8], RW. -/
def RWCn_SYNC_SMTOL (n : Nat) : Fld := ⟨0x40100024 + 0x10000 * n, 11, 8⟩
/-- RWCn_SYNC.WIN [6:0], RW. -/
def RWCn_SYNC_WIN (n : Nat) : Fld := ⟨0x40100024 + 0x10000 * n, 6, 0⟩
/-- Address of RWCn_LDPC (R299). -/
def RWCn_LDPC (n : Nat) : Nat := 0x40100028 + 0x10000 * n
/-- RWCn_LDPC.EARLY [8], RW. -/
def RWCn_LDPC_EARLY (n : Nat) : Fld := ⟨0x40100028 + 0x10000 * n, 8, 8⟩
/-- RWCn_LDPC.CAP [6:0], RW. -/
def RWCn_LDPC_CAP (n : Nat) : Fld := ⟨0x40100028 + 0x10000 * n, 6, 0⟩
/-- Address of RWCn_ADAPT (R299). -/
def RWCn_ADAPT (n : Nat) : Nat := 0x4010002c + 0x10000 * n
/-- RWCn_ADAPT.FREEZE [12], RW. -/
def RWCn_ADAPT_FREEZE (n : Nat) : Fld := ⟨0x4010002c + 0x10000 * n, 12, 12⟩
/-- RWCn_ADAPT.ASYM_SH [11:8], RW. -/
def RWCn_ADAPT_ASYM_SH (n : Nat) : Fld := ⟨0x4010002c + 0x10000 * n, 11, 8⟩
/-- RWCn_ADAPT.OFF_SH [7:4], RW. -/
def RWCn_ADAPT_OFF_SH (n : Nat) : Fld := ⟨0x4010002c + 0x10000 * n, 7, 4⟩
/-- RWCn_ADAPT.GAIN_SH [3:0], RW. -/
def RWCn_ADAPT_GAIN_SH (n : Nat) : Fld := ⟨0x4010002c + 0x10000 * n, 3, 0⟩
/-- Address of RWCn_PEAK (R299). -/
def RWCn_PEAK (n : Nat) : Nat := 0x40100030 + 0x10000 * n
/-- RWCn_PEAK.GRANT [0], RW. -/
def RWCn_PEAK_GRANT (n : Nat) : Fld := ⟨0x40100030 + 0x10000 * n, 0, 0⟩
/-- Address of RWCn_STATUS (R299). -/
def RWCn_STATUS (n : Nat) : Nat := 0x40100100 + 0x10000 * n
/-- RWCn_STATUS.UNITS [14:13], RO. -/
def RWCn_STATUS_UNITS (n : Nat) : Fld := ⟨0x40100100 + 0x10000 * n, 14, 13⟩
/-- RWCn_STATUS.UNDERRUN [11], RO. -/
def RWCn_STATUS_UNDERRUN (n : Nat) : Fld := ⟨0x40100100 + 0x10000 * n, 11, 11⟩
/-- RWCn_STATUS.WINH [10], RO. -/
def RWCn_STATUS_WINH (n : Nat) : Fld := ⟨0x40100100 + 0x10000 * n, 10, 10⟩
/-- RWCn_STATUS.WMASK [9], RO. -/
def RWCn_STATUS_WMASK (n : Nat) : Fld := ⟨0x40100100 + 0x10000 * n, 9, 9⟩
/-- RWCn_STATUS.SVW [8], RO. -/
def RWCn_STATUS_SVW (n : Nat) : Fld := ⟨0x40100100 + 0x10000 * n, 8, 8⟩
/-- RWCn_STATUS.RQ [6:4], RO. -/
def RWCn_STATUS_RQ (n : Nat) : Fld := ⟨0x40100100 + 0x10000 * n, 6, 4⟩
/-- RWCn_STATUS.EQ [2:0], RO. -/
def RWCn_STATUS_EQ (n : Nat) : Fld := ⟨0x40100100 + 0x10000 * n, 2, 0⟩
/-- Address of RWCn_RES (R299). -/
def RWCn_RES (n : Nat) : Nat := 0x40100104 + 0x10000 * n
/-- RWCn_RES.FAIL [31], RO. -/
def RWCn_RES_FAIL (n : Nat) : Fld := ⟨0x40100104 + 0x10000 * n, 31, 31⟩
/-- RWCn_RES.CAUSE [30:28], RO. -/
def RWCn_RES_CAUSE (n : Nat) : Fld := ⟨0x40100104 + 0x10000 * n, 30, 28⟩
/-- RWCn_RES.PROV [27], RO. -/
def RWCn_RES_PROV (n : Nat) : Fld := ⟨0x40100104 + 0x10000 * n, 27, 27⟩
/-- RWCn_RES.SM1 [26], RO. -/
def RWCn_RES_SM1 (n : Nat) : Fld := ⟨0x40100104 + 0x10000 * n, 26, 26⟩
/-- RWCn_RES.SM2 [25], RO. -/
def RWCn_RES_SM2 (n : Nat) : Fld := ⟨0x40100104 + 0x10000 * n, 25, 25⟩
/-- RWCn_RES.SM2OK [24], RO. -/
def RWCn_RES_SM2OK (n : Nat) : Fld := ⟨0x40100104 + 0x10000 * n, 24, 24⟩
/-- RWCn_RES.REDEC [23], RO. -/
def RWCn_RES_REDEC (n : Nat) : Fld := ⟨0x40100104 + 0x10000 * n, 23, 23⟩
/-- RWCn_RES.SLOT [22:20], RO. -/
def RWCn_RES_SLOT (n : Nat) : Fld := ⟨0x40100104 + 0x10000 * n, 22, 20⟩
/-- RWCn_RES.SVALID [19], RO. -/
def RWCn_RES_SVALID (n : Nat) : Fld := ⟨0x40100104 + 0x10000 * n, 19, 19⟩
/-- RWCn_RES.E [15:8], RO. -/
def RWCn_RES_E (n : Nat) : Fld := ⟨0x40100104 + 0x10000 * n, 15, 8⟩
/-- RWCn_RES.ITER [7:0], RO. -/
def RWCn_RES_ITER (n : Nat) : Fld := ⟨0x40100104 + 0x10000 * n, 7, 0⟩
/-- Address of RWCn_RTAG_LO (R299). -/
def RWCn_RTAG_LO (n : Nat) : Nat := 0x40100108 + 0x10000 * n
/-- RWCn_RTAG_LO.TAG [31:0], RO. -/
def RWCn_RTAG_LO_TAG (n : Nat) : Fld := ⟨0x40100108 + 0x10000 * n, 31, 0⟩
/-- Address of RWCn_RTAG_HI (R299). -/
def RWCn_RTAG_HI (n : Nat) : Nat := 0x4010010c + 0x10000 * n
/-- RWCn_RTAG_HI.TAG [31:0], RO. -/
def RWCn_RTAG_HI_TAG (n : Nat) : Fld := ⟨0x4010010c + 0x10000 * n, 31, 0⟩
/-- Address of RWCn_ADOUT_A (R299). -/
def RWCn_ADOUT_A (n : Nat) : Nat := 0x40100110 + 0x10000 * n
/-- RWCn_ADOUT_A.ASYM [23:16], RO. -/
def RWCn_ADOUT_A_ASYM (n : Nat) : Fld := ⟨0x40100110 + 0x10000 * n, 23, 16⟩
/-- RWCn_ADOUT_A.OFF [15:8], RO. -/
def RWCn_ADOUT_A_OFF (n : Nat) : Fld := ⟨0x40100110 + 0x10000 * n, 15, 8⟩
/-- RWCn_ADOUT_A.GAIN [7:0], RO. -/
def RWCn_ADOUT_A_GAIN (n : Nat) : Fld := ⟨0x40100110 + 0x10000 * n, 7, 0⟩
/-- Address of RWCn_ADOUT_B (R299). -/
def RWCn_ADOUT_B (n : Nat) : Nat := 0x40100114 + 0x10000 * n
/-- RWCn_ADOUT_B.ASYM [23:16], RO. -/
def RWCn_ADOUT_B_ASYM (n : Nat) : Fld := ⟨0x40100114 + 0x10000 * n, 23, 16⟩
/-- RWCn_ADOUT_B.OFF [15:8], RO. -/
def RWCn_ADOUT_B_OFF (n : Nat) : Fld := ⟨0x40100114 + 0x10000 * n, 15, 8⟩
/-- RWCn_ADOUT_B.GAIN [7:0], RO. -/
def RWCn_ADOUT_B_GAIN (n : Nat) : Fld := ⟨0x40100114 + 0x10000 * n, 7, 0⟩
/-- Address of RWCn_EVT_STAT (R299). -/
def RWCn_EVT_STAT (n : Nat) : Nat := 0x40100120 + 0x10000 * n
/-- RWCn_EVT_STAT.TAGFAIL [3], W1C. -/
def RWCn_EVT_STAT_TAGFAIL (n : Nat) : Fld := ⟨0x40100120 + 0x10000 * n, 3, 3⟩
/-- RWCn_EVT_STAT.ESCAL [2], W1C. -/
def RWCn_EVT_STAT_ESCAL (n : Nat) : Fld := ⟨0x40100120 + 0x10000 * n, 2, 2⟩
/-- RWCn_EVT_STAT.UNDERRUN [1], W1C. -/
def RWCn_EVT_STAT_UNDERRUN (n : Nat) : Fld := ⟨0x40100120 + 0x10000 * n, 1, 1⟩
/-- RWCn_EVT_STAT.OVERRUN [0], W1C. -/
def RWCn_EVT_STAT_OVERRUN (n : Nat) : Fld := ⟨0x40100120 + 0x10000 * n, 0, 0⟩
/-- Address of RWCn_EVT_EN (R299). -/
def RWCn_EVT_EN (n : Nat) : Nat := 0x40100124 + 0x10000 * n
/-- RWCn_EVT_EN.EN [3:0], RW. -/
def RWCn_EVT_EN_EN (n : Nat) : Fld := ⟨0x40100124 + 0x10000 * n, 3, 0⟩
/-- Address of RWCn_SECT_RD (R299). -/
def RWCn_SECT_RD (n : Nat) : Nat := 0x40100200 + 0x10000 * n
/-- RWCn_SECT_RD.COUNT [31:0], RO. -/
def RWCn_SECT_RD_COUNT (n : Nat) : Fld := ⟨0x40100200 + 0x10000 * n, 31, 0⟩
/-- Address of RWCn_SECT_WR (R299). -/
def RWCn_SECT_WR (n : Nat) : Nat := 0x40100204 + 0x10000 * n
/-- RWCn_SECT_WR.COUNT [31:0], RO. -/
def RWCn_SECT_WR_COUNT (n : Nat) : Fld := ⟨0x40100204 + 0x10000 * n, 31, 0⟩
/-- Address of RWCn_SM1MISS (R299). -/
def RWCn_SM1MISS (n : Nat) : Nat := 0x40100208 + 0x10000 * n
/-- RWCn_SM1MISS.COUNT [31:0], RO. -/
def RWCn_SM1MISS_COUNT (n : Nat) : Fld := ⟨0x40100208 + 0x10000 * n, 31, 0⟩
/-- Address of RWCn_SYNCMISS (R299). -/
def RWCn_SYNCMISS (n : Nat) : Nat := 0x4010020c + 0x10000 * n
/-- RWCn_SYNCMISS.COUNT [31:0], RO. -/
def RWCn_SYNCMISS_COUNT (n : Nat) : Fld := ⟨0x4010020c + 0x10000 * n, 31, 0⟩
/-- Address of RWCn_PROV (R299). -/
def RWCn_PROV (n : Nat) : Nat := 0x40100210 + 0x10000 * n
/-- RWCn_PROV.COUNT [31:0], RO. -/
def RWCn_PROV_COUNT (n : Nat) : Fld := ⟨0x40100210 + 0x10000 * n, 31, 0⟩
/-- Address of RWCn_LDPCFAIL (R299). -/
def RWCn_LDPCFAIL (n : Nat) : Nat := 0x40100214 + 0x10000 * n
/-- RWCn_LDPCFAIL.COUNT [31:0], RO. -/
def RWCn_LDPCFAIL_COUNT (n : Nat) : Fld := ⟨0x40100214 + 0x10000 * n, 31, 0⟩
/-- Address of RWCn_TAGFAIL (R299). -/
def RWCn_TAGFAIL (n : Nat) : Nat := 0x40100218 + 0x10000 * n
/-- RWCn_TAGFAIL.COUNT [31:0], RO. -/
def RWCn_TAGFAIL_COUNT (n : Nat) : Fld := ⟨0x40100218 + 0x10000 * n, 31, 0⟩
/-- Address of RWCn_REDEC (R299). -/
def RWCn_REDEC (n : Nat) : Nat := 0x4010021c + 0x10000 * n
/-- RWCn_REDEC.COUNT [31:0], RO. -/
def RWCn_REDEC_COUNT (n : Nat) : Fld := ⟨0x4010021c + 0x10000 * n, 31, 0⟩
/-- Address of RWCn_REDECOK (R299). -/
def RWCn_REDECOK (n : Nat) : Nat := 0x40100220 + 0x10000 * n
/-- RWCn_REDECOK.COUNT [31:0], RO. -/
def RWCn_REDECOK_COUNT (n : Nat) : Fld := ⟨0x40100220 + 0x10000 * n, 31, 0⟩
/-- Address of RWCn_OVERRUN (R299). -/
def RWCn_OVERRUN (n : Nat) : Nat := 0x40100224 + 0x10000 * n
/-- RWCn_OVERRUN.COUNT [31:0], RO. -/
def RWCn_OVERRUN_COUNT (n : Nat) : Fld := ⟨0x40100224 + 0x10000 * n, 31, 0⟩
/-- Address of RWCn_UNDERRUN (R299). -/
def RWCn_UNDERRUN (n : Nat) : Nat := 0x40100228 + 0x10000 * n
/-- RWCn_UNDERRUN.COUNT [31:0], RO. -/
def RWCn_UNDERRUN_COUNT (n : Nat) : Fld := ⟨0x40100228 + 0x10000 * n, 31, 0⟩
/-- Address of RWCn_INHHIT (R299). -/
def RWCn_INHHIT (n : Nat) : Nat := 0x4010022c + 0x10000 * n
/-- RWCn_INHHIT.COUNT [31:0], RO. -/
def RWCn_INHHIT_COUNT (n : Nat) : Fld := ⟨0x4010022c + 0x10000 * n, 31, 0⟩
/-- Address of RWCn_ITERSUM (R299). -/
def RWCn_ITERSUM (n : Nat) : Nat := 0x40100230 + 0x10000 * n
/-- RWCn_ITERSUM.COUNT [31:0], RO. -/
def RWCn_ITERSUM_COUNT (n : Nat) : Fld := ⟨0x40100230 + 0x10000 * n, 31, 0⟩
/-- Address of RWCn_CNT_CLR (R299). -/
def RWCn_CNT_CLR (n : Nat) : Nat := 0x40100240 + 0x10000 * n
/-- RWCn_CNT_CLR.ALL [0], WO. -/
def RWCn_CNT_CLR_ALL (n : Nat) : Fld := ⟨0x40100240 + 0x10000 * n, 0, 0⟩
/-- Address of RWCn_OP_ALIGN (R299). -/
def RWCn_OP_ALIGN (n : Nat) : Nat := 0x40100400 + 0x10000 * n
/-- RWCn_OP_ALIGN.ALIGN [3:0], RW. -/
def RWCn_OP_ALIGN_ALIGN (n : Nat) : Fld := ⟨0x40100400 + 0x10000 * n, 3, 0⟩
/-- Address of RWCn_OP_WIN (R299). -/
def RWCn_OP_WIN (n : Nat) : Nat := 0x40100404 + 0x10000 * n
/-- RWCn_OP_WIN.WIN [6:0], RW. -/
def RWCn_OP_WIN_WIN (n : Nat) : Fld := ⟨0x40100404 + 0x10000 * n, 6, 0⟩
/-- Address of RWCn_OP_ITER (R299). -/
def RWCn_OP_ITER (n : Nat) : Nat := 0x40100408 + 0x10000 * n
/-- RWCn_OP_ITER.ITER [6:0], RW. -/
def RWCn_OP_ITER_ITER (n : Nat) : Fld := ⟨0x40100408 + 0x10000 * n, 6, 0⟩
/-- Address of RWCn_OP_PAR (R299). -/
def RWCn_OP_PAR (n : Nat) : Nat := 0x4010040c + 0x10000 * n
/-- RWCn_OP_PAR.SRC [0], RW. -/
def RWCn_OP_PAR_SRC (n : Nat) : Fld := ⟨0x4010040c + 0x10000 * n, 0, 0⟩
/-- Address of RWCn_CODE_r_k (R299). -/
def RWCn_CODE_r_k (n r k : Nat) : Nat := 0x40108000 + 0x10000 * n + 0x80 * r + 4 * k
/-- RWCn_CODE_r_k.V [31], RWL. -/
def RWCn_CODE_r_k_V (n r k : Nat) : Fld := ⟨0x40108000 + 0x10000 * n + 0x80 * r + 4 * k, 31, 31⟩
/-- RWCn_CODE_r_k.COL [25:16], RWL. -/
def RWCn_CODE_r_k_COL (n r k : Nat) : Fld := ⟨0x40108000 + 0x10000 * n + 0x80 * r + 4 * k, 25, 16⟩
/-- RWCn_CODE_r_k.SHIFT [5:0], RWL. -/
def RWCn_CODE_r_k_SHIFT (n r k : Nat) : Fld := ⟨0x40108000 + 0x10000 * n + 0x80 * r + 4 * k, 5, 0⟩
/-- Address of PIF_BASIC (R333). -/
def PIF_BASIC : Nat := 0x40150000
/-- PIF_BASIC.KEEP [9], WO. -/
def PIF_BASIC_KEEP : Fld := ⟨0x40150000, 9, 9⟩
/-- PIF_BASIC.MODE [8], RO. -/
def PIF_BASIC_MODE : Fld := ⟨0x40150000, 8, 8⟩
/-- PIF_BASIC.PROFILE [7:4], RW. -/
def PIF_BASIC_PROFILE : Fld := ⟨0x40150000, 7, 4⟩
/-- PIF_BASIC.ENABLE [0], RW. -/
def PIF_BASIC_ENABLE : Fld := ⟨0x40150000, 0, 0⟩
/-- Address of PIF_LOCK (R333). -/
def PIF_LOCK : Nat := 0x40150004
/-- PIF_LOCK.LOCK [0], W1S. -/
def PIF_LOCK_LOCK : Fld := ⟨0x40150004, 0, 0⟩
/-- Address of PIF_SCLK (R333). -/
def PIF_SCLK : Nat := 0x40150008
/-- PIF_SCLK.DIV [3:0], RWL. -/
def PIF_SCLK_DIV : Fld := ⟨0x40150008, 3, 0⟩
/-- Address of PIF_PBASE (R333). -/
def PIF_PBASE : Nat := 0x4015000c
/-- PIF_PBASE.ADDR [31:12], RWL. -/
def PIF_PBASE_ADDR : Fld := ⟨0x4015000c, 31, 12⟩
/-- Address of PIF_SHK_CFG (R333). -/
def PIF_SHK_CFG : Nat := 0x40150010
/-- PIF_SHK_CFG.HOLD [31:24], RW. -/
def PIF_SHK_CFG_HOLD : Fld := ⟨0x40150010, 31, 24⟩
/-- PIF_SHK_CFG.MINDWELL [23:16], RW. -/
def PIF_SHK_CFG_MINDWELL : Fld := ⟨0x40150010, 23, 16⟩
/-- PIF_SHK_CFG.ROT_THR [15:8], RW. -/
def PIF_SHK_CFG_ROT_THR : Fld := ⟨0x40150010, 15, 8⟩
/-- PIF_SHK_CFG.LIN_THR [7:0], RW. -/
def PIF_SHK_CFG_LIN_THR : Fld := ⟨0x40150010, 7, 0⟩
/-- Address of PIF_MEMS_CFG (R333). -/
def PIF_MEMS_CFG : Nat := 0x40150014
/-- PIF_MEMS_CFG.ADDR [31:24], RW. -/
def PIF_MEMS_CFG_ADDR : Fld := ⟨0x40150014, 31, 24⟩
/-- PIF_MEMS_CFG.THR [15:0], RW. -/
def PIF_MEMS_CFG_THR : Fld := ⟨0x40150014, 15, 0⟩
/-- Address of PIF_SHK_STAT (R333). -/
def PIF_SHK_STAT : Nat := 0x40150018
/-- PIF_SHK_STAT.MEMS_MASKED [9], RO. -/
def PIF_SHK_STAT_MEMS_MASKED : Fld := ⟨0x40150018, 9, 9⟩
/-- PIF_SHK_STAT.ANA_MASKED [8], RO. -/
def PIF_SHK_STAT_ANA_MASKED : Fld := ⟨0x40150018, 8, 8⟩
/-- PIF_SHK_STAT.MEMS_STUCK [6], RO. -/
def PIF_SHK_STAT_MEMS_STUCK : Fld := ⟨0x40150018, 6, 6⟩
/-- PIF_SHK_STAT.ROT_STUCK [5], RO. -/
def PIF_SHK_STAT_ROT_STUCK : Fld := ⟨0x40150018, 5, 5⟩
/-- PIF_SHK_STAT.LIN_STUCK [4], RO. -/
def PIF_SHK_STAT_LIN_STUCK : Fld := ⟨0x40150018, 4, 4⟩
/-- PIF_SHK_STAT.MEMS_ACT [2], RO. -/
def PIF_SHK_STAT_MEMS_ACT : Fld := ⟨0x40150018, 2, 2⟩
/-- PIF_SHK_STAT.ROT_ACT [1], RO. -/
def PIF_SHK_STAT_ROT_ACT : Fld := ⟨0x40150018, 1, 1⟩
/-- PIF_SHK_STAT.LIN_ACT [0], RO. -/
def PIF_SHK_STAT_LIN_ACT : Fld := ⟨0x40150018, 0, 0⟩
/-- Address of PIF_SHK_ACK (R333). -/
def PIF_SHK_ACK : Nat := 0x4015001c
/-- PIF_SHK_ACK.ACK [1:0], RWO0. -/
def PIF_SHK_ACK_ACK : Fld := ⟨0x4015001c, 1, 0⟩
/-- Address of PIF_EVT_STAT (R333). -/
def PIF_EVT_STAT : Nat := 0x40150020
/-- PIF_EVT_STAT.STUCK [1], W1C. -/
def PIF_EVT_STAT_STUCK : Fld := ⟨0x40150020, 1, 1⟩
/-- PIF_EVT_STAT.SHOCK [0], W1C. -/
def PIF_EVT_STAT_SHOCK : Fld := ⟨0x40150020, 0, 0⟩
/-- Address of PIF_EVT_EN (R333). -/
def PIF_EVT_EN : Nat := 0x40150024
/-- PIF_EVT_EN.EN [1:0], RW. -/
def PIF_EVT_EN_EN : Fld := ⟨0x40150024, 1, 0⟩
/-- Address of PIF_SHK_LINCNT (R333). -/
def PIF_SHK_LINCNT : Nat := 0x40150030
/-- PIF_SHK_LINCNT.COUNT [31:0], RO. -/
def PIF_SHK_LINCNT_COUNT : Fld := ⟨0x40150030, 31, 0⟩
/-- Address of PIF_SHK_ROTCNT (R333). -/
def PIF_SHK_ROTCNT : Nat := 0x40150034
/-- PIF_SHK_ROTCNT.COUNT [31:0], RO. -/
def PIF_SHK_ROTCNT_COUNT : Fld := ⟨0x40150034, 31, 0⟩
/-- Address of PIF_SHK_MEMSCNT (R333). -/
def PIF_SHK_MEMSCNT : Nat := 0x40150038
/-- PIF_SHK_MEMSCNT.COUNT [31:0], RO. -/
def PIF_SHK_MEMSCNT_COUNT : Fld := ⟨0x40150038, 31, 0⟩
/-- Address of PIF_STUCKCNT (R333). -/
def PIF_STUCKCNT : Nat := 0x4015003c
/-- PIF_STUCKCNT.COUNT [31:0], RO. -/
def PIF_STUCKCNT_COUNT : Fld := ⟨0x4015003c, 31, 0⟩
/-- Address of PIF_CNT_CLR (R333). -/
def PIF_CNT_CLR : Nat := 0x40150040
/-- PIF_CNT_CLR.ALL [0], WO. -/
def PIF_CNT_CLR_ALL : Fld := ⟨0x40150040, 0, 0⟩
/-- Address of PIF_CMD_n_LO (R333). -/
def PIF_CMD_n_LO (n : Nat) : Nat := 0x40158000 + 8 * n
/-- PIF_CMD_n_LO.V [31], RWL. -/
def PIF_CMD_n_LO_V (n : Nat) : Fld := ⟨0x40158000 + 8 * n, 31, 31⟩
/-- PIF_CMD_n_LO.RW [30], RWL. -/
def PIF_CMD_n_LO_RW (n : Nat) : Fld := ⟨0x40158000 + 8 * n, 30, 30⟩
/-- PIF_CMD_n_LO.SRC [29:27], RWL. -/
def PIF_CMD_n_LO_SRC (n : Nat) : Fld := ⟨0x40158000 + 8 * n, 29, 27⟩
/-- PIF_CMD_n_LO.ADDR [22:16], RWL. -/
def PIF_CMD_n_LO_ADDR (n : Nat) : Fld := ⟨0x40158000 + 8 * n, 22, 16⟩
/-- PIF_CMD_n_LO.DATA [15:0], RWL. -/
def PIF_CMD_n_LO_DATA (n : Nat) : Fld := ⟨0x40158000 + 8 * n, 15, 0⟩
/-- Address of PIF_CMD_n_HI (R333). -/
def PIF_CMD_n_HI (n : Nat) : Nat := 0x40158004 + 8 * n
/-- PIF_CMD_n_HI.MASK [31:16], RWL. -/
def PIF_CMD_n_HI_MASK (n : Nat) : Fld := ⟨0x40158004 + 8 * n, 31, 16⟩
/-- PIF_CMD_n_HI.EXPECT [15:0], RWL. -/
def PIF_CMD_n_HI_EXPECT (n : Nat) : Fld := ⟨0x40158004 + 8 * n, 15, 0⟩
/-- Address of PAn_BASIC (R333). -/
def PAn_BASIC (n : Nat) : Nat := 0x40151000 + 0x1000 * n
/-- PAn_BASIC.KEEP [9], WO. -/
def PAn_BASIC_KEEP (n : Nat) : Fld := ⟨0x40151000 + 0x1000 * n, 9, 9⟩
/-- PAn_BASIC.MODE [8], RO. -/
def PAn_BASIC_MODE (n : Nat) : Fld := ⟨0x40151000 + 0x1000 * n, 8, 8⟩
/-- PAn_BASIC.PROFILE [7:4], RW. -/
def PAn_BASIC_PROFILE (n : Nat) : Fld := ⟨0x40151000 + 0x1000 * n, 7, 4⟩
/-- PAn_BASIC.ENABLE [0], RW. -/
def PAn_BASIC_ENABLE (n : Nat) : Fld := ⟨0x40151000 + 0x1000 * n, 0, 0⟩
/-- Address of PAn_WINH_CFG (R333). -/
def PAn_WINH_CFG (n : Nat) : Nat := 0x40151004 + 0x1000 * n
/-- PAn_WINH_CFG.CLRN [27:24], RW. -/
def PAn_WINH_CFG_CLRN (n : Nat) : Fld := ⟨0x40151004 + 0x1000 * n, 27, 24⟩
/-- PAn_WINH_CFG.CTHR [23:12], RW. -/
def PAn_WINH_CFG_CTHR (n : Nat) : Fld := ⟨0x40151004 + 0x1000 * n, 23, 12⟩
/-- PAn_WINH_CFG.WTHR [11:0], RW. -/
def PAn_WINH_CFG_WTHR (n : Nat) : Fld := ⟨0x40151004 + 0x1000 * n, 11, 0⟩
/-- Address of PAn_FLT_CFG (R333). -/
def PAn_FLT_CFG (n : Nat) : Nat := 0x40151008 + 0x1000 * n
/-- PAn_FLT_CFG.MINDWELL [7:0], RW. -/
def PAn_FLT_CFG_MINDWELL (n : Nat) : Fld := ⟨0x40151008 + 0x1000 * n, 7, 0⟩
/-- Address of PAn_WINH (R333). -/
def PAn_WINH (n : Nat) : Nat := 0x4015100c + 0x1000 * n
/-- PAn_WINH.SRC [9:0], RO. -/
def PAn_WINH_SRC (n : Nat) : Fld := ⟨0x4015100c + 0x1000 * n, 9, 0⟩
/-- Address of PAn_WINH_LATCH (R333). -/
def PAn_WINH_LATCH (n : Nat) : Nat := 0x40151010 + 0x1000 * n
/-- PAn_WINH_LATCH.SRC [9:0], W1C. -/
def PAn_WINH_LATCH_SRC (n : Nat) : Fld := ⟨0x40151010 + 0x1000 * n, 9, 0⟩
/-- Address of PAn_STATUS (R333). -/
def PAn_STATUS (n : Nat) : Nat := 0x40151014 + 0x1000 * n
/-- PAn_STATUS.QCOUNT [6:4], RO. -/
def PAn_STATUS_QCOUNT (n : Nat) : Fld := ⟨0x40151014 + 0x1000 * n, 6, 4⟩
/-- PAn_STATUS.ESCAPE [3], RO. -/
def PAn_STATUS_ESCAPE (n : Nat) : Fld := ⟨0x40151014 + 0x1000 * n, 3, 3⟩
/-- PAn_STATUS.CMDERR [2], W1C. -/
def PAn_STATUS_CMDERR (n : Nat) : Fld := ⟨0x40151014 + 0x1000 * n, 2, 2⟩
/-- PAn_STATUS.CHKERR [1], W1C. -/
def PAn_STATUS_CHKERR (n : Nat) : Fld := ⟨0x40151014 + 0x1000 * n, 1, 1⟩
/-- PAn_STATUS.FAULT [0], W1C. -/
def PAn_STATUS_FAULT (n : Nat) : Fld := ⟨0x40151014 + 0x1000 * n, 0, 0⟩
/-- Address of PAn_CTRL (R333). -/
def PAn_CTRL (n : Nat) : Nat := 0x40151018 + 0x1000 * n
/-- PAn_CTRL.FORCE [0], RW. -/
def PAn_CTRL_FORCE (n : Nat) : Fld := ⟨0x40151018 + 0x1000 * n, 0, 0⟩
/-- Address of PAn_RDATA (R333). -/
def PAn_RDATA (n : Nat) : Nat := 0x4015101c + 0x1000 * n
/-- PAn_RDATA.DATA [15:0], RO. -/
def PAn_RDATA_DATA (n : Nat) : Fld := ⟨0x4015101c + 0x1000 * n, 15, 0⟩
/-- Address of PAn_EVT_STAT (R333). -/
def PAn_EVT_STAT (n : Nat) : Nat := 0x40151020 + 0x1000 * n
/-- PAn_EVT_STAT.ESCAPE [2], W1C. -/
def PAn_EVT_STAT_ESCAPE (n : Nat) : Fld := ⟨0x40151020 + 0x1000 * n, 2, 2⟩
/-- PAn_EVT_STAT.ESCAL [1], W1C. -/
def PAn_EVT_STAT_ESCAL (n : Nat) : Fld := ⟨0x40151020 + 0x1000 * n, 1, 1⟩
/-- PAn_EVT_STAT.FAULT [0], W1C. -/
def PAn_EVT_STAT_FAULT (n : Nat) : Fld := ⟨0x40151020 + 0x1000 * n, 0, 0⟩
/-- Address of PAn_EVT_EN (R333). -/
def PAn_EVT_EN (n : Nat) : Nat := 0x40151024 + 0x1000 * n
/-- PAn_EVT_EN.EN [2:0], RW. -/
def PAn_EVT_EN_EN (n : Nat) : Fld := ⟨0x40151024 + 0x1000 * n, 2, 0⟩
/-- Address of PAn_INHi (R333). -/
def PAn_INHi (n i : Nat) : Nat := 0x40151040 + 0x1000 * n + 4 * i
/-- PAn_INHi.COUNT [31:0], RO. -/
def PAn_INHi_COUNT (n i : Nat) : Fld := ⟨0x40151040 + 0x1000 * n + 4 * i, 31, 0⟩
/-- Address of PAn_FAULTS (R333). -/
def PAn_FAULTS (n : Nat) : Nat := 0x40151070 + 0x1000 * n
/-- PAn_FAULTS.COUNT [31:0], RO. -/
def PAn_FAULTS_COUNT (n : Nat) : Fld := ⟨0x40151070 + 0x1000 * n, 31, 0⟩
/-- Address of PAn_CNT_CLR (R333). -/
def PAn_CNT_CLR (n : Nat) : Nat := 0x40151074 + 0x1000 * n
/-- PAn_CNT_CLR.ALL [0], WO. -/
def PAn_CNT_CLR_ALL (n : Nat) : Fld := ⟨0x40151074 + 0x1000 * n, 0, 0⟩
/-- Address of PAn_OP_IW (R333). -/
def PAn_OP_IW (n : Nat) : Nat := 0x40151400 + 0x1000 * n
/-- PAn_OP_IW.V [7:0], RW. -/
def PAn_OP_IW_V (n : Nat) : Fld := ⟨0x40151400 + 0x1000 * n, 7, 0⟩
/-- Address of PAn_OP_LWR (R333). -/
def PAn_OP_LWR (n : Nat) : Nat := 0x40151404 + 0x1000 * n
/-- PAn_OP_LWR.V [7:0], RW. -/
def PAn_OP_LWR_V (n : Nat) : Fld := ⟨0x40151404 + 0x1000 * n, 7, 0⟩
/-- Address of PAn_OP_LBIAS (R333). -/
def PAn_OP_LBIAS (n : Nat) : Nat := 0x40151408 + 0x1000 * n
/-- PAn_OP_LBIAS.V [7:0], RW. -/
def PAn_OP_LBIAS_V (n : Nat) : Fld := ⟨0x40151408 + 0x1000 * n, 7, 0⟩
/-- Address of PAn_OP_AUX (R333). -/
def PAn_OP_AUX (n : Nat) : Nat := 0x4015140c + 0x1000 * n
/-- PAn_OP_AUX.V [7:0], RW. -/
def PAn_OP_AUX_V (n : Nat) : Fld := ⟨0x4015140c + 0x1000 * n, 7, 0⟩
/-- Address of AST_BASIC (R333). -/
def AST_BASIC : Nat := 0x40140000
/-- AST_BASIC.KEEP [9], WO. -/
def AST_BASIC_KEEP : Fld := ⟨0x40140000, 9, 9⟩
/-- AST_BASIC.MODE [8], RO. -/
def AST_BASIC_MODE : Fld := ⟨0x40140000, 8, 8⟩
/-- AST_BASIC.PROFILE [7:4], RW. -/
def AST_BASIC_PROFILE : Fld := ⟨0x40140000, 7, 4⟩
/-- AST_BASIC.ENABLE [0], RW. -/
def AST_BASIC_ENABLE : Fld := ⟨0x40140000, 0, 0⟩
/-- Address of AST_LOCK (R333). -/
def AST_LOCK : Nat := 0x40140004
/-- AST_LOCK.LOCK [0], W1S. -/
def AST_LOCK_LOCK : Fld := ⟨0x40140004, 0, 0⟩
/-- Address of AST_GUARD (R333). -/
def AST_GUARD : Nat := 0x40140008
/-- AST_GUARD.MAXON [7:0], RW. -/
def AST_GUARD_MAXON : Fld := ⟨0x40140008, 7, 0⟩
/-- Address of AST_STAT (R333). -/
def AST_STAT : Nat := 0x40140010
/-- AST_STAT.WINDOW [11:8], RO. -/
def AST_STAT_WINDOW : Fld := ⟨0x40140010, 11, 8⟩
/-- AST_STAT.LEVEL [7:0], RO. -/
def AST_STAT_LEVEL : Fld := ⟨0x40140010, 7, 0⟩
/-- Address of AST_EVT_STAT (R333). -/
def AST_EVT_STAT : Nat := 0x40140020
/-- AST_EVT_STAT.ESCAL [2], W1C. -/
def AST_EVT_STAT_ESCAL : Fld := ⟨0x40140020, 2, 2⟩
/-- AST_EVT_STAT.OVERON [1], W1C. -/
def AST_EVT_STAT_OVERON : Fld := ⟨0x40140020, 1, 1⟩
/-- AST_EVT_STAT.LATE [0], W1C. -/
def AST_EVT_STAT_LATE : Fld := ⟨0x40140020, 0, 0⟩
/-- Address of AST_EVT_EN (R333). -/
def AST_EVT_EN : Nat := 0x40140024
/-- AST_EVT_EN.EN [2:0], RW. -/
def AST_EVT_EN_EN : Fld := ⟨0x40140024, 2, 0⟩
/-- Address of AST_LATEn (R333). -/
def AST_LATEn (n : Nat) : Nat := 0x40140030 + 4 * n
/-- AST_LATEn.COUNT [31:0], RO. -/
def AST_LATEn_COUNT (n : Nat) : Fld := ⟨0x40140030 + 4 * n, 31, 0⟩
/-- Address of AST_OVERONn (R333). -/
def AST_OVERONn (n : Nat) : Nat := 0x40140040 + 4 * n
/-- AST_OVERONn.COUNT [31:0], RO. -/
def AST_OVERONn_COUNT (n : Nat) : Fld := ⟨0x40140040 + 4 * n, 31, 0⟩
/-- Address of AST_CNT_CLR (R333). -/
def AST_CNT_CLR : Nat := 0x40140050
/-- AST_CNT_CLR.ALL [0], WO. -/
def AST_CNT_CLR_ALL : Fld := ⟨0x40140050, 0, 0⟩
/-- Address of AST_LDLY_n (R333). -/
def AST_LDLY_n (n : Nat) : Nat := 0x40140100 + 4 * n
/-- AST_LDLY_n.DLY [15:0], RWL. -/
def AST_LDLY_n_DLY (n : Nat) : Fld := ⟨0x40140100 + 4 * n, 15, 0⟩
/-- Address of AST_OPn_CTRL (R333). -/
def AST_OPn_CTRL (n : Nat) : Nat := 0x40140400 + 0x200 * n
/-- AST_OPn_CTRL.BIAS [0], RW. -/
def AST_OPn_CTRL_BIAS (n : Nat) : Fld := ⟨0x40140400 + 0x200 * n, 0, 0⟩
/-- Address of AST_OPn_MOD (R333). -/
def AST_OPn_MOD (n : Nat) : Nat := 0x40140404 + 0x200 * n
/-- AST_OPn_MOD.PERIOD [20:16], RW. -/
def AST_OPn_MOD_PERIOD (n : Nat) : Fld := ⟨0x40140404 + 0x200 * n, 20, 16⟩
/-- AST_OPn_MOD.WIDTH [15:8], RW. -/
def AST_OPn_MOD_WIDTH (n : Nat) : Fld := ⟨0x40140404 + 0x200 * n, 15, 8⟩
/-- AST_OPn_MOD.PHASE [7:2], RW. -/
def AST_OPn_MOD_PHASE (n : Nat) : Fld := ⟨0x40140404 + 0x200 * n, 7, 2⟩
/-- AST_OPn_MOD.MODE [0], RW. -/
def AST_OPn_MOD_MODE (n : Nat) : Fld := ⟨0x40140404 + 0x200 * n, 0, 0⟩
/-- Address of SVDn_BASIC (R372). -/
def SVDn_BASIC (n : Nat) : Nat := 0x40160000 + 0x1000 * n
/-- SVDn_BASIC.KEEP [9], WO. -/
def SVDn_BASIC_KEEP (n : Nat) : Fld := ⟨0x40160000 + 0x1000 * n, 9, 9⟩
/-- SVDn_BASIC.MODE [8], RO. -/
def SVDn_BASIC_MODE (n : Nat) : Fld := ⟨0x40160000 + 0x1000 * n, 8, 8⟩
/-- SVDn_BASIC.PROFILE [7:4], RW. -/
def SVDn_BASIC_PROFILE (n : Nat) : Fld := ⟨0x40160000 + 0x1000 * n, 7, 4⟩
/-- SVDn_BASIC.ENABLE [0], RW. -/
def SVDn_BASIC_ENABLE (n : Nat) : Fld := ⟨0x40160000 + 0x1000 * n, 0, 0⟩
/-- Address of SVDn_LOCK (R372). -/
def SVDn_LOCK (n : Nat) : Nat := 0x40160004 + 0x1000 * n
/-- SVDn_LOCK.LOCK [0], W1S. -/
def SVDn_LOCK_LOCK (n : Nat) : Fld := ⟨0x40160004 + 0x1000 * n, 0, 0⟩
/-- Address of SVDn_CFG0 (R372). -/
def SVDn_CFG0 (n : Nat) : Nat := 0x40160008 + 0x1000 * n
/-- SVDn_CFG0.AMIN [31:24], RW. -/
def SVDn_CFG0_AMIN (n : Nat) : Fld := ⟨0x40160008 + 0x1000 * n, 31, 24⟩
/-- SVDn_CFG0.CYLTOL [23:16], RW. -/
def SVDn_CFG0_CYLTOL (n : Nat) : Fld := ⟨0x40160008 + 0x1000 * n, 23, 16⟩
/-- SVDn_CFG0.SAMWIN [7:0], RW. -/
def SVDn_CFG0_SAMWIN (n : Nat) : Fld := ⟨0x40160008 + 0x1000 * n, 7, 0⟩
/-- Address of SVDn_CFG1 (R372). -/
def SVDn_CFG1 (n : Nat) : Nat := 0x4016000c + 0x1000 * n
/-- SVDn_CFG1.MISSN [15:8], RW. -/
def SVDn_CFG1_MISSN (n : Nat) : Fld := ⟨0x4016000c + 0x1000 * n, 15, 8⟩
/-- SVDn_CFG1.LOCKN [7:0], RW. -/
def SVDn_CFG1_LOCKN (n : Nat) : Fld := ⟨0x4016000c + 0x1000 * n, 7, 0⟩
/-- Address of SVDn_STATUS (R372). -/
def SVDn_STATUS (n : Nat) : Nat := 0x40160040 + 0x1000 * n
/-- SVDn_STATUS.LOCK [31], RO. -/
def SVDn_STATUS_LOCK (n : Nat) : Fld := ⟨0x40160040 + 0x1000 * n, 31, 31⟩
/-- SVDn_STATUS.VALID [30], RO. -/
def SVDn_STATUS_VALID (n : Nat) : Fld := ⟨0x40160040 + 0x1000 * n, 30, 30⟩
/-- SVDn_STATUS.HEAD [29:24], RO. -/
def SVDn_STATUS_HEAD (n : Nat) : Fld := ⟨0x40160040 + 0x1000 * n, 29, 24⟩
/-- SVDn_STATUS.INDEX [9:0], RO. -/
def SVDn_STATUS_INDEX (n : Nat) : Fld := ⟨0x40160040 + 0x1000 * n, 9, 0⟩
/-- Address of SVDn_POS_LO (R372). -/
def SVDn_POS_LO (n : Nat) : Nat := 0x40160044 + 0x1000 * n
/-- SVDn_POS_LO.X [31:0], RO. -/
def SVDn_POS_LO_X (n : Nat) : Fld := ⟨0x40160044 + 0x1000 * n, 31, 0⟩
/-- Address of SVDn_POS_HI (R372). -/
def SVDn_POS_HI (n : Nat) : Nat := 0x40160048 + 0x1000 * n
/-- SVDn_POS_HI.X [3:0], RO. -/
def SVDn_POS_HI_X (n : Nat) : Fld := ⟨0x40160048 + 0x1000 * n, 3, 0⟩
/-- Address of SVDn_PES (R372). -/
def SVDn_PES (n : Nat) : Nat := 0x4016004c + 0x1000 * n
/-- SVDn_PES.PES [15:0], RO. -/
def SVDn_PES_PES (n : Nat) : Fld := ⟨0x4016004c + 0x1000 * n, 15, 0⟩
/-- Address of SVDn_AMP (R372). -/
def SVDn_AMP (n : Nat) : Nat := 0x40160050 + 0x1000 * n
/-- SVDn_AMP.AMP [15:0], RO. -/
def SVDn_AMP_AMP (n : Nat) : Fld := ⟨0x40160050 + 0x1000 * n, 15, 0⟩
/-- Address of SVDn_SAMPLES (R372). -/
def SVDn_SAMPLES (n : Nat) : Nat := 0x40160060 + 0x1000 * n
/-- SVDn_SAMPLES.COUNT [31:0], RO. -/
def SVDn_SAMPLES_COUNT (n : Nat) : Fld := ⟨0x40160060 + 0x1000 * n, 31, 0⟩
/-- Address of SVDn_SAMMISS (R372). -/
def SVDn_SAMMISS (n : Nat) : Nat := 0x40160064 + 0x1000 * n
/-- SVDn_SAMMISS.COUNT [31:0], RO. -/
def SVDn_SAMMISS_COUNT (n : Nat) : Fld := ⟨0x40160064 + 0x1000 * n, 31, 0⟩
/-- Address of SVDn_IDXERR (R372). -/
def SVDn_IDXERR (n : Nat) : Nat := 0x40160068 + 0x1000 * n
/-- SVDn_IDXERR.COUNT [31:0], RO. -/
def SVDn_IDXERR_COUNT (n : Nat) : Fld := ⟨0x40160068 + 0x1000 * n, 31, 0⟩
/-- Address of SVDn_LOWAMP (R372). -/
def SVDn_LOWAMP (n : Nat) : Nat := 0x4016006c + 0x1000 * n
/-- SVDn_LOWAMP.COUNT [31:0], RO. -/
def SVDn_LOWAMP_COUNT (n : Nat) : Fld := ⟨0x4016006c + 0x1000 * n, 31, 0⟩
/-- Address of SVDn_CYLERR (R372). -/
def SVDn_CYLERR (n : Nat) : Nat := 0x40160070 + 0x1000 * n
/-- SVDn_CYLERR.COUNT [31:0], RO. -/
def SVDn_CYLERR_COUNT (n : Nat) : Fld := ⟨0x40160070 + 0x1000 * n, 31, 0⟩
/-- Address of SVDn_LOCKLOSS (R372). -/
def SVDn_LOCKLOSS (n : Nat) : Nat := 0x40160074 + 0x1000 * n
/-- SVDn_LOCKLOSS.COUNT [31:0], RO. -/
def SVDn_LOCKLOSS_COUNT (n : Nat) : Fld := ⟨0x40160074 + 0x1000 * n, 31, 0⟩
/-- Address of SVDn_CNT_CLR (R372). -/
def SVDn_CNT_CLR (n : Nat) : Nat := 0x40160078 + 0x1000 * n
/-- SVDn_CNT_CLR.ALL [0], WO. -/
def SVDn_CNT_CLR_ALL (n : Nat) : Fld := ⟨0x40160078 + 0x1000 * n, 0, 0⟩
/-- Address of SVDn_EVT_STAT (R372). -/
def SVDn_EVT_STAT (n : Nat) : Nat := 0x40160080 + 0x1000 * n
/-- SVDn_EVT_STAT.LOCKLOSS [0], W1C. -/
def SVDn_EVT_STAT_LOCKLOSS (n : Nat) : Fld := ⟨0x40160080 + 0x1000 * n, 0, 0⟩
/-- Address of SVDn_EVT_EN (R372). -/
def SVDn_EVT_EN (n : Nat) : Nat := 0x40160084 + 0x1000 * n
/-- SVDn_EVT_EN.EN [0], RW. -/
def SVDn_EVT_EN_EN (n : Nat) : Fld := ⟨0x40160084 + 0x1000 * n, 0, 0⟩
/-- Address of SVDn_JOG_i (R372). -/
def SVDn_JOG_i (n i : Nat) : Nat := 0x40160100 + 0x1000 * n + 4 * i
/-- SVDn_JOG_i.JOG [15:0], RWL. -/
def SVDn_JOG_i_JOG (n i : Nat) : Fld := ⟨0x40160100 + 0x1000 * n + 4 * i, 15, 0⟩
/-- Address of SVDn_LIN_j_i (R372). -/
def SVDn_LIN_j_i (n j i : Nat) : Nat := 0x40160400 + 0x1000 * n + 0x110 * j + 4 * i
/-- SVDn_LIN_j_i.LIN [15:0], RWL. -/
def SVDn_LIN_j_i_LIN (n j i : Nat) : Fld := ⟨0x40160400 + 0x1000 * n + 0x110 * j + 4 * i, 15, 0⟩
/-- Address of SVD_SB (R372). -/
def SVD_SB : Nat := 0x40164000
/-- SVD_SB.LEN [15:0], RWL. -/
def SVD_SB_LEN : Fld := ⟨0x40164000, 15, 0⟩
/-- Address of SVD_CAPn_CFG (R372). -/
def SVD_CAPn_CFG (n : Nat) : Nat := 0x40168000 + 0x100 * n
/-- SVD_CAPn_CFG.LANE [30:28], RWO. -/
def SVD_CAPn_CFG_LANE (n : Nat) : Fld := ⟨0x40168000 + 0x100 * n, 30, 28⟩
/-- SVD_CAPn_CFG.TRIG [26], RWO. -/
def SVD_CAPn_CFG_TRIG (n : Nat) : Fld := ⟨0x40168000 + 0x100 * n, 26, 26⟩
/-- SVD_CAPn_CFG.MODE [25], RWO. -/
def SVD_CAPn_CFG_MODE (n : Nat) : Fld := ⟨0x40168000 + 0x100 * n, 25, 25⟩
/-- SVD_CAPn_CFG.DIV [23:16], RWO. -/
def SVD_CAPn_CFG_DIV (n : Nat) : Fld := ⟨0x40168000 + 0x100 * n, 23, 16⟩
/-- SVD_CAPn_CFG.COUNT [14:0], RWO. -/
def SVD_CAPn_CFG_COUNT (n : Nat) : Fld := ⟨0x40168000 + 0x100 * n, 14, 0⟩
/-- Address of SVD_CAPn_CH (R372). -/
def SVD_CAPn_CH (n : Nat) : Nat := 0x40168004 + 0x100 * n
/-- SVD_CAPn_CH.CODE [31:0], RWO. -/
def SVD_CAPn_CH_CODE (n : Nat) : Fld := ⟨0x40168004 + 0x100 * n, 31, 0⟩
/-- Address of SVD_CAPn_CTRL (R372). -/
def SVD_CAPn_CTRL (n : Nat) : Nat := 0x40168008 + 0x100 * n
/-- SVD_CAPn_CTRL.STOP [1], RWO0. -/
def SVD_CAPn_CTRL_STOP (n : Nat) : Fld := ⟨0x40168008 + 0x100 * n, 1, 1⟩
/-- SVD_CAPn_CTRL.ARM [0], RWO0. -/
def SVD_CAPn_CTRL_ARM (n : Nat) : Fld := ⟨0x40168008 + 0x100 * n, 0, 0⟩
/-- Address of SVD_CAPn_STAT (R372). -/
def SVD_CAPn_STAT (n : Nat) : Nat := 0x4016800c + 0x100 * n
/-- SVD_CAPn_STAT.THROTTLED [31], RO. -/
def SVD_CAPn_STAT_THROTTLED (n : Nat) : Fld := ⟨0x4016800c + 0x100 * n, 31, 31⟩
/-- SVD_CAPn_STAT.OVERLAP [30], RO. -/
def SVD_CAPn_STAT_OVERLAP (n : Nat) : Fld := ⟨0x4016800c + 0x100 * n, 30, 30⟩
/-- SVD_CAPn_STAT.WRAPPED [18], RO. -/
def SVD_CAPn_STAT_WRAPPED (n : Nat) : Fld := ⟨0x4016800c + 0x100 * n, 18, 18⟩
/-- SVD_CAPn_STAT.TRIGGERED [17], RO. -/
def SVD_CAPn_STAT_TRIGGERED (n : Nat) : Fld := ⟨0x4016800c + 0x100 * n, 17, 17⟩
/-- SVD_CAPn_STAT.RUNNING [16], RO. -/
def SVD_CAPn_STAT_RUNNING (n : Nat) : Fld := ⟨0x4016800c + 0x100 * n, 16, 16⟩
/-- SVD_CAPn_STAT.STORED [14:0], RO. -/
def SVD_CAPn_STAT_STORED (n : Nat) : Fld := ⟨0x4016800c + 0x100 * n, 14, 0⟩
/-- Address of SVD_CAPn_NEXT (R372). -/
def SVD_CAPn_NEXT (n : Nat) : Nat := 0x40168010 + 0x100 * n
/-- SVD_CAPn_NEXT.INDEX [13:0], RO. -/
def SVD_CAPn_NEXT_INDEX (n : Nat) : Fld := ⟨0x40168010 + 0x100 * n, 13, 0⟩
/-- Address of SCEn_BASIC (R372). -/
def SCEn_BASIC (n : Nat) : Nat := 0x40180000 + 0x1000 * n
/-- SCEn_BASIC.KEEP [9], WO. -/
def SCEn_BASIC_KEEP (n : Nat) : Fld := ⟨0x40180000 + 0x1000 * n, 9, 9⟩
/-- SCEn_BASIC.MODE [8], RO. -/
def SCEn_BASIC_MODE (n : Nat) : Fld := ⟨0x40180000 + 0x1000 * n, 8, 8⟩
/-- SCEn_BASIC.PROFILE [7:4], RW. -/
def SCEn_BASIC_PROFILE (n : Nat) : Fld := ⟨0x40180000 + 0x1000 * n, 7, 4⟩
/-- SCEn_BASIC.ENABLE [0], RW. -/
def SCEn_BASIC_ENABLE (n : Nat) : Fld := ⟨0x40180000 + 0x1000 * n, 0, 0⟩
/-- Address of SCEn_LOCK (R372). -/
def SCEn_LOCK (n : Nat) : Nat := 0x40180004 + 0x1000 * n
/-- SCEn_LOCK.LOCK [0], W1S. -/
def SCEn_LOCK_LOCK (n : Nat) : Fld := ⟨0x40180004 + 0x1000 * n, 0, 0⟩
/-- Address of SCEn_CTRL (R372). -/
def SCEn_CTRL (n : Nat) : Nat := 0x40180008 + 0x1000 * n
/-- SCEn_CTRL.UNLOAD [4], WO. -/
def SCEn_CTRL_UNLOAD (n : Nat) : Fld := ⟨0x40180008 + 0x1000 * n, 4, 4⟩
/-- SCEn_CTRL.LOAD [3], WO. -/
def SCEn_CTRL_LOAD (n : Nat) : Fld := ⟨0x40180008 + 0x1000 * n, 3, 3⟩
/-- SCEn_CTRL.FORCE_RED [2], WO. -/
def SCEn_CTRL_FORCE_RED (n : Nat) : Fld := ⟨0x40180008 + 0x1000 * n, 2, 2⟩
/-- SCEn_CTRL.RESUME [1], WO. -/
def SCEn_CTRL_RESUME (n : Nat) : Fld := ⟨0x40180008 + 0x1000 * n, 1, 1⟩
/-- SCEn_CTRL.APPLY [0], WO. -/
def SCEn_CTRL_APPLY (n : Nat) : Fld := ⟨0x40180008 + 0x1000 * n, 0, 0⟩
/-- Address of SCEn_STATUS (R372). -/
def SCEn_STATUS (n : Nat) : Nat := 0x4018000c + 0x1000 * n
/-- SCEn_STATUS.LAW [26:24], RO. -/
def SCEn_STATUS_LAW (n : Nat) : Fld := ⟨0x4018000c + 0x1000 * n, 26, 24⟩
/-- SCEn_STATUS.SHADOW [9], RO. -/
def SCEn_STATUS_SHADOW (n : Nat) : Fld := ⟨0x4018000c + 0x1000 * n, 9, 9⟩
/-- SCEn_STATUS.LATE [8], RO. -/
def SCEn_STATUS_LATE (n : Nat) : Fld := ⟨0x4018000c + 0x1000 * n, 8, 8⟩
/-- Address of SCEn_CYC (R372). -/
def SCEn_CYC (n : Nat) : Nat := 0x40180010 + 0x1000 * n
/-- SCEn_CYC.MAX [31:16], RO. -/
def SCEn_CYC_MAX (n : Nat) : Fld := ⟨0x40180010 + 0x1000 * n, 31, 16⟩
/-- SCEn_CYC.LAST [15:0], RO. -/
def SCEn_CYC_LAST (n : Nat) : Fld := ⟨0x40180010 + 0x1000 * n, 15, 0⟩
/-- Address of SCEn_STRUCT (R372). -/
def SCEn_STRUCT (n : Nat) : Nat := 0x40180020 + 0x1000 * n
/-- SCEn_STRUCT.MB [7:4], RW. -/
def SCEn_STRUCT_MB (n : Nat) : Fld := ⟨0x40180020 + 0x1000 * n, 7, 4⟩
/-- SCEn_STRUCT.VB [3:0], RW. -/
def SCEn_STRUCT_VB (n : Nat) : Fld := ⟨0x40180020 + 0x1000 * n, 3, 0⟩
/-- Address of SCEn_EST0 (R372). -/
def SCEn_EST0 (n : Nat) : Nat := 0x40180024 + 0x1000 * n
/-- SCEn_EST0.L2 [31:16], RW. -/
def SCEn_EST0_L2 (n : Nat) : Fld := ⟨0x40180024 + 0x1000 * n, 31, 16⟩
/-- SCEn_EST0.L1 [15:0], RW. -/
def SCEn_EST0_L1 (n : Nat) : Fld := ⟨0x40180024 + 0x1000 * n, 15, 0⟩
/-- Address of SCEn_EST1 (R372). -/
def SCEn_EST1 (n : Nat) : Nat := 0x40180028 + 0x1000 * n
/-- SCEn_EST1.KB [31:16], RW. -/
def SCEn_EST1_KB (n : Nat) : Fld := ⟨0x40180028 + 0x1000 * n, 31, 16⟩
/-- SCEn_EST1.L3 [15:0], RW. -/
def SCEn_EST1_L3 (n : Nat) : Fld := ⟨0x40180028 + 0x1000 * n, 15, 0⟩
/-- Address of SCEn_SEEK (R372). -/
def SCEn_SEEK (n : Nat) : Nat := 0x4018002c + 0x1000 * n
/-- SCEn_SEEK.SVEL [31:24], RW. -/
def SCEn_SEEK_SVEL (n : Nat) : Fld := ⟨0x4018002c + 0x1000 * n, 31, 24⟩
/-- SCEn_SEEK.SDIST [23:16], RW. -/
def SCEn_SEEK_SDIST (n : Nat) : Fld := ⟨0x4018002c + 0x1000 * n, 23, 16⟩
/-- SCEn_SEEK.KV [15:0], RW. -/
def SCEn_SEEK_KV (n : Nat) : Fld := ⟨0x4018002c + 0x1000 * n, 15, 0⟩
/-- Address of SCEn_SETTLE0 (R372). -/
def SCEn_SETTLE0 (n : Nat) : Nat := 0x40180030 + 0x1000 * n
/-- SCEn_SETTLE0.KD [31:16], RW. -/
def SCEn_SETTLE0_KD (n : Nat) : Fld := ⟨0x40180030 + 0x1000 * n, 31, 16⟩
/-- SCEn_SETTLE0.KP [15:0], RW. -/
def SCEn_SETTLE0_KP (n : Nat) : Fld := ⟨0x40180030 + 0x1000 * n, 15, 0⟩
/-- Address of SCEn_SETTLE1 (R372). -/
def SCEn_SETTLE1 (n : Nat) : Nat := 0x40180034 + 0x1000 * n
/-- SCEn_SETTLE1.FN [31:28], RW. -/
def SCEn_SETTLE1_FN (n : Nat) : Fld := ⟨0x40180034 + 0x1000 * n, 31, 28⟩
/-- SCEn_SETTLE1.FTHR [27:16], RW. -/
def SCEn_SETTLE1_FTHR (n : Nat) : Fld := ⟨0x40180034 + 0x1000 * n, 27, 16⟩
/-- SCEn_SETTLE1.KI [15:0], RW. -/
def SCEn_SETTLE1_KI (n : Nat) : Fld := ⟨0x40180034 + 0x1000 * n, 15, 0⟩
/-- Address of SCEn_RED (R372). -/
def SCEn_RED (n : Nat) : Nat := 0x40180038 + 0x1000 * n
/-- SCEn_RED.RKD [31:16], RW. -/
def SCEn_RED_RKD (n : Nat) : Fld := ⟨0x40180038 + 0x1000 * n, 31, 16⟩
/-- SCEn_RED.RKP [15:0], RW. -/
def SCEn_RED_RKP (n : Nat) : Fld := ⟨0x40180038 + 0x1000 * n, 15, 0⟩
/-- Address of SCEn_RAMP (R372). -/
def SCEn_RAMP (n : Nat) : Nat := 0x4018003c + 0x1000 * n
/-- SCEn_RAMP.RAMPV [31:16], RW. -/
def SCEn_RAMP_RAMPV (n : Nat) : Fld := ⟨0x4018003c + 0x1000 * n, 31, 16⟩
/-- SCEn_RAMP.RKV [15:0], RW. -/
def SCEn_RAMP_RKV (n : Nat) : Fld := ⟨0x4018003c + 0x1000 * n, 15, 0⟩
/-- Address of SCEn_HOVER (R372). -/
def SCEn_HOVER (n : Nat) : Nat := 0x40180040 + 0x1000 * n
/-- SCEn_HOVER.HTHR [31:16], RW. -/
def SCEn_HOVER_HTHR (n : Nat) : Fld := ⟨0x40180040 + 0x1000 * n, 31, 16⟩
/-- SCEn_HOVER.HSH [3:0], RW. -/
def SCEn_HOVER_HSH (n : Nat) : Fld := ⟨0x40180040 + 0x1000 * n, 3, 0⟩
/-- Address of SCEn_FF (R372). -/
def SCEn_FF (n : Nat) : Nat := 0x40180044 + 0x1000 * n
/-- SCEn_FF.FFEN [16], RW. -/
def SCEn_FF_FFEN (n : Nat) : Fld := ⟨0x40180044 + 0x1000 * n, 16, 16⟩
/-- SCEn_FF.VF [15:0], RW. -/
def SCEn_FF_VF (n : Nat) : Fld := ⟨0x40180044 + 0x1000 * n, 15, 0⟩
/-- Address of SCEn_SEEK1 (R372). -/
def SCEn_SEEK1 (n : Nat) : Nat := 0x40180048 + 0x1000 * n
/-- SCEn_SEEK1.SEEKMIN [15:0], RW. -/
def SCEn_SEEK1_SEEKMIN (n : Nat) : Fld := ⟨0x40180048 + 0x1000 * n, 15, 0⟩
/-- Address of SCEn_VBQk_c (R372). -/
def SCEn_VBQk_c (n k c : Nat) : Nat := 0x40180100 + 0x1000 * n + 0x14 * k + 4 * c
/-- SCEn_VBQk_c.COEF [31:0], RW. -/
def SCEn_VBQk_c_COEF (n k c : Nat) : Fld := ⟨0x40180100 + 0x1000 * n + 0x14 * k + 4 * c, 31, 0⟩
/-- Address of SCEn_MBQk_c (R372). -/
def SCEn_MBQk_c (n k c : Nat) : Nat := 0x40180200 + 0x1000 * n + 0x14 * k + 4 * c
/-- SCEn_MBQk_c.COEF [31:0], RW. -/
def SCEn_MBQk_c_COEF (n k c : Nat) : Fld := ⟨0x40180200 + 0x1000 * n + 0x14 * k + 4 * c, 31, 0⟩
/-- Address of SCEn_VPROF_i (R372). -/
def SCEn_VPROF_i (n i : Nat) : Nat := 0x40180300 + 0x1000 * n + 4 * i
/-- SCEn_VPROF_i.V [15:0], RWL. -/
def SCEn_VPROF_i_V (n i : Nat) : Fld := ⟨0x40180300 + 0x1000 * n + 4 * i, 15, 0⟩
/-- Address of SCEn_TBL (R372). -/
def SCEn_TBL (n : Nat) : Nat := 0x40180480 + 0x1000 * n
/-- SCEn_TBL.RELOCK [31:24], RWL. -/
def SCEn_TBL_RELOCK (n : Nat) : Fld := ⟨0x40180480 + 0x1000 * n, 31, 24⟩
/-- SCEn_TBL.BSH [20:16], RWL. -/
def SCEn_TBL_BSH (n : Nat) : Fld := ⟨0x40180480 + 0x1000 * n, 20, 16⟩
/-- SCEn_TBL.MAGAIN [15:0], RWL. -/
def SCEn_TBL_MAGAIN (n : Nat) : Fld := ⟨0x40180480 + 0x1000 * n, 15, 0⟩
/-- Address of SCEn_FFT_i (R372). -/
def SCEn_FFT_i (n i : Nat) : Nat := 0x40180800 + 0x1000 * n + 4 * i
/-- SCEn_FFT_i.FRIC [31:16], RWL. -/
def SCEn_FFT_i_FRIC (n i : Nat) : Fld := ⟨0x40180800 + 0x1000 * n + 4 * i, 31, 16⟩
/-- SCEn_FFT_i.BIAS [15:0], RWL. -/
def SCEn_FFT_i_BIAS (n i : Nat) : Fld := ⟨0x40180800 + 0x1000 * n + 4 * i, 15, 0⟩
/-- Address of SCE_PAIRn_STATUS (R372). -/
def SCE_PAIRn_STATUS (n : Nat) : Nat := 0x40188000 + 0x100 * n
/-- SCE_PAIRn_STATUS.LAW [26:24], RO. -/
def SCE_PAIRn_STATUS_LAW (n : Nat) : Fld := ⟨0x40188000 + 0x100 * n, 26, 24⟩
/-- SCE_PAIRn_STATUS.OVR64 [22:16], RO. -/
def SCE_PAIRn_STATUS_OVR64 (n : Nat) : Fld := ⟨0x40188000 + 0x100 * n, 22, 16⟩
/-- SCE_PAIRn_STATUS.WINH [14:8], RO. -/
def SCE_PAIRn_STATUS_WINH (n : Nat) : Fld := ⟨0x40188000 + 0x100 * n, 14, 8⟩
/-- Address of SCE_PAIRn_TARGET (R372). -/
def SCE_PAIRn_TARGET (n : Nat) : Nat := 0x40188004 + 0x100 * n
/-- SCE_PAIRn_TARGET.W [31], RO. -/
def SCE_PAIRn_TARGET_W (n : Nat) : Fld := ⟨0x40188004 + 0x100 * n, 31, 31⟩
/-- SCE_PAIRn_TARGET.HEAD [29:24], RO. -/
def SCE_PAIRn_TARGET_HEAD (n : Nat) : Fld := ⟨0x40188004 + 0x100 * n, 29, 24⟩
/-- SCE_PAIRn_TARGET.CYL [23:0], RO. -/
def SCE_PAIRn_TARGET_CYL (n : Nat) : Fld := ⟨0x40188004 + 0x100 * n, 23, 0⟩
/-- Address of SCE_PAIRn_TOFF (R372). -/
def SCE_PAIRn_TOFF (n : Nat) : Nat := 0x40188008 + 0x100 * n
/-- SCE_PAIRn_TOFF.OFF [15:0], RW. -/
def SCE_PAIRn_TOFF_OFF (n : Nat) : Fld := ⟨0x40188008 + 0x100 * n, 15, 0⟩
/-- Address of SCE_PAIRn_INJ0 (R372). -/
def SCE_PAIRn_INJ0 (n : Nat) : Nat := 0x4018800c + 0x100 * n
/-- SCE_PAIRn_INJ0.AMP [31:16], RWO. -/
def SCE_PAIRn_INJ0_AMP (n : Nat) : Fld := ⟨0x4018800c + 0x100 * n, 31, 16⟩
/-- SCE_PAIRn_INJ0.EN [8], RWO. -/
def SCE_PAIRn_INJ0_EN (n : Nat) : Fld := ⟨0x4018800c + 0x100 * n, 8, 8⟩
/-- SCE_PAIRn_INJ0.SRC [5:4], RWO. -/
def SCE_PAIRn_INJ0_SRC (n : Nat) : Fld := ⟨0x4018800c + 0x100 * n, 5, 4⟩
/-- SCE_PAIRn_INJ0.POINT [2:0], RWO. -/
def SCE_PAIRn_INJ0_POINT (n : Nat) : Fld := ⟨0x4018800c + 0x100 * n, 2, 0⟩
/-- Address of SCE_PAIRn_INJ1 (R372). -/
def SCE_PAIRn_INJ1 (n : Nat) : Nat := 0x40188010 + 0x100 * n
/-- SCE_PAIRn_INJ1.PARAM [31:0], RWO. -/
def SCE_PAIRn_INJ1_PARAM (n : Nat) : Fld := ⟨0x40188010 + 0x100 * n, 31, 0⟩
/-- Address of SCE_PAIRn_INJ2 (R372). -/
def SCE_PAIRn_INJ2 (n : Nat) : Nat := 0x40188014 + 0x100 * n
/-- SCE_PAIRn_INJ2.SAMPLES [31:0], RWO. -/
def SCE_PAIRn_INJ2_SAMPLES (n : Nat) : Fld := ⟨0x40188014 + 0x100 * n, 31, 0⟩
/-- Address of SCE_PAIRn_EVT_STAT (R372). -/
def SCE_PAIRn_EVT_STAT (n : Nat) : Nat := 0x40188018 + 0x100 * n
/-- SCE_PAIRn_EVT_STAT.HOVER [3], W1C. -/
def SCE_PAIRn_EVT_STAT_HOVER (n : Nat) : Fld := ⟨0x40188018 + 0x100 * n, 3, 3⟩
/-- SCE_PAIRn_EVT_STAT.ESCAL [2], W1C. -/
def SCE_PAIRn_EVT_STAT_ESCAL (n : Nat) : Fld := ⟨0x40188018 + 0x100 * n, 2, 2⟩
/-- SCE_PAIRn_EVT_STAT.HOLD [1], W1C. -/
def SCE_PAIRn_EVT_STAT_HOLD (n : Nat) : Fld := ⟨0x40188018 + 0x100 * n, 1, 1⟩
/-- SCE_PAIRn_EVT_STAT.LATE [0], W1C. -/
def SCE_PAIRn_EVT_STAT_LATE (n : Nat) : Fld := ⟨0x40188018 + 0x100 * n, 0, 0⟩
/-- Address of SCE_PAIRn_EVT_EN (R372). -/
def SCE_PAIRn_EVT_EN (n : Nat) : Nat := 0x4018801c + 0x100 * n
/-- SCE_PAIRn_EVT_EN.EN [3:0], RW. -/
def SCE_PAIRn_EVT_EN_EN (n : Nat) : Fld := ⟨0x4018801c + 0x100 * n, 3, 0⟩
/-- Address of SCE_PAIRn_OVR (R372). -/
def SCE_PAIRn_OVR (n : Nat) : Nat := 0x40188020 + 0x100 * n
/-- SCE_PAIRn_OVR.COUNT [31:0], RO. -/
def SCE_PAIRn_OVR_COUNT (n : Nat) : Fld := ⟨0x40188020 + 0x100 * n, 31, 0⟩
/-- Address of SCE_PAIRn_REDS (R372). -/
def SCE_PAIRn_REDS (n : Nat) : Nat := 0x40188024 + 0x100 * n
/-- SCE_PAIRn_REDS.COUNT [31:0], RO. -/
def SCE_PAIRn_REDS_COUNT (n : Nat) : Fld := ⟨0x40188024 + 0x100 * n, 31, 0⟩
/-- Address of SCE_PAIRn_HOVERS (R372). -/
def SCE_PAIRn_HOVERS (n : Nat) : Nat := 0x40188028 + 0x100 * n
/-- SCE_PAIRn_HOVERS.COUNT [31:0], RO. -/
def SCE_PAIRn_HOVERS_COUNT (n : Nat) : Fld := ⟨0x40188028 + 0x100 * n, 31, 0⟩
/-- Address of SCE_PAIRn_SEEKS (R372). -/
def SCE_PAIRn_SEEKS (n : Nat) : Nat := 0x4018802c + 0x100 * n
/-- SCE_PAIRn_SEEKS.COUNT [31:0], RO. -/
def SCE_PAIRn_SEEKS_COUNT (n : Nat) : Fld := ⟨0x4018802c + 0x100 * n, 31, 0⟩
/-- Address of SCE_DEADLINE (R372). -/
def SCE_DEADLINE : Nat := 0x40188400
/-- SCE_DEADLINE.DECK [21:0], RW. -/
def SCE_DEADLINE_DECK : Fld := ⟨0x40188400, 21, 0⟩
/-- Address of SCE_CNT_CLR (R372). -/
def SCE_CNT_CLR : Nat := 0x40188404
/-- SCE_CNT_CLR.ALL [0], WO. -/
def SCE_CNT_CLR_ALL : Fld := ⟨0x40188404, 0, 0⟩
/-- Address of VCDn_BASIC (R372). -/
def VCDn_BASIC (n : Nat) : Nat := 0x401a0000 + 0x1000 * n
/-- VCDn_BASIC.KEEP [9], WO. -/
def VCDn_BASIC_KEEP (n : Nat) : Fld := ⟨0x401a0000 + 0x1000 * n, 9, 9⟩
/-- VCDn_BASIC.MODE [8], RO. -/
def VCDn_BASIC_MODE (n : Nat) : Fld := ⟨0x401a0000 + 0x1000 * n, 8, 8⟩
/-- VCDn_BASIC.PROFILE [7:4], RW. -/
def VCDn_BASIC_PROFILE (n : Nat) : Fld := ⟨0x401a0000 + 0x1000 * n, 7, 4⟩
/-- VCDn_BASIC.ENABLE [0], RW. -/
def VCDn_BASIC_ENABLE (n : Nat) : Fld := ⟨0x401a0000 + 0x1000 * n, 0, 0⟩
/-- Address of VCDn_LOCK (R372). -/
def VCDn_LOCK (n : Nat) : Nat := 0x401a0004 + 0x1000 * n
/-- VCDn_LOCK.LOCK [0], W1S. -/
def VCDn_LOCK_LOCK (n : Nat) : Fld := ⟨0x401a0004 + 0x1000 * n, 0, 0⟩
/-- Address of VCDn_LOOP (R372). -/
def VCDn_LOOP (n : Nat) : Nat := 0x401a0008 + 0x1000 * n
/-- VCDn_LOOP.HB [31:16], RW. -/
def VCDn_LOOP_HB (n : Nat) : Fld := ⟨0x401a0008 + 0x1000 * n, 31, 16⟩
/-- VCDn_LOOP.SW [15], RW. -/
def VCDn_LOOP_SW (n : Nat) : Fld := ⟨0x401a0008 + 0x1000 * n, 15, 15⟩
/-- VCDn_LOOP.DWELL [11:0], RW. -/
def VCDn_LOOP_DWELL (n : Nat) : Fld := ⟨0x401a0008 + 0x1000 * n, 11, 0⟩
/-- Address of VCDn_SCALE (R372). -/
def VCDn_SCALE (n : Nat) : Nat := 0x401a000c + 0x1000 * n
/-- VCDn_SCALE.GAIN [9:8], RWL. -/
def VCDn_SCALE_GAIN (n : Nat) : Fld := ⟨0x401a000c + 0x1000 * n, 9, 8⟩
/-- VCDn_SCALE.DT [6:0], RWL. -/
def VCDn_SCALE_DT (n : Nat) : Fld := ⟨0x401a000c + 0x1000 * n, 6, 0⟩
/-- Address of VCDn_ILIM_CFG (R372). -/
def VCDn_ILIM_CFG (n : Nat) : Nat := 0x401a0010 + 0x1000 * n
/-- VCDn_ILIM_CFG.IOC [31:16], RWL. -/
def VCDn_ILIM_CFG_IOC (n : Nat) : Fld := ⟨0x401a0010 + 0x1000 * n, 31, 16⟩
/-- VCDn_ILIM_CFG.IMAX [15:0], RWL. -/
def VCDn_ILIM_CFG_IMAX (n : Nat) : Fld := ⟨0x401a0010 + 0x1000 * n, 15, 0⟩
/-- Address of VCDn_IHOT (R372). -/
def VCDn_IHOT (n : Nat) : Nat := 0x401a0014 + 0x1000 * n
/-- VCDn_IHOT.IHOT [15:0], RWL. -/
def VCDn_IHOT_IHOT (n : Nat) : Fld := ⟨0x401a0014 + 0x1000 * n, 15, 0⟩
/-- Address of VCDn_TH0 (R372). -/
def VCDn_TH0 (n : Nat) : Nat := 0x401a0018 + 0x1000 * n
/-- VCDn_TH0.ALPHA [31:16], RWL. -/
def VCDn_TH0_ALPHA (n : Nat) : Fld := ⟨0x401a0018 + 0x1000 * n, 31, 16⟩
/-- VCDn_TH0.RC25 [15:0], RWL. -/
def VCDn_TH0_RC25 (n : Nat) : Fld := ⟨0x401a0018 + 0x1000 * n, 15, 0⟩
/-- Address of VCDn_TH1 (R372). -/
def VCDn_TH1 (n : Nat) : Nat := 0x401a001c + 0x1000 * n
/-- VCDn_TH1.THARD [31:24], RWL. -/
def VCDn_TH1_THARD (n : Nat) : Fld := ⟨0x401a001c + 0x1000 * n, 31, 24⟩
/-- VCDn_TH1.TSOFT [23:16], RWL. -/
def VCDn_TH1_TSOFT (n : Nat) : Fld := ⟨0x401a001c + 0x1000 * n, 23, 16⟩
/-- VCDn_TH1.RTH [15:0], RWL. -/
def VCDn_TH1_RTH (n : Nat) : Fld := ⟨0x401a001c + 0x1000 * n, 15, 0⟩
/-- Address of VCDn_TAU (R372). -/
def VCDn_TAU (n : Nat) : Nat := 0x401a0020 + 0x1000 * n
/-- VCDn_TAU.SPANS [23:0], RWL. -/
def VCDn_TAU_SPANS (n : Nat) : Fld := ⟨0x401a0020 + 0x1000 * n, 23, 0⟩
/-- Address of VCDn_TSEN (R372). -/
def VCDn_TSEN (n : Nat) : Nat := 0x401a0024 + 0x1000 * n
/-- VCDn_TSEN.SEL [2:0], RWL. -/
def VCDn_TSEN_SEL (n : Nat) : Fld := ⟨0x401a0024 + 0x1000 * n, 2, 0⟩
/-- Address of VCDn_STATUS (R372). -/
def VCDn_STATUS (n : Nat) : Nat := 0x401a0040 + 0x1000 * n
/-- VCDn_STATUS.PCT [31:24], RO. -/
def VCDn_STATUS_PCT (n : Nat) : Fld := ⟨0x401a0040 + 0x1000 * n, 31, 24⟩
/-- VCDn_STATUS.LIMSRC [18:16], RO. -/
def VCDn_STATUS_LIMSRC (n : Nat) : Fld := ⟨0x401a0040 + 0x1000 * n, 18, 16⟩
/-- VCDn_STATUS.BRIDGE [2:0], RO. -/
def VCDn_STATUS_BRIDGE (n : Nat) : Fld := ⟨0x401a0040 + 0x1000 * n, 2, 0⟩
/-- Address of VCDn_ILIM (R372). -/
def VCDn_ILIM (n : Nat) : Nat := 0x401a0044 + 0x1000 * n
/-- VCDn_ILIM.ILIM [15:0], RO. -/
def VCDn_ILIM_ILIM (n : Nat) : Fld := ⟨0x401a0044 + 0x1000 * n, 15, 0⟩
/-- Address of VCDn_TCOIL (R372). -/
def VCDn_TCOIL (n : Nat) : Nat := 0x401a0048 + 0x1000 * n
/-- VCDn_TCOIL.T [15:0], RO. -/
def VCDn_TCOIL_T (n : Nat) : Fld := ⟨0x401a0048 + 0x1000 * n, 15, 0⟩
/-- Address of VCDn_IMEAS (R372). -/
def VCDn_IMEAS (n : Nat) : Nat := 0x401a004c + 0x1000 * n
/-- VCDn_IMEAS.RMS [31:16], RO. -/
def VCDn_IMEAS_RMS (n : Nat) : Fld := ⟨0x401a004c + 0x1000 * n, 31, 16⟩
/-- VCDn_IMEAS.MEAN [15:0], RO. -/
def VCDn_IMEAS_MEAN (n : Nat) : Fld := ⟨0x401a004c + 0x1000 * n, 15, 0⟩
/-- Address of VCDn_VCOIL (R372). -/
def VCDn_VCOIL (n : Nat) : Nat := 0x401a0050 + 0x1000 * n
/-- VCDn_VCOIL.MV [15:0], RO. -/
def VCDn_VCOIL_MV (n : Nat) : Fld := ⟨0x401a0050 + 0x1000 * n, 15, 0⟩
/-- Address of VCDn_CLAMPS (R372). -/
def VCDn_CLAMPS (n : Nat) : Nat := 0x401a0060 + 0x1000 * n
/-- VCDn_CLAMPS.COUNT [31:0], RO. -/
def VCDn_CLAMPS_COUNT (n : Nat) : Fld := ⟨0x401a0060 + 0x1000 * n, 31, 0⟩
/-- Address of VCDn_DWELLS (R372). -/
def VCDn_DWELLS (n : Nat) : Nat := 0x401a0064 + 0x1000 * n
/-- VCDn_DWELLS.COUNT [31:0], RO. -/
def VCDn_DWELLS_COUNT (n : Nat) : Fld := ⟨0x401a0064 + 0x1000 * n, 31, 0⟩
/-- Address of VCDn_OCTRIPS (R372). -/
def VCDn_OCTRIPS (n : Nat) : Nat := 0x401a0068 + 0x1000 * n
/-- VCDn_OCTRIPS.COUNT [31:0], RO. -/
def VCDn_OCTRIPS_COUNT (n : Nat) : Fld := ⟨0x401a0068 + 0x1000 * n, 31, 0⟩
/-- Address of VCDn_THSPANS (R372). -/
def VCDn_THSPANS (n : Nat) : Nat := 0x401a006c + 0x1000 * n
/-- VCDn_THSPANS.COUNT [31:0], RO. -/
def VCDn_THSPANS_COUNT (n : Nat) : Fld := ⟨0x401a006c + 0x1000 * n, 31, 0⟩
/-- Address of VCDn_CNT_CLR (R372). -/
def VCDn_CNT_CLR (n : Nat) : Nat := 0x401a0070 + 0x1000 * n
/-- VCDn_CNT_CLR.ALL [0], WO. -/
def VCDn_CNT_CLR_ALL (n : Nat) : Fld := ⟨0x401a0070 + 0x1000 * n, 0, 0⟩
/-- Address of VCDn_EVT_STAT (R372). -/
def VCDn_EVT_STAT (n : Nat) : Nat := 0x401a0078 + 0x1000 * n
/-- VCDn_EVT_STAT.THERMAL [2], W1C. -/
def VCDn_EVT_STAT_THERMAL (n : Nat) : Fld := ⟨0x401a0078 + 0x1000 * n, 2, 2⟩
/-- VCDn_EVT_STAT.ESCAL [1], W1C. -/
def VCDn_EVT_STAT_ESCAL (n : Nat) : Fld := ⟨0x401a0078 + 0x1000 * n, 1, 1⟩
/-- VCDn_EVT_STAT.OCTRIP [0], W1C. -/
def VCDn_EVT_STAT_OCTRIP (n : Nat) : Fld := ⟨0x401a0078 + 0x1000 * n, 0, 0⟩
/-- Address of VCDn_EVT_EN (R372). -/
def VCDn_EVT_EN (n : Nat) : Nat := 0x401a007c + 0x1000 * n
/-- VCDn_EVT_EN.EN [2:0], RW. -/
def VCDn_EVT_EN_EN (n : Nat) : Fld := ⟨0x401a007c + 0x1000 * n, 2, 0⟩
/-- Address of MADn_LOCK (R372). -/
def MADn_LOCK (n : Nat) : Nat := 0x401a8004 + 0x1000 * n
/-- MADn_LOCK.LOCK [0], W1S. -/
def MADn_LOCK_LOCK (n : Nat) : Fld := ⟨0x401a8004 + 0x1000 * n, 0, 0⟩
/-- Address of MADn_CFG (R372). -/
def MADn_CFG (n : Nat) : Nat := 0x401a8008 + 0x1000 * n
/-- MADn_CFG.OFFSET [31:16], RWL. -/
def MADn_CFG_OFFSET (n : Nat) : Fld := ⟨0x401a8008 + 0x1000 * n, 31, 16⟩
/-- MADn_CFG.MALIM [15:0], RWL. -/
def MADn_CFG_MALIM (n : Nat) : Fld := ⟨0x401a8008 + 0x1000 * n, 15, 0⟩
/-- Address of MADn_OUT (R372). -/
def MADn_OUT (n : Nat) : Nat := 0x401a8040 + 0x1000 * n
/-- MADn_OUT.CODE [15:0], RO. -/
def MADn_OUT_CODE (n : Nat) : Fld := ⟨0x401a8040 + 0x1000 * n, 15, 0⟩
/-- Address of MADn_CLAMPS (R372). -/
def MADn_CLAMPS (n : Nat) : Nat := 0x401a8060 + 0x1000 * n
/-- MADn_CLAMPS.COUNT [31:0], RO. -/
def MADn_CLAMPS_COUNT (n : Nat) : Fld := ⟨0x401a8060 + 0x1000 * n, 31, 0⟩
/-- Address of MADn_CNT_CLR (R372). -/
def MADn_CNT_CLR (n : Nat) : Nat := 0x401a8070 + 0x1000 * n
/-- MADn_CNT_CLR.ALL [0], WO. -/
def MADn_CNT_CLR_ALL (n : Nat) : Fld := ⟨0x401a8070 + 0x1000 * n, 0, 0⟩
/-- Address of SRFn_BASIC (R392). -/
def SRFn_BASIC (n : Nat) : Nat := 0x40190000 + 0x1000 * n
/-- SRFn_BASIC.KEEP [9], WO. -/
def SRFn_BASIC_KEEP (n : Nat) : Fld := ⟨0x40190000 + 0x1000 * n, 9, 9⟩
/-- SRFn_BASIC.MODE [8], RO. -/
def SRFn_BASIC_MODE (n : Nat) : Fld := ⟨0x40190000 + 0x1000 * n, 8, 8⟩
/-- SRFn_BASIC.PROFILE [7:4], RW. -/
def SRFn_BASIC_PROFILE (n : Nat) : Fld := ⟨0x40190000 + 0x1000 * n, 7, 4⟩
/-- SRFn_BASIC.ENABLE [0], RW. -/
def SRFn_BASIC_ENABLE (n : Nat) : Fld := ⟨0x40190000 + 0x1000 * n, 0, 0⟩
/-- Address of SRFn_CFG (R392). -/
def SRFn_CFG (n : Nat) : Nat := 0x40190004 + 0x1000 * n
/-- SRFn_CFG.LEASE [31:24], RW. -/
def SRFn_CFG_LEASE (n : Nat) : Fld := ⟨0x40190004 + 0x1000 * n, 31, 24⟩
/-- SRFn_CFG.SWN [23:16], RW. -/
def SRFn_CFG_SWN (n : Nat) : Fld := ⟨0x40190004 + 0x1000 * n, 23, 16⟩
/-- SRFn_CFG.RSYNC [15:8], RW. -/
def SRFn_CFG_RSYNC (n : Nat) : Fld := ⟨0x40190004 + 0x1000 * n, 15, 8⟩
/-- SRFn_CFG.RTRY [7:4], RW. -/
def SRFn_CFG_RTRY (n : Nat) : Fld := ⟨0x40190004 + 0x1000 * n, 7, 4⟩
/-- SRFn_CFG.AUTORS [0], RW. -/
def SRFn_CFG_AUTORS (n : Nat) : Fld := ⟨0x40190004 + 0x1000 * n, 0, 0⟩
/-- Address of SRFn_REF0 (R392). -/
def SRFn_REF0 (n : Nat) : Nat := 0x40190008 + 0x1000 * n
/-- SRFn_REF0.RKD [31:16], RW. -/
def SRFn_REF0_RKD (n : Nat) : Fld := ⟨0x40190008 + 0x1000 * n, 31, 16⟩
/-- SRFn_REF0.RKP [15:0], RW. -/
def SRFn_REF0_RKP (n : Nat) : Fld := ⟨0x40190008 + 0x1000 * n, 15, 0⟩
/-- Address of SRFn_REF1 (R392). -/
def SRFn_REF1 (n : Nat) : Nat := 0x4019000c + 0x1000 * n
/-- SRFn_REF1.JMARGIN [31:16], RW. -/
def SRFn_REF1_JMARGIN (n : Nat) : Fld := ⟨0x4019000c + 0x1000 * n, 31, 16⟩
/-- SRFn_REF1.REFTOL [15:0], RW. -/
def SRFn_REF1_REFTOL (n : Nat) : Fld := ⟨0x4019000c + 0x1000 * n, 15, 0⟩
/-- Address of SRFn_CTRL (R392). -/
def SRFn_CTRL (n : Nat) : Nat := 0x40190010 + 0x1000 * n
/-- SRFn_CTRL.CORRUPT [5], RWO0. -/
def SRFn_CTRL_CORRUPT (n : Nat) : Fld := ⟨0x40190010 + 0x1000 * n, 5, 5⟩
/-- SRFn_CTRL.FENCE [4], RWO0. -/
def SRFn_CTRL_FENCE (n : Nat) : Fld := ⟨0x40190010 + 0x1000 * n, 4, 4⟩
/-- SRFn_CTRL.RESYNC [3], RWO0. -/
def SRFn_CTRL_RESYNC (n : Nat) : Fld := ⟨0x40190010 + 0x1000 * n, 3, 3⟩
/-- SRFn_CTRL.SWAP [2], RWO0. -/
def SRFn_CTRL_SWAP (n : Nat) : Fld := ⟨0x40190010 + 0x1000 * n, 2, 2⟩
/-- SRFn_CTRL.ESEL [0], RWO. -/
def SRFn_CTRL_ESEL (n : Nat) : Fld := ⟨0x40190010 + 0x1000 * n, 0, 0⟩
/-- Address of SRFn_STATUS (R392). -/
def SRFn_STATUS (n : Nat) : Nat := 0x40190014 + 0x1000 * n
/-- SRFn_STATUS.YSTATE [26:24], RO. -/
def SRFn_STATUS_YSTATE (n : Nat) : Fld := ⟨0x40190014 + 0x1000 * n, 26, 24⟩
/-- SRFn_STATUS.XSTATE [22:20], RO. -/
def SRFn_STATUS_XSTATE (n : Nat) : Fld := ⟨0x40190014 + 0x1000 * n, 22, 20⟩
/-- SRFn_STATUS.HOLDER [16], RO. -/
def SRFn_STATUS_HOLDER (n : Nat) : Fld := ⟨0x40190014 + 0x1000 * n, 16, 16⟩
/-- SRFn_STATUS.SOLO [15], RO. -/
def SRFn_STATUS_SOLO (n : Nat) : Fld := ⟨0x40190014 + 0x1000 * n, 15, 15⟩
/-- SRFn_STATUS.WINH [14], RO. -/
def SRFn_STATUS_WINH (n : Nat) : Fld := ⟨0x40190014 + 0x1000 * n, 14, 14⟩
/-- SRFn_STATUS.EXPIRY [9:0], RO. -/
def SRFn_STATUS_EXPIRY (n : Nat) : Fld := ⟨0x40190014 + 0x1000 * n, 9, 0⟩
/-- Address of SRFn_JUDGE (R392). -/
def SRFn_JUDGE (n : Nat) : Nat := 0x40190018 + 0x1000 * n
/-- SRFn_JUDGE.CAUSE [31:28], RO. -/
def SRFn_JUDGE_CAUSE (n : Nat) : Fld := ⟨0x40190018 + 0x1000 * n, 31, 28⟩
/-- SRFn_JUDGE.ENGINE [24], RO. -/
def SRFn_JUDGE_ENGINE (n : Nat) : Fld := ⟨0x40190018 + 0x1000 * n, 24, 24⟩
/-- SRFn_JUDGE.PIER [9:0], RO. -/
def SRFn_JUDGE_PIER (n : Nat) : Fld := ⟨0x40190018 + 0x1000 * n, 9, 0⟩
/-- Address of SRFn_UREF (R392). -/
def SRFn_UREF (n : Nat) : Nat := 0x4019001c + 0x1000 * n
/-- SRFn_UREF.UREF [15:0], RO. -/
def SRFn_UREF_UREF (n : Nat) : Fld := ⟨0x4019001c + 0x1000 * n, 15, 0⟩
/-- Address of SRFn_EVT_STAT (R392). -/
def SRFn_EVT_STAT (n : Nat) : Nat := 0x40190020 + 0x1000 * n
/-- SRFn_EVT_STAT.FENCEACT [4], W1C. -/
def SRFn_EVT_STAT_FENCEACT (n : Nat) : Fld := ⟨0x40190020 + 0x1000 * n, 4, 4⟩
/-- SRFn_EVT_STAT.RETIRE [3], W1C. -/
def SRFn_EVT_STAT_RETIRE (n : Nat) : Fld := ⟨0x40190020 + 0x1000 * n, 3, 3⟩
/-- SRFn_EVT_STAT.RESYNC [2], W1C. -/
def SRFn_EVT_STAT_RESYNC (n : Nat) : Fld := ⟨0x40190020 + 0x1000 * n, 2, 2⟩
/-- SRFn_EVT_STAT.SWITCH [1], W1C. -/
def SRFn_EVT_STAT_SWITCH (n : Nat) : Fld := ⟨0x40190020 + 0x1000 * n, 1, 1⟩
/-- SRFn_EVT_STAT.JUDGE [0], W1C. -/
def SRFn_EVT_STAT_JUDGE (n : Nat) : Fld := ⟨0x40190020 + 0x1000 * n, 0, 0⟩
/-- Address of SRFn_EVT_EN (R392). -/
def SRFn_EVT_EN (n : Nat) : Nat := 0x40190024 + 0x1000 * n
/-- SRFn_EVT_EN.EN [4:0], RW. -/
def SRFn_EVT_EN_EN (n : Nat) : Fld := ⟨0x40190024 + 0x1000 * n, 4, 0⟩
/-- Address of SRFn_CMP (R392). -/
def SRFn_CMP (n : Nat) : Nat := 0x40190040 + 0x1000 * n
/-- SRFn_CMP.COUNT [31:0], RO. -/
def SRFn_CMP_COUNT (n : Nat) : Fld := ⟨0x40190040 + 0x1000 * n, 31, 0⟩
/-- Address of SRFn_MISMATCH (R392). -/
def SRFn_MISMATCH (n : Nat) : Nat := 0x40190044 + 0x1000 * n
/-- SRFn_MISMATCH.COUNT [31:0], RO. -/
def SRFn_MISMATCH_COUNT (n : Nat) : Fld := ⟨0x40190044 + 0x1000 * n, 31, 0⟩
/-- Address of SRFn_ABSENT (R392). -/
def SRFn_ABSENT (n : Nat) : Nat := 0x40190048 + 0x1000 * n
/-- SRFn_ABSENT.COUNT [31:0], RO. -/
def SRFn_ABSENT_COUNT (n : Nat) : Fld := ⟨0x40190048 + 0x1000 * n, 31, 0⟩
/-- Address of SRFn_SELF (R392). -/
def SRFn_SELF (n : Nat) : Nat := 0x4019004c + 0x1000 * n
/-- SRFn_SELF.COUNT [31:0], RO. -/
def SRFn_SELF_COUNT (n : Nat) : Fld := ⟨0x4019004c + 0x1000 * n, 31, 0⟩
/-- Address of SRFn_REFFAIL (R392). -/
def SRFn_REFFAIL (n : Nat) : Nat := 0x40190050 + 0x1000 * n
/-- SRFn_REFFAIL.COUNT [31:0], RO. -/
def SRFn_REFFAIL_COUNT (n : Nat) : Fld := ⟨0x40190050 + 0x1000 * n, 31, 0⟩
/-- Address of SRFn_SWITCH (R392). -/
def SRFn_SWITCH (n : Nat) : Nat := 0x40190054 + 0x1000 * n
/-- SRFn_SWITCH.COUNT [31:0], RO. -/
def SRFn_SWITCH_COUNT (n : Nat) : Fld := ⟨0x40190054 + 0x1000 * n, 31, 0⟩
/-- Address of SRFn_RESYNC (R392). -/
def SRFn_RESYNC (n : Nat) : Nat := 0x40190058 + 0x1000 * n
/-- SRFn_RESYNC.COUNT [31:0], RO. -/
def SRFn_RESYNC_COUNT (n : Nat) : Fld := ⟨0x40190058 + 0x1000 * n, 31, 0⟩
/-- Address of SRFn_EXPIRE (R392). -/
def SRFn_EXPIRE (n : Nat) : Nat := 0x4019005c + 0x1000 * n
/-- SRFn_EXPIRE.COUNT [31:0], RO. -/
def SRFn_EXPIRE_COUNT (n : Nat) : Fld := ⟨0x4019005c + 0x1000 * n, 31, 0⟩
/-- Address of SRFn_RETIRE (R392). -/
def SRFn_RETIRE (n : Nat) : Nat := 0x40190060 + 0x1000 * n
/-- SRFn_RETIRE.COUNT [31:0], RO. -/
def SRFn_RETIRE_COUNT (n : Nat) : Fld := ⟨0x40190060 + 0x1000 * n, 31, 0⟩
/-- Address of SRFn_CNT_CLR (R392). -/
def SRFn_CNT_CLR (n : Nat) : Nat := 0x40190070 + 0x1000 * n
/-- SRFn_CNT_CLR.ALL [0], WO. -/
def SRFn_CNT_CLR_ALL (n : Nat) : Fld := ⟨0x40190070 + 0x1000 * n, 0, 0⟩
/-- Address of SMC_BASIC (R428). -/
def SMC_BASIC : Nat := 0x401b0000
/-- SMC_BASIC.KEEP [9], WO. -/
def SMC_BASIC_KEEP : Fld := ⟨0x401b0000, 9, 9⟩
/-- SMC_BASIC.MODE [8], RO. -/
def SMC_BASIC_MODE : Fld := ⟨0x401b0000, 8, 8⟩
/-- SMC_BASIC.PROFILE [7:4], RW. -/
def SMC_BASIC_PROFILE : Fld := ⟨0x401b0000, 7, 4⟩
/-- SMC_BASIC.ENABLE [0], RW. -/
def SMC_BASIC_ENABLE : Fld := ⟨0x401b0000, 0, 0⟩
/-- Address of SMC_LOCK (R428). -/
def SMC_LOCK : Nat := 0x401b0004
/-- SMC_LOCK.LOCK [0], W1S. -/
def SMC_LOCK_LOCK : Fld := ⟨0x401b0004, 0, 0⟩
/-- Address of SMC_CTRL (R428). -/
def SMC_CTRL : Nat := 0x401b0008
/-- SMC_CTRL.STOP [1], WO. -/
def SMC_CTRL_STOP : Fld := ⟨0x401b0008, 1, 1⟩
/-- SMC_CTRL.START [0], WO. -/
def SMC_CTRL_START : Fld := ⟨0x401b0008, 0, 0⟩
/-- Address of SMC_STATUS (R428). -/
def SMC_STATUS : Nat := 0x401b000c
/-- SMC_STATUS.SPCLAMP [25], RO. -/
def SMC_STATUS_SPCLAMP : Fld := ⟨0x401b000c, 25, 25⟩
/-- SMC_STATUS.ROTOK [24], RO. -/
def SMC_STATUS_ROTOK : Fld := ⟨0x401b000c, 24, 24⟩
/-- SMC_STATUS.WINH [23], RO. -/
def SMC_STATUS_WINH : Fld := ⟨0x401b000c, 23, 23⟩
/-- SMC_STATUS.PHOK [22], RO. -/
def SMC_STATUS_PHOK : Fld := ⟨0x401b000c, 22, 22⟩
/-- SMC_STATUS.OBSLOCK [21], RO. -/
def SMC_STATUS_OBSLOCK : Fld := ⟨0x401b000c, 21, 21⟩
/-- SMC_STATUS.CHOPG [20], RO. -/
def SMC_STATUS_CHOPG : Fld := ⟨0x401b000c, 20, 20⟩
/-- SMC_STATUS.SYNC [17:16], RO. -/
def SMC_STATUS_SYNC : Fld := ⟨0x401b000c, 17, 16⟩
/-- SMC_STATUS.ATTEMPT [14:12], RO. -/
def SMC_STATUS_ATTEMPT : Fld := ⟨0x401b000c, 14, 12⟩
/-- SMC_STATUS.SRC [9:8], RO. -/
def SMC_STATUS_SRC : Fld := ⟨0x401b000c, 9, 8⟩
/-- SMC_STATUS.STATE [3:0], RO. -/
def SMC_STATUS_STATE : Fld := ⟨0x401b000c, 3, 0⟩
/-- Address of SMC_SETPT (R428). -/
def SMC_SETPT : Nat := 0x401b0010
/-- SMC_SETPT.SRC [17:16], RW. -/
def SMC_SETPT_SRC : Fld := ⟨0x401b0010, 17, 16⟩
/-- SMC_SETPT.RPM [15:0], RW. -/
def SMC_SETPT_RPM : Fld := ⟨0x401b0010, 15, 0⟩
/-- Address of SMC_SPEED (R428). -/
def SMC_SPEED : Nat := 0x401b0014
/-- SMC_SPEED.TARGET [31:16], RO. -/
def SMC_SPEED_TARGET : Fld := ⟨0x401b0014, 31, 16⟩
/-- SMC_SPEED.SPEED [15:0], RO. -/
def SMC_SPEED_SPEED : Fld := ⟨0x401b0014, 15, 0⟩
/-- Address of SMC_PWM (R428). -/
def SMC_PWM : Nat := 0x401b0018
/-- SMC_PWM.PER [31:16], RWL. -/
def SMC_PWM_PER : Fld := ⟨0x401b0018, 31, 16⟩
/-- SMC_PWM.GAIN [9:8], RWL. -/
def SMC_PWM_GAIN : Fld := ⟨0x401b0018, 9, 8⟩
/-- SMC_PWM.DT [6:0], RWL. -/
def SMC_PWM_DT : Fld := ⟨0x401b0018, 6, 0⟩
/-- Address of SMC_ILIM (R428). -/
def SMC_ILIM : Nat := 0x401b001c
/-- SMC_ILIM.IOC [31:16], RWL. -/
def SMC_ILIM_IOC : Fld := ⟨0x401b001c, 31, 16⟩
/-- SMC_ILIM.IMAX [15:0], RWL. -/
def SMC_ILIM_IMAX : Fld := ⟨0x401b001c, 15, 0⟩
/-- Address of SMC_START (R428). -/
def SMC_START : Nat := 0x401b0020
/-- SMC_START.BACKMAX [31:24], RW. -/
def SMC_START_BACKMAX : Fld := ⟨0x401b0020, 31, 24⟩
/-- SMC_START.DETMIN [23:16], RW. -/
def SMC_START_DETMIN : Fld := ⟨0x401b0020, 23, 16⟩
/-- SMC_START.ALIGNT [15:0], RW. -/
def SMC_START_ALIGNT : Fld := ⟨0x401b0020, 15, 0⟩
/-- Address of SMC_START1 (R428). -/
def SMC_START1 : Nat := 0x401b0024
/-- SMC_START1.OLMAX [31:16], RW. -/
def SMC_START1_OLMAX : Fld := ⟨0x401b0024, 31, 16⟩
/-- SMC_START1.STOPWAIT [15:0], RW. -/
def SMC_START1_STOPWAIT : Fld := ⟨0x401b0024, 15, 0⟩
/-- Address of SMC_START2 (R428). -/
def SMC_START2 : Nat := 0x401b0028
/-- SMC_START2.OLINT [31:16], RW. -/
def SMC_START2_OLINT : Fld := ⟨0x401b0028, 31, 16⟩
/-- SMC_START2.OLMIN [15:0], RW. -/
def SMC_START2_OLMIN : Fld := ⟨0x401b0028, 15, 0⟩
/-- Address of SMC_SPDLOOP (R428). -/
def SMC_SPDLOOP : Nat := 0x401b002c
/-- SMC_SPDLOOP.KI [31:16], RW. -/
def SMC_SPDLOOP_KI : Fld := ⟨0x401b002c, 31, 16⟩
/-- SMC_SPDLOOP.KP [15:0], RW. -/
def SMC_SPDLOOP_KP : Fld := ⟨0x401b002c, 15, 0⟩
/-- Address of SMC_RAMP (R428). -/
def SMC_RAMP : Nat := 0x401b0030
/-- SMC_RAMP.DEC [31:16], RW. -/
def SMC_RAMP_DEC : Fld := ⟨0x401b0030, 31, 16⟩
/-- SMC_RAMP.ACC [15:0], RW. -/
def SMC_RAMP_ACC : Fld := ⟨0x401b0030, 15, 0⟩
/-- Address of SMC_PHLOOP (R428). -/
def SMC_PHLOOP : Nat := 0x401b0034
/-- SMC_PHLOOP.KPH [31:16], RW. -/
def SMC_PHLOOP_KPH : Fld := ⟨0x401b0034, 31, 16⟩
/-- SMC_PHLOOP.TRIMMAX [15:8], RW. -/
def SMC_PHLOOP_TRIMMAX : Fld := ⟨0x401b0034, 15, 8⟩
/-- SMC_PHLOOP.KIH [7:0], RW. -/
def SMC_PHLOOP_KIH : Fld := ⟨0x401b0034, 7, 0⟩
/-- Address of SMC_SYNCCFG (R428). -/
def SMC_SYNCCFG : Nat := 0x401b0038
/-- SMC_SYNCCFG.LOCKN [31:24], RW. -/
def SMC_SYNCCFG_LOCKN : Fld := ⟨0x401b0038, 31, 24⟩
/-- SMC_SYNCCFG.LOCKTOL [15:0], RW. -/
def SMC_SYNCCFG_LOCKTOL : Fld := ⟨0x401b0038, 15, 0⟩
/-- Address of SMC_OBS (R428). -/
def SMC_OBS : Nat := 0x401b003c
/-- SMC_OBS.OBSN [31:24], RW. -/
def SMC_OBS_OBSN : Fld := ⟨0x401b003c, 31, 24⟩
/-- SMC_OBS.OBSTOL [15:0], RW. -/
def SMC_OBS_OBSTOL : Fld := ⟨0x401b003c, 15, 0⟩
/-- Address of SMC_HOVER (R428). -/
def SMC_HOVER : Nat := 0x401b0040
/-- SMC_HOVER.SPINMAX [27:16], RW. -/
def SMC_HOVER_SPINMAX : Fld := ⟨0x401b0040, 27, 16⟩
/-- SMC_HOVER.WTOL [15:8], RW. -/
def SMC_HOVER_WTOL : Fld := ⟨0x401b0040, 15, 8⟩
/-- SMC_HOVER.HSH [3:0], RW. -/
def SMC_HOVER_HSH : Fld := ⟨0x401b0040, 3, 0⟩
/-- Address of SMC_SPEEDS (R428). -/
def SMC_SPEEDS : Nat := 0x401b0044
/-- SMC_SPEEDS.SINSPD [31:16], RW. -/
def SMC_SPEEDS_SINSPD : Fld := ⟨0x401b0044, 31, 16⟩
/-- SMC_SPEEDS.STOPSPD [15:0], RW. -/
def SMC_SPEEDS_STOPSPD : Fld := ⟨0x401b0044, 15, 0⟩
/-- Address of SMC_CATCH (R428). -/
def SMC_CATCH : Nat := 0x401b0048
/-- SMC_CATCH.CATCHMAX [31:16], RW. -/
def SMC_CATCH_CATCHMAX : Fld := ⟨0x401b0048, 31, 16⟩
/-- SMC_CATCH.CATCHMIN [15:0], RW. -/
def SMC_CATCH_CATCHMIN : Fld := ⟨0x401b0048, 15, 0⟩
/-- Address of SMC_ISTART (R428). -/
def SMC_ISTART : Nat := 0x401b004c
/-- SMC_ISTART.IBOOST [31:16], RWL. -/
def SMC_ISTART_IBOOST : Fld := ⟨0x401b004c, 31, 16⟩
/-- SMC_ISTART.ISTART [15:0], RWL. -/
def SMC_ISTART_ISTART : Fld := ⟨0x401b004c, 15, 0⟩
/-- Address of SMC_ROTOFF (R428). -/
def SMC_ROTOFF : Nat := 0x401b0050
/-- SMC_ROTOFF.OFF [31:0], RO. -/
def SMC_ROTOFF_OFF : Fld := ⟨0x401b0050, 31, 0⟩
/-- Address of SMC_SPREF (R428). -/
def SMC_SPREF : Nat := 0x401b0054
/-- SMC_SPREF.HI [31:16], RWL. -/
def SMC_SPREF_HI : Fld := ⟨0x401b0054, 31, 16⟩
/-- SMC_SPREF.LO [15:0], RWL. -/
def SMC_SPREF_LO : Fld := ⟨0x401b0054, 15, 0⟩
/-- Address of SMC_SPREF_IN (R428). -/
def SMC_SPREF_IN : Nat := 0x401b0058
/-- SMC_SPREF_IN.CODE [11:0], RO. -/
def SMC_SPREF_IN_CODE : Fld := ⟨0x401b0058, 11, 0⟩
/-- Address of SMC_BRAKE (R428). -/
def SMC_BRAKE : Nat := 0x401b005c
/-- SMC_BRAKE.BRKIMIN [23:8], RWL. -/
def SMC_BRAKE_BRKIMIN : Fld := ⟨0x401b005c, 23, 8⟩
/-- SMC_BRAKE.MODE [1:0], RW. -/
def SMC_BRAKE_MODE : Fld := ⟨0x401b005c, 1, 0⟩
/-- Address of SMC_FAULT (R428). -/
def SMC_FAULT : Nat := 0x401b0060
/-- SMC_FAULT.OCESC [5], W1C. -/
def SMC_FAULT_OCESC : Fld := ⟨0x401b0060, 5, 5⟩
/-- SMC_FAULT.CATCHFAIL [4], W1C. -/
def SMC_FAULT_CATCHFAIL : Fld := ⟨0x401b0060, 4, 4⟩
/-- SMC_FAULT.SPINFAIL [3], W1C. -/
def SMC_FAULT_SPINFAIL : Fld := ⟨0x401b0060, 3, 3⟩
/-- SMC_FAULT.PLOSS [2], W1C. -/
def SMC_FAULT_PLOSS : Fld := ⟨0x401b0060, 2, 2⟩
/-- SMC_FAULT.OVP [1], RO. -/
def SMC_FAULT_OVP : Fld := ⟨0x401b0060, 1, 1⟩
/-- SMC_FAULT.CHOP [0], RO. -/
def SMC_FAULT_CHOP : Fld := ⟨0x401b0060, 0, 0⟩
/-- Address of SMC_RETRACT0 (R428). -/
def SMC_RETRACT0 : Nat := 0x401b0064
/-- SMC_RETRACT0.RDIR [31], RWL. -/
def SMC_RETRACT0_RDIR : Fld := ⟨0x401b0064, 31, 31⟩
/-- SMC_RETRACT0.VPARK [27:16], RWL. -/
def SMC_RETRACT0_VPARK : Fld := ⟨0x401b0064, 27, 16⟩
/-- SMC_RETRACT0.VRET [11:0], RWL. -/
def SMC_RETRACT0_VRET : Fld := ⟨0x401b0064, 11, 0⟩
/-- Address of SMC_RETRACT1 (R428). -/
def SMC_RETRACT1 : Nat := 0x401b0068
/-- SMC_RETRACT1.RET2 [31:16], RWL. -/
def SMC_RETRACT1_RET2 : Fld := ⟨0x401b0068, 31, 16⟩
/-- SMC_RETRACT1.RET1 [15:0], RWL. -/
def SMC_RETRACT1_RET1 : Fld := ⟨0x401b0068, 15, 0⟩
/-- Address of SMC_MOTOR0 (R428). -/
def SMC_MOTOR0 : Nat := 0x401b006c
/-- SMC_MOTOR0.KE [31:16], RWL. -/
def SMC_MOTOR0_KE : Fld := ⟨0x401b006c, 31, 16⟩
/-- SMC_MOTOR0.RPH [15:0], RWL. -/
def SMC_MOTOR0_RPH : Fld := ⟨0x401b006c, 15, 0⟩
/-- Address of SMC_MOTOR1 (R428). -/
def SMC_MOTOR1 : Nat := 0x401b0070
/-- SMC_MOTOR1.ADV [31:16], RWL. -/
def SMC_MOTOR1_ADV : Fld := ⟨0x401b0070, 31, 16⟩
/-- SMC_MOTOR1.BLANK [15:8], RWL. -/
def SMC_MOTOR1_BLANK : Fld := ⟨0x401b0070, 15, 8⟩
/-- SMC_MOTOR1.DETOFF [7:5], RWL. -/
def SMC_MOTOR1_DETOFF : Fld := ⟨0x401b0070, 7, 5⟩
/-- SMC_MOTOR1.LPH [4:0], RWL. -/
def SMC_MOTOR1_LPH : Fld := ⟨0x401b0070, 4, 0⟩
/-- Address of SMC_VMOT (R428). -/
def SMC_VMOT : Nat := 0x401b0074
/-- SMC_VMOT.MV [15:0], RO. -/
def SMC_VMOT_MV : Fld := ⟨0x401b0074, 15, 0⟩
/-- Address of SMC_IBR (R428). -/
def SMC_IBR : Nat := 0x401b0078
/-- SMC_IBR.I [15:0], RO. -/
def SMC_IBR_I : Fld := ⟨0x401b0078, 15, 0⟩
/-- Address of SMC_ANGLE (R428). -/
def SMC_ANGLE : Nat := 0x401b007c
/-- SMC_ANGLE.THETA [31:0], RO. -/
def SMC_ANGLE_THETA : Fld := ⟨0x401b007c, 31, 0⟩
/-- Address of SMC_OBSDIFF (R428). -/
def SMC_OBSDIFF : Nat := 0x401b0080
/-- SMC_OBSDIFF.D [15:0], RO. -/
def SMC_OBSDIFF_D : Fld := ⟨0x401b0080, 15, 0⟩
/-- Address of SMC_TRIM (R428). -/
def SMC_TRIM : Nat := 0x401b0084
/-- SMC_TRIM.TRIM [15:0], RO. -/
def SMC_TRIM_TRIM : Fld := ⟨0x401b0084, 15, 0⟩
/-- Address of SMC_EVT_STAT (R428). -/
def SMC_EVT_STAT : Nat := 0x401b0090
/-- SMC_EVT_STAT.HOVER [8], W1C. -/
def SMC_EVT_STAT_HOVER : Fld := ⟨0x401b0090, 8, 8⟩
/-- SMC_EVT_STAT.OCESC [7], W1C. -/
def SMC_EVT_STAT_OCESC : Fld := ⟨0x401b0090, 7, 7⟩
/-- SMC_EVT_STAT.PLOSS [6], W1C. -/
def SMC_EVT_STAT_PLOSS : Fld := ⟨0x401b0090, 6, 6⟩
/-- SMC_EVT_STAT.OVP [5], W1C. -/
def SMC_EVT_STAT_OVP : Fld := ⟨0x401b0090, 5, 5⟩
/-- SMC_EVT_STAT.CHOP [4], W1C. -/
def SMC_EVT_STAT_CHOP : Fld := ⟨0x401b0090, 4, 4⟩
/-- SMC_EVT_STAT.CATCH [3], W1C. -/
def SMC_EVT_STAT_CATCH : Fld := ⟨0x401b0090, 3, 3⟩
/-- SMC_EVT_STAT.OBSLOSS [2], W1C. -/
def SMC_EVT_STAT_OBSLOSS : Fld := ⟨0x401b0090, 2, 2⟩
/-- SMC_EVT_STAT.STARTFAIL [1], W1C. -/
def SMC_EVT_STAT_STARTFAIL : Fld := ⟨0x401b0090, 1, 1⟩
/-- SMC_EVT_STAT.SPUN [0], W1C. -/
def SMC_EVT_STAT_SPUN : Fld := ⟨0x401b0090, 0, 0⟩
/-- Address of SMC_EVT_EN (R428). -/
def SMC_EVT_EN : Nat := 0x401b0094
/-- SMC_EVT_EN.EN [8:0], RW. -/
def SMC_EVT_EN_EN : Fld := ⟨0x401b0094, 8, 0⟩
/-- Address of SMC_STARTS (R428). -/
def SMC_STARTS : Nat := 0x401b00a0
/-- SMC_STARTS.COUNT [31:0], RO. -/
def SMC_STARTS_COUNT : Fld := ⟨0x401b00a0, 31, 0⟩
/-- Address of SMC_STARTFAIL (R428). -/
def SMC_STARTFAIL : Nat := 0x401b00a4
/-- SMC_STARTFAIL.COUNT [31:0], RO. -/
def SMC_STARTFAIL_COUNT : Fld := ⟨0x401b00a4, 31, 0⟩
/-- Address of SMC_ABORTS (R428). -/
def SMC_ABORTS : Nat := 0x401b00a8
/-- SMC_ABORTS.COUNT [31:0], RO. -/
def SMC_ABORTS_COUNT : Fld := ⟨0x401b00a8, 31, 0⟩
/-- Address of SMC_BACKJ (R428). -/
def SMC_BACKJ : Nat := 0x401b00ac
/-- SMC_BACKJ.COUNT [31:0], RO. -/
def SMC_BACKJ_COUNT : Fld := ⟨0x401b00ac, 31, 0⟩
/-- Address of SMC_OBSLOSS (R428). -/
def SMC_OBSLOSS : Nat := 0x401b00b0
/-- SMC_OBSLOSS.COUNT [31:0], RO. -/
def SMC_OBSLOSS_COUNT : Fld := ⟨0x401b00b0, 31, 0⟩
/-- Address of SMC_CATCHES (R428). -/
def SMC_CATCHES : Nat := 0x401b00b4
/-- SMC_CATCHES.COUNT [31:0], RO. -/
def SMC_CATCHES_COUNT : Fld := ⟨0x401b00b4, 31, 0⟩
/-- Address of SMC_CATCHFAIL (R428). -/
def SMC_CATCHFAIL : Nat := 0x401b00b8
/-- SMC_CATCHFAIL.COUNT [31:0], RO. -/
def SMC_CATCHFAIL_COUNT : Fld := ⟨0x401b00b8, 31, 0⟩
/-- Address of SMC_OCTRIPS (R428). -/
def SMC_OCTRIPS : Nat := 0x401b00bc
/-- SMC_OCTRIPS.COUNT [31:0], RO. -/
def SMC_OCTRIPS_COUNT : Fld := ⟨0x401b00bc, 31, 0⟩
/-- Address of SMC_CHOPON (R428). -/
def SMC_CHOPON : Nat := 0x401b00c0
/-- SMC_CHOPON.COUNT [31:0], RO. -/
def SMC_CHOPON_COUNT : Fld := ⟨0x401b00c0, 31, 0⟩
/-- Address of SMC_HOVERS (R428). -/
def SMC_HOVERS : Nat := 0x401b00c4
/-- SMC_HOVERS.COUNT [31:0], RO. -/
def SMC_HOVERS_COUNT : Fld := ⟨0x401b00c4, 31, 0⟩
/-- Address of SMC_CNT_CLR (R428). -/
def SMC_CNT_CLR : Nat := 0x401b00d0
/-- SMC_CNT_CLR.ALL [0], WO. -/
def SMC_CNT_CLR_ALL : Fld := ⟨0x401b00d0, 0, 0⟩
/-- Address of SMC_WAVE_i (R428). -/
def SMC_WAVE_i (i : Nat) : Nat := 0x401b0100 + 4 * i
/-- SMC_WAVE_i.V [15:0], RWL. -/
def SMC_WAVE_i_V (i : Nat) : Fld := ⟨0x401b0100 + 4 * i, 15, 0⟩
/-- Address of SMC_COG_i (R428). -/
def SMC_COG_i (i : Nat) : Nat := 0x401b0500 + 4 * i
/-- SMC_COG_i.V [15:0], RWL. -/
def SMC_COG_i_V (i : Nat) : Fld := ⟨0x401b0500 + 4 * i, 15, 0⟩
/-- Address of CXE_BASIC (R456). -/
def CXE_BASIC : Nat := 0x401c0000
/-- CXE_BASIC.KEEP [9], WO. -/
def CXE_BASIC_KEEP : Fld := ⟨0x401c0000, 9, 9⟩
/-- CXE_BASIC.MODE [8], RO. -/
def CXE_BASIC_MODE : Fld := ⟨0x401c0000, 8, 8⟩
/-- CXE_BASIC.PROFILE [7:4], RW. -/
def CXE_BASIC_PROFILE : Fld := ⟨0x401c0000, 7, 4⟩
/-- CXE_BASIC.ENABLE [0], RW. -/
def CXE_BASIC_ENABLE : Fld := ⟨0x401c0000, 0, 0⟩
/-- Address of CXE_CFG (R456). -/
def CXE_CFG : Nat := 0x401c0004
/-- CXE_CFG.IDLE [31:24], RW. -/
def CXE_CFG_IDLE : Fld := ⟨0x401c0004, 31, 24⟩
/-- CXE_CFG.LAZY [8], RW. -/
def CXE_CFG_LAZY : Fld := ⟨0x401c0004, 8, 8⟩
/-- CXE_CFG.DEPTH [3:0], RW. -/
def CXE_CFG_DEPTH : Fld := ⟨0x401c0004, 3, 0⟩
/-- Address of CXE_STATUS (R456). -/
def CXE_STATUS : Nat := 0x401c0010
/-- CXE_STATUS.CTX [24:16], RO. -/
def CXE_STATUS_CTX : Fld := ⟨0x401c0010, 24, 16⟩
/-- CXE_STATUS.DBUSY [10:8], RO. -/
def CXE_STATUS_DBUSY : Fld := ⟨0x401c0010, 10, 8⟩
/-- CXE_STATUS.CBUSY [1:0], RO. -/
def CXE_STATUS_CBUSY : Fld := ⟨0x401c0010, 1, 0⟩
/-- Address of CXE_EVT_STAT (R456). -/
def CXE_EVT_STAT : Nat := 0x401c0020
/-- CXE_EVT_STAT.CTXERR [2], W1C. -/
def CXE_EVT_STAT_CTXERR : Fld := ⟨0x401c0020, 2, 2⟩
/-- CXE_EVT_STAT.CFULL [1], W1C. -/
def CXE_EVT_STAT_CFULL : Fld := ⟨0x401c0020, 1, 1⟩
/-- CXE_EVT_STAT.DERR [0], W1C. -/
def CXE_EVT_STAT_DERR : Fld := ⟨0x401c0020, 0, 0⟩
/-- Address of CXE_EVT_EN (R456). -/
def CXE_EVT_EN : Nat := 0x401c0024
/-- CXE_EVT_EN.EN [2:0], RW. -/
def CXE_EVT_EN_EN : Fld := ⟨0x401c0024, 2, 0⟩
/-- Address of CXE_DERR0 (R456). -/
def CXE_DERR0 : Nat := 0x401c0030
/-- CXE_DERR0.CAUSE [31:28], RO. -/
def CXE_DERR0_CAUSE : Fld := ⟨0x401c0030, 31, 28⟩
/-- CXE_DERR0.NSID [22:16], RO. -/
def CXE_DERR0_NSID : Fld := ⟨0x401c0030, 22, 16⟩
/-- CXE_DERR0.ZLBA [15:0], RO. -/
def CXE_DERR0_ZLBA : Fld := ⟨0x401c0030, 15, 0⟩
/-- Address of CXE_DERR1 (R456). -/
def CXE_DERR1 : Nat := 0x401c0034
/-- CXE_DERR1.ZONE [19:0], RO. -/
def CXE_DERR1_ZONE : Fld := ⟨0x401c0034, 19, 0⟩
/-- Address of CXE_INKIB (R456). -/
def CXE_INKIB : Nat := 0x401c0100
/-- CXE_INKIB.COUNT [31:0], RO. -/
def CXE_INKIB_COUNT : Fld := ⟨0x401c0100, 31, 0⟩
/-- Address of CXE_OUTKIB (R456). -/
def CXE_OUTKIB : Nat := 0x401c0104
/-- CXE_OUTKIB.COUNT [31:0], RO. -/
def CXE_OUTKIB_COUNT : Fld := ⟨0x401c0104, 31, 0⟩
/-- Address of CXE_BLOCKS (R456). -/
def CXE_BLOCKS : Nat := 0x401c0108
/-- CXE_BLOCKS.COUNT [31:0], RO. -/
def CXE_BLOCKS_COUNT : Fld := ⟨0x401c0108, 31, 0⟩
/-- Address of CXE_RAWBLK (R456). -/
def CXE_RAWBLK : Nat := 0x401c010c
/-- CXE_RAWBLK.COUNT [31:0], RO. -/
def CXE_RAWBLK_COUNT : Fld := ⟨0x401c010c, 31, 0⟩
/-- Address of CXE_SEALS (R456). -/
def CXE_SEALS : Nat := 0x401c0110
/-- CXE_SEALS.COUNT [31:0], RO. -/
def CXE_SEALS_COUNT : Fld := ⟨0x401c0110, 31, 0⟩
/-- Address of CXE_SWITCH (R456). -/
def CXE_SWITCH : Nat := 0x401c0114
/-- CXE_SWITCH.COUNT [31:0], RO. -/
def CXE_SWITCH_COUNT : Fld := ⟨0x401c0114, 31, 0⟩
/-- Address of CXE_DBLOCKS (R456). -/
def CXE_DBLOCKS : Nat := 0x401c0118
/-- CXE_DBLOCKS.COUNT [31:0], RO. -/
def CXE_DBLOCKS_COUNT : Fld := ⟨0x401c0118, 31, 0⟩
/-- Address of CXE_DERRS (R456). -/
def CXE_DERRS : Nat := 0x401c011c
/-- CXE_DERRS.COUNT [31:0], RO. -/
def CXE_DERRS_COUNT : Fld := ⟨0x401c011c, 31, 0⟩
/-- Address of CXE_CFULL (R456). -/
def CXE_CFULL : Nat := 0x401c0120
/-- CXE_CFULL.COUNT [31:0], RO. -/
def CXE_CFULL_COUNT : Fld := ⟨0x401c0120, 31, 0⟩
/-- Address of CXE_CNT_CLR (R456). -/
def CXE_CNT_CLR : Nat := 0x401c0140
/-- CXE_CNT_CLR.ALL [0], WO. -/
def CXE_CNT_CLR_ALL : Fld := ⟨0x401c0140, 0, 0⟩
/-- Address of MEM_BASIC (R476). -/
def MEM_BASIC : Nat := 0x40060000
/-- MEM_BASIC.KEEP [9], WO. -/
def MEM_BASIC_KEEP : Fld := ⟨0x40060000, 9, 9⟩
/-- MEM_BASIC.MODE [8], RO. -/
def MEM_BASIC_MODE : Fld := ⟨0x40060000, 8, 8⟩
/-- MEM_BASIC.PROFILE [7:4], RW. -/
def MEM_BASIC_PROFILE : Fld := ⟨0x40060000, 7, 4⟩
/-- MEM_BASIC.ENABLE [0], RW. -/
def MEM_BASIC_ENABLE : Fld := ⟨0x40060000, 0, 0⟩
/-- Address of MEM_LOCK (R476). -/
def MEM_LOCK : Nat := 0x40060004
/-- MEM_LOCK.LOCK [0], W1S. -/
def MEM_LOCK_LOCK : Fld := ⟨0x40060004, 0, 0⟩
/-- Address of MEM_CFG (R476). -/
def MEM_CFG : Nat := 0x40060008
/-- MEM_CFG.SIZE [17:16], RO. -/
def MEM_CFG_SIZE : Fld := ⟨0x40060008, 17, 16⟩
/-- MEM_CFG.WIDTH [12], RO. -/
def MEM_CFG_WIDTH : Fld := ⟨0x40060008, 12, 12⟩
/-- MEM_CFG.RANKS [8], RO. -/
def MEM_CFG_RANKS : Fld := ⟨0x40060008, 8, 8⟩
/-- MEM_CFG.SUBCH [3:0], RO. -/
def MEM_CFG_SUBCH : Fld := ⟨0x40060008, 3, 0⟩
/-- Address of MEM_STATUS (R476). -/
def MEM_STATUS : Nat := 0x4006000c
/-- MEM_STATUS.SRAMFILL [31], RO. -/
def MEM_STATUS_SRAMFILL : Fld := ⟨0x4006000c, 31, 31⟩
/-- MEM_STATUS.TRAINED [30], RO. -/
def MEM_STATUS_TRAINED : Fld := ⟨0x4006000c, 30, 30⟩
/-- MEM_STATUS.DRAMFILL [29], RO. -/
def MEM_STATUS_DRAMFILL : Fld := ⟨0x4006000c, 29, 29⟩
/-- MEM_STATUS.TRAINFAIL [27:24], RO. -/
def MEM_STATUS_TRAINFAIL : Fld := ⟨0x4006000c, 27, 24⟩
/-- MEM_STATUS.HOTREF [19:16], RO. -/
def MEM_STATUS_HOTREF : Fld := ⟨0x4006000c, 19, 16⟩
/-- Address of SCB_CFG (R476). -/
def SCB_CFG : Nat := 0x40060020
/-- SCB_CFG.DPASS [31:16], RW. -/
def SCB_CFG_DPASS : Fld := ⟨0x40060020, 31, 16⟩
/-- SCB_CFG.SPASS [15:0], RW. -/
def SCB_CFG_SPASS : Fld := ⟨0x40060020, 15, 0⟩
/-- Address of SCB_DPOS (R476). -/
def SCB_DPOS : Nat := 0x40060024
/-- SCB_DPOS.BEHIND [31], RO. -/
def SCB_DPOS_BEHIND : Fld := ⟨0x40060024, 31, 31⟩
/-- SCB_DPOS.LINE [28:0], RO. -/
def SCB_DPOS_LINE : Fld := ⟨0x40060024, 28, 0⟩
/-- Address of SCB_SPOS (R476). -/
def SCB_SPOS : Nat := 0x40060028
/-- SCB_SPOS.BEHIND [31], RO. -/
def SCB_SPOS_BEHIND : Fld := ⟨0x40060028, 31, 31⟩
/-- SCB_SPOS.WORD [21:0], RO. -/
def SCB_SPOS_WORD : Fld := ⟨0x40060028, 21, 0⟩
/-- Address of DMC_ARB (R476). -/
def DMC_ARB : Nat := 0x40060030
/-- DMC_ARB.CORE [23:20], RW. -/
def DMC_ARB_CORE : Fld := ⟨0x40060030, 23, 20⟩
/-- DMC_ARB.HQE [19:16], RW. -/
def DMC_ARB_HQE : Fld := ⟨0x40060030, 19, 16⟩
/-- DMC_ARB.MDMA [15:12], RW. -/
def DMC_ARB_MDMA : Fld := ⟨0x40060030, 15, 12⟩
/-- DMC_ARB.CXE [11:8], RW. -/
def DMC_ARB_CXE : Fld := ⟨0x40060030, 11, 8⟩
/-- DMC_ARB.OTHER [7:4], RW. -/
def DMC_ARB_OTHER : Fld := ⟨0x40060030, 7, 4⟩
/-- DMC_ARB.SCB [3:0], RW. -/
def DMC_ARB_SCB : Fld := ⟨0x40060030, 3, 0⟩
/-- Address of DMC_ARB1 (R476). -/
def DMC_ARB1 : Nat := 0x40060034
/-- DMC_ARB1.CORELAT [15:0], RW. -/
def DMC_ARB1_CORELAT : Fld := ⟨0x40060034, 15, 0⟩
/-- Address of MEM_EVT_STAT (R476). -/
def MEM_EVT_STAT : Nat := 0x40060040
/-- MEM_EVT_STAT.TRAINFAIL [5], W1C. -/
def MEM_EVT_STAT_TRAINFAIL : Fld := ⟨0x40060040, 5, 5⟩
/-- MEM_EVT_STAT.RMTDONE [4], W1C. -/
def MEM_EVT_STAT_RMTDONE : Fld := ⟨0x40060040, 4, 4⟩
/-- MEM_EVT_STAT.DUE [3], W1C. -/
def MEM_EVT_STAT_DUE : Fld := ⟨0x40060040, 3, 3⟩
/-- MEM_EVT_STAT.SUE [2], W1C. -/
def MEM_EVT_STAT_SUE : Fld := ⟨0x40060040, 2, 2⟩
/-- MEM_EVT_STAT.DCE [1], W1C. -/
def MEM_EVT_STAT_DCE : Fld := ⟨0x40060040, 1, 1⟩
/-- MEM_EVT_STAT.SCE [0], W1C. -/
def MEM_EVT_STAT_SCE : Fld := ⟨0x40060040, 0, 0⟩
/-- Address of MEM_EVT_EN (R476). -/
def MEM_EVT_EN : Nat := 0x40060044
/-- MEM_EVT_EN.EN [5:0], RW. -/
def MEM_EVT_EN_EN : Fld := ⟨0x40060044, 5, 0⟩
/-- Address of MEM_UE_ADDR_LO (R476). -/
def MEM_UE_ADDR_LO : Nat := 0x40060050
/-- MEM_UE_ADDR_LO.ADDR [31:0], RO. -/
def MEM_UE_ADDR_LO_ADDR : Fld := ⟨0x40060050, 31, 0⟩
/-- Address of MEM_UE_ADDR_HI (R476). -/
def MEM_UE_ADDR_HI : Nat := 0x40060054
/-- MEM_UE_ADDR_HI.ADDR [3:0], RO. -/
def MEM_UE_ADDR_HI_ADDR : Fld := ⟨0x40060054, 3, 0⟩
/-- Address of MEM_UE_INFO (R476). -/
def MEM_UE_INFO : Nat := 0x40060058
/-- MEM_UE_INFO.VALID [31], W1C. -/
def MEM_UE_INFO_VALID : Fld := ⟨0x40060058, 31, 31⟩
/-- MEM_UE_INFO.OVER [30], W1C. -/
def MEM_UE_INFO_OVER : Fld := ⟨0x40060058, 30, 30⟩
/-- MEM_UE_INFO.INJ [29], RO. -/
def MEM_UE_INFO_INJ : Fld := ⟨0x40060058, 29, 29⟩
/-- MEM_UE_INFO.POISON [28], RO. -/
def MEM_UE_INFO_POISON : Fld := ⟨0x40060058, 28, 28⟩
/-- MEM_UE_INFO.MEM [27], RO. -/
def MEM_UE_INFO_MEM : Fld := ⟨0x40060058, 27, 27⟩
/-- MEM_UE_INFO.CLIENT [26:24], RO. -/
def MEM_UE_INFO_CLIENT : Fld := ⟨0x40060058, 26, 24⟩
/-- MEM_UE_INFO.REGION [23:20], RO. -/
def MEM_UE_INFO_REGION : Fld := ⟨0x40060058, 23, 20⟩
/-- MEM_UE_INFO.NSYM [7:0], RO. -/
def MEM_UE_INFO_NSYM : Fld := ⟨0x40060058, 7, 0⟩
/-- Address of MEM_CE_ADDR_LO (R476). -/
def MEM_CE_ADDR_LO : Nat := 0x40060060
/-- MEM_CE_ADDR_LO.ADDR [31:0], RO. -/
def MEM_CE_ADDR_LO_ADDR : Fld := ⟨0x40060060, 31, 0⟩
/-- Address of MEM_CE_ADDR_HI (R476). -/
def MEM_CE_ADDR_HI : Nat := 0x40060064
/-- MEM_CE_ADDR_HI.ADDR [3:0], RO. -/
def MEM_CE_ADDR_HI_ADDR : Fld := ⟨0x40060064, 3, 0⟩
/-- Address of MEM_CE_INFO (R476). -/
def MEM_CE_INFO : Nat := 0x40060068
/-- MEM_CE_INFO.VALID [31], W1C. -/
def MEM_CE_INFO_VALID : Fld := ⟨0x40060068, 31, 31⟩
/-- MEM_CE_INFO.OVER [30], W1C. -/
def MEM_CE_INFO_OVER : Fld := ⟨0x40060068, 30, 30⟩
/-- MEM_CE_INFO.INJ [29], RO. -/
def MEM_CE_INFO_INJ : Fld := ⟨0x40060068, 29, 29⟩
/-- MEM_CE_INFO.POISON [28], RO. -/
def MEM_CE_INFO_POISON : Fld := ⟨0x40060068, 28, 28⟩
/-- MEM_CE_INFO.MEM [27], RO. -/
def MEM_CE_INFO_MEM : Fld := ⟨0x40060068, 27, 27⟩
/-- MEM_CE_INFO.CLIENT [26:24], RO. -/
def MEM_CE_INFO_CLIENT : Fld := ⟨0x40060068, 26, 24⟩
/-- MEM_CE_INFO.REGION [23:20], RO. -/
def MEM_CE_INFO_REGION : Fld := ⟨0x40060068, 23, 20⟩
/-- MEM_CE_INFO.NSYM [7:0], RO. -/
def MEM_CE_INFO_NSYM : Fld := ⟨0x40060068, 7, 0⟩
/-- Address of MEM_NW_ADDR (R476). -/
def MEM_NW_ADDR : Nat := 0x40060080
/-- MEM_NW_ADDR.PAGE [22:0], RW. -/
def MEM_NW_ADDR_PAGE : Fld := ⟨0x40060080, 22, 0⟩
/-- Address of MEM_NW_RES (R476). -/
def MEM_NW_RES : Nat := 0x40060084
/-- MEM_NW_RES.NW [0], RO. -/
def MEM_NW_RES_NW : Fld := ⟨0x40060084, 0, 0⟩
/-- Address of MEM_FMR_CTRL (R476). -/
def MEM_FMR_CTRL : Nat := 0x400600a0
/-- MEM_FMR_CTRL.ARM [31], RW. -/
def MEM_FMR_CTRL_ARM : Fld := ⟨0x400600a0, 31, 31⟩
/-- MEM_FMR_CTRL.ENB [30], RW. -/
def MEM_FMR_CTRL_ENB : Fld := ⟨0x400600a0, 30, 30⟩
/-- MEM_FMR_CTRL.ENA [29], RW. -/
def MEM_FMR_CTRL_ENA : Fld := ⟨0x400600a0, 29, 29⟩
/-- MEM_FMR_CTRL.MODE [28], RW. -/
def MEM_FMR_CTRL_MODE : Fld := ⟨0x400600a0, 28, 28⟩
/-- MEM_FMR_CTRL.MEM [24], RW. -/
def MEM_FMR_CTRL_MEM : Fld := ⟨0x400600a0, 24, 24⟩
/-- MEM_FMR_CTRL.NSYM [23:20], RW. -/
def MEM_FMR_CTRL_NSYM : Fld := ⟨0x400600a0, 23, 20⟩
/-- MEM_FMR_CTRL.BITB [19:10], RW. -/
def MEM_FMR_CTRL_BITB : Fld := ⟨0x400600a0, 19, 10⟩
/-- MEM_FMR_CTRL.BITA [9:0], RW. -/
def MEM_FMR_CTRL_BITA : Fld := ⟨0x400600a0, 9, 0⟩
/-- Address of MEM_FMR_ADDR_LO (R476). -/
def MEM_FMR_ADDR_LO : Nat := 0x400600a4
/-- MEM_FMR_ADDR_LO.ADDR [31:0], RW. -/
def MEM_FMR_ADDR_LO_ADDR : Fld := ⟨0x400600a4, 31, 0⟩
/-- Address of MEM_FMR_ADDR_HI (R476). -/
def MEM_FMR_ADDR_HI : Nat := 0x400600a8
/-- MEM_FMR_ADDR_HI.ADDR [3:0], RW. -/
def MEM_FMR_ADDR_HI_ADDR : Fld := ⟨0x400600a8, 3, 0⟩
/-- Address of MEM_FMR_LAST (R476). -/
def MEM_FMR_LAST : Nat := 0x400600ac
/-- MEM_FMR_LAST.ADDR [31:0], RO. -/
def MEM_FMR_LAST_ADDR : Fld := ⟨0x400600ac, 31, 0⟩
/-- Address of MEM_SRAM_CE (R476). -/
def MEM_SRAM_CE : Nat := 0x40060100
/-- MEM_SRAM_CE.COUNT [31:0], RO. -/
def MEM_SRAM_CE_COUNT : Fld := ⟨0x40060100, 31, 0⟩
/-- Address of MEM_SRAM_UE (R476). -/
def MEM_SRAM_UE : Nat := 0x40060104
/-- MEM_SRAM_UE.COUNT [31:0], RO. -/
def MEM_SRAM_UE_COUNT : Fld := ⟨0x40060104, 31, 0⟩
/-- Address of MEM_DRAM_CE (R476). -/
def MEM_DRAM_CE : Nat := 0x40060108
/-- MEM_DRAM_CE.COUNT [31:0], RO. -/
def MEM_DRAM_CE_COUNT : Fld := ⟨0x40060108, 31, 0⟩
/-- Address of MEM_DRAM_UE (R476). -/
def MEM_DRAM_UE : Nat := 0x4006010c
/-- MEM_DRAM_UE.COUNT [31:0], RO. -/
def MEM_DRAM_UE_COUNT : Fld := ⟨0x4006010c, 31, 0⟩
/-- Address of MEM_POISONRD (R476). -/
def MEM_POISONRD : Nat := 0x40060110
/-- MEM_POISONRD.COUNT [31:0], RO. -/
def MEM_POISONRD_COUNT : Fld := ⟨0x40060110, 31, 0⟩
/-- Address of MEM_NWREAD (R476). -/
def MEM_NWREAD : Nat := 0x40060114
/-- MEM_NWREAD.COUNT [31:0], RO. -/
def MEM_NWREAD_COUNT : Fld := ⟨0x40060114, 31, 0⟩
/-- Address of MEM_SCBCANCEL (R476). -/
def MEM_SCBCANCEL : Nat := 0x40060118
/-- MEM_SCBCANCEL.COUNT [31:0], RO. -/
def MEM_SCBCANCEL_COUNT : Fld := ⟨0x40060118, 31, 0⟩
/-- Address of MEM_DPASSES (R476). -/
def MEM_DPASSES : Nat := 0x4006011c
/-- MEM_DPASSES.COUNT [31:0], RO. -/
def MEM_DPASSES_COUNT : Fld := ⟨0x4006011c, 31, 0⟩
/-- Address of MEM_SPASSES (R476). -/
def MEM_SPASSES : Nat := 0x40060120
/-- MEM_SPASSES.COUNT [31:0], RO. -/
def MEM_SPASSES_COUNT : Fld := ⟨0x40060120, 31, 0⟩
/-- Address of MEM_RMTFULL (R476). -/
def MEM_RMTFULL : Nat := 0x40060124
/-- MEM_RMTFULL.COUNT [31:0], RO. -/
def MEM_RMTFULL_COUNT : Fld := ⟨0x40060124, 31, 0⟩
/-- Address of MEM_CNT_CLR (R476). -/
def MEM_CNT_CLR : Nat := 0x40060140
/-- MEM_CNT_CLR.ALL [0], WO. -/
def MEM_CNT_CLR_ALL : Fld := ⟨0x40060140, 0, 0⟩
/-- Address of MEM_RMT_D_n (R476). -/
def MEM_RMT_D_n (n : Nat) : Nat := 0x40060200 + 4 * n
/-- MEM_RMT_D_n.V [31], RW. -/
def MEM_RMT_D_n_V (n : Nat) : Fld := ⟨0x40060200 + 4 * n, 31, 31⟩
/-- MEM_RMT_D_n.BUSY [30], RO. -/
def MEM_RMT_D_n_BUSY (n : Nat) : Fld := ⟨0x40060200 + 4 * n, 30, 30⟩
/-- MEM_RMT_D_n.PAGE [22:0], RW. -/
def MEM_RMT_D_n_PAGE (n : Nat) : Fld := ⟨0x40060200 + 4 * n, 22, 0⟩
/-- Address of MEM_RMT_S_n (R476). -/
def MEM_RMT_S_n (n : Nat) : Nat := 0x40060300 + 4 * n
/-- MEM_RMT_S_n.V [31], RW. -/
def MEM_RMT_S_n_V (n : Nat) : Fld := ⟨0x40060300 + 4 * n, 31, 31⟩
/-- MEM_RMT_S_n.BUSY [30], RO. -/
def MEM_RMT_S_n_BUSY (n : Nat) : Fld := ⟨0x40060300 + 4 * n, 30, 30⟩
/-- MEM_RMT_S_n.ROW [14:0], RW. -/
def MEM_RMT_S_n_ROW (n : Nat) : Fld := ⟨0x40060300 + 4 * n, 14, 0⟩
/-- Address of EVR_LOCK (R517). -/
def EVR_LOCK : Nat := 0x40050004
/-- EVR_LOCK.LOCK [0], W1S. -/
def EVR_LOCK_LOCK : Fld := ⟨0x40050004, 0, 0⟩
/-- Address of EVR_CFG (R517). -/
def EVR_CFG : Nat := 0x40050008
/-- EVR_CFG.FRZ [31], RWO. -/
def EVR_CFG_FRZ : Fld := ⟨0x40050008, 31, 31⟩
/-- EVR_CFG.MIRSEV [9:8], RWO. -/
def EVR_CFG_MIRSEV : Fld := ⟨0x40050008, 9, 8⟩
/-- Address of EVR_STATUS (R517). -/
def EVR_STATUS : Nat := 0x4005000c
/-- EVR_STATUS.FROZEN [31], RO. -/
def EVR_STATUS_FROZEN : Fld := ⟨0x4005000c, 31, 31⟩
/-- EVR_STATUS.VALID [27:17], RO. -/
def EVR_STATUS_VALID : Fld := ⟨0x4005000c, 27, 17⟩
/-- EVR_STATUS.QUEUED [6:0], RO. -/
def EVR_STATUS_QUEUED : Fld := ⟨0x4005000c, 6, 0⟩
/-- Address of EVR_BOOT (R517). -/
def EVR_BOOT : Nat := 0x40050010
/-- EVR_BOOT.BOOT [31:0], RWL. -/
def EVR_BOOT_BOOT : Fld := ⟨0x40050010, 31, 0⟩
/-- Address of EVR_CTRL (R517). -/
def EVR_CTRL : Nat := 0x40050014
/-- EVR_CTRL.UNFREEZE [1], WO. -/
def EVR_CTRL_UNFREEZE : Fld := ⟨0x40050014, 1, 1⟩
/-- EVR_CTRL.CLEAR [0], WO. -/
def EVR_CTRL_CLEAR : Fld := ⟨0x40050014, 0, 0⟩
/-- Address of EVR_DROPQ (R517). -/
def EVR_DROPQ : Nat := 0x40050020
/-- EVR_DROPQ.COUNT [31:0], RO. -/
def EVR_DROPQ_COUNT : Fld := ⟨0x40050020, 31, 0⟩
/-- Address of EVR_DROPRING (R517). -/
def EVR_DROPRING : Nat := 0x40050024
/-- EVR_DROPRING.COUNT [31:0], RO. -/
def EVR_DROPRING_COUNT : Fld := ⟨0x40050024, 31, 0⟩
/-- Address of EVR_WRITTEN (R517). -/
def EVR_WRITTEN : Nat := 0x40050028
/-- EVR_WRITTEN.COUNT [31:0], RO. -/
def EVR_WRITTEN_COUNT : Fld := ⟨0x40050028, 31, 0⟩
/-- Address of EVR_CNT_CLR (R517). -/
def EVR_CNT_CLR : Nat := 0x4005002c
/-- EVR_CNT_CLR.ALL [0], WO. -/
def EVR_CNT_CLR_ALL : Fld := ⟨0x4005002c, 0, 0⟩
/-- Address of EVR_EVT_STAT (R517). -/
def EVR_EVT_STAT : Nat := 0x40050030
/-- EVR_EVT_STAT.FROZE [1], W1C. -/
def EVR_EVT_STAT_FROZE : Fld := ⟨0x40050030, 1, 1⟩
/-- EVR_EVT_STAT.FATAL [0], W1C. -/
def EVR_EVT_STAT_FATAL : Fld := ⟨0x40050030, 0, 0⟩
/-- Address of EVR_EVT_EN (R517). -/
def EVR_EVT_EN : Nat := 0x40050034
/-- EVR_EVT_EN.EN [1:0], RW. -/
def EVR_EVT_EN_EN : Fld := ⟨0x40050034, 1, 0⟩
/-- Address of EVR_POST_Dn (R517). -/
def EVR_POST_Dn (n : Nat) : Nat := 0x40050040 + 4 * n
/-- EVR_POST_Dn.DATA [31:0], RW. -/
def EVR_POST_Dn_DATA (n : Nat) : Fld := ⟨0x40050040 + 4 * n, 31, 0⟩
/-- Address of EVR_POST_CTRL (R517). -/
def EVR_POST_CTRL : Nat := 0x40050058
/-- EVR_POST_CTRL.CODE [31:16], WO. -/
def EVR_POST_CTRL_CODE : Fld := ⟨0x40050058, 31, 16⟩
/-- EVR_POST_CTRL.CLASSV [4], WO. -/
def EVR_POST_CTRL_CLASSV : Fld := ⟨0x40050058, 4, 4⟩
/-- EVR_POST_CTRL.CLASS [3:2], WO. -/
def EVR_POST_CTRL_CLASS : Fld := ⟨0x40050058, 3, 2⟩
/-- EVR_POST_CTRL.SEV [1:0], WO. -/
def EVR_POST_CTRL_SEV : Fld := ⟨0x40050058, 1, 0⟩
/-- Address of EVR_LINE_n (R517). -/
def EVR_LINE_n (n : Nat) : Nat := 0x40050100 + 4 * n
/-- EVR_LINE_n.EN [7], RWO. -/
def EVR_LINE_n_EN (n : Nat) : Fld := ⟨0x40050100 + 4 * n, 7, 7⟩
/-- EVR_LINE_n.MINSEV [5:4], RWO. -/
def EVR_LINE_n_MINSEV (n : Nat) : Fld := ⟨0x40050100 + 4 * n, 5, 4⟩
/-- EVR_LINE_n.SNAP [3], RWO. -/
def EVR_LINE_n_SNAP (n : Nat) : Fld := ⟨0x40050100 + 4 * n, 3, 3⟩
/-- EVR_LINE_n.LIST [2:0], RWO. -/
def EVR_LINE_n_LIST (n : Nat) : Fld := ⟨0x40050100 + 4 * n, 2, 0⟩
/-- Address of EVR_LIST_n_i (R517). -/
def EVR_LIST_n_i (n i : Nat) : Nat := 0x40050400 + 0xc0 * n + 4 * i
/-- EVR_LIST_n_i.ADDR [31:0], RWO. -/
def EVR_LIST_n_i_ADDR (n i : Nat) : Fld := ⟨0x40050400 + 0xc0 * n + 4 * i, 31, 0⟩
/-- Address of VCH_LOCK (R551). -/
def VCH_LOCK : Nat := 0x40040004
/-- VCH_LOCK.LOCK [0], W1S. -/
def VCH_LOCK_LOCK : Fld := ⟨0x40040004, 0, 0⟩
/-- Address of VCH_CFG (R551). -/
def VCH_CFG : Nat := 0x40040008
/-- VCH_CFG.HEADEN [1], RWL. -/
def VCH_CFG_HEADEN : Fld := ⟨0x40040008, 1, 1⟩
/-- VCH_CFG.MASTER [0], RWL. -/
def VCH_CFG_MASTER : Fld := ⟨0x40040008, 0, 0⟩
/-- Address of VCH_STATUS (R551). -/
def VCH_STATUS : Nat := 0x4004000c
/-- VCH_STATUS.OVERFLOW [15], RO. -/
def VCH_STATUS_OVERFLOW : Fld := ⟨0x4004000c, 15, 15⟩
/-- VCH_STATUS.SYNC [14:12], RO. -/
def VCH_STATUS_SYNC : Fld := ⟨0x4004000c, 14, 12⟩
/-- VCH_STATUS.HEADLESS [9], RO. -/
def VCH_STATUS_HEADLESS : Fld := ⟨0x4004000c, 9, 9⟩
/-- VCH_STATUS.HEAD [8], RO. -/
def VCH_STATUS_HEAD : Fld := ⟨0x4004000c, 8, 8⟩
/-- VCH_STATUS.DNLINK [3], RO. -/
def VCH_STATUS_DNLINK : Fld := ⟨0x4004000c, 3, 3⟩
/-- VCH_STATUS.UPLINK [2], RO. -/
def VCH_STATUS_UPLINK : Fld := ⟨0x4004000c, 2, 2⟩
/-- VCH_STATUS.DNPRES [1], RO. -/
def VCH_STATUS_DNPRES : Fld := ⟨0x4004000c, 1, 1⟩
/-- VCH_STATUS.UPPRES [0], RO. -/
def VCH_STATUS_UPPRES : Fld := ⟨0x4004000c, 0, 0⟩
/-- Address of VCH_ADDR (R551). -/
def VCH_ADDR : Nat := 0x40040010
/-- VCH_ADDR.COUNT [22:16], RO. -/
def VCH_ADDR_COUNT : Fld := ⟨0x40040010, 22, 16⟩
/-- VCH_ADDR.ADDR [6:0], RO. -/
def VCH_ADDR_ADDR : Fld := ⟨0x40040010, 6, 0⟩
/-- Address of VCH_UPDLY (R551). -/
def VCH_UPDLY : Nat := 0x40040014
/-- VCH_UPDLY.DLY [19:0], RO. -/
def VCH_UPDLY_DLY : Fld := ⟨0x40040014, 19, 0⟩
/-- Address of VCH_ACCDLY (R551). -/
def VCH_ACCDLY : Nat := 0x40040018
/-- VCH_ACCDLY.DLY [23:0], RO. -/
def VCH_ACCDLY_DLY : Fld := ⟨0x40040018, 23, 0⟩
/-- Address of VCH_PERIOD (R551). -/
def VCH_PERIOD : Nat := 0x4004001c
/-- VCH_PERIOD.P [31:0], RO. -/
def VCH_PERIOD_P : Fld := ⟨0x4004001c, 31, 0⟩
/-- Address of VCH_CTRL (R551). -/
def VCH_CTRL : Nat := 0x40040020
/-- VCH_CTRL.ENUM [1], WO. -/
def VCH_CTRL_ENUM : Fld := ⟨0x40040020, 1, 1⟩
/-- VCH_CTRL.PROBE [0], WO. -/
def VCH_CTRL_PROBE : Fld := ⟨0x40040020, 0, 0⟩
/-- Address of VCH_TREF_MLO (R551). -/
def VCH_TREF_MLO : Nat := 0x40040028
/-- VCH_TREF_MLO.V [31:0], RO. -/
def VCH_TREF_MLO_V : Fld := ⟨0x40040028, 31, 0⟩
/-- Address of VCH_TREF_MHI (R551). -/
def VCH_TREF_MHI : Nat := 0x4004002c
/-- VCH_TREF_MHI.V [31:0], RO. -/
def VCH_TREF_MHI_V : Fld := ⟨0x4004002c, 31, 0⟩
/-- Address of VCH_TREF_TLO (R551). -/
def VCH_TREF_TLO : Nat := 0x40040030
/-- VCH_TREF_TLO.V [31:0], RO. -/
def VCH_TREF_TLO_V : Fld := ⟨0x40040030, 31, 0⟩
/-- Address of VCH_TREF_THI (R551). -/
def VCH_TREF_THI : Nat := 0x40040034
/-- VCH_TREF_THI.V [31:0], RO. -/
def VCH_TREF_THI_V : Fld := ⟨0x40040034, 31, 0⟩
/-- Address of VCH_TREF_OLO (R551). -/
def VCH_TREF_OLO : Nat := 0x40040038
/-- VCH_TREF_OLO.V [31:0], RO. -/
def VCH_TREF_OLO_V : Fld := ⟨0x40040038, 31, 0⟩
/-- Address of VCH_TREF_OHI (R551). -/
def VCH_TREF_OHI : Nat := 0x4004003c
/-- VCH_TREF_OHI.V [31:0], RO. -/
def VCH_TREF_OHI_V : Fld := ⟨0x4004003c, 31, 0⟩
/-- Address of VCH_EVT_STAT (R551). -/
def VCH_EVT_STAT : Nat := 0x40040040
/-- VCH_EVT_STAT.OVERFLOW [5], W1C. -/
def VCH_EVT_STAT_OVERFLOW : Fld := ⟨0x40040040, 5, 5⟩
/-- VCH_EVT_STAT.HOLD [4], W1C. -/
def VCH_EVT_STAT_HOLD : Fld := ⟨0x40040040, 4, 4⟩
/-- VCH_EVT_STAT.ENUM [3], W1C. -/
def VCH_EVT_STAT_ENUM : Fld := ⟨0x40040040, 3, 3⟩
/-- VCH_EVT_STAT.DETACH [2], W1C. -/
def VCH_EVT_STAT_DETACH : Fld := ⟨0x40040040, 2, 2⟩
/-- VCH_EVT_STAT.ATTACH [1], W1C. -/
def VCH_EVT_STAT_ATTACH : Fld := ⟨0x40040040, 1, 1⟩
/-- VCH_EVT_STAT.LINK [0], W1C. -/
def VCH_EVT_STAT_LINK : Fld := ⟨0x40040040, 0, 0⟩
/-- Address of VCH_EVT_EN (R551). -/
def VCH_EVT_EN : Nat := 0x40040044
/-- VCH_EVT_EN.EN [5:0], RW. -/
def VCH_EVT_EN_EN : Fld := ⟨0x40040044, 5, 0⟩
/-- Address of VCH_SYNCACC (R551). -/
def VCH_SYNCACC : Nat := 0x40040060
/-- VCH_SYNCACC.COUNT [31:0], RO. -/
def VCH_SYNCACC_COUNT : Fld := ⟨0x40040060, 31, 0⟩
/-- Address of VCH_SYNCREJ (R551). -/
def VCH_SYNCREJ : Nat := 0x40040064
/-- VCH_SYNCREJ.COUNT [31:0], RO. -/
def VCH_SYNCREJ_COUNT : Fld := ⟨0x40040064, 31, 0⟩
/-- Address of VCH_HOLDS (R551). -/
def VCH_HOLDS : Nat := 0x40040068
/-- VCH_HOLDS.COUNT [31:0], RO. -/
def VCH_HOLDS_COUNT : Fld := ⟨0x40040068, 31, 0⟩
/-- Address of VCH_CRCERR (R551). -/
def VCH_CRCERR : Nat := 0x4004006c
/-- VCH_CRCERR.COUNT [31:0], RO. -/
def VCH_CRCERR_COUNT : Fld := ⟨0x4004006c, 31, 0⟩
/-- Address of VCH_CODEERR (R551). -/
def VCH_CODEERR : Nat := 0x40040070
/-- VCH_CODEERR.COUNT [31:0], RO. -/
def VCH_CODEERR_COUNT : Fld := ⟨0x40040070, 31, 0⟩
/-- Address of VCH_ENUMS (R551). -/
def VCH_ENUMS : Nat := 0x40040074
/-- VCH_ENUMS.COUNT [31:0], RO. -/
def VCH_ENUMS_COUNT : Fld := ⟨0x40040074, 31, 0⟩
/-- Address of VCH_RXDROP (R551). -/
def VCH_RXDROP : Nat := 0x40040078
/-- VCH_RXDROP.COUNT [31:0], RO. -/
def VCH_RXDROP_COUNT : Fld := ⟨0x40040078, 31, 0⟩
/-- Address of VCH_REFUSED (R551). -/
def VCH_REFUSED : Nat := 0x4004007c
/-- VCH_REFUSED.COUNT [31:0], RO. -/
def VCH_REFUSED_COUNT : Fld := ⟨0x4004007c, 31, 0⟩
/-- Address of VCH_ATTACHES (R551). -/
def VCH_ATTACHES : Nat := 0x40040080
/-- VCH_ATTACHES.COUNT [31:0], RO. -/
def VCH_ATTACHES_COUNT : Fld := ⟨0x40040080, 31, 0⟩
/-- Address of VCH_CNT_CLR (R551). -/
def VCH_CNT_CLR : Nat := 0x40040090
/-- VCH_CNT_CLR.ALL [0], WO. -/
def VCH_CNT_CLR_ALL : Fld := ⟨0x40040090, 0, 0⟩
/-- Address of OWN_STATE (R551). -/
def OWN_STATE : Nat := 0x40030004
/-- OWN_STATE.GEN [31:16], RO. -/
def OWN_STATE_GEN : Fld := ⟨0x40030004, 31, 16⟩
/-- OWN_STATE.TARGET [10:8], RO. -/
def OWN_STATE_TARGET : Fld := ⟨0x40030004, 10, 8⟩
/-- OWN_STATE.STATE [5:4], RO. -/
def OWN_STATE_STATE : Fld := ⟨0x40030004, 5, 4⟩
/-- OWN_STATE.OWNER [2:0], RO. -/
def OWN_STATE_OWNER : Fld := ⟨0x40030004, 2, 0⟩
/-- Address of OWN_CFG (R551). -/
def OWN_CFG : Nat := 0x40030008
/-- OWN_CFG.SMBTMO [31:24], RWO. -/
def OWN_CFG_SMBTMO : Fld := ⟨0x40030008, 31, 24⟩
/-- OWN_CFG.HOTMO [15:8], RWO. -/
def OWN_CFG_HOTMO : Fld := ⟨0x40030008, 15, 8⟩
/-- OWN_CFG.GRACE [7:0], RWO. -/
def OWN_CFG_GRACE : Fld := ⟨0x40030008, 7, 0⟩
/-- Address of OWN_LEFT (R551). -/
def OWN_LEFT : Nat := 0x4003000c
/-- OWN_LEFT.MS [31:0], RO. -/
def OWN_LEFT_MS : Fld := ⟨0x4003000c, 31, 0⟩
/-- Address of OWN_EVT_STAT (R551). -/
def OWN_EVT_STAT : Nat := 0x40030010
/-- OWN_EVT_STAT.REFUSED [1], W1C. -/
def OWN_EVT_STAT_REFUSED : Fld := ⟨0x40030010, 1, 1⟩
/-- OWN_EVT_STAT.CHANGE [0], W1C. -/
def OWN_EVT_STAT_CHANGE : Fld := ⟨0x40030010, 0, 0⟩
/-- Address of OWN_EVT_EN (R551). -/
def OWN_EVT_EN : Nat := 0x40030014
/-- OWN_EVT_EN.EN [1:0], RW. -/
def OWN_EVT_EN_EN : Fld := ⟨0x40030014, 1, 0⟩
/-- Address of OWN_CHANGES (R551). -/
def OWN_CHANGES : Nat := 0x40030020
/-- OWN_CHANGES.COUNT [31:0], RO. -/
def OWN_CHANGES_COUNT : Fld := ⟨0x40030020, 31, 0⟩
/-- Address of OWN_REFUSED (R551). -/
def OWN_REFUSED : Nat := 0x40030024
/-- OWN_REFUSED.COUNT [31:0], RO. -/
def OWN_REFUSED_COUNT : Fld := ⟨0x40030024, 31, 0⟩
/-- Address of OWN_CNT_CLR (R551). -/
def OWN_CNT_CLR : Nat := 0x40030030
/-- OWN_CNT_CLR.ALL [0], WO. -/
def OWN_CNT_CLR_ALL : Fld := ⟨0x40030030, 0, 0⟩
/-- Address of PMU_BASIC (R578). -/
def PMU_BASIC : Nat := 0x40010000
/-- PMU_BASIC.KEEP [9], WO. -/
def PMU_BASIC_KEEP : Fld := ⟨0x40010000, 9, 9⟩
/-- PMU_BASIC.MODE [8], RO. -/
def PMU_BASIC_MODE : Fld := ⟨0x40010000, 8, 8⟩
/-- PMU_BASIC.PROFILE [7:4], RW. -/
def PMU_BASIC_PROFILE : Fld := ⟨0x40010000, 7, 4⟩
/-- PMU_BASIC.ENABLE [0], RW. -/
def PMU_BASIC_ENABLE : Fld := ⟨0x40010000, 0, 0⟩
/-- Address of PMU_SEQERR (R578). -/
def PMU_SEQERR : Nat := 0x40010008
/-- PMU_SEQERR.VDDM_LATE [8], W1C STK. -/
def PMU_SEQERR_VDDM_LATE : Fld := ⟨0x40010008, 8, 8⟩
/-- PMU_SEQERR.RAIL [5:0], W1C STK. -/
def PMU_SEQERR_RAIL : Fld := ⟨0x40010008, 5, 0⟩
/-- Address of PMU_PSTATE (R578). -/
def PMU_PSTATE : Nat := 0x4001000c
/-- PMU_PSTATE.VLOSS [12], RO. -/
def PMU_PSTATE_VLOSS : Fld := ⟨0x4001000c, 12, 12⟩
/-- PMU_PSTATE.PEAK [10:9], RO. -/
def PMU_PSTATE_PEAK : Fld := ⟨0x4001000c, 10, 9⟩
/-- PMU_PSTATE.THROT [8], RO. -/
def PMU_PSTATE_THROT : Fld := ⟨0x4001000c, 8, 8⟩
/-- PMU_PSTATE.EPS [6:4], RO. -/
def PMU_PSTATE_EPS : Fld := ⟨0x4001000c, 6, 4⟩
/-- PMU_PSTATE.REQ [2:0], RW. -/
def PMU_PSTATE_REQ : Fld := ⟨0x4001000c, 2, 0⟩
/-- Address of PMU_CAPS (R578). -/
def PMU_CAPS : Nat := 0x40010010
/-- PMU_CAPS.PCT [15:8], RO. -/
def PMU_CAPS_PCT : Fld := ⟨0x40010010, 15, 8⟩
/-- PMU_CAPS.WCAP [6:4], RO. -/
def PMU_CAPS_WCAP : Fld := ⟨0x40010010, 6, 4⟩
/-- PMU_CAPS.XCAP [2:0], RO. -/
def PMU_CAPS_XCAP : Fld := ⟨0x40010010, 2, 0⟩
/-- Address of PMU_POWER (R578). -/
def PMU_POWER : Nat := 0x40010014
/-- PMU_POWER.BKT [31:16], RO. -/
def PMU_POWER_BKT : Fld := ⟨0x40010014, 31, 16⟩
/-- PMU_POWER.P [15:0], RO. -/
def PMU_POWER_P : Fld := ⟨0x40010014, 15, 0⟩
/-- Address of PMU_PEAK0 (R578). -/
def PMU_PEAK0 : Nat := 0x40010018
/-- PMU_PEAK0.WINDOW [31:16], RW. -/
def PMU_PEAK0_WINDOW : Fld := ⟨0x40010018, 31, 16⟩
/-- PMU_PEAK0.PPEAK [15:8], RW. -/
def PMU_PEAK0_PPEAK : Fld := ⟨0x40010018, 15, 8⟩
/-- PMU_PEAK0.PSUS [7:0], RW. -/
def PMU_PEAK0_PSUS : Fld := ⟨0x40010018, 7, 0⟩
/-- Address of PMU_PEAK1 (R578). -/
def PMU_PEAK1 : Nat := 0x4001001c
/-- PMU_PEAK1.RECMIN [31:16], RW. -/
def PMU_PEAK1_RECMIN : Fld := ⟨0x4001001c, 31, 16⟩
/-- PMU_PEAK1.RPCT [15:8], RW. -/
def PMU_PEAK1_RPCT : Fld := ⟨0x4001001c, 15, 8⟩
/-- PMU_PEAK1.RWCAP [2:0], RW. -/
def PMU_PEAK1_RWCAP : Fld := ⟨0x4001001c, 2, 0⟩
/-- Address of PMU_THERM (R578). -/
def PMU_THERM : Nat := 0x40010020
/-- PMU_THERM.TREC [31:24], RW. -/
def PMU_THERM_TREC : Fld := ⟨0x40010020, 31, 24⟩
/-- PMU_THERM.TTHR [23:16], RW. -/
def PMU_THERM_TTHR : Fld := ⟨0x40010020, 23, 16⟩
/-- PMU_THERM.THYST [15:8], RW. -/
def PMU_THERM_THYST : Fld := ⟨0x40010020, 15, 8⟩
/-- Address of PMU_LIMIT (R578). -/
def PMU_LIMIT : Nat := 0x40010024
/-- PMU_LIMIT.PCTMAX [31:24], RWO. -/
def PMU_LIMIT_PCTMAX : Fld := ⟨0x40010024, 31, 24⟩
/-- PMU_LIMIT.WCAPMAX [22:20], RWO. -/
def PMU_LIMIT_WCAPMAX : Fld := ⟨0x40010024, 22, 20⟩
/-- PMU_LIMIT.NOPEAK [16], RWO. -/
def PMU_LIMIT_NOPEAK : Fld := ⟨0x40010024, 16, 16⟩
/-- Address of PMU_VMOT (R578). -/
def PMU_VMOT : Nat := 0x40010030
/-- PMU_VMOT.MV [15:0], RO. -/
def PMU_VMOT_MV : Fld := ⟨0x40010030, 15, 0⟩
/-- Address of PMU_VDDA (R578). -/
def PMU_VDDA : Nat := 0x40010034
/-- PMU_VDDA.MV [15:0], RO. -/
def PMU_VDDA_MV : Fld := ⟨0x40010034, 15, 0⟩
/-- Address of PMU_TCOMP (R578). -/
def PMU_TCOMP : Nat := 0x40010040
/-- PMU_TCOMP.VALID [31], RO. -/
def PMU_TCOMP_VALID : Fld := ⟨0x40010040, 31, 31⟩
/-- PMU_TCOMP.T [15:0], RO. -/
def PMU_TCOMP_T : Fld := ⟨0x40010040, 15, 0⟩
/-- Address of PMU_TDn (R578). -/
def PMU_TDn (n : Nat) : Nat := 0x40010044 + 4 * n
/-- PMU_TDn.VALID [31], RO. -/
def PMU_TDn_VALID (n : Nat) : Fld := ⟨0x40010044 + 4 * n, 31, 31⟩
/-- PMU_TDn.FAIL [30], RO. -/
def PMU_TDn_FAIL (n : Nat) : Fld := ⟨0x40010044 + 4 * n, 30, 30⟩
/-- PMU_TDn.T [15:0], RO. -/
def PMU_TDn_T (n : Nat) : Fld := ⟨0x40010044 + 4 * n, 15, 0⟩
/-- Address of PMU_TDIE_n (R578). -/
def PMU_TDIE_n (n : Nat) : Nat := 0x40010060 + 4 * n
/-- PMU_TDIE_n.VALID [31], RO. -/
def PMU_TDIE_n_VALID (n : Nat) : Fld := ⟨0x40010060 + 4 * n, 31, 31⟩
/-- PMU_TDIE_n.T [15:0], RO. -/
def PMU_TDIE_n_T (n : Nat) : Fld := ⟨0x40010060 + 4 * n, 15, 0⟩
/-- Address of PMU_EVT_STAT (R578). -/
def PMU_EVT_STAT : Nat := 0x40010080
/-- PMU_EVT_STAT.SEQERR [6], W1C. -/
def PMU_EVT_STAT_SEQERR : Fld := ⟨0x40010080, 6, 6⟩
/-- PMU_EVT_STAT.TDFAIL [5], W1C. -/
def PMU_EVT_STAT_TDFAIL : Fld := ⟨0x40010080, 5, 5⟩
/-- PMU_EVT_STAT.VLOSS [4], W1C. -/
def PMU_EVT_STAT_VLOSS : Fld := ⟨0x40010080, 4, 4⟩
/-- PMU_EVT_STAT.SHUTDOWN [3], W1C. -/
def PMU_EVT_STAT_SHUTDOWN : Fld := ⟨0x40010080, 3, 3⟩
/-- PMU_EVT_STAT.THROT [2], W1C. -/
def PMU_EVT_STAT_THROT : Fld := ⟨0x40010080, 2, 2⟩
/-- PMU_EVT_STAT.RECOV [1], W1C. -/
def PMU_EVT_STAT_RECOV : Fld := ⟨0x40010080, 1, 1⟩
/-- PMU_EVT_STAT.PEAK [0], W1C. -/
def PMU_EVT_STAT_PEAK : Fld := ⟨0x40010080, 0, 0⟩
/-- Address of PMU_EVT_EN (R578). -/
def PMU_EVT_EN : Nat := 0x40010084
/-- PMU_EVT_EN.EN [6:0], RW. -/
def PMU_EVT_EN_EN : Fld := ⟨0x40010084, 6, 0⟩
/-- Address of PMU_PEAKS (R578). -/
def PMU_PEAKS : Nat := 0x40010090
/-- PMU_PEAKS.COUNT [31:0], RO. -/
def PMU_PEAKS_COUNT : Fld := ⟨0x40010090, 31, 0⟩
/-- Address of PMU_RECOVS (R578). -/
def PMU_RECOVS : Nat := 0x40010094
/-- PMU_RECOVS.COUNT [31:0], RO. -/
def PMU_RECOVS_COUNT : Fld := ⟨0x40010094, 31, 0⟩
/-- Address of PMU_THROTS (R578). -/
def PMU_THROTS : Nat := 0x40010098
/-- PMU_THROTS.COUNT [31:0], RO. -/
def PMU_THROTS_COUNT : Fld := ⟨0x40010098, 31, 0⟩
/-- Address of PMU_VLOSSES (R578). -/
def PMU_VLOSSES : Nat := 0x4001009c
/-- PMU_VLOSSES.COUNT [31:0], RO. -/
def PMU_VLOSSES_COUNT : Fld := ⟨0x4001009c, 31, 0⟩
/-- Address of PMU_TDINV (R578). -/
def PMU_TDINV : Nat := 0x400100a0
/-- PMU_TDINV.COUNT [31:0], RO. -/
def PMU_TDINV_COUNT : Fld := ⟨0x400100a0, 31, 0⟩
/-- Address of PMU_RECOV_MS (R578). -/
def PMU_RECOV_MS : Nat := 0x400100a4
/-- PMU_RECOV_MS.COUNT [31:0], RO. -/
def PMU_RECOV_MS_COUNT : Fld := ⟨0x400100a4, 31, 0⟩
/-- Address of PMU_CNT_CLR (R578). -/
def PMU_CNT_CLR : Nat := 0x400100b0
/-- PMU_CNT_CLR.ALL [0], WO. -/
def PMU_CNT_CLR_ALL : Fld := ⟨0x400100b0, 0, 0⟩
/-- Address of OTP_STATUS (R602). -/
def OTP_STATUS : Nat := 0x40020004
/-- OTP_STATUS.CVALID [19:16], RO. -/
def OTP_STATUS_CVALID : Fld := ⟨0x40020004, 19, 16⟩
/-- OTP_STATUS.ACTIVE [13:12], RO. -/
def OTP_STATUS_ACTIVE : Fld := ⟨0x40020004, 13, 12⟩
/-- OTP_STATUS.DKEY [11:8], RO. -/
def OTP_STATUS_DKEY : Fld := ⟨0x40020004, 11, 8⟩
/-- OTP_STATUS.ROOT [7:4], RO. -/
def OTP_STATUS_ROOT : Fld := ⟨0x40020004, 7, 4⟩
/-- OTP_STATUS.DEBUG [0], RO. -/
def OTP_STATUS_DEBUG : Fld := ⟨0x40020004, 0, 0⟩
/-- Address of OTP_SVN (R602). -/
def OTP_SVN : Nat := 0x40020008
/-- OTP_SVN.DPI [24:16], RO. -/
def OTP_SVN_DPI : Fld := ⟨0x40020008, 24, 16⟩
/-- OTP_SVN.FW [8:0], RO. -/
def OTP_SVN_FW : Fld := ⟨0x40020008, 8, 0⟩
/-- Address of OTP_CREC_n (R602). -/
def OTP_CREC_n (n : Nat) : Nat := 0x40020100 + 4 * n
/-- OTP_CREC_n.DATA [31:0], RO. -/
def OTP_CREC_n_DATA (n : Nat) : Fld := ⟨0x40020100 + 4 * n, 31, 0⟩

end Sys2Proof.Machine.Reg
end

