-- ==== Sys2Proof/Machine/State.lean ====
section
/-!
DEFINITION. Sys2Proof/Machine/State.lean: the state of the MZ9400 as plain data. `regs` holds every register of the
internal register space (in the canonical form of Machine/Sparse.lean: a register that holds its reset value is not
listed); the other parts hold what the spec gives the machine beside its registers, block by block. `pending` is the
queue of waiting commands, first in, first out.
-/
namespace Sys2Proof.Machine

/-- Why the machine stops with a fault. No command of the table ends so: the type is empty of uses today and kept so
that the three outcomes of a step stay apart. -/
inductive Fault where
  /-- Raised by no command: every state of the model steps on. Safe: it is never produced. -/
  | none
  deriving DecidableEq, Repr

/-- Why a command is refused. -/
inductive Refusal where
  /-- Raised only by a dispatch arm of a command that has no meaning yet. Safe: nothing is claimed of it. -/
  | notModelled (mnemonic : String)
  deriving DecidableEq, Repr

/-! ### Event recorder (spec/16_event_recorder.md) -/

/-- Severities (spec/00_scope.md, R26), in rising order 0 to 3. -/
inductive Sev where
  | trace | notice | fault | fatal
  deriving DecidableEq, Repr

/-- Error classes (R27), encoded 0 CE, 1 DE, 2 UC, 3 FT (R505). -/
inductive ErrClass where
  | ce | de | uc | ft
  deriving DecidableEq, Repr

/-- An offer waiting in the EVR's queue (R498), with its sequence number (R500) and the fabric cycle of its cause. -/
structure Offer where
  seq : Nat
  stamp : Stamp
  line : Nat
  inst : Nat
  cause : Nat
  sev : Sev
  cls : Option ErrClass
  payload : List Byte
  cycle : Nat
  deriving DecidableEq, Repr

/-- A record as R505 lays it out. CRC and MARK are functions of the rest (R509). -/
structure EvRecord where
  offer : Offer
  list : Option Nat
  snap : List Word
  dropped : Nat
  snapDly : Nat
  deriving DecidableEq, Repr

/-- What a ring slot that is not as the SRAM fill left it holds (R509): a record as the EVR wrote it, 256 bytes that a clear or a write of
a master left there, or 256 bytes one word of which is poisoned (R466). -/
inductive EvSlot where
  | valid (r : EvRecord)
  | bytes (l : List Byte)
  | poisoned (l : List Byte)
  deriving DecidableEq, Repr

/-- The event recorder beside its registers: the offers of the command under way, not yet numbered (R500), SEQ of the last offer, the queue of up to 64 offers in SEQ order, the
ring (slot index to contents; an unlisted slot is empty), the last slot written, the DROPPED count of the next record,
the mirror on the medium and its loss count, and the log pages kept per controller (R514). -/
structure EvrSt where
  staged : List Offer
  seq : Nat
  queue : List Offer
  ring : List (Nat × EvSlot)
  lastSlot : Nat
  dropped : Nat
  mirror : List (Nat × EvRecord)
  mirrored : List Nat
  mirLast : Nat
  mirLost : Nat
  kept : Duo (Option (List Byte))
  deriving DecidableEq, Repr

/-! ### Angle time base (spec/02_angle_time_base.md) -/

/-- A pending correction of G (R52, R53): its amount in 2^-20 decks, and how far G has advanced since it arrived, in
2^-20 decks. -/
structure AtbCorr where
  amount : Int
  adv : Nat
  deriving DecidableEq, Repr

/-- What the ATB keeps of one lane: the head SVDn last reported (none since reset, R48), its cylinder, the last
decoded detection (index and instant in 2^-16 fabric cycles), rejections in a row (R55), pier boundaries of Ln passed
since the head change (R52), whether this span of Ln has had a detection (R74), and the
pier boundaries Ln has passed since reset. -/
structure AtbLane where
  head : Option Nat
  cyl : Nat
  lastDet : Option (Nat × Nat)
  rejRow : Nat
  bounds : Nat
  detInSpan : Bool
  spans : Nat
  deriving DecidableEq, Repr

/-- The contents that a trigger written in this cycle had before the first write (R71): ANGLE, CTRL, STATUS; `armed`: a write of
this cycle arms it. -/
structure TrigOld where
  lane : Nat
  i : Nat
  angle : Word
  ctrl : Word
  status : Word
  armed : Bool
  deriving DecidableEq, Repr

/-- The angle time base beside its registers. `g` is the linear position of G in 2^-20 decks and `rev` the revolutions
since reset, of which the revolution count of R11 and R63 is the low 32 bits; `gPrev` and `gCyc` are G before and after the advance of this cycle, and `lead` the lead of R66 at its end, in 2^-20
decks; `cross`: per lane (4 global) the advanced angle, in decks, at which the crossings of this cycle begin and end (R66); `corrs`
and `backlog` are the corrections still pending (R53); `wrapped`: the DECK field of G has wrapped and the span's end has not been
evaluated; `spanValid`: a valid residual arrived in this span; `goodSpans`, `holdSpans`: R57, R56; `moved`: a state transition has
been taken in this cycle, and `cand` the lanes that qualify for acquisition in it, each with the detection's instant, its index and
the interval from the one before (R56); `hit`: triggers whose crossing in this cycle has been handled (lane 5: VSYNC); `written`: the
triggers written in it (R71); `lateDue`: triggers that fire late since their arming (R67), with the cycle of arming. A trigger is
named by lane (0 to 3, or 4 for a global trigger) and index; `gpioPulse`: pins driven high by a trigger, with the
cycle in which the pulse began (R69); `spansG`: spans of G since reset. -/
structure AtbSt where
  g : Nat
  rev : Nat
  gPrev : Nat
  gCyc : Nat
  lead : Nat
  cross : List (Nat × Nat)
  corrs : List AtbCorr
  backlog : Int
  wrapped : Bool
  spanValid : Bool
  goodSpans : Nat
  holdSpans : Nat
  moved : Bool
  cand : List (Fin 4 × Nat × Nat × Nat)
  lanes : Quad AtbLane
  hit : List (Nat × Nat)
  written : List TrigOld
  lateDue : List (Nat × Nat × Nat)
  gpioPulse : List (Nat × Nat)
  spansG : Nat
  deriving DecidableEq, Repr

/-! ### Host ports, queues and commands (spec/03_host_queues.md, spec/04_ordering_and_errors.md) -/

/-- A completion status (R152): status code type, status code, DNR and More. -/
structure Status where
  sct : Nat
  sc : Nat
  dnr : Bool
  more : Bool
  deriving DecidableEq, Repr

/-- A range lock (R129): the LBAs [lo, hi) of a namespace, or the whole namespace. -/
structure Lock where
  nsid : Nat
  lo : Nat
  hi : Nat
  excl : Bool
  whole : Bool
  deriving DecidableEq, Repr

/-- A command context (R96 to R99): arrival number, controller, queue pair, media priority (R101), the entry, whether it
came tunnelled over SMBus; admission, the RLT entries it holds or has reserved, its locks and their grant; the zone whose
tail it wants, whether it holds the tail and whether the tail checks have passed (R135); its first LBA (an append's is
taken at the grant); whether execution has begun, its data is stored, its commit point is reached (R104); its media
operations not yet ended, the failure found so far and its first LBA; the outcome that waits to be posted, with completion dwords 0 and
1; the cycle of admission (R586), whether it waits for the dirty limit (R108); the deferred records created by writes it
covers (a Flush, R149); the linear angle of its first media operation (R481) and of its first Write inhibited outcome
(R330); the data pulled from the host, by blocks, and the payload lengths its compression gives (spec/13_compression.md); the next
record number at its admission (R149). -/
structure Ctx where
  arr : Nat
  ctrl : Fin 2
  sqid : Nat
  cqid : Nat
  prio : Nat
  sqe : Sqe
  smbus : Bool
  admitted : Bool
  rlt : Nat
  locks : List Lock
  granted : Bool
  zone : Option Nat
  tail : Bool
  tailDone : Bool
  slba : Nat
  started : Bool
  stored : Bool
  committed : Bool
  media : Nat
  bad : Option Status
  badLba : Nat
  status : Option Status
  dw0 : Nat
  dw1 : Nat
  admitCycle : Nat
  stallWc : Bool
  covered : List Nat
  readStart : Option (Nat × Nat)
  inhStart : Option Nat
  data : List (List Byte)
  pays : List (List Byte)
  deAt : Nat
  deriving DecidableEq, Repr

/-- An I/O or admin submission queue; `prio` is QPRIO (0 urgent, 1 high, 2 medium, 3 low). -/
structure Sq where
  ctrl : Fin 2
  qid : Nat
  size : Nat
  head : Nat
  tail : Nat
  cqid : Nat
  prio : Nat
  deriving DecidableEq, Repr

/-- A completion queue: head as the host's doorbell last set it, tail as posted, and the phase tag being written. -/
structure Cq where
  ctrl : Fin 2
  qid : Nat
  size : Nat
  head : Nat
  tail : Nat
  phase : Bool
  vector : Nat
  ien : Bool
  deriving DecidableEq, Repr

/-- An Error Information log entry (R151, R482): command, status, namespace, first LBA, vendor-specific SEQ. -/
structure ErrInfo where
  sqid : Nat
  cid : Nat
  status : Status
  nsid : Nat
  lba : Nat
  vendor : Nat
  deriving DecidableEq, Repr

/-- An NVMe controller: the CC and CSTS fields, queue attributes, INTMS; its features (Arbitration, temperature
thresholds by TMPSEL and THSEL, interrupt coalescing, vectors with CD = 1, Asynchronous Event Configuration, host
identifier, reservation notification mask); the queue counts granted (R92); asynchronous event requests outstanding (by
arrival number) and events waiting for one; unmasked vectors, pending vectors, and the unsignalled entries of coalesced
vectors with the cycle of the oldest; the Error Information log (newest first); changed namespaces and zones; whether a
controller reset waits for its commands to end (R141), whether a shutdown runs (1 normal, 2 abrupt); the queue of the fetch turn under way and its commands (R100); the reservation
notifications not yet read (type, namespace), oldest first. -/
structure Ctrl where
  en : Bool
  css : Nat
  mps : Nat
  ams : Nat
  shn : Nat
  iosqes : Nat
  iocqes : Nat
  rdy : Bool
  shst : Nat
  asqs : Nat
  acqs : Nat
  asq : Nat
  acq : Nat
  intms : Nat
  ab : Nat
  lpw : Nat
  mpw : Nat
  hpw : Nat
  tempThr : List (Nat × Nat)
  coalThr : Nat
  coalTime : Nat
  cdVectors : List Nat
  aec : Nat
  hostId : Nat
  resvMask : Nat
  nq : Option (Nat × Nat)
  aers : List Nat
  events : List (Nat × Nat)
  unmasked : List Nat
  pendVec : List Nat
  unsig : List (Nat × Nat × Nat)
  errLog : List ErrInfo
  chgNs : List Nat
  chgZones : List (Nat × Nat)
  resetWait : Bool
  turn : Option (Nat × Nat)
  round : List Nat
  credits : Nat × Nat × Nat
  resvLog : List (Nat × Nat)
  deriving DecidableEq, Repr

/-- A deferred error record (R144): `del` delivered and `att` attached at creation, per controller; `returned` by log page
0xC0 after delivery; `saved` in the system area (R146). -/
structure DeRec where
  seq : Nat
  stamp : Stamp
  slba : Nat
  nlb : Nat
  nsid : Nat
  arr : Nat
  ctrl : Nat
  sqid : Nat
  cid : Nat
  cause : Nat
  del : Duo Bool
  att : Duo Bool
  returned : Bool
  media : Nat
  act : Nat
  head : Nat
  saved : Bool
  deriving DecidableEq, Repr

/-- The configuration space of a function, beside HPXm_FUNC, and its MSI-X table (R84, R86, R111): the codes of Max_Payload_Size and
Max_Read_Request_Size (128 bytes times 2 to the code), the enables of ASPM L1 and of the L1.1 substate (R556), the header log of AER (the header of the first uncorrectable error since the host
cleared it), and the words of the table that are not 0, by word number; the masks stand in `Ctrl.unmasked`. -/
structure PcieCfg where
  mps : Nat
  mrrs : Nat
  l1 : Bool
  l11 : Bool
  aer : Option Nat
  table : List (Nat × Nat)
  deriving DecidableEq, Repr

/-- What the host side keeps for the subsystem: contexts, the next arrival number, queues, controllers; the shared features
(WCE, TLER and DULBE, Timestamp); the deferred error log (oldest first),
the next SEQ, OVERFLOW; whether fetch is stalled for contexts or completion room (R124) and whether admission is (R137);
the pieces of a firmware image received (offset and length in bytes); and the cycle of the last completion entry posted by each port (ACT_LEDm_N, R608). -/
structure HostSt where
  nextArr : Nat
  ctxs : List Ctx
  sqs : List Sq
  cqs : List Cq
  ctrls : Duo Ctrl
  wce : Bool
  tler : Nat
  dulbe : Bool
  timestamp : Option (Nat × Nat)
  de : List DeRec
  deSeq : Nat
  overflow : Bool
  stallCtx : Bool
  stallCq : Bool
  stallRlt : Bool
  stallArr : Nat
  cfg : Duo PcieCfg
  fwPieces : List (Nat × List Byte)
  lastPost : Duo (Option Nat)
  deriving DecidableEq, Repr

/-! ### What leaves the chip -/

/-- A Locking table row (R185, R186): the namespace and range of a key band, and its lock bits. -/
structure LockRow where
  nsid : Nat
  lo : Nat
  len : Nat
  rle : Bool
  wle : Bool
  rl : Bool
  wl : Bool
  deriving DecidableEq, Repr

/-- What a TCG method returns beside its status (R186): a Locking row, random bytes, or nothing that the specification states. -/
inductive TcgData where
  | row (r : LockRow)
  | bytes (l : List Byte)
  | nothing
  deriving DecidableEq, Repr

/-- What drives the spindle bridge (R400, R402): all FETs off; the sensing pulses of Detect; a six-step drive with its high-side, low-side and
floating phase (0 A, 1 B, 2 C), the duty of the high side where a rule gives it, and the current that ends an on-time early; the on-times of
the three phases in a PWM period, with that current; all low-side FETs on. -/
inductive Bridge where
  | off
  | sense (limit : Nat)
  | step (high low float : Nat) (duty : Option Int) (limit : Nat)
  | sine (a b c limit : Nat)
  | brake
  deriving DecidableEq, Repr

/-- An external output of the block, newest first in `State.out`: a preamp frame (R313), an element written to the medium (FMT, its
content by bytes, bit 0 first, the bits that left before a mask, and the instants of its transitions in 1/64 bit from its first bit:
R275, R277, R295), a completion queue entry written to
host memory (controller, queue, slot, phase, command, status, dwords 0 and 1; R104), an MSI-X message (R110), data
written to host memory for a command (arrival number, then bytes by offset), the VSYNC pulse (R73), a Viaduct frame
on the upstream or downstream port, a VSYNC on the downstream port, the status of a TCG method, an SMBus or MCTP response, an SPI flash store, the drive of a GPIO pin, the value a
register read returned to a master, an MSI-X or INTx level, the JTAG output, a new drive of the spindle bridge (R397, R400), and the voltage across the coil of an actuator in retract
(R424). -/
inductive Out where
  | paFrame (n : Fin 4) (frame : Nat)
  | element (n : Fin 4) (fmt idx : Nat) (content : List Byte) (sent : Nat) (edges : List Int) (laser : Option (Nat × Nat × Nat))
  | memsCmd (byte : Nat)
  | cqe (m : Fin 2) (cqid slot : Nat) (phase : Bool) (sqid sqhd cid : Nat) (st : Status) (dw0 dw1 : Nat)
  | msix (m : Fin 2) (vector addr data : Nat)
  | barRead (m : Fin 2) (off : Nat) (w : Word)
  | l1Request (m : Fin 2) (l11 : Bool)
  | configRead (m : Fin 2) (off : Nat) (w : Word)
  | hostData (arr : Nat) (bytes : List (Nat × Byte))
  | vsync
  | regRead (value : Word)
  | memRead (a : Nat) (bytes : List Byte)
  | chainUp (f : Frame)
  | chainDn (f : Frame)
  | chainEcho (cycle : Nat) (f : Frame)
  | vsyncDn
  | tcg (arr st : Nat) (data : TcgData)
  | mi (arr : Option Nat) (st : Nat) (bytes : List Byte)
  | tdo (value : Nat)
  | flashWrite (addr size : Nat)
  | bridge (b : Bridge)
  | retract (n : Fin 4) (mv : Int)
  deriving DecidableEq, Repr

/-! ### Trestle sequencers (spec/07_trestle_sequencer.md) -/

/-- Sequencer states (R222). -/
inductive TrsState where
  | off | idle | running | checked | held
  deriving DecidableEq, Repr

/-- The skip list of the track (R246): parity positions and defective sectors; `none` for DEFECT = 0xFFFF. -/
structure SkipList where
  pfirst : Nat
  plast : Nat
  defs : List Nat
  deriving DecidableEq, Repr

/-- A decoder result (spec/08_read_write_channel.md, R287, RWCn_RES). -/
structure RdResult where
  idx : Nat
  cause : Nat
  prov : Bool
  sm1 : Bool
  sm2 : Bool
  sm2ok : Bool
  redec : Bool
  slot : Option Nat
  e : Int
  iter : Nat
  tag : Nat
  deriving DecidableEq, Repr

/-- Sequencer TRSn: its state, its descriptor, the per-operation state of R223, the word issued and not yet released
(as a 144-bit number) or the address to issue next while Held, the gates of the last released word, the firing that
released or will release a WAIT 0x1 word (late or not) and its target angle, the gates (RG, WG, AG, PG) that take effect at the
target angles of launches still to come (R243), the pier boundary count of Ln at issue (WAIT 0x8), the result
last popped, the status bits of the current sector (R236, R247), whether a late write launch holds WG, AG and PG at 0
(R243), the stamps of acceptance and of the first gate (R251), the skip list, and the stamps that count towards R244
and R253. -/
structure TrsSt where
  st : TrsState
  op : OpDesc
  psec : Nat
  done : Nat
  page : Nat
  sang : Nat
  psec0 : Nat
  page0 : Nat
  cnt0 : Nat
  cnt1 : Nat
  flag0 : Bool
  flag1 : Bool
  code : Nat
  fail : Nat
  abortP : Bool
  noWrite : Bool
  pc : Nat
  stalled : Option Nat
  heldNext : Nat
  rg : Bool
  wg : Bool
  ag : Bool
  pg : Bool
  fired : Option Bool
  fireAt : Nat
  launch : List (Nat × Bool × Bool × Bool × Bool)
  issueSpans : Nat
  popped : Option RdResult
  syncFound : Bool
  syncMissed : Bool
  winClosed : Bool
  inhHit : Bool
  underrun : Bool
  acceptStamp : Stamp
  firstGate : Option Stamp
  skip : Option SkipList
  latewWin : List Stamp
  mchkWin : List Stamp
  deriving DecidableEq, Repr

/-- What TRSn reports to the MSC at a halt or a forced stop (R251). -/
structure TrsReport where
  lane : Fin 4
  op : OpDesc
  code : Nat
  done : Nat
  fail : Nat
  stamp : Stamp
  firstGate : Option Stamp
  psec : Nat
  sang : Nat
  customer : Bool
  deriving DecidableEq, Repr

/-- The control store (R225, R256, R258): words that differ from what an unloaded word holds, each as word + parity
times 2^144; the holding registers of the four writing masters (R257), by master number; the customer image that is loaded, and the
one that a Customer Microcode Load has checked and is loading (R262). -/
structure CsSt where
  words : List (Nat × Nat)
  hold : List (Nat × Nat)
  image : Option CsImage
  loading : Option CsImage
  deriving DecidableEq, Repr

/-! ### Media scheduler (spec/06_media_scheduler.md, spec/05_namespaces_zones_media_map.md R171 to R182) -/

/-- Availability states of an actuator (R177, R569). -/
inductive Avail where
  | available | degraded | out | parked
  deriving DecidableEq, Repr

/-- Why an actuator is Out (R571 restores every cause but the escape and the DPI). -/
inductive OutCause where
  | escape | machineChecks | overrun | overcurrent | fenced | dpi
  deriving DecidableEq, Repr

/-- A media operation as firmware posts it: the descriptor, whether it destages cached data, the arrival number of the
command it serves, the logical range it carries (namespace, first LBA, blocks), and the number of the last block store when
it was posted. -/
structure PostedOp where
  d : OpDesc
  destage : Bool
  cmd : Option Nat
  ext : Option (Nat × Nat × Nat)
  ver : Nat
  deriving DecidableEq, Repr

/-- An operation in a slot of the MSC (R194, R195): actuator, slot index, acceptance number, stamp of acceptance (for
its age), whether it came from a pair ring, for how many boundaries of G it has had no route (R216), and whether it has waited
for the partner's lease and for a free lease entry (R176). -/
structure MscOp where
  p : PostedOp
  act : Fin 4
  idx : Nat
  acc : Nat
  since : Stamp
  fromPair : Bool
  noRoute : Nat
  leaseWaited : Bool
  fullWaited : Bool
  deriving DecidableEq, Repr

/-- An operation committed on an actuator (R207), with its committed start as a linear position (R213), and whether its band's
lease was granted for it, so that its start does not renew that lease (R172). -/
structure Commit where
  op : MscOp
  start : Nat
  granted : Bool
  deriving DecidableEq, Repr

/-- A lease entry (R171): surface, band, holder, expiry as a linear position, and the fabric cycle of the grant. -/
structure Lease where
  surf : Nat
  band : Nat
  holder : Fin 4
  expiry : Nat
  got : Nat
  deriving DecidableEq, Repr

/-- An outcome record (R213). -/
structure OutcomeRec where
  slot : Nat
  code : Nat
  missed : Bool
  done : Nat
  fail : Nat
  stamp : Stamp
  deriving DecidableEq, Repr

/-- The media scheduler beside its registers: the intake rings (0 to 3 pinned, 4 and 5 the pairs), the slots, the move
list, the committed and the running operation of each actuator, the next acceptance number, the last committed
cylinder of each actuator, the leases, the bands whose lease ended and the span in which it did (R175), the
availability of the actuators with the stamp of the last escalation (R570) and the cause of Out, TRSn's reports not
yet processed, the outcome ring (newest last), the stage of each actuator's timeout (0 none, 1 abort pending set), the
stamps of forced stops, the spans each margin cap has been able to rise (R211), and the rings stalled with the actuator
that stalls each (R197). -/
structure MscSt where
  rings : List (List PostedOp)
  ops : List MscOp
  moveList : List MscOp
  commit : Quad (Option Commit)
  running : Quad (Option Commit)
  nextAcc : Nat
  lastCyl : Quad Nat
  leases : List Lease
  ended : List (Nat × Nat × Nat)
  avail : Quad Avail
  escStamp : Quad Stamp
  outCause : Quad (Option OutCause)
  restoreTries : Quad Nat
  trial : Quad (Option Stamp)
  reports : List TrsReport
  outcomes : List OutcomeRec
  tmoStage : Quad Nat
  forcedWin : Quad (List Stamp)
  vmotRise : Nat
  vddaRise : Nat
  stalls : List (Nat × Nat)
  deriving DecidableEq, Repr

/-! ### Read/write channels (spec/08_read_write_channel.md) -/

/-- A format element queued on RWCn (R238): FMT, DPATH, its length in bits, the staging page and the sector index
(DONE) of the word that queued it, the advance that has passed, in 2^-16 decks outside the servo window; the angle at which it may
begin when a launch is still to come (R243); of a Payload element its place in the order of results (R287) and the payload in the
lane buffer (R297); and the bits that had left when its sector was masked (R296). -/
structure Elem where
  fmt : Nat
  dpath : Nat
  bits : Nat
  page : Nat
  idx : Nat
  advance : Nat
  start : Option Nat
  seq : Nat
  data : Option (List Byte)
  cut : Option Nat
  deriving DecidableEq, Repr

/-- The sync search of the sector being read (R278 to R281): the position in bits from which marks are seen (none before the SM1
element begins), the offsets at which SM1 and SM2 were accepted, SM2OK and whether SM2 has been checked, whether the SM2 window has
closed, whether its Sync miss result has been placed, and the values read over the codeword at the position that E1 implies. -/
structure SyncSt where
  from' : Option Int
  sm1 : Option Int
  sm2 : Option Int
  sm2ok : Bool
  checked : Bool
  closed : Bool
  missPlaced : Bool
  vals : Samples
  deriving DecidableEq, Repr

/-- What a read element detects with (R283): the readers it uses, the delay of reader B in 1/16 bit, the weights, and the equaliser
taps of each reader. -/
structure Detector where
  useA : Bool
  useB : Bool
  dly : Int
  wa : Int
  wb : Int
  firA : List Int
  firB : List Int
  deriving DecidableEq, Repr

/-- A codeword in the input buffer or in a decoder unit (R285), with the sync data its result will carry; `exp` is the
expected tag a sample slot kept (R289), `ldpc` the word of RWCn_LDPC and `iter` the value of RWCn_OP_ITER that apply to it
(R298), `sound` whether the code RAM and the sub-record let its sector decode (R301, R304), `seq` its place in the order of results
(R287), and `vals` the detector's input over its bits (R283). -/
structure Codeword where
  idx : Nat
  page : Nat
  dpath : Nat
  fmt : Nat
  sync : SyncSt
  slot : Option Nat
  redec : Bool
  exp : Option Nat
  ldpc : Word
  iter : Nat
  sound : Bool
  seq : Nat
  vals : List (Nat × Int)
  deriving DecidableEq, Repr

/-- A sample slot in use (R289): the sector's page, DPATH, index and sync data, its expected tag, and the interpolated values of both
readers over the codeword, 4 bits before it and 4 bits after it. -/
structure SampleSlot where
  page : Nat
  dpath : Nat
  idx : Nat
  sync : SyncSt
  exp : Nat
  vals : Samples
  deriving DecidableEq, Repr

/-- The registers of RWCn that apply to a sector (R298), as they stood when its first element began: RWCn_TLOOP, RWCn_SYNC,
RWCn_OP_WIN, RWCn_SVWIN, RWCn_LDPC, RWCn_ADAPT and RWCn_OP_PAR; RWCn_OP_ITER as it stood when the Payload element began; and whether
the code RAM met R310 then (R304). -/
structure SectCfg where
  tloop : Word
  sync : Word
  win : Word
  svwin : Word
  ldpc : Word
  adapt : Word
  par : Word
  iter : Option Nat
  sound : Bool
  deriving DecidableEq, Repr

/-- Read/write channel RWCn beside its registers: the element queue, the bit period T_b with 16 fraction bits (R268), the
sync search, the input buffer of two codewords, the three decoder units, the result queue of four and the results
held behind it, the result last popped, the sample slots and the slot taken last, the track-parity accumulator
(R293), the write mask of R296 and R297 and whether the sector under way has counted in RWCn_INHHIT, whether the lane is inside its
servo window, the six adapted values (GAIN_A, GAIN_B, OFF_A, OFF_B, ASYM_A, ASYM_B: R284), in 2^-16, and those at the end of the last
sector read, the correction of the timing loop and its integral (R270), in 2^-16 bit, the level of the bits written last and how long it has lasted
(counted to 3, R295), the payload written last, the place of the next Payload element in the
order of results, those whose result is still owed, in that order, and the results ready before their turn (R287), the stamps that count towards
R288 and R297, the registers that apply to the sector under way, and the head sub-record read at acceptance (R301; empty where it
lay outside the tables region). -/
structure RwcSt where
  elems : List Elem
  tb : Nat
  sync : Option SyncSt
  inbuf : List Codeword
  units : List Codeword
  results : List RdResult
  held : List RdResult
  slots : List (Nat × SampleSlot)
  lastSlot : Nat
  parity : List (Nat × Byte)
  wmask : Bool
  inhCounted : Bool
  svw : Bool
  adapt : List Int
  phi : Int
  phiInt : Int
  wtail : Bool × Nat
  lastPay : List Byte
  nextSeq : Nat
  owed : List Nat
  ready : List (Nat × RdResult)
  underrunSt : Bool
  overWin : List Stamp
  underWin : List Stamp
  adout : List Int
  sect : Option SectCfg
  head : List Byte
  deriving DecidableEq, Repr

/-! ### Preamp ports, assist timing and shock inputs (spec/09_assist_and_preamp.md) -/

/-- Why a preamp command was queued on PAn: a microword's PREAMP field (R240), or the head-select frame of a seek
(R341) with the head it selects. -/
inductive PaOrigin where
  | trs
  | headSelect (head : Nat)
  deriving DecidableEq, Repr

/-- A command-table entry queued on PAn (R315), and who queued it. -/
structure PaCmd where
  entry : Nat
  origin : PaOrigin
  deriving DecidableEq, Repr

/-- Port PAn and AST lane n beside their registers: the queue of at most 4 commands, the frame being sent, the
frames sent with the 16 data bits each write frame carried (newest first), the filtered fault line (R327), good
samples in a row towards clearing the PES source (R322), since which fabric cycle the write inhibit has been active
(R328), whether the assist source holds until TRSn halts and whether the laser is held Off with it (R319), the pulse
window and the edges that AST_LDLY still holds back (the level of the window, and the advance of Ln still to come in 2^-20 deck;
R318), since where of Ln, counted in decks over its spans, the laser has been in Write (R319), the last valid temperature of each sensor
(R317, in 1/16 degree; sensor 4 is the composite), the stamps of the events that still count towards R327 and
R319, and the write power that was last asked for, before LMAX limits it (R331). -/
structure PaSt where
  queue : List PaCmd
  flight : Option (PaCmd × Nat)
  faultLine : Bool
  good : Nat
  inhSince : Option Nat
  astHeld : Bool
  window : Bool
  edges : List (Bool × Nat)
  writeSince : Option Nat
  faultWin : List Stamp
  astWin : List Stamp
  lwrNeed : Nat
  deriving DecidableEq, Repr

/-- PIF beside its registers: since which span count of G each input has been active (linear, rotational, MEMS), since
when no unmasked input has been active (the HOLD time of R323), MEMS reads in a row with constant bytes (R325), the span count of
G at the last MEMS read (R324), and the last valid temperature readings TD0 to TD3 and the composite in 1/16 degree (R317). -/
structure PifSt where
  linSince : Option Nat
  rotSince : Option Nat
  memsSince : Option Nat
  quietSince : Option Nat
  constReads : Nat
  memsAt : Nat
  lastTemp : List (Nat × Int)
  deriving DecidableEq, Repr

/-- Health counters of one head (R331, R332), kept on the medium: they survive every reset and are cleared by a DPI
load. -/
structure HeadHealth where
  lwr : Nat
  sectRd : Nat
  sectWr : Nat
  ldpcFail : Nat
  syncMiss : Nat
  redecOk : Nat
  realloc : Nat
  wfault : Nat
  inhHit : Nat
  retWrite : Bool
  retRead : Bool
  deriving DecidableEq, Repr

/-! ### Namespaces, zones, blocks and keys (spec/05_namespaces_zones_media_map.md, spec/13_compression.md) -/

/-- Namespace kinds (R156). -/
inductive NsKind where
  | conventional | zoned | compressed
  deriving DecidableEq, Repr

/-- Zone states of the Zoned Namespace Command Set (R163, R164). -/
inductive ZoneState where
  | empty | implOpen | explOpen | closed | full | readOnly | offline
  deriving DecidableEq, Repr

/-- A completed block as the media map records it (R451, R452): its stream offset and stored size, its first LBA (relative to the
zone), the LBAs it covers, and whether it has FIRST = 1. -/
structure CxeMap where
  off : Nat
  size : Nat
  zlba : Nat
  nlb : Nat
  first : Bool
  deriving DecidableEq, Repr

/-- A command's end inside the open block (R440): its arrival number, the LBAs of the block up to it, and the bits of its tokens, none
when the payload up to it is not below NLB × 4,096 bytes. -/
structure CxeMark where
  arr : Nat
  m : Nat
  bits : Option Nat
  deriving DecidableEq, Repr

/-- The compression stream of a zone (R442, R446, R449): B, m, the payload the open block would have if it ended now (empty: not below
NLB × 4,096 bytes, so raw), the class of the open block (true: Streams), whether the next block must have FIRST = 1, completed, raw
and seal counts, whether a stream context is assigned, CFULL, the revolution of the last write, the stamp of the last update, and the
first LBA (relative to the zone) whose output lies in the open sector; the rest of the context: the history, the input of the open
block with the commands that end in it, and the open sector; the completed sectors of the stream in media form, by their ordinal, and
the completed blocks, first to last. -/
structure CompSt where
  b : Nat
  m : Nat
  pay : List Byte
  cls : Option Bool
  first : Bool
  blocks : Nat
  raws : Nat
  seals : Nat
  ctx : Bool
  cfull : Bool
  lastRev : Nat
  upd : Stamp
  openLo : Nat
  hist : List Byte
  inp : List Byte
  marks : List CxeMark
  osec : List Byte
  sect : List (Nat × List Byte)
  map : List CxeMap
  deriving DecidableEq, Repr

/-- A zone: state, write pointer and LBAs written (both relative to its start), the band and sub-band it is bound to, the
arrival number of the command that holds its tail, and its compression stream. -/
structure Zone where
  st : ZoneState
  wp : Nat
  written : Nat
  band : Option (Nat × Nat × Nat)
  comp : CompSt
  deriving DecidableEq, Repr

/-- A reservation (NVMe 2.0 Base): its type (0 none), the holder, the registrants (host, key) and the generation. -/
structure Resv where
  rtype : Nat
  holder : Option Nat
  regs : List (Nat × Nat)
  gen : Nat
  ptpl : Bool
  deriving DecidableEq, Repr

/-- A namespace (R156 to R159, R170): its zones (an unlisted zone is Empty and unbound), the full bands it reserves, the
controllers it is attached to, its reservation. -/
structure Ns where
  nsid : Nat
  kind : NsKind
  nsze : Nat
  ratio : Nat
  noParity : Bool
  bands : Nat
  att : Duo Bool
  zones : List (Nat × Zone)
  resv : Resv
  deriving DecidableEq, Repr

/-- A logical block that holds data: its 4,096 bytes in media form (R32), none in a compressed namespace, whose data is in the zone's
stream; whether it is dirty in the write cache
(R107), the latest write's arrival number, controller, queue and command identifier, whether it is write-failed (R143)
whether its sector is UNREC (R485), and the number of the
store that put it there (R133); while it is dirty, what the medium holds in its place; the surface and the band that hold what is on
the medium (R179, R182); and whether what is not yet on the medium is in SRAM staging, not in the DRAM cache region (R33). A block not
listed is never written or deallocated. -/
structure Block where
  data : List Byte
  dirty : Bool
  arr : Nat
  ctrl : Nat
  sqid : Nat
  cid : Nat
  failed : Bool
  unrec : Bool
  seq : Nat
  med : Option (List Byte)
  place : Option (Nat × Nat)
  sram : Bool
  deriving DecidableEq, Repr

/-- A TCG session: the Security Provider (0 Admin, 1 Locking) and the authorities authenticated in it. -/
structure TcgSession where
  sp : Nat
  auths : List Nat
  deriving DecidableEq, Repr

/-- A key operation under way (R189). -/
structure XtsOp where
  op : Nat
  slot : Nat
  auth : Nat
  deriving DecidableEq, Repr

/-- A key kept in the system area, wrapped (R183): the key, and the credential that the wrapping key is derived from: the PIN of the
authority that owns the range, or its MSID credential (none). What the wrap holds is found only under that credential. -/
structure Kept where
  key : Nat
  cred : Option (List Byte)
  deriving DecidableEq, Repr

/-- The XTS and the TCG subset: the keys in the slots (an unlisted slot is empty), the credential digest, the operation
under way; the keys kept, wrapped, in the system area; the Locking rows (0 to 63 global ranges, 64 to 127 key bands), the PIN
and remaining tries of each authority, the session, and the TCG status that waits for Security Receive; dword 10 of the last Sanitize
(R119, log page 0x81). -/
structure XtsSt where
  keys : List (Nat × Nat)
  cred : List (Nat × Word)
  op : Option XtsOp
  wrapped : List (Nat × Kept)
  rows : List (Nat × LockRow)
  pins : List (Nat × List Byte)
  tries : List (Nat × Nat)
  session : Option TcgSession
  response : Option (Nat × TcgData)
  sanitize : Option Nat
  deriving DecidableEq, Repr

/-- A grown defect list entry (R485): surface, cylinder, sector; the spare it maps to (actuator, ordinal), or none for
UNREC; whether it is committed (R484); and the block (NSID, LBA) whose rewriting or erasure removes an UNREC entry (R488). -/
structure GrownEntry where
  surf : Nat
  cyl : Nat
  sect : Nat
  spare : Option (Nat × Nat)
  committed : Bool
  lba : Option (Nat × Nat)
  deriving DecidableEq, Repr

/-- A sector under recovery (R478, R484, R486, R254): the operation that carries it, whether that writes; the step (1 to 8 a read
recovery step, 0 a write retry, 16 the write of a spare, 17 a rewrite in another band, 18 an operation re-issued after a machine
check); the attempts made; the sector's index in the operation and its physical number; the linear position of the first media operation; the actuator
of the operation; the spare being written (actuator, ordinal); whether its outcome also serves the media scan (R494);
and in step 8 the reads of the parity group that have not ended and the XOR of the payloads that have been read (R479). -/
structure Ladder where
  p : PostedOp
  write : Bool
  step : Nat
  tries : Nat
  idx : Nat
  sect : Nat
  since : Nat
  bound : Nat
  win : Nat
  act : Fin 4
  spare : Option (Fin 4 × Nat)
  serves : Bool
  wait : Nat
  acc : List Byte
  deriving DecidableEq, Repr

/-- Media recovery and faults (spec/15_recovery_and_faults.md): the grown defect list, the next free spare of each pool and
the defective spares, ladders under way, sectors queued for the scan (R482), operations that wait for the write inhibit to
clear (R330); the fault depth and the cycle at which the handler started (R490), whether the handler's action is still
due; Fault Stop, with the stamp of entry; the fault area of the flash: the records of R512 and the dirty ranges (R491,
R568); what the system area holds that a start-up has still to read (R583 step 12): deferred error records, and remaps as
(DRAM, RMT entry, page or row). -/
structure RecSt where
  grown : List GrownEntry
  spareNext : Quad Nat
  spareBad : List (Nat × Nat)
  ladders : List Ladder
  scanQueue : List (Nat × Nat × Nat)
  scanPos : Nat × Nat × Nat
  inhibited : List PostedOp
  depth : Nat
  handlerAt : Nat
  stopped : Bool
  stopStamp : Stamp
  sysTry : Option Nat
  faultRecs : List EvRecord
  faultRanges : List (Nat × Nat × Nat)
  faultVer : Nat
  sysDe : List DeRec
  sysRmt : List (Bool × Nat × Nat)
  deriving DecidableEq, Repr

/-- The media side of the subsystem: namespaces in creation order, the half of the stack chosen at the last binding (R169),
the logical blocks (key nsid × 2^40 + LBA), the running totals of log page 0xC3 (R455) as (field offset, value), and the
zones whose contexts the two compressors hold (R442), the one used last first; the number of the last block store. -/
structure NsSt where
  list : List Ns
  lastHalf : Bool
  blocks : List (Nat × Block)
  cstats : List (Nat × Nat)
  cxeHeld : List (Nat × Nat)
  wseq : Nat
  deriving DecidableEq, Repr


/-! ### Servo control and the referee (spec/10_servo_control.md, spec/11_servo_redundancy.md) -/

/-- A servo field accepted and demodulated by SVDn, between the end of its SAM and its publication (R337, R338): the angle
theta of the bursts, |n| + |q|, the wedge index and whether both parity checks pass, the decoded cylinder, the pier whose
boundary of Ln is nearest, the number of the span that boundary begins, and the fabric cycle of the end of SAM. -/
structure SamData where
  theta : Nat
  amp : Nat
  idx : Nat
  idxOk : Bool
  cyl : Nat
  pier : Nat
  span : Nat
  cycle : Nat
  deriving DecidableEq, Repr

/-- The state of one engine (R347, R349, R350, R355, R367): position, velocity and bias estimates, the Settle integrator, the
two state words of each biquad (0 to 7 the VCM path, 8 to 11 the MA path), the hand-over offsets, the law, the injection
phase and the LFSR. -/
structure EngSt where
  x : Int
  v : Int
  b : Int
  integ : Int
  bq : List (Int × Int)
  mv : Int
  mm : Int
  law : Nat
  phase : Nat
  lfsr : Nat
  deriving DecidableEq, Repr

/-- An output record (R377): u_v and u_m as delivered, the raw outputs of the law before offset and injection, the
signature, the self-check flag, and the fabric cycles of the computation (R345). -/
structure EngOut where
  uv : Int
  um : Int
  rv : Int
  rm : Int
  sig : Word
  selfChk : Bool
  cyc : Nat
  deriving DecidableEq, Repr

/-- Re-synchronisation of an engine (R388): none, the parameter copy under way since a span of Ln, waiting for a commit to
copy the state. -/
inductive Resync where
  | none
  | copying (since : Nat)
  | waiting
  deriving DecidableEq, Repr

/-- Servo pair n beside its registers. SVDn: the field waiting to be published, the span of Ln of the last sample, consecutive valid samples with indices that
follow, consecutive invalid samples, the last index, whether a new head's first valid sample is awaited (R341), X of the sample
before and whether it was valid, the last sample (X, validity, PES not saturated). Laws: requests of SCEe_CTRL and of the
escalation, consumed at the next publish; whether a Ramp is a load; since when (a stamp in Ramp and Reduced, a span of Ln in Hold); the
target in use and the one delivered, and whether TRSn has halted since (R354); the target of the Reduced law; consecutive
samples towards Follow and towards the end of an unload; the shadow of the expert registers (R344), whether APPLY is due, and the expert registers of a
profile reload that waits for the next sample; u_v and u_m last committed and whether they were clamped; late (true) and on-time outputs of the last 64
samples, newest first; on-time outputs in a row and the request of two late ones; the engines; the sample in flight (its
pier), the outputs the engines have computed, the records delivered, whether it is committed, u_ref when it applies;
the hand-over under way (outgoing law; causes law change, parameters, switch-over). SRFn: SWAP and CORRUPT requests, whether the next sample is a held one (R384); commits still needed to end the
switch-over inhibit and the fabric cycle at which the request ends; the stamps of judgments and the re-synchronisation of
each engine, and its agreeing samples. Injection: samples done, the value. VCDn: the fabric cycle of the last bridge change,
whether an overcurrent holds it Off, a deferred condition already counted, spans of Ln of
recent trips, the stamps of the last late output and of the last late output, judgment or overcurrent trip, t_coil in 2^-40 °C (none from a reset to its first update), and the span of G in which the phase of a retract began (phase 0 none, 1 move, 2 park). SRFn: whether the
lease of R384 runs, and the fabric cycle of the last planned swap. -/
structure PairSt where
  sam : Option SamData
  pubSpan : Nat
  lockRun : Nat
  missRun : Nat
  lastIdx : Option Nat
  switched : Bool
  lastX : Int × Bool
  sampX : Int
  sampValid : Bool
  sampPes : Int
  loadReq : Bool
  unloadReq : Bool
  redReq : Bool
  resumeReq : Bool
  law : Nat
  rampIn : Bool
  since : Nat
  target : Option (Nat × Nat × Bool)
  pendTarget : Option (Nat × Nat × Bool)
  pendGo : Bool
  redTarget : Int
  followRun : Nat
  unloadRun : Nat
  shadow : List (Nat × Word)
  applyReq : Bool
  reload : List (Nat × Word)
  uv : Int
  um : Int
  clampV : Bool
  clampM : Bool
  lates : List Bool
  onTime : Nat
  lateReq : Bool
  eng : Duo EngSt
  flight : Option Nat
  outs : Duo EngOut
  recs : Duo (Option EngOut)
  committed : Bool
  uref : Option Int
  hand : Option (Nat × Bool × Bool × Bool)
  swapReq : Bool
  heldReq : Bool
  corrupt : Duo Bool
  swn : Option Nat
  relAt : Option Nat
  judged : Duo (List Stamp)
  resync : Duo Resync
  agree : Duo Nat
  injCount : Nat
  injVal : Int
  ff : Int
  changedAt : Nat
  ocOff : Bool
  deferred : Bool
  trips : List Nat
  lateAt : Option Stamp
  badAt : Option Stamp
  tcoil : Option Int
  retract : Nat
  retractAt : Nat
  leased : Bool
  swapAt : Nat
  deriving DecidableEq, Repr

/-- A capture unit beside its registers (R368): 0 idle, 1 armed and waiting for its trigger, 2 storing; samples still to
store before it stops, when that is fixed; samples skipped since the last stored one; the next index; the pair whose
injection ends with it. -/
structure CapSt where
  st : Nat
  left : Option Nat
  skip : Nat
  next : Nat
  injPair : Option (Fin 4)
  deriving DecidableEq, Repr

/-! ### Spindle motor control (spec/12_spindle_motor.md) -/

/-- The spindle motor controller beside its registers. Start and stop: whether a start is under way and its first span of G,
whether SPUN was offered, whether a STOP ramps the target down, whether a Short-brake stands between attempts, whether
Detect follows a failed catch; reverse crossings of the attempt, forward crossings in a row, the first span of open-loop,
the interval and the span at which it began, the span in which Align began, the fabric cycle in which Detect began, the span of the last accepted comparator
change. Drive: the drive step, the fabric cycle of the last crossing, the last six crossing intervals, the cycle at which
commutation is due; mθ, acc, m_A, the amplitude last applied, the cogging weight
and value, the speed error. Loop: the fraction of the target in 1/64, the learning window, loop runs with good and with bad
observer angle, clean loop runs towards withdrawing the write inhibit; trim_i and latches within the phase tolerance;
overcurrent trips (spans of G); the span in which Catch began, its forward crossings; the last 64
SPREF codes, the span of G of the last of them and the set-point kept while SPREF is open; the cycle of the last accepted VSYNC and the last interval; the
fabric cycle at which the chopper gate turned on; the observer's angle; the kind of the last crossing (0 to 5 in forward
order); the 16-pier block of G of the last loop run; the output last applied before a hand-over whose first run is to
come (R412); whether the isolation FET is on. -/
structure SmcSt where
  starting : Bool
  startSpan : Nat
  spun : Bool
  stopping : Bool
  between : Bool
  redetect : Bool
  revCount : Nat
  fwdRun : Nat
  olSpan : Nat
  olInt : Nat
  olAt : Nat
  alignAt : Nat
  detAt : Nat
  changeSpan : Nat
  step : Nat
  lastCross : Nat
  ints : List Nat
  commAt : Option Nat
  mTheta : Int
  acc : Int
  mA : Int
  amp : Int
  cogW : Nat
  cog : Int
  err : Int
  targetFrac : Int
  learn : List Nat
  obsGood : Nat
  obsBad : Nat
  clean : Nat
  trimI : Int
  syncRun : Nat
  trips : List Nat
  catchAt : Nat
  catchRun : Nat
  spref : List Nat
  sprefAt : Nat
  sprefKept : Nat
  vsyncAt : Option Nat
  vsyncP : Option Nat
  chopAt : Option Nat
  obsAngle : Nat
  lastKind : Option Nat
  loopBlock : Option Nat
  hoOut : Option Int
  iso : Bool
  deriving DecidableEq, Repr

/-! ### Memory protection (spec/14_memory_protection.md) -/

/-- MEM beside its registers: the DRAM pages (by index) written since the last fill, in rising order (R461; every other page
is never written); the poisoned SRAM words and DRAM lines, by address (R464); the words and lines altered by the flip mask, with
the bits or symbols altered (R473); the address of FMR_LAST; the redirections in force, as (first address, length, first
address of the spare) (R470: the SRAM spare array, outside the address map, stands at 2^40); the correctable errors reported
in this scrub pass by page or row (R471); the fabric cycles at which the scrub passes began, less the time in PS4 (R468), and
the cycle of entry to PS4. -/
structure MemSt where
  written : List Nat
  poison : List Nat
  flaws : List (Nat × Nat)
  fmrLast : Option Nat
  remap : List (Nat × Nat × Nat)
  ceCount : List (Nat × Nat)
  dStart : Nat
  sStart : Nat
  sleepAt : Nat
  deriving DecidableEq, Repr


/-! ### Ownership and the Viaduct chain (spec/17_viaduct_chain_and_ownership.md) -/

/-- The OWN beside its registers: the stored token (R544), the stamp of the last change, the fabric cycle at which the timer of
Handover or Suspended runs out, the last refusal (master, kind, opcode or TYPE, address; R546, R550), the BAR2 TOKEN registers
and the RESULT of each function's last BAR2 action (R552); and the cycle of the last change with the owner and the state before
the first change of that cycle, and the cycle and the target of a handover that ended by its timer or the loss of the owner (R548). -/
structure OwnSt where
  token : Nat
  prev : Option (Nat × Nat × Nat)
  lapsed : Option (Nat × Nat)
  since : Stamp
  due : Option Nat
  last : Nat × Nat × Nat × Nat
  barToken : Duo Nat
  barResult : Duo Nat
  deriving DecidableEq, Repr

/-- The VCH beside its registers: ACCIN (R528), the cycle at which an outstanding PROBE was sent, whether the downstream
neighbour's PROBE has been answered since its link came Up (R531), whether ENUM and ATTACH are due; t_last, the number of the
window awaited and the rejection run (R534); the detection cycles of pulses not yet forwarded (R532); the accepted pulse's own
stamp and whether a TIME may follow it (R537); the pulses emitted as master, and the TIME due; the raw TREF triple; the cycle since
which the upstream link has not been Up (R521) and that of the last periodic PROBE or of the link coming Up (R528). -/
structure ChainSt where
  accIn : Nat
  probeAt : Option Nat
  dnEchoed : Bool
  enumDue : Bool
  attachDue : Bool
  tLast : Nat
  winK : Nat
  rejRun : Nat
  fwd : List Nat
  ownVsync : Stamp
  timeOk : Bool
  emitted : Nat
  timeDue : Option (Stamp × Nat)
  tref : Nat × Nat × Nat
  downAt : Nat
  probedAt : Nat
  deriving DecidableEq, Repr

/-- The NVMe-MI endpoint (R539): its MCTP endpoint ID, the SMBus frequency code (1 100 kHz, 2 400 kHz), the transmission unit,
the cycle of the last MCTP message (R545). -/
structure MctpSt where
  eid : Nat
  freq : Nat
  mtu : Nat
  lastAt : Nat
  deriving DecidableEq, Repr
/-! ### Power, thermal limits and availability (spec/18_power_thermal_modes.md) -/

/-- The PMU and the firmware's power control beside the registers: the requests that wait for a transition (state, arrival
number of the Set Features), the state under way, the most recent operational state; the peak bucket in 0.2 ms (R559), ticks
since Recovery began; ticks in a row at the throttle temperature, below its release, at 125 degrees, and below release since
a thermal Fault Stop that a reset followed (none: starts are free, R566); ticks in a row with VMOT at 9.0 V or more,
the tick of a loss whose restart is to come and that of one after which the SMC has not reached Run yet (R568); the last four valid conversions of each diode and its invalid ones in
a row (R564); ticks since reset; RWCn_OVERRUN as last seen and the stamp of its last increase (R562); the actuator of each
pair chosen in PS1, the stamp of the last change and whether one is deferred (R558); DRAM in self-refresh and the
tick of the last request in PS4 (R557); whether a spin-up has failed and none is to start until a command needs the medium
(R556); the actuator loaded first in each pair after the spin-up (R585); the Mode Profile in force (R577); and, beside them, the
framing errors on UART_RX (R495). -/
structure PowSt where
  reqs : List (Nat × Option Nat)
  moving : Option Nat
  lastOp : Nat
  bucket : Nat
  recTicks : Nat
  hot : Nat
  cool : Nat
  fatal : Nat
  coolStart : Option Nat
  vmotRun : Nat
  lossTick : Option Nat
  lossAt : Option Nat
  diode : List (Nat × List Int)
  diodeBad : List (Nat × Nat)
  ticks : Nat
  overSeen : Quad (Nat × Stamp)
  choice : Duo (Option (Fin 4))
  choiceAt : Duo (Option Stamp)
  choiceDue : Duo Bool
  selfRef : Bool
  refTick : Nat
  spinFail : Bool
  firstAct : Duo (Option (Fin 4))
  mode : Nat
  uartErr : Nat
  deriving DecidableEq, Repr

/-! ### Start-up, OTP and flash (spec/19_startup_and_otp.md, spec/20_package_and_electrical.md) -/

/-- One copy of the settings record (R594): SEQ, the active firmware slot, the slot to activate at the next reset (1 or 2), the
active DPI slot (0 A, 1 B), the start-up count, the saved Mode Profile (R577). -/
structure Settings where
  seq : Nat
  fw : Nat
  fwNext : Nat
  dpi : Nat
  starts : Nat
  mode : Option Nat
  deriving DecidableEq, Repr

/-- A reset in force and what holds it: none, a rail ordering violation (R614), the clock monitor (R617). -/
inductive Held where
  | off | rails | clock
  deriving DecidableEq, Repr

/-- The OTP array (offset to byte; an unlisted byte is 0) and the generations 0 to 3 and DPI key slots 4 to 7 whose programming
failed (R593); the flash: two firmware slots, two DPI slots, the saved customer image, two copies of the settings record (none:
its CRC is wrong); a chip-wide reset that waits for the retracts, by its cause (R582); a reset held; the conditions that the
next start-up meets; the JTAG instruction and the boundary-scan register; the firmware image that runs. -/
structure BootSt where
  otp : List (Nat × Byte)
  otpBad : List Nat
  fw : Duo (Option FwImage)
  dpis : Duo (Option DpiImage)
  cust : Option CsImage
  settings : Duo (Option Settings)
  resetCause : Option Nat
  held : Held
  env : StartUp
  jtag : JtagIr
  bsr : Nat
  fwRun : Option FwImage
  deriving DecidableEq, Repr

/-! ### The state -/

/-- The state of the MZ9400. `cycle` counts fabric cycles since reset; `fresh` is the model's own counter of free values
consumed (Config.lean), not a register of the part; `regs` and `mem` (SRAM and DRAM) are sparse stores; `held`: the expert
register values written while their block's ENABLE is 0 (R25); `dpi` is the
Drive Parameter Image in force, when `dpiOn`; `acts` holds what each counter of an actuator record of log page 0xC2 (R332)
counts beyond its register: INH 0 to 8, PFAULTS, ALATE, AOVERON; `causes` are the cause bits that arose in this fabric cycle (register
and bit, R44); `out` is what has left the chip, newest first. -/
structure State where
  cycle : Nat
  fresh : Nat
  regs : List (Nat × Word)
  held : List (Nat × Word)
  mem : List (Nat × Byte)
  dpi : DpiImage
  dpiOn : Bool
  evr : EvrSt
  atb : AtbSt
  host : HostSt
  ns : NsSt
  xts : XtsSt
  msc : MscSt
  trs : Quad TrsSt
  cs : CsSt
  rwc : Quad RwcSt
  pa : Quad PaSt
  pif : PifSt
  pair : Quad PairSt
  cap : Duo CapSt
  smc : SmcSt
  pow : PowSt
  heads : List (Nat × HeadHealth)
  acts : Quad (List Int)
  recov : RecSt
  memp : MemSt
  own : OwnSt
  chain : ChainSt
  mctp : MctpSt
  boot : BootSt
  causes : List (Nat × Nat)
  out : List Out
  pending : List Instr
  deriving DecidableEq, Repr

/-- A controller after reset (R88, R100, R112, R118). -/
def Ctrl.reset : Ctrl :=
  { en := false, css := 0, mps := 0, ams := 0, shn := 0, iosqes := 0, iocqes := 0, rdy := false, shst := 0, asqs := 0,
    acqs := 0, asq := 0, acq := 0, intms := 0, ab := 3, lpw := 0, mpw := 0, hpw := 0, tempThr := [], coalThr := 0,
    coalTime := 0, cdVectors := [], aec := 0, hostId := 0, resvMask := 0, nq := none, aers := [], events := [],
    unmasked := [], pendVec := [], unsig := [], errLog := [], chgNs := [], chgZones := [], resetWait := false,
    turn := none, round := [], credits := (0, 0, 0), resvLog := [] }

/-- The configuration space and the MSI-X table of a function after reset, as PCI Express has them (R84, R86): Max_Payload_Size 128 bytes,
Max_Read_Request_Size 512 bytes, nothing logged; address and data of every vector 0 (PRESUMED, notes/assumptions/36.md). -/
def PcieCfg.reset : PcieCfg := ⟨0, 2, false, false, none, []⟩

/-- The host side after power-on reset (R105, R117, R125, R144). -/
def HostSt.reset : HostSt :=
  { nextArr := 1, ctxs := [], sqs := [], cqs := [], ctrls := Duo.all Ctrl.reset, wce := true, tler := 0,
    dulbe := false, timestamp := none, de := [], deSeq := 1, overflow := false, stallCtx := false,
    stallCq := false, stallRlt := false, stallArr := 0, cfg := Duo.all PcieCfg.reset, fwPieces := [], lastPost := Duo.all none }

/-- No key, no session (R189: after every reset every slot is empty). -/
def XtsSt.reset : XtsSt :=
  { keys := [], cred := [], op := none, wrapped := [], rows := [], pins := [], tries := [], session := none,
    response := none, sanitize := none }

/-- The event recorder after reset (R500, R502). -/
def EvrSt.reset : EvrSt :=
  { staged := [], seq := 0, queue := [], ring := [], lastSlot := 1023, dropped := 0, mirror := [], mirrored := [],
    mirLast := 16383, mirLost := 0, kept := Duo.all none }

/-- The angle time base after reset (R48, R63): state Free, G at 0:0. -/
def AtbSt.reset : AtbSt :=
  { g := 0, rev := 0, gPrev := 0, gCyc := 0, lead := 0, cross := List.replicate 5 (0, 0), corrs := [], backlog := 0,
    wrapped := false, spanValid := false, goodSpans := 0, holdSpans := 0, moved := false, cand := [],
    lanes := Quad.all ⟨none, 0, none, 0, 0, false, 0⟩, hit := [], written := [], lateDue := [], gpioPulse := [],
    spansG := 0 }

/-- The media scheduler after reset: nothing queued, every actuator Parked until it is loaded (R569). -/
def MscSt.reset : MscSt :=
  { rings := [[], [], [], [], [], []], ops := [], moveList := [], commit := Quad.all none, running := Quad.all none,
    nextAcc := 1, lastCyl := Quad.all 0, leases := [], ended := [], avail := Quad.all .parked,
    escStamp := Quad.all 0, outCause := Quad.all none, restoreTries := Quad.all 0, trial := Quad.all none,
    reports := [], outcomes := [], tmoStage := Quad.all 0, forcedWin := Quad.all [], vmotRise := 0, vddaRise := 0,
    stalls := [] }

/-- A descriptor of zeros. -/
def OpDesc.zero : OpDesc := ⟨0, 0, 0, 0, 0, 0, 0, 0, 0, 0, 0, 0, 0, 0, 0⟩

/-- A sequencer before the DPI enables it (R222). -/
def TrsSt.reset : TrsSt :=
  { st := .off, op := OpDesc.zero, psec := 0, done := 0, page := 0, sang := 0, psec0 := 0, page0 := 0, cnt0 := 0,
    cnt1 := 0, flag0 := false, flag1 := false, code := 0, fail := 0xFFFF, abortP := false, noWrite := false, pc := 0,
    stalled := none, heldNext := 0, rg := false, wg := false, ag := false, pg := false, fired := none,
    fireAt := 0, launch := [], issueSpans := 0, popped := none, syncFound := false, syncMissed := false, winClosed := false, inhHit := false,
    underrun := false, acceptStamp := 0, firstGate := none, skip := none, latewWin := [], mchkWin := [] }

/-- A read/write channel after reset. -/
def RwcSt.reset : RwcSt :=
  { elems := [], tb := 0, sync := none, inbuf := [], units := [], results := [], held := [], slots := [],
    lastSlot := 7, parity := [], wmask := false, inhCounted := false, svw := false, adapt := [0, 0, 0, 0, 0, 0], phi := 0,
    phiInt := 0, wtail := (false, 0), lastPay := [], nextSeq := 0, owed := [], ready := [], underrunSt := false,
    overWin := [], underWin := [], adout := [0, 0, 0, 0, 0, 0], sect := none, head := [] }

/-- A preamp port after reset. -/
def PaSt.reset : PaSt :=
  { queue := [], flight := none, faultLine := false, good := 0, inhSince := none, astHeld := false, window := false, edges := [],
    writeSince := none, faultWin := [], astWin := [], lwrNeed := 0 }

/-- An engine after reset. -/
def EngSt.reset : EngSt :=
  { x := 0, v := 0, b := 0, integ := 0, bq := List.replicate 12 (0, 0), mv := 0, mm := 0, law := 0, phase := 0,
    lfsr := 0x7FFF }

/-- A servo pair after reset (R346, R375): law Idle. -/
def PairSt.reset : PairSt :=
  { sam := none, pubSpan := 0, lockRun := 0, missRun := 0, lastIdx := none, switched := false, lastX := (0, false), sampX := 0,
    sampValid := false, sampPes := 0, loadReq := false, unloadReq := false, redReq := false, resumeReq := false,
    law := 0, rampIn := false, since := 0, target := none, pendTarget := none, pendGo := false, redTarget := 0,
    followRun := 0, unloadRun := 0, shadow := [], applyReq := false, reload := [], uv := 0, um := 0,
    clampV := false, clampM := false, lates := [], onTime := 0, lateReq := false, eng := Duo.all EngSt.reset,
    flight := none, outs := Duo.all ⟨0, 0, 0, 0, 0#32, false, 0⟩, recs := Duo.all none, committed := false, uref := none,
    hand := none, swapReq := false, heldReq := false, corrupt := Duo.all false, swn := none, relAt := none, judged := Duo.all [],
    resync := Duo.all .none, agree := Duo.all 0, injCount := 0, injVal := 0, ff := 0, changedAt := 0,
    ocOff := false, deferred := false, trips := [], lateAt := none, badAt := none, tcoil := none, retract := 0, retractAt := 0, leased := false,
    swapAt := 0 }

/-- A capture unit after reset. -/
def CapSt.reset : CapSt := ⟨0, none, 0, 0, none⟩

/-- The spindle motor controller after reset: Off. -/
def SmcSt.reset : SmcSt :=
  { starting := false, startSpan := 0, spun := false, stopping := false, between := false, redetect := false,
    revCount := 0, fwdRun := 0, olSpan := 0, olInt := 0, olAt := 0, alignAt := 0, detAt := 0, changeSpan := 0, step := 0,
    lastCross := 0, ints := [], commAt := none, mTheta := 0, acc := 0, mA := 0, amp := 0, cogW := 0,
    cog := 0, err := 0, targetFrac := 0, learn := [], obsGood := 0, obsBad := 0, clean := 0, trimI := 0, syncRun := 0,
    trips := [], catchAt := 0, catchRun := 0, spref := [], sprefAt := 0, sprefKept := 0, vsyncAt := none,
    vsyncP := none, chopAt := none, obsAngle := 0, lastKind := none,
    loopBlock := none, hoOut := none, iso := true }

/-- Power control after reset: PS0, the bucket full (R559). -/
def PowSt.reset : PowSt :=
  { reqs := [], moving := none, lastOp := 0, bucket := 10000, recTicks := 0, hot := 0, cool := 0, fatal := 0,
    coolStart := none, vmotRun := 0, lossTick := none, lossAt := none, diode := [], diodeBad := [], ticks := 0,
    overSeen := Quad.all (0, 0), choice := Duo.all none, choiceAt := Duo.all none, choiceDue := Duo.all false,
    selfRef := false, refTick := 0, spinFail := false, firstAct := Duo.all none, mode := 0, uartErr := 0 }

/-- No fault handled, no sector grown defective. -/
def RecSt.reset : RecSt :=
  { grown := [], spareNext := Quad.all 0, spareBad := [], ladders := [], scanQueue := [], scanPos := (0, 0, 0), inhibited := [], depth := 0,
    handlerAt := 0, stopped := false, stopStamp := 0, sysTry := none, faultRecs := [],
    faultRanges := [], faultVer := 0, sysDe := [], sysRmt := [] }

/-- No owner (R545). -/
def OwnSt.reset : OwnSt :=
  { token := 0, prev := none, lapsed := none, since := 0, due := none, last := (0, 0, 0, 0), barToken := Duo.all 0, barResult := Duo.all 0 }

/-- The chain port after reset: nothing enumerated, nothing received. -/
def ChainSt.reset : ChainSt :=
  { accIn := 0, probeAt := none, dnEchoed := false, enumDue := false, attachDue := false, tLast := 0, winK := 1, rejRun := 0,
    fwd := [], ownVsync := 0, timeOk := false, emitted := 0, timeDue := none, tref := (0, 0, 0),
    downAt := 0, probedAt := 0 }

/-- A blank part before its first start-up: OTP array and flash hold nothing (notes/assumptions/12.md). -/
def BootSt.reset : BootSt :=
  { otp := [], otpBad := [], fw := Duo.all none, dpis := Duo.all none, cust := none, settings := Duo.all none,
    resetCause := none, held := .off, env := ⟨0, true, 12000, []⟩, jtag := .idcode, bsr := 0, fwRun := none }

/-- The DPI before any is loaded: every byte 0 (R20). -/
def DpiImage.none : DpiImage := ⟨0, 0, 0, 0, 0, 0, false, [], false, []⟩

/-- The machine right after power-on reset, before the start-up sequence of R583 has run: every register at its reset
value (the fields that the DPI or the OTP array load hold 0, R20), memory with nothing listed, no command waiting. -/
def State.reset : State :=
  { cycle := 0, fresh := 0, regs := [], held := [], mem := [], dpi := DpiImage.none, dpiOn := false, evr := EvrSt.reset,
    atb := AtbSt.reset, host := HostSt.reset, ns := ⟨[], false, [], [], [], 0⟩, xts := XtsSt.reset, msc := MscSt.reset,
    trs := Quad.all TrsSt.reset, cs := ⟨[], [], none, none⟩, rwc := Quad.all RwcSt.reset, pa := Quad.all PaSt.reset,
    pif := ⟨none, none, none, none, 0, 0, []⟩, pair := Quad.all PairSt.reset,
    cap := Duo.all CapSt.reset, smc := SmcSt.reset, pow := PowSt.reset, heads := [], acts := Quad.all (List.replicate 12 0), recov := RecSt.reset,
    memp := ⟨[], [], [], none, [], [], 0, 0, 0⟩, own := OwnSt.reset, chain := ChainSt.reset, mctp := ⟨0, 1, 64, 0⟩, boot := BootSt.reset, causes := [], out := [], pending := [] }

end Sys2Proof.Machine
end

