-- ==== Sys2Proof/Machine/Ops.lean ====
section
/-!
DEFINITION. Sys2Proof/Machine/Ops.lean: the named operations on the state that every block shares: registers and their
fields, counters, memory bytes, angles and stamps, outputs, and the end of a command.
-/
namespace Sys2Proof.Machine

/-! ### Bytes -/

/-- A list of bytes cut or filled with zeros to a length. -/
def padTo (k : Nat) (l : List Byte) : List Byte := l.take k ++ List.replicate (k - l.length) 0#8

/-- The last k bytes of a list. -/
def lastBytes (k : Nat) (l : List Byte) : List Byte := l.drop (l.length - k)

/-! ### CRC-32C -/

/-- One bit of a reflected CRC-32C. -/
def crcStep (c : Nat) : Nat := if c % 2 = 1 then (c / 2) ^^^ 0x82F63B78 else c / 2

/-- One byte of a CRC-32C. -/
def crcByte (c : Nat) (b : Byte) : Nat :=
  crcStep (crcStep (crcStep (crcStep (crcStep (crcStep (crcStep (crcStep (c ^^^ b.toNat))))))))

/-- CRC-32C of bytes: polynomial 0x1EDC6F41, reflected, initial value and final XOR all ones. -/
def crc32c (l : List Byte) : Nat := l.foldl crcByte 0xFFFFFFFF ^^^ 0xFFFFFFFF

/-! ### Registers -/

/-- The word a register holds. -/
def State.rd (s : State) (a : Nat) : Word := regRead s.regs a

/-- The state with a register's word replaced. -/
def State.wr (s : State) (a : Nat) (w : Word) : State := { s with regs := regWrite s.regs a w }

/-- The value of a named field. -/
def State.fget (s : State) (f : Fld) : Nat := fldRead s.regs f

/-- The state with a named field replaced. -/
def State.fput (s : State) (f : Fld) (v : Nat) : State := { s with regs := fldWrite s.regs f v }

/-- Whether a one-bit field is 1. -/
def State.fbit (s : State) (f : Fld) : Bool := decide (s.fget f = 1)

/-- A saturating 32-bit counter plus k (R74 and its like). -/
def State.addc (s : State) (a k : Nat) : State :=
  s.wr a (BitVec.ofNat 32 (min ((s.rd a).toNat + k) 0xFFFFFFFF))

/-- A saturating 32-bit counter plus 1. -/
def State.bump (s : State) (a : Nat) : State := s.addc a 1

/-! ### Memory -/

/-- What a byte of memory that nothing has written reads as: 0, as the fills of R460 leave it. -/
def memDefault (_ : Nat) : Byte := 0#8

/-- The canonical form of memory: addresses strictly rise, and no byte is listed that an unlisted address reads as. -/
def Memory.wf (m : List (Nat × Byte)) : Bool := sparseWf memDefault m

/-- The place an access to an address goes to: its own, or the spare of a redirected page or row (R470). -/
def remapped : List (Nat × Nat × Nat) → Nat → Nat
  | [], a => a
  | (base, len, spare) :: t, a => if base ≤ a ∧ a < base + len then spare + (a - base) else remapped t a

/-- The byte at an address of SRAM or DRAM. -/
def State.memByte (s : State) (a : Nat) : Byte := sparseGet memDefault s.mem (remapped s.memp.remap a)

/-- The state with one byte of memory replaced. -/
def State.memPut (s : State) (a : Nat) (b : Byte) : State :=
  { s with mem := sparseSet memDefault s.mem (remapped s.memp.remap a) b }

/-- Memory with consecutive bytes from an address on replaced, each at its own place or its spare's. -/
def putBytes (remap : List (Nat × Nat × Nat)) (m : List (Nat × Byte)) (a : Nat) : List Byte → List (Nat × Byte)
  | [] => m
  | b :: t => putBytes remap (sparseSet memDefault m (remapped remap a) b) (a + 1) t

/-- The state with consecutive bytes of memory replaced. -/
def State.memPuts (s : State) (a : Nat) (l : List Byte) : State := { s with mem := putBytes s.memp.remap s.mem a l }

/-- The state with a range of memory holding 0. -/
def State.memClear (s : State) (a len : Nat) : State :=
  if s.memp.remap.isEmpty then
    { s with mem := s.mem.filter (fun kb => decide (kb.1 < a) || decide (a + len ≤ kb.1)) }
  else s.memPuts a (List.replicate len 0#8)

/-- The listed bytes of a range of memory, as offsets into it. -/
def State.memListed (s : State) (a len : Nat) : List (Nat × Byte) :=
  if s.memp.remap.isEmpty then
    s.mem.filterMap (fun kb => if a ≤ kb.1 ∧ kb.1 < a + len then some (kb.1 - a, kb.2) else none)
  else
    (List.range len).filterMap (fun i => if s.memByte (a + i) = 0#8 then none else some (i, s.memByte (a + i)))

/-- Whether an address is in DRAM (R42). -/
def inDram (a : Nat) : Bool := decide (0x800000000 ≤ a) && decide (a < 2 ^ 40)

/-- Whether an address lies in SRAM or DRAM (R40 to R42), which only the cores and permitted JTAG reach (R39); the control store
backing is not addressable there (R41). -/
def inMemory (a : Nat) : Bool :=
  (decide (0x10000000 ≤ a ∧ a < 0x11800000) && ! decide (0x11400000 ≤ a ∧ a < 0x11480000)) || inDram a

/-- The size of the unit that carries check bits: a 64-byte line of DRAM, an 8-byte word of SRAM (R462, R463). -/
def eccUnit (a : Nat) : Nat := if inDram a then 64 else 8

/-- A number put into a list in rising order without repeats. -/
def insertNat (k : Nat) : List Nat → List Nat
  | [] => [k]
  | j :: t => if k < j then k :: j :: t else if j = k then j :: t else j :: insertNat k t

/-- The flip mask applied to a write of `len` bytes at `a` (R473): armed, the first write that reaches the named line or word
alters it, disarms, and latches the address. A pair of equal bits inverts nothing. -/
def State.flipMask (s : State) (a len : Nat) : State :=
  let dram := s.fbit Reg.MEM_FMR_CTRL_MEM
  let u := if dram then 64 else 8
  let t := (s.fget Reg.MEM_FMR_ADDR_HI_ADDR * 2 ^ 32 + (s.rd Reg.MEM_FMR_ADDR_LO).toNat) / u * u
  if ¬ s.fbit Reg.MEM_FMR_CTRL_ARM ∨ a + len ≤ t ∨ t + u ≤ a then s
  else
    let ba := s.fget Reg.MEM_FMR_CTRL_BITA
    let bb := s.fget Reg.MEM_FMR_CTRL_BITB
    let ea := s.fbit Reg.MEM_FMR_CTRL_ENA
    let eb := s.fbit Reg.MEM_FMR_CTRL_ENB
    let k :=
      if dram ∧ s.fbit Reg.MEM_FMR_CTRL_MODE then max 1 (min 8 (s.fget Reg.MEM_FMR_CTRL_NSYM))
      else if ea ∧ eb then (if ba = bb then 0 else if dram ∧ ba / 16 = bb / 16 then 1 else 2)
      else if ea ∨ eb then 1 else 0
    let s := s.fput Reg.MEM_FMR_CTRL_ARM 0
    let s := s.wr Reg.MEM_FMR_LAST (BitVec.ofNat 32 (t / 16))
    { s with memp := { s.memp with
        fmrLast := some t,
        flaws := if k = 0 then s.memp.flaws else sparseInsert t k s.memp.flaws } }

/-- What MEM keeps of a write of `len` bytes at `a`: its DRAM pages are no longer never written (R461); a line or word it
covers whole loses its poison (R464) and its alteration (R473); then the flip mask applies. -/
def State.memTouch (s : State) (a len : Nat) : State :=
  let covered (x : Nat) : Bool := decide (a ≤ x) && decide (x + eccUnit x ≤ a + len)
  let pages := if inDram a then (List.range ((a + len - 1) / 4096 - a / 4096 + 1)).map (fun i => a / 4096 - 0x800000 + i)
    else []
  let s := { s with memp := { s.memp with
    written := pages.foldl (fun l p => insertNat p l) s.memp.written,
    poison := s.memp.poison.filter (fun x => ! covered x),
    flaws := s.memp.flaws.filter (fun x => ! covered x.1),
    fmrLast := s.memp.fmrLast.filter (fun x => ! covered x) } }
  s.flipMask a len

/-- A write of consecutive bytes by a master or a block. -/
def State.memStore (s : State) (a : Nat) (l : List Byte) : State := (s.memPuts a l).memTouch a l.length

/-- k bytes from an address, as a little-endian number. -/
def State.memLe (s : State) : Nat → Nat → Nat
  | 0, _ => 0
  | k + 1, a => (s.memByte a).toNat + 256 * s.memLe k (a + 1)

/-- k bytes of memory from an address. -/
def State.memBytes (s : State) : Nat → Nat → List Byte
  | 0, _ => []
  | k + 1, a => s.memByte a :: s.memBytes k (a + 1)

/-- Bytes of a number, least significant first. -/
def leBytes (x : Nat) : Nat → List Byte
  | 0 => []
  | k + 1 => BitVec.ofNat 8 x :: leBytes (x / 256) k

/-- The number that bytes spell, least significant first. -/
def leNat : List Byte → Nat
  | [] => 0
  | b :: t => b.toNat + 256 * leNat t

/-! ### Angles (R9 to R11, R63 to R65) -/

/-- PIERS. -/
def State.piers (s : State) : Nat := s.fget Reg.ATB_PIERS_COUNT

/-- The decks of a revolution (R63). An angle word is its own linear position: PIER × 2^22 + DECK. -/
def revLen (p : Nat) : Nat := p * 2 ^ 22

/-- An angle moved forward by d decks. -/
def angleAdd (p a d : Nat) : Nat := (a + d) % revLen p

/-- An angle moved by a signed number of decks. -/
def angleAddInt (p a : Nat) (d : Int) : Nat := (((a : Int) + d) % (revLen p : Int)).toNat

/-- The forward distance from a to b (R63). -/
def angleFwd (p a b : Nat) : Nat := (b % revLen p + revLen p - a % revLen p) % revLen p

/-- The signed difference from a to b (R63). -/
def angleSdiff (p a b : Nat) : Int :=
  let f := angleFwd p a b
  if f < revLen p / 2 then (f : Int) else (f : Int) - (revLen p : Int)

/-- G, as an angle word. -/
def State.angleG (s : State) : Nat := s.atb.g / 2 ^ 20

/-- The Rev-Angle Stamp of G (R11); what shows it takes its low 64 bits, so that windows of stamps are not cut by the wrap of the
revolution count. -/
def State.stamp (s : State) : Stamp := s.atb.rev * 2 ^ 32 + s.angleG

/-- A window of k revolutions, as a difference of stamps. -/
def State.revs (_ : State) (k : Nat) : Nat := k * 2 ^ 32

/-- A stamp as a 64-bit linear position (R171). -/
def State.linOf (s : State) (t : Stamp) : Nat := t / 2 ^ 32 * revLen s.piers + t % 2 ^ 32

/-- The linear position of G. -/
def State.linStamp (s : State) : Nat := s.atb.rev * revLen s.piers + s.angleG

/-- The angle word of lane n: G plus OFFn (R47). -/
def State.laneAngle (s : State) (n : Fin 4) : Nat :=
  angleAdd s.piers s.angleG (s.rd (Reg.ATB_LOFFn n)).toNat

/-! ### Outputs, free values, windows -/

/-- Something leaves the chip. -/
def State.emit (s : State) (o : Out) : State := { s with out := o :: s.out }

/-- Whether every byte of a list is 0. -/
def allZero (l : List Byte) : Bool := l.all (fun b => decide (b = 0#8))

/-- An escalation count (R635): the events at `l`, a new one at `now`; with n of them in the window the escalation acts
and all of them stop counting. -/
def escalate (l : List Nat) (now window n : Nat) : Bool × List Nat :=
  let l' := now :: l.filter (fun t => decide (now ≤ t + window))
  if n ≤ l'.length then (true, []) else (false, l')

/-- Every actuator number. -/
def lanes : List (Fin 4) := [0, 1, 2, 3]

/-- The partner of an actuator: the one whose heads reach the same surfaces (R5). -/
def partner (n : Fin 4) : Fin 4 :=
  match n with
  | 0 => 2
  | 1 => 3
  | 2 => 0
  | 3 => 1

/-- The head of actuator n on a surface (R4). -/
def laneHead (n : Fin 4) (surf : Nat) : Nat := 20 * (n.val / 2) + surf

/-- The actuator of a head (R4). -/
def headLane (h : Nat) : Fin 4 :=
  if h / 20 % 2 = 0 then (if h % 20 < 10 then 0 else 1) else (if h % 20 < 10 then 2 else 3)

/-- A state change of TRSn. -/
def State.modTrs (s : State) (n : Fin 4) (f : TrsSt → TrsSt) : State := { s with trs := s.trs.modify n f }

/-- A state change of RWCn. -/
def State.modRwc (s : State) (n : Fin 4) (f : RwcSt → RwcSt) : State := { s with rwc := s.rwc.modify n f }

/-- A state change of PAn and AST lane n. -/
def State.modPa (s : State) (n : Fin 4) (f : PaSt → PaSt) : State := { s with pa := s.pa.modify n f }

/-- A state change of the media scheduler. -/
def State.modMsc (s : State) (f : MscSt → MscSt) : State := { s with msc := f s.msc }

/-- A state change of the host side. -/
def State.modHost (s : State) (f : HostSt → HostSt) : State := { s with host := f s.host }

/-- A step of the start-up sequence ends (R583): SYS_BOOT.STEP shows it when the step before it has ended. -/
def State.bootStep (s : State) (k : Nat) : State :=
  if s.fget Reg.SYS_BOOT_MODE = 1 ∧ s.fget Reg.SYS_BOOT_STEP + 1 = k then s.fput Reg.SYS_BOOT_STEP k else s

/-! ### The counters of an actuator record (R332) -/

/-- The registers behind the counters of the record of An: INH 0 to 8, PFAULTS, ALATE, AOVERON. -/
def actCounters (n : Fin 4) : List Nat :=
  (List.range 9).map (fun i => Reg.PAn_INHi n i) ++ [Reg.PAn_FAULTS n, Reg.AST_LATEn n, Reg.AST_OVERONn n]

/-- The counters of the record of An: the register, and what it had counted when it was cleared (they survive resets and power
cycles). -/
def State.actHealth (s : State) (n : Fin 4) : List Int :=
  ((actCounters n).zip (s.acts.get n)).map (fun rb => ((s.rd rb.1).toNat : Int) + rb.2)

/-- The counters of the records set to values, whatever the registers hold. -/
def State.setHealth (s : State) (f : Fin 4 → List Int) : State :=
  let base (n : Fin 4) : List Int := ((f n).zip (actCounters n)).map (fun vr => vr.1 - ((s.rd vr.2).toNat : Int))
  { s with acts := ⟨base 0, base 1, base 2, base 3⟩ }

/-- A one-bit field. -/
def bitAt (k : Nat) (v : Bool) : Nat := if v then 2 ^ k else 0

/-- Whether admission is stalled on a command that has not ended (R137). -/
def State.rltStalled (s : State) : Bool :=
  s.host.stallRlt && s.host.ctxs.any (fun c => decide (c.arr = s.host.stallArr) && ! c.admitted && c.status.isNone)

end Sys2Proof.Machine
end

