-- ==== Sys2Proof/Machine/Applied.lean ====
section
/-!
DEFINITION. Sys2Proof/Machine/Applied.lean: the value of an expert register that its block applies (R22): where a register table
says that a value of a field is applied as another, a read returns that other one; with the schedule of the scrubber, which decides
one of them.
-/
namespace Sys2Proof.Machine

/-! ### The scrubber's schedule (R458, R468) -/

/-- The bytes of DRAM (R42, R458). -/
def State.dramSize (s : State) : Nat := 2 ^ 33 * 2 ^ s.fget Reg.MEM_CFG_SIZE

/-- Lines of DRAM, or words of SRAM. -/
def State.scrubUnits (s : State) (dram : Bool) : Nat := if dram then s.dramSize / 64 else 3 * 2 ^ 20

/-- Fabric cycles of a scrub pass. -/
def State.passCycles (s : State) (dram : Bool) : Nat :=
  if dram then s.fget Reg.SCB_CFG_DPASS * 60 * 10 ^ 9 else s.fget Reg.SCB_CFG_SPASS * 10 ^ 9

/-- Whether the scrubber's position is behind the even schedule by more than 1/64 of a pass. -/
def State.scrubBehind (s : State) (dram : Bool) : Bool :=
  let n := s.scrubUnits dram
  let len := s.passCycles dram
  let start := if dram then s.memp.dStart else s.memp.sStart
  let pos := if dram then s.fget Reg.SCB_DPOS_LINE else s.fget Reg.SCB_SPOS_WORD
  let now := if s.pow.selfRef then s.memp.sleepAt else s.cycle
  decide (len ≠ 0) && decide (pos + n / 64 < (now - start) * n / len)

/-! ### Values as applied (R22) -/

/-- The fields whose values are applied within limits: address, number of instances and their stride, bits, least and greatest
value applied. -/
def appliedLimits : List (Nat × Nat × Nat × Nat × Nat × Nat × Nat) :=
  [(Reg.ATB_WIN, 1, 1, 21, 0, 0, 0x200000),            -- R75
   (Reg.ATB_CORR, 1, 1, 21, 0, 0, 0x40000),
   (Reg.ATB_HOLD, 1, 1, 25, 16, 1, 0x3FF),
   (Reg.ATB_HOLD, 1, 1, 7, 0, 1, 0xFF),
   (Reg.MSC_LEASE_CFG, 1, 1, 23, 16, 3, 0xFF),         -- R176
   (Reg.MSC_AGE, 1, 1, 31, 24, 1, 0xFF),               -- R218
   (Reg.MSC_AGE, 1, 1, 23, 16, 1, 0xFF),
   (Reg.MSC_AGE, 1, 1, 15, 8, 1, 0xFF),
   (Reg.MSC_AGE, 1, 1, 7, 0, 1, 0xFF),
   (Reg.MSC_DISPATCH, 1, 1, 31, 24, 1, 0xFF),
   (Reg.MSC_DISPATCH, 1, 1, 23, 16, 2, 0xFF),
   (Reg.MSC_WCG_CFG, 1, 1, 2, 0, 1, 4),
   (Reg.RWCn_SYNC 0, 4, 0x10000, 14, 12, 0, 3),        -- R299
   (Reg.RWCn_SYNC 0, 4, 0x10000, 11, 8, 0, 4),
   (Reg.RWCn_SYNC 0, 4, 0x10000, 6, 0, 1, 120),
   (Reg.RWCn_LDPC 0, 4, 0x10000, 6, 0, 1, 0x7F),
   (Reg.PIF_SHK_CFG, 1, 1, 23, 16, 1, 0xFF),           -- R333
   (Reg.PAn_WINH_CFG 0, 4, 0x1000, 27, 24, 1, 0xF),
   (Reg.PAn_FLT_CFG 0, 4, 0x1000, 7, 0, 1, 0xFF),
   (Reg.AST_GUARD, 1, 1, 7, 0, 1, 0xFF),
   (Reg.SVDn_CFG0 0, 4, 0x1000, 7, 0, 1, 0xFF),        -- R373
   (Reg.SVDn_CFG1 0, 4, 0x1000, 15, 8, 1, 0xFF),
   (Reg.SVDn_CFG1 0, 4, 0x1000, 7, 0, 1, 0xFF),
   (Reg.SCEn_STRUCT 0, 8, 0x1000, 7, 4, 0, 4),
   (Reg.SCEn_STRUCT 0, 8, 0x1000, 3, 0, 0, 8),
   (Reg.SCEn_SETTLE1 0, 8, 0x1000, 31, 28, 1, 0xF),
   (Reg.SCEn_HOVER 0, 8, 0x1000, 3, 0, 1, 0xF),
   (Reg.SCEn_FF 0, 8, 0x1000, 15, 0, 1, 0xFFFF),
   (Reg.VCDn_LOOP 0, 4, 0x1000, 11, 0, 250, 0xFFF),
   (Reg.SRFn_CFG 0, 4, 0x1000, 31, 24, 2, 0xFF),       -- R393
   (Reg.SRFn_CFG 0, 4, 0x1000, 23, 16, 1, 0xFF),
   (Reg.SRFn_CFG 0, 4, 0x1000, 15, 8, 16, 0xFF),
   (Reg.SRFn_CFG 0, 4, 0x1000, 7, 4, 1, 0xF),
   (Reg.SRFn_REF1 0, 4, 0x1000, 15, 0, 1, 0xFFFF),
   (Reg.SMC_START, 1, 1, 15, 0, 1, 0xFFFF),            -- R428
   (Reg.SMC_START1, 1, 1, 15, 0, 1, 0xFFFF),
   (Reg.SMC_START2, 1, 1, 15, 0, 1, 0xFFFF),
   (Reg.SMC_SYNCCFG, 1, 1, 31, 24, 1, 0xFF),
   (Reg.SMC_OBS, 1, 1, 31, 24, 1, 0xFF),
   (Reg.SMC_HOVER, 1, 1, 3, 0, 1, 0xF),
   (Reg.PMU_PEAK0, 1, 1, 31, 16, 0, 2000),             -- R577
   (Reg.PMU_PEAK0, 1, 1, 7, 0, 0, 125),
   (Reg.PMU_PEAK1, 1, 1, 31, 16, 10000, 0xFFFF),
   (Reg.PMU_PEAK1, 1, 1, 15, 8, 1, 60),
   (Reg.PMU_PEAK1, 1, 1, 2, 0, 1, 2),
   (Reg.PMU_THERM, 1, 1, 23, 16, 0, 110),
   (Reg.PMU_THERM, 1, 1, 15, 8, 1, 0xFF)]

/-- A register word with each of its fields within its limits. -/
def withinLimits (a w : Nat) : Nat :=
  appliedLimits.foldl (fun w (r : Nat × Nat × Nat × Nat × Nat × Nat × Nat) =>
    let (base, count, stride, hi, lo, least, most) := r
    if base ≤ a ∧ (a - base) % stride = 0 ∧ (a - base) / stride < count then
      putBits w hi lo (min most (max least (bitsOf w hi lo)))
    else w) w

/-- The word of an expert register as its block applies it (R22): the limits of its fields; MSC_LEASE_CFG.LEN at least 2 × PIERS
(R176), PMU_PEAK0.PPEAK from PSUS to 160 (R577), and DMC_ARB.SCB as 1 while the scrubber is behind (R474). -/
def State.applied (s : State) (a w : Nat) : Nat :=
  let w := withinLimits a w
  if a = Reg.MSC_LEASE_CFG then putBits w 15 0 (max (2 * s.piers) (bitsOf w 15 0))
  else if a = Reg.PMU_PEAK0 then putBits w 15 8 (max (bitsOf w 7 0) (min 160 (bitsOf w 15 8)))
  else if a = Reg.DMC_ARB ∧ (s.scrubBehind true ∨ s.scrubBehind false) then
    putBits w 3 0 (max 1 (bitsOf w 3 0))
  else w

end Sys2Proof.Machine
end

