-- ==== Sys2Proof/Machine/Crypto.lean ====
section
/-!
DEFINITION. Sys2Proof/Machine/Crypto.lean: the algorithms that the spec names and other standards define (PRESUMED from those standards,
notes/assumptions/5.md): SHA-384 (FIPS 180-4), HMAC and HKDF with it (RFC 2104, RFC 5869), AES-256 (FIPS 197), AES key wrap
(NIST SP 800-38F, KW), AES-256-XTS (IEEE 1619) and the verification of ECDSA over P-384 (FIPS 186-4). Bytes are numbers below 256.
-/
namespace Sys2Proof.Crypto

/-! ### Bytes and numbers -/

/-- Bytes as numbers. -/
def nats (l : List Byte) : List Nat := l.map (·.toNat)

/-- The number that bytes spell, most significant first. -/
def beNat (l : List Nat) : Nat := l.foldl (fun acc b => acc * 256 + b) 0

/-- The k bytes of a number, most significant first. -/
def beBytes (x : Nat) : Nat → List Nat
  | 0 => []
  | k + 1 => Nat.shiftRight x (8 * k) % 256 :: beBytes x k

/-- The k bytes of a number, least significant first. -/
def littleBytes (x : Nat) : Nat → List Nat
  | 0 => []
  | k + 1 => x % 256 :: littleBytes (x / 256) k

/-- The number that bytes spell, least significant first. -/
def littleNat : List Nat → Nat
  | [] => 0
  | b :: t => b + 256 * littleNat t

/-- A list cut into n pieces of k. -/
def pieces (k : Nat) : Nat → List Nat → List (List Nat)
  | 0, _ => []
  | n + 1, l => l.take k :: pieces k n (l.drop k)

/-! ### SHA-384 -/

/-- A 64-bit rotation right. -/
def rotr (k x : Nat) : Nat := Nat.lor (Nat.shiftRight x k) (Nat.shiftLeft (x % 2 ^ k) (64 - k))

/-- A complement of 64 bits. -/
def not64 (x : Nat) : Nat := 2 ^ 64 - 1 - x

/-- Round constants 0 to 19. -/
def shaK0 : List Nat := [
  0x428A2F98D728AE22, 0x7137449123EF65CD, 0xB5C0FBCFEC4D3B2F, 0xE9B5DBA58189DBBC,
  0x3956C25BF348B538, 0x59F111F1B605D019, 0x923F82A4AF194F9B, 0xAB1C5ED5DA6D8118,
  0xD807AA98A3030242, 0x12835B0145706FBE, 0x243185BE4EE4B28C, 0x550C7DC3D5FFB4E2,
  0x72BE5D74F27B896F, 0x80DEB1FE3B1696B1, 0x9BDC06A725C71235, 0xC19BF174CF692694,
  0xE49B69C19EF14AD2, 0xEFBE4786384F25E3, 0x0FC19DC68B8CD5B5, 0x240CA1CC77AC9C65]

/-- Round constants 20 to 39. -/
def shaK1 : List Nat := [
  0x2DE92C6F592B0275, 0x4A7484AA6EA6E483, 0x5CB0A9DCBD41FBD4, 0x76F988DA831153B5,
  0x983E5152EE66DFAB, 0xA831C66D2DB43210, 0xB00327C898FB213F, 0xBF597FC7BEEF0EE4,
  0xC6E00BF33DA88FC2, 0xD5A79147930AA725, 0x06CA6351E003826F, 0x142929670A0E6E70,
  0x27B70A8546D22FFC, 0x2E1B21385C26C926, 0x4D2C6DFC5AC42AED, 0x53380D139D95B3DF,
  0x650A73548BAF63DE, 0x766A0ABB3C77B2A8, 0x81C2C92E47EDAEE6, 0x92722C851482353B]

/-- Round constants 40 to 59. -/
def shaK2 : List Nat := [
  0xA2BFE8A14CF10364, 0xA81A664BBC423001, 0xC24B8B70D0F89791, 0xC76C51A30654BE30,
  0xD192E819D6EF5218, 0xD69906245565A910, 0xF40E35855771202A, 0x106AA07032BBD1B8,
  0x19A4C116B8D2D0C8, 0x1E376C085141AB53, 0x2748774CDF8EEB99, 0x34B0BCB5E19B48A8,
  0x391C0CB3C5C95A63, 0x4ED8AA4AE3418ACB, 0x5B9CCA4F7763E373, 0x682E6FF3D6B2B8A3,
  0x748F82EE5DEFB2FC, 0x78A5636F43172F60, 0x84C87814A1F0AB72, 0x8CC702081A6439EC]

/-- Round constants 60 to 79. -/
def shaK3 : List Nat := [
  0x90BEFFFA23631E28, 0xA4506CEBDE82BDE9, 0xBEF9A3F7B2C67915, 0xC67178F2E372532B,
  0xCA273ECEEA26619C, 0xD186B8C721C0C207, 0xEADA7DD6CDE0EB1E, 0xF57D4F7FEE6ED178,
  0x06F067AA72176FBA, 0x0A637DC5A2C898A6, 0x113F9804BEF90DAE, 0x1B710B35131C471B,
  0x28DB77F523047D84, 0x32CAAB7B40C72493, 0x3C9EBE0A15C9BEBC, 0x431D67C49C100D4C,
  0x4CC5D4BECB3E42B6, 0x597F299CFC657E2A, 0x5FCB6FAB3AD6FAEC, 0x6C44198C4A475817]

/-- The round constants. -/
def shaK : List Nat := shaK0 ++ shaK1 ++ shaK2 ++ shaK3

/-- The message schedule, last word first, extended by n words. -/
def schedule : Nat → List Nat → List Nat
  | 0, w => w
  | n + 1, w =>
    let a := w.getD 1 0
    let c := w.getD 14 0
    let s1 := Nat.xor (Nat.xor (rotr 19 a) (rotr 61 a)) (Nat.shiftRight a 6)
    let s0 := Nat.xor (Nat.xor (rotr 1 c) (rotr 8 c)) (Nat.shiftRight c 7)
    schedule n ((s1 + w.getD 6 0 + s0 + w.getD 15 0) % 2 ^ 64 :: w)

/-- The eight working variables. -/
structure Sha where
  a : Nat
  b : Nat
  c : Nat
  d : Nat
  e : Nat
  f : Nat
  g : Nat
  h : Nat
  deriving DecidableEq, Repr

/-- One round, with a round constant and a word of the schedule. -/
def Sha.round (v : Sha) (kw : Nat × Nat) : Sha :=
  let s1 := Nat.xor (Nat.xor (rotr 14 v.e) (rotr 18 v.e)) (rotr 41 v.e)
  let ch := Nat.xor (Nat.land v.e v.f) (Nat.land (not64 v.e) v.g)
  let t1 := v.h + s1 + ch + kw.1 + kw.2
  let s0 := Nat.xor (Nat.xor (rotr 28 v.a) (rotr 34 v.a)) (rotr 39 v.a)
  let maj := Nat.xor (Nat.xor (Nat.land v.a v.b) (Nat.land v.a v.c)) (Nat.land v.b v.c)
  ⟨(t1 + s0 + maj) % 2 ^ 64, v.a, v.b, v.c, (v.d + t1) % 2 ^ 64, v.e, v.f, v.g⟩

/-- The compression of one block of 128 bytes. -/
def Sha.block (v : Sha) (l : List Nat) : Sha :=
  let w := (schedule 64 ((pieces 8 16 l).map beNat).reverse).reverse
  let r := (shaK.zip w).foldl Sha.round v
  ⟨(v.a + r.a) % 2 ^ 64, (v.b + r.b) % 2 ^ 64, (v.c + r.c) % 2 ^ 64, (v.d + r.d) % 2 ^ 64,
   (v.e + r.e) % 2 ^ 64, (v.f + r.f) % 2 ^ 64, (v.g + r.g) % 2 ^ 64, (v.h + r.h) % 2 ^ 64⟩

/-- The initial value of SHA-384. -/
def shaInit : Sha := ⟨
  0xCBBB9D5DC1059ED8, 0x629A292A367CD507, 0x9159015A3070DD17, 0x152FECD8F70E5939,
  0x67332667FFC00B31, 0x8EB44A8768581511, 0xDB0C2E0D64F98FA7, 0x47B5481DBEFA4FA4⟩

/-- A message with its padding: a 1 bit, zeros, and the length in bits in 16 bytes. -/
def shaPad (l : List Nat) : List Nat :=
  let n := l.length
  l ++ 0x80 :: List.replicate ((239 - n % 128) % 128) 0 ++ beBytes (8 * n) 16

/-- SHA-384. -/
def sha384 (l : List Nat) : List Nat :=
  let m := shaPad l
  let r := (pieces 128 (m.length / 128) m).foldl Sha.block shaInit
  beBytes r.a 8 ++ beBytes r.b 8 ++ beBytes r.c 8 ++ beBytes r.d 8 ++ beBytes r.e 8 ++ beBytes r.f 8

/-- HMAC with SHA-384. -/
def hmac (key msg : List Nat) : List Nat :=
  let k := if 128 < key.length then sha384 key else key
  let k := k ++ List.replicate (128 - k.length) 0
  sha384 (k.map (fun b => Nat.xor b 0x5C) ++ sha384 (k.map (fun b => Nat.xor b 0x36) ++ msg))

/-- HKDF with SHA-384, for at most 48 bytes of output. -/
def hkdf (ikm salt info : List Nat) (len : Nat) : List Nat := (hmac (hmac salt ikm) (info ++ [1])).take len

/-! ### AES-256 -/

/-- The S-box, entry x in bits [8x + 7:8x]. -/
def sboxTable : Nat :=
  0x16BB54B00F2D99416842E6BF0D89A18CDF2855CEE9871E9B948ED9691198F8E19E1DC186B95735610EF6034866B53E70 * 2 ^ 1664 +
  0x8A8BBD4B1F74DDE8C6B4A61C2E2578BA08AE7A65EAF4566CA94ED58D6D37C8E779E4959162ACD3C25C2406490A3A32E0 * 2 ^ 1280 +
  0xDB0B5EDE14B8EE4688902A22DC4F816073195D643D7EA7C41744975FEC130CCDD2F3FF1021DAB6BCF5389D928F40A351 * 2 ^ 896 +
  0xA89F3C507F02F94585334D43FBAAEFD0CF584C4A39BECB6A5BB1FC20ED00D153842FE329B3D63B52A05A6E1B1A2C8309 * 2 ^ 512 +
  0x75B227EBE28012079A059618C323C7041531D871F1E5A534CCF73F362693FDB7C072A49CAFA2D4ADF04759FA7DC982CA * 2 ^ 128 +
  0x76ABD7FE2B670130C56F6BF27B777C63 * 2 ^ 0

/-- The inverse S-box. -/
def sboxInvTable : Nat :=
  0x7D0C2155631469E126D677BA7E042B17619953833CBBEBC8B0F52AAE4D3BE0A0EF9CC9939F7AE52D0D4AB519A97F5160 * 2 ^ 1664 +
  0x5FEC8027591012B131C7078833A8DD1FF45ACD78FEC0DB9A2079D2C64B3E56FC1BBE18AA0E62B76F89C5291D711AF147 * 2 ^ 1280 +
  0x6EDF751CE837F9E28535ADE72274AC9673E6B4F0CECFF297EADC674F4111913A6B8A130103BDAFC1020F3FCA8F1E2CD0 * 2 ^ 896 +
  0x0645B3B80558E4F70AD3BC8C00ABD890849D8DA75746155EDAB9EDFD5048706C92B6655DCC5CA4D41698688664F6F872 * 2 ^ 512 +
  0x25D18B6D49A25B76B224D92866A12E084EC3FA420B954CEE3D23C2A632947B54CBE9DEC444438E3487FF2F9B8239E37C * 2 ^ 128 +
  0xFBD7F3819EA340BF38A53630D56A0952 * 2 ^ 0

/-- An entry of a byte table. -/
def entry (table x : Nat) : Nat := Nat.shiftRight table (8 * x) % 256

/-- A column of four bytes, row 0 in the low byte, with a byte table applied. -/
def subWord (table w : Nat) : Nat :=
  entry table (w % 256) + 256 * entry table (w / 256 % 256) + 65536 * entry table (w / 65536 % 256) +
    16777216 * entry table (w / 16777216)

/-- The column with its rows rotated up by k bytes. -/
def rotRows (k w : Nat) : Nat := w / 2 ^ (8 * k) + w % 2 ^ (8 * k) * 2 ^ (32 - 8 * k)

/-- The four bytes of a column doubled in the field. -/
def dbl (w : Nat) : Nat := Nat.xor (Nat.land w 0x7F7F7F7F * 2) (Nat.land (w / 128) 0x01010101 * 0x1B)

/-- MixColumns on one column. -/
def mixCol (w : Nat) : Nat :=
  let r := rotRows 1 w
  Nat.xor (Nat.xor (Nat.xor (dbl w) (dbl r)) r) (Nat.xor (rotRows 2 w) (rotRows 3 w))

/-- The inverse of MixColumns on one column. -/
def invMixCol (w : Nat) : Nat :=
  let w2 := dbl w
  let w4 := dbl w2
  let w8 := dbl w4
  let w9 := Nat.xor w8 w
  Nat.xor (Nat.xor (Nat.xor w2 (Nat.xor w4 w8)) (rotRows 1 (Nat.xor w9 w2))) (Nat.xor (rotRows 2 (Nat.xor w9 w4)) (rotRows 3 w9))

/-- A block of AES, or a round key: four columns. -/
structure Blk where
  c0 : Nat
  c1 : Nat
  c2 : Nat
  c3 : Nat
  deriving DecidableEq, Repr

/-- The sum of two blocks. -/
def Blk.add (x y : Blk) : Blk := ⟨Nat.xor x.c0 y.c0, Nat.xor x.c1 y.c1, Nat.xor x.c2 y.c2, Nat.xor x.c3 y.c3⟩

/-- A function of columns applied to a block. -/
def Blk.map (f : Nat → Nat) (x : Blk) : Blk := ⟨f x.c0, f x.c1, f x.c2, f x.c3⟩

/-- A column made of row 0 of a, row 1 of b, row 2 of c and row 3 of d. -/
def rows (a b c d : Nat) : Nat := a % 256 + b / 256 % 256 * 256 + c / 65536 % 256 * 65536 + d / 16777216 * 16777216

/-- ShiftRows. -/
def Blk.shift (x : Blk) : Blk :=
  ⟨rows x.c0 x.c1 x.c2 x.c3, rows x.c1 x.c2 x.c3 x.c0, rows x.c2 x.c3 x.c0 x.c1, rows x.c3 x.c0 x.c1 x.c2⟩

/-- The inverse of ShiftRows. -/
def Blk.unshift (x : Blk) : Blk :=
  ⟨rows x.c0 x.c3 x.c2 x.c1, rows x.c1 x.c0 x.c3 x.c2, rows x.c2 x.c1 x.c0 x.c3, rows x.c3 x.c2 x.c1 x.c0⟩

/-- The block of a number of 128 bits, byte 0 in its low byte, and back. -/
def Blk.ofNat (x : Nat) : Blk := ⟨x % 2 ^ 32, x / 2 ^ 32 % 2 ^ 32, x / 2 ^ 64 % 2 ^ 32, x / 2 ^ 96 % 2 ^ 32⟩
/-- The number of a block. -/
def Blk.toNat (x : Blk) : Nat := x.c0 + x.c1 * 2 ^ 32 + x.c2 * 2 ^ 64 + x.c3 * 2 ^ 96

/-- The key schedule, last word first, extended from word i by n words; `rc` is the next round constant. -/
def keyWords : Nat → Nat → Nat → List Nat → List Nat
  | 0, _, _, w => w
  | n + 1, i, rc, w =>
    let t := w.headD 0
    let t := if i % 8 = 0 then Nat.xor (subWord sboxTable (rotRows 1 t)) rc
      else if i % 8 = 4 then subWord sboxTable t else t
    keyWords n (i + 1) (if i % 8 = 0 then 2 * rc else rc) (Nat.xor (w.getD 7 0) t :: w)

/-- Words cut into round keys. -/
def roundKeys : List Nat → List Blk
  | a :: b :: c :: d :: t => ⟨a, b, c, d⟩ :: roundKeys t
  | _ => []

/-- The 15 round keys of a key of 32 bytes, given as a number with byte 0 lowest. -/
def expand (key : Nat) : List Blk :=
  roundKeys (keyWords 52 8 1 ((List.range 8).map (fun i => Nat.shiftRight key (32 * i) % 2 ^ 32)).reverse).reverse

/-- The rounds of encryption after the first key has been added. -/
def encRounds : List Blk → Blk → Blk
  | [], x => x
  | [k], x => ((x.map (subWord sboxTable)).shift).add k
  | k :: t, x => encRounds t ((((x.map (subWord sboxTable)).shift).map mixCol).add k)

/-- AES-256 encryption of a block under an expanded key. -/
def encrypt (ks : List Blk) (x : Blk) : Blk :=
  match ks with
  | k :: t => encRounds t (x.add k)
  | [] => x

/-- The rounds of decryption, the round keys last first. -/
def decRounds : List Blk → Blk → Blk
  | [], x => x
  | [k], x => ((x.unshift).map (subWord sboxInvTable)).add k
  | k :: t, x => decRounds t (((((x.unshift).map (subWord sboxInvTable))).add k).map invMixCol)

/-- AES-256 decryption of a block under an expanded key. -/
def decrypt (ks : List Blk) (x : Blk) : Blk :=
  match ks.reverse with
  | k :: t => decRounds t (x.add k)
  | [] => x

/-! ### AES key wrap -/

/-- The bytes of a half block, most significant first, as the low and high halves of a block with byte 0 lowest. -/
def kwBlock (a r : Nat) : Blk := Blk.ofNat (littleNat (beBytes a 8 ++ beBytes r 8))

/-- The two halves of a block, each most significant first. -/
def kwHalves (x : Blk) : Nat × Nat :=
  let l := littleBytes x.toNat 16
  (beNat (l.take 8), beNat (l.drop 8))

/-- The steps of a wrap from step t on over the semiblocks still to come of this round; those done stand in `done`, last first. -/
def wrapRound (ks : List Blk) : Nat → Nat → List Nat → List Nat → Nat × List Nat
  | _, a, [], done => (a, done.reverse)
  | t, a, r :: rest, done =>
    let (h, l) := kwHalves (encrypt ks (kwBlock a r))
    wrapRound ks (t + 1) (Nat.xor h t) rest (l :: done)

/-- The six rounds of a wrap. -/
def wrapRounds (ks : List Blk) : Nat → Nat → Nat → List Nat → Nat × List Nat
  | 0, _, a, rs => (a, rs)
  | n + 1, t, a, rs =>
    let (a, rs) := wrapRound ks t a rs []
    wrapRounds ks n (t + rs.length) a rs

/-- The integrity value of a wrap. -/
def kwIv : Nat := 0xA6A6A6A6A6A6A6A6

/-- AES key wrap of bytes, a multiple of 8, under a key of 32 bytes given as a number with byte 0 lowest. -/
def kwWrap (kek : Nat) (key : List Nat) : List Nat :=
  let (a, rs) := wrapRounds (expand kek) 6 1 kwIv ((pieces 8 (key.length / 8) key).map beNat)
  beBytes a 8 ++ rs.flatMap (fun r => beBytes r 8)

/-- The steps of an unwrap, the semiblocks last first. -/
def unwrapRound (ks : List Blk) : Nat → Nat → List Nat → List Nat → Nat × List Nat
  | _, a, [], done => (a, done.reverse)
  | t, a, r :: rest, done =>
    let (h, l) := kwHalves (decrypt ks (kwBlock (Nat.xor a t) r))
    unwrapRound ks (t - 1) h rest (l :: done)

/-- The six rounds of an unwrap. -/
def unwrapRounds (ks : List Blk) : Nat → Nat → Nat → List Nat → Nat × List Nat
  | 0, _, a, rs => (a, rs)
  | n + 1, t, a, rs =>
    let (a, rs) := unwrapRound ks t a rs []
    unwrapRounds ks n (t - rs.length) a rs

/-- AES key unwrap: the key, or none when the integrity value is not there. -/
def kwUnwrap (kek : Nat) (blob : List Nat) : Option (List Nat) :=
  let l := (pieces 8 (blob.length / 8) blob).map beNat
  let rs := l.drop 1
  let (a, rs) := unwrapRounds (expand kek) 6 (6 * rs.length) (l.headD 0) rs.reverse
  if a = kwIv then some (rs.reverse.flatMap (fun r => beBytes r 8)) else none

/-! ### AES-256-XTS -/

/-- A tweak times alpha. -/
def alpha (t : Nat) : Nat := if 2 ^ 127 ≤ t then Nat.xor ((2 * t) % 2 ^ 128) 0x87 else 2 * t

/-- A data unit's blocks of 16 bytes each, under a function of blocks and the tweak of the first. -/
def xtsBlocks (f : Blk → Blk) : Nat → List Nat → List Nat
  | _, [] => []
  | t, x :: rest => Nat.xor (f (Blk.ofNat (Nat.xor x t))).toNat t :: xtsBlocks f (alpha t) rest

/-- The encryption or decryption of a data unit of whole blocks under a key of 64 bytes, byte 0 lowest, and a tweak value of 16 bytes,
byte 0 lowest: the first half of the key for the data, the second for the tweak. -/
def xts (dec : Bool) (key tweak : Nat) (l : List Nat) : List Nat :=
  let k1 := expand (key % 2 ^ 256)
  let t := (encrypt (expand (key / 2 ^ 256)) (Blk.ofNat tweak)).toNat
  (xtsBlocks (if dec then decrypt k1 else encrypt k1) t ((pieces 16 (l.length / 16) l).map littleNat)).flatMap
    (fun x => littleBytes x 16)

/-! ### ECDSA over P-384 -/

/-- The prime of P-384. -/
def pP : Nat := 2 ^ 384 - 2 ^ 128 - 2 ^ 96 + 2 ^ 32 - 1
/-- The order of its base point. -/
def pN : Nat := 0xFFFFFFFFFFFFFFFFFFFFFFFFFFFFFFFFFFFFFFFFFFFFFFFFC7634D81F4372DDF581A0DB248B0A77AECEC196ACCC52973
/-- The coefficient b of its equation. -/
def pB : Nat := 0xB3312FA7E23EE7E4988E056BE3F82D19181D9C6EFE8141120314088F5013875AC656398D8A2ED19D2A85C8EDD3EC2AEF
/-- The base point. -/
def pG : Nat × Nat :=
  (0xAA87CA22BE8B05378EB1C71EF320AD746E1D3B628BA79B9859F741E082542A385502F25DBF55296C3A545E3872760AB7,
   0x3617DE4A96262C6F5D9E98BF9292DC29F8F41DBD289A147CE9DA3113B5F0B8C00A60B1CE1D7E819D7A431D7C90EA0E5F)

/-- A point in Jacobian coordinates; z = 0 is the point at infinity. -/
structure Pt where
  x : Nat
  y : Nat
  z : Nat
  deriving DecidableEq, Repr

/-- x - y modulo the prime. -/
def subP (x y : Nat) : Nat := (x + pP - y) % pP

/-- A point doubled. -/
def Pt.double (p : Pt) : Pt :=
  if p.z = 0 ∨ p.y = 0 then ⟨1, 1, 0⟩
  else
    let zz := p.z * p.z % pP
    let yy := p.y * p.y % pP
    let s := 4 * p.x * yy % pP
    let m := 3 * subP p.x zz * (p.x + zz) % pP
    let x := subP (m * m % pP) (2 * s % pP)
    ⟨x, subP (m * subP s x % pP) (8 * yy * yy % pP), 2 * p.y * p.z % pP⟩

/-- The sum of two points. -/
def Pt.add (p q : Pt) : Pt :=
  if p.z = 0 then q
  else if q.z = 0 then p
  else
    let z1 := p.z * p.z % pP
    let z2 := q.z * q.z % pP
    let u1 := p.x * z2 % pP
    let u2 := q.x * z1 % pP
    let s1 := p.y * (z2 * q.z % pP) % pP
    let s2 := q.y * (z1 * p.z % pP) % pP
    if u1 = u2 then (if s1 = s2 then p.double else ⟨1, 1, 0⟩)
    else
      let h := subP u2 u1
      let r := subP s2 s1
      let hh := h * h % pP
      let hhh := h * hh % pP
      let v := u1 * hh % pP
      let x := subP (subP (r * r % pP) hhh) (2 * v % pP)
      ⟨x, subP (r * subP v x % pP) (s1 * hhh % pP), h * p.z % pP * q.z % pP⟩

/-- The sum of u times p and v times q, of which pq is the sum of p and q: bits k − 1 down to 0 are still to come. -/
def mulAdd (p q pq : Pt) (u v : Nat) : Nat → Pt → Pt
  | 0, acc => acc
  | k + 1, acc =>
    let d := acc.double
    let d := match u.testBit k, v.testBit k with
      | true, true => d.add pq
      | true, false => d.add p
      | false, true => d.add q
      | false, false => d
    mulAdd p q pq u v k d

/-- x to the power e modulo m: bits k − 1 down to 0 of e are still to come. -/
def powMod (m x e : Nat) : Nat → Nat → Nat
  | 0, acc => acc
  | k + 1, acc =>
    let a := acc * acc % m
    powMod m x e k (if e.testBit k then a * x % m else a)

/-- Whether a point of the public key lies on the curve. -/
def onCurve (x y : Nat) : Bool :=
  decide (x < pP) && decide (y < pP) && decide (y * y % pP = (x * x % pP * x + (pP - 3) * x + pB) % pP)

/-- ECDSA over P-384 with SHA-384: whether the signature (R and S, 48 bytes each, most significant first) of a message verifies under an
uncompressed public key (0x04, X, Y). -/
def verify (pub msg sig : List Nat) : Bool :=
  let x := beNat ((pub.drop 1).take 48)
  let y := beNat ((pub.drop 49).take 48)
  let r := beNat (sig.take 48)
  let s := beNat ((sig.drop 48).take 48)
  if pub.headD 0 ≠ 4 ∨ pub.length ≠ 97 ∨ sig.length ≠ 96 ∨ ! onCurve x y ∨ r = 0 ∨ pN ≤ r ∨ s = 0 ∨ pN ≤ s then false
  else
    let w := powMod pN s (pN - 2) 384 1
    let u := beNat (sha384 msg) % pN * w % pN
    let v := r * w % pN
    let g : Pt := ⟨pG.1, pG.2, 1⟩
    let q : Pt := ⟨x, y, 1⟩
    let p := mulAdd g q (g.add q) u v 384 ⟨1, 1, 0⟩
    if p.z = 0 then false
    else
      let zi := powMod pP p.z (pP - 2) 384 1
      decide (p.x * (zi * zi % pP) % pP % pN = r)

end Sys2Proof.Crypto
end

