-- ==== Sys2Proof/Machine/CtlImage.lean ====
section
/-!
DEFINITION. Sys2Proof/Machine/CtlImage.lean: the bytes of an image: the signature block that every signed image carries, the header
fields, words and patterns of a control store image (spec/07_trestle_sequencer.md, R260), the header fields of a firmware image
(spec/19_startup_and_otp.md, R595), and the header and directory of a Drive Parameter Image (R596).
-/
namespace Sys2Proof

/-- A list of bytes cut into n pieces of k. -/
def chunks (k : Nat) : Nat → List Byte → List (List Byte)
  | 0, _ => []
  | n + 1, l => l.take k :: chunks k n (l.drop k)

/-- The k-byte little-endian field of an image at an offset. -/
def leField (bytes : List Byte) (off k : Nat) : Nat := Machine.leNat ((bytes.drop off).take k)

/-! ### The signature block behind the signed bytes 0 to LEN − 1 (R260) -/

/-- PUBKEY. -/
def pubKeyOf (bytes : List Byte) (len : Nat) : List Byte := (bytes.drop len).take 97

/-- SHA-384 of PUBKEY. -/
def keyHashOf (bytes : List Byte) (len : Nat) : List Byte :=
  (Crypto.sha384 (Crypto.nats (pubKeyOf bytes len))).map (BitVec.ofNat 8)

/-- Whether SIG verifies over bytes 0 to LEN − 1 under PUBKEY. -/
def sigVerifies (bytes : List Byte) (len : Nat) : Bool :=
  Crypto.verify (Crypto.nats (pubKeyOf bytes len)) (Crypto.nats (bytes.take len))
    (Crypto.nats ((bytes.drop (len + 100)).take 96))

/-- Whether the block is laid out as R260 says. -/
def sigBlockOk (bytes : List Byte) (len : Nat) : Bool :=
  decide (len + 196 ≤ bytes.length) && decide (leField bytes len 1 = 4) && decide (leField bytes (len + 97) 3 = 0)

/-! ### Control store images (R260) -/

/-- The k-byte field of an image at an offset (R260). -/
def CsImage.le (c : CsImage) (off k : Nat) : Nat := leField c.bytes off k

/-- FIRST. -/
def CsImage.first (c : CsImage) : Nat := c.le 0x08 2
/-- NWORDS. -/
def CsImage.nwords (c : CsImage) : Nat := c.le 0x0A 2
/-- NPAT. -/
def CsImage.npat (c : CsImage) : Nat := c.le 0x0C 2
/-- ENTRY_VALID. -/
def CsImage.entryValid (c : CsImage) : Nat := c.le 0x10 8
/-- IMAGE_ID. -/
def CsImage.imageId (c : CsImage) : Nat := c.le 0x18 4
/-- LEN. -/
def CsImage.len (c : CsImage) : Nat := c.le 0x1C 4
/-- WORDS: 18 bytes each, bits [7:0] in the first. -/
def CsImage.words (c : CsImage) : List Nat := (chunks 18 c.nwords (c.bytes.drop 0x40)).map Machine.leNat
/-- PATTERNS: 64 bytes each, with the INDEX that each carries (R255). -/
def CsImage.patterns (c : CsImage) : List (Nat × List Byte) :=
  (chunks 64 c.npat (c.bytes.drop (0x40 + 18 * c.nwords))).map (fun e => ((e.getD 2 0#8).toNat, e))
/-- SHA-384 of PUBKEY. -/
def CsImage.keyHash (c : CsImage) : List Byte := keyHashOf c.bytes c.len
/-- Whether SIG verifies under PUBKEY. -/
def CsImage.sigOk (c : CsImage) : Bool := sigVerifies c.bytes c.len

/-! ### Firmware images (R595) -/

/-- SVN. -/
def FwImage.svn (f : FwImage) : Nat := leField f.bytes 0x06 2
/-- VERSION. -/
def FwImage.version (f : FwImage) : List Byte := (f.bytes.drop 0x08).take 8
/-- LEN. -/
def FwImage.len (f : FwImage) : Nat := leField f.bytes 0x10 4
/-- CSOFF. -/
def FwImage.csOff (f : FwImage) : Nat := leField f.bytes 0x14 4
/-- The control store image, inside the signed bytes. -/
def FwImage.cs (f : FwImage) : CsImage := ⟨(f.bytes.take f.len).drop f.csOff⟩
/-- SHA-384 of PUBKEY. -/
def FwImage.keyHash (f : FwImage) : List Byte := keyHashOf f.bytes f.len
/-- Whether SIG verifies under PUBKEY. -/
def FwImage.sigOk (f : FwImage) : Bool := sigVerifies f.bytes f.len
/-- Whether the fields and the CRC are correct; the control store image lies inside the signed bytes, behind the header (DEDUCED). -/
def FwImage.fieldsOk (f : FwImage) : Bool :=
  decide (f.bytes.take 4 = [0x53#8, 0x4D#8, 0x46#8, 0x57#8]) && decide (leField f.bytes 0x04 2 = 1) &&
    decide (leField f.bytes 0x1C 36 = 0) && decide (0x40 ≤ f.csOff) && decide (f.csOff ≤ f.len) &&
    decide (leField f.bytes 0x18 4 = Machine.crc32c ((f.bytes.drop 0x40).take (f.len - 0x40))) && sigBlockOk f.bytes f.len

/-! ### Drive Parameter Images (R596) -/

/-- The bytes of a table payload that are not 0, by offset. -/
def sparseOf (l : List Byte) : List (Nat × Byte) :=
  l.zipIdx.filterMap (fun bi => if bi.1 = 0#8 then none else some (bi.2, bi.1))

/-- Entry t of the directory as a table: its type, its payload, and whether its CRC is correct. -/
def dpiTableOf (bytes : List Byte) (t : Nat) : DpiTable :=
  let o := 0x20 + 16 * t
  let size := leField bytes (o + 8) 4
  let payload := (bytes.drop (leField bytes (o + 4) 4)).take size
  ⟨leField bytes o 2, size, decide (payload.length = size ∧ leField bytes (o + 12) 4 = Machine.crc32c payload), sparseOf payload⟩

/-- Whether payload t of the directory starts at a multiple of 16, at or behind `from`, and the later ones follow it without overlap,
inside the first LEN bytes; `n` entries are still to come. -/
def dpiPayloadsOk (bytes : List Byte) (len : Nat) : Nat → Nat → Nat → Bool
  | 0, _, from_ => decide (from_ ≤ len)
  | n + 1, t, from_ =>
    let off := leField bytes (0x24 + 16 * t) 4
    decide (off % 16 = 0) && decide (from_ ≤ off) && decide (leField bytes (0x22 + 16 * t) 2 = 0) &&
      dpiPayloadsOk bytes len n (t + 1) (off + leField bytes (0x28 + 16 * t) 4)

/-- The DPI that bytes hold (R596): the header, whether MAGIC, the reserved bytes, the directory and the signature block keep their
rules, the SHA-384 of PUBKEY, whether SIG verifies, and the tables. The commands carry an image in this form. -/
def DpiImage.ofBytes (bytes : List Byte) : DpiImage :=
  let ntab := leField bytes 0x06 2
  let len := leField bytes 0x08 4
  { format := leField bytes 0x04 2, ntab := ntab, len := len, dpiId := leField bytes 0x0C 4, svn := leField bytes 0x10 2,
    chain := leField bytes 0x12 1,
    layoutOk := decide (bytes.take 4 = [0x44#8, 0x50#8, 0x49#8, 0x4D#8]) && decide (leField bytes 0x13 13 = 0) &&
      dpiPayloadsOk bytes len ntab 0 (0x20 + 16 * ntab) && sigBlockOk bytes len,
    keyHash := keyHashOf bytes len, sigOk := sigVerifies bytes len,
    tables := (List.range ntab).map (dpiTableOf bytes) }

end Sys2Proof
end

