-- ==== Sys2Proof/Machine/Flags.lean ====
section
/-!
DEFINITION. Sys2Proof/Machine/Flags.lean: status bits and the events they offer to the event recorder (R43 to R45, R498 to
R501, R634): the line, instance and cause word of a register, the offers of a command, and their sequence numbers.
-/
namespace Sys2Proof.Machine

/-- Line, instance and offset within its window or sub-window of the register at an address (R35, R43, R498, R634). The
events of servo pair n are on the line of engine 2n (R372), with the pair as their instance (notes/assumptions/30.md). -/
def srcOf (a : Nat) : Nat × Nat × Nat :=
  let w := a / 0x10000 % 0x4000
  let o := a % 0x10000
  let sub := o / 0x1000
  if w = 7 then (0x37, sub, o % 0x1000)
  else if w < 0xC then (if w < 7 then w else w - 1, 0xFFFF, o)
  else if w = 0xC then (if sub = 0 then (0x0B, 0xFFFF, o) else (0x0B + sub, sub - 1, o % 0x1000))
  else if 0x10 ≤ w ∧ w ≤ 0x13 then (w, w - 0x10, o)
  else if w = 0x14 then (0x14, 0xFFFF, o)
  else if w = 0x15 then
    (if sub = 0 ∨ 8 ≤ sub then (0x15, 0xFFFF, o) else (0x15 + sub, sub - 1, o % 0x1000))
  else if w = 0x16 then (0x1A + sub, sub, o % 0x1000)
  else if w = 0x18 then
    (if sub = 8 then (0x20 + 2 * (o % 0x1000 / 0x100 % 4), o % 0x1000 / 0x100 % 4, o) else (0x20 + sub, sub, o % 0x1000))
  else if w = 0x19 then (0x28 + sub, sub, o % 0x1000)
  else if w = 0x1A then (if sub < 8 then (0x2C + sub, sub, o % 0x1000) else (0x28 + sub, sub - 8, o % 0x1000))
  else if w = 0x1B then (0x34, 0xFFFF, o)
  else if w = 0x1C then (0x35, 0xFFFF, o)
  else (0x36, 0xFFFF, o)

/-- The code of a severity (R26). -/
def Sev.code : Sev → Nat
  | .trace => 0
  | .notice => 1
  | .fault => 2
  | .fatal => 3

/-- The code of an error class (R505). -/
def ErrClass.code : ErrClass → Nat
  | .ce => 0
  | .de => 1
  | .uc => 2
  | .ft => 3

/-- An offer to the event recorder with the stamp and cycle of now, not yet numbered. -/
def State.offer (s : State) (line inst cause : Nat) (sev : Sev) (cls : Option ErrClass) (pay : List Byte) : State :=
  { s with evr := { s.evr with
      staged := s.evr.staged ++ [⟨0, s.stamp, line, inst, cause, sev, cls, pay, s.cycle⟩] } }

/-- A cause arises: no write of this fabric cycle clears its bit (R44). -/
def State.arise (s : State) (f : Fld) : State :=
  { s with causes := if s.causes.contains (f.addr, f.lo) then s.causes else (f.addr, f.lo) :: s.causes }

/-- The cause bits of a status register that arose in this fabric cycle (R44). -/
def State.arisen (s : State) (a : Nat) : Nat :=
  s.causes.foldl (fun acc c => if c.1 = a then Nat.lor acc (2 ^ c.2) else acc) 0

/-- A cause that sets a status bit: the bit becomes 1 and the cause is offered (R45), with a class and a payload. -/
def State.evtC (s : State) (f : Fld) (sev : Sev) (cls : Option ErrClass) (pay : List Byte) : State :=
  let (line, inst, off) := srcOf f.addr
  ((s.fput f 1).arise f).offer line inst (off + f.lo * 2 ^ 16) sev cls pay

/-- A cause that sets a status bit. -/
def State.evt (s : State) (f : Fld) (sev : Sev) : State := s.evtC f sev none []

/-- A cause that sets no status bit, offered with NOBIT for the register it concerns (R634). -/
def State.notePay (s : State) (a : Nat) (sev : Sev) (pay : List Byte) : State :=
  let (line, inst, off) := srcOf a
  s.offer line inst (off + 2 ^ 21) sev none pay

/-- A cause that sets no status bit and carries no payload. -/
def State.note (s : State) (a : Nat) (sev : Sev) : State := s.notePay a sev []

/-- A cause without a status bit, of a quantity kept per actuator in a common block (R634). -/
def State.noteInst (s : State) (a : Nat) (sev : Sev) (n : Fin 4) : State :=
  let (line, _, off) := srcOf a
  s.offer line n.val (off + 2 ^ 21) sev none []

/-- A refused access (R14, R37, R634): SYS offers a Notice on line 0x00 with the address, the master, whether it was
misaligned (false: unassigned) and whether it was a write. -/
def State.refusedAccess (s : State) (m : Master) (a : Nat) (unassigned write : Bool) : State :=
  s.offer 0 0xFFFF 0x200000 .notice none
    (leBytes a 8 ++ [BitVec.ofNat 8 m.number, if unassigned then 1#8 else 0#8, if write then 1#8 else 0#8])

/-! ### Sequence numbers and the queue of the recorder -/

/-- Whether an offer is to be recorded (R499). -/
def State.recorded (s : State) (o : Offer) : Bool :=
  let frozen := s.fbit Reg.EVR_STATUS_FROZEN
  decide (o.sev = .fatal) ||
    (s.fbit (Reg.EVR_LINE_n_EN o.line) && decide (s.fget (Reg.EVR_LINE_n_MINSEV o.line) ≤ o.sev.code) && ! frozen) ||
    (frozen && decide (2 ≤ o.sev.code))

/-- The lowest severity among queued offers. -/
def lowestSev (q : List Offer) : Nat := q.foldl (fun m o => min m o.sev.code) 3

/-- The SEQ of the most recently accepted queued offer of a severity. -/
def lastOf (q : List Offer) (v : Nat) : Nat :=
  q.foldl (fun m o => if o.sev.code = v then max m o.seq else m) 0

/-- Takes an offer into the queue of 64 entries, displacing or dropping under R501. The payload of a Fault Stop, the
one of 13 bytes with class FT, holds the SEQ of its own record (R506). -/
def State.enqueueOffer (s : State) (o : Offer) : State :=
  if ¬ s.recorded o then s
  else
    let seq := s.evr.seq + 1
    let num := (s.rd Reg.EVR_BOOT).toNat * 2 ^ 32 + seq % 2 ^ 32
    let pay := if o.cls = some .ft ∧ o.payload.length = 13 then o.payload.take 4 ++ leBytes num 8 ++ o.payload.drop 12 else o.payload
    let o := { o with seq := num, payload := pay }
    let s := { s with evr := { s.evr with seq := seq } }
    if s.evr.queue.length < 64 then { s with evr := { s.evr with queue := s.evr.queue ++ [o] } }
    else
      let low := lowestSev s.evr.queue
      let s := (s.bump Reg.EVR_DROPQ)
      let s := { s with evr := { s.evr with dropped := min (s.evr.dropped + 1) 0xFFFF } }
      if low < o.sev.code then
        let k := lastOf s.evr.queue low
        { s with evr := { s.evr with queue := s.evr.queue.filter (fun q => decide (q.seq ≠ k)) ++ [o] } }
      else s

/-- R500's order of two offers of one cycle: line, then status register offset, then bit; a firmware post (line 0x40)
last. -/
def offerKey (o : Offer) : Nat := o.line * 2 ^ 32 + o.cause % 2 ^ 16 * 2 ^ 5 + o.cause / 2 ^ 16 % 2 ^ 5

/-- Inserts an offer behind those that come before it or tie with it. -/
def insertOffer (o : Offer) : List Offer → List Offer
  | [] => [o]
  | p :: t => if offerKey p ≤ offerKey o then p :: insertOffer o t else o :: p :: t

/-- Offers in the order of R500. -/
def sortOffers : List Offer → List Offer
  | [] => []
  | o :: t => insertOffer o (sortOffers t)

/-- The offers of the command are numbered and taken into the recorder's queue, in the order of R500. -/
def State.settle (s : State) : State :=
  let l := sortOffers s.evr.staged.reverse
  l.foldl (fun s o => s.enqueueOffer o) { s with evr := { s.evr with staged := [] } }

/-- The end of a command: its offers are numbered, and the machine goes on. -/
def State.done (s : State) : Host.Outcome State Fault Refusal := .next s.settle

end Sys2Proof.Machine
end

