-- ==== Sys2Proof/Machine/Operands.lean ====
section
/-!
DEFINITION. Sys2Proof/Machine/Operands.lean: reading the operands of the commands: the fields of a media operation
descriptor (R198), of a submission queue entry, and of a Drive Parameter Image (the payload layouts of R79, R190, R192,
R220, R265, R307, R334, R373, R394, R429, R457, R477, R496 and R579).
-/
namespace Sys2Proof

/-! ### Media operation descriptors (R198) -/

/-- The surface a descriptor names. -/
def OpDesc.surf (d : OpDesc) : Nat := d.band / 2 ^ 24 % 32
/-- NOBAND. -/
def OpDesc.noBand (d : OpDesc) : Bool := d.band.testBit 31
/-- The band a descriptor names on its surface. -/
def OpDesc.bandNo (d : OpDesc) : Nat := d.band % 2 ^ 24
/-- FLAGS.WRAP, which applies to kinds 0x01 and 0x03 only (R201). -/
def OpDesc.wrap (d : OpDesc) : Bool := d.flags.testBit 0 && (decide (d.kind = 1) || decide (d.kind = 3))
/-- FLAGS.PARITY. -/
def OpDesc.parity (d : OpDesc) : Bool := d.flags.testBit 1
/-- FLAGS.PIN. -/
def OpDesc.pin (d : OpDesc) : Bool := d.flags.testBit 2
/-- FLAGS.RETRY. -/
def OpDesc.retry (d : OpDesc) : Bool := d.flags.testBit 3
/-- FLAGS.STEP. -/
def OpDesc.step (d : OpDesc) : Nat := d.flags / 16 % 16
/-- Whether the operation writes (kinds 0x02 and 0x04). -/
def OpDesc.isWrite (d : OpDesc) : Bool := decide (d.kind = 2) || decide (d.kind = 4)
/-- Whether ENTRY names a customer routine. -/
def OpDesc.customer (d : OpDesc) : Bool := d.entry.testBit 7

/-! ### Submission queue entries -/

/-- Bits hi..lo of a word, as a number. -/
def wordBits (w : Word) (hi lo : Nat) : Nat := w.toNat / 2 ^ lo % 2 ^ (hi + 1 - lo)

/-- SLBA: dwords 10 and 11. -/
def Sqe.slba (q : Sqe) : Nat := q.cdw10.toNat + 2 ^ 32 * q.cdw11.toNat
/-- NLB as a count of blocks: dword 12 bits [15:0] plus 1. -/
def Sqe.nlb (q : Sqe) : Nat := wordBits q.cdw12 15 0 + 1
/-- Force Unit Access. -/
def Sqe.fua (q : Sqe) : Bool := q.cdw12.getLsbD 30
/-- DTYPE of a write: dword 12 bits [23:20]. -/
def Sqe.dtype (q : Sqe) : Nat := wordBits q.cdw12 23 20
/-- DSPEC of a write: dword 13 bits [31:16]. -/
def Sqe.dspec (q : Sqe) : Nat := wordBits q.cdw13 31 16
/-- NDT of a vendor admin command (R120). -/
def Sqe.ndt (q : Sqe) : Nat := q.cdw10.toNat
/-- ACTION of a vendor admin command: dword 12 bits [3:0]. -/
def Sqe.action (q : Sqe) : Nat := wordBits q.cdw12 3 0
/-- Select All of Zone Management Send. -/
def Sqe.selectAll (q : Sqe) : Bool := q.cdw13.getLsbD 8
/-- The Zone Send Action, or Zone Receive Action. -/
def Sqe.zoneAction (q : Sqe) : Nat := wordBits q.cdw13 7 0
/-- The Zone Receive Action Specific field. -/
def Sqe.zras (q : Sqe) : Nat := wordBits q.cdw13 15 8

/-! ### The Drive Parameter Image -/

/-- The byte at a key of a sparse byte list; 0 when it is not listed. -/
def byteAt : List (Nat × Byte) → Nat → Nat
  | [], _ => 0
  | (j, v) :: t, k => if j = k then v.toNat else byteAt t k

/-- The table of a type, if the image holds one. -/
def DpiImage.table (d : DpiImage) (ty : Nat) : Option DpiTable := d.tables.find? (fun t => decide (t.ty = ty))

/-- The byte at an offset of the payload of a table; 0 where the table is absent. -/
def DpiImage.byte (d : DpiImage) (ty off : Nat) : Nat :=
  match d.table ty with
  | some t => byteAt t.bytes off
  | none => 0

/-- k bytes of a table's payload, least significant first. -/
def DpiImage.le (d : DpiImage) (ty : Nat) : Nat → Nat → Nat
  | 0, _ => 0
  | k + 1, off => d.byte ty off + 256 * d.le ty k (off + 1)

/-- A byte read as a signed number. -/
def signed8 (x : Nat) : Int := (BitVec.ofNat 8 x).toInt

/-- A 16-bit number read as signed. -/
def signed16 (x : Nat) : Int := (BitVec.ofNat 16 x).toInt

/-- A 32-bit number read as signed. -/
def signed32 (x : Nat) : Int := (BitVec.ofNat 32 x).toInt

/-- ACT_EN bit n of the head-map table (R190). -/
def DpiImage.actEn (d : DpiImage) (n : Nat) : Bool := (d.byte 2 0).testBit n
/-- SURF_EN bit s (R190). -/
def DpiImage.surfEn (d : DpiImage) (surf : Nat) : Bool := (d.le 2 4 4).testBit surf
/-- FLAGS of head h (R190). -/
def DpiImage.headFlags (d : DpiImage) (h : Nat) : Nat := d.byte 2 (8 + 4 * h)
/-- Whether head h is present. -/
def DpiImage.headPresent (d : DpiImage) (h : Nat) : Bool := (d.headFlags h).testBit 0
/-- Whether head h has reader B. -/
def DpiImage.readerB (d : DpiImage) (h : Nat) : Bool := (d.headFlags h).testBit 1
/-- PA_HEAD of head h (R190). -/
def DpiImage.paHead (d : DpiImage) (h : Nat) : Nat := d.byte 2 (9 + 4 * h)

/-- GUARD of the zone-format table (R192). -/
def DpiImage.guard (d : DpiImage) : Nat := d.byte 3 0
/-- LAST_CYL of a surface (R192). -/
def DpiImage.lastCyl (d : DpiImage) (surf : Nat) : Nat := d.le 3 3 (4 + 4 * surf)
/-- RZ_COUNT of a surface (R192). -/
def DpiImage.rzCount (d : DpiImage) (surf : Nat) : Nat := d.byte 3 (7 + 4 * surf)
/-- The offset of a recording zone record (R192). -/
def rzOff (surf k : Nat) : Nat := 0x60 + 0x400 * surf + 0x10 * k
/-- FIRST_CYL of a recording zone. -/
def DpiImage.firstCyl (d : DpiImage) (surf k : Nat) : Nat := d.le 3 3 (rzOff surf k)
/-- SPT of a recording zone. -/
def DpiImage.spt (d : DpiImage) (surf k : Nat) : Nat := d.le 3 2 (rzOff surf k + 4)
/-- BAUD of a recording zone, in MBaud. -/
def DpiImage.baud (d : DpiImage) (surf k : Nat) : Nat := d.le 3 2 (rzOff surf k + 6)
/-- BANDS of a recording zone. -/
def DpiImage.bands (d : DpiImage) (surf k : Nat) : Nat := d.le 3 4 (rzOff surf k + 8)
/-- BT of a recording zone. -/
def DpiImage.bt (d : DpiImage) (surf k : Nat) : Nat := d.le 3 2 (rzOff surf k + 12)

/-- Full bands of a surface. -/
def DpiImage.surfBands (d : DpiImage) (surf : Nat) : Nat :=
  (List.range (d.rzCount surf)).foldl (fun acc k => acc + d.bands surf k) 0
/-- Full bands of the drive (R193). -/
def DpiImage.allBands (d : DpiImage) : Nat := (List.range 20).foldl (fun acc s => acc + d.surfBands s) 0

/-- The recording zone that holds a band of a surface, counting bands in rising order (R166): none past the last. -/
def DpiImage.bandZone (d : DpiImage) (surf : Nat) (band : Nat) : Option Nat :=
  ((List.range (d.rzCount surf)).foldl (fun (acc : Option Nat × Nat) k =>
    match acc.1 with
    | some _ => acc
    | none => if band < acc.2 + d.bands surf k then (some k, acc.2) else (none, acc.2 + d.bands surf k))
    (none, 0)).1

/-- ENTRIES of the preamp table: head select, write current, write power, bias power (R334). -/
def DpiImage.paEntry (d : DpiImage) (i : Nat) : Nat := d.byte 7 (8 + i)
/-- LMAX of head h (R334). -/
def DpiImage.lmax (d : DpiImage) (h : Nat) : Nat := d.byte 7 (0xC + h)
/-- PREHEAT (R334). -/
def DpiImage.preheat (d : DpiImage) : Nat := d.byte 7 4
/-- TSEN (R334). -/
def DpiImage.tsen (d : DpiImage) : Nat := d.byte 7 2
/-- TREF (R334). -/
def DpiImage.tref (d : DpiImage) : Nat := d.byte 7 3
/-- POLES of the spindle table (R401, R429). -/
def DpiImage.poles (d : DpiImage) : Nat := d.byte 0xA 2
/-- RETW (R334). -/
def DpiImage.retw (d : DpiImage) : Nat := d.byte 7 5
/-- RETR (R334). -/
def DpiImage.retr (d : DpiImage) : Nat := d.le 7 2 6

/-- ROUTE of KIND k + 1 and STEP s (R265). -/
def DpiImage.route (d : DpiImage) (k step : Nat) : Nat := d.byte 5 (16 * k + step)
/-- CKEY_HASH (R265). -/
def DpiImage.ckeyHash (d : DpiImage) : List Byte := (List.range 48).map (fun i => BitVec.ofNat 8 (d.byte 5 (0x40 + i)))

/-- REVMAX, REALLOC_STEP, WRMAX, SCAN_DAYS, SPARE_THR and OFFSTEP of the recovery table (R496). -/
def DpiImage.revMax (d : DpiImage) : Nat := d.le 13 2 0
/-- REALLOC_STEP. -/
def DpiImage.reallocStep (d : DpiImage) : Nat := d.byte 13 2
/-- WRMAX. -/
def DpiImage.wrMax (d : DpiImage) : Nat := d.byte 13 3
/-- SPARE_THR. -/
def DpiImage.spareThr (d : DpiImage) : Nat := d.byte 13 5
/-- OFFSTEP. -/
def DpiImage.offStep (d : DpiImage) : Nat := d.le 13 2 6
/-- The offset of a spare range record (R496). -/
def spareOff (n i : Nat) : Nat := 0x10 + 0x80 * n + 8 * i
/-- The used spare ranges of actuator n: surface, recording zone, tracks, first cylinder (R496). -/
def DpiImage.spares (d : DpiImage) (n : Nat) : List (Nat × Nat × Nat × Nat) :=
  (List.range 16).filterMap (fun i =>
    let o := spareOff n i
    if d.byte 13 o = 0xFF then none else some (d.byte 13 o, d.byte 13 (o + 1), d.le 13 2 (o + 2), d.le 13 3 (o + 4)))
/-- The spare sectors of pool n: every second track of its ranges, SPT sectors each (R483). -/
def DpiImage.spareSectors (d : DpiImage) (n : Nat) : Nat :=
  (d.spares n).foldl (fun acc r => acc + r.2.2.1 / 2 * d.spt r.1 r.2.1) 0

/-- Sector k of a list of spare ranges: surface, recording zone, cylinder and physical sector (R483). -/
def spareWalk (d : DpiImage) : List (Nat × Nat × Nat × Nat) → Nat → Option (Nat × Nat × Nat × Nat)
  | [], _ => none
  | r :: rest, k =>
    let spt := d.spt r.1 r.2.1
    let m := r.2.2.1 / 2 * spt
    if k < m then some (r.1, r.2.1, r.2.2.2 + 2 * (k / spt), k % spt) else spareWalk d rest (k - m)
/-- The place of spare sector k of pool n. -/
def DpiImage.spareAt (d : DpiImage) (n k : Nat) : Option (Nat × Nat × Nat × Nat) := spareWalk d (d.spares n) k

/-- RESTORE, OUT_RETRY and MP of the power table (R579). -/
def DpiImage.restore (d : DpiImage) : Nat := d.le 14 2 6
/-- OUT_RETRY. -/
def DpiImage.outRetry (d : DpiImage) : Nat := d.byte 14 5
/-- MP of a power state, in 0.01 W. -/
def DpiImage.maxPower (d : DpiImage) (ps : Nat) : Nat := d.le 14 2 (8 + 2 * ps)
/-- MODE_DEFAULT. -/
def DpiImage.modeDefault (d : DpiImage) : Nat := d.byte 14 4
/-- Whether mode record k is valid. -/
def DpiImage.modeValid (d : DpiImage) (k : Nat) : Bool := (d.le 14 2 2).testBit k
/-- Byte j of mode record k. -/
def DpiImage.mode (d : DpiImage) (k j : Nat) : Nat := d.byte 14 (0x120 + 16 * k + j)

/-- ACTPROF of actuator n in the referee table (R394). -/
def DpiImage.actProf (d : DpiImage) (n : Nat) : Nat := d.byte 9 (4 + n)

end Sys2Proof
end

