-- ==== Sys2Proof/Machine/Lane.lean ====
section
/-!
DEFINITION. Sys2Proof/Machine/Lane.lean: what the blocks of one lane share: the write inhibit and its sources (R321), the
effective gates and the laser level (R272, R318), staging pages and their tags, head sub-records, and the availability
of actuators and heads (R177, R180).
-/
namespace Sys2Proof.Machine

/-- The outcome codes of R213. -/
def Outc.writeInhibited : Nat := 3
/-- Aborted. -/
def Outc.aborted : Nat := 4
/-- Timeout. -/
def Outc.timeout : Nat := 5
/-- Machine check. -/
def Outc.machineCheck : Nat := 6
/-- Preamp fault. -/
def Outc.preampFault : Nat := 7
/-- No route. -/
def Outc.noRoute : Nat := 8
/-- Rejected. -/
def Outc.rejected : Nat := 9

/-! ### Head health (R331, R332) -/

/-- The health of head h (R331). -/
def State.head (s : State) (h : Nat) : HeadHealth :=
  (sparseFind h s.heads).getD ⟨0, 0, 0, 0, 0, 0, 0, 0, 0, false, false⟩

/-- A change of the health of head h. -/
def State.modHead (s : State) (h : Nat) (f : HeadHealth → HeadHealth) : State :=
  { s with heads := sparseInsert h (f (s.head h)) s.heads }

/-- A counter of RWCn raised, with its part of the health of the head that TRSn's operation uses. -/
def State.bumpHead (s : State) (n : Fin 4) (a : Nat) (f : HeadHealth → HeadHealth) : State :=
  (s.bump a).modHead (laneHead n (s.trs.get n).op.surf) f

/-! ### Gates, laser level, write inhibit -/

/-- The active write-inhibit sources of lane n, as a bit mask (R321). -/
def State.winh (s : State) (n : Fin 4) : Nat := s.fget (Reg.PAn_WINH_SRC n)

/-- Whether the masks of the servo window, the write inhibit and a masked sector leave the write gates open (R272, R296,
R297, R321). -/
def State.gatesOpen (s : State) (n : Fin 4) : Bool :=
  decide (s.winh n = 0) && ! (s.rwc.get n).svw && ! (s.rwc.get n).wmask

/-- The level of the LT pair: 2 Write, 1 Bias, 0 Off (R318); Off while AST_BASIC.ENABLE is 0, as an output of the block. -/
def State.ltLevel (s : State) (n : Fin 4) : Nat :=
  if ¬ s.fbit Reg.AST_BASIC_ENABLE then 0
  else if (s.pa.get n).window ∧ (s.trs.get n).ag ∧ s.gatesOpen n then 2
  else if s.fbit (Reg.AST_OPn_CTRL_BIAS n) ∧ s.winh n = 0 then 1
  else 0

/-- The state of the WD pair: 2 Data, 1 Neutral, 0 Idle (R311): Idle under write inhibit, and while PAn_BASIC.ENABLE is 0. -/
def State.wdState (s : State) (n : Fin 4) : Nat :=
  let t := s.trs.get n
  if s.winh n ≠ 0 ∨ ¬ t.pg ∨ ¬ s.fbit (Reg.PAn_BASIC_ENABLE n) then 0 else if t.wg ∧ s.gatesOpen n then 2 else 1

/-- How far Ln has run, in decks: the span boundaries it has passed, and its place in the span under way. -/
def State.laneRun (s : State) (n : Fin 4) : Nat := (s.atb.lanes.get n).spans * 2 ^ 22 + s.laneAngle n % 2 ^ 22

/-- The pulses of the LT pair in Write (R320): the period in bits, the phase after the bit boundary and the width in 1/64 bit; none where
Write is a steady level: MODE 0, or a WIDTH that fills the period. -/
def State.laserPulse (s : State) (n : Fin 4) : Option (Nat × Nat × Nat) :=
  let period := max 1 (s.fget (Reg.AST_OPn_MOD_PERIOD n))
  let width := s.fget (Reg.AST_OPn_MOD_WIDTH n)
  if s.fget (Reg.AST_OPn_MOD_MODE n) = 0 ∨ 64 * period ≤ width then none
  else some (min period 16, s.fget (Reg.AST_OPn_MOD_PHASE n), width)

/-- Keeps the count of R319: since where of Ln the laser has been in Write without leaving it. -/
def State.refreshLt (s : State) (n : Fin 4) : State :=
  let on := decide (s.ltLevel n = 2)
  s.modPa n (fun p =>
    { p with writeSince :=
        if on then (match p.writeSince with | some a => some a | none => some (s.laneRun n)) else none })

/-- Masks the write data, WG and AG until the sector's Parity element ends (R296, R297): the bits that have passed have left, the
others of the sector do not. -/
def State.maskWrite (s : State) (n : Fin 4) : State :=
  (s.modRwc n (fun c =>
    if c.wmask then c
    else
      { c with wmask := true, elems :=
          match c.elems with
          | e :: t => { e with cut := some (min e.bits (e.advance / (max 1 c.tb * 16))) } :: t
          | [] => [] })).refreshLt n

/-- The effect of write inhibit on the sector being written (R247, R296): outside the servo window it masks bits, so the sector is
masked to its Parity element's end and counted once, whether or not it was masked before. -/
def State.inhibitWrite (s : State) (n : Fin 4) : State :=
  let s := if (s.trs.get n).wg then s.modTrs n (fun t => { t with inhHit := true }) else s
  let c := s.rwc.get n
  if (s.trs.get n).wg ∧ c.elems ≠ [] ∧ c.sect.isSome ∧ c.svw = false ∧ c.inhCounted = false then
    ((s.bumpHead n (Reg.RWCn_INHHIT n) (fun h => { h with inhHit := h.inhHit + 1 })).modRwc n
      (fun c => { c with inhCounted := true })).maskWrite n
  else s

/-- A write-inhibit source of lane n becomes active (R321): shown, latched, counted, and the write under way is
inhibited. -/
def State.winhOn (s : State) (n : Fin 4) (bit : Nat) : State :=
  let src := s.winh n
  if src.testBit bit then s
  else
    let s := if src = 0 then s.modPa n (fun p => { p with inhSince := some s.cycle }) else s
    let s := s.fput (Reg.PAn_WINH_SRC n) (src + 2 ^ bit)
    let s := s.fput (Reg.PAn_WINH_LATCH_SRC n) (s.fget (Reg.PAn_WINH_LATCH_SRC n) ||| 2 ^ bit)
    let s := if bit < 9 then s.bump (Reg.PAn_INHi n bit) else s
    (s.inhibitWrite n).refreshLt n

/-- A write-inhibit source of lane n becomes inactive. -/
def State.winhOff (s : State) (n : Fin 4) (bit : Nat) : State :=
  let src := s.winh n
  if ¬ src.testBit bit then s
  else
    let s := s.fput (Reg.PAn_WINH_SRC n) (src - 2 ^ bit)
    let s := if src = 2 ^ bit then s.modPa n (fun p => { p with inhSince := none }) else s
    s.refreshLt n

/-- A source set on or off as a condition holds. -/
def State.winhSet (s : State) (n : Fin 4) (bit : Nat) (on : Bool) : State :=
  if on then s.winhOn n bit else s.winhOff n bit

/-- PAn_CTRL.FORCE set or cleared with its source (R321, bit 9); in Fault Stop it cannot be cleared (R491). -/
def State.forceWrites (s : State) (n : Fin 4) (on : Bool) : State :=
  if on then (s.fput (Reg.PAn_CTRL_FORCE n) 1).winhOn n 9
  else if s.recov.stopped then s
  else (s.fput (Reg.PAn_CTRL_FORCE n) 0).winhOff n 9

/-- Commands in PAn's queue and under way. -/
def State.paCount (s : State) (n : Fin 4) : Nat :=
  (s.pa.get n).queue.length + (if (s.pa.get n).flight.isSome then 1 else 0)

/-- Preamp commands of TRSn not yet acknowledged (WAIT 0x7, R235). -/
def State.paTrsCount (s : State) (n : Fin 4) : Nat :=
  let own (c : PaCmd) : Bool := decide (c.origin = .trs)
  ((s.pa.get n).queue.filter own).length +
    (match (s.pa.get n).flight with | some (c, _) => if own c then 1 else 0 | none => 0)

/-- Whether TRSn runs an operation. -/
def State.trsRunning (s : State) (n : Fin 4) : Bool :=
  decide ((s.trs.get n).st = .running) || decide ((s.trs.get n).st = .held)

/-- Abort pending set for TRSn (R249): it matters only while an operation runs. -/
def State.trsAbort (s : State) (n : Fin 4) : State :=
  if s.trsRunning n then s.modTrs n (fun t => { t with abortP := true }) else s

/-! ### Staging pages (R33, spec/08_read_write_channel.md) -/

/-- The address of staging page p. -/
def pageAddr (p : Nat) : Nat := 0x10800000 + 4096 * (p % 3072)
/-- The address of its tag. -/
def tagAddr (p : Nat) : Nat := 0x115F8000 + 8 * (p % 3072)

/-- The tag of a staging page. -/
def State.pageTag (s : State) (p : Nat) : Nat := s.memLe 8 (tagAddr p)

/-- The listed bytes of a staging page and of its tag, as offsets 0 to 4,103 of the payload (R293). -/
def State.pagePayload (s : State) (p : Nat) : List (Nat × Byte) :=
  s.memListed (pageAddr p) 4096 ++ (s.memListed (tagAddr p) 8).map (fun kb => (4096 + kb.1, kb.2))

/-- Stores 4,096 data bytes (a shorter list ends in zeros) and a tag in a staging page. -/
def State.storePage (s : State) (p : Nat) (bytes : List Byte) (tag : Nat) : State :=
  let s := ((s.memClear (pageAddr p) 4096).memPuts (pageAddr p) (bytes.take 4096)).memTouch (pageAddr p) 4096
  s.memStore (tagAddr p) (leBytes tag 8)

/-- Stores the track-parity accumulator of RWCn in a staging page (R293). -/
def State.storeParity (s : State) (n : Fin 4) (p : Nat) : State :=
  let s' := (s.memClear (pageAddr p) 4096).memClear (tagAddr p) 8
  let s := (s.rwc.get n).parity.foldl (fun s kb =>
    if kb.1 < 4096 then s.memPut (pageAddr p + kb.1) kb.2 else s.memPut (tagAddr p + (kb.1 - 4096)) kb.2) s'
  (s.memTouch (pageAddr p) 4096).memTouch (tagAddr p) 8

/-- A byte of the head sub-record of the descriptor TRSn runs (R301, R309). -/
def State.headRec (s : State) (n : Fin 4) (off : Nat) : Byte :=
  (s.rwc.get n).head.getD off 0#8

/-- The 32 bytes of the head sub-record of a descriptor, none where it lies outside the tables region (R301). -/
def State.fetchHead (s : State) (n : Fin 4) (d : OpDesc) : List Byte :=
  let a := s.fget (Reg.RWCn_ZBASE_ADDR n) * 4096 + 0x1000 * d.surf + 0x40 * d.rz + 0x20 * (n.val / 2)
  if 0x11480000 ≤ a ∧ a + 32 ≤ 0x11600000 then s.memBytes 32 a else []

/-! ### Health, routes, leases -/

/-- Whether actuator n can write a surface (R177, R180): Available, its head not retired for writing. -/
def State.canWrite (s : State) (n : Fin 4) (surf : Nat) : Bool :=
  decide (s.msc.avail.get n = .available) && ! (s.head (laneHead n surf)).retWrite

/-- Whether actuator n can read a surface (R177, R180): Available or Degraded, its head not retired for reading. -/
def State.canRead (s : State) (n : Fin 4) (surf : Nat) : Bool :=
  (decide (s.msc.avail.get n = .available) || decide (s.msc.avail.get n = .degraded)) &&
    ! (s.head (laneHead n surf)).retRead

/-- Whether actuator n may perform an operation of the surface and direction. -/
def State.mayRun (s : State) (n : Fin 4) (d : OpDesc) : Bool :=
  if d.isWrite then s.canWrite n d.surf else s.canRead n d.surf

/-- The two actuators that reach a surface (R5). -/
def surfActuators (surf : Nat) : Fin 4 × Fin 4 := if surf < 10 then (0, 2) else (1, 3)

/-- Whether actuator n can write (read) a surface now or after loading (R177, R180): Parked counts, for it may be loaded. -/
def State.couldReach (s : State) (write : Bool) (n : Fin 4) (surf : Nat) : Bool :=
  let h := s.head (laneHead n surf)
  match s.msc.avail.get n with
  | .out => false
  | .degraded => ! write && ! h.retRead
  | _ => if write then ! h.retWrite else ! h.retRead

/-- Whether some actuator can write a surface (R169, R179). -/
def State.surfWritable (s : State) (surf : Nat) : Bool :=
  s.couldReach true (surfActuators surf).1 surf || s.couldReach true (surfActuators surf).2 surf

/-- Whether some actuator can read a surface. -/
def State.surfReadable (s : State) (surf : Nat) : Bool :=
  s.couldReach false (surfActuators surf).1 surf || s.couldReach false (surfActuators surf).2 surf

/-- COND 0xE: lease valid (R173). -/
def State.leaseValid (s : State) (n : Fin 4) : Bool :=
  let d := (s.trs.get n).op
  if d.noBand ∨ ¬ d.isWrite then true
  else
    let margin := max 3 (s.fget Reg.MSC_LEASE_CFG_MARGIN)
    s.msc.leases.any (fun l =>
      decide (l.surf = d.surf ∧ l.band = d.bandNo ∧ l.holder = n ∧ s.linStamp + margin * 2 ^ 22 ≤ l.expiry))

end Sys2Proof.Machine
end

