-- ==== Sys2Proof/Machine/HostOps.lean ====
section
/-!
DEFINITION. Sys2Proof/Machine/HostOps.lean: the operations on host commands that other blocks use: statuses (R152),
contexts and their outcomes, lock release (R132), asynchronous events (R118), firmware posts, deferred error records
(R143 to R146), and the marks on blocks.
-/
namespace Sys2Proof.Machine

/-! ### Status codes (R152) -/

/-- Successful Completion. -/
def St.success : Status := ⟨0, 0x00, false, false⟩
/-- Invalid Command Opcode. -/
def St.invalidOpcode : Status := ⟨0, 0x01, true, false⟩
/-- Invalid Field in Command. -/
def St.invalidField : Status := ⟨0, 0x02, true, false⟩
/-- Command ID Conflict. -/
def St.cidConflict : Status := ⟨0, 0x03, true, false⟩
/-- Data Transfer Error. -/
def St.transferError : Status := ⟨0, 0x04, false, true⟩
/-- Commands Aborted due to Power Loss Notification. -/
def St.powerLossAbort : Status := ⟨0, 0x05, false, false⟩
/-- Internal Error. -/
def St.internalError : Status := ⟨0, 0x06, true, true⟩
/-- Command Aborted due to SQ Deletion. -/
def St.sqDeleted : Status := ⟨0, 0x08, false, false⟩
/-- Invalid Namespace or Format. -/
def St.invalidNs : Status := ⟨0, 0x0B, true, false⟩
/-- Command Sequence Error. -/
def St.sequenceError : Status := ⟨0, 0x0C, true, false⟩
/-- Sanitize In Progress. -/
def St.sanitizing : Status := ⟨0, 0x1D, false, false⟩
/-- LBA Out of Range. -/
def St.lbaRange : Status := ⟨0, 0x80, true, false⟩
/-- Capacity Exceeded. -/
def St.capacity : Status := ⟨0, 0x81, true, false⟩
/-- Namespace Not Ready. -/
def St.notReady : Status := ⟨0, 0x82, false, false⟩
/-- Reservation Conflict. -/
def St.reservation : Status := ⟨0, 0x83, true, false⟩
/-- Format In Progress. -/
def St.formatting : Status := ⟨0, 0x84, false, false⟩
/-- Zone Boundary Error. -/
def St.zoneBoundary : Status := ⟨1, 0xB8, true, false⟩
/-- Zone Is Full. -/
def St.zoneFull : Status := ⟨1, 0xB9, true, false⟩
/-- Zone Is Read Only. -/
def St.zoneReadOnly : Status := ⟨1, 0xBA, true, false⟩
/-- Zone Is Offline. -/
def St.zoneOffline : Status := ⟨1, 0xBB, true, false⟩
/-- Zone Invalid Write. -/
def St.zoneInvalidWrite : Status := ⟨1, 0xBC, true, false⟩
/-- Too Many Active Zones. -/
def St.manyActive : Status := ⟨1, 0xBD, true, false⟩
/-- Too Many Open Zones. -/
def St.manyOpen : Status := ⟨1, 0xBE, true, false⟩
/-- Invalid Zone State Transition. -/
def St.zoneTransition : Status := ⟨1, 0xBF, true, false⟩
/-- Write Fault. -/
def St.writeFault : Status := ⟨2, 0x80, false, true⟩
/-- Unrecovered Read Error. -/
def St.readError : Status := ⟨2, 0x81, true, true⟩
/-- Access Denied. -/
def St.accessDenied : Status := ⟨2, 0x86, true, false⟩
/-- Deallocated or Unwritten Logical Block. -/
def St.unwritten : Status := ⟨2, 0x87, true, false⟩
/-- Deferred Write Fault. -/
def St.deferred : Status := ⟨7, 0xC1, false, true⟩
/-- Write Inhibited. -/
def St.writeInhibited : Status := ⟨7, 0xC2, false, true⟩
/-- Actuator Unavailable. -/
def St.noActuator : Status := ⟨7, 0xC3, false, true⟩
/-- Compressed Zone Full. -/
def St.compressedFull : Status := ⟨7, 0xC4, true, false⟩
/-- Not Configuration Owner. -/
def St.notOwner : Status := ⟨7, 0xC5, true, false⟩
/-- Microcode Check. -/
def St.microcode : Status := ⟨7, 0xC6, false, true⟩
/-- Peak Window Throttled. -/
def St.peakThrottled : Status := ⟨7, 0xC7, false, false⟩

/-! ### Contexts -/

/-- The context of an arrival number. -/
def State.ctx (s : State) (a : Nat) : Option Ctx := s.host.ctxs.find? (fun c => decide (c.arr = a))

/-- The context of an arrival number changed. -/
def State.modCtx (s : State) (a : Nat) (f : Ctx → Ctx) : State :=
  s.modHost (fun h => { h with ctxs := h.ctxs.map (fun c => if c.arr = a then f c else c) })

/-- RLT entries in use: held or reserved by contexts (RLT_USED, R137). -/
def State.rltUsed (s : State) : Nat := s.host.ctxs.foldl (fun acc c => acc + c.rlt) 0

/-- RLT_USED and RLT_HIGH after a change. -/
def State.refreshRlt (s : State) : State :=
  let u := s.rltUsed
  let s := s.fput Reg.RLT_USED_COUNT u
  s.fput Reg.RLT_HIGH_COUNT (max u (s.fget Reg.RLT_HIGH_COUNT))

/-- Releases the locks of a command and the RLT entries it holds (R132). -/
def State.releaseLocks (s : State) (a : Nat) : State :=
  (s.modCtx a (fun c => { c with locks := [], rlt := 0 })).refreshRlt

/-- Adds an Error Information log entry on a controller; the newest 64 are kept (R119). -/
def State.logError (s : State) (m : Fin 2) (e : ErrInfo) : State :=
  s.modHost (fun h => { h with ctrls := h.ctrls.modify m (fun c => { c with errLog := (e :: c.errLog).take 64 }) })

/-- Whether an opcode is an admin command's, for the release of namespace-wide locks at the completion's post (R132). -/
def Ctx.isAdmin (c : Ctx) : Bool := decide (c.sqid = 0)

/-- Fixes the outcome of a command (R153: the first fixed stands): its completion waits to be posted, its zone tail and
locks are released (an admin command's locks only when the completion is posted, R132), and a status with More = 1 gets
an Error Information log entry. -/
def State.finishNs (s : State) (a : Nat) (st : Status) (dw0 dw1 nsid lba vendor : Nat) : State :=
  match s.ctx a with
  | none => s
  | some c =>
    if c.status.isSome then s
    else
      let st := if s.recov.stopped then St.internalError else st
      let s := s.modCtx a (fun c =>
        { c with status := some st, dw0 := dw0, dw1 := dw1, committed := true, tail := false, zone := none,
                 stallWc := false, media := 0 })
      let s := if c.isAdmin then s else s.releaseLocks a
      if st.more then s.logError c.ctrl ⟨c.sqid, c.sqe.cid, st, nsid, lba, vendor⟩ else s

/-- The same, with the command's own namespace in the log entry. -/
def State.finish (s : State) (a : Nat) (st : Status) (dw0 dw1 lba vendor : Nat) : State :=
  s.finishNs a st dw0 dw1 (match s.ctx a with | some c => c.sqe.nsid | none => 0) lba vendor

/-- Ends a command with a status and dwords 0 and 1 of zeros. -/
def State.endWith (s : State) (a : Nat) (st : Status) : State :=
  s.finish a st 0 0 (match s.ctx a with | some c => c.slba | none => 0) 0

/-- Ends a command successfully with a completion dword 0. -/
def State.endOk (s : State) (a dw0 : Nat) : State := s.finish a St.success dw0 0 0 0

/-! ### Firmware posts and asynchronous events -/

/-- A firmware post (R498): line 0x40, no instance, cause word 0xFFFF_0000 | CODE, the CODE free for a rule that does not
give one. -/
def State.fwPost (s : State) (rule : Nat) (sev : Sev) (cls : Option ErrClass) (pay : List Byte) : State :=
  s.offer 0x40 0xFFFF (0xFFFF0000 + Config.fwCode rule % 65536) sev cls pay

/-- Whether the Asynchronous Event Configuration of a controller enables an event of a type and information (R118): the
SMART bits 0 to 4, and the Notice bits 8, 9 and 27 as NVMe 2.0 Base places them; Error and vendor events are always
enabled (notes/assumptions/7.md). -/
def Ctrl.eventOn (c : Ctrl) (ty info : Nat) : Bool :=
  if ty = 1 then c.aec.testBit (if info = 0 then 2 else if info = 1 then 1 else 0)
  else if ty = 2 then c.aec.testBit (if info = 0 then 8 else if info = 1 then 9 else 27)
  else true

/-- Reports an asynchronous event on a controller (R118): the oldest outstanding request completes with type, information
and log page in completion dword 0; with none outstanding the event waits, once. -/
def State.asyncEvent (s : State) (m : Fin 2) (ty info lid : Nat) : State :=
  let c := s.host.ctrls.get m
  let dw := ty + 256 * info + 65536 * lid
  if ¬ c.eventOn ty info then s
  else
    match c.aers with
    | a :: rest =>
      let s := s.modHost (fun h => { h with ctrls := h.ctrls.modify m (fun c => { c with aers := rest }) })
      s.endOk a dw
    | [] =>
      if c.events.any (fun e => decide (e.1 = dw)) then s
      else s.modHost (fun h => { h with ctrls := h.ctrls.modify m (fun c => { c with events := c.events ++ [(dw, lid)] }) })

/-- Whether the part runs in single x4 mode (R81). -/
def State.singleX4 (s : State) : Bool := s.fbit Reg.HQE_PORTCFG_MODE

/-- MSI-X vectors of a function (R81). -/
def State.vectors (s : State) : Nat := if s.singleX4 then 2048 else 1024

/-- The controllers the port mode gives (R81). -/
def State.controllers (s : State) : List (Fin 2) := if s.singleX4 then [0] else [0, 1]

/-- Whether an abrupt shutdown is under way: no further dirty data is written (R109). -/
def State.abrupt (s : State) : Bool :=
  s.controllers.any (fun m => decide ((s.host.ctrls.get m).shn = 2) && decide ((s.host.ctrls.get m).shst = 1))

/-- Reports an asynchronous event on every controller. -/
def State.asyncAll (s : State) (ty info lid : Nat) : State :=
  s.controllers.foldl (fun s m => s.asyncEvent m ty info lid) s

/-- A vendor asynchronous event (type 0x7) for a log page, on every controller (R118). -/
def State.vendorEvent (s : State) (lid : Nat) : State := s.asyncAll 7 lid lid

/-! ### Namespaces and blocks -/

/-- The namespace of an NSID. -/
def State.nspace (s : State) (nsid : Nat) : Option Ns := s.ns.list.find? (fun n => decide (n.nsid = nsid))

/-- A change of the media side. -/
def State.modNsSt (s : State) (f : NsSt → NsSt) : State := { s with ns := f s.ns }

/-- A change of one namespace. -/
def State.modNs (s : State) (nsid : Nat) (f : Ns → Ns) : State :=
  s.modNsSt (fun x => { x with list := x.list.map (fun n => if n.nsid = nsid then f n else n) })

/-- A zone that was never written. -/
def Zone.fresh : Zone :=
  ⟨.empty, 0, 0, none, ⟨0, 0, [], none, true, 0, 0, 0, false, false, 0, 0, 0, [], [], [], [], [], []⟩⟩

/-- Zone z of a namespace. -/
def Ns.zone (n : Ns) (z : Nat) : Zone := (sparseFind z n.zones).getD Zone.fresh

/-- Zone z of a namespace replaced; a fresh zone is not listed. -/
def Ns.setZone (n : Ns) (z : Nat) (v : Zone) : Ns :=
  { n with zones := if v = Zone.fresh then sparseErase z n.zones else sparseInsert z v n.zones }

/-- The key of a block. -/
def blockKey (nsid lba : Nat) : Nat := nsid * 2 ^ 40 + lba

/-- The block of a namespace and LBA, if it holds data. -/
def State.block (s : State) (nsid lba : Nat) : Option Block := sparseFind (blockKey nsid lba) s.ns.blocks

/-- A block stored. -/
def State.putBlock (s : State) (nsid lba : Nat) (b : Block) : State :=
  s.modNsSt (fun x => { x with blocks := sparseInsert (blockKey nsid lba) b x.blocks })

/-- What the medium holds of a block: its data when it is not dirty, nothing when it is write-failed. -/
def State.medium (s : State) (nsid lba : Nat) : Option (List Byte) :=
  match s.block nsid lba with
  | none => none
  | some b => if b.dirty then b.med else if b.failed ∨ b.unrec then none else some b.data

/-- The status of a command that no actuator can serve: Actuator Unavailable (R179), or, without a DPI, Namespace Not Ready
(R587). -/
def State.unreachable (s : State) : Status := if s.fget Reg.SYS_BOOT_MODE = 2 then St.notReady else St.noActuator

/-- The blocks of a range changed; the others stand. -/
def State.mapBlocks (s : State) (nsid lo n : Nat) (f : Block → Block) : State :=
  s.modNsSt (fun x => { x with blocks := x.blocks.map (fun kb =>
    if blockKey nsid lo ≤ kb.1 ∧ kb.1 < blockKey nsid lo + n then (kb.1, f kb.2) else kb) })

/-- The UNREC entries of a range's blocks are removed from the grown defect list: the blocks are rewritten, deallocated or erased
(R488). -/
def State.pruneUnrec (s : State) (nsid lo n : Nat) : State :=
  { s with recov := { s.recov with grown := s.recov.grown.filter (fun g =>
      g.spare.isSome || ! (match g.lba with | some (m, k) => decide (m = nsid) && decide (lo ≤ k) && decide (k < lo + n)
                                            | none => false)) } }

/-- The blocks of a range removed: never written, or deallocated. -/
def State.dropBlocks (s : State) (nsid lo n : Nat) : State :=
  (s.modNsSt (fun x => { x with blocks := x.blocks.filter (fun kb =>
    ! (decide (blockKey nsid lo ≤ kb.1) && decide (kb.1 < blockKey nsid lo + n))) })).pruneUnrec nsid lo n

/-- A write-failed block (R143): no data, not dirty. -/
def Block.fail (b : Block) : Block := { b with data := [], dirty := false, failed := true }

/-- A write-failed block of which nothing else is known: no data reached the medium, and no write is named (R143). -/
def Block.lost : Block := ⟨[], false, 0, 0xFFFF, 0xFFFF, 0xFFFF, true, false, 0, none, none, false⟩

/-- The blocks of a range become write-failed, those that hold nothing too (R143). -/
def State.failBlocks (s : State) (nsid lo n : Nat) : State :=
  let none := (List.range n).filter (fun i => (s.block nsid (lo + i)).isNone)
  none.foldl (fun s i => s.putBlock nsid (lo + i) Block.lost) (s.mapBlocks nsid lo n Block.fail)

/-- The dirty blocks of the write cache (R107). -/
def State.dirtyCount (s : State) : Nat := s.ns.blocks.countP (fun kb => kb.2.dirty)

/-! ### Deferred error records (R143 to R146) -/

/-- The 64 bytes of a deferred error record (R144). -/
def DeRec.bytes (r : DeRec) : List Byte :=
  let l := leBytes r.seq 8 ++ leBytes r.stamp 8 ++ leBytes r.slba 8 ++ leBytes r.nlb 4 ++ leBytes r.nsid 4 ++ leBytes r.arr 8 ++
    leBytes r.ctrl 2 ++ leBytes r.sqid 2 ++ leBytes r.cid 2 ++ leBytes r.cause 1 ++
    leBytes (bitAt 0 (r.del.get 0) + bitAt 1 (r.del.get 1) + bitAt 2 r.returned) 1 ++ leBytes 2 1 ++ leBytes 1 1 ++
    leBytes r.media 2 ++ leBytes r.act 1 ++ leBytes r.head 1 ++ leBytes 0 2
  l ++ leBytes (crc32c l) 4 ++ leBytes 0 4

/-- The number that marks the system-area write of the deferred error records up to a SEQ (R146). -/
def deVer (seq : Nat) : Nat := 2 ^ 42 + seq

/-- Records not yet delivered on a controller to which they are addressed (R149). -/
def State.pendingDe (s : State) (m : Fin 2) : List DeRec :=
  s.host.de.filter (fun r => r.att.get m && ! r.del.get m)

/-- HQE_DE_PENDm of both controllers; in single x4 mode HQE_DE_PEND1 is 0 (R155). -/
def State.refreshDe (s : State) : State :=
  (s.fput (Reg.HQE_DE_PENDn_COUNT 0) (s.pendingDe 0).length).fput (Reg.HQE_DE_PENDn_COUNT 1)
    (if s.singleX4 then 0 else (s.pendingDe 1).length)

/-- Creates the record of a failed range of one namespace and one cause (R143 to R146): its blocks become write-failed; the
latest write in arrival order whose data is lost names the command; the flushes that cover such a write remember the
record (R149); with 1,024 records held none is created. A failure that continues the range of the newest record, of the same cause,
status, actuator and head, and not yet delivered, extends that record, since R143 has one for each contiguous range
(notes/assumptions/39.md). -/
def State.deRecord (s : State) (nsid slba nlb cause media act head : Nat) : State :=
  let inRange (kb : Nat × Block) : Bool :=
    decide (blockKey nsid slba ≤ kb.1) && decide (kb.1 < blockKey nsid slba + nlb)
  let lost := s.ns.blocks.filter inRange
  let last := lost.foldl (fun (acc : Option Block) kb =>
    match acc with
    | none => some kb.2
    | some b => if b.arr < kb.2.arr then some kb.2 else acc) none
  let s := s.failBlocks nsid slba nlb
  let more (r : DeRec) : Bool :=
    decide (r.seq + 1 = s.host.deSeq) && decide (r.nsid = nsid) && decide (r.slba + r.nlb = slba) && decide (r.nlb + nlb < 2 ^ 32) &&
      decide (r.cause = cause) && decide (r.media = media) && decide (r.act = act) && decide (r.head = head) && decide (r.del = Duo.all false)
  if s.host.de.any more then
    let stamp := s.stamp
    let ext (r : DeRec) : DeRec :=
      let r := { r with nlb := r.nlb + nlb, stamp := stamp, saved := false }
      match last with
      | some b => if r.arr < b.arr then { r with arr := b.arr, ctrl := b.ctrl, sqid := b.sqid, cid := b.cid } else r
      | none => r
    s.modHost (fun h => { h with de := h.de.map (fun r => if more r then ext r else r) })
  else if 1024 ≤ s.host.de.length then
    let s := s.modHost (fun h => { h with overflow := true })
    (s.bump Reg.HQE_DE_LOST).note Reg.HQE_DE_LOST .fault
  else
    let att := match s.nspace nsid with | some n => n.att | none => Duo.all false
    let r : DeRec :=
      { seq := s.host.deSeq, stamp := s.stamp, slba := slba, nlb := nlb, nsid := nsid,
        arr := last.elim 0 (·.arr), ctrl := last.elim 0xFFFF (·.ctrl), sqid := last.elim 0xFFFF (·.sqid),
        cid := last.elim 0xFFFF (·.cid), cause := cause, del := Duo.all false, att := att, returned := false,
        media := media, act := act, head := head, saved := false }
    let arrs := lost.map (·.2.arr)
    let s := s.modHost (fun h => { h with
      de := h.de ++ [r], deSeq := h.deSeq + 1,
      ctxs := h.ctxs.map (fun c =>
        if c.sqe.opc = 0 ∧ ¬ c.isAdmin ∧ arrs.any (fun x => decide (x < c.arr)) ∧
            (c.sqe.nsid = nsid ∨ c.sqe.nsid = 0xFFFFFFFF) then { c with covered := c.covered ++ [r.seq] } else c) })
    let s := s.refreshDe
    let s := s.offer 7 0xFFFF (0x50 + 2 ^ 21) .fault (some .de) []
    ([0, 1] : List (Fin 2)).foldl (fun s m => if att.get m then s.asyncEvent m 7 0xC0 0xC0 else s) s

/-- The contiguous runs of a range, as (offset, blocks), whose data an operation posted at block store number `ver` carried and no later
write replaces (R133). -/
def State.lostRuns (s : State) (nsid lo n ver : Nat) : List (Nat × Nat) :=
  (List.range n).foldr (fun i l =>
    if (s.block nsid (lo + i)).any (fun b => decide (b.seq ≤ ver)) then
      (match l with
       | (j, k) :: t => if j = i + 1 then (i, k + 1) :: t else (i, 1) :: l
       | [] => [(i, 1)])
    else l) []

/-- The records of a range longer than a record's NLB can hold (R145). -/
def State.createRecords (s : State) (nsid slba nlb cause media act head : Nat) : State :=
  let whole := nlb / (2 ^ 32 - 1)
  let rest := nlb % (2 ^ 32 - 1)
  let s := (List.range whole).foldl (fun s i =>
    s.deRecord nsid (slba + i * (2 ^ 32 - 1)) (2 ^ 32 - 1) cause media act head) s
  if rest = 0 then s else s.deRecord nsid (slba + whole * (2 ^ 32 - 1)) rest cause media act head

/-- The records of what is lost of a range that an operation posted at block store number `ver` could not place (R133, R143). -/
def State.recordLost (s : State) (nsid lo n ver cause media act head : Nat) : State :=
  (s.lostRuns nsid lo n ver).foldl (fun s r => s.createRecords nsid (lo + r.1) r.2 cause media act head) s

/-- One step of `dirtyRanges`: a dirty block extends the last range when it follows on in its namespace. -/
def addDirty (acc : List (Nat × Nat × Nat)) (kb : Nat × Block) : List (Nat × Nat × Nat) :=
  if ¬ kb.2.dirty then acc
  else
    let nsid := kb.1 / 2 ^ 40
    let lba := kb.1 % 2 ^ 40
    match acc with
    | (n, lo, len) :: rest => if n = nsid ∧ lo + len = lba then (n, lo, len + 1) :: rest else (nsid, lba, 1) :: acc
    | [] => [(nsid, lba, 1)]

/-- The contiguous ranges of dirty blocks, as (namespace, first LBA, blocks). -/
def State.dirtyRanges (s : State) : List (Nat × Nat × Nat) := (s.ns.blocks.foldl addDirty []).reverse

end Sys2Proof.Machine
end

