-- ==== Sys2Proof/Machine/Layout.lean ====
section
/-!
DEFINITION. Sys2Proof/Machine/Layout.lean: the sector layout of bands and sub-bands (R166, R167), the classes of a track's
sectors (R245), and the final sectors of a compressed zone (R441).
-/
namespace Sys2Proof.Machine

/-- The recording zone and the first cylinder of a full band of a surface: bands in rising cylinder order (R166). -/
def bandStart (d : DpiImage) (surf band : Nat) : Option (Nat × Nat) :=
  match d.bandZone surf band with
  | none => none
  | some rz =>
    let before := (List.range rz).foldl (fun acc k => acc + d.bands surf k) 0
    some (rz, d.firstCyl surf rz + (band - before) * d.bt surf rz)

/-- What a sector of a band is (R167): data sector k of the band or sub-band, the parity sector of a group, or unwritten. -/
inductive SectorUse where
  | data (k : Nat)
  | parity
  | unused
  deriving DecidableEq, Repr

/-- Sector i of the used sectors of a band or sub-band with track parity on: groups of 64 data sectors, each followed by its
parity sector; of n sectors, the last is the parity sector of a group that is not whole (R167). -/
def groupUse (n i : Nat) : SectorUse :=
  if n ≤ i then .unused
  else if i % 65 = 64 ∨ i + 1 = n then .parity
  else .data (64 * (i / 65) + i % 65)

/-- What sector `sec` (its ordinal among the sectors in use of its track) of track `track` of a band is (R167), for a namespace
of a kind, RATIO and NOPARITY: the sub-band, and the use. -/
def bandSector (n : Ns) (bt spt guard track sec : Nat) : Nat × SectorUse :=
  match n.kind with
  | .compressed =>
    let w := bt / max 1 n.ratio
    let sub := track / max 1 w
    let total := (w - guard) * spt
    let i := (track - sub * w) * spt + sec
    if n.ratio ≤ sub ∨ total ≤ i then (sub, .unused)
    else (sub, if n.noParity then .data i else groupUse total i)
  | _ =>
    let i := track * spt + sec
    (0, if i < 66560 then groupUse 66560 i else .unused)

/-- The class of a physical sector: 0 D, 1 P, 2 X (R245). -/
def sectorClass (sk : Option SkipList) (q : Nat) : Nat :=
  match sk with
  | none => 0
  | some k =>
    if k.defs.contains q then 2
    else
      let o := q - (k.defs.filter (fun d => decide (d < q))).length
      if k.pfirst ≠ 0xFFFF ∧ k.pfirst ≤ o ∧ o ≤ k.plast ∧ (o - k.pfirst) % 65 = 0 then 1 else 0

/-- The ordinal of a physical sector among the sectors of its track that are not defective. -/
def slipOrdinal (sk : Option SkipList) (q : Nat) : Nat :=
  match sk with
  | none => q
  | some k => q - (k.defs.filter (fun d => decide (d < q))).length

/-- The compressed zones bound to a full band of a surface: namespace, sub-band and zone. -/
def State.compressedAt (s : State) (surf band : Nat) : List (Ns × Nat × Zone) :=
  s.ns.list.flatMap (fun n => n.zones.filterMap (fun z =>
    match n.kind, z.2.band with
    | .compressed, some (sf, b, i) => if sf = surf ∧ b = band then some (n, i, z.2) else none
    | _, _ => none))

/-- Whether a physical sector of an operation's track is final, as far as the CXE fills it (R441): a data sector of a bound
compressed zone is final when the completed blocks of the zone's stream reach its end; a write's data enters the stream at its
commit point only. Every other sector is filled by no CXE, and holds its data before the operation is posted (R33). -/
def State.finalSector (s : State) (d : OpDesc) (sk : Option SkipList) (q : Nat) : Bool :=
  if d.noBand then true
  else
    match bandStart s.dpi d.surf d.bandNo with
    | none => true
    | some (rz, first) =>
      (s.compressedAt d.surf d.bandNo).all (fun z =>
        match bandSector z.1 (s.dpi.bt d.surf rz) (s.dpi.spt d.surf rz) s.dpi.guard (d.cyl - first) (slipOrdinal sk q) with
        | (sub, .data k) => ! decide (sub = z.2.1) || decide (4096 * (k + 1) ≤ z.2.2.comp.b)
        | _ => true)

/-- The physical sectors of an operation's range that hold data, in range order (R245). -/
def rangeSectors (spt : Nat) (d : OpDesc) (sk : Option SkipList) : List Nat :=
  ((List.range (max 1 spt)).map (fun i => (d.first + i) % max 1 spt)).filter (fun q => decide (sectorClass sk q = 0))

/-- Whether a page of an operation holds a final sector (R235 0xA, R441). -/
def State.pageFinal (s : State) (d : OpDesc) (sk : Option SkipList) (spt page : Nat) : Bool :=
  match (rangeSectors spt d sk)[(page + 3072 - d.buf % 3072) % 3072]? with
  | some q => s.finalSector d sk q
  | none => true

/-- Whether every sector of an operation is final (R441). -/
def State.opFinal (s : State) (d : OpDesc) (sk : Option SkipList) (spt : Nat) : Bool :=
  ((rangeSectors spt d sk).take d.count).all (fun q => s.finalSector d sk q)

end Sys2Proof.Machine
end

