-- ==== Sys2Proof/Machine/Fault.lean ====
section
/-!
DEFINITION. Sys2Proof/Machine/Fault.lean: the availability of actuators (R215, R216, R569), the fault depth and Fault Stop
(R490, R491), and the retract path (R424, R425).
-/
namespace Sys2Proof.Machine

/-- A change of servo pair n. -/
def State.modPair (s : State) (n : Fin 4) (f : PairSt → PairSt) : State := { s with pair := s.pair.modify n f }

/-! ### Outcome records and operations that end without running -/

/-- Writes an outcome record (R213). -/
def State.outcome (s : State) (r : OutcomeRec) : State :=
  s.modMsc (fun m => { m with outcomes := m.outcomes ++ [r] })

/-- One media operation of a command has ended: its first failure is kept; with none left the outcome is fixed, with the
failure if there was one (R104). -/
def State.mediaDone (s : State) (a : Nat) (bad : Option Status) (lba : Nat) : State :=
  let s := s.modCtx a (fun c =>
    { c with media := c.media - 1, bad := c.bad.orElse (fun _ => bad),
             badLba := if c.bad.isNone ∧ bad.isSome then lba else c.badLba })
  match s.ctx a with
  | none => s
  | some c =>
    if 0 < c.media ∨ c.status.isSome then s
    else
      match c.bad with
      | some st => s.finish a st 0 0 c.badLba 0
      | none => if c.sqe.opc = 2 ∧ ¬ c.isAdmin then s else s.finish a St.success c.dw0 c.dw1 0 0

/-- Whether actuator n has a route for an operation now or after loading (R177, R216). -/
def State.routable (s : State) (n : Fin 4) (d : OpDesc) : Bool := s.couldReach d.isWrite n d.surf

/-! ### Operations under recovery (R478, R480, R484) -/

/-- A change of the recovery state. -/
def State.modRec (s : State) (f : RecSt → RecSt) : State := { s with recov := f s.recov }

/-- Whether an operation destages cached data. -/
def PostedOp.destages (p : PostedOp) : Bool := p.destage && p.d.isWrite

/-- Whether two posted operations carry the same work. -/
def PostedOp.same (a b : PostedOp) : Bool :=
  decide (a.cmd = b.cmd) && decide (a.ext = b.ext) && decide (a.destage = b.destage) && decide (a.ver = b.ver)

/-- The number that marks the write of a spare sector. -/
def spareVer (x : Fin 4 × Nat) : Nat := 2 ^ 41 + x.1.val * 2 ^ 32 + x.2

/-- The number of the sector under recovery. -/
def Ladder.sectorId (l : Ladder) : Nat := (l.p.d.surf * 2 ^ 24 + l.p.d.cyl) * 2 ^ 16 + l.sect

/-- The number that marks the i-th read of the parity group of a ladder's sector (R479). -/
def groupVer (l : Ladder) (i : Nat) : Nat := 2 ^ 100 + 128 * l.sectorId + i

/-- Whether an operation reads sectors of a parity group for a rebuild (R479). -/
def PostedOp.groupRead (p : PostedOp) : Bool := decide (2 ^ 100 ≤ p.ver)

/-- Whether an operation reads the parity group of a ladder's sector. -/
def PostedOp.inGroup (p : PostedOp) (l : Ladder) : Bool :=
  ! l.write && decide (l.step = 8) && p.groupRead && decide ((p.ver - 2 ^ 100) / 128 = l.sectorId)

/-- The ladder in step 8 that an operation reads the parity group for. -/
def State.groupOf (s : State) (p : PostedOp) : Option Ladder := s.recov.ladders.find? (fun l => p.inGroup l)

/-- Whether a ladder's attempt under way is an operation. -/
def Ladder.runs (l : Ladder) (p : PostedOp) : Bool :=
  match l.spare with
  | some x => decide (p.ver = spareVer x)
  | none => l.p.same p

/-- The ladder that an operation belongs to. -/
def State.ladderOf (s : State) (p : PostedOp) : Option Ladder := s.recov.ladders.find? (fun l => l.runs p)

/-- The track offset of a recovery step (R480). -/
def State.stepOffset (s : State) (k : Nat) : Nat :=
  if k = 5 then s.dpi.offStep else if k = 6 then (2 ^ 32 - s.dpi.offStep) % 2 ^ 32 else 0

/-- Firmware writes SCE_PAIRn_TOFF for an operation of recovery step 5 or 6 that actuator n is to perform (R480). -/
def State.setStepOffset (s : State) (n : Fin 4) (d : OpDesc) : State :=
  if d.retry ∧ (d.step = 5 ∨ d.step = 6) then s.fput (Reg.SCE_PAIRn_TOFF_OFF n) (s.stepOffset d.step) else s

/-- SCE_PAIRn_TOFF returns to 0 when the outcome of such an operation arrives (R480). -/
def State.clearStepOffset (s : State) (n : Fin 4) (d : OpDesc) : State :=
  if d.retry ∧ (d.step = 5 ∨ d.step = 6) then s.fput (Reg.SCE_PAIRn_TOFF_OFF n) 0 else s

/-- The result of an operation that no actuator may perform (R179, R216): a destage write's range becomes a deferred error
of cause No actuator; a command that waits completes with Actuator Unavailable. A ladder that the operation belongs to ends, for a read of a parity group
with the sector under recovery (R479); the write of a spare carries the fate of the write it was to save. -/
def State.routeFailed (s : State) (q : PostedOp) : State :=
  let p := match s.groupOf q, s.ladderOf q with
    | some l, _ => l.p
    | none, some l => if l.spare.isSome ∧ l.write then l.p else q
    | none, none => q
  let s := s.modRec (fun r => { r with ladders := r.ladders.filter (fun l => ! l.runs q && ! q.inGroup l) })
  let lba := match p.ext with | some e => e.2.1 | none => 0
  match p.cmd, p.ext with
  | some a, _ => s.mediaDone a (some St.noActuator) lba
  | none, some (nsid, lo, len) => if p.destage then s.recordLost nsid lo len p.ver 5 0 0xFF 0xFF else s
  | none, none => s

/-! ### Availability (R215) -/

/-- The operations that occupy slots of actuator n (R195): queued, committed or running; the running one until its outcome record
is written. -/
def State.slotOps (s : State) (n : Fin 4) : List MscOp :=
  s.msc.ops.filter (fun o => decide (o.act = n)) ++ (s.msc.commit.get n).toList.map (·.op) ++
    (s.msc.running.get n).toList.map (·.op)

/-- The number of slots of actuator n in use. -/
def State.slotCount (s : State) (n : Fin 4) : Nat := (s.slotOps n).length

/-- The lowest free slot index of actuator n. -/
def State.freeIdx (s : State) (n : Fin 4) : Nat :=
  let used := (s.slotOps n).map (·.idx)
  ((List.range (used.length + 1)).find? (fun k => !used.contains k)).getD 0

/-- An operation put into a slot of an actuator, with its SLOT (R194). -/
def MscOp.toSlot (o : MscOp) (n : Fin 4) (idx : Nat) : MscOp :=
  { o with act := n, idx := idx, p := { o.p with d := { o.p.d with slot := n.val * 2048 + idx } } }

/-- MSC_USEDn and MSC_HIGHn after a change of the slots (R219). -/
def State.refreshUsed (s : State) (n : Fin 4) : State :=
  let used := s.slotCount n
  (s.fput (Reg.MSC_USEDn_COUNT n) used).fput (Reg.MSC_HIGHn_COUNT n) (max used (s.fget (Reg.MSC_HIGHn_COUNT n)))

/-- MSC_USEDn and MSC_HIGHn of every actuator. -/
def State.refreshAllUsed (s : State) : State := lanes.foldl (fun s n => s.refreshUsed n) s

/-! ### Running operations and caps (R210, R218) -/

/-- The number of writes running on all actuators: each counts from its commit until its outcome record is written (R210). -/
def State.writesRunning (s : State) : Nat :=
  (lanes.flatMap (fun n => (s.msc.commit.get n).toList ++ (s.msc.running.get n).toList)).countP (fun c => c.op.p.d.isWrite)

/-- The number of actuators running an operation (R205, MSC_WCG_STATUS.XFER_RUN). DESIGN CHOICE (notes/assumptions/44.md): an actuator with a
committed operation that TRSn has not accepted counts. -/
def State.xfersRunning (s : State) : Nat :=
  lanes.countP (fun n => (s.msc.commit.get n).isSome || (s.msc.running.get n).isSome)

/-- The effective write cap (R210); MSC_WCG_CFG.MAX is applied as 1 to 4 (R218). -/
def State.writeCap (s : State) : Nat :=
  min (min (min 4 (max 1 (s.fget Reg.MSC_WCG_CFG_MAX))) (s.fget Reg.MSC_WCG_STATUS_PMU_CAP))
    (min (s.fget Reg.MSC_WCG_STATUS_VMOT_CAP) (s.fget Reg.MSC_WCG_STATUS_VDDA_CAP))

/-- MSC_WCG_STATUS after a change of the running operations or of a cap (R210). -/
def State.refreshRun (s : State) : State :=
  ((s.fput Reg.MSC_WCG_STATUS_RUN s.writesRunning).fput Reg.MSC_WCG_STATUS_XFER_RUN s.xfersRunning).fput
    Reg.MSC_WCG_STATUS_CAP s.writeCap

/-- Withdraws what the MSC has committed on actuator n and its sequencer has not accepted: it is back in its slot, and the pair keeps its
current target (R207, R215, R556). -/
def State.withdrawCommit (s : State) (n : Fin 4) : State :=
  match s.msc.commit.get n with
  | some c =>
    ((s.modMsc (fun x => { x with commit := x.commit.set n none, ops := x.ops ++ [c.op] })).modPair n
      (fun p => { p with pendTarget := none })).refreshRun
  | none => s

/-- Whether an operation of actuator n has no route at all, so that it ends with No route (R215, R216): An may not perform it, nor,
unless it is pinned, may the partner; neither could after loading; and it is no destage write. -/
def State.deadRoute (s : State) (n : Fin 4) (o : MscOp) : Bool :=
  ! s.mayRun n o.p.d && ! s.routable n o.p.d &&
    (o.p.d.pin || (! s.mayRun (partner n) o.p.d && ! s.routable (partner n) o.p.d)) && ! (o.p.destage && o.p.d.isWrite)

/-- An operation that waits in a slot or in the move list is taken out of it. -/
def State.dropOp (s : State) (o : MscOp) : State :=
  s.modMsc (fun x => { x with ops := x.ops.filter (fun q => decide (q.acc ≠ o.acc)),
                              moveList := x.moveList.filter (fun q => decide (q.acc ≠ o.acc)) })

/-- An operation ends with No route (R216). A pinned one of a command that the partner can perform is posted again by firmware, for
the partner (R179). -/
def State.endNoRoute (s : State) (n : Fin 4) (o : MscOp) : State :=
  let s := s.dropOp o
  let s := ((s.outcome ⟨o.p.d.slot, Outc.noRoute, false, 0, 0xFFFF, s.stamp⟩).clearStepOffset n o.p.d).refreshUsed n
  let m := partner n
  if o.p.d.pin ∧ o.p.cmd.isSome ∧ s.routable m o.p.d then
    let p := { o.p with d := { o.p.d with head := laneHead m o.p.d.surf } }
    (s.setStepOffset m p.d).modMsc (fun x => { x with rings := x.rings.set m.val ((x.rings.getD m.val []) ++ [p]) })
  else s.routeFailed o.p

/-! ### Commands that wait for the medium (R556, R586) -/

/-- The commands that wait for the medium: media operations of theirs have not ended and no outcome is fixed. -/
def State.mediaWaiters (s : State) : List Ctx := s.host.ctxs.filter (fun c => decide (0 < c.media) && c.status.isNone)

/-- Firmware withdraws the operations it no longer wants that are neither committed nor running (R207): out of the rings, whose stall ends
when their head goes (R197), out of the move list, and out of the slots, each with an outcome record of code Aborted (R195, R213;
notes/assumptions/44.md). -/
def State.withdrawWhere (s : State) (sel : PostedOp → Bool) : State :=
  let gone := s.msc.ops.filter (fun o => sel o.p)
  let headGone (r : Nat) : Bool := ((s.msc.rings.getD r []).head?).any sel
  let s := s.modMsc (fun m => { m with
    rings := m.rings.map (fun q => q.filter (fun p => ! sel p)), stalls := m.stalls.filter (fun x => ! headGone x.1),
    ops := m.ops.filter (fun o => ! sel o.p), moveList := m.moveList.filter (fun o => ! sel o.p) })
  (gone.foldl (fun s o =>
    (s.outcome ⟨o.p.d.slot, Outc.aborted, false, 0, 0xFFFF, s.stamp⟩).clearStepOffset o.act o.p.d) s).refreshAllUsed

/-- A media operation whose data no command waits for any more is withdrawn, unless it is committed or runs. -/
def State.withdrawOps (s : State) (a : Nat) : State := s.withdrawWhere (fun p => decide (p.cmd = some a))

/-- A command that waits for the medium completes with Namespace Not Ready; its queued operations are withdrawn. -/
def State.notReady (s : State) (a : Nat) : State :=
  let s := s.withdrawOps a
  let s := s.modRec (fun r => { r with ladders := r.ladders.filter (fun l => decide (l.p.cmd ≠ some a)) })
  s.endWith a St.notReady

/-- Every command that waits for the medium completes with Namespace Not Ready. -/
def State.waitersNotReady (s : State) : State := s.mediaWaiters.foldl (fun s c => s.notReady c.arr) s

/-- A spin-up has failed (R556): commands that wait for the medium complete with Namespace Not Ready, the device is left in
PS3, and the next command that needs the medium starts a new one. -/
def State.spinUpFailed (s : State) : State :=
  let s := { s with pow := { s.pow with spinFail := true, moving := none } }
  (s.fput Reg.PMU_PSTATE_EPS 3).waitersNotReady

/-! ### Moves (R215, R216) -/

/-- Moves one uncommitted operation of actuator n that it may no longer perform (R215, R216): to the partner when it may, into the
move list when the partner has no free slot; a destage write without a route stays; a pinned operation, and one without a route, ends
with No route. An operation that some actuator may still perform after loading stays where it is: one that is not pinned, and, while
both actuators are Parked, a pinned one (R177; notes/assumptions/20.md). -/
def State.moveOp (s : State) (n : Fin 4) (o : MscOp) : State :=
  let m := partner n
  if ¬ o.p.d.pin ∧ s.mayRun m o.p.d then
    let s := if s.msc.ops.any (fun q => decide (q.acc = o.acc)) then s.bump (Reg.MSC_MOVEDn n) else s
    let s := s.dropOp o
    let s := if s.slotCount m < 2048 then
        s.modMsc (fun x => { x with ops := x.ops ++ [o.toSlot m (s.freeIdx m)] })
      else s.modMsc (fun x => { x with moveList := x.moveList ++ [{ o with act := m }] })
    (s.refreshUsed n).refreshUsed m
  else if (o.p.d.pin ∧ ¬ (o.p.destage ∧ o.p.d.isWrite) ∧ s.msc.avail.get m ≠ .parked) ∨ s.deadRoute n o then s.endNoRoute n o
  else s

/-- Operations in the order of their acceptance numbers. -/
def byAcc (l : List MscOp) : List MscOp :=
  l.foldr (fun o r => r.takeWhile (fun q => decide (q.acc < o.acc)) ++ o :: r.dropWhile (fun q => decide (q.acc < o.acc))) []

/-- The actions of the MSC when actuator n may have lost the right to perform a kind (R215): abort pending for the
running operation, withdrawal of the committed one, moves of the queued ones, and of those that wait in the move list for An, in
acceptance order. What waits at the partner for a right that neither actuator has any more ends with No route (R216). -/
def State.reroute (s : State) (n : Fin 4) : State :=
  let m := partner n
  let s := match s.msc.running.get n with
    | some c => if s.mayRun n c.op.p.d then s else s.trsAbort n
    | none => s
  let s := match s.msc.commit.get n with
    | some c => if s.mayRun n c.op.p.d then s else s.withdrawCommit n
    | none => s
  let lost := (s.msc.ops ++ s.msc.moveList).filter (fun o => decide (o.act = n) && ! s.mayRun n o.p.d)
  let s := (byAcc lost).foldl (fun s o => s.moveOp n o) s
  let dead := (s.msc.ops ++ s.msc.moveList).filter (fun o => decide (o.act = m) && s.deadRoute m o)
  (byAcc dead).foldl (fun s o => s.endNoRoute m o) s

/-- Whether the law of pair n holds its heads on the disk: not Idle, Ramp or Retract. -/
def State.onDisk (s : State) (n : Fin 4) : Bool :=
  let l := (s.pair.get n).law
  decide (l ≠ 0) && decide (l ≠ 6) && decide (l ≠ 7)

/-- Whether actuator n, once loaded, is Degraded: an engine of its pair is Retired, or its injection is on (R558, R570). -/
def State.pairImpaired (s : State) (n : Fin 4) : Bool :=
  decide (s.fget (Reg.SRFn_STATUS_XSTATE n) = 5) || decide (s.fget (Reg.SRFn_STATUS_YSTATE n) = 5) ||
    s.fbit (Reg.SCE_PAIRn_INJ0_EN n)

/-- The condition of actuator n for the choice of PS1: 0 Available, 1 Degraded, 2 Out (R558). -/
def State.ps1Condition (s : State) (n : Fin 4) : Nat :=
  match s.msc.avail.get n with
  | .out => 2
  | .parked => if s.pairImpaired n then 1 else 0
  | .degraded => if s.onDisk n ∨ s.pairImpaired n then 1 else 0
  | .available => 0

/-- The two actuators of PS1's pair k, lower-numbered first. -/
def ps1Pair (k : Fin 2) : Fin 4 × Fin 4 := if k = 0 then (0, 2) else (1, 3)

/-- The PS1 pair of an actuator. -/
def ps1Of (n : Fin 4) : Fin 2 := if n.val % 2 = 0 then 0 else 1

/-- The actuator R558 chooses in a pair: the better condition, the lower-numbered on equality; none when both are Out. -/
def State.ps1Best (s : State) (k : Fin 2) : Option (Fin 4) :=
  let (a, b) := ps1Pair k
  let ca := s.ps1Condition a
  let cb := s.ps1Condition b
  if ca = 2 ∧ cb = 2 then none else if ca ≤ cb then some a else some b

/-- Whether PS1 is in force or being entered. -/
def State.inPs1 (s : State) : Bool :=
  decide (s.pow.moving = some 1) || (decide (s.fget Reg.PMU_PSTATE_EPS = 1) && decide (s.pow.moving = none))

/-- The choice of a pair is made anew (R558); the old actuator then unloads (R556). A pair changes its choice at most once per 64
revolutions of G, except when the chosen actuator is Out; in PS1 an injection on the chosen actuator keeps it (R575). -/
def State.ps1Choose (s : State) (k : Fin 2) : State :=
  let now := s.stamp
  let best := s.ps1Best k
  let old := s.pow.choice.get k
  let kept : Bool := match old with
    | some a => decide (s.fget Reg.PMU_PSTATE_EPS = 1) && s.fbit (Reg.SCE_PAIRn_INJ0_EN a) && decide (s.msc.avail.get a ≠ .out)
    | none => false
  if best = old ∨ kept then { s with pow := { s.pow with choiceDue := s.pow.choiceDue.set k false } }
  else
    let out : Bool := match old with | some a => decide (s.msc.avail.get a = .out) | none => true
    let early : Bool := match s.pow.choiceAt.get k with | some t => decide (now < t + 64 * 2 ^ 32) | none => false
    if early ∧ ¬ out then { s with pow := { s.pow with choiceDue := s.pow.choiceDue.set k true } }
    else
      { s with pow := { s.pow with choice := s.pow.choice.set k best, choiceAt := s.pow.choiceAt.set k (some now),
                                   choiceDue := s.pow.choiceDue.set k false } }

/-- Whether PS1 holds actuator n back: its pair's choice is another (R556, R558). -/
def State.heldBack (s : State) (n : Fin 4) : Bool := s.inPs1 && ! decide (s.pow.choice.get (ps1Of n) = some n)

/-- An availability state of actuator n is set (R569): the write force follows it (R321), work moves (R215), and the choice of
PS1 is made anew (R558). -/
def State.setAvail (s : State) (n : Fin 4) (v : Avail) : State :=
  if s.msc.avail.get n = v then s
  else
    let s := s.modMsc (fun m => { m with avail := m.avail.set n v })
    let s := s.forceWrites n (decide (v ≠ .available))
    let s := (s.reroute n).vendorEvent 0xC2
    if s.inPs1 then s.ps1Choose (ps1Of n) else s

/-- Actuator n becomes Degraded (R569); an Out or Parked actuator stays so. -/
def State.setDegraded (s : State) (n : Fin 4) : State := if s.msc.avail.get n = .available then s.setAvail n .degraded else s

/-- Actuator n becomes Degraded by an escalation of R214, R244, R319 or R327, from which R570 counts. -/
def State.escDegraded (s : State) (n : Fin 4) : State :=
  (s.modMsc (fun m => { m with escStamp := m.escStamp.set n s.stamp })).setDegraded n

/-- Actuator n becomes Out, with its cause (R571). -/
def State.setOut (s : State) (n : Fin 4) (c : OutCause) : State :=
  let s := s.modMsc (fun m => { m with escStamp := m.escStamp.set n s.stamp, outCause := m.outCause.set n (some c) })
  s.setAvail n .out

/-- Actuator n becomes Parked; Out prevails (R569). -/
def State.setParked (s : State) (n : Fin 4) : State :=
  if s.msc.avail.get n = .out then s else s.setAvail n .parked

/-! ### Retract (R424, R425) -/

/-- Whether the DPI enables actuator n (R3, R190). -/
def State.actEnabled (s : State) (n : Fin 4) : Bool := s.dpi.actEn n.val

/-- The retract amplifier of actuator n drives a voltage across the coil, in the direction of RDIR (R424). -/
def State.retractDrive (s : State) (n : Fin 4) (mv : Nat) : State :=
  s.emit (.retract n (if s.fbit Reg.SMC_RETRACT0_RDIR then -(mv : Int) else mv))

/-- The retract path of actuator n is raised (R425): an actuator already in retract is left as it is; otherwise the pair
enters law Retract, VCDn its bridge state Retract, MADn holds its offset, and the actuator becomes Parked. -/
def State.raiseRetract (s : State) (n : Fin 4) : State :=
  if (s.pair.get n).law = 7 ∨ ¬ s.actEnabled n then s
  else
    let now := s.atb.spansG
    let p := s.pair.get n
    let s := (s.bump (Reg.SCE_PAIRn_HOVERS n)).evtC (Reg.SCE_PAIRn_EVT_STAT_HOVER n) .trace none
      (leBytes p.law 1 ++ leBytes 7 1 ++ leBytes (BitVec.ofInt 16 p.uv).toNat 2 ++ leBytes 0 2 ++
        leBytes (BitVec.ofInt 16 p.um).toNat 2 ++ leBytes 0 2 ++ leBytes 1 1)
    let s := s.modPair n (fun p =>
      { p with law := 7, retract := 1, retractAt := now, flight := none, loadReq := false, unloadReq := false,
               redReq := false, resumeReq := false, leased := false, uv := 0, um := 0, hand := none,
               eng := ⟨{ p.eng.b0 with law := 7, mv := 0, mm := 0 }, { p.eng.b1 with law := 7, mv := 0, mm := 0 }⟩ })
    let s := (s.fput (Reg.SCE_PAIRn_STATUS_LAW n) 7).fput (Reg.VCDn_STATUS_BRIDGE n) 4
    let s := (s.fput (Reg.SCEn_STATUS_LAW (2 * n.val)) 7).fput (Reg.SCEn_STATUS_LAW (2 * n.val + 1)) 7
    let s := s.fput (Reg.MADn_OUT_CODE n) (s.fget (Reg.MADn_CFG_OFFSET n))
    let s := s.fput (Reg.SCE_PAIRn_STATUS_WINH n) (Nat.lor (s.fget (Reg.SCE_PAIRn_STATUS_WINH n)) 1)
    ((s.winhOn n 4).setParked n).retractDrive n (s.fget Reg.SMC_RETRACT0_VRET)

/-- Raises the retract path of every actuator. -/
def State.raiseRetracts (s : State) : State := lanes.foldl (fun s n => s.raiseRetract n) s

/-! ### Fault Stop and the fault handler -/

/-- Whether the part is in Fault Stop. -/
def State.faultStopped (s : State) : Bool := s.recov.stopped

/-- Fault Stop on an FT whose record carries a line, instance and cause (R491): writes forced off on every lane, retract
raised, CSTS.CFS set, a Fatal record of class FT with the cause, the SEQ of the record and the depth, the persistent
internal error event, every command ended with Internal Error. A further FT is recorded only (R494). -/
def State.faultStop (s : State) (line inst cause : Nat) : State :=
  let pay := leBytes cause 4 ++ leBytes 0 8 ++
    leBytes s.recov.depth 1
  let s' := s.offer line inst cause .fatal (some .ft) pay
  if s.recov.stopped then s'
  else
    let s := lanes.foldl (fun s n => s.forceWrites n true) s'
    let s := s.raiseRetracts
    let s := (s.asyncAll 0 3 1).emit (.flashWrite 0xD30000 0x40000)
    let s := { s with recov :=
      { s.recov with
        stopped := true, stopStamp := s.stamp, faultRecs := [], faultRanges := s.dirtyRanges, faultVer := s.ns.wseq, ladders := [] } }
    let open' := s.host.ctxs.filter (fun c => c.status = none)
    open'.foldl (fun s c => s.endWith c.arr St.internalError) s

/-- Fault Stop for a cause of a status field (R491). -/
def State.faultStopFor (s : State) (f : Fld) : State :=
  let (line, inst, off) := srcOf f.addr
  (s.fput f 1).faultStop line inst (off + f.lo * 2 ^ 16)

/-- A handler-starting UC error (R490): the depth rises from 0 to 1, or, while a handler runs, the error is an FT. -/
def State.startHandler (s : State) : State :=
  if s.recov.stopped then s
  else if s.recov.depth = 0 then
    { s with recov := { s.recov with depth := 1, handlerAt := s.cycle } }
  else s.faultStop 0x40 0xFFFF (0xFFFF0000 + Config.fwCode 490 % 65536)

/-- The handler has completed (R490). -/
def State.endHandler (s : State) : State := { s with recov := { s.recov with depth := 0 } }

end Sys2Proof.Machine
end

