-- ==== Sys2Proof/Machine/Trigger.lean ====
section
/-!
DEFINITION. Sys2Proof/Machine/Trigger.lean: the writes of angle triggers (R67, R70, R71), who owns the configuration and what
JTAG may do (R39, R544, R590), and the preamp operation registers of a descriptor (R317).
-/
namespace Sys2Proof.Machine

/-! ### Masters -/

/-- Whether JTAG is permitted: DEBUG of the active Configuration Record (R590, OTP_STATUS.DEBUG). -/
def State.jtagPermitted (s : State) : Bool := s.fbit Reg.OTP_STATUS_DEBUG

/-- The number OWN_STATE gives a master that may own the configuration: 1 and 2 the controllers, 3 SMBus, 4 the chain. -/
def ownerCode : Master → Nat
  | .host m => 1 + m.val
  | .smbus => 3
  | .chain => 4
  | _ => 0

/-- The owner and the ownership state that a write is judged against (R548): those before the first change of this fabric cycle. -/
def State.ownBefore (s : State) : Nat × Nat :=
  match s.own.prev with
  | some (c, o, st) => if c = s.cycle then (o, st) else (s.fget Reg.OWN_STATE_OWNER, s.fget Reg.OWN_STATE_STATE)
  | none => (s.fget Reg.OWN_STATE_OWNER, s.fget Reg.OWN_STATE_STATE)

/-- Whether a master writes RWO fields: the firmware cores always, JTAG when permitted, any other while it owns the
configuration and is not Suspended (R18, R544). -/
def State.isOwner (s : State) (m : Master) : Bool :=
  match m with
  | .core _ => true
  | .jtag => s.jtagPermitted
  | m => decide (s.ownBefore.1 = ownerCode m) && decide (s.ownBefore.2 ≠ 3)

/-! ### Angle triggers -/

/-- The address of trigger i of lane 0 to 3, or of global trigger i for lane 4 (R75). -/
def trigBase (lane i : Nat) : Nat := if lane < 4 then 0x400B1000 + 0x400 * lane + 0x10 * i else 0x400B2000 + 0x10 * i

/-- Trigger CTRL.ARM. -/
def trigArm (lane i : Nat) : Fld := ⟨trigBase lane i + 4, 0, 0⟩
/-- Trigger CTRL.MODE. -/
def trigMode (lane i : Nat) : Fld := ⟨trigBase lane i + 4, 2, 1⟩
/-- Trigger CTRL.TARGET. -/
def trigTarget (lane i : Nat) : Fld := ⟨trigBase lane i + 4, 7, 4⟩
/-- Trigger CTRL.CAPSEL. -/
def trigCapsel (lane i : Nat) : Fld := ⟨trigBase lane i + 4, 8, 8⟩
/-- Trigger CTRL.GPIOSEL. -/
def trigGpiosel (lane i : Nat) : Fld := ⟨trigBase lane i + 4, 14, 10⟩
/-- Trigger CTRL.REVS. -/
def trigRevs (lane i : Nat) : Fld := ⟨trigBase lane i + 4, 23, 16⟩
/-- Trigger STATUS.FIRED. -/
def trigFired (lane i : Nat) : Fld := ⟨trigBase lane i + 8, 0, 0⟩
/-- Trigger STATUS.LATE. -/
def trigLate (lane i : Nat) : Fld := ⟨trigBase lane i + 8, 1, 1⟩
/-- Trigger STATUS.ERR. -/
def trigErr (lane i : Nat) : Fld := ⟨trigBase lane i + 8, 2, 2⟩
/-- Trigger STATUS.REMAIN. -/
def trigRemain (lane i : Nat) : Fld := ⟨trigBase lane i + 8, 15, 8⟩

/-- The triggers a lane has: 64, and 32 global ones. -/
def trigCount (lane : Nat) : Nat := if lane < 4 then 64 else 32

/-- A revolution in units of 2^-20 deck. -/
def State.revUnits (s : State) : Nat := revLen s.piers * 2 ^ 20

/-- The compared angle of a lane as it stands, advanced by the lead that this cycle ended with (R66), in decks. -/
def State.trigNow (s : State) (lane : Nat) : Nat :=
  let off := if lane < 4 then (s.rd (Reg.ATB_LOFFn lane)).toNat else 0
  angleAdd s.piers ((s.atb.g + s.atb.lead) % s.revUnits / 2 ^ 20) off

/-- The crossings of this cycle of a lane's advanced angle: where they begin and where they end (R66). -/
def State.crossOf (s : State) (lane : Nat) : Nat × Nat := s.atb.cross.getD lane (0, 0)

/-- G at an instant, in 2^-16 fabric cycles since reset (R51), as a linear position in decks: G is extrapolated along the
rate. -/
def State.gAt (s : State) (instant : Nat) : Int :=
  ((s.atb.g : Int) - ((s.rd Reg.ATB_RATE).toNat : Int) * ((s.cycle * 2 ^ 16 : Nat) - (instant : Int)) / 2 ^ 16) / 2 ^ 20

/-- The pier boundary nearest to an angle, and the signed distance in decks from it to the angle (R51). Of two boundaries equally near
it takes the one behind, with a positive residual (DESIGN CHOICE: the spec names none, notes/assumptions/26.md). -/
def nearestPier (p : Nat) (a : Nat) : Nat × Int :=
  let k : Nat := a / 2 ^ 22
  let d : Nat := a % 2 ^ 22
  if 2 * d ≤ 2 ^ 22 then (k, (d : Int)) else ((k + 1) % p, (d : Int) - (2 ^ 22 : Nat))

/-- A rejected trigger write (R70). -/
def State.trigReject (s : State) (lane i : Nat) : State :=
  (s.fput (trigErr lane i) 1).evt Reg.ATB_EVT_STAT_TRIG_ERR .notice

/-- A crossing of a trigger in this cycle has been handled. -/
def State.trigHit (s : State) (lane i : Nat) : State :=
  { s with atb := { s.atb with hit := (lane, i) :: s.atb.hit } }

/-- What R71 keeps of a trigger before the first write of it in a cycle. -/
def State.trigSave (s : State) (lane i : Nat) : State :=
  if s.atb.written.any (fun o => decide (o.lane = lane ∧ o.i = i)) then s
  else
    let b := trigBase lane i
    { s with atb := { s.atb with written := ⟨lane, i, s.rd b, s.rd (b + 4), s.rd (b + 8), false⟩ :: s.atb.written } }

/-- A function of the state run with the contents that a trigger had before the writes of this cycle; then the writes take effect
(R71): an arming one clears FIRED and LATE and loads REMAIN after the crossing. -/
def State.underOld (s : State) (lane i : Nat) (f : State → State) : State :=
  match s.atb.written.find? (fun o => decide (o.lane = lane ∧ o.i = i)) with
  | none => f s
  | some o =>
    let b := trigBase lane i
    let ang := s.rd b
    let ctrl := s.rd (b + 4)
    let st := s.rd (b + 8)
    let err := s.fbit (trigErr lane i)
    let s := f (((s.wr b o.angle).wr (b + 4) o.ctrl).wr (b + 8) o.status)
    let s := (s.wr b ang).wr (b + 4) ctrl
    if o.armed then s.wr (b + 8) st else if err then s.fput (trigErr lane i) 1 else s

/-- A write of trigger ANGLE (R70). -/
def State.trigAngleWrite (s : State) (lane i : Nat) (w : Word) : State :=
  if s.fbit (trigArm lane i) ∨ s.piers ≤ w.toNat / 2 ^ 22 then s.trigReject lane i
  else (s.trigSave lane i).wr (trigBase lane i) w

/-- Drops a late firing that is due (R67). -/
def State.dropLate (s : State) (lane i : Nat) : State :=
  { s with atb := { s.atb with lateDue := s.atb.lateDue.filter (fun t => ! (decide (t.1 = lane) && decide (t.2.1 = i))) } }

/-- Drops the late firing of a trigger that was armed in this very cycle, which a second write of it takes back (R71). -/
def State.dropLateNow (s : State) (lane i : Nat) : State :=
  let l := s.atb.lateDue.filter (fun t => ! (decide (t.1 = lane) && decide (t.2.1 = i) && decide (t.2.2 = s.cycle)))
  { s with atb := { s.atb with lateDue := l } }

/-- Arms a trigger (R67): FIRED and LATE clear, REMAIN is loaded; a One-shot with REVS 0 whose target lies at most LATEWIN
piers behind the advanced angle fires late in the next cycle. -/
def State.trigArmNow (s : State) (lane i : Nat) : State :=
  let s := ((s.fput (trigFired lane i) 0).fput (trigLate lane i) 0).fput (trigRemain lane i) (s.fget (trigRevs lane i))
  let w := s.atb.written.map (fun o => if o.lane = lane ∧ o.i = i then { o with armed := true } else o)
  let s : State := { s with atb := { s.atb with written := w } }
  let t := (s.rd (trigBase lane i)).toNat
  if s.fget (trigMode lane i) = 0 ∧ s.fget (trigRevs lane i) = 0 ∧
      angleFwd s.piers t (s.trigNow lane) ≤ s.fget Reg.ATB_HOLD_LATEWIN * 2 ^ 22 then
    { s with atb := { s.atb with lateDue := s.atb.lateDue ++ [(lane, i, s.cycle)] } }
  else s

/-- A write of trigger CTRL (R67, R68, R70, R71): refused with a reserved MODE or TARGET. -/
def State.trigCtrlWrite (s : State) (lane i : Nat) (w : Word) : State :=
  let x := w.toNat
  let target := bitsOf x 7 4
  if bitsOf x 2 1 = 3 ∨ (if lane < 4 then 4 else 3) < target then s.trigReject lane i
  else
    let a := trigBase lane i + 4
    let v := match findReg a with
      | some h => h.row.written true false (s.rd a).toNat x
      | none => 0
    let s := (((s.trigSave lane i).wr a (BitVec.ofNat 32 v)).dropLateNow lane i)
    if x.testBit 0 then s.trigArmNow lane i else s

/-- TRIGGER_ANGLE_WRITE and TRIGGER_CTRL_WRITE reach a defined trigger only; another address is undefined (R37). -/
def State.trigWrite (s : State) (m : Master) (ctrl : Bool) (lane i : Nat) (w : Word) : State :=
  if trigCount lane ≤ i then s.refusedAccess m (trigBase lane i + (if ctrl then 4 else 0)) true true
  else if ctrl then s.trigCtrlWrite lane i w
  else s.trigAngleWrite lane i w

/-! ### Temperatures and the preamp operation registers -/

/-- The temperature a TSEN value selects, in 1/16 °C (R317, R365, R564): a failed diode or one with no valid reading since
reset gives the composite, and with none of it the reference. -/
def State.tempOf (s : State) (tsen : Nat) (tref : Int) : Int :=
  let comp := match s.pif.lastTemp.find? (fun t => decide (t.1 = 4)) with
    | some t => t.2
    | none => tref * 16
  if tsen < 4 ∧ s.fget (Reg.PMU_TDn_FAIL tsen) = 0 then
    match s.pif.lastTemp.find? (fun t => decide (t.1 = tsen)) with
    | some t => t.2
    | none => comp
  else comp

/-- PAn loads IW, LWR, LBIAS and AUX from the preamp record of the descriptor's surface, recording zone and pivot
(R317). -/
def State.paAccept (s : State) (n : Fin 4) (d : OpDesc) : State :=
  let a := s.fget Reg.PIF_PBASE_ADDR * 4096 + 0x400 * d.surf + 0x10 * d.rz + 8 * (n.val / 2)
  let b (k : Nat) : Nat := (s.memByte (a + k)).toNat
  let t := (s.tempOf s.dpi.tsen s.dpi.tref) / 16
  let raw : Int := (b 1 : Int) + (signed8 (b 3) * (t - (s.dpi.tref : Int))) / 16
  let lwr : Nat := (min (max raw 0) (s.dpi.lmax d.head : Int)).toNat
  let s := s.modPa n (fun p => { p with lwrNeed := raw.toNat })
  (((s.wr (Reg.PAn_OP_IW n) (BitVec.ofNat 32 (b 0))).wr (Reg.PAn_OP_LWR n) (BitVec.ofNat 32 lwr)).wr
    (Reg.PAn_OP_LBIAS n) (BitVec.ofNat 32 (min (b 2) lwr))).wr (Reg.PAn_OP_AUX n) (BitVec.ofNat 32 (b 4))

end Sys2Proof.Machine
end

