-- ==== Sys2Proof/Machine/Channel.lean ====
section
/-!
DEFINITION. Sys2Proof/Machine/Channel.lean: the read/write channels (spec/08_read_write_channel.md): the element
queue and its timing by angle, the servo windows, the sync search, the decoder's buffer, units and result queue, the sample slots,
the writing of sectors and the write mask. What the readers deliver (the bits of a mark, the values over a codeword, the codeword
that the decoder finds) comes with the command.
-/
namespace Sys2Proof.Machine

/-! ### Registers that apply to a sector -/

/-- The valid entries of the code RAM of RWCn (R303): block row, column, shift. -/
def State.codeRam (s : State) (n : Fin 4) : List (Nat × Nat × Nat) :=
  let base := 0x40108000 + 0x10000 * n.val
  (s.regs.filter (fun r => decide (base ≤ r.1) && decide (r.1 < base + 0x80 * 58) && r.2.getLsbD 31)).map
    (fun r => ((r.1 - base) / 0x80, wordBits r.2 25 16, wordBits r.2 5 0))

/-- The code rules of R310 on a code RAM: distinct columns in a row, every data block column in at least three rows. -/
def codeSound (code : List (Nat × Nat × Nat)) : Bool :=
  let row (r : Nat) : List Nat := (code.filter (fun e => decide (e.1 = r))).map (·.2.1)
  (List.range 513).all (fun c => decide (3 ≤ code.countP (fun e => decide (e.2.1 = c)))) &&
    (List.range 58).all (fun r => decide (row r).Nodup)

/-- The registers of RWCn as they stand (R298). -/
def State.liveCfg (s : State) (n : Fin 4) : SectCfg :=
  { tloop := s.rd (Reg.RWCn_TLOOP n), sync := s.rd (Reg.RWCn_SYNC n), win := s.rd (Reg.RWCn_OP_WIN n),
    svwin := s.rd (Reg.RWCn_SVWIN n), ldpc := s.rd (Reg.RWCn_LDPC n), adapt := s.rd (Reg.RWCn_ADAPT n),
    par := s.rd (Reg.RWCn_OP_PAR n), iter := none, sound := codeSound (s.codeRam n) }

/-- The registers that apply on lane n: those of the sector under way, else as they stand (R298). -/
def State.sectCfg (s : State) (n : Fin 4) : SectCfg := (s.rwc.get n).sect.getD (s.liveCfg n)

/-- Whether an element re-decodes a sample slot (R290): it belongs to no sector on the medium. -/
def Elem.redecode (e : Elem) : Bool := decide (e.fmt = 4 ∨ e.fmt = 7) && decide (e.dpath / 8 % 2 = 1)

/-- Whether an element is a payload (FMT 0x04 or 0x07). -/
def Elem.isPayload (e : Elem) : Bool := decide (e.fmt = 4 ∨ e.fmt = 7)

/-- Whether an element takes its payload from its staging page (XFER 0b10, R239). -/
def Elem.fromPage (e : Elem) : Bool := e.isPayload && decide (e.dpath / 64 % 4 = 2)

/-- A sync search that has found nothing. -/
def SyncSt.empty : SyncSt := ⟨none, none, none, false, false, false, false, []⟩

/-- The half-width W of the sync windows that the registers of a sector give (R278, R302). -/
def SectCfg.halfWidth (g : SectCfg) : Nat :=
  let w := wordBits g.win 6 0
  if w ≠ 0 then min w 120 else max 1 (min (wordBits g.sync 6 0) 120)

/-- The half-width W of the sync windows of the sector under way. -/
def State.syncW (s : State) (n : Fin 4) : Nat := (s.sectCfg n).halfWidth

/-- The SM2 confirmation tolerance CONF: values above 3 act as 3 (R302). -/
def State.syncConf (s : State) (n : Fin 4) : Nat := min (wordBits (s.sectCfg n).sync 14 12) 3

/-- Whether 32 bits match a mark: at most SMTOL of them differ, values above 4 acting as 4 (R279, R301). -/
def State.markMatch (s : State) (n : Fin 4) (mark bits : Word) : Bool :=
  let d := (mark ^^^ bits).toNat
  decide ((List.range 32).countP (fun i => d.testBit i) ≤ min (wordBits (s.sectCfg n).sync 11 8) 4)

/-! ### Servo windows and positions (R271 to R273, R278) -/

/-- DSHIFT of the head sub-record (R309), in decks. -/
def State.dshift (s : State) (n : Fin 4) : Int := ((s.headRec n 0xD ++ s.headRec n 0xC : BitVec 16)).toInt

/-- The decks of the servo window before and after each pier boundary (R271). -/
def State.svwin (s : State) (n : Fin 4) : Nat × Nat :=
  let w := (s.sectCfg n).svwin
  (16 * wordBits w 31 16, 16 * wordBits w 15 0)

/-- Whether the local angle of lane n lies in its servo window (R271); a writer's window is taken at Ln + DSHIFT. -/
def State.inServoWindow (s : State) (n : Fin 4) : Bool :=
  let a := if (s.trs.get n).wg then angleAddInt s.piers (s.laneAngle n) (s.dshift n) else s.laneAngle n
  let d := a % 2 ^ 22
  decide (2 ^ 22 ≤ d + (s.svwin n).1) || decide (d < (s.svwin n).2)

/-- How much of the linear positions below x lies in servo windows of `pre` before and `post` after each multiple of `span`. -/
def svBefore (span pre post x : Nat) : Nat :=
  x / span * (pre + post) + min (x % span) post + (x % span - (span - pre))

/-- The angle of lane n as a distance in decks from S + DSHIFT of the sector whose SANG is S, where beyond it only advance outside the
servo windows counts (R273). -/
def State.readPos (s : State) (n : Fin 4) : Int :=
  let base := angleAddInt s.piers (s.trs.get n).sang (s.dshift n)
  let raw := angleSdiff s.piers base (s.laneAngle n)
  let (pre, post) := s.svwin n
  if raw ≤ 0 then raw
  else raw - ((svBefore (2 ^ 22) pre post (base + raw.toNat) - svBefore (2 ^ 22) pre post base : Nat) : Int)

/-- The data bit that lies under the readers (R273). -/
def State.readBit (s : State) (n : Fin 4) : Int := s.readPos n * 2 ^ 16 / ((s.rwc.get n).tb : Int)

/-- Whether data bit b of the sector being read has been reached. -/
def State.reached (s : State) (n : Fin 4) (b : Int) : Bool :=
  decide ((s.rwc.get n).tb ≠ 0) && decide (b * ((s.rwc.get n).tb : Int) ≤ s.readPos n * 2 ^ 16)

/-- The offset of the mark that gives the codeword's position; 0 when none was accepted (R280). -/
def SyncSt.offset (y : SyncSt) : Int := (y.sm1.orElse (fun _ => y.sm2)).getD 0

/-- Whether a mark was accepted. -/
def SyncSt.found (y : SyncSt) : Bool := y.sm1.isSome || y.sm2.isSome

/-- The data bit at which the payload begins (R280): F1 + 80 or F2 + 32, with F1 = 96 + e and F2 = 144 + e. -/
def SyncSt.payloadBit (y : SyncSt) : Int := 176 + y.offset

/-! ### The start of a sector -/

/-- A function of elements on the first k payloads of a list. -/
def firstPayloads (f : Elem → Elem) : Nat → List Elem → List Elem
  | _, [] => []
  | 0, l => l
  | k + 1, e :: t => if e.isPayload then f e :: firstPayloads f k t else e :: firstPayloads f (k + 1) t

/-- The first two Payload elements of the queue whose payload comes from a page are in the lane buffer of two sectors (R297): each is read
from staging when it takes its place there. -/
def State.prefetch (s : State) (n : Fin 4) : State :=
  let load (e : Elem) : Elem :=
    if e.fromPage ∧ e.data = none then
      { e with data := some (s.memBytes 4096 (pageAddr e.page) ++ leBytes (s.pageTag e.page) 8) } else e
  s.modRwc n (fun c => { c with elems := firstPayloads load 2 c.elems })

/-- The Payload element begins: RWCn_OP_ITER is read again (R298); a written track-parity payload with SRC 0 is the accumulator,
which is also stored in its page (R293). -/
def State.beginPayload (s : State) (n : Fin 4) : State :=
  let k := s.fget (Reg.RWCn_OP_ITER_ITER n)
  let s := s.modRwc n (fun c => { c with sect := c.sect.map (fun g => { g with iter := some k }) })
  match (s.rwc.get n).elems with
  | e :: t =>
    if (s.trs.get n).wg ∧ e.fmt = 7 ∧ wordBits (s.sectCfg n).par 0 0 = 0 then
      let acc := (List.range 4104).map (fun i => sparseGet (fun _ => 0#8) (s.rwc.get n).parity i)
      (s.storeParity n e.page).modRwc n (fun c => { c with elems := { e with data := some acc } :: t })
    else s
  | [] => s

/-- The first element of a sector begins, once a gate is asserted, its launch angle is reached and outside the servo window (R238,
R243, R272): the registers that apply to it are taken (R298), the timing loop's correction starts at 0 (R270), a read begins to
search its marks, and a write that inhibit stops from its start is masked (R296). -/
def State.beginSector (s : State) (n : Fin 4) : State :=
  let c := s.rwc.get n
  let t := s.trs.get n
  match c.elems with
  | [] => s
  | e :: _ =>
    if c.sect.isSome ∨ c.svw ∨ ¬ (t.rg ∨ t.wg) ∨ e.redecode ∨ e.start.isSome then s
    else
      let cfg := s.liveCfg n
      let s := s.modRwc n (fun c =>
        { c with sect := some cfg, phi := 0,
                 sync := if t.wg ∨ 8 ≤ e.fmt then c.sync else some (c.sync.getD SyncSt.empty) })
      let s := if e.isPayload then s.beginPayload n else s
      if s.winh n ≠ 0 then s.inhibitWrite n else s

/-- The sector under way on RWCn has ended; the next one that is queued begins. -/
def State.endSector (s : State) (n : Fin 4) : State :=
  (s.modRwc n (fun c => { c with sect := none, inhCounted := false })).beginSector n

/-- The elements of a list from after the first one of the given FMT on; the list itself when it holds none. -/
def dropThrough (fmt : Nat) (l : List Elem) : List Elem :=
  if l.any (fun e => decide (e.fmt = fmt)) then (l.dropWhile (fun e => decide (e.fmt ≠ fmt))).drop 1 else l

/-- The Payload element at the front of the queue, if a payload is under way (FMT 0x04 or 0x07). -/
def frontPayload (l : List Elem) : Option Elem :=
  match l with
  | e :: _ => if e.isPayload then some e else none
  | [] => none

/-- The first Payload element in the queue: the one of the sector whose marks are searched. -/
def nextPayload (l : List Elem) : Option Elem := l.find? (fun e => e.isPayload)

/-- The first element leaves the queue; a Payload element that comes to the front begins. -/
def State.popElem (s : State) (n : Fin 4) : State :=
  let s := (s.modRwc n (fun c => { c with elems := c.elems.drop 1 })).prefetch n
  if (frontPayload (s.rwc.get n).elems).isSome then s.beginPayload n else s

/-! ### The result queue (R287, R291) -/

/-- The entries of the result queue that media results may take: the last free one is kept while a re-decode waits or runs
(R291). -/
def RwcSt.room (c : RwcSt) : Nat :=
  if (c.elems.take 1).any (·.redecode) || c.units.any (·.redec) then 3 else 4

/-- Results held behind the queue take the entries that are free for them. -/
def RwcSt.flow (c : RwcSt) : RwcSt :=
  let k := c.room - c.results.length
  { c with results := c.results ++ c.held.take k, held := c.held.drop k }

/-- The results whose turn has come, with those still owed after them (R287). -/
def turnOf : List Nat → List (Nat × RdResult) → List RdResult × List Nat
  | [], _ => ([], [])
  | q :: t, ready =>
    match ready.find? (fun x => decide (x.1 = q)) with
    | some x => let (l, o) := turnOf t ready; (x.2 :: l, o)
    | none => ([], q :: t)

/-- Puts the result of the Payload element of place q into the decoder result queue once every result before it is there (R287), or
behind the queue while no entry is free for it (R236, R291). -/
def State.placeResult (s : State) (n : Fin 4) (q : Nat) (r : RdResult) : State :=
  s.modRwc n (fun c =>
    let ready := c.ready ++ [(q, r)]
    let (l, o) := turnOf c.owed ready
    ({ c with held := c.held ++ l, owed := o, ready := ready.filter (fun x => o.contains x.1) } : RwcSt).flow)

/-- The result of a sector whose Payload element was never queued comes after those of every element that was (R287). -/
def State.placeLast (s : State) (n : Fin 4) (r : RdResult) : State :=
  let q := (s.rwc.get n).nextSeq
  (s.modRwc n (fun c => { c with nextSeq := q + 1, owed := c.owed ++ [q] })).placeResult n q r

/-- The result of a sector that was not decoded, with its cause (R287). -/
def missResult (idx cause : Nat) (y : SyncSt) (slot : Option Nat) : RdResult :=
  { idx := idx, cause := cause, prov := false, sm1 := y.sm1.isSome, sm2 := y.sm2.isSome, sm2ok := y.sm2ok,
    redec := false, slot := slot, e := y.offset, iter := 0, tag := 0 }

/-! ### Sample slots (R289) and the detector's input (R283) -/

/-- Slots named by results, codewords or the result last popped, which are not free (R289). -/
def State.slotsInUse (s : State) (n : Fin 4) : List Nat :=
  let c := s.rwc.get n
  (c.results.filterMap (·.slot)) ++ (c.held.filterMap (·.slot)) ++ (c.ready.filterMap (·.2.slot)) ++ (c.inbuf.filterMap (·.slot)) ++
    (c.units.filterMap (·.slot)) ++ ((s.trs.get n).popped.toList.filterMap (·.slot))

/-- The next free sample slot in ring order, if any (R289). -/
def State.freeSlot (s : State) (n : Fin 4) : Option Nat :=
  let used := s.slotsInUse n
  ((List.range 8).map (fun i => ((s.rwc.get n).lastSlot + 1 + i) % 8)).find? (fun k => !used.contains k)

/-- Stores a sector's samples in the next free slot (R289); no slot free: not stored. -/
def State.takeSlot (s : State) (n : Fin 4) (e : Elem) (y : SyncSt) (vals : Samples) : State × Option Nat :=
  let exp := s.pageTag e.page
  match s.freeSlot n with
  | none => (s, none)
  | some k =>
    (s.modRwc n (fun c =>
      { c with lastSlot := k, slots := sparseInsert k ⟨e.page, e.dpath, e.idx, y, exp, vals⟩ c.slots }), some k)

/-- k signed bytes of the head sub-record (R309). -/
def State.headInts (s : State) (n : Fin 4) (off k : Nat) : List Int := (List.range k).map (fun i => (s.headRec n (off + i)).toInt)

/-- The detector that DPATH.READER selects (R283): on a head without reader B, both readers and reader B alone use reader A. -/
def State.detectorOf (s : State) (n : Fin 4) (dpath : Nat) : Detector :=
  let r := if s.dpi.readerB (laneHead n (s.trs.get n).op.surf) then dpath / 2 % 4 else 1
  let i16 (o : Nat) : Int := ((s.headRec n (o + 1) ++ s.headRec n o : BitVec 16)).toInt
  { useA := decide (r ≠ 2), useB := decide (r = 0 ∨ r = 2), dly := (s.headRec n 6).toInt, wa := i16 8, wb := i16 0xA,
    firA := s.headInts n 0x14 6, firB := s.headInts n 0x1A 6 }

/-- A reader's value at a bit after its equaliser, in 1/64: tap i weights the value i bits earlier (notes/assumptions/43.md). -/
def equalised (fir : List Int) (x : Nat → Int) (b : Nat) : Int :=
  (fir.zipIdx.map (fun ti => if ti.2 ≤ b then ti.1 * x (b - ti.2) else 0)).sum

/-- The detector's input at a bit index of a slot, in 2^-20 (R283): the weighted sum of both readers, reader B delayed by DLY_B, or one
reader alone. -/
def Detector.value (d : Detector) (vals : Samples) (b : Nat) : Int :=
  let at' (k : Nat) : Int × Int := match vals.find? (fun v => decide (v.1 = k)) with | some v => v.2 | none => (0, 0)
  let ya := equalised d.firA (fun k => (at' k).1) b
  let yb (i : Int) : Int := if i < 0 then 0 else equalised d.firB (fun k => (at' k).2) i.toNat
  if d.useA ∧ d.useB then
    let i : Int := (b : Int) - d.dly / 16
    let f := (d.dly % 16).toNat
    d.wa * ya + d.wb * (if f = 0 then yb i else Config.between f (yb i) (yb (i - 1)))
  else if d.useA then ya * 2 ^ 14
  else yb b * 2 ^ 14

/-- The detector's input over the bits of the codeword, taken `align` bits later than the accepted mark implies (R283, R290); the bits
on which no listed value bears read 0. -/
def Detector.input (d : Detector) (vals : Samples) (align : Int) : List (Nat × Int) :=
  let at' : List Nat := (vals.flatMap (fun v => (List.range 24).map (fun i => v.1 + i - 8))).eraseDups
  at'.filterMap (fun (b : Nat) =>
    let k : Int := (b : Int) - 4 - align
    if 0 ≤ k ∧ k < 36544 then some (k.toNat, d.value vals b) else none)

/-- RWCn_OP_ALIGN.ALIGN, limited to -4 to 4 (R290). -/
def State.opAlign (s : State) (n : Fin 4) : Int :=
  max (-4) (min 4 (BitVec.ofNat 4 (s.fget (Reg.RWCn_OP_ALIGN_ALIGN n))).toInt)

/-! ### Adaptation and the timing loop (R270, R284) -/

/-- The seeds of gain, offset and asymmetry of both readers (R284, R301). -/
def State.seeds (s : State) (n : Fin 4) : List Int :=
  let sg (o : Nat) : Int := (s.headRec n o).toInt
  [((s.headRec n 0).toNat : Int), ((s.headRec n 1).toNat : Int), sg 2, sg 3, sg 4, sg 5]

/-- The gain, offset and asymmetry of both readers after the read elements of a sector (R284), which ADOUT shows: each moves from the
value carried so far by its step size times an error that the readers measure, a free value each time; with RWCn_ADAPT.FREEZE at 1
the seeds are used unchanged. -/
def State.adaptReaders (s : State) (n : Fin 4) : State :=
  let a := (s.sectCfg n).adapt
  if wordBits a 12 12 = 1 then
    let v := (s.seeds n).map (· * 2 ^ 16)
    s.modRwc n (fun c => { c with adapt := v, adout := s.seeds n })
  else
    let sh (i : Nat) : Nat := if i < 2 then wordBits a 3 0 else if i < 4 then wordBits a 7 4 else wordBits a 11 8
    let v := (s.rwc.get n).adapt.zipIdx.map (fun xi => xi.1 + Config.freeInt (s.fresh + xi.2) * 2 ^ 16 / 2 ^ sh xi.2)
    ({ s with fresh := s.fresh + 6 }).modRwc n (fun c => { c with adapt := v, adout := v.map (· / 2 ^ 16) })

/-- The timing loop over k bits of a read outside the servo window (R270): the correction follows the phase error measured on each
bit, a free value, with the acquisition gains in the Preamble element and the tracking gains after it. -/
def State.timingLoop (s : State) (n : Fin 4) : Nat → State
  | 0 => s
  | k + 1 =>
    let g := (s.sectCfg n).tloop
    let acq := decide (((s.rwc.get n).elems.head?.map (·.fmt)) = some 1)
    let kp : Int := if acq then wordBits g 31 24 else wordBits g 15 8
    let ki : Int := if acq then wordBits g 23 16 else wordBits g 7 0
    let err := Config.freeInt s.fresh
    let s := ({ s with fresh := s.fresh + 1 }).modRwc n (fun c =>
      { c with phi := c.phi + kp * err * 2 ^ 16 / 256 + c.phiInt, phiInt := c.phiInt + ki * err * 2 ^ 16 / 4096 })
    s.timingLoop n k

/-! ### Reading: marks, windows, codewords -/

/-- Whether lane n uses samples (R269): RG is 1 and the lane is outside the servo window. -/
def State.samplesUsed (s : State) (n : Fin 4) : Bool := (s.trs.get n).rg && ! (s.rwc.get n).svw

/-- Whether a mark of FMT `fmt` that begins at data bit b and whose bits are `bits` is detected: its element is under way, the mark has
passed whole under the readers and matches, and it began where marks are seen (R278, R279). -/
def State.markSeen (s : State) (n : Fin 4) (y : SyncSt) (fmt : Nat) (b : Int) (mark bits : Word) : Bool :=
  s.samplesUsed n && decide (((s.rwc.get n).elems.head?.map (·.fmt)) = some fmt) && s.reached n (b + 32) && s.markMatch n mark bits &&
    (match y.from' with | some f => decide (f ≤ b) | none => false)

/-- SM1_ACCEPT: SM1 is detected at offset e bits from its expected position, inside its window and before any other acceptance (R279);
e < 0 is provisional. -/
def State.sm1Accept (s : State) (n : Fin 4) (e : Int) (bits : Word) : State :=
  let c := s.rwc.get n
  let y := c.sync.getD SyncSt.empty
  if s.markSeen n y 2 (96 + e) (s.rd (Reg.RWCn_SM1 n)) bits ∧ e.natAbs ≤ s.syncW n ∧ y.sm1 = none ∧ y.sm2 = none ∧
      y.closed = false then
    let s := (s.modRwc n (fun c => { c with sync := some { y with sm1 := some e } })).popElem n
    let s := if e < 0 then s.bump (Reg.RWCn_PROV n) else s
    s.modTrs n (fun t => { t with syncFound := true })
  else s

/-- The search for SM2 over its window when SM1 was missed (R279, R280): found at offset e from E2, or not found. -/
def State.sm2Search (s : State) (n : Fin 4) (y : SyncSt) (found : Option (Int × Word)) : State :=
  match found with
  | none => s
  | some (e, bits) =>
    if s.markSeen n y 3 (144 + e) (s.rd (Reg.RWCn_SM2 n)) bits ∧ e.natAbs ≤ s.syncW n ∧ y.sm2 = none ∧ y.closed = false then
      let s := (s.modRwc n (fun c => { c with sync := some { y with sm2 := some e } })).popElem n
      let s := s.bump (Reg.RWCn_SM1MISS n)
      let s := if e < 0 then s.bump (Reg.RWCn_PROV n) else s
      s.modTrs n (fun t => { t with syncFound := true })
    else s

/-- SM2_CHECK: after SM1, `found` is the offset from F1 + 48 at which the bits of SM2 stand, and SM2OK records whether it lies within
CONF and they match (R280); when SM1 was missed, SM2 is searched over its window (R279, R280). `none`: no SM2 was found. -/
def State.sm2Check (s : State) (n : Fin 4) (found : Option (Int × Word)) : State :=
  let y := (s.rwc.get n).sync.getD SyncSt.empty
  match y.sm1 with
  | none => s.sm2Search n y found
  | some e1 =>
    let ok := match found with
      | some (e, bits) => decide (e.natAbs ≤ s.syncConf n) && s.markMatch n (s.rd (Reg.RWCn_SM2 n)) bits
      | none => false
    let off := match found with | some (e, _) => e | none => 0
    if y.checked = false ∧ s.samplesUsed n ∧ ((s.rwc.get n).elems.head?.map (·.fmt)) = some 3 ∧ s.reached n (176 + e1 + off) then
      s.modRwc n (fun c => { c with sync := some { y with sm2ok := ok, checked := true } })
    else s

/-- Places the Sync miss result once both the Payload element has begun and the SM2 window has closed (R280); the values over the
codeword at the position that E1 implies are stored when that element's DPATH has SAMPLE = 1. -/
def State.placeMiss (s : State) (n : Fin 4) : State :=
  let c := s.rwc.get n
  let y := c.sync.getD SyncSt.empty
  match frontPayload c.elems with
  | some p =>
    if y.closed ∧ y.found = false ∧ y.missPlaced = false then
      let (s, slot) := if p.dpath / 16 % 2 = 1 then s.takeSlot n p y y.vals else (s, none)
      let s := s.placeResult n p.seq (missResult p.idx 3 y slot)
      s.modRwc n (fun c => { c with sync := some { y with missPlaced := true } })
    else s
  | none => s

/-- A sync miss counted (R306). -/
def State.countMiss (s : State) (n : Fin 4) : State :=
  (s.bump (Reg.RWCn_SM1MISS n)).bumpHead n (Reg.RWCn_SYNCMISS n) (fun h => { h with syncMiss := h.syncMiss + 1 })

/-- SYNC_WINDOW_CLOSE: the SM2 window of the current sector closes, at E2 + W + 32 (R281), whatever RG is; a sector being read in which
no mark was accepted is a sync miss (R280), counted with its missed SM1; `vals` are the values that the readers give over the codeword
at the position that E1 implies. -/
def State.syncClose (s : State) (n : Fin 4) (vals : Samples) : State :=
  let c := s.rwc.get n
  let y := c.sync.getD SyncSt.empty
  if ¬ s.reached n (176 + s.syncW n) ∨ (s.trs.get n).winClosed then s
  else
    let s := s.modTrs n (fun t => { t with winClosed := true, syncMissed := ! y.found })
    if c.sync = none ∨ y.closed then s
    else
      let s := s.modRwc n (fun c => { c with sync := some { y with closed := true, vals := if y.found then [] else vals } })
      if y.found then s
      else
        let s := s.countMiss n
        let s := s.modRwc n (fun c => { c with elems := dropThrough 3 c.elems })
        let s := if (frontPayload (s.rwc.get n).elems).isSome then s.beginPayload n else s
        s.placeMiss n

/-- The sector being read has ended: its sync search is over, the Payload and Parity elements leave the queue, the readers have
adapted (R284); the next sector that is queued begins. -/
def State.endReadSector (s : State) (n : Fin 4) : State :=
  let s := (s.adaptReaders n).bumpHead n (Reg.RWCn_SECT_RD n) (fun h => { h with sectRd := h.sectRd + 1 })
  (s.modRwc n (fun c => { c with sync := none, elems := dropThrough 5 c.elems })).endSector n

/-- Moves codewords from the input buffer into free decoder units, in arrival order (R285). -/
def RwcSt.feed (c : RwcSt) : RwcSt :=
  let k := 3 - c.units.length
  { c with units := c.units ++ c.inbuf.take k, inbuf := c.inbuf.drop k }

/-- CODEWORD_ARRIVAL: the Parity element of the sector being read ends, 36,544 bits after the position that the accepted mark implies;
its codeword, with the values the readers gave over it, enters the input buffer of two, or is dropped with cause Overrun when both
entries are full (R285, R288). The samples are stored when DPATH.SAMPLE is 1 or the mark was accepted provisionally (R289). -/
def State.codewordArrival (s : State) (n : Fin 4) (vals : Samples) : State :=
  let c := s.rwc.get n
  match c.sync, nextPayload c.elems with
  | some y, some p =>
    if y.found = false ∨ s.samplesUsed n = false ∨ s.reached n (y.payloadBit + 36544) = false then s
    else
      let prov := decide (y.offset < 0)
      let (s, slot) := if p.dpath / 16 % 2 = 1 ∨ prov then s.takeSlot n p y vals else (s, none)
      let g := s.sectCfg n
      let it := g.iter.getD (s.fget (Reg.RWCn_OP_ITER_ITER n))
      let ok := g.sound && ! c.head.isEmpty
      let input := (s.detectorOf n p.dpath).input vals 0
      let s := s.endReadSector n
      if 2 ≤ (s.rwc.get n).inbuf.length then
        let s := (s.bump (Reg.RWCn_OVERRUN n)).evt (Reg.RWCn_EVT_STAT_OVERRUN n) .fault
        let (hit, w) := escalate (s.rwc.get n).overWin s.stamp (s.revs 64) 4
        let s := s.modRwc n (fun c => { c with overWin := w })
        let s := if hit then
            (s.fput (Reg.RWCn_PEAK_GRANT n) 0).evt (Reg.RWCn_EVT_STAT_ESCAL n) .fault
          else s
        s.placeResult n p.seq { missResult p.idx 4 y slot with prov := prov }
      else
        s.modRwc n (fun c => ({ c with
          inbuf := c.inbuf ++ [⟨p.idx, p.page, p.dpath, p.fmt, y, slot, false, none, g.ldpc, it, ok, p.seq, input⟩] } : RwcSt).feed)
  | _, _ => s

/-! ### Decoding (R277, R285 to R291) -/

/-- The iteration limit I of a decode (R285): ITER_NORM and ITER_MAX come from the head sub-record; CAP at 0 acts as 1. -/
def State.iterLimit (s : State) (n : Fin 4) (w : Codeword) : Nat :=
  let norm := (s.headRec n 0x0E).toNat
  let req := if w.iter ≠ 0 then w.iter else norm
  let lim := if s.fget (Reg.RWCn_PEAK_GRANT n) = 1 then (s.headRec n 0x0F).toNat else norm
  max 1 (min (min req lim) (wordBits w.ldpc 6 0))

/-- Block k of 64 bits of a list of bytes, bit 0 of each byte first (R275, R277). -/
def block64 (l : List Byte) (k : Nat) : BitVec 64 := BitVec.ofNat 64 (leNat ((l.drop (8 * k)).take 8))

/-- The 58 parity blocks of a payload under a code (R277): row r accumulates its data blocks onto row r - 1. -/
def ldpcParity (code : List (Nat × Nat × Nat)) (payload : List Byte) : List (BitVec 64) :=
  ((List.range 58).foldl (fun (acc : List (BitVec 64) × BitVec 64) r =>
    let q := code.foldl (fun q e => if e.1 = r then q ^^^ (block64 payload e.2.1).rotateRight e.2.2 else q) acc.2
    (q :: acc.1, q)) ([], 0)).1.reverse

/-- Whether every check of a codeword is satisfied (R277): the parity bytes are those the encoder forms. -/
def checksHold (code : List (Nat × Nat × Nat)) (payload parity : List Byte) : Bool :=
  decide ((List.range 58).map (block64 parity) = ldpcParity code payload)

/-- The eight bytes of a tag as one number, byte 0 least significant (R276). -/
def tagNat (bytes : List Byte) : Nat :=
  (bytes.take 8).foldr (fun b acc => b.toNat + 256 * acc) 0

/-- Whether a decoded tag passes the check of R286 against an expected tag. -/
def tagOk (exp tag : Nat) : Bool :=
  decide (tag % 2 ^ 56 = exp % 2 ^ 56) && decide (tag / 2 ^ 56 % 2 = 1)

/-- DECODE_COMPLETE: decoder unit u stops with the codeword it has found: the payload (4,096 data bytes, then the 8-byte tag) and
the parity, whose checks hold or not (R277). With EARLY it stops at the iteration `iters` at which they hold, else at the limit. On
success with XFER 0b01 data and tag are stored; the result enters the queue in its turn, a re-decode's ahead of every other (R285 to
R287, R291, R304). -/
def State.decodeComplete (s : State) (n : Fin 4) (u iters : Nat) (payload parity : List Byte) : State :=
  let c := s.rwc.get n
  match c.units[u]? with
  | none => s
  | some w =>
    let ok := w.sound && checksHold (s.codeRam n) payload parity
    let lim := s.iterLimit n w
    let iters := if ok ∧ w.ldpc.getLsbD 8 then max 1 (min iters lim) else lim
    let tag := tagNat (payload.drop 4096)
    let tagBad := decide (w.dpath / 32 % 2 = 1) && decide (w.fmt = 4) && ! tagOk (w.exp.getD (s.pageTag w.page)) tag
    let cause := if ¬ ok then 1 else if tagBad then 2 else 0
    let s := s.modRwc n (fun c => ({ c with units := c.units.eraseIdx u } : RwcSt).feed)
    let s := s.addc (Reg.RWCn_ITERSUM n) iters
    let s := if cause = 1 then s.bumpHead n (Reg.RWCn_LDPCFAIL n) (fun h => { h with ldpcFail := h.ldpcFail + 1 }) else s
    let s := if cause = 2 then (s.bumpHead n (Reg.RWCn_TAGFAIL n) (fun h => { h with ldpcFail := h.ldpcFail + 1 })).evt (Reg.RWCn_EVT_STAT_TAGFAIL n) .notice else s
    let s := if w.redec ∧ cause = 0 then s.bumpHead n (Reg.RWCn_REDECOK n) (fun h => { h with redecOk := h.redecOk + 1 }) else s
    let s := if cause = 0 ∧ w.dpath / 64 % 4 = 1 then s.storePage w.page (payload.take 4096) tag else s
    let r : RdResult :=
      { idx := w.idx, cause := cause, prov := decide (w.sync.offset < 0), sm1 := w.sync.sm1.isSome,
        sm2 := w.sync.sm2.isSome, sm2ok := w.sync.sm2ok, redec := w.redec, slot := w.slot, e := w.sync.offset, iter := iters,
        tag := tag }
    if w.redec then s.modRwc n (fun c => ({ c with results := r :: c.results } : RwcSt).flow)
    else s.placeResult n w.seq r

/-- REDECODE_START: the Payload element with REDECODE = 1 at the front starts on a free unit, with the slot of the
result last popped, its payload taken RWCn_OP_ALIGN bits later; it needs a free entry of the result queue, and a media codeword in the
buffer goes first (R290, R291). A slot that holds no samples gives cause No samples (R287). -/
def State.redecodeStart (s : State) (n : Fin 4) : State :=
  let c := s.rwc.get n
  match frontPayload c.elems with
  | some p =>
    if p.dpath / 8 % 2 = 1 ∧ c.units.length < 3 ∧ c.inbuf = [] ∧ c.results.length < 4 then
      let s := (s.bump (Reg.RWCn_REDEC n)).modRwc n (fun c => { c with elems := c.elems.drop 1 })
      let g := s.liveCfg n
      let it := s.fget (Reg.RWCn_OP_ITER_ITER n)
      match ((s.trs.get n).popped.bind (·.slot)).bind (fun k => (sparseFind k c.slots).map (fun x => (k, x))) with
      | some (k, x) =>
        let input := (s.detectorOf n p.dpath).input x.vals (s.opAlign n)
        s.modRwc n (fun c =>
          { c with units := c.units ++ [⟨x.idx, x.page, p.dpath, p.fmt, x.sync, some k, true, some x.exp, g.ldpc, it,
                                         g.sound && ! c.head.isEmpty, 0, input⟩] })
      | none =>
        s.modRwc n (fun c => ({ c with
          results := { missResult p.idx 5 SyncSt.empty none with redec := true } :: c.results } : RwcSt).flow)
    else s
  | none => s

/-- Pops the decoder result queue (WAIT 0x6, R232): the result becomes the one last popped, and a held result takes the
freed entry. RWCn_RES and RWCn_RTAG show it. -/
def State.popResult (s : State) (n : Fin 4) : State :=
  let c := s.rwc.get n
  match c.results with
  | [] => s
  | r :: rest =>
    let b (k : Nat) (v : Bool) : Nat := if v then 2 ^ k else 0
    let res := r.iter % 256 + (r.e % 256).toNat * 2 ^ 8 + b 19 r.slot.isSome + r.slot.getD 0 % 8 * 2 ^ 20 + b 23 r.redec +
      b 24 r.sm2ok + b 25 r.sm2 + b 26 r.sm1 + b 27 r.prov + r.cause % 8 * 2 ^ 28 + b 31 (decide (r.cause ≠ 0))
    let s := (s.wr (Reg.RWCn_RES n) (BitVec.ofNat 32 res)).wr (Reg.RWCn_RTAG_LO n) (BitVec.ofNat 32 r.tag)
    let s := s.wr (Reg.RWCn_RTAG_HI n) (BitVec.ofNat 32 (r.tag / 2 ^ 32))
    (s.modRwc n (fun c => ({ c with results := rest } : RwcSt).flow)).modTrs n (fun t => { t with popped := some r })

/-! ### Servo windows and the write mask -/

/-- SERVO_WINDOW_BEGIN: the lane enters its servo window (R271): elements are suspended, write data, WG and AG are masked
(R272), so the laser leaves Write (R319). -/
def State.servoWindowBegin (s : State) (n : Fin 4) : State :=
  if s.inServoWindow n then (s.modRwc n (fun c => { c with svw := true })).refreshLt n else s

/-- SERVO_WINDOW_END: the lane has left its servo window: the elements resume, and one that was due inside it begins (R272); a write
inhibit that is still active masks the sector from here (R296). -/
def State.servoWindowEnd (s : State) (n : Fin 4) : State :=
  if s.inServoWindow n then s
  else
    let s := (s.modRwc n (fun c => { c with svw := false })).beginSector n
    (if s.winh n ≠ 0 then s.inhibitWrite n else s).refreshLt n

/-- BUFFER_UNDERRUN: a payload bit of the write element under way is due before it is fetched (R297). -/
def State.bufferUnderrun (s : State) (n : Fin 4) : State :=
  let c := s.rwc.get n
  if (s.trs.get n).wg ∧ (frontPayload c.elems).isSome ∧ ¬ (s.trs.get n).underrun then
    let s := (s.maskWrite n).modTrs n (fun t => { t with underrun := true })
    let s := s.modRwc n (fun c => { c with underrunSt := true })
    let s := (s.bump (Reg.RWCn_UNDERRUN n)).evt (Reg.RWCn_EVT_STAT_UNDERRUN n) .notice
    let (hit, w) := escalate (s.rwc.get n).underWin s.stamp (s.revs 64) 4
    let s := s.modRwc n (fun c => { c with underWin := w })
    if hit then s.evt (Reg.RWCn_EVT_STAT_ESCAL n) .fault else s
  else s

/-- RWCn_SVWIN written: refused with a Notice when 16 times (PRE + POST) exceeds 0x08_0000 (R300); RWL. -/
def State.svwinWrite (s : State) (n : Fin 4) (w : Word) : State :=
  if 0x80000 < 16 * (w.toNat / 65536 + w.toNat % 65536) then s.note (Reg.RWCn_SVWIN n) .notice
  else if s.fget (Reg.RWCn_LOCK_LOCK n) = 1 then s
  else s.wr (Reg.RWCn_SVWIN n) w

/-- What RWCn does when RG falls (R280, R287): a sector whose Payload element has not begun is a Sync miss and stores no samples, one
whose Parity element has not ended is Truncated. -/
def State.rgFall (s : State) (n : Fin 4) : State :=
  let c := s.rwc.get n
  match c.sync with
  | none => s.modRwc n (fun c => { c with sect := none })
  | some y =>
    let s := (s.adaptReaders n).bumpHead n (Reg.RWCn_SECT_RD n) (fun h => { h with sectRd := h.sectRd + 1 })
    let s :=
      if y.missPlaced then s
      else
        let begun := (frontPayload c.elems).isSome && y.found
        let s := if begun then s else if y.found then s.bumpHead n (Reg.RWCn_SYNCMISS n) (fun h => { h with syncMiss := h.syncMiss + 1 })
          else if y.closed then s else s.countMiss n
        match nextPayload c.elems with
        | some p => s.placeResult n p.seq (missResult p.idx (if begun then 6 else 3) y none)
        | none => s.placeLast n (missResult (s.trs.get n).done 3 y none)
    s.modRwc n (fun c => { c with sync := none, sect := none, elems := dropThrough 5 c.elems })

/-! ### Writing (R275, R293, R295 to R297) -/

/-- The content of a written element, by bytes (R275): nothing for a gap or erase, which is DC erase, and for a payload that no page
gives (R239). -/
def State.elemContent (s : State) (n : Fin 4) (e : Elem) : List Byte :=
  if e.fmt = 1 then List.replicate 12 0x33#8
  else if e.fmt = 2 then leBytes (s.rd (Reg.RWCn_SM1 n)).toNat 4
  else if e.fmt = 3 then leBytes (s.rd (Reg.RWCn_SM2 n)).toNat 4
  else if e.fmt = 6 then List.replicate 2 0x33#8
  else if e.isPayload then e.data.getD []
  else if e.fmt = 5 then (ldpcParity (s.codeRam n) (s.rwc.get n).lastPay).flatMap (fun q => leBytes q.toNat 8)
  else if 0x80 ≤ e.fmt then s.memBytes 60 (0x115FE000 + 64 * (e.fmt - 0x80) + 4)
  else []

/-- The first k bits of bytes, bit 0 of each first (R275). -/
def firstBits (l : List Byte) (k : Nat) : List Bool :=
  (l.flatMap (fun b => (List.range 8).map (fun i => b.getLsbD i))).take k

/-- The instants of the transitions of a bit stream, in 1/64 bit from its first bit, each moved earlier by the precompensation of the
run it ends: one bit, two bits, three or more (R295). `level` and `run` are the level before the stream and how long it has lasted. -/
def transitions (pc : Int × Int × Int) : List Bool → Bool → Nat → Nat → List Int
  | [], _, _, _ => []
  | b :: t, level, run, i =>
    if b = level then transitions pc t level (run + 1) (i + 1)
    else
      let p := if run ≤ 1 then pc.1 else if run = 2 then pc.2.1 else pc.2.2
      (64 * (i : Int) - p) :: transitions pc t b 1 (i + 1)

/-- The level at the end of a bit stream and how many bits it has lasted, counted to 3. -/
def streamEnd (bits : List Bool) (level : Bool) (run : Nat) : Bool × Nat :=
  match bits.reverse with
  | [] => (level, run)
  | [b] => (b, if b = level then min 3 (run + 1) else 1)
  | b :: c :: t => (b, if b ≠ c then 1 else if t.head? = some b then 3 else 2)

/-- PC1, PC2 and PC3 of the head sub-record (R309). -/
def State.precomp (s : State) (n : Fin 4) : Int × Int × Int :=
  ((s.headRec n 0x10).toInt, (s.headRec n 0x11).toInt, (s.headRec n 0x12).toInt)

/-- XORs a payload into the track-parity accumulator (R293). -/
def State.parityXor (s : State) (n : Fin 4) (bytes : List Byte) : State :=
  s.modRwc n (fun c =>
    { c with parity := bytes.zipIdx.foldl (fun acc (bi : Byte × Nat) =>
        if bi.1 = 0#8 then acc
        else sparseSet (fun _ => 0#8) acc bi.2 (sparseGet (fun _ => 0#8) acc bi.2 ^^^ bi.1)) c.parity })

/-- A write element has been sent (R275, R295): its bits went out on WD up to where its sector was masked (R296, R297), with their
transitions and the laser's pulses (R320). A payload is XORed into the accumulator whether or not it was masked, and a track-parity payload clears it (R293); the
Parity element ends the sector. -/
def State.finishWrite (s : State) (n : Fin 4) (e : Elem) : State :=
  let content := s.elemContent n e
  let c := s.rwc.get n
  let sent := min e.bits (e.cut.getD (if c.wmask then 0 else e.bits))
  let bits := firstBits content sent
  let (level, run) := c.wtail
  let s := s.emit (.element n e.fmt e.idx content sent (transitions (s.precomp n) bits level run 0) (s.laserPulse n))
  let s := s.modRwc n (fun c => { c with wtail := streamEnd bits level run })
  let s := if e.isPayload then s.modRwc n (fun c => { c with lastPay := content }) else s
  let s := if e.fmt = 4 then s.parityXor n content else if e.fmt = 7 then s.modRwc n (fun c => { c with parity := [] }) else s
  if e.fmt = 5 then
    let s := (s.bumpHead n (Reg.RWCn_SECT_WR n) (fun h => { h with sectWr := h.sectWr + 1 })).modRwc n
      (fun c => { c with wmask := false, underrunSt := false })
    (s.endSector n).refreshLt n
  else s

/-- The elements of a write run on by `adv`, in 2^-20 decks outside the servo window, one bit after the other (R238, R295). -/
def State.writeRun (s : State) (n : Fin 4) (adv : Nat) : Nat → State
  | 0 => s
  | k + 1 =>
    let c := s.rwc.get n
    match c.elems with
    | [] => s
    | e :: rest =>
      if e.start.isSome ∨ ¬ (s.trs.get n).wg then s
      else
        let a := e.advance + adv
        let need := e.bits * c.tb * 16
        if a < need then s.modRwc n (fun c => { c with elems := { e with advance := a } :: rest })
        else ((s.popElem n).finishWrite n e).writeRun n (a - need) k

/-- The element under way is suspended at the last bit boundary that ends before the servo window begins (R272). -/
def State.suspendBit (s : State) (n : Fin 4) : State :=
  s.modRwc n (fun c =>
    match c.elems with
    | e :: t => { c with elems := { e with advance := e.advance / (c.tb * 16) * (c.tb * 16) } :: t }
    | [] => c)

/-- The write elements over an advance of Ln from x by d, in 2^-20 decks (R272, R273): only what lies outside the servo windows of
Ln + DSHIFT counts. -/
def State.writeAdvance (s : State) (n : Fin 4) (x d : Nat) : State :=
  let (pre, post) := s.svwin n
  let pre := pre * 2 ^ 20
  let post := post * 2 ^ 20
  let y := ((x : Int) + s.dshift n * 2 ^ 20 + (s.revUnits : Int)).toNat
  let free (a b : Nat) : Nat := (b - a) - (svBefore (2 ^ 42) pre post b - svBefore (2 ^ 42) pre post a)
  let k := (y + d + pre) / 2 ^ 42
  if pre + post = 0 ∨ (y + pre) / 2 ^ 42 = k then s.writeRun n (free y (y + d)) 5
  else
    let at' := k * 2 ^ 42 - pre
    ((s.writeRun n (free y at') 5).suspendBit n).writeRun n (free at' (y + d)) 5

/-! ### Elements in angle -/

/-- The read element at the front, at the position that the angle gives (R278, R280): the Preamble runs until the SM1 window opens, SM1
until it is found or its window closes, the Pad is passed over to the SM2 check or window, SM2 until the payload begins or its window
closes, the Payload and Parity elements pass for their bits from the position that the accepted mark implies, or E1 for a missed
sector; whose end is that of the sector. -/
def State.readElem (s : State) (n : Fin 4) : State :=
  let c := s.rwc.get n
  let w : Int := s.syncW n
  match c.elems, c.sync with
  | e :: _, some y =>
    if e.start.isSome ∨ e.redecode then s
    else if e.fmt = 1 then (if s.reached n (96 - w) then s.popElem n else s)
    else if e.fmt = 2 then
      if s.reached n (128 + w) then s.popElem n
      else if y.from'.isNone then s.modRwc n (fun c => { c with sync := some { y with from' := some (s.readBit n) } })
      else s
    else if e.fmt = 6 then
      let until' : Int := match y.sm1 with | some f => 144 + f - s.syncConf n | none => 144 - w
      if s.reached n until' then
        (s.popElem n).modRwc n (fun c =>
          { c with sync := some { y with from' := some (max (y.from'.getD until') until') } })
      else s
    else if e.fmt = 3 then (if y.sm1.isSome ∧ s.reached n y.payloadBit then s.popElem n else s)
    else if e.isPayload then (if s.reached n (y.payloadBit + 32832) then s.popElem n else s.placeMiss n)
    else if e.fmt = 5 then
      if y.missPlaced ∧ s.reached n (y.payloadBit + 36544) then s.endReadSector n else s
    else s
  | _, _ => s

/-- The front element of a read that no sector's count governs: a gap or a pattern is passed over for its bits. -/
def State.readGap (s : State) (n : Fin 4) (d : Nat) : State :=
  let c := s.rwc.get n
  match c.elems with
  | e :: rest =>
    if e.fmt < 8 ∨ e.start.isSome then s
    else if e.advance + d < e.bits * c.tb * 16 then s.modRwc n (fun c => { c with elems := { e with advance := e.advance + d } :: rest })
    else (s.modRwc n (fun c => { c with elems := rest, sect := none })).beginSector n
  | [] => s

/-- How far an angle that is to be reached lies ahead of a linear position, in 2^-20 decks: 0 when it has been passed. -/
def State.aheadBy (s : State) (x t : Nat) : Nat :=
  let f := (t * 2 ^ 20 + s.revUnits - x % s.revUnits) % s.revUnits
  if s.revUnits < 2 * f then 0 else f

/-- The front element that waits for its launch angle begins when an advance of d from x reaches it (R243); answers how much of the
advance lies beyond it, none while it is not reached. -/
def State.launchElem (s : State) (n : Fin 4) (x d : Nat) : State × Option Nat :=
  match (s.rwc.get n).elems with
  | e :: t =>
    match e.start with
    | none => (s, some d)
    | some a =>
      let f := s.aheadBy x a
      if d < f then (s, none)
      else ((s.modRwc n (fun c => { c with elems := { e with start := none } :: t })).beginSector n, some (d - f))
  | [] => (s, some d)

/-- One fabric cycle of lane n: an advance of Ln from x by d, in 2^-20 decks (R238, R270 to R273). -/
def State.channelAdvance (s : State) (n : Fin 4) (x d : Nat) : State :=
  match s.launchElem n x d with
  | (s, none) => s
  | (s, some d') =>
    let t := s.trs.get n
    if t.wg then s.writeAdvance n (x + d - d') d'
    else if t.rg ∧ (s.rwc.get n).sect.isSome ∧ (s.rwc.get n).svw = false then
      let s := if (s.rwc.get n).sync.isSome ∧ s.samplesUsed n then s.timingLoop n (d' / 2 ^ 4 / max 1 (s.rwc.get n).tb) else s
      ((((s.readElem n).readElem n).readElem n).readElem n).readGap n d'
    else s

/-- Queues a format element (R238), at its place in the order of results (R287) and with the angle of the launch that is still to come
(R243). -/
def State.queueElem (s : State) (n : Fin 4) (write : Bool) (fmt dpath bits page idx : Nat) (start : Option Nat) : State :=
  let q := (s.rwc.get n).nextSeq
  let e : Elem := ⟨fmt, dpath, bits, page, idx, 0, start, q, none, none⟩
  let first := (s.rwc.get n).elems.isEmpty
  let s := s.modRwc n (fun c => { c with elems := c.elems ++ [e] })
  let s := if ¬ write ∧ e.isPayload ∧ ¬ e.redecode then
      s.modRwc n (fun c => { c with nextSeq := q + 1, owed := c.owed ++ [q] }) else s
  let s := if write then s.prefetch n else s
  let s := if first ∧ e.isPayload ∧ (s.rwc.get n).sect.isSome then s.beginPayload n else s
  let s := s.beginSector n
  if write then s else s.placeMiss n

/-- What RWCn does when TRSn accepts a descriptor (R268, R284, R293, R302): T_b of the recording zone, the adapted
values at their seeds, the accumulator cleared, the operation registers at 0, the queues empty. -/
def State.rwcAccept (s : State) (n : Fin 4) (op : OpDesc) : State :=
  let surf := op.band / 2 ^ 24 % 32
  let baud := s.dpi.baud surf op.rz
  let num := s.piers * 2 ^ 22 * 120 * 65536
  let den := baud * 1000000
  let tb := if den = 0 then 0 else (2 * num + den) / (2 * den)
  let rec' := s.fetchHead n op
  let s := s.modRwc n (fun c =>
    { c with elems := [], tb := tb, sync := none, inbuf := [], units := [], results := [], held := [], ready := [], owed := [],
             nextSeq := 0, parity := [], lastPay := [], wmask := false, inhCounted := false, underrunSt := false, sect := none,
             head := rec' })
  let seeds := (s.seeds n).map (· * 2 ^ 16)
  let s := s.modRwc n (fun c => { c with adapt := seeds })
  (((s.wr (Reg.RWCn_OP_ALIGN n) 0#32).wr (Reg.RWCn_OP_WIN n) 0#32).wr (Reg.RWCn_OP_ITER n) 0#32).wr
    (Reg.RWCn_OP_PAR n) 0#32

end Sys2Proof.Machine
end

