-- ==== Sys2Proof/Machine/Trestle.lean ====
section
/-!
DEFINITION. Sys2Proof/Machine/Trestle.lean: the four Trestle sequencers and the control store
(spec/07_trestle_sequencer.md): microwords, their issue and release, machine checks, forced stops, and the writes of
the control store.
-/
namespace Sys2Proof.Machine

/-! ### The control store -/

/-- The fill word of the customer region (R228): COND = 0xF, every other field 0; its parity bits are 0. -/
def csFill : Nat := 15 * 2 ^ 126

/-- What a control store word holds until it is written: the fill word in the customer region, 0 elsewhere. -/
def csDefault (w : Nat) : Nat := if 0x3000 ≤ w then csFill else 0

/-- The stored word with its parity, 148 bits (R229). -/
def State.csWord (s : State) (w : Nat) : Nat := sparseGet csDefault s.cs.words w

/-- The number of ones among bits lo to lo + n − 1, modulo 2. -/
def parityBits (x lo : Nat) : Nat → Nat
  | 0 => 0
  | k + 1 => (parityBits x lo k + x / 2 ^ (lo + k)) % 2

/-- The four parity bits Q3..Q0 of a 144-bit word: even parity of each 36-bit quarter (R258). -/
def csParity (x : Nat) : Nat :=
  parityBits x 0 36 + 2 * parityBits x 36 36 + 4 * parityBits x 72 36 + 8 * parityBits x 108 36

/-- Stores word w whole, with its parity; TRS_CS_CTRL.INJ inverts the bit QSEL names and returns to 0 (R257, R258). -/
def State.csCommit (s : State) (w x : Nat) : State :=
  let x := x % 2 ^ 144
  let inj := s.fget Reg.TRS_CS_CTRL_INJ = 1
  let q := if inj then Nat.xor (csParity x) (2 ^ s.fget Reg.TRS_CS_CTRL_QSEL) else csParity x
  let s := { s with cs := { s.cs with words := sparseSet csDefault s.cs.words w (x + q * 2 ^ 144) } }
  if inj then s.fput Reg.TRS_CS_CTRL_INJ 0 else s

/-- Whether a master may write control store word w (R259). -/
def State.csWritable (s : State) (m : Master) (w : Nat) : Bool :=
  (m.isCore || (decide (m = .jtag) && s.jtagPermitted)) &&
    (if w < 0x3000 then decide (s.fget Reg.TRS_LOCK_SLOCK = 0) else decide (s.fget Reg.TRS_CS_CTRL_COPEN = 1))

/-- A refused control store write: no effect, REFUSED, a Notice event (R259). -/
def State.csRefused (s : State) : State := s.evt Reg.TRS_EVT_STAT_REFUSED .notice

/-- A write to offsets 0x00 to 0x0C (part 0 to 3) of a control store slot: it goes to the master's holding register
(R257), when the region accepts it. -/
def State.csHold (s : State) (m : Master) (w part : Nat) (v : Word) : State :=
  if ¬ s.csWritable m w then s.csRefused
  else
    let h := sparseGet (fun _ => 0) s.cs.hold m.number
    { s with cs := { s.cs with
        hold := sparseSet (fun _ => 0) s.cs.hold m.number (putBits h (32 * part + 31) (32 * part) v.toNat) } }

/-- A write to offset 0x10 of a slot: commits the holding register and bits [15:0] of the write to word w as one
update; the holding register is cleared (R257). -/
def State.csCommitWrite (s : State) (m : Master) (w : Nat) (v : Word) : State :=
  if ¬ s.csWritable m w then s.csRefused
  else
    let h := sparseGet (fun _ => 0) s.cs.hold m.number
    let s := s.csCommit w (h % 2 ^ 128 + v.toNat % 65536 * 2 ^ 128)
    { s with cs := { s.cs with hold := sparseSet (fun _ => 0) s.cs.hold m.number 0 } }

/-! ### Microword fields (R229) -/

/-- NEXT. -/
def mwNext (x : Nat) : Nat := bitsOf x 143 130
/-- COND. -/
def mwCond (x : Nat) : Nat := bitsOf x 129 126
/-- ALT. -/
def mwAlt (x : Nat) : Nat := bitsOf x 125 112
/-- SAFE. -/
def mwSafe (x : Nat) : Bool := x.testBit 111
/-- HALT. -/
def mwHalt (x : Nat) : Bool := x.testBit 110
/-- RG. -/
def mwRg (x : Nat) : Bool := x.testBit 109
/-- WG. -/
def mwWg (x : Nat) : Bool := x.testBit 108
/-- AG. -/
def mwAg (x : Nat) : Bool := x.testBit 107
/-- PG. -/
def mwPg (x : Nat) : Bool := x.testBit 106
/-- WAIT. -/
def mwWait (x : Nat) : Nat := bitsOf x 105 102
/-- ATRIG. -/
def mwAtrig (x : Nat) : Nat := bitsOf x 101 96
/-- CNTIMM. -/
def mwCntimm (x : Nat) : Nat := bitsOf x 95 80
/-- CNTOP. -/
def mwCntop (x : Nat) : Nat := bitsOf x 79 76
/-- FMT. -/
def mwFmt (x : Nat) : Nat := bitsOf x 75 68
/-- DPATH. -/
def mwDpath (x : Nat) : Nat := bitsOf x 67 60
/-- PREAMP. -/
def mwPreamp (x : Nat) : Nat := bitsOf x 59 52
/-- EVT. -/
def mwEvt (x : Nat) : Nat := bitsOf x 51 44
/-- REGSEL. -/
def mwRegsel (x : Nat) : Nat := bitsOf x 43 32
/-- IMM. -/
def mwImm (x : Nat) : Nat := bitsOf x 31 0

/-- Machine check causes (R252). -/
inductive McCause where
  | parity | encoding | region | gate | sector | skipList
  deriving DecidableEq, Repr

/-- The code of a machine check cause in TRSn_MCHK.CAUSE. -/
def McCause.code : McCause → Nat
  | .parity => 1
  | .encoding => 2
  | .region => 3
  | .gate => 4
  | .sector => 5
  | .skipList => 6

/-- BITS of the pattern entry that FMT 0x80 and above names (R255), from the pattern RAM. -/
def State.patternBits (s : State) (fmt : Nat) : Nat := s.memLe 2 (0x115FE000 + 64 * (fmt - 0x80))

/-- Whether a REGSEL value has a destination (R242). -/
def regselOk (r : Nat) : Bool :=
  decide (r / 1024 ≠ 3) &&
    (let d := r % 1024
     decide (d ≤ 6) || (decide (0x100 ≤ d) && decide (d ≤ 0x1FF)) || (decide (0x200 ≤ d) && decide (d ≤ 0x27F)) ||
       (decide (0x300 ≤ d) && decide (d ≤ 0x33F)))

/-- Whether the EVT encoding is not reserved (R241). -/
def evtOk (e : Nat) : Bool :=
  decide (e ≤ 0x42) || (decide (0x80 ≤ e) && decide (e ≤ 0x84)) || decide (e = 0x87)

/-- Whether every encoding of the word is defined, whatever the pattern RAM holds (R235 to R242): the static check of
R261 and of issue. -/
def mwEncodingOk (x : Nat) : Bool :=
  decide (mwWait x ≤ 0xB) && decide (mwCond x ≠ 0xF) && decide (mwCntop x ≤ 9) &&
    (decide (mwFmt x ≤ 8) || decide (0x80 ≤ mwFmt x)) && regselOk (mwRegsel x) && evtOk (mwEvt x) &&
    (if mwFmt x = 4 ∨ mwFmt x = 7 then decide (mwDpath x / 2 % 4 ≠ 3) && decide (mwDpath x % 2 = 0)
     else decide (mwDpath x = 0))

/-- The checks of a word at issue (R252), in the order Encoding, Region, Gate. -/
def State.issueCheck (s : State) (customer : Bool) (kind x : Nat) : Option McCause :=
  let named := mwWait x = 1 ∨ (1 ≤ mwRegsel x % 1024 ∧ mwRegsel x % 1024 ≤ 6)
  let readKind := kind = 1 ∨ kind = 3
  if ¬ mwEncodingOk x ∨ (mwFmt x = 8 ∧ mwImm x % 65536 = 0) ∨ (0x80 ≤ mwFmt x ∧ s.patternBits (mwFmt x) = 0) then
    some .encoding
  else if named ∧ ((¬ customer ∧ 16 ≤ mwAtrig x) ∨ (customer ∧ (mwAtrig x < 16 ∨ 32 ≤ mwAtrig x))) then
    some .region
  else if (mwRg x ∧ mwWg x) ∨ (readKind ∧ (mwWg x ∨ mwAg x)) ∨ (mwWg x ∧ ¬ mwPg x) ∨
      (mwSafe x ∧ (mwWg x ∨ mwAg x)) ∨ (readKind ∧ mwDpath x / 64 = 2) then
    some .gate
  else none

/-! ### Sectors of the track (R245, R246) -/

/-- SPT of a surface and recording zone (TRS_SPT). -/
def State.spt (s : State) (surf rz : Nat) : Nat :=
  if rz % 2 = 1 then s.fget (Reg.TRS_SPT_n_i_ODD surf (rz / 2)) else s.fget (Reg.TRS_SPT_n_i_EVEN surf (rz / 2))

/-- SANG of physical sector q of the operation (R245). -/
def State.sectorAngle (s : State) (d : OpDesc) (q : Nat) : Nat :=
  let spt := s.spt d.surf d.rz
  let j := (q + spt - d.first % spt) % spt
  angleAdd s.piers d.start (j * revLen s.piers / spt)

/-- The skip list that DEFECT names (R246): `none` when it breaks a rule, `some none` for 0xFFFF. -/
def State.fetchSkip (s : State) (d : OpDesc) : Option (Option SkipList) :=
  if d.defect = 0xFFFF then some none
  else if s.fget Reg.TRS_SKIP_LIMIT_COUNT ≤ d.defect then none
  else
    let a := s.fget Reg.TRS_SKIP_BASE_ADDR * 32 + 32 * d.defect
    let pf := s.memLe 2 a
    let pl := s.memLe 2 (a + 2)
    let nd := s.memLe 1 (a + 4)
    let defs := (List.range (min nd 13)).map (fun k => s.memLe 2 (a + 6 + 2 * k))
    let spt := s.spt d.surf d.rz
    let rising := (defs.zip (defs.drop 1)).all (fun p => decide (p.1 < p.2))
    if nd ≤ 13 ∧ (pl = 0xFFFF ↔ pf = 0xFFFF) ∧ (pf ≠ 0xFFFF → pf ≤ pl) ∧ s.memLe 1 (a + 5) = 0 ∧ rising ∧
        defs.all (fun q => decide (q < spt)) then
      some (some ⟨pf, pl, defs⟩)
    else none

/-- The initial PSEC (R223, R245): FIRST, or for a WRAP operation the sector of its range whose SANG is first reached
from Ln plus 0x10_0000 decks. -/
def State.firstSector (s : State) (n : Fin 4) (d : OpDesc) : Nat :=
  if ¬ d.wrap then d.first
  else
    let p := s.piers
    let spt := s.spt d.surf d.rz
    let m := (angleFwd p d.start d.endA * spt + revLen p - 1) / revLen p
    let at0 := angleAdd p (s.laneAngle n) 0x100000
    ((List.range m).foldl (fun best i =>
      let q := (d.first + i) % spt
      let dist := angleFwd p at0 (s.sectorAngle d q)
      if dist < best.2 then (q, dist) else best) (d.first, revLen p)).1

/-- The page of a sector of a WRAP operation: class-D sectors of the range receive pages BUF onward in range order
(R245). -/
def State.wrapPage (s : State) (d : OpDesc) (sk : Option SkipList) (q : Nat) : Nat :=
  let spt := s.spt d.surf d.rz
  let j := (q + spt - d.first % spt) % spt
  (d.buf + ((List.range j).filter (fun i => decide (sectorClass sk ((d.first + i) % spt) = 0))).length) % 3072

/-! ### Halts, forced stops, machine checks -/

/-- Disarms lane triggers 0 to 31 of lane n, with the late firings that are due and what R71 kept of them (R224). -/
def State.disarmSeqTriggers (s : State) (n : Fin 4) : State :=
  let s := (List.range 32).foldl (fun s i =>
    if s.fget (Reg.ATB_LTRIGn_i_CTRL_ARM n i) = 1 then s.fput (Reg.ATB_LTRIGn_i_CTRL_ARM n i) 0 else s) s
  let late := s.atb.lateDue.filter (fun t => ! (decide (t.1 = n.val) && decide (t.2.1 < 32)))
  let old := s.atb.written.filter (fun o => ! (decide (o.lane = n.val) && decide (o.i < 32)))
  { s with atb := { s.atb with lateDue := late, written := old } }

/-- What every end of an operation does on the lane: the gates fall, AST closes its window and clears BIAS, the assist
source held by R319 ends, lane triggers 0 to 31 are disarmed, and TRSn reports to the MSC (R224, R233, R251, R318). -/
def State.trsEnd (s : State) (n : Fin 4) : State :=
  let t := s.trs.get n
  let fail := t.fail
  let rep : TrsReport :=
    { lane := n, op := t.op, code := t.code, done := if fail ≠ 0xFFFF then fail else t.done, fail := fail,
      stamp := s.stamp, firstGate := t.firstGate, psec := t.psec, sang := t.sang, customer := t.op.customer }
  let s := if t.rg then s.rgFall n else s
  let s := s.modTrs n (fun t =>
    { t with st := .idle, stalled := none, rg := false, wg := false, ag := false, pg := false, launch := [],
             abortP := false, noWrite := false })
  let s := s.modPa n (fun p => { p with window := false, edges := [] })
  let s := s.fput (Reg.AST_OPn_CTRL_BIAS n) 0
  let s := if (s.pa.get n).astHeld then (s.modPa n (fun p => { p with astHeld := false })).winhOff n 7 else s
  let s := (s.disarmSeqTriggers n).refreshLt n
  { s with msc := { s.msc with reports := s.msc.reports ++ [rep] } }

/-- A forced stop with its outcome (R250): no further issue, the gates off, the element queue and the preamp commands not
yet started discarded; FAIL when WG was 1; TRSn_FORCED. Only a sequencer that runs an operation is stopped. -/
def State.forceStop (s : State) (n : Fin 4) (code : Nat) : State :=
  let t := s.trs.get n
  if t.st = .running ∨ t.st = .held then
    let s := s.modTrs n (fun t =>
      { t with code := code, fail := if t.wg then min t.fail t.done else t.fail })
    let s := s.modPa n (fun p => { p with queue := [] })
    let s := s.trsEnd n
    let s := s.modRwc n (fun c => { c with elems := [], wmask := false, inhCounted := false, sect := none })
    (s.bump (Reg.TRSn_FORCED n)).evt (Reg.TRSn_EVT_STAT_FORCED n) .notice
  else s

/-- No customer image is loaded: TRS_CENTRY and TRS_IMAGE_ID are 0 (R262 step 2, R267). -/
def State.customerGone (s : State) : State :=
  let s := ((s.fput Reg.TRS_CENTRY_LO_VALID 0).fput Reg.TRS_CENTRY_HI_VALID 0).fput Reg.TRS_IMAGE_ID_ID 0
  { s with cs := { s.cs with image := none } }

/-- The customer region is invalidated, with CINVAL (R253, R264). -/
def State.centryInvalidate (s : State) : State := (s.customerGone).evt Reg.TRS_EVT_STAT_CINVAL .fault

/-- A machine check at a word address (R252, R253): a forced stop with outcome Machine check, state Checked, the cause
and address recorded; the fourth within 64 revolutions of G sets the actuator Out. -/
def State.machineCheck (s : State) (n : Fin 4) (cause : McCause) (addr : Nat) : State :=
  let cust := (s.trs.get n).op.customer
  let s := s.forceStop n Outc.machineCheck
  let s := s.modTrs n (fun t => { t with st := .checked })
  let s := ((s.fput (Reg.TRSn_MCHK_VALID n) 1).fput (Reg.TRSn_MCHK_ADDR n) addr).fput
    (Reg.TRSn_MCHK_CAUSE n) cause.code
  let s := (s.bump (Reg.TRSn_MCHKS n)).evtC (Reg.TRSn_EVT_STAT_MCHK n) .fault (some .uc) []
  let s := if cust ∧ cause ≠ .parity then s.centryInvalidate else s
  let (hit, w) := escalate (s.trs.get n).mchkWin s.stamp (s.revs 64) 4
  let s := s.modTrs n (fun t => { t with mchkWin := w })
  let s := if hit then (s.evt (Reg.TRSn_EVT_STAT_ESCAL n) .fault).setOut n .machineChecks else s
  s.startHandler

/-! ### Issue and release -/

/-- Issues the word at an address (R230, R252): parity, the checks of the word, then it stalls; a WAIT 0x1 word whose
trigger has already fired is a late launch (R243). -/
def State.issueWord (s : State) (n : Fin 4) (addr : Nat) : State :=
  let stored := s.csWord addr
  let x := stored % 2 ^ 144
  let op := (s.trs.get n).op
  if csParity x ≠ stored / 2 ^ 144 then s.machineCheck n .parity addr
  else
    let s := s.modTrs n (fun t => { t with pc := addr, stalled := none, fired := none,
                                            issueSpans := (s.atb.lanes.get n).spans })
    match s.issueCheck op.customer op.kind x with
    | some c => s.machineCheck n c addr
    | none =>
      let s := s.modTrs n (fun t => { t with stalled := some x })
      if mwWait x = 1 ∧ s.fget (Reg.ATB_LTRIGn_i_STATUS_FIRED n (mwAtrig x)) = 1 then
        (s.fput (Reg.ATB_LTRIGn_i_STATUS_FIRED n (mwAtrig x)) 0).modTrs n (fun t => { t with fired := some true })
      else s

/-- The next word: issued at once, or, with TRSn_CTRL.HOLD at 1, the sequencer is Held before it (R222). -/
def State.issueOrHold (s : State) (n : Fin 4) (addr : Nat) : State :=
  if s.fget (Reg.TRSn_CTRL_HOLD n) = 1 then
    s.modTrs n (fun t => { t with st := .held, stalled := none, heldNext := addr })
  else s.issueWord n addr

/-- Whether the queues have room for the word (R231). -/
def State.roomFor (s : State) (n : Fin 4) (x : Nat) : Bool :=
  (decide (mwFmt x = 0) || decide ((s.rwc.get n).elems.length < 4)) &&
    (decide (mwPreamp x = 0) || decide (s.paCount n < 4))

/-- Whether page PAGE is one of the pages of the operation (R235 0x5): those were allocated and, for a write, filled before the
operation could be selected (R33, R205). -/
def TrsSt.pageOwn (t : TrsSt) : Bool := decide ((t.page + 3072 - t.op.buf % 3072) % 3072 < t.op.count)

/-- Whether the WAIT source of a word is satisfied (R235). -/
def State.waitDone (s : State) (n : Fin 4) (x : Nat) : Bool :=
  let t := s.trs.get n
  match mwWait x with
  | 0 => true
  | 1 => t.fired.isSome
  | 2 => decide (t.cnt1 = 0)
  | 3 => t.syncFound || t.winClosed
  | 4 => t.winClosed
  | 5 => t.pageOwn
  | 6 => ! (s.rwc.get n).results.isEmpty
  | 7 => decide (s.paTrsCount n = 0)
  | 8 => decide (t.issueSpans < (s.atb.lanes.get n).spans)
  | 9 => (s.rwc.get n).elems.isEmpty
  | 10 => s.pageFinal t.op t.skip (s.spt t.op.surf t.op.rz) t.page
  | 11 => decide (s.winh n = 0)
  | _ => false

/-- The branch condition of a word (R236), after the pop of WAIT 0x6. -/
def State.condTrue (s : State) (n : Fin 4) (c : Nat) : Bool :=
  let t := s.trs.get n
  match c with
  | 1 => true
  | 2 => decide (t.cnt0 = 0)
  | 3 => t.syncFound
  | 4 => t.syncMissed
  | 5 => match t.popped with | some r => decide (r.cause ≠ 0) | none => false
  | 6 => decide (s.winh n ≠ 0) || t.inhHit
  | 7 => decide (t.done + 1 = t.op.count)
  | 8 => decide (sectorClass t.skip t.psec = 1)
  | 9 => decide (sectorClass t.skip t.psec = 2)
  | 10 => t.abortP
  | 11 => t.flag0
  | 12 => t.flag1
  | 13 => t.underrun
  | 14 => s.leaseValid n
  | _ => false

/-- The length in bits of the element a word queues (R238). -/
def State.fmtBits (s : State) (x : Nat) : Nat :=
  match mwFmt x with
  | 1 => 96
  | 2 => 32
  | 3 => 32
  | 4 => 32832
  | 5 => 3712
  | 6 => 16
  | 7 => 32832
  | 8 => mwImm x % 65536
  | f => s.patternBits f

/-- The value a REGSEL write carries (R242). -/
def State.regselValue (s : State) (n : Fin 4) (x : Nat) : Word :=
  let t := s.trs.get n
  match mwRegsel x / 1024 with
  | 1 => BitVec.ofNat 32 (angleAddInt s.piers t.sang (BitVec.ofNat 32 (mwImm x)).toInt)
  | 2 => BitVec.ofNat 32 t.op.endA
  | _ => BitVec.ofNat 32 (mwImm x)

/-- An operation register written through REGSEL or the window: its field under its access type; PAn_OP_LWR and
PAn_OP_LBIAS above LMAX of the descriptor's head are applied as LMAX (R317). An offset that holds no register is refused
as R37 says; R506 numbers no master for a sequencer, so that byte of the payload is free (notes/assumptions/4.md). -/
def State.opRegWrite (s : State) (n : Fin 4) (a : Nat) (v : Word) : State :=
  match findReg a with
  | none =>
    { s.offer 0 0xFFFF 0x200000 .notice none (leBytes a 8 ++ [Config.freeByte s.fresh, 1#8, 1#8]) with
        fresh := s.fresh + 1 }
  | some h =>
    let need := v.toNat % 256
    let s := if a = Reg.PAn_OP_LWR n then s.modPa n (fun p => { p with lwrNeed := need }) else s
    let v := if a = Reg.PAn_OP_LWR n ∨ a = Reg.PAn_OP_LBIAS n then
        BitVec.ofNat 32 (min (v.toNat % 256) (s.dpi.lmax (s.trs.get n).op.head)) else v
    let s := s.wr a (BitVec.ofNat 32 (h.row.written true false (s.rd a).toNat v.toNat))
    s.refreshLt n

/-- The REGSEL write of a word (R242): trigger registers under R70 and R71, the arm and disarm accesses, and the
operation registers of the lane. -/
def State.regselWrite (s : State) (n : Fin 4) (x : Nat) : State :=
  let v := s.regselValue n x
  let i := mwAtrig x
  let d := mwRegsel x % 1024
  if d = 0 then s
  else if d = 1 then s.trigAngleWrite n.val i v
  else if d = 2 then s.trigCtrlWrite n.val i v
  else if d ≤ 6 then
    let s := ((s.trigSave n.val i).dropLateNow n.val i).fput (Reg.ATB_LTRIGn_i_CTRL_ARM n i) 0
    if d = 6 then s
    else if s.piers ≤ v.toNat / 2 ^ 22 then s.trigReject n.val i
    else
      (s.wr (Reg.ATB_LTRIGn_i_ANGLE n i) v).trigCtrlWrite n.val i (BitVec.ofNat 32 (1 + 16 * (d - 3)))
  else if d < 0x200 then s.opRegWrite n (Reg.RWCn_BASIC n + 0x400 + 4 * (d - 0x100)) v
  else if d < 0x280 then s.opRegWrite n (Reg.AST_BASIC + 0x400 + 0x200 * n + 4 * (d - 0x200)) v
  else s.opRegWrite n (Reg.PAn_BASIC n + 0x400 + 4 * (d - 0x300)) v

/-- Whether an Advance by the word raises a machine check with cause Sector (R237, R245). -/
def State.advanceBad (s : State) (n : Fin 4) (x : Nat) : Bool :=
  let t := s.trs.get n
  let c := sectorClass t.skip t.psec
  decide (mwCntop x = 6) && (decide (c = 2) || decide (t.op.count ≤ t.done) || (t.op.wrap && decide (c = 1)))

/-- Whether write inhibit is active while the gates hold WG = 1 (R247). -/
def State.inhibited (s : State) (n : Fin 4) : Bool := (s.trs.get n).wg && decide (s.winh n ≠ 0)

/-- Moves to the next physical sector (R245); the sync, underrun and inhibit-hit status is cleared (R236). -/
def State.nextSector (s : State) (n : Fin 4) (transferred : Bool) : State :=
  let t := s.trs.get n
  let d := t.op
  let spt := s.spt d.surf d.rz
  let q := (t.psec + 1) % spt
  let q := if d.wrap ∧ (q + spt - d.first % spt) % spt = (angleFwd s.piers d.start d.endA * spt + revLen s.piers - 1) / revLen s.piers
    then d.first else q
  let page := if d.wrap then s.wrapPage d t.skip q else if transferred then (t.page + 1) % 3072 else t.page
  let ang := s.sectorAngle d q
  s.modTrs n (fun t =>
    { t with psec := q, done := if transferred then t.done + 1 else t.done, page := page, sang := ang,
             syncFound := false, syncMissed := false, winClosed := false, inhHit := s.inhibited n, underrun := false })

/-- CNTOP (R237). -/
def State.cntop (s : State) (n : Fin 4) (x : Nat) : State :=
  let imm := mwCntimm x
  match mwCntop x with
  | 1 => s.modTrs n (fun t => { t with cnt0 := imm })
  | 2 => s.modTrs n (fun t => { t with cnt0 := t.cnt0 - 1 })
  | 3 => s.modTrs n (fun t => { t with cnt0 := t.op.count })
  | 4 => s.modTrs n (fun t => { t with cnt1 := imm })
  | 5 => s.modTrs n (fun t => { t with cnt1 := min (imm * 64) 0xFFFF })
  | 6 => s.nextSector n true
  | 7 => s.nextSector n false
  | 8 =>
    let t := s.trs.get n
    let ang := s.sectorAngle t.op t.psec0
    (s.modTrs n (fun t =>
      { t with psec := t.psec0, done := 0, page := t.page0, sang := ang, syncFound := false, syncMissed := false,
               winClosed := false, inhHit := s.inhibited n, underrun := false })).modRwc n
        (fun c => { c with results := [], held := [] })
  | 9 =>
    s.modTrs n (fun t =>
      { t with flag0 := if imm.testBit 8 then imm.testBit 0 else t.flag0,
               flag1 := if imm.testBit 9 then imm.testBit 1 else t.flag1 })
  | _ => s

/-- EVT (R241). -/
def State.evtField (s : State) (n : Fin 4) (e : Nat) : State :=
  let t := s.trs.get n
  let outc (code : Nat) (mark : Bool) : State :=
    s.modTrs n (fun t => { t with code := code, fail := if mark ∧ t.fail = 0xFFFF then t.done else t.fail })
  if e = 0 then s
  else if e ≤ 0x3F then
    s.notePay (Reg.TRSn_PC n) .trace
      (leBytes e 1 ++ [0#8] ++ leBytes t.psec 2 ++ leBytes t.done 2 ++ leBytes t.op.slot 2)
  else if e = 0x40 then s.modTrs n (fun t => { t with fail := min t.fail t.done })
  else if e = 0x41 then
    match t.popped with
    | some r => s.modTrs n (fun t => { t with fail := min t.fail r.idx })
    | none => s
  else if e = 0x42 then s.evt (Reg.TRSn_EVT_STAT_SEQ n) .trace
  else if e = 0x80 then outc 0 false
  else if e = 0x81 then outc 1 false
  else if e = 0x82 then outc 2 true
  else if e = 0x83 then outc 3 true
  else if e = 0x84 then outc 4 false
  else if e = 0x87 then outc 7 true
  else s

/-- The gates become what a word asked for (R233): RG falling ends the sector being read; inhibit on an asserted WG is a hit
(R247). -/
def State.setGates (s : State) (n : Fin 4) (g : Bool × Bool × Bool × Bool) : State :=
  let s := if (s.trs.get n).rg ∧ ¬ g.1 then s.rgFall n else s
  let s := s.modTrs n (fun t => { t with rg := g.1, wg := g.2.1, ag := g.2.2.1, pg := g.2.2.2 })
  let s := if s.inhibited n then s.modTrs n (fun t => { t with inhHit := true }) else s
  (s.beginSector n).refreshLt n

/-- The gates of a released word (R233, R243): WG, AG and PG stay 0 after a late write launch; the first gate's stamp is
kept for R251. The gates of a launch take effect at its target angle `at'`, and those of the words released before that angle with
them. -/
def State.applyGates (s : State) (n : Fin 4) (x : Nat) (at' : Option Nat) : State :=
  let ok := ! (s.trs.get n).noWrite
  let g := (mwRg x, mwWg x && ok, mwAg x && ok, mwPg x && ok)
  let s := s.modTrs n (fun t =>
    { t with firstGate := if t.firstGate = none ∧ (mwRg x ∨ mwWg x) then some s.stamp else t.firstGate })
  match at', (s.trs.get n).launch.getLast? with
  | some a, _ => s.modTrs n (fun t => { t with launch := t.launch ++ [(a, g)] })
  | none, some (a, _) => s.modTrs n (fun t => { t with launch := t.launch.dropLast ++ [(a, g)] })
  | none, none => s.setGates n g

/-- The launches of lane n whose target angle an advance of d from x reaches take effect (R243). -/
def State.launchGates (s : State) (n : Fin 4) (x d : Nat) : State :=
  let due := (s.trs.get n).launch.takeWhile (fun l => decide (s.aheadBy x l.1 ≤ d))
  let s := s.modTrs n (fun t => { t with launch := t.launch.drop due.length })
  due.foldl (fun s l => s.setGates n l.2) s

/-- A late launch (R243, R244). -/
def State.lateLaunch (s : State) (n : Fin 4) (x : Nat) : State :=
  if mwWg x ∨ mwAg x then
    let s := (s.bump (Reg.TRSn_LATEW n)).evt (Reg.TRSn_EVT_STAT_LATEW n) .notice
    let s := s.modTrs n (fun t =>
      { t with noWrite := true, code := Outc.writeInhibited, fail := min t.fail t.done, abortP := true })
    let (hit, w) := escalate (s.trs.get n).latewWin s.stamp (s.revs 64) 4
    let s := s.modTrs n (fun t => { t with latewWin := w })
    if hit then (s.evt (Reg.TRSn_EVT_STAT_ESCAL n) .fault).escDegraded n else s
  else (s.bump (Reg.TRSn_LATER n)).note (Reg.TRSn_LATER n) .notice

/-- The outcome of an aborted operation (R249). -/
def abortCode (code : Nat) : Nat := if code = 1 ∨ code = 2 ∨ code = 3 ∨ code = 7 then code else Outc.aborted

/-- Release of the stalled word: its actions in the order of R232, then the halt or the branch. -/
def State.releaseWord (s : State) (n : Fin 4) (x : Nat) : State :=
  let addr := (s.trs.get n).pc
  let popped := if mwWait x = 6 then s.popResult n else s
  let take := popped.condTrue n (mwCond x)
  let target := if take then mwAlt x else mwNext x
  let cust := (s.trs.get n).op.customer
  let halts := mwHalt x || (mwSafe x && (s.trs.get n).abortP)
  if s.advanceBad n x then s.machineCheck n .sector addr
  else if ¬ halts ∧ (if cust then target < 0x3000 else 0x3000 ≤ target) then s.machineCheck n .region addr
  else
    let late := mwWait x = 1 ∧ (s.trs.get n).fired = some true
    let s := popped.modTrs n (fun t => { t with stalled := none, fired := none })
    let ahead := s.aheadBy (s.atb.g + (s.rd (Reg.ATB_LOFFn n)).toNat * 2 ^ 20) (s.trs.get n).fireAt
    let at' : Option Nat := if mwWait x = 1 ∧ ¬ late ∧ 0 < ahead then some (s.trs.get n).fireAt else none
    let s := if late then s.lateLaunch n x else s
    let s := s.applyGates n x at'
    let t := s.trs.get n
    let s := if mwFmt x = 0 then s
      else s.queueElem n t.op.isWrite (mwFmt x) (mwDpath x) (s.fmtBits x) t.page t.done (t.launch.getLast?.map (·.1))
    let s := if mwPreamp x = 0 then s
      else s.modPa n (fun p => { p with queue := p.queue ++ [⟨mwPreamp x, .trs⟩] })
    let s := s.regselWrite n x
    let s := s.cntop n x
    let s := s.evtField n (mwEvt x)
    if mwSafe x ∧ (s.trs.get n).abortP then
      (s.modTrs n (fun t => { t with code := abortCode t.code })).trsEnd n
    else if mwHalt x then s.trsEnd n
    else s.issueOrHold n target

/-- WORD_RELEASE: the stalled word of TRSn is released when its WAIT source is satisfied and the queues have room (R230
to R232). -/
def State.wordRelease (s : State) (n : Fin 4) : State :=
  let t := s.trs.get n
  match t.stalled with
  | none => s
  | some x => if t.st = .running ∧ s.waitDone n x ∧ s.roomFor n x then s.releaseWord n x else s

/-- A firing of lane trigger i reaches TRSn (R69, R243): the word that waits on it is released by it, late when the
firing is late or the queues have no room; its gates and element take effect at the target angle `at'`. -/
def State.trsTriggerFired (s : State) (n : Fin 4) (i : Nat) (late : Bool) (at' : Nat) : State :=
  match (s.trs.get n).stalled with
  | none => s
  | some x =>
    if mwWait x = 1 ∧ mwAtrig x = i ∧ (s.trs.get n).fired = none then
      s.modTrs n (fun t => { t with fired := some (late || ! s.roomFor n x), fireAt := at' })
    else s

/-! ### Control register writes -/

/-- TRS_CTRL_STOP (R250). -/
def State.trsStop (s : State) (n : Fin 4) : State := s.forceStop n Outc.aborted

/-- TRS_CTRL_CLR: Checked to Idle; TRSn_MCHK.VALID clears (R222). -/
def State.trsClr (s : State) (n : Fin 4) : State :=
  if (s.trs.get n).st = .checked then
    ((s.modTrs n (fun t => { t with st := .idle })).fput (Reg.TRSn_MCHK_VALID n) 0).endHandler
  else s

/-- A sequencer that comes to run while its filtered fault line is active is stopped (R250). -/
def State.faultStops (s : State) (n : Fin 4) : State :=
  if (s.trs.get n).st = .running ∧ (s.pa.get n).faultLine then s.forceStop n Outc.preampFault else s

/-- TRS_CTRL_HOLD: HOLD written; a Held sequencer leaves Held and issues its next word (R222). -/
def State.trsHold (s : State) (n : Fin 4) (v : Bool) : State :=
  let s := s.fput (Reg.TRSn_CTRL_HOLD n) (if v then 1 else 0)
  let t := s.trs.get n
  if ¬ v ∧ t.st = .held then
    let s := (s.modTrs n (fun t => { t with st := .running })).faultStops n
    match t.stalled with
    | some _ => s
    | none => if (s.trs.get n).st = .running then s.issueWord n t.heldNext else s
  else s

/-- TRS_CTRL_STEP: a Held sequencer executes one word (R222): it issues, and is Held again before the next. -/
def State.trsStep (s : State) (n : Fin 4) : State :=
  let t := s.trs.get n
  if t.st = .held ∧ t.stalled = none then
    let s := (s.modTrs n (fun t => { t with st := .running })).faultStops n
    if (s.trs.get n).st = .running then s.issueWord n t.heldNext else s
  else s

/-- TRS_DESCRIPTOR_ACCEPT: an Idle TRSn with HOLD 0 accepts a descriptor: per-operation state (R223), the skip list
(R246), RWCn, PAn and AST operation settings (R268, R284, R302, R317, R320), then the entry word (R226). -/
def State.trsAccept (s : State) (n : Fin 4) (d : OpDesc) : State :=
  let spt := s.spt d.surf d.rz
  let skip := s.fetchSkip d
  let s := s.modTrs n (fun t =>
    { t with st := .running, op := d, psec := d.first, done := 0, page := d.buf, sang := d.start, psec0 := d.first,
             page0 := d.buf, cnt0 := 0, cnt1 := 0, flag0 := false, flag1 := false, code := 0, fail := 0xFFFF,
             abortP := false, noWrite := false, stalled := none, rg := false, wg := false, ag := false, pg := false,
             fired := none, launch := [], popped := none, syncFound := false, syncMissed := false, winClosed := false,
             inhHit := false, underrun := false, acceptStamp := s.stamp, firstGate := none,
             skip := skip.getD none })
  let s := s.bump (Reg.TRSn_OPS n)
  let s := (s.rwcAccept n d).paAccept n d
  let s := (s.wr (Reg.AST_OPn_CTRL n) 0#32).wr (Reg.AST_OPn_MOD n) 0#32
  let entry := (if d.customer then 0x3000 else 0) + d.entry % 64
  if spt = 0 then s.machineCheck n .sector entry
  else if skip = none then s.machineCheck n .skipList entry
  else if (s.pa.get n).faultLine then s.forceStop n Outc.preampFault
  else
    let q := s.firstSector n d
    let page := if d.wrap then s.wrapPage d (skip.getD none) q else d.buf
    let ang := s.sectorAngle d q
    let s := s.modTrs n (fun t => { t with psec := q, psec0 := q, page := page, page0 := page, sang := ang })
    s.issueOrHold n entry

end Sys2Proof.Machine
end

