-- ==== Sys2Proof/Machine/Assist.lean ====
section
/-!
DEFINITION. Sys2Proof/Machine/Assist.lean: the commands of the preamp ports, the laser timing and the shock inputs
(spec/09_assist_and_preamp.md).
-/
namespace Sys2Proof.Machine

/-- The index of the lowest 1 bit of a 16-bit mask; 0 for an empty mask (R316). -/
def lsbIndex (m : Nat) : Nat :=
  ((List.range 16).find? (fun i => decide (m / 2 ^ i % 2 = 1))).getD 0

/-- DATA' of a write entry (R316). -/
def paWriteData (data mask value : Nat) : Nat :=
  Nat.lor (Nat.land data (65535 - mask)) (Nat.land (value * 2 ^ lsbIndex mask) mask)

/-- Whether an entry of the command table can be sent: V = 1 and SRC not reserved (R316). -/
def State.paEntryOk (s : State) (e : Nat) : Bool :=
  decide (1 ≤ e) && decide (e ≤ 255) && decide (s.fget (Reg.PIF_CMD_n_LO_V e) = 1) &&
    decide (s.fget (Reg.PIF_CMD_n_LO_SRC e) ≤ 5)

/-- The value that a SRC code substitutes on lane n (R316): head codes come from the DPI head map (R190). -/
def State.paSrcValue (s : State) (n : Fin 4) (c : PaCmd) (src : Nat) : Nat :=
  if src = 1 then
    match c.origin with
    | .headSelect h => s.dpi.paHead h
    | .trs => s.dpi.paHead ((s.trs.get n).op.head)
  else if src = 2 then s.fget (Reg.PAn_OP_IW_V n)
  else if src = 3 then s.fget (Reg.PAn_OP_LWR_V n)
  else if src = 4 then s.fget (Reg.PAn_OP_LBIAS_V n)
  else if src = 5 then s.fget (Reg.PAn_OP_AUX_V n)
  else 0

/-- CHKERR or CMDERR acts as the fault line (R316, R327): FAULT, PAn_FAULTS + 1, a Fault event, the preamp-fault
source, and the forced stop while TRSn runs. -/
def State.paFault (s : State) (n : Fin 4) : State :=
  let s := (s.bump (Reg.PAn_FAULTS n)).fput (Reg.PAn_STATUS_FAULT n) 1
  let s := s.evt (Reg.PAn_EVT_STAT_FAULT n) .fault
  let s := s.winhOn n 6
  let (hit, w) := escalate (s.pa.get n).faultWin s.stamp (s.revs 64) 4
  let s := s.modPa n (fun p => { p with faultWin := w })
  let s := if hit then (s.evt (Reg.PAn_EVT_STAT_ESCAL n) .fault).escDegraded n else s
  if (s.trs.get n).st = .running then
    let d := (s.trs.get n).op
    let s := if d.isWrite then s.modHead (laneHead n d.surf) (fun h => { h with wfault := h.wfault + 1 }) else s
    s.forceStop n Outc.preampFault
  else s

/-- PREAMP_COMMAND_SEND: the next queued command of PAn goes out as a serial frame (R313); an entry with V = 0 or a
reserved SRC is not sent: it leaves the queue, counts as acknowledged and sets CMDERR (R316). -/
def State.preampSend (s : State) (n : Fin 4) : State :=
  let p := s.pa.get n
  match p.flight, p.queue with
  | none, c :: rest =>
    if s.paEntryOk c.entry then
      let e := c.entry
      let rw := s.fget (Reg.PIF_CMD_n_LO_RW e)
      let adr := s.fget (Reg.PIF_CMD_n_LO_ADDR e)
      let data := if rw = 1 then 0
        else if s.fget (Reg.PIF_CMD_n_LO_SRC e) = 0 then s.fget (Reg.PIF_CMD_n_LO_DATA e)
        else paWriteData (s.fget (Reg.PIF_CMD_n_LO_DATA e)) (s.fget (Reg.PIF_CMD_n_HI_MASK e))
          (s.paSrcValue n c (s.fget (Reg.PIF_CMD_n_LO_SRC e)))
      let frame := rw * 2 ^ 23 + adr * 2 ^ 16 + data
      (s.modPa n (fun p => { p with queue := rest, flight := some (c, frame) })).emit (.paFrame n frame)
    else
      ((s.modPa n (fun p => { p with queue := rest })).fput (Reg.PAn_STATUS_CMDERR n) 1).paFault n
  | _, _ => s

/-- ESCAPE_DETECT: 8 fabric cycles after the lane's write inhibit became active the WD pair is not Idle or the LT pair
not Off: an escape is recorded and the actuator goes Out (R328). -/
def State.escapeDetect (s : State) (n : Fin 4) : State :=
  match (s.pa.get n).inhSince with
  | none => s
  | some c =>
    if s.winh n = 0 ∨ s.cycle < c + 8 ∨ (s.winh n).testBit 8 then s
    else
      let s := (s.fput (Reg.PAn_STATUS_ESCAPE n) 1).winhOn n 8
      (s.evt (Reg.PAn_EVT_STAT_ESCAPE n) .fault).setOut n .escape

/-- The shock source becomes active on all four lanes, with its event (R323). -/
def State.shockOn (s : State) : State :=
  if s.fget (Reg.PAn_WINH_SRC 0) / 2 % 2 = 1 then s
  else
    let s := s.evt Reg.PIF_EVT_STAT_SHOCK .notice
    (((s.winhOn 0 1).winhOn 1 1).winhOn 2 1).winhOn 3 1

/-- The shock source becomes inactive on all four lanes. -/
def State.shockOff (s : State) : State :=
  (((s.winhOff 0 1).winhOff 1 1).winhOff 2 1).winhOff 3 1

/-- Whether an unmasked shock input is active (R323, R326). -/
def State.shockInput (s : State) : Bool :=
  (decide (s.fget Reg.PIF_SHK_STAT_ANA_MASKED = 0) &&
    (decide (s.fget Reg.PIF_SHK_STAT_LIN_ACT = 1) || decide (s.fget Reg.PIF_SHK_STAT_ROT_ACT = 1))) ||
  (decide (s.fget Reg.PIF_SHK_STAT_MEMS_MASKED = 0) && decide (s.fget Reg.PIF_SHK_STAT_MEMS_ACT = 1))

/-- Whether the shock source must stay active whatever the inputs show: an input is stuck (R325), or all inputs are
masked (R326). -/
def State.shockForced (s : State) : Bool :=
  decide (s.fget Reg.PIF_SHK_STAT_LIN_STUCK = 1) || decide (s.fget Reg.PIF_SHK_STAT_ROT_STUCK = 1) ||
  decide (s.fget Reg.PIF_SHK_STAT_MEMS_STUCK = 1) ||
  (decide (s.fget Reg.PIF_SHK_STAT_ANA_MASKED = 1) && decide (s.fget Reg.PIF_SHK_STAT_MEMS_MASKED = 1))

/-- The shock source after an input changed (R323): on while an unmasked input is active; when the last one becomes
inactive, HOLD piers of G begin to run. -/
def State.shockEval (s : State) : State :=
  if s.shockInput then
    ({ s with pif := { s.pif with quietSince := none } }).shockOn
  else
    match s.pif.quietSince with
    | none => { s with pif := { s.pif with quietSince := some s.atb.spansG } }
    | some _ => s

/-- SHOCK_COMPARATOR_CHANGE: the linear (false) or rotational (true) input has lain `level` mV from mid-scale for `held` fabric
cycles: the comparator is active beyond its threshold of 4 mV per code, and its output takes effect once it has held for MINDWELL
(R323). -/
def State.shockChange (s : State) (rot : Bool) (level held : Nat) : State :=
  let f := if rot then Reg.PIF_SHK_STAT_ROT_ACT else Reg.PIF_SHK_STAT_LIN_ACT
  let active := decide (4 * s.fget (if rot then Reg.PIF_SHK_CFG_ROT_THR else Reg.PIF_SHK_CFG_LIN_THR) < level)
  if held < max 1 (s.fget Reg.PIF_SHK_CFG_MINDWELL) ∨ s.fget f = (if active then 1 else 0) then s
  else
    let s := s.fput f (if active then 1 else 0)
    let since := if active then some s.atb.spansG else none
    let s := if rot then { s with pif := { s.pif with rotSince := since } }
      else { s with pif := { s.pif with linSince := since } }
    let s := if active then s.bump (if rot then Reg.PIF_SHK_ROTCNT else Reg.PIF_SHK_LINCNT) else s
    s.shockEval

/-- SHOCK_HOLD_EXPIRY: HOLD piers of G after the last unmasked input cleared, the source becomes inactive (R323),
unless it is held by a stuck input or by masks (R325, R326). -/
def State.shockHoldExpiry (s : State) : State :=
  match s.pif.quietSince with
  | none => s
  | some q =>
    if s.shockInput ∨ s.shockForced ∨ s.atb.spansG < q + s.fget Reg.PIF_SHK_CFG_HOLD then s
    else s.shockOff

/-- A signed 16-bit value from two bytes, least significant first. -/
def leInt16 (lo hi : Byte) : Int := (BitVec.ofNat 16 (hi.toNat * 256 + lo.toNat)).toInt

/-- MEMS_READ: one read of the MEMS sensor, once in a span of G: the command byte ADDR | 0x80 goes out, and X, Y, Z come back, least
significant byte first (R324); constant reads are counted for the stuck rule (R325). -/
def State.memsRead (s : State) (x0 x1 y0 y1 z0 z1 : Byte) : State :=
  if s.atb.spansG ≤ s.pif.memsAt then s
  else
  let s := ({ s with pif := { s.pif with memsAt := s.atb.spansG } }).emit (.memsCmd (Nat.lor (s.fget Reg.PIF_MEMS_CFG_ADDR) 0x80))
  let bs := [x0, x1, y0, y1, z0, z1]
  let const := bs.all (fun b => decide (b = 0#8)) || bs.all (fun b => decide (b = 0xFF#8))
  let thr : Int := s.fget Reg.PIF_MEMS_CFG_THR
  let act := [leInt16 x0 x1, leInt16 y0 y1, leInt16 z0 z1].any (fun v => decide (thr < v.natAbs))
  let s := { s with pif := { s.pif with constReads := if const then s.pif.constReads + 1 else 0 } }
  let was := s.fget Reg.PIF_SHK_STAT_MEMS_ACT
  if act ∧ was = 0 then
    ((({ s with pif := { s.pif with memsSince := some s.atb.spansG } }).fput
      Reg.PIF_SHK_STAT_MEMS_ACT 1).bump Reg.PIF_SHK_MEMSCNT).shockEval
  else if ¬act ∧ was = 1 then
    (({ s with pif := { s.pif with memsSince := none } }).fput Reg.PIF_SHK_STAT_MEMS_ACT 0).shockEval
  else s

/-- Whether an input active since span a has been active for more than 64 consecutive piers of G (R325). -/
def stuckSince (now : Nat) : Option Nat → Bool
  | none => false
  | some a => decide (a + 64 < now)

/-- SHOCK_INPUT_STUCK: an input (0 linear, 1 rotational, 2 MEMS) that meets R325 is declared stuck; the source stays
active on all lanes until the owner acknowledges. -/
def State.shockStuck (s : State) (which : Fin 3) : State :=
  let now := s.atb.spansG
  let (f, cond) : Fld × Bool :=
    match which with
    | 0 => (Reg.PIF_SHK_STAT_LIN_STUCK, stuckSince now s.pif.linSince && decide (s.fget Reg.PIF_SHK_STAT_ANA_MASKED = 0))
    | 1 => (Reg.PIF_SHK_STAT_ROT_STUCK, stuckSince now s.pif.rotSince && decide (s.fget Reg.PIF_SHK_STAT_ANA_MASKED = 0))
    | 2 => (Reg.PIF_SHK_STAT_MEMS_STUCK,
        (stuckSince now s.pif.memsSince || decide (8 ≤ s.pif.constReads)) &&
          decide (s.fget Reg.PIF_SHK_STAT_MEMS_MASKED = 0))
  if cond ∧ s.fget f = 0 then
    let s := (s.fput f 1).bump Reg.PIF_STUCKCNT
    let s := s.evt Reg.PIF_EVT_STAT_STUCK .fault
    (s.shockOn).vendorEvent 0xC2
  else s

/-- Whether a stuck input is still active (R326): a MEMS input stuck by constant reads counts as active while the reads
stay constant. -/
def State.stuckActive (s : State) : Bool :=
  (decide (s.fget Reg.PIF_SHK_STAT_LIN_STUCK = 1) && decide (s.fget Reg.PIF_SHK_STAT_LIN_ACT = 1)) ||
  (decide (s.fget Reg.PIF_SHK_STAT_ROT_STUCK = 1) && decide (s.fget Reg.PIF_SHK_STAT_ROT_ACT = 1)) ||
  (decide (s.fget Reg.PIF_SHK_STAT_MEMS_STUCK = 1) &&
    (decide (s.fget Reg.PIF_SHK_STAT_MEMS_ACT = 1) || decide (8 ≤ s.pif.constReads)))

/-- The effect of an accepted acknowledgement: the STUCK bits clear and the source follows the unmasked inputs. -/
def State.shockAcked (s : State) : State :=
  let s := ((s.fput Reg.PIF_SHK_STAT_LIN_STUCK 0).fput Reg.PIF_SHK_STAT_ROT_STUCK 0).fput
    Reg.PIF_SHK_STAT_MEMS_STUCK 0
  if s.shockInput then s.shockOn
  else if s.shockForced then s
  else
    match s.pif.quietSince with
    | none => s.shockOff
    | some q => if s.atb.spansG < q + s.fget Reg.PIF_SHK_CFG_HOLD then s else s.shockOff

/-- PIF_SHK_ACK written with ACK (R326); RWO: nothing happens for a master that is not the configuration owner. -/
def State.shkAckWrite (s : State) (m : Master) (ack : BitVec 2) : State :=
  if ¬ s.isOwner m then s
  else
    let lin := s.fget Reg.PIF_SHK_STAT_LIN_STUCK
    let rot := s.fget Reg.PIF_SHK_STAT_ROT_STUCK
    let mems := s.fget Reg.PIF_SHK_STAT_MEMS_STUCK
    if ack = 0#2 then s
    else if ack = 3#2 ∨ (lin = 0 ∧ rot = 0 ∧ mems = 0) then s.note Reg.PIF_SHK_ACK .notice
    else if ack = 1#2 then
      let s := if lin = 1 ∨ rot = 1 then s.fput Reg.PIF_SHK_STAT_ANA_MASKED 1 else s
      let s := if mems = 1 then s.fput Reg.PIF_SHK_STAT_MEMS_MASKED 1 else s
      s.shockAcked
    else if s.stuckActive then s.note Reg.PIF_SHK_ACK .notice
    else s.shockAcked

/-- The dwell that filters PAn_FAULT_N, in fabric cycles (R327). -/
def State.faultDwell (s : State) (n : Fin 4) : Nat := max 1 (s.fget (Reg.PAn_FLT_CFG_MINDWELL n))

/-- PREAMP_FAULT_LINE: PAn_FAULT_N has been active for `held` fabric cycles: the filtered line becomes active (R327). -/
def State.faultLineOn (s : State) (n : Fin 4) (held : Nat) : State :=
  if (s.pa.get n).faultLine ∨ held < s.faultDwell n then s
  else (s.modPa n (fun p => { p with faultLine := true })).paFault n

/-- The preamp-fault source ends once the line is inactive and FAULT is 0 (R327). -/
def State.faultSourceEval (s : State) (n : Fin 4) : State :=
  if (s.pa.get n).faultLine ∨ s.fget (Reg.PAn_STATUS_FAULT n) = 1 then s else s.winhOff n 6

/-- PREAMP_FAULT_LINE_INACTIVE: PAn_FAULT_N has been inactive for `held` fabric cycles: the filtered line becomes inactive (R327). -/
def State.faultLineOff (s : State) (n : Fin 4) (held : Nat) : State :=
  if held < s.faultDwell n then s else
  (s.modPa n (fun p => { p with faultLine := false })).faultSourceEval n

/-- A write of PAn_STATUS: FAULT, CHKERR and CMDERR clear by a write of 1 (R327). -/
def State.paStatusWrite (s : State) (n : Fin 4) (w : Word) : State :=
  let s := if w.getLsbD 0 then s.fput (Reg.PAn_STATUS_FAULT n) 0 else s
  let s := if w.getLsbD 1 then s.fput (Reg.PAn_STATUS_CHKERR n) 0 else s
  let s := if w.getLsbD 2 then s.fput (Reg.PAn_STATUS_CMDERR n) 0 else s
  s.faultSourceEval n

/-- The escalation that AST_LATEn and AST_OVERONn share (R319): 4 within 64 revolutions of G degrade the actuator. -/
def State.astEscalate (s : State) (n : Fin 4) : State :=
  let (hit, w) := escalate (s.pa.get n).astWin s.stamp (s.revs 64) 4
  let s := s.modPa n (fun p => { p with astWin := w })
  if hit then (s.evt Reg.AST_EVT_STAT_ESCAL .fault).escDegraded n else s

/-- An edge of the pulse window takes effect (R318). -/
def State.windowEdge (s : State) (n : Fin 4) (on : Bool) : State := (s.modPa n (fun p => { p with window := on })).refreshLt n

/-- The edge of a firing on lane n: it takes effect where Ln reaches AST_LDLY of the descriptor's head beyond the target (R318, R333).
The advanced angle, which runs ahead of Ln by the lead, has passed the target by `past` decks (R66). -/
def State.delayedEdge (s : State) (n : Fin 4) (on : Bool) (past : Nat) : State :=
  let d := min (s.fget (Reg.AST_LDLY_n_DLY (s.trs.get n).op.head)) 0x3FFF
  let dist := d * 2 ^ 20 + s.atb.lead - past * 2 ^ 20
  if dist = 0 then s.windowEdge n on else s.modPa n (fun p => { p with edges := p.edges ++ [(on, dist)] })

/-- The edges held back whose angle Ln reaches with an advance of d, in 2^-20 deck, take effect in their order. -/
def State.advanceEdges (s : State) (n : Fin 4) (d : Nat) : State :=
  let e := (s.pa.get n).edges
  let s := s.modPa n (fun p => { p with edges := (p.edges.filter (fun x => decide (d < x.2))).map (fun x => (x.1, x.2 - d)) })
  (e.filter (fun x => decide (x.2 ≤ d))).foldl (fun s x => s.windowEdge n x.1) s

/-- An Assist start firing on lane n (R318, R319). -/
def State.assistStart (s : State) (n : Fin 4) (late : Bool) (past : Nat) : State :=
  if late then
    let s := (s.modPa n (fun p => { p with astHeld := true })).winhOn n 7
    ((s.bump (Reg.AST_LATEn n)).evt Reg.AST_EVT_STAT_LATE .notice).astEscalate n
  else s.delayedEdge n true past

/-- An Assist end firing on lane n (R318); a late one closes the window in its firing cycle (R319). -/
def State.assistEnd (s : State) (n : Fin 4) (late : Bool) (past : Nat) : State :=
  if late then (s.modPa n (fun p => { p with edges := [] })).windowEdge n false else s.delayedEdge n false past

/-- ASSIST_OVERON: the LT pair has stayed in Write for more than AST_GUARD.MAXON spans of Ln (R319). -/
def State.assistOveron (s : State) (n : Fin 4) : State :=
  match (s.pa.get n).writeSince with
  | none => s
  | some a =>
    let maxon := max 1 (s.fget Reg.AST_GUARD_MAXON)
    if s.laneRun n ≤ a + maxon * 2 ^ 22 then s
    else
      let s := (s.modPa n (fun p => { p with astHeld := true, window := false, edges := [], writeSince := none })).winhOn n 7
      ((s.bump (Reg.AST_OVERONn n)).evt Reg.AST_EVT_STAT_OVERON .fault).astEscalate n

end Sys2Proof.Machine
end

