-- ==== Sys2Proof/Machine/ServoLaw.lean ====
section
/-!
DEFINITION. Sys2Proof/Machine/ServoLaw.lean: the arithmetic of one servo sample (spec/10_servo_control.md): the head position,
the estimator, the laws, the biquads, feed-forward, the injection signal, the current limit and the coil model. A shift right
of a signed value is a division that rounds toward minus infinity.
-/
namespace Sys2Proof.Machine

/-- A value saturated to a signed range of k bits. -/
def satBits (k : Nat) (x : Int) : Int := max (-(2 ^ (k - 1) : Int)) (min (2 ^ (k - 1) - 1 : Int) x)

/-- A value limited to ±m. -/
def limitTo (m x : Int) : Int := max (-m) (min m x)

/-- The integer square root of x, of at most k bits (R348). -/
def isqrtBits (x : Nat) : Nat → Nat → Nat
  | 0, r => r
  | k + 1, r => isqrtBits x k (if (r + 2 ^ k) * (r + 2 ^ k) ≤ x then r + 2 ^ k else r)

/-- The integer square root. -/
def isqrt (x : Nat) : Nat := isqrtBits x 18 0

/-- The number of engine X of a pair (R342): engines 2n and 2n + 1. -/
def engX (n : Fin 4) : Nat := 2 * n.val

/-- The number of engine e of pair n. -/
def engNo (n : Fin 4) (e : Fin 2) : Nat := 2 * n.val + e.val

/-- The other engine of a pair. -/
def otherEng (e : Fin 2) : Fin 2 := if e = 0 then 1 else 0

/-! ### Head position (R338) -/

/-- The index of a head on its actuator: surface − 10 × (n & 1). -/
def headIndex (n : Fin 4) (h : Nat) : Nat := h % 20 - 10 * (n.val % 2)

/-- The head SVDn has selected. -/
def State.servoHead (s : State) (n : Fin 4) : Nat := s.fget (Reg.SVDn_STATUS_HEAD n)

/-- theta of two burst amplitudes (R338): atan2(n, q) scaled to 0 to 8,191 over the period. Its eighth of a turn follows from the signs and
the larger amplitude; the place within it, where no rounding is stated, is free (notes/assumptions/29.md). -/
def burstTheta (n q : Int) : Nat :=
  let oct : Nat :=
    if 0 ≤ n ∧ 0 < q then (if n < q then 0 else 1)
    else if 0 < n ∧ q ≤ 0 then (if -q < n then 2 else 3)
    else if n ≤ 0 ∧ q < 0 then (if -n < -q then 4 else 5)
    else (if q < -n then 6 else 7)
  if n = 0 ∧ q = 0 then Config.octant 0 0 % 8192
  else oct * 1024 + (if n = 0 ∨ q = 0 ∨ n.natAbs = q.natAbs then 0 else Config.octant n q % 1024)

/-- The head position X in 1/4,096 track (R338): the value congruent to frac modulo 8,192 nearest to the cylinder; the lower
one at a tie. -/
def State.headPos (s : State) (n : Fin 4) (m : SamData) : Int :=
  let j := headIndex n (s.servoHead n)
  let i := m.theta / 128 % 64
  let f := m.theta % 128
  let l0 := signed16 (s.fget (Reg.SVDn_LIN_j_i_LIN n j i))
  let l1 := signed16 (s.fget (Reg.SVDn_LIN_j_i_LIN n j (i + 1)))
  let frac := ((m.theta : Int) + (l0 + (l1 - l0) * f / 128)) % 8192
  let c : Int := m.cyl * 4096
  let low := c - (c - frac) % 8192
  if 4096 < c - low then low + 8192 else low

/-- toff of R338: SCE_PAIRn_TOFF, plus the write offset of the head when the target is a write. -/
def State.targetOff (s : State) (n : Fin 4) : Int :=
  let toff := signed16 (s.fget (Reg.SCE_PAIRn_TOFF_OFF n))
  if s.fbit (Reg.SCE_PAIRn_TARGET_W n) then
    toff + signed16 (s.fget (Reg.SVDn_JOG_i_JOG n (headIndex n (s.servoHead n))))
  else toff

/-- The target position in 1/4,096 track. -/
def State.targetPos (s : State) (n : Fin 4) : Int :=
  (s.fget (Reg.SCE_PAIRn_TARGET_CYL n) : Int) * 4096 + s.targetOff n

/-! ### Estimator and feed-forward (R347, R357) -/

/-- The predicted position xp. -/
def State.predicted (s : State) (n : Fin 4) (g : EngSt) (u : Int) : Int :=
  g.x + g.v + (s.fget (Reg.SCEn_EST1_KB (engX n)) : Int) * (u + g.b) / 2 ^ 24

/-- One run of the estimator (R347); `e` is the innovation used. -/
def State.estimate (s : State) (n : Fin 4) (g : EngSt) (u : Int) (meas : Option Int) : EngSt :=
  let xp := s.predicted n g u
  let vp := g.v + (s.fget (Reg.SCEn_EST1_KB (engX n)) : Int) * (u + g.b) / 2 ^ 24
  let e := match meas with | some x => x - xp | none => 0
  { g with x := xp + (s.fget (Reg.SCEn_EST0_L1 (engX n)) : Int) * e / 2 ^ 16,
           v := vp + (s.fget (Reg.SCEn_EST0_L2 (engX n)) : Int) * e / 2 ^ 16,
           b := g.b + (s.fget (Reg.SCEn_EST1_L3 (engX n)) : Int) * e / 2 ^ 16 }

/-- Feed-forward at the estimated cylinder (R357). -/
def State.feedForward (s : State) (n : Fin 4) (g : EngSt) : Int :=
  let x := engX n
  if ¬ s.fbit (Reg.SCEn_FF_FFEN x) then 0
  else
    let bsh := s.fget (Reg.SCEn_TBL_BSH x)
    let c := (g.x / 4096).toNat
    let i := min (c / 2 ^ bsh) 128
    let f : Int := (c % 2 ^ bsh : Nat)
    let j := min (i + 1) 128
    let at' (lo hi : Int) : Int := lo + (hi - lo) * f / 2 ^ bsh
    let bias := at' (signed16 (s.fget (Reg.SCEn_FFT_i_BIAS x i))) (signed16 (s.fget (Reg.SCEn_FFT_i_BIAS x j)))
    let fric := at' (signed16 (s.fget (Reg.SCEn_FFT_i_FRIC x i))) (signed16 (s.fget (Reg.SCEn_FFT_i_FRIC x j)))
    let vf : Int := max 1 (s.fget (Reg.SCEn_FF_VF x))
    bias + (fric * limitTo vf g.v).tdiv vf

/-! ### Biquads (R350) -/

/-- One biquad, direct form II transposed: coefficients b0, b1, b2, a1, a2 with 29 fractional bits; the state in units of
2^-29, held in 48 bits; the result rounded to nearest and saturated to 32 bits (notes/assumptions/9.md). -/
def biquad (c : List Int) (st : Int × Int) (u : Int) : (Int × Int) × Int :=
  match c with
  | [b0, b1, b2, a1, a2] =>
    let y := satBits 32 ((b0 * u + st.1 + 2 ^ 28) / 2 ^ 29)
    ((satBits 48 (b1 * u - a1 * y + st.2), satBits 48 (b2 * u - a2 * y)), y)
  | _ => (st, u)

/-- A cascade of biquads: the new states and the result. -/
def cascade : List (List Int) → List (Int × Int) → Int → List (Int × Int) × Int
  | c :: cs, st :: sts, u =>
    let (st', y) := biquad c st u
    let (rest, z) := cascade cs sts y
    (st' :: rest, z)
  | _, sts, u => (sts, u)

/-- The coefficients of the VCM-path biquads in use. -/
def State.vbq (s : State) (n : Fin 4) : List (List Int) :=
  (List.range (min 8 (s.fget (Reg.SCEn_STRUCT_VB (engX n))))).map (fun k =>
    (List.range 5).map (fun c => signed32 (s.fget (Reg.SCEn_VBQk_c_COEF (engX n) k c))))

/-- The coefficients of the MA-path biquads in use. -/
def State.mbq (s : State) (n : Fin 4) : List (List Int) :=
  (List.range (min 4 (s.fget (Reg.SCEn_STRUCT_MB (engX n))))).map (fun k =>
    (List.range 5).map (fun c => signed32 (s.fget (Reg.SCEn_MBQk_c_COEF (engX n) k c))))

/-! ### The laws (R348 to R352) -/

/-- The distance to a target in whole tracks. -/
def seekDist (g : EngSt) (tgt : Int) : Nat := (tgt - g.x).natAbs / 4096

/-- t_coil in 2^-40 °C: at t_amb from a reset to the first update (R365). -/
def State.coilTemp (s : State) (n : Fin 4) : Int :=
  match (s.pair.get n).tcoil with
  | some t => t
  | none => s.tempOf (s.fget (Reg.VCDn_TSEN_SEL n)) s.dpi.tref * 2 ^ 36

/-- The coil resistance of R365 in 1/(256 × 10^6) mΩ units at a temperature in 2^-40 °C. -/
def State.coilRes (s : State) (n : Fin 4) (t : Int) : Int :=
  (s.fget (Reg.VCDn_TH0_RC25 n) : Int) *
    (256 * 10 ^ 6 + (s.fget (Reg.VCDn_TH0_ALPHA n) : Int) * (t / 2 ^ 32 - 25 * 256))

/-- The gain of the current sense amplifier (R360). -/
def senseGain (code : Nat) : Nat := 10 * 2 ^ (code % 4)

/-- The back-EMF velocity in mV (R352): the coil voltage less the resistive drop; KBEMF is 1. -/
def State.backEmf (s : State) (n : Fin 4) : Int :=
  let i := signed16 (s.fget (Reg.VCDn_IMEAS_MEAN n))
  let den : Int := 32768 * (senseGain (s.fget (Reg.VCDn_SCALE_GAIN n)) : Int) * (Config.shunt : Int) * (256 * 10 ^ 6)
  signed16 (s.fget (Reg.VCDn_VCOIL_MV n)) - (i * 1200 * 1000 * s.coilRes n (s.coilTemp n)).tdiv den

/-- The raw outputs of a law for one engine, and the engine's state after it. `pes` is PES as the laws use it (R347),
`tgt` the target position, `red` the moving target of the Reduced law less the target. -/
def State.lawOutput (s : State) (n : Fin 4) (law : Nat) (rampIn : Bool) (g : EngSt) (pes tgt red : Int) :
    EngSt × Int × Int :=
  let x := engX n
  let ff := s.feedForward n g
  match law with
  | 1 =>
    let d := seekDist g tgt
    let r := isqrt d
    let i := min (r / 64) 64
    let f : Int := (r % 64 : Nat)
    let v0 : Int := s.fget (Reg.SCEn_VPROF_i_V x i)
    let v1 : Int := s.fget (Reg.SCEn_VPROF_i_V x (min (i + 1) 64))
    let vref := (tgt - g.x).sign * (v0 + (v1 - v0) * f / 64)
    (g, (s.fget (Reg.SCEn_SEEK_KV x) : Int) * (vref - g.v / 256) / 256 + ff, 0)
  | 2 =>
    let e := -pes
    let sum := g.integ + e
    ({ g with integ := sum },
      ((s.fget (Reg.SCEn_SETTLE0_KP x) : Int) * e + (s.fget (Reg.SCEn_SETTLE1_KI x) : Int) * sum -
        (s.fget (Reg.SCEn_SETTLE0_KD x) : Int) * g.v) / 4096 + ff, 0)
  | 3 =>
    let mb := s.mbq n
    let (sm, m) := if mb = [] then (g.bq.drop 8, 0) else cascade mb (g.bq.drop 8) pes
    let um := limitTo (s.fget (Reg.MADn_CFG_MALIM n)) m
    let ym := (s.fget (Reg.SCEn_TBL_MAGAIN x) : Int) * um / 2 ^ 16
    let (sv, v) := cascade (s.vbq n) (g.bq.take 8) (pes - ym)
    ({ g with bq := sv ++ sm }, v + ff, um)
  | 4 =>
    (g, -((s.fget (Reg.SCEn_RED_RKP x) : Int) * (pes - red) + (s.fget (Reg.SCEn_RED_RKD x) : Int) * g.v) / 4096, 0)
  | 5 => (g, ff, 0)
  | 6 =>
    let rv : Int := s.fget (Reg.SCEn_RAMP_RAMPV x)
    (g, (s.fget (Reg.SCEn_RAMP_RKV x) : Int) * ((if rampIn then rv else -rv) - s.backEmf n) / 256, 0)
  | _ => (g, 0, 0)

/-- The fabric cycles of one computation (R345), without ECC reads. -/
def State.engCycles (s : State) (n : Fin 4) (law : Nat) (handOver inject : Bool) : Nat :=
  let x := engX n
  108 +
    (match law with
     | 1 => 120
     | 2 => 60
     | 3 => 70 + 8 * min 8 (s.fget (Reg.SCEn_STRUCT_VB x)) + 8 * min 4 (s.fget (Reg.SCEn_STRUCT_MB x))
     | 4 => 24
     | 5 => 20
     | 6 => 40
     | _ => 0) +
    (if (law = 1 ∨ law = 2 ∨ law = 3 ∨ law = 5) ∧ s.fbit (Reg.SCEn_FF_FFEN x) then 30 else 0) +
    (if handOver then 6 else 0) + (if inject then 12 else 0)

/-! ### Hand-over offsets (R355) -/

/-- An offset below 2^HSH counts as 0. -/
def offsetFloor (hsh : Nat) (m : Int) : Int := if m.natAbs < 2 ^ hsh then 0 else m

/-- One decay of an offset. -/
def offsetDecay (hsh : Nat) (m : Int) : Int := offsetFloor hsh (m - m / 2 ^ hsh)

/-- HSH, 0 applied as 1. -/
def State.hsh (s : State) (n : Fin 4) : Nat := max 1 (s.fget (Reg.SCEn_HOVER_HSH (engX n)))

/-! ### Injection (R367) -/

/-- Whether the pair injects. -/
def State.injOn (s : State) (n : Fin 4) : Bool := s.fbit (Reg.SCE_PAIRn_INJ0_EN n)

/-- The injected value of this sample for an engine. -/
def State.injection (s : State) (n : Fin 4) (g : EngSt) : Int :=
  let amp := signed16 (s.fget (Reg.SCE_PAIRn_INJ0_AMP n))
  if ¬ s.injOn n then 0
  else
    match s.fget (Reg.SCE_PAIRn_INJ0_SRC n) with
    | 0 => Config.sine amp (g.phase / 2 ^ 20)
    | 1 => if Config.prbs g.lfsr then amp else -amp
    | 2 => amp
    | _ => 0

/-- The injection state of an engine after a sample. -/
def State.injStep (s : State) (n : Fin 4) (g : EngSt) : EngSt :=
  if ¬ s.injOn n then g
  else
    let par := s.fget (Reg.SCE_PAIRn_INJ1_PARAM n)
    match s.fget (Reg.SCE_PAIRn_INJ0_SRC n) with
    | 0 => { g with phase := (g.phase + par) % 2 ^ 32 }
    | 1 =>
      if ((s.pair.get n).injCount + 1) % (par % 65536 + 1) = 0 then
        { g with lfsr := g.lfsr * 2 % 2 ^ 15 + (g.lfsr / 2 ^ 14 + g.lfsr / 2 ^ 13) % 2 }
      else g
    | _ => g

/-- The signature of an engine's state (R377). -/
def EngSt.signature (g : EngSt) : Word :=
  Config.signature ([g.x, g.v, g.b, g.integ] ++ g.bq.flatMap (fun p => [p.1, p.2]) ++
    [g.mv, g.mm, (g.law : Int), (g.phase : Int), (g.lfsr : Int)])

/-! ### Current limit and coil temperature (R363, R365, R366) -/

/-- The thermal limit (R366), of t_coil with its 1/256 °C (R365); DEDUCED: the quotient is what is truncated. -/
def State.thermalLimit (s : State) (n : Fin 4) : Nat :=
  let imax := s.fget (Reg.VCDn_ILIM_CFG_IMAX n)
  let ihot := s.fget (Reg.VCDn_IHOT_IHOT n)
  let soft : Int := (s.fget (Reg.VCDn_TH1_TSOFT n) : Int) * 256
  let hard : Int := (s.fget (Reg.VCDn_TH1_THARD n) : Int) * 256
  let t := s.coilTemp n / 2 ^ 32
  if t ≤ soft then imax
  else if hard ≤ t then ihot
  else ((imax : Int) - ((imax : Int) - ihot) * (t - soft) / (hard - soft)).toNat

/-- The effective limit and the sources equal to it (R363). -/
def State.currentLimit (s : State) (n : Fin 4) : Nat × Nat :=
  let imax := s.fget (Reg.VCDn_ILIM_CFG_IMAX n)
  let th := s.thermalLimit n
  let pmu := imax * s.fget (Reg.VCDn_STATUS_PCT n) / 100
  let l := min imax (min th pmu)
  (l, (if l = imax then 1 else 0) + (if l = th then 2 else 0) + (if l = pmu then 4 else 0))

/-- VCDn_ILIM and VCDn_STATUS.LIMSRC after a change. -/
def State.refreshLimit (s : State) (n : Fin 4) : State :=
  let (l, src) := s.currentLimit n
  (s.fput (Reg.VCDn_ILIM_ILIM n) l).fput (Reg.VCDn_STATUS_LIMSRC n) src

end Sys2Proof.Machine
end

