-- ==== Sys2Proof/Machine/Capture.lean ====
section
/-!
DEFINITION. Sys2Proof/Machine/Capture.lean: the servo write-inhibit request (R359), the capture units
(R368, R369, R427) and injections (R367).
-/
namespace Sys2Proof.Machine

/-- A change of a capture unit. -/
def State.modCap (s : State) (u : Fin 2) (f : CapSt → CapSt) : State := { s with cap := s.cap.modify u f }

/-- The engine that holds the keystone, as SRFn_STATUS.HOLDER shows it. -/
def State.holder (s : State) (n : Fin 4) : Fin 2 := if s.fbit (Reg.SRFn_STATUS_HOLDER n) then 1 else 0

/-! ### The servo write-inhibit request (R359) -/

/-- The reasons of R359, bit 0 for bit 8 of SCE_PAIRn_STATUS. -/
def State.servoReasons (s : State) (n : Fin 4) : Nat :=
  let p := s.pair.get n
  let b (x : Bool) (k : Nat) : Nat := if x then 2 ^ k else 0
  b (decide (p.law ≠ 3)) 0 + b (! p.sampValid) 1 + b p.lateReq 2 +
    b (decide (s.fget (Reg.SCEn_HOVER_HTHR (engX n)) < (p.eng.get (s.holder n)).mv.natAbs)) 3 +
    b (p.clampV || p.clampM) 4 + b (s.injOn n) 5 + b (s.fbit (Reg.SRFn_STATUS_WINH n)) 6

/-- SCE_PAIRn_STATUS.WINH and the servo source of lane n after a change. -/
def State.refreshServo (s : State) (n : Fin 4) : State :=
  let r := s.servoReasons n
  (s.fput (Reg.SCE_PAIRn_STATUS_WINH n) r).winhSet n 4 (decide (r ≠ 0))

/-! ### Injections and capture units (R367 to R369) -/

/-- The injection of a pair ends: EN returns to 0 (R367); resident firmware restores the actuator under R570. -/
def State.injectEnd (s : State) (n : Fin 4) : State :=
  ((s.fput (Reg.SCE_PAIRn_INJ0_EN n) 0).modPair n (fun p => { p with injVal := 0 })).refreshServo n

/-- The injection of a pair begins (R367): phase and LFSR at their start, the samples counted from 0, and An Degraded. -/
def State.injectStart (s : State) (n : Fin 4) : State :=
  let start (g : EngSt) : EngSt := { g with phase := 0, lfsr := 0x7FFF }
  let s := (s.fput (Reg.SCE_PAIRn_INJ0_EN n) 1).modPair n (fun p =>
    { p with injCount := 0, eng := ⟨start p.eng.b0, start p.eng.b1⟩ })
  let s := s.refreshServo n
  if s.msc.avail.get n = .available then s.setAvail n .degraded else s

/-- COUNT, 0 meaning 16,384. -/
def State.capCount (s : State) (u : Fin 2) : Nat :=
  let c := s.fget (Reg.SVD_CAPn_CFG_COUNT u)
  if c = 0 then 16384 else c

/-- A capture unit stops: RUNNING falls, and the injection tied to it ends (R367, R370). -/
def State.captureEnd (s : State) (u : Fin 2) : State :=
  let c := s.cap.get u
  let s := (s.modCap u (fun c => { c with st := 0, left := none, injPair := none })).fput
    (Reg.SVD_CAPn_STAT_RUNNING u) 0
  match c.injPair with
  | some n => s.injectEnd n
  | none => s

/-- Whether a unit runs in ring mode. -/
def State.capRing (s : State) (u : Fin 2) : Bool := s.fbit (Reg.SVD_CAPn_CFG_MODE u)

/-- A capture unit is armed (R368): the flags of the last run clear; it stores at once, or, in fill mode with TRIG, waits. -/
def State.captureArm (s : State) (u : Fin 2) : State :=
  let s := s.wr (Reg.SVD_CAPn_STAT u) 0x10000#32
  let s := s.wr (Reg.SVD_CAPn_NEXT u) 0#32
  if s.capRing u then s.modCap u (fun c => { c with st := 2, left := none, skip := 0, next := 0 })
  else if s.fbit (Reg.SVD_CAPn_CFG_TRIG u) then
    s.modCap u (fun c => { c with st := 1, left := none, skip := 0, next := 0 })
  else
    let k := s.capCount u
    s.modCap u (fun c => { c with st := 2, left := some k, skip := 0, next := 0 })

/-- A trigger with target Capture reaches a unit (R69, R368). -/
def State.captureTrigger (s : State) (u : Fin 2) : State :=
  let c := s.cap.get u
  let k := s.capCount u
  if c.st = 1 then (s.modCap u (fun c => { c with st := 2, left := some k })).fput (Reg.SVD_CAPn_STAT_TRIGGERED u) 1
  else if c.st = 2 then
    if s.capRing u then
      if s.fbit (Reg.SVD_CAPn_CFG_TRIG u) ∧ c.left = none then
        (s.modCap u (fun c => { c with left := some k })).fput (Reg.SVD_CAPn_STAT_TRIGGERED u) 1
      else s
    else s.fput (Reg.SVD_CAPn_STAT_OVERLAP u) 1
  else s

/-- CAPTURE_CTRL_STOP: a write of 1 to CTRL.STOP: a ring capture without TRIG stores COUNT more samples and stops (R368). -/
def State.captureCtrlStop (s : State) (u : Fin 2) : State :=
  let c := s.cap.get u
  let k := s.capCount u
  if c.st = 2 ∧ s.capRing u ∧ ¬ s.fbit (Reg.SVD_CAPn_CFG_TRIG u) ∧ c.left = none then
    s.modCap u (fun c => { c with left := some k })
  else s

/-- THROTTLED is set in every running unit (R367, R368). -/
def State.captureThrottled (s : State) : State :=
  ([0, 1] : List (Fin 2)).foldl (fun s (u : Fin 2) =>
    if (s.cap.get u).st = 0 then s else s.fput (Reg.SVD_CAPn_STAT_THROTTLED u) 1) s

/-- Whether the PMU throttles: PCT below 100 or a write cap below 4 (R368). -/
def State.pmuThrottles (s : State) : Bool :=
  lanes.any (fun n => decide (s.fget (Reg.VCDn_STATUS_PCT n) < 100)) ||
    decide (s.fget Reg.MSC_WCG_STATUS_PMU_CAP < 4)

/-- A value as a saturated signed 16-bit number. -/
def sat16 (x : Int) : Nat := (BitVec.ofInt 16 (satBits 16 x)).toNat

/-! ### The electrical angle (R398, R401) -/

/-- SMC_STATUS.STATE. -/
def State.smcState (s : State) : Nat := s.fget Reg.SMC_STATUS_STATE

/-- θm: the mechanical fraction of G (R401). -/
def State.thetaM (s : State) : Nat := s.angleG * 2 ^ 32 / revLen s.piers

/-- The servo-anchored angle (R401). -/
def State.thetaServo (s : State) : Nat := (s.dpi.poles * s.thetaM + (s.rd Reg.SMC_ROTOFF).toNat) % 2 ^ 32

/-- The crossing angle: the last crossing's angle, extrapolated by the last crossing interval (R398, R415, R416). -/
def State.thetaCross (s : State) : Nat :=
  let m := s.smc
  let k := m.lastKind.getD 0
  let iv := m.ints.headD 0
  let frac := if iv = 0 then 0 else (s.cycle - m.lastCross) * 2 ^ 32 / (6 * iv)
  (k * 2 ^ 32 / 6 + frac) % 2 ^ 32

/-- The angle a state's source gives, without the offset of a hand-over. -/
def State.thetaOf (s : State) (st : Nat) : Nat :=
  if st = 4 then s.thetaCross else if st = 6 then s.thetaServo else s.smc.obsAngle

/-- The angle applied: the source's plus mθ (R412). -/
def State.thetaApplied (s : State) : Nat := ((s.thetaOf s.smcState : Int) + s.smc.mTheta).toNat % 2 ^ 32

/-- The value of a spindle signal (R427). -/
def State.spindleSignal (s : State) (code : Nat) : Int :=
  match code with
  | 0x40 => (s.fget Reg.SMC_SPEED_SPEED : Int) / 8
  | 0x41 => s.smc.err
  | 0x42 => s.smc.amp
  | 0x43 => signed16 (s.thetaApplied / 2 ^ 16)
  | 0x44 => signed16 (s.fget Reg.SMC_OBSDIFF_D)
  | 0x45 => signed16 (s.fget Reg.SMC_IBR_I)
  | 0x46 => s.fget Reg.SMC_VMOT_MV
  | 0x47 => signed32 (s.fget Reg.ATB_SYNC_ERR_ERR) / 2 ^ 14
  | 0x48 => s.smc.cog
  | 0x49 => signed16 (s.fget Reg.SMC_TRIM_TRIM)
  | 0x4A => (s.fget Reg.SMC_STATUS_STATE + 16 * s.fget Reg.SMC_STATUS_SYNC + 64 * s.fget Reg.SMC_STATUS_OBSLOCK +
      128 * s.fget Reg.SMC_STATUS_CHOPG : Nat)
  | _ => 0

/-- The value of a servo signal of lane n (R369). -/
def State.servoSignal (s : State) (u : Fin 2) (n : Fin 4) (code : Nat) : Int :=
  let p := s.pair.get n
  let g := p.eng.get (s.holder n)
  match code with
  | 0x01 => p.sampPes
  | 0x02 => signed16 ((p.sampX % 65536).toNat)
  | 0x03 => g.v
  | 0x04 => p.uv
  | 0x05 => signed16 (s.fget (Reg.VCDn_IMEAS_MEAN n))
  | 0x06 => p.um
  | 0x07 => p.ff
  | 0x08 => p.injVal
  | 0x09 => g.mv
  | 0x0A => p.outs.b0.rv
  | 0x0B => p.outs.b1.rv
  | 0x0C => (p.law + (if p.sampValid then 8 else 0) + (if p.lates.headD false then 16 else 0) +
      (if s.winh n ≠ 0 then 32 else 0) + (if s.fbit (Reg.SVD_CAPn_STAT_THROTTLED u) then 64 else 0) : Nat)
  | 0x0D => s.coilTemp n / 2 ^ 36
  | 0x0E => s.fget (Reg.SVDn_AMP_AMP n)
  | _ => 0

/-- The value a channel of a unit records. -/
def State.captureValue (s : State) (u : Fin 2) (k : Nat) : Nat :=
  let code := s.fget (Reg.SVD_CAPn_CH_CODE u) / 2 ^ (8 * k) % 256
  if 0x40 ≤ code then sat16 (s.spindleSignal code)
  else
    match s.fget (Reg.SVD_CAPn_CFG_LANE u) with
    | 0 => sat16 (s.servoSignal u 0 code)
    | 1 => sat16 (s.servoSignal u 1 code)
    | 2 => sat16 (s.servoSignal u 2 code)
    | 3 => sat16 (s.servoSignal u 3 code)
    | _ => 0

/-- The address of a sample in a unit's buffer (R40, R368). -/
def captureAddr (u : Fin 2) (i : Nat) : Nat := 0x11640000 + 0x40000 * u.val + 16 * i

/-- One sample of a unit that stores: every (DIV + 1)-th is stored; the last of the samples left stops the unit. -/
def State.captureStore (s : State) (u : Fin 2) : State :=
  let c := s.cap.get u
  if c.st ≠ 2 then s
  else
    let s := if s.pmuThrottles then s.captureThrottled else s
    if c.skip ≠ 0 then s.modCap u (fun c => { c with skip := c.skip - 1 })
    else
      let chs := (List.range 4).flatMap (fun k => leBytes (s.captureValue u k) 2)
      let s := s.memStore (captureAddr u c.next) (leBytes s.stamp 8 ++ chs)
      let div := s.fget (Reg.SVD_CAPn_CFG_DIV u)
      let nx := (c.next + 1) % 16384
      let s := s.modCap u (fun c => { c with skip := div, next := nx, left := c.left.map (· - 1) })
      let s := s.fput (Reg.SVD_CAPn_STAT_STORED u) (min 16384 (s.fget (Reg.SVD_CAPn_STAT_STORED u) + 1))
      let s := if nx = 0 ∧ s.capRing u then s.fput (Reg.SVD_CAPn_STAT_WRAPPED u) 1 else s
      let s := if s.capRing u then
          s.fput (Reg.SVD_CAPn_NEXT_INDEX u) (if s.fbit (Reg.SVD_CAPn_STAT_WRAPPED u) then nx else 0)
        else s
      if c.left = some 1 then s.captureEnd u else s

/-- A sample of a lane (0 to 3), or of G (4): every unit configured for it takes one. -/
def State.captureSample (s : State) (lane : Nat) : State :=
  if s.fget Reg.PMU_PSTATE_EPS = 4 then s
  else ([0, 1] : List (Fin 2)).foldl (fun s (u : Fin 2) =>
    if s.fget (Reg.SVD_CAPn_CFG_LANE u) = lane then s.captureStore u else s) s

/-- INJECTION_END: the injection's duration has run out (R367). -/
def State.injectionEnd (s : State) (n : Fin 4) : State :=
  let d := s.fget (Reg.SCE_PAIRn_INJ2_SAMPLES n)
  if s.injOn n ∧ d ≠ 0 ∧ d ≤ (s.pair.get n).injCount then s.injectEnd n else s

end Sys2Proof.Machine
end

