-- ==== Sys2Proof/Machine/Referee.lean ====
section
/-!
DEFINITION. Sys2Proof/Machine/Referee.lean: the referee of a servo pair (spec/11_servo_redundancy.md): engine states,
commit, judgment, switch-over, the keystone's lease, re-synchronisation and fencing; with the overruns of R358.
-/
namespace Sys2Proof.Machine

/-! ### Engine states (R375) -/

/-- The state of engine e of pair n: 0 Off, 1 Holder, 2 Standby, 3 Fenced, 4 Shadow, 5 Retired. -/
def State.engState (s : State) (n : Fin 4) (e : Fin 2) : Nat :=
  if e = 0 then s.fget (Reg.SRFn_STATUS_XSTATE n) else s.fget (Reg.SRFn_STATUS_YSTATE n)

/-- Whether a state makes an engine that is not Holder the checking engine. -/
def checks (st : Nat) : Bool := decide (st = 2) || decide (st = 4)

/-- The checking engine of pair n, if there is one: the engine that is not Holder, when Standby or Shadow. -/
def State.checking (s : State) (n : Fin 4) : Option (Fin 2) :=
  let c := otherEng (s.holder n)
  if checks (s.engState n c) then some c else none

/-- An engine's state set; SOLO follows. -/
def State.setEngState (s : State) (n : Fin 4) (e : Fin 2) (st : Nat) : State :=
  let s := s.fput (if e = 0 then Reg.SRFn_STATUS_XSTATE n else Reg.SRFn_STATUS_YSTATE n) st
  s.fput (Reg.SRFn_STATUS_SOLO n) (if (s.checking n).isSome then 0 else 1)

/-- The keystone given to an engine (R376, R383): it becomes Holder; a former Holder that was not judged is Standby. -/
def State.giveKeystone (s : State) (n : Fin 4) (e : Fin 2) : State :=
  let o := otherEng e
  let s := if s.engState n o = 1 then s.setEngState n o 2 else s
  (s.fput (Reg.SRFn_STATUS_HOLDER n) e.val).setEngState n e 1

/-! ### Commit (R363, R364, R379, R384, R385) -/

/-- Emits the hand-over record of the sample under way (R356, R386): `switch` adds the cause switch-over. -/
def State.handRecord (s : State) (n : Fin 4) (switch : Bool) : State :=
  let p := s.pair.get n
  let h := match p.hand with
    | some h => some h
    | none => if switch then some (p.law, false, false, false) else none
  match h with
  | none => s
  | some (old, lawChg, par, moved) =>
    let o := p.outs.get (s.holder n)
    let causes := (if lawChg then 1 else 0) + (if par then 2 else 0) + (if switch ∨ moved then 4 else 0)
    let pay := leBytes old 1 ++ leBytes p.law 1 ++ leBytes (sat16 p.uv) 2 ++ leBytes (sat16 o.rv) 2 ++
      leBytes (sat16 p.um) 2 ++ leBytes (sat16 o.rm) 2 ++ leBytes causes 1
    let s := s.modPair n (fun p => { p with hand := none })
    (s.bump (Reg.SCE_PAIRn_HOVERS n)).evtC (Reg.SCE_PAIRn_EVT_STAT_HOVER n) .trace none pay

/-- The commit of an output for the sample of pier k (R379): limits, counters, the lease, the counts of on-time outputs,
the end of the switch-over inhibit, and the state copy of a re-synchronisation that waits for it (R388; the parameter copy ends
within 4 spans). `held` marks the held value of a switch-over. -/
def State.commitOut (s : State) (n : Fin 4) (k : Nat) (uv um : Int) (held : Bool) : State :=
  let p := s.pair.get n
  let s := s.handRecord n held
  let lim : Int := (s.currentLimit n).1
  let malim : Int := s.fget (Reg.MADn_CFG_MALIM n)
  let cv := limitTo lim uv
  let cm := limitTo malim um
  let clipV := decide (cv ≠ uv)
  let clipM := decide (cm ≠ um)
  let s := if clipV then s.bump (Reg.VCDn_CLAMPS n) else s
  let s := if clipM then s.bump (Reg.MADn_CLAMPS n) else s
  let s := if s.injOn n ∧ (clipV ∨ clipM) then s.captureThrottled else s
  let s := s.refreshLimit n
  let off := signed16 (s.fget (Reg.MADn_CFG_OFFSET n))
  let s := s.fput (Reg.MADn_OUT_CODE n) (sat16 (if p.law = 6 then off else cm + off))
  let lease := max 2 (s.fget (Reg.SRFn_CFG_LEASE n))
  let s := s.fput (Reg.SRFn_STATUS_EXPIRY n) ((k + lease) % s.piers)
  let run := p.onTime + 1
  let h := s.holder n
  let swn := if held then p.swn else p.swn.map (· - 1)
  let s := s.modPair n (fun p =>
    { p with uv := cv, um := cm, clampV := clipV, clampM := clipM, committed := true, flight := none, ocOff := false,
             leased := true, lates := (false :: p.lates).take 64, onTime := run, lateReq := p.lateReq && decide (run < 4),
             swn := swn.filter (fun m => decide (m ≠ 0)),
             relAt := if swn = some 0 then some (s.cycle + 4) else p.relAt })
  let s := s.fput (Reg.SCE_PAIRn_STATUS_OVR64 n) (((s.pair.get n).lates.filter (fun b => b)).length)
  let o := otherEng h
  let copied : Bool := match (s.pair.get n).resync.get o with
    | .waiting => true
    | .copying t => decide (t + 4 ≤ (s.atb.lanes.get n).spans)
    | .none => false
  let s := if copied then
      (s.modPair n (fun p => { p with resync := p.resync.set o .none, agree := p.agree.set o 0,
                                      eng := p.eng.set o (p.eng.get h) })).setEngState n o 4
    else s
  s.refreshServo n

/-! ### Late outputs (R358) -/

/-- The sample of pair n is late: the previous command is held, counts and escalations run. -/
def State.lateOutput (s : State) (n : Fin 4) : State :=
  let s := s.handRecord n false
  let p := s.pair.get n
  let two := decide (p.lates.headD false = true)
  let lates := (true :: p.lates).take 64
  let cnt := (lates.filter (fun b => b)).length
  let swn := p.swn.map (fun _ => max 1 (s.fget (Reg.SRFn_CFG_SWN n)))
  let s := s.modPair n (fun p =>
    { p with lates := lates, onTime := 0, flight := none, lateReq := p.lateReq || two, swn := swn,
             lateAt := some s.stamp, badAt := some s.stamp })
  let s := s.fput (Reg.SCE_PAIRn_STATUS_OVR64 n) cnt
  let s := (s.bump (Reg.SCE_PAIRn_OVR n)).evt (Reg.SCE_PAIRn_EVT_STAT_LATE n) .notice
  let s :=
    if 8 ≤ cnt ∧ p.law = 4 then
      let s := s.modPair n (fun p => { p with lates := [] })
      ((s.evt (Reg.SCE_PAIRn_EVT_STAT_ESCAL n) .fault).setOut n .overrun).raiseRetract n
    else if 8 ≤ cnt ∧ (p.law = 1 ∨ p.law = 2 ∨ p.law = 3) then
      let s := s.modPair n (fun p => { p with lates := [], redReq := true })
      (((s.bump (Reg.SCE_PAIRn_REDS n)).evt (Reg.SCE_PAIRn_EVT_STAT_ESCAL n) .fault).setDegraded n)
    else s
  s.refreshServo n

/-! ### Judgment (R380 to R382, R389) -/

/-- A re-synchronisation of engine e starts (R388): the parameter copy. -/
def State.startResync (s : State) (n : Fin 4) (e : Fin 2) : State :=
  let now := (s.atb.lanes.get n).spans
  s.modPair n (fun p => { p with resync := p.resync.set e (.copying now) })

/-- The payload of a judgment (R506). -/
def State.judgePayload (s : State) (n : Fin 4) (cause k : Nat) : List Byte :=
  let p := s.pair.get n
  let x := (p.recs.b0).getD p.outs.b0
  let y := (p.recs.b1).getD p.outs.b1
  let rec8 (o : EngOut) := leBytes (sat16 o.uv) 2 ++ leBytes (sat16 o.um) 2 ++ leBytes o.sig.toNat 4
  rec8 x ++ rec8 y ++ leBytes (s.fget (Reg.SRFn_UREF_UREF n)) 2 ++
    leBytes ((if x.selfChk then 1 else 0) + (if y.selfChk then 2 else 0)) 1 ++ leBytes cause 1 ++ leBytes k 2

/-- The counter of a judgment cause (R380). -/
def State.judgeCount (s : State) (n : Fin 4) (cause : Nat) : State :=
  if cause = 1 then s.bump (Reg.SRFn_SELF n)
  else if cause = 2 then s.bump (Reg.SRFn_ABSENT n)
  else if cause = 6 then s.bump (Reg.SRFn_EXPIRE n)
  else if cause = 7 then s
  else s.bump (Reg.SRFn_MISMATCH n)

/-- An engine is Retired (R389): An is held at Degraded, and the event for log page 0xC2 is reported. -/
def State.retireEngine (s : State) (n : Fin 4) (e : Fin 2) : State :=
  let was := s.msc.avail.get n
  let s := ((s.setEngState n e 5).bump (Reg.SRFn_RETIRE n)).evt (Reg.SRFn_EVT_STAT_RETIRE n) .fault
  let s := s.setDegraded n
  if was = .available then s else s.vendorEvent 0xC2

/-- An engine is Fenced (R382); AUTORS starts its re-synchronisation (R388). -/
def State.fenceEngine (s : State) (n : Fin 4) (e : Fin 2) : State :=
  let s := s.setEngState n e 3
  if s.fbit (Reg.SRFn_CFG_AUTORS n) then s.startResync n e else s

/-- SRFn judges engine e with a cause at pier k (R380, R382, R389): it is Fenced, or Retired at the RTRY-th judgment within
64 revolutions. -/
def State.judge (s : State) (n : Fin 4) (e : Fin 2) (cause k : Nat) : State :=
  let pay := s.judgePayload n cause k
  let s := s.judgeCount n cause
  let s := ((s.fput (Reg.SRFn_JUDGE_CAUSE n) cause).fput (Reg.SRFn_JUDGE_ENGINE n) e.val).fput (Reg.SRFn_JUDGE_PIER n) k
  let s := s.evtC (Reg.SRFn_EVT_STAT_JUDGE n) .fault none pay
  let r := escalate ((s.pair.get n).judged.get e) s.stamp (s.revs 64) (max 1 (s.fget (Reg.SRFn_CFG_RTRY n)))
  let s := s.modPair n (fun p => { p with judged := p.judged.set e r.2, resync := p.resync.set e .none, swapReq := false,
                                          agree := p.agree.set e 0, badAt := some s.stamp })
  if r.1 then s.retireEngine n e else s.fenceEngine n e

/-- The actuator is fenced (R391): Retract, Out, a Fault event, both engines that are not Retired Fenced. -/
def State.fenceActuator (s : State) (n : Fin 4) : State :=
  let s := (s.setOut n .fenced).raiseRetract n
  let s := s.evt (Reg.SRFn_EVT_STAT_FENCEACT n) .fault
  ([0, 1] : List (Fin 2)).foldl (fun s e =>
    if s.engState n e = 5 ∨ s.engState n e = 3 then s else s.fenceEngine n e) s

/-- Whether an output passes the reference check (R378). -/
def State.refOk (s : State) (n : Fin 4) (uv : Int) : Bool :=
  match (s.pair.get n).uref with
  | none => true
  | some r => decide ((uv - r).natAbs ≤ max 1 (s.fget (Reg.SRFn_REF1_REFTOL n)))

/-- The distance of an output from the reference. -/
def State.refDist (s : State) (n : Fin 4) (uv : Int) : Nat :=
  match (s.pair.get n).uref with
  | none => 0
  | some r => (uv - r).natAbs

/-- A withheld or failing output is counted (R379). -/
def State.refFail (s : State) (n : Fin 4) (noticed : Bool) : State :=
  let s := s.bump (Reg.SRFn_REFFAIL n)
  if noticed then s.note (Reg.SRFn_REFFAIL n) .notice else s

/-- The switch-over inhibit starts (R385): SWN commits after the held sample end it. `ahead`: the held sample is still to be
committed (R384). -/
def State.startSwn (s : State) (n : Fin 4) (ahead : Bool) : State :=
  let k := max 1 (s.fget (Reg.SRFn_CFG_SWN n)) + (if ahead then 1 else 0)
  (s.fput (Reg.SRFn_STATUS_WINH n) 1).modPair n (fun p => { p with swn := some k, relAt := none })

/-- A switch-over to engine e at the sample of pier k (R383): offsets formed against the last committed output, the held
value committed, the lease renewed, the inhibit of R385 started. -/
def State.switchOver (s : State) (n : Fin 4) (e : Fin 2) (k : Nat) : State :=
  let p := s.pair.get n
  let o := p.outs.get e
  let h := s.hsh n
  let s := s.modPair n (fun p => { p with
    eng := p.eng.set e { p.eng.get e with mv := offsetFloor h (p.uv - o.rv), mm := offsetFloor h (p.um - o.rm) } })
  let s := (s.giveKeystone n e).startSwn n false
  let s := (s.bump (Reg.SRFn_SWITCH n)).evt (Reg.SRFn_EVT_STAT_SWITCH n) .notice
  s.commitOut n k p.uv p.um true

/-- The Holder has been judged at the sample of pier k (R382, R383): switch-over to the Standby engine whose output passes
the reference check, or the actuator is fenced; at the deadline (`late`) the sample is then a late one (R379). -/
def State.holderJudged (s : State) (n : Fin 4) (k : Nat) (late : Bool) : State :=
  let o := otherEng (s.holder n)
  match (s.pair.get n).recs.get o with
  | some r =>
    if s.engState n o = 2 ∧ ! r.selfChk ∧ s.refOk n r.uv then s.switchOver n o k
    else (if late then s.lateOutput n else s).fenceActuator n
  | none => (if late then s.lateOutput n else s).fenceActuator n

/-- SCE_DEADLINE.DECK within its limits. -/
def State.deadline (s : State) : Nat := max 0x020000 (min 0x300000 (s.fget Reg.SCE_DEADLINE_DECK))

/-- The decks by which Ln has passed the boundary of pier k. -/
def State.pastPier (s : State) (n : Fin 4) (k : Nat) : Nat := angleFwd s.piers (k * 2 ^ 22) (s.laneAngle n)

/-! ### The decision of a sample (R379 to R383) -/

/-- Two records agree (R377). -/
def recsAgree (a b : EngOut) : Bool := decide (a.uv = b.uv) && decide (a.um = b.um) && decide (a.sig = b.sig)

/-- A Shadow engine's record agreed with the Holder's (R388): after RSYNC of them it is Standby. -/
def State.shadowAgrees (s : State) (n : Fin 4) (e : Fin 2) : State :=
  if s.engState n e ≠ 4 then s
  else
    let k := (s.pair.get n).agree.get e + 1
    let s := s.modPair n (fun p => { p with agree := p.agree.set e k })
    if max 16 (s.fget (Reg.SRFn_CFG_RSYNC n)) ≤ k then
      ((s.setEngState n e 2).bump (Reg.SRFn_RESYNC n)).evt (Reg.SRFn_EVT_STAT_RESYNC n) .notice
    else s

/-- The engine judged for disagreeing records, and the cause (R380, R381). DEDUCED: a Shadow engine judged where causes 0x3 and 0x4 would name
the Holder is judged by 0x5. -/
def State.disagreeJudged (s : State) (n : Fin 4) (h c : Fin 2) (rh rc : EngOut) : Fin 2 × Nat :=
  let applies := (s.pair.get n).uref.isSome
  let okH := s.refOk n rh.uv
  let okC := s.refOk n rc.uv
  let dh := s.refDist n rh.uv
  let dc := s.refDist n rc.uv
  let m := s.fget (Reg.SRFn_REF1_JMARGIN n)
  let r := if applies ∧ okH ≠ okC then (if okH then c else h, 3)
    else if applies ∧ dc + m ≤ dh ∧ dh ≠ dc then (h, 4)
    else if applies ∧ dh + m ≤ dc ∧ dh ≠ dc then (c, 4)
    else (c, 5)
  if s.engState n c = 4 ∧ r.1 = h then (c, 5) else r

/-- The decision at the later of the two deliveries, or of the one when Solo (R379). -/
def State.decideSample (s : State) (n : Fin 4) : State :=
  let p := s.pair.get n
  let h := s.holder n
  match p.flight, s.checking n with
  | some k, some c =>
    match p.recs.get h, p.recs.get c with
    | some rh, some rc =>
      let s := if rh.selfChk ∨ rc.selfChk then s else s.bump (Reg.SRFn_CMP n)
      if rh.selfChk ∧ rc.selfChk then ((s.judge n h 1 k).judge n c 1 k).fenceActuator n
      else if rh.selfChk then (s.judge n h 1 k).holderJudged n k false
      else if rc.selfChk then (s.judge n c 1 k).commitOut n k rh.uv rh.um false
      else if recsAgree rh rc then
        let s := if s.refOk n rh.uv then s else s.refFail n true
        let s := s.shadowAgrees n c
        if p.swapReq ∧ s.engState n c = 2 then
          let s := s.modPair n (fun p => { p with swapReq := false })
          if s.refOk n rc.uv then s.switchOver n c k else s.commitOut n k rh.uv rh.um false
        else (s.modPair n (fun p => { p with swapReq := false })).commitOut n k rh.uv rh.um false
      else
        let (j, cause) := s.disagreeJudged n h c rh rc
        let s := s.judge n j cause k
        if j = h then s.holderJudged n k false else s.commitOut n k rh.uv rh.um false
    | _, _ => s
  | some k, none =>
    match p.recs.get h with
    | some rh =>
      if rh.selfChk then (s.judge n h 1 k).fenceActuator n
      else if s.refOk n rh.uv then s.commitOut n k rh.uv rh.um false
      else s.refFail n false
    | none => s
  | none, _ => s

/-- ENGINE_DELIVERY: engine e delivers its record for the sample in flight: what it computed, with the disturbance of the
command (a fault of the engine: differences of u_v, u_m and the signature, the self-check flag, corrected ECC reads). After
the deadline a delivery is discarded (R358); a delivery of an engine whose output is ignored changes nothing (R375). -/
def State.engineDelivery (s : State) (n : Fin 4) (e : Fin 2) (dv dm : Int) (dsig : Word) (flag : Bool) (ecc : Nat) :
    State :=
  let p := s.pair.get n
  let o := p.outs.get e
  let cyc := min (o.cyc + 4 * ecc) 0xFFFF
  let st := s.engState n e
  let late : Bool := match p.flight with
    | some k => decide (s.deadline < s.pastPier n k)
    | none => p.lates.headD false || decide (s.deadline < s.laneAngle n % 2 ^ 22)
  let s := (s.fput (Reg.SCEn_CYC_LAST (engNo n e)) cyc).fput (Reg.SCEn_CYC_MAX (engNo n e))
    (max cyc (s.fget (Reg.SCEn_CYC_MAX (engNo n e))))
  let s := s.fput (Reg.SCEn_STATUS_LATE (engNo n e)) (if late then 1 else 0)
  match p.flight with
  | none => s
  | some _ =>
    if late ∨ ¬ (st = 1 ∨ checks st) ∨ (p.recs.get e).isSome then s
    else
      let uv := satBits 16 (o.uv + dv)
      let uv := if p.corrupt.get e then (if uv % 2 = 0 then uv + 1 else uv - 1) else uv
      let r : EngOut := { o with uv := uv, um := satBits 16 (o.um + dm), sig := o.sig ^^^ dsig, cyc := cyc,
                                 selfChk := flag || decide (4096 < cyc) }
      let s := s.modPair n (fun p =>
        { p with recs := p.recs.set e (some r), corrupt := p.corrupt.set e false })
      s.decideSample n

/-- The deadline passes with the sample of pier k not committed (R358, R379, R380). -/
def State.deadlinePass (s : State) (n : Fin 4) (k : Nat) : State :=
  let p := s.pair.get n
  let h := s.holder n
  match s.checking n with
  | none => s.lateOutput n
  | some c =>
    match p.recs.get h, p.recs.get c with
    | some rh, none =>
      if rh.selfChk then ((s.judge n h 1 k).lateOutput n).fenceActuator n
      else
        let s := s.judge n c 2 k
        if s.refOk n rh.uv then s.commitOut n k rh.uv rh.um false else (s.refFail n false).lateOutput n
    | none, some rc =>
      if rc.selfChk then (s.judge n c 1 k).lateOutput n
      else (s.judge n h 2 k).holderJudged n k true
    | _, _ => s.lateOutput n

/-- OUTPUT_DEADLINE: Ln has reached deck SCE_DEADLINE.DECK of the span of the sample in flight (R358). -/
def State.outputDeadline (s : State) (n : Fin 4) : State :=
  match (s.pair.get n).flight with
  | none => s
  | some k => if s.deadline ≤ s.pastPier n k then s.deadlinePass n k else s

/-! ### The keystone (R384 to R389) -/

/-- The other engine takes the keystone and its next sample is the held sample of R383; with none Standby the actuator is
fenced. -/
def State.keystoneMoves (s : State) (n : Fin 4) : State :=
  let o := otherEng (s.holder n)
  if s.engState n o = 2 then
    let s := ((s.giveKeystone n o).startSwn n true).modPair n (fun p => { p with heldReq := true, flight := none })
    ((s.bump (Reg.SRFn_SWITCH n)).evt (Reg.SRFn_EVT_STAT_SWITCH n) .notice).refreshServo n
  else s.fenceActuator n

/-- KEYSTONE_EXPIRY: Ln reaches the expiry pier without a further commit (R384); the lease does not run in Idle and
Retract. -/
def State.keystoneExpiry (s : State) (n : Fin 4) : State :=
  let law := (s.pair.get n).law
  let h := s.holder n
  if law = 0 ∨ law = 7 ∨ ¬ (s.pair.get n).leased ∨ s.engState n h ≠ 1 ∨ s.laneAngle n / 2 ^ 22 ≠ s.fget (Reg.SRFn_STATUS_EXPIRY n) then s
  else (s.judge n h 6 (s.laneAngle n / 2 ^ 22)).keystoneMoves n

/-- SWITCHOVER_INHIBIT_RELEASE: 4 fabric cycles after the last counted commit the request of R385 ends. -/
def State.swnRelease (s : State) (n : Fin 4) : State :=
  match (s.pair.get n).relAt with
  | none => s
  | some c =>
    if s.cycle < c then s
    else ((s.modPair n (fun p => { p with relAt := none })).fput (Reg.SRFn_STATUS_WINH n) 0).refreshServo n

/-- RESYNC_PARAMETER_COPY_DONE: the parameter copy of engine e has ended (R388): the state copy follows after the next
Holder commit; while the pair is Idle the engine is Shadow at once. -/
def State.resyncCopied (s : State) (n : Fin 4) (e : Fin 2) : State :=
  match (s.pair.get n).resync.get e with
  | .copying _ =>
    if (s.pair.get n).law = 0 then
      (s.modPair n (fun p => { p with resync := p.resync.set e .none, agree := p.agree.set e 0 })).setEngState n e 4
    else s.modPair n (fun p => { p with resync := p.resync.set e .waiting })
  | _ => s

/-- A write to an engine register during the parameter copy restarts the copy (R388). -/
def State.resyncRestart (s : State) (n : Fin 4) : State :=
  let now := (s.atb.lanes.get n).spans
  let again (r : Resync) : Resync := match r with | .copying _ => .copying now | r => r
  s.modPair n (fun p => { p with resync := ⟨again p.resync.b0, again p.resync.b1⟩ })

/-- SRF_CTRL_SWAP (R387): noted for the next sample while the other engine is Standby. -/
def State.srfSwap (s : State) (m : Master) (n : Fin 4) : State :=
  if ¬ s.isOwner m then s
  else if s.engState n (otherEng (s.holder n)) = 2 ∧ s.engState n (s.holder n) = 1 then
    s.modPair n (fun p => { p with swapReq := true })
  else s.note (Reg.SRFn_CTRL n) .notice

/-- SRF_CTRL_FENCE (R380, R393): engine e is judged with cause Forced. -/
def State.srfFence (s : State) (m : Master) (n : Fin 4) (e : Fin 2) : State :=
  let st := s.engState n e
  if ¬ s.isOwner m then s
  else
    let s := s.fput (Reg.SRFn_CTRL_ESEL n) e.val
    if ¬ (st = 1 ∨ checks st) then s.note (Reg.SRFn_CTRL n) .notice
    else
      let s := s.judge n e 7 (s.laneAngle n / 2 ^ 22)
      if st = 1 then s.keystoneMoves n else s

/-- SRF_CTRL_RESYNC (R388, R389, R393): a Fenced or Retired engine is re-synchronised; its judgment count is 0. -/
def State.srfResync (s : State) (m : Master) (n : Fin 4) (e : Fin 2) : State :=
  let st := s.engState n e
  if ¬ s.isOwner m then s
  else
    let s := s.fput (Reg.SRFn_CTRL_ESEL n) e.val
    if ¬ (st = 3 ∨ st = 5) then s.note (Reg.SRFn_CTRL n) .notice
    else
      let s := s.modPair n (fun p => { p with judged := p.judged.set e [] })
      (s.setEngState n e 3).startResync n e

/-- SRF_CTRL_CORRUPT (R392, R393): bit 0 of the next u_v that engine e delivers is inverted. -/
def State.srfCorrupt (s : State) (m : Master) (n : Fin 4) (e : Fin 2) : State :=
  let st := s.engState n e
  if ¬ s.isOwner m then s
  else
    let s := s.fput (Reg.SRFn_CTRL_ESEL n) e.val
    if ¬ (st = 1 ∨ checks st) then s.note (Reg.SRFn_CTRL n) .notice
    else s.modPair n (fun p => { p with corrupt := p.corrupt.set e true })

/-- PLANNED_SWAP_SCHEDULE: once per 24 hours of power-on firmware writes SWAP for each loaded actuator at a moment when no
write is committed on it (R387). -/
def State.plannedSwap (s : State) (n : Fin 4) : State :=
  let law := (s.pair.get n).law
  let writing := (s.msc.commit.get n).any (fun c => c.op.p.d.isWrite) ||
    (s.msc.running.get n).any (fun c => c.op.p.d.isWrite)
  let now := s.cycle
  if law = 0 ∨ law = 7 ∨ writing ∨ now < (s.pair.get n).swapAt + 86400 * 10 ^ 9 then s
  else (s.modPair n (fun p => { p with swapAt := now })).srfSwap (.core 0) n

/-- The LOAD write (R353, R376): the keystone goes to engine X when Standby, else to Y when Standby, else to a Shadow engine
whose partner is Retired; an engine that still holds it counts as Standby (notes/assumptions/10.md). -/
def State.sceLoad (s : State) (n : Fin 4) : State :=
  let x := s.engState n 0
  let y := s.engState n 1
  let free (st : Nat) : Bool := decide (st = 2) || decide (st = 1)
  if (s.pair.get n).law ≠ 0 then s
  else if free x then (s.giveKeystone n 0).modPair n (fun p => { p with loadReq := true })
  else if free y then (s.giveKeystone n 1).modPair n (fun p => { p with loadReq := true })
  else if x = 4 ∧ y = 5 then (s.giveKeystone n 0).modPair n (fun p => { p with loadReq := true })
  else if y = 4 ∧ x = 5 then (s.giveKeystone n 1).modPair n (fun p => { p with loadReq := true })
  else s.note (Reg.SRFn_STATUS n) .fault

end Sys2Proof.Machine
end

