-- ==== Sys2Proof/Machine/Servo.lean ====
section
/-!
DEFINITION. Sys2Proof/Machine/Servo.lean: the servo sample (spec/10_servo_control.md): detection and demodulation by SVDn,
validity and lock, the laws' transitions, what both engines compute at a publish, and the commands of the pair and of the
VCM drive.
-/
namespace Sys2Proof.Machine

/-! ### SVDn (R336 to R341) -/

/-- Servo lock of lane n. -/
def State.svdLock (s : State) (n : Fin 4) : Bool := s.fbit (Reg.SVDn_STATUS_LOCK n)

/-- The number of ones of a number, of at most k bits. -/
def popCount (x : Nat) : Nat → Nat
  | 0 => 0
  | k + 1 => x % 2 + popCount (x / 2) k

/-- The number a 24-bit Gray code spells. -/
def grayDecode (g : Nat) : Nat :=
  (List.range 24).foldl (fun acc i => acc + popCount (g / 2 ^ i) 24 % 2 * 2 ^ i) 0

/-- SAMWIN in decks, on either side of a pier boundary (R337). -/
def State.samWindow (s : State) (n : Fin 4) : Nat := max 1 (s.fget (Reg.SVDn_CFG0_SAMWIN n)) * s.fget Reg.SVD_SB_LEN

/-- SAM_DETECT: a run of 16 servo bits ends at an instant; with at most one bit differing from 0xE9B2, and, in lock, within
±SAMWIN servo bits of a pier boundary of Ln, it is accepted and the field before it demodulated (R337, R338): the signed
amplitudes of the bursts, the twelve index bits (index, P0, P1) and the Gray-coded cylinder come from the buffered field. -/
def State.samDetect (s : State) (n : Fin 4) (instant : Nat) (bits : BitVec 16) (bn bq : Int) (idxWord : BitVec 12)
    (gray : BitVec 24) : State :=
  let p := s.piers
  let a := (s.gAt instant + ((s.rd (Reg.ATB_LOFFn n)).toNat : Int)) % (revLen p : Int)
  let (k, d) := nearestPier p a.toNat
  let win := s.samWindow n
  let okBits := decide (popCount (Nat.xor bits.toNat 0xE9B2) 16 ≤ 1)
  let idx := idxWord.toNat / 4
  let par := (popCount (idx % 32) 5 + idxWord.toNat / 2) % 2 = 0 ∧ (popCount (idx / 32) 5 + idxWord.toNat) % 2 = 0
  if okBits ∧ (s.pair.get n).sam = none ∧ (¬ s.svdLock n ∨ d.natAbs ≤ win) then
    let m : SamData :=
      { theta := burstTheta bn bq, amp := min (bn.natAbs + bq.natAbs) 65535, idx := idx, idxOk := decide par, cyl := grayDecode gray.toNat,
        pier := k, span := (s.atb.lanes.get n).spans + (if d < 0 then 1 else 0), cycle := s.cycle }
    s.modPair n (fun p => { p with sam := some m })
  else s

/-- Whether a sample is valid (R339), as the list of its failed conditions: index, amplitude, cylinder. The cylinder condition
needs the engines' prediction, which exists in the laws of R347 (notes/assumptions/11.md). -/
def State.sampleFaults (s : State) (n : Fin 4) (m : SamData) : Bool × Bool × Bool :=
  let p := s.pair.get n
  let pred := s.predicted n (p.eng.get (s.holder n)) p.uv / 4096
  let checked := decide (p.law = 2) || decide (p.law = 3) || decide (p.law = 4) || decide (p.law = 5)
  (! m.idxOk, decide (m.amp < s.fget (Reg.SVDn_CFG0_AMIN n)),
    checked && decide (s.fget (Reg.SVDn_CFG0_CYLTOL n) < ((m.cyl : Int) - pred).natAbs))

/-- Servo lock after a sample (R340). -/
def State.lockUpdate (s : State) (n : Fin 4) (valid : Bool) (idx : Nat) : State :=
  let p := s.pair.get n
  let follows := match p.lastIdx with | some j => decide ((j + 1) % s.piers = idx) | none => false
  let run := if ¬ valid then 0 else if follows then p.lockRun + 1 else 1
  let miss := if valid then 0 else p.missRun + 1
  let s := s.modPair n (fun p =>
    { p with lockRun := run, missRun := miss, lastIdx := if valid then some idx else none })
  if s.svdLock n then
    if max 1 (s.fget (Reg.SVDn_CFG1_MISSN n)) ≤ miss then
      ((s.fput (Reg.SVDn_STATUS_LOCK n) 0).bump (Reg.SVDn_LOCKLOSS n)).evt (Reg.SVDn_EVT_STAT_LOCKLOSS n) .notice
    else s
  else if max 1 (s.fget (Reg.SVDn_CFG1_LOCKN n)) ≤ run then s.fput (Reg.SVDn_STATUS_LOCK n) 1
  else s

/-- The PES write-inhibit source after a sample (R322). -/
def State.pesInhibit (s : State) (n : Fin 4) : State :=
  let p := s.pair.get n
  let a := p.sampPes.natAbs
  if ¬ p.sampValid ∨ s.fget (Reg.PAn_WINH_CFG_WTHR n) < a then
    (s.modPa n (fun q => { q with good := 0 })).winhOn n 0
  else if a ≤ s.fget (Reg.PAn_WINH_CFG_CTHR n) then
    let k := (s.pa.get n).good + 1
    let s := s.modPa n (fun q => { q with good := k })
    if max 1 (s.fget (Reg.PAn_WINH_CFG_CLRN n)) ≤ k then s.winhOff n 0 else s
  else s.modPa n (fun q => { q with good := 0 })

/-- A counter raised when a condition holds. -/
def State.bumpIf (s : State) (b : Bool) (a : Nat) : State := if b then s.bump a else s

/-- The sample SVDn publishes (R337 to R340, R322): the field held since its SAM, or an invalid sample; registers, counters,
lock, and the PES source. -/
def State.svdPublish (s : State) (n : Fin 4) : State :=
  let s := s.bump (Reg.SVDn_SAMPLES n)
  match (s.pair.get n).sam with
  | none =>
    let s := (s.bump (Reg.SVDn_SAMMISS n)).fput (Reg.SVDn_STATUS_VALID n) 0
    let s := s.modPair n (fun p => { p with sampValid := false })
    (s.lockUpdate n false 0).pesInhibit n
  | some m =>
    let (fi, fa, fc) := s.sampleFaults n m
    let valid := ! (fi || fa || fc)
    let x := s.headPos n m
    let pes := satBits 16 (x - s.targetPos n)
    let s := ((s.bumpIf fi (Reg.SVDn_IDXERR n)).bumpIf fa (Reg.SVDn_LOWAMP n)).bumpIf fc (Reg.SVDn_CYLERR n)
    let s := s.fput (Reg.SVDn_STATUS_VALID n) (if valid then 1 else 0)
    let s := (s.fput (Reg.SVDn_STATUS_INDEX n) m.idx).fput (Reg.SVDn_AMP_AMP n) m.amp
    let s := (s.fput (Reg.SVDn_POS_LO_X n) ((x % 2 ^ 32).toNat)).fput (Reg.SVDn_PES_PES n) (sat16 pes)
    let s := s.modPair n (fun p => { p with sampValid := valid, sampX := x, sampPes := pes })
    (s.lockUpdate n valid m.idx).pesInhibit n

/-! ### Parameters and targets (R344, R354, R341) -/

/-- The words of a list of engine X's registers, stored in both engines of the pair (R343). -/
def State.bothEngines (s : State) (l : List (Nat × Word)) : State :=
  l.foldl (fun s aw => (s.wr aw.1 aw.2).wr (aw.1 + 0x1000) aw.2) s

/-- Whether a shadow waits, in SCEe_STATUS.SHADOW of both engines (R344). -/
def State.showShadow (s : State) (n : Fin 4) : State :=
  let v := if (s.pair.get n).shadow.isEmpty ∧ (s.pair.get n).reload.isEmpty then 0 else 1
  (s.fput (Reg.SCEn_STATUS_SHADOW (engX n)) v).fput (Reg.SCEn_STATUS_SHADOW (engX n + 1)) v

/-- What a published sample applies to both engines: a profile reload, and the shadow of the expert registers when APPLY was
written and ENABLE is 1 (R25, R344). -/
def State.applyShadow (s : State) (n : Fin 4) : State :=
  let p := s.pair.get n
  let apply := p.applyReq && s.fbit (Reg.SCEn_BASIC_ENABLE (engX n))
  if ¬ apply ∧ p.reload.isEmpty then s
  else
    let s := s.bothEngines p.reload
    let s := if apply then s.bothEngines p.shadow else s
    let s := s.modPair n (fun p =>
      { p with shadow := if apply then [] else p.shadow, applyReq := p.applyReq && ! apply, reload := [] })
    s.showShadow n

/-- The delivered seek target is put in use (R354), with the head-select frame ahead of the queue when its head is not the
selected one (R341). -/
def State.startTarget (s : State) (n : Fin 4) (t : Nat × Nat × Bool) : State :=
  let (cyl, head, w) := t
  let s := ((s.fput (Reg.SCE_PAIRn_TARGET_CYL n) cyl).fput (Reg.SCE_PAIRn_TARGET_HEAD n) head).fput
    (Reg.SCE_PAIRn_TARGET_W n) (if w then 1 else 0)
  let s := s.modPair n (fun p => { p with target := some t, pendTarget := none, pendGo := false })
  if s.servoHead n = head then s
  else s.modPa n (fun q => { q with queue := ⟨s.dpi.paEntry 0, .headSelect head⟩ :: q.queue })

/-- The MSC delivers a seek target (R354). -/
def State.seekTarget (s : State) (n : Fin 4) (cyl head : Nat) (w : Bool) : State :=
  let idle := ! s.trsRunning n
  s.modPair n (fun p => { p with pendTarget := some (cyl, head, w), pendGo := idle })

/-- TRSn has halted before the descriptor of the delivered target is accepted, so the target may start (R354). -/
def State.pairStartTarget (s : State) (n : Fin 4) : State := s.modPair n (fun p => { p with pendGo := true })

/-- Whether the actuator of pair n is loaded: its pair runs a law on the disk. -/
def State.actuatorLoaded (s : State) (n : Fin 4) : Bool :=
  let l := (s.pair.get n).law
  decide (l ≠ 0) && decide (l ≠ 6) && decide (l ≠ 7)

/-! ### Law transitions (R353) -/

/-- Counters of the transitions that need runs of samples (R353): good samples of Settle, end-of-unload samples of Ramp. -/
def State.countRuns (s : State) (n : Fin 4) : State :=
  let p := s.pair.get n
  let good := p.sampValid && decide (p.sampPes.natAbs ≤ s.fget (Reg.SCEn_SETTLE1_FTHR (engX n)))
  let slow := p.clampV && decide ((s.backEmf n).natAbs * 20 < s.fget (Reg.SCEn_RAMP_RAMPV (engX n)))
  s.modPair n (fun p =>
    { p with followRun := if p.law = 2 ∧ good then p.followRun + 1 else 0,
             unloadRun := if p.law = 6 ∧ ¬ p.rampIn ∧ slow then p.unloadRun + 1 else 0 })

/-- The law after this publish, whether a Ramp is a load, and whether this is a transition (R353). `started` says that a
new target was put in use. -/
def State.nextLaw (s : State) (n : Fin 4) (started : Bool) : Nat × Bool × Bool :=
  let p := s.pair.get n
  let x := engX n
  let g := p.eng.get (s.holder n)
  let d := seekDist g (s.targetPos n)
  let lock := s.svdLock n
  let stay := (p.law, p.rampIn, false)
  match p.law with
  | 0 => if p.loadReq then (6, true, true) else stay
  | 6 =>
    if p.rampIn then (if lock then (2, false, true) else stay)
    else if 16 ≤ p.unloadRun then (0, false, true) else stay
  | 7 => stay
  | 5 => if lock then (2, false, true) else stay
  | 4 => if ¬ lock then (5, false, true) else if p.resumeReq then (2, false, true) else stay
  | law =>
    if ¬ lock then (5, false, true)
    else if p.redReq then (4, false, true)
    else if law = 1 then
      (if d ≤ s.fget (Reg.SCEn_SEEK_SDIST x) ∧ g.v.natAbs ≤ s.fget (Reg.SCEn_SEEK_SVEL x) * 16 then (2, false, true)
       else stay)
    else if p.unloadReq then (6, false, true)
    else if started then (if s.fget (Reg.SCEn_SEEK1_SEEKMIN x) < d then (1, false, true) else (2, false, true))
    else if law = 2 ∧ max 1 (s.fget (Reg.SCEn_SETTLE1_FN x)) ≤ p.followRun then (3, false, true)
    else stay

/-- The law of pair n set, in the pair and both engines. -/
def State.setLaw (s : State) (n : Fin 4) (law : Nat) : State :=
  let s := s.modPair n (fun p =>
    { p with law := law, eng := ⟨{ p.eng.b0 with law := law }, { p.eng.b1 with law := law }⟩ })
  let s := s.fput (Reg.SCE_PAIRn_STATUS_LAW n) law
  (s.fput (Reg.SCEn_STATUS_LAW (engX n)) law).fput (Reg.SCEn_STATUS_LAW (engX n + 1)) law

/-- The pair reaches Follow (R571, R572): a Parked actuator becomes Available, or Degraded while an engine is Retired or an
injection is on; an attempt to restore an Out actuator counts its 64 revolutions from here. -/
def State.followReached (s : State) (n : Fin 4) : State :=
  let a := s.msc.avail.get n
  if a = .parked then s.setAvail n (if s.pairImpaired n then .degraded else .available)
  else if a = .out ∧ (s.msc.trial.get n).isSome then
    let now := s.stamp
    s.modMsc (fun m => { m with trial := m.trial.set n (some now) })
  else s

/-- What entering a law does beside the hand-over (R349, R351, R353, R358, R388): `old` is the outgoing law. -/
def State.enterLaw (s : State) (n : Fin 4) (old law : Nat) (rampIn : Bool) : State :=
  let s := s.setLaw n law
  let p := s.pair.get n
  match law with
  | 0 =>
    let shadow (s : State) (e : Fin 2) : State :=
      if (s.pair.get n).resync.get e = .waiting then
        (s.modPair n (fun p => { p with resync := p.resync.set e .none, agree := p.agree.set e 0 })).setEngState n e 4
      else s
    let s := ([0, 1] : List (Fin 2)).foldl shadow s
    let s := s.modPair n (fun p => { p with uv := 0, um := 0, target := none, flight := none, leased := false })
    let s := (s.fput (Reg.VCDn_STATUS_BRIDGE n) 0).fput (Reg.MADn_OUT_CODE n) (s.fget (Reg.MADn_CFG_OFFSET n))
    s.setParked n
  | 1 => s.bump (Reg.SCE_PAIRn_SEEKS n)
  | 2 =>
    let zero (g : EngSt) : EngSt := { g with integ := 0, x := if old = 6 then p.sampX else g.x }
    let s := s.modPair n (fun p => { p with followRun := 0, eng := ⟨zero p.eng.b0, zero p.eng.b1⟩ })
    if old = 6 then
      let cyl := match p.sam with | some m => m.cyl | none => (p.sampX / 4096).toNat
      let h := s.servoHead n
      let s := s.modPair n (fun p => { p with target := some (cyl, h, false) })
      ((s.fput (Reg.SCE_PAIRn_TARGET_CYL n) cyl).fput (Reg.SCE_PAIRn_TARGET_HEAD n) h).fput
        (Reg.SCE_PAIRn_TARGET_W n) 0
    else s
  | 3 => (s.followReached n).bootStep 10
  | 4 =>
    let r := if old = 1 then (p.eng.get (s.holder n)).x else s.targetPos n
    let now := s.stamp
    (s.modPair n (fun p => { p with redTarget := r, lates := [], since := now })).setDegraded n
  | 5 =>
    let now := (s.atb.lanes.get n).spans
    (s.modPair n (fun p => { p with since := now })).evt (Reg.SCE_PAIRn_EVT_STAT_HOLD n) .notice
  | 6 =>
    let now := s.stamp
    (s.modPair n (fun p => { p with rampIn := rampIn, since := now, unloadRun := 0 })).fput (Reg.MADn_OUT_CODE n)
      (s.fget (Reg.MADn_CFG_OFFSET n))
  | _ => s

/-! ### What both engines compute (R342, R347 to R352, R355, R367) -/

/-- The estimator of one engine at a publish under the law in force before it (R347): Hold has no innovation, a head change
sets x to the first valid X after it (R341). -/
def State.engEstimate (s : State) (n : Fin 4) (g : EngSt) (inj : Int) : EngSt :=
  let p := s.pair.get n
  let meas := if p.sampValid ∧ p.law ≠ 5 then some (p.sampX + inj) else none
  let g := if p.law = 0 ∨ p.law = 6 ∨ p.law = 7 then g else s.estimate n g p.uv meas
  if p.switched ∧ p.sampValid then { g with x := p.sampX } else g

/-- One engine's computation of the sample: its next state and its output. `form` says that a hand-over offset is formed. -/
def State.engCompute (s : State) (n : Fin 4) (g : EngSt) (form : Bool) : EngSt × EngOut :=
  let p := s.pair.get n
  let inj := s.injection n g
  let point := s.fget (Reg.SCE_PAIRn_INJ0_POINT n)
  let at' (k : Nat) : Int := if point = k then inj else 0
  let tgt := s.targetPos n + at' 4
  let pes := if p.sampValid then p.sampX + at' 1 - tgt else g.x - tgt
  let (g, rv, rm) := s.lawOutput n p.law p.rampIn g pes tgt (p.redTarget - tgt)
  let h := s.hsh n
  let mv := if form then p.uv - rv else g.mv
  let mm := if form then p.um - rm else g.mm
  let uv := satBits 16 (rv + mv + at' 2)
  let um := satBits 16 (rm + mm + at' 3)
  let g := { g with mv := if form then offsetFloor h mv else offsetDecay h mv,
                    mm := if form then offsetFloor h mm else offsetDecay h mm }
  let g := s.injStep n g
  let cyc := s.engCycles n p.law (decide (mv ≠ 0) || decide (mm ≠ 0)) (s.injOn n)
  (g, ⟨uv, um, rv, rm, g.signature, false, cyc⟩)

/-- u_ref of the sample (R378), which SRFn_UREF shows, and whether the reference applies: in Settle, Follow and Reduced, of two valid
samples. -/
def State.reference (s : State) (n : Fin 4) : State :=
  let p := s.pair.get n
  let applies := p.sampValid ∧ p.lastX.2 ∧ (p.law = 2 ∨ p.law = 3 ∨ p.law = 4)
  let r := satBits 16 (-((s.fget (Reg.SRFn_REF0_RKP n) : Int) * p.sampPes +
    (s.fget (Reg.SRFn_REF0_RKD n) : Int) * (p.sampX - p.lastX.1)) / 4096)
  (s.fput (Reg.SRFn_UREF_UREF n) (sat16 r)).modPair n (fun p => { p with uref := if applies then some r else none })

/-- The moving target of the Reduced law approaches the seek target by at most SVEL/16 track per span (R351). -/
def State.moveReduced (s : State) (n : Fin 4) : State :=
  if (s.pair.get n).law ≠ 4 then s
  else
    let t := s.targetPos n
    let st : Int := s.fget (Reg.SCEn_SEEK_SVEL (engX n)) * 256
    s.modPair n (fun p => { p with redTarget := p.redTarget + limitTo st (t - p.redTarget) })

/-- Both engines compute the sample of pier k; the sample is in flight until it is committed or late. -/
def State.engines (s : State) (n : Fin 4) (k : Nat) (form : Bool) : State :=
  let p := s.pair.get n
  let (g0, o0) := s.engCompute n p.eng.b0 form
  let (g1, o1) := s.engCompute n p.eng.b1 form
  let h := s.holder n
  let inj := s.injection n (p.eng.get h)
  let ff := s.feedForward n (p.eng.get h)
  s.modPair n (fun p =>
    { p with eng := ⟨g0, g1⟩, outs := ⟨o0, o1⟩, recs := ⟨none, none⟩, flight := some k, committed := false,
             injVal := inj, injCount := if s.injOn n then p.injCount + 1 else p.injCount, ff := ff })

/-- The part of a publish that concerns the laws and the engines (R342 to R357). The offset that takes up a change of law, of parameters or
of the head (R341, R355) is formed against the last committed output, which still holds what remains of the offset before it; a change of the head
is no hand-over, and has no record (notes/assumptions/29.md). -/
def State.lawPublish (s : State) (n : Fin 4) : State :=
  let p := s.pair.get n
  let params := (p.applyReq && s.fbit (Reg.SCEn_BASIC_ENABLE (engX n)) && ! p.shadow.isEmpty) || ! p.reload.isEmpty
  let s := s.applyShadow n
  let active := p.law ≠ 0 ∧ p.law ≠ 6 ∧ p.law ≠ 7
  let started := decide active && p.pendTarget.isSome && (p.pendGo || ! s.trsRunning n)
  let s := match p.pendTarget with
    | some t => if started then s.startTarget n t else s
    | none => s
  let point := s.fget (Reg.SCE_PAIRn_INJ0_POINT n)
  let est (g : EngSt) := s.engEstimate n g (if point = 1 then s.injection n g else 0)
  let s := s.modPair n (fun p => { p with eng := ⟨est p.eng.b0, est p.eng.b1⟩ })
  let switch := (s.pair.get n).switched && (s.pair.get n).sampValid
  let s := s.modPair n (fun p => { p with switched := p.switched && ! p.sampValid })
  let s := s.countRuns n
  let (law, rampIn, changed) := s.nextLaw n started
  let form := changed || params || p.heldReq || p.hand.isSome || switch
  let s := s.modPair n (fun q => { q with
    hand := if changed ∨ params ∨ p.heldReq then some (p.law, changed, params, p.heldReq) else q.hand, heldReq := false,
    loadReq := false, unloadReq := false, redReq := false, resumeReq := false })
  let s := if changed then s.enterLaw n p.law law rampIn else s
  if law = 7 then s
  else if law = 0 then (if changed then s.handRecord n false else s)
  else
    let k := match p.sam with | some m => m.pier | none => s.laneAngle n / 2 ^ 22
    let s := (s.moveReduced n).reference n
    s.engines n k form

/-- Whether the sample of lane n is due (R337): 96 fabric cycles after the end of the SAM accepted, or, with none accepted for the span, 96
after its window closes. DEDUCED: outside lock, where R337 names no window, the same moment serves, since the laws of a pair run once
per span from Idle on (R346, R353; notes/assumptions/29.md). -/
def State.publishDue (s : State) (n : Fin 4) : Bool :=
  let p := s.pair.get n
  match p.sam with
  | some m => decide (m.cycle + 96 ≤ s.cycle)
  | none => decide (p.pubSpan < (s.atb.lanes.get n).spans) &&
      decide (s.samWindow n + 12 * s.atb.lead / 2 ^ 20 ≤ s.laneAngle n % 2 ^ 22)

/-- SAMPLE_PUBLISH: the sample of lane n is published to the pair (R337); a sample of the span before that was never
committed is late (R358); the inhibit reasons follow (R359), and the capture units of the lane take a sample (R368). -/
def State.samplePublish (s : State) (n : Fin 4) : State :=
  if ¬ s.publishDue n then s
  else
  let span := match (s.pair.get n).sam with
    | some m => m.span
    | none => (s.atb.lanes.get n).spans
  let s := match (s.pair.get n).flight with
    | some k => s.deadlinePass n k
    | none => s
  let s := (s.svdPublish n).lawPublish n
  let s := s.modPair n (fun p =>
    { p with sam := none, pubSpan := span, lastX := (p.sampX, p.sampValid) })
  (s.refreshServo n).captureSample n.val

/-! ### Commands of the pair -/

/-- The pair of an engine. -/
def enginePair (e : Fin 8) : Fin 4 := ⟨e.val / 2, by omega⟩

/-- SCE_CTRL_UNLOAD (R353): requested at the next publish. -/
def State.sceUnload (s : State) (n : Fin 4) : State := s.modPair n (fun p => { p with unloadReq := true })

/-- SCE_CTRL_FORCE_RED (R353). -/
def State.sceForceRed (s : State) (n : Fin 4) : State := s.modPair n (fun p => { p with redReq := true })

/-- SCE_CTRL_RESUME (R353). -/
def State.sceResume (s : State) (n : Fin 4) : State := s.modPair n (fun p => { p with resumeReq := true })

/-- SCE_CTRL_APPLY (R344): the shadow is applied at the next publish. -/
def State.sceApply (s : State) (n : Fin 4) : State := s.modPair n (fun p => { p with applyReq := true })

/-- RAMP_LOAD_TIMEOUT: 2 revolutions of G after the load began there is no lock: the load becomes an unload (R353). -/
def State.rampTimeout (s : State) (n : Fin 4) : State :=
  let p := s.pair.get n
  if p.law = 6 ∧ p.rampIn ∧ ¬ s.svdLock n ∧ p.since + s.revs 2 ≤ s.stamp then
    (s.modPair n (fun p => { p with rampIn := false, unloadRun := 0, hand := some (6, true, false, false) })).note
      (Reg.SCE_PAIRn_STATUS n) .fault
  else s

/-- HOLD_RELOCK_TIMEOUT: RELOCK piers of Ln in Hold without lock: Retract, with a Fault event (R353). -/
def State.relockTimeout (s : State) (n : Fin 4) : State :=
  let p := s.pair.get n
  if p.law = 5 ∧ ¬ s.svdLock n ∧
      p.since + max 1 (s.fget (Reg.SCEn_TBL_RELOCK (engX n))) ≤ (s.atb.lanes.get n).spans then
    (s.note (Reg.SCE_PAIRn_STATUS n) .fault).raiseRetract n
  else s

/-! ### The VCM drive -/

/-- The bridge state the loop asks for at a measured current (R361), if any. -/
def State.bridgeWants (s : State) (n : Fin 4) (i : Int) : Option Nat :=
  let c := (s.pair.get n).uv
  let hb : Int := s.fget (Reg.VCDn_LOOP_HB n)
  let uni := s.fbit (Reg.VCDn_LOOP_SW n)
  if i < c - hb then some (if uni ∧ c < 0 then 3 else 1)
  else if c + hb < i then some (if uni ∧ 0 ≤ c then 3 else 2)
  else none

/-- BRIDGE_SWITCH: the measured current of VCDn leaves the band (R361): the bridge changes state, unless it is in its dwell,
which is counted once per deferral; Off in Idle, after an overcurrent and while VCDn_BASIC.ENABLE is 0, Retract in retract. -/
def State.bridgeSwitch (s : State) (n : Fin 4) (i : Int) : State :=
  let p := s.pair.get n
  if p.law = 0 ∨ p.law = 7 ∨ p.ocOff ∨ ¬ s.fbit (Reg.VCDn_BASIC_ENABLE n) then s
  else
    match s.bridgeWants n i with
    | none => s
    | some b =>
      if s.fget (Reg.VCDn_STATUS_BRIDGE n) = b then s
      else if s.cycle < p.changedAt + max 250 (s.fget (Reg.VCDn_LOOP_DWELL n)) then
        if p.deferred then s
        else (s.bump (Reg.VCDn_DWELLS n)).modPair n (fun p => { p with deferred := true })
      else
        let now := s.cycle
        (s.fput (Reg.VCDn_STATUS_BRIDGE n) b).modPair n (fun p => { p with changedAt := now, deferred := false })

/-- VCM_OVERCURRENT_TRIP: |i| exceeds IOC (R362; in Retract it is no bridge that drives the coil, R424): the bridge is Off until the next commit; 8 trips within 64 piers of Ln
retract the actuator and set it Out. -/
def State.vcmTrip (s : State) (n : Fin 4) (i : Int) : State :=
  let p := s.pair.get n
  if i.natAbs ≤ s.fget (Reg.VCDn_ILIM_CFG_IOC n) ∨ p.law = 7 then s
  else
    let s := ((s.fput (Reg.VCDn_STATUS_BRIDGE n) 0).bump (Reg.VCDn_OCTRIPS n)).evt (Reg.VCDn_EVT_STAT_OCTRIP n) .notice
    let (hit, w) := escalate p.trips (s.atb.lanes.get n).spans 64 8
    let s := s.modPair n (fun p => { p with ocOff := true, trips := w })
    if hit then ((s.evt (Reg.VCDn_EVT_STAT_ESCAL n) .fault).setOut n .overcurrent).raiseRetract n else s

/-- COIL_THERMAL_UPDATE: once per span of Ln: the mean and RMS current and the coil voltage measured over the span are
recorded, and the coil temperature and the thermal limit follow (R365, R366). -/
def State.coilUpdate (s : State) (n : Fin 4) (mean : Int) (rms : Nat) (mv : Int) : State :=
  let s := ((s.fput (Reg.VCDn_IMEAS_MEAN n) (sat16 mean)).fput (Reg.VCDn_IMEAS_RMS n) (min rms 65535)).fput
    (Reg.VCDn_VCOIL_MV n) (sat16 mv)
  let t := s.coilTemp n
  let amb := s.tempOf (s.fget (Reg.VCDn_TSEN_SEL n)) s.dpi.tref * 2 ^ 36
  let gs : Int := 32768 * (senseGain (s.fget (Reg.VCDn_SCALE_GAIN n)) : Int) * (Config.shunt : Int)
  let heat := ((rms * rms * 1440000000000 : Nat) * s.coilRes n t * (s.fget (Reg.VCDn_TH1_RTH n) : Int) * 2 ^ 32).tdiv
    (gs * gs * (10 ^ 9 * 16))
  let was := s.thermalLimit n
  let tau : Int := max 1 (s.fget (Reg.VCDn_TAU_SPANS n))
  let t' := t + (amb + heat - t).tdiv tau
  let s := s.modPair n (fun p => { p with tcoil := some t' })
  let imax := s.fget (Reg.VCDn_ILIM_CFG_IMAX n)
  let lim := s.thermalLimit n
  let s := s.bumpIf (decide (lim < imax)) (Reg.VCDn_THSPANS n)
  let s := if lim < imax ∧ was = imax then s.evt (Reg.VCDn_EVT_STAT_THERMAL n) .notice else s
  s.refreshLimit n

/-- RETRACT_PHASE_END: the amplifier that drives VRET drives VPARK, and then nothing: the move phase gives way to the park phase after RET1 spans of G, the park phase ends after RET2: the
bridge goes Off and the pair to Idle (R424). -/
def State.retractPhase (s : State) (n : Fin 4) : State :=
  let p := s.pair.get n
  let now := s.atb.spansG
  let own := s.boot.held ≠ .off
  if p.retract = 1 ∧ (own ∨ p.retractAt + max 1 (s.fget Reg.SMC_RETRACT1_RET1) ≤ now) then
    (s.modPair n (fun p => { p with retract := 2, retractAt := now })).retractDrive n (s.fget Reg.SMC_RETRACT0_VPARK)
  else if p.retract = 2 ∧ (own ∨ p.retractAt + max 1 (s.fget Reg.SMC_RETRACT1_RET2) ≤ now) then
    let s := s.modPair n (fun p => { p with retract := 0, hand := some (7, true, false, false) })
    (((s.enterLaw n 7 0 false).handRecord n false).refreshServo n).retractDrive n 0
  else s

end Sys2Proof.Machine
end

