-- ==== Sys2Proof/Machine/Scheduler.lean ====
section
/-!
DEFINITION. Sys2Proof/Machine/Scheduler.lean: the media scheduler (spec/06_media_scheduler.md) with the band leases and
the routing of spec/05_namespaces_zones_media_map.md (R171 to R180): intake, selection and commit, the hand-over to
TRSn, leases, timeouts, moves, routes and caps.
-/
namespace Sys2Proof.Machine

/-- The actuator of a pair ring's lower-numbered member: ring 4 serves A0 and A2, ring 5 serves A1 and A3 (R194). -/
def ringActuators (r : Fin 6) : Fin 4 × Fin 4 :=
  match r with
  | 0 => (0, 0)
  | 1 => (1, 1)
  | 2 => (2, 2)
  | 3 => (3, 3)
  | 4 => (0, 2)
  | 5 => (1, 3)

/-- Whether customer entry i is valid (R260, R262). -/
def State.entryLoaded (s : State) (i : Nat) : Bool :=
  if i < 32 then (s.rd Reg.TRS_CENTRY_LO).getLsbD i else (s.rd Reg.TRS_CENTRY_HI).getLsbD (i - 32)

/-- The Smipoent default entry of a kind and a recovery step (R265, R478). -/
def defaultEntry (kind step : Nat) : Nat :=
  if kind = 1 ∨ kind = 3 then
    match step with
    | 1 => 4
    | 2 => 4
    | 3 => 5
    | 4 => 6
    | 5 => 7
    | 6 => 7
    | 7 => 8
    | 8 => 9
    | _ => kind - 1
  else kind - 1

/-- The ENTRY that firmware fills from ROUTE (R265): the default when ROUTE holds 0xFF, names a customer entry that is not loaded,
or names a Smipoent entry without a routine (R478). -/
def State.routeEntry (s : State) (d : OpDesc) : Nat :=
  let dflt := defaultEntry d.kind d.step
  let b := s.dpi.route (d.kind - 1) d.step
  if ¬ s.dpiOn ∨ b = 0xFF then dflt
  else if 128 ≤ b then (if s.entryLoaded (b % 64) then b else dflt)
  else if 10 ≤ b then dflt else b

/-- A media operation posted to the tail of an intake ring (R194, R209), with its ENTRY from ROUTE (R265). -/
def State.postOp (s : State) (r : Fin 6) (p : PostedOp) : State :=
  let p := { p with d := { p.d with entry := s.routeEntry p.d } }
  s.modMsc (fun m => { m with rings := m.rings.set r.val ((m.rings.getD r.val []) ++ [p]) })

/-- The actuator a pair-ring operation goes to (R196). -/
def State.intakeChoice (s : State) (a b : Fin 4) (p : PostedOp) : Fin 4 :=
  let lease := if p.d.isWrite ∧ ¬ p.d.noBand then
    s.msc.leases.find? (fun l => decide (l.surf = p.d.surf ∧ l.band = p.d.bandNo)) else none
  match lease with
  | some l => l.holder
  | none =>
    if ¬ s.mayRun a p.d ∧ s.mayRun b p.d then b
    else if ¬ s.mayRun b p.d ∧ s.mayRun a p.d then a
    else if s.slotCount b < s.slotCount a then b
    else if s.slotCount a < s.slotCount b then a
    else
      let dist (n : Fin 4) := max (s.msc.lastCyl.get n) p.d.cyl - min (s.msc.lastCyl.get n) p.d.cyl
      if dist b < dist a then b else a

/-- Whether a descriptor is malformed (R200) on the actuator it goes to. DESIGN CHOICE (notes/assumptions/44.md): KIND 0x00, which R199
neither defines nor reserves, is taken as reserved. -/
def State.badDescriptor (s : State) (n : Fin 4) (d : OpDesc) : Bool :=
  decide (d.kind = 0) || decide (4 < d.kind) || decide (40 ≤ d.head) ||
    decide ((if d.head % 20 < 10 then 0 else 1) ≠ n.val % 2) ||
    decide (s.piers ≤ d.start / 2 ^ 22) || decide (s.piers ≤ d.endA / 2 ^ 22) || decide (d.count = 0) ||
    decide (3071 < d.buf) || (d.customer && ! s.entryLoaded (d.entry % 64))

/-- INTAKE_ACCEPT: the operation at the head of a ring is accepted into a slot of its actuator, rejected when its
descriptor is malformed (R200), ended when no actuator may perform it (R216), or stalls the ring when no slot is free (R197);
operations of the move list enter free slots ahead of it (R215). -/
def State.intakeAccept (s : State) (r : Fin 6) : State :=
  let (a, b) := ringActuators r
  match s.msc.rings[r.val]? with
  | some (p :: rest) =>
    let n0 := if r.val < 4 then a else s.intakeChoice a b p
    let n := if r.val < 4 ∨ s.slotCount n0 < 2048 then n0 else if n0 = a then b else a
    if s.slotCount n < 2048 ∧ s.msc.moveList.any (fun o => decide (o.act = n)) then s
    else if 2048 ≤ s.slotCount n then
      if s.msc.stalls.any (fun x => decide (x.1 = r.val)) then s
      else
        let s := { s with msc := { s.msc with stalls := s.msc.stalls ++ [(r.val, a.val)] } }
        (s.bump (Reg.MSC_STALLn a)).noteInst (Reg.MSC_STALLn a) .trace a
    else
      let idx := s.freeIdx n
      let d := { p.d with slot := n.val * 2048 + idx }
      let s := { s with msc := { s.msc with
        rings := s.msc.rings.set r.val rest, stalls := s.msc.stalls.filter (fun x => decide (x.1 ≠ r.val)) } }
      if s.badDescriptor n d then
        (s.outcome ⟨d.slot, Outc.rejected, false, 0, 0xFFFF, s.stamp⟩).noteInst (Reg.MSC_DISPn n) .notice n
      else
        let o : MscOp := ⟨{ p with d := d }, n, idx, s.msc.nextAcc, s.stamp, decide (4 ≤ r.val), 0, false, false⟩
        let s := { s with msc := { s.msc with ops := s.msc.ops ++ [o], nextAcc := s.msc.nextAcc + 1 } }
        let s := s.refreshUsed n
        if s.deadRoute n o then s.endNoRoute n o else s
  | _ => s

/-! ### Cost and selection -/

/-- The seek time in 1/16 span at a distance, by linear interpolation of actuator n's table, rounding up (R203). -/
def State.seekTime (s : State) (n : Fin 4) (write : Bool) (d : Nat) : Nat :=
  let tm (b : Nat) := if write then s.fget (Reg.MSC_SEEKn_i_TIME_WTIME n b) else s.fget (Reg.MSC_SEEKn_i_TIME_RTIME n b)
  let ds (b : Nat) := s.fget (Reg.MSC_SEEKn_i_DIST_DIST n b)
  let b := ((List.range 64).filter (fun b => decide (ds b ≤ d))).length - 1
  if b = 63 then tm 63
  else
    let w := ds (b + 1) - ds b
    if w = 0 then tm b else tm b + ((tm (b + 1) - tm b) * (d - ds b) + w - 1) / w

/-- The end of a running operation (R202): its END, or, for a WRAP operation that began inside its range, the sector at which it
began (R201). -/
def State.opEnd (s : State) (n : Fin 4) (d : OpDesc) : Nat :=
  let q := (s.trs.get n).psec0
  if d.wrap ∧ q ≠ d.first then s.sectorAngle d q else d.endA

/-- The angle at which actuator n becomes free (R202): the running operation's end, or Ln while it is idle. -/
def State.freeAngle (s : State) (n : Fin 4) : Nat :=
  match s.msc.running.get n with
  | some c => s.opEnd n c.op.p.d
  | none => s.laneAngle n

/-- The cylinder and the head that actuator n will then be on (R202): those of the running operation, or, while it is idle, of its
servo target. -/
def State.freeAt (s : State) (n : Fin 4) : Nat × Option Nat :=
  match s.msc.running.get n with
  | some c => (c.op.p.d.cyl, some (laneHead n c.op.p.d.surf))
  | none =>
    match (s.pair.get n).target with
    | some t => (t.1, some t.2.1)
    | none => (s.msc.lastCyl.get n, (s.atb.lanes.get n).head)

/-- The access cost of an operation on actuator n in decks (R203, R204). -/
def State.accessCost (s : State) (n : Fin 4) (d : OpDesc) : Nat :=
  let (pc, ph) := s.freeAt n
  let dist := max pc d.cyl - min pc d.cyl
  let st := s.seekTime n d.isWrite dist
  let switched := ph ≠ some (laneHead n d.surf)
  let hs := if d.isWrite then s.fget Reg.MSC_HSW_W else s.fget Reg.MSC_HSW_R
  let st := if switched then max st hs else st
  let sd := st * 2 ^ 22 / 16
  let p := s.freeAngle n
  let f := angleFwd s.piers p d.start
  let plain := if sd ≤ f then f else f + revLen s.piers * ((sd - f + revLen s.piers - 1) / revLen s.piers)
  if d.wrap ∧ angleFwd s.piers d.start (angleAdd s.piers p sd) < angleFwd s.piers d.start d.endA then sd else plain

/-- The number of physical sectors in the range of an operation (R245), passed sectors included. -/
def State.rangeLen (s : State) (d : OpDesc) : Nat :=
  max d.count ((angleFwd s.piers d.start d.endA * s.spt d.surf d.rz + revLen s.piers - 1) / revLen s.piers)

/-- Whether two operations overlap in physical sectors (R205): the first sector of one lies in the range of the other, round the
track. -/
def State.opsOverlap (s : State) (a b : OpDesc) : Bool :=
  let spt := max 1 (s.spt a.surf a.rz)
  decide (a.surf = b.surf) && decide (a.cyl = b.cyl) &&
    (decide ((b.first + spt - a.first % spt) % spt < s.rangeLen a) || decide ((a.first + spt - b.first % spt) % spt < s.rangeLen b))

/-- Whether a lease went to the partner in this fabric cycle, for a write that it has committed and not begun: the lower-numbered actuator
that requests the band in the same cycle receives it (R171). -/
def State.leaseTie (s : State) (n : Fin 4) (l : Lease) : Bool :=
  decide (l.holder = partner n) && decide (n < l.holder) && decide (l.got = s.cycle) &&
    (s.msc.commit.get l.holder).any (fun c =>
      c.granted && decide (c.op.p.d.surf = l.surf) && decide (c.op.p.d.bandNo = l.band))

/-- Whether actuator n holds, or could now be granted, the lease an operation needs (R171, R175, R205). DESIGN CHOICE
(notes/assumptions/44.md): in the span of G in which a lease of the band has ended the band is granted to neither actuator; R175 bars the
partner and says nothing of the former holder. -/
def State.leaseFor (s : State) (n : Fin 4) (d : OpDesc) : Bool :=
  if ¬ d.isWrite ∨ d.noBand then true
  else
    match s.msc.leases.find? (fun l => decide (l.surf = d.surf ∧ l.band = d.bandNo)) with
    | some l => decide (l.holder = n) || s.leaseTie n l
    | none =>
      decide (s.msc.leases.length < 1024) &&
        ! s.msc.ended.any (fun e => decide (e = (d.surf, d.bandNo, s.atb.spansG)))

/-- The bound of a read whose first media operation starts now, in decks (R117, R481): of a host read, the time of TLER converted at the
set-point of this moment, rounded up to a deck (R13, R65); with TLER 0, and for every other read, REVMAX revolutions. -/
def State.recoveryBound (s : State) (host : Bool) : Nat :=
  if host ∧ s.host.tler ≠ 0 then (s.host.tler * s.fget Reg.SMC_SETPT_RPM * revLen s.piers + 599) / 600
  else s.dpi.revMax * revLen s.piers

/-- Whether a ladder's bound is reached (R481). -/
def State.boundReached (s : State) (l : Ladder) : Bool := decide (l.since + l.bound ≤ s.linStamp)

/-- Whether an operation is a step of the read ladder whose bound is reached: it is not committed (R481). -/
def State.boundBars (s : State) (p : PostedOp) : Bool :=
  s.recov.ladders.any (fun l => ! l.write && decide (l.step < 9) && (l.p.same p || p.inGroup l) && s.boundReached l)

/-- Whether an operation is eligible on actuator n, but for the write cap (R205). TOFF ≠ 0 bars writes (R480). -/
def State.eligibleNoCap (s : State) (n : Fin 4) (o : MscOp) : Bool :=
  let d := o.p.d
  s.mayRun n d && s.actuatorLoaded n && s.leaseFor n d &&
    (decide (s.xfersRunning < s.fget Reg.MSC_WCG_STATUS_XFER_CAP) || (s.msc.running.get n).isSome) &&
    (! d.isWrite || decide (s.fget (Reg.SCE_PAIRn_TOFF_OFF n) = 0)) &&
    ! s.boundBars o.p &&
    ! (s.slotOps n ++ s.slotOps (partner n) ++ s.msc.moveList).any (fun q => decide (q.acc < o.acc) && s.opsOverlap q.p.d d)

/-- The write-cap condition of R205. -/
def State.underCap (s : State) (d : OpDesc) : Bool := ! d.isWrite || decide (s.writesRunning < s.writeCap)

/-- The overdue age of a priority class in revolutions (MSC_AGE; 0 applied as 1). -/
def State.ageLimit (s : State) (prio : Nat) : Nat :=
  max 1 (match prio % 4 with
    | 0 => s.fget Reg.MSC_AGE_LOW
    | 1 => s.fget Reg.MSC_AGE_MED
    | 2 => s.fget Reg.MSC_AGE_HIGH
    | _ => s.fget Reg.MSC_AGE_URG)

/-- The credit of a priority class in spans (R206). -/
def State.credit (s : State) (prio : Nat) : Nat :=
  match prio % 4 with
  | 0 => s.fget Reg.MSC_CREDIT_LOW
  | 1 => s.fget Reg.MSC_CREDIT_MED
  | _ => s.fget Reg.MSC_CREDIT_HIGH

/-- Whether an operation is overdue (R206): its age in revolutions of G since its acceptance has reached the limit. -/
def State.overdue (s : State) (o : MscOp) : Bool :=
  decide (s.ageLimit o.p.d.prio ≤ (s.linStamp - s.linOf o.since) / revLen s.piers)

/-- The rank of an operation in the order of R206: class (0 overdue, 1 urgent, 2 other), score, acceptance number. -/
def State.selectRank (s : State) (n : Fin 4) (o : MscOp) : Nat × Int × Nat :=
  let acc : Int := s.accessCost n o.p.d
  if s.overdue o then (0, 0, o.acc)
  else if o.p.d.prio % 4 = 3 then (1, acc, o.acc)
  else (2, acc - (s.credit o.p.d.prio * 2 ^ 22 : Nat), o.acc)

/-- Lexicographic order of ranks. -/
def rankLt (a b : Nat × Int × Nat) : Bool :=
  decide (a.1 < b.1) || (decide (a.1 = b.1) && (decide (a.2.1 < b.2.1) ||
    (decide (a.2.1 = b.2.1) && decide (a.2.2 < b.2.2))))

/-- The best of a list of operations under R206. -/
def State.bestOp (s : State) (n : Fin 4) (l : List MscOp) : Option MscOp :=
  l.foldl (fun best o =>
    match best with
    | none => some o
    | some b => if rankLt (s.selectRank n o) (s.selectRank n b) then some o else best) none

/-- The lease of the band that a write needs, if the band has one (R171). -/
def State.leaseOf (s : State) (d : OpDesc) : Option Lease :=
  if ¬ d.isWrite ∨ d.noBand then none else s.msc.leases.find? (fun l => decide (l.surf = d.surf ∧ l.band = d.bandNo))

/-- The expiry of a lease granted or renewed now: LEN piers ahead of G, LEN at least 2 × PIERS (R171, R176). -/
def State.leaseEnd (s : State) : Nat := s.linStamp + max (s.fget Reg.MSC_LEASE_CFG_LEN) (2 * s.piers) * 2 ^ 22

/-- Grants the lease of a free band to a write that actuator n commits or starts; a lease of the partner that a request of the same cycle
takes over goes to An (R171). -/
def State.leaseGrant (s : State) (n : Fin 4) (d : OpDesc) : State :=
  if ¬ d.isWrite ∨ d.noBand ∨ (s.leaseOf d).any (fun l => decide (l.holder = n)) then s
  else
    let e := s.leaseEnd
    let now := s.cycle
    let rest := s.msc.leases.filter (fun (l : Lease) => ! (decide (l.surf = d.surf) && decide (l.band = d.bandNo)))
    let s := { s with msc := { s.msc with leases := rest ++ [(⟨d.surf, d.bandNo, n, e, now⟩ : Lease)] } }
    s.fput Reg.MSC_LEASE_USED_COUNT s.msc.leases.length

/-- Renews the lease of a band when its holder starts another write on it, while no write of the partner waits for that band
(R172). -/
def State.leaseRenew (s : State) (n : Fin 4) (d : OpDesc) : State :=
  let e := s.leaseEnd
  match s.leaseOf d with
    | none => s
    | some l =>
      let partnerWaits := s.msc.ops.any (fun o =>
        decide (o.act ≠ n) && o.p.d.isWrite && ! o.p.d.noBand && decide (o.p.d.surf = d.surf) &&
          decide (o.p.d.bandNo = d.bandNo))
      if l.holder = n ∧ ¬ partnerWaits then
        { s with msc := { s.msc with leases := s.msc.leases.map (fun q =>
            if q.surf = d.surf ∧ q.band = d.bandNo then { q with expiry := max q.expiry e } else q) } }
      else s

/-- Whether the MSC selects for An now (R207): idle, or the running operation's END within SEL_LEAD piers. -/
def State.selectTime (s : State) (n : Fin 4) : Bool :=
  match s.msc.running.get n with
  | none => true
  | some c =>
    decide (angleFwd s.piers (s.laneAngle n) (s.opEnd n c.op.p.d) ≤ max 1 (s.fget Reg.MSC_DISPATCH_SEL_LEAD) * 2 ^ 22)

/-- Whether actuator n selects among its operations one of a slot: of its own slots, or an unpinned destage write that waits in a slot of
the partner, which may not perform it (R216). -/
def State.offered (s : State) (n : Fin 4) (o : MscOp) : Bool :=
  decide (o.act = n) ||
    (decide (o.act = partner n) && o.p.destage && o.p.d.isWrite && ! o.p.d.pin && ! s.mayRun (partner n) o.p.d &&
      decide (s.slotCount n < 2048))

/-- The operation An would commit now: the best eligible one of its slots, or, with STEAL, its partner's pair-ring
operation with the lowest access (R206, R208). The flag says that it is stolen. -/
def State.selectChoice (s : State) (n : Fin 4) : Option (MscOp × Bool) :=
  let own := s.msc.ops.filter (fun o => s.offered n o && s.eligibleNoCap n o && s.underCap o.p.d)
  match s.bestOp n own with
  | some o => some (o, false)
  | none =>
    if s.fget Reg.MSC_DISPATCH_STEAL = 1 ∧ s.slotCount n < 2048 then
      let cand := s.msc.ops.filter (fun o =>
        decide (o.act = partner n) && o.fromPair && s.eligibleNoCap n o && s.underCap o.p.d)
      (cand.foldl (fun best o =>
        match best with
        | none => some o
        | some b => if s.accessCost n o.p.d < s.accessCost n b.p.d then some o else best) none).map (fun o => (o, true))
    else none

/-- Whether an operation queued on actuator n waits for a lease that the partner holds (R171). -/
def State.waitsPartner (s : State) (n : Fin 4) (o : MscOp) : Bool :=
  decide (o.act = n) && (s.leaseOf o.p.d).any (fun l => decide (l.holder ≠ n))

/-- Whether an operation queued on actuator n waits for a free lease entry (R171). -/
def State.waitsEntry (s : State) (n : Fin 4) (o : MscOp) : Bool :=
  decide (o.act = n) && o.p.d.isWrite && ! o.p.d.noBand && (s.leaseOf o.p.d).isNone && decide (1024 ≤ s.msc.leases.length)

/-- The lease requests of An's queued writes that wait are counted, each once (R171, R176). -/
def State.leaseWaits (s : State) (n : Fin 4) : State :=
  let w (o : MscOp) : Bool := s.waitsPartner n o && ! o.leaseWaited
  let f (o : MscOp) : Bool := s.waitsEntry n o && ! o.fullWaited
  let kw := s.msc.ops.countP w
  let kf := s.msc.ops.countP f
  let s := { s with msc := { s.msc with ops := s.msc.ops.map (fun (o : MscOp) =>
    { o with leaseWaited := o.leaseWaited || w o, fullWaited := o.fullWaited || f o }) } }
  (s.addc Reg.MSC_LEASE_WAIT kw).addc Reg.MSC_LEASE_FULL kf

/-- The pair-ring writes of An that wait for a lease of the partner are moved to it while it has a free slot, each a steal of the
partner (R208). -/
def State.leaseMoves (s : State) (n : Fin 4) : State :=
  if s.fget Reg.MSC_DISPATCH_STEAL ≠ 1 then s
  else
    (s.msc.ops.filter (fun o => o.fromPair && s.waitsPartner n o)).foldl (fun s o =>
      let m := partner n
      if 2048 ≤ s.slotCount m then s
      else
        let o' := o.toSlot m (s.freeIdx m)
        let s := { s with msc := { s.msc with ops := s.msc.ops.map (fun (q : MscOp) => if q.acc = o.acc then o' else q) } }
        ((s.bump (Reg.MSC_STEALn m)).refreshUsed n).refreshUsed m) s

/-- OPERATION_SELECT: the MSC selects and commits the next operation of An (R205 to R208): the lease is granted, the seek target goes to
the pair (R354), the committed start is fixed (R213). A selection that passes over an eligible write because of the write cap is counted
(R212). -/
def State.operationSelect (s : State) (n : Fin 4) : State :=
  if (s.msc.commit.get n).isSome ∨ ¬ s.selectTime n ∨ s.heldBack n then s
  else
    let s := (s.leaseWaits n).leaseMoves n
    match s.selectChoice n with
    | none => s
    | some (o, stolen) =>
      let capped := s.msc.ops.any (fun o => s.offered n o && s.eligibleNoCap n o && ! s.underCap o.p.d)
      let s := if capped then s.bump (Reg.MSC_WCG_WAITn n) else s
      let cost := s.accessCost n o.p.d
      let start := s.linStamp + angleFwd s.piers (s.laneAngle n) (s.freeAngle n) + cost
      let late := s.overdue o
      let granted := ! (s.leaseOf o.p.d).any (fun l => decide (l.holder = n))
      let o' := o.toSlot n (if o.act = n then o.idx else s.freeIdx n)
      let s := { s with msc := { s.msc with
        ops := s.msc.ops.filter (fun q => decide (q.acc ≠ o.acc)),
        commit := s.msc.commit.set n (some ⟨o', start, granted⟩), lastCyl := s.msc.lastCyl.set n o.p.d.cyl } }
      let s := if stolen then s.bump (Reg.MSC_STEALn n) else s
      let s := if o.act = n then s else (s.refreshUsed n).refreshUsed (partner n)
      let s := if late then s.bump (Reg.MSC_OVERDUEn n) else s
      let s := (s.bump (Reg.MSC_DISPn n)).addc (Reg.MSC_ACCSUMn n) (cost / 2 ^ 22)
      let s := (s.leaseGrant n o.p.d).refreshRun
      s.seekTarget n o.p.d.cyl (laneHead n o.p.d.surf) o.p.d.isWrite

/-- The operation registers of RWCn for a re-read of the ladder, as they stand from its acceptance: in steps 1 and 2 the wider sync windows
of R282, W being the half-width of the missed attempt, and in steps 1, 2 and 7 the iteration limit (R478; notes/assumptions/41.md). -/
def State.stepRegs (s : State) (n : Fin 4) (p : PostedOp) : State :=
  match s.ladderOf p with
  | none => s
  | some l =>
    if l.write ∨ ¬ p.d.retry then s
    else
      let s := if l.step = 1 then s.fput (Reg.RWCn_OP_WIN_WIN n) (min 120 (2 * l.win))
        else if l.step = 2 then s.fput (Reg.RWCn_OP_WIN_WIN n) (min 120 (4 * l.win)) else s
      if l.step = 1 ∨ l.step = 2 ∨ l.step = 7 then s.fput (Reg.RWCn_OP_ITER_ITER n) 127 else s

/-- TRS_DESCRIPTOR_ACCEPT: the MSC hands the committed descriptor to an Idle TRSn whose HOLD is 0 (R207, R223). A write starts only while
An holds the lease of its band: one that has ended since the commit is requested again, and while An cannot have it the write waits
(R171). A write that starts under a lease granted for an earlier one renews it (R172). -/
def State.descriptorAccept (s : State) (n : Fin 4) : State :=
  match s.msc.commit.get n with
  | none => s
  | some c =>
    if (s.trs.get n).st = .idle ∧ s.fget (Reg.TRSn_CTRL_HOLD n) = 0 ∧ s.msc.running.get n = none ∧ s.leaseFor n c.op.p.d then
      let s := { s with msc := { s.msc with commit := s.msc.commit.set n none,
                                             running := s.msc.running.set n (some c),
                                             tmoStage := s.msc.tmoStage.set n 0 } }
      let now := (s.linStamp, s.recoveryBound true)
      let s := match c.op.p.cmd with
        | some a => s.modCtx a (fun x => { x with readStart := x.readStart.orElse (fun _ => some now) })
        | none => s
      let held := (s.leaseOf c.op.p.d).any (fun l => decide (l.holder = n))
      let s := if held = false then s.leaseGrant n c.op.p.d else if c.granted then s else s.leaseRenew n c.op.p.d
      ((s.pairStartTarget n).trsAccept n c.op.p.d).stepRegs n c.op.p
    else s

/-- LEASE_EXPIRY: the leases whose expiry G has reached end (R175). -/
def State.leaseExpiry (s : State) : State :=
  let now := s.linStamp
  let gone := s.msc.leases.filter (fun (l : Lease) => decide (l.expiry ≤ now))
  let s := { s with msc := { s.msc with
    leases := s.msc.leases.filter (fun (l : Lease) => decide (now < l.expiry)),
    ended := gone.map (fun (l : Lease) => (l.surf, l.band, s.atb.spansG)) ++
      s.msc.ended.filter (fun (e : Nat × Nat × Nat) => decide (e.2.2 = s.atb.spansG)) } }
  s.fput Reg.MSC_LEASE_USED_COUNT s.msc.leases.length

/-- LEASE_REVOKE: an Out or Degraded holder's leases are revoked once TRSn has halted and its write gate is off (R175). -/
def State.leaseRevoke (s : State) (n : Fin 4) : State :=
  let a := s.msc.avail.get n
  let t := s.trs.get n
  if (a = .out ∨ a = .degraded) ∧ t.st ≠ .running ∧ t.st ≠ .held ∧ ¬ t.wg then
    let gone := s.msc.leases.filter (fun (l : Lease) => decide (l.holder = n))
    let s := { s with msc := { s.msc with
      leases := s.msc.leases.filter (fun (l : Lease) => decide (l.holder ≠ n)),
      ended := gone.map (fun (l : Lease) => (l.surf, l.band, s.atb.spansG)) ++
        s.msc.ended.filter (fun (e : Nat × Nat × Nat) => decide (e.2.2 = s.atb.spansG)) } }
    (s.addc Reg.MSC_LEASE_REVOKE gone.length).fput Reg.MSC_LEASE_USED_COUNT s.msc.leases.length
  else s

/-- ABORT_PENDING_TIMEOUT: TMO revolutions after TRSn accepted it, an operation that has not ended gets abort pending
(R214). -/
def State.abortTimeout (s : State) (n : Fin 4) : State :=
  let t := s.trs.get n
  let tmo := max 2 (s.fget Reg.MSC_DISPATCH_TMO)
  if (t.st = .running ∨ t.st = .held) ∧ s.linOf t.acceptStamp + tmo * revLen s.piers ≤ s.linStamp then
    let s := { s with msc := { s.msc with tmoStage := s.msc.tmoStage.set n 1 } }
    s.trsAbort n
  else s

/-- FORCED_STOP_TIMEOUT: one revolution later the MSC forces TRSn to stop with outcome Timeout; three forced stops within
64 revolutions of G degrade the actuator (R214). -/
def State.forcedTimeout (s : State) (n : Fin 4) : State :=
  let t := s.trs.get n
  let tmo := max 2 (s.fget Reg.MSC_DISPATCH_TMO)
  if (t.st = .running ∨ t.st = .held) ∧ s.linOf t.acceptStamp + (tmo + 1) * revLen s.piers ≤ s.linStamp then
    let s := s.forceStop n Outc.timeout
    let s := (s.bump (Reg.MSC_TMOn n)).noteInst (Reg.MSC_TMOn n) .fault n
    let (hit, w) := escalate (s.msc.forcedWin.get n) s.stamp (s.revs 64) 3
    let s := { s with msc := { s.msc with forcedWin := s.msc.forcedWin.set n w } }
    if hit then (s.escDegraded n).noteInst (Reg.MSC_TMOn n) .fault n else s
  else s

/-- MOVE_LIST_ENTRY: of the operations waiting in the move list for an actuator with a free slot, the one accepted first enters it,
ahead of any intake (R215). -/
def State.moveListEntry (s : State) : State :=
  let ready := s.msc.moveList.filter (fun o => decide (s.slotCount o.act < 2048))
  match ready.foldl (fun (b : Option MscOp) o => match b with | none => some o | some x => if o.acc < x.acc then some o else some x) none with
  | none => s
  | some o =>
    let o' := o.toSlot o.act (s.freeIdx o.act)
    let s := { s with msc := { s.msc with moveList := s.msc.moveList.filter (fun q => decide (q.acc ≠ o.acc)),
                                           ops := s.msc.ops ++ [o'] } }
    s.refreshUsed o.act

/-- Whether a destage write has a route (R216): an actuator on which it may run may perform it. -/
def State.hasRoute (s : State) (o : MscOp) : Bool :=
  s.mayRun o.act o.p.d || (! o.p.d.pin && s.mayRun (partner o.act) o.p.d)

/-- DESTAGE_ROUTE_CHECK: at a pier boundary of G every destage write's route is judged; a write that has had none for
MSC_DESTAGE.BOUND times PIERS boundaries ends with No route and becomes a deferred error of cause No actuator
(R216). -/
def State.destageRouteCheck (s : State) : State :=
  let bound := max 1 (s.fget Reg.MSC_DESTAGE_BOUND) * s.piers
  let ops := s.msc.ops.map (fun o =>
    if o.p.destage ∧ o.p.d.isWrite then { o with noRoute := if s.hasRoute o then 0 else o.noRoute + 1 } else o)
  let dead := ops.filter (fun o => decide (bound ≤ o.noRoute))
  let s := { s with msc := { s.msc with ops := ops.filter (fun o => decide (o.noRoute < bound)) } }
  let s := dead.foldl (fun s o => s.refreshUsed o.act) s
  dead.foldl (fun s o =>
    (s.outcome ⟨o.p.d.slot, Outc.noRoute, false, 0, 0xFFFF, s.stamp⟩).routeFailed o.p) s

/-- The margin cap a sensed voltage gives (R211), thresholds in 20 mV units; a threshold of 0 is never crossed. -/
def marginCap (mv t1 t2 t3 : Nat) : Nat :=
  let below (t : Nat) := decide (t ≠ 0) && decide (mv < t * 20)
  if below t3 then 1 else if below t2 then 2 else if below t1 then 3 else 4

/-- One evaluation of a margin cap (R211): it falls at once; it rises by one step after 64 spans at least 200 mV above the
threshold of that step. -/
def marginStep (mv t1 t2 t3 cap rise : Nat) : Nat × Nat :=
  let now := marginCap mv t1 t2 t3
  if now < cap then (now, 0)
  else
    let t := if cap = 1 then t3 else if cap = 2 then t2 else t1
    if cap < 4 ∧ t * 20 + 200 ≤ mv then
      if 63 ≤ rise then (cap + 1, 0) else (cap, rise + 1)
    else (cap, 0)

/-- MARGIN_CAP_EVAL: once per span of G both margin caps are evaluated from the PMU's sensed voltages (R211). -/
def State.marginEval (s : State) : State :=
  let (v, vr) := marginStep (s.fget Reg.PMU_VMOT_MV) (s.fget Reg.MSC_WCG_VMOT_T1) (s.fget Reg.MSC_WCG_VMOT_T2)
    (s.fget Reg.MSC_WCG_VMOT_T3) (s.fget Reg.MSC_WCG_STATUS_VMOT_CAP) s.msc.vmotRise
  let (a, ar) := marginStep (s.fget Reg.PMU_VDDA_MV) (s.fget Reg.MSC_WCG_VDDA_T1) (s.fget Reg.MSC_WCG_VDDA_T2)
    (s.fget Reg.MSC_WCG_VDDA_T3) (s.fget Reg.MSC_WCG_STATUS_VDDA_CAP) s.msc.vddaRise
  let s := { s with msc := { s.msc with vmotRise := vr, vddaRise := ar } }
  ((s.fput Reg.MSC_WCG_STATUS_VMOT_CAP v).fput Reg.MSC_WCG_STATUS_VDDA_CAP a).refreshRun

/-- The share of one dirty extent in the estimate of R217, in decks: surface, recording zone and sector count; none when no actuator may
write the surface. -/
def State.extentDecks (s : State) (surf rz cnt : Nat) : Nat :=
  let rl := revLen s.piers
  let ws := ([0, 1, 2, 3] : List (Fin 4)).filter (fun n => decide (n.val % 2 = surf / 10) && s.canWrite n surf)
  match ws with
  | [] => 0
  | n :: _ =>
    let tacc := s.seekTime n true (s.dpi.lastCyl surf / 3) * 2 ^ 22 / 16 + rl / 2
    let spt := s.spt surf rz
    let txfr := if spt = 0 then 0 else cnt * rl / spt
    (tacc + txfr) / ws.length

/-- A distance in decks as milliseconds at the current set-point, rounded up (R65, R217). -/
def State.decksMs (s : State) (d : Nat) : Nat :=
  let rpm := s.fget Reg.SMC_SETPT_RPM
  if rpm = 0 then 0 else (d * 60 * 1000 + s.piers * rpm * 2 ^ 22 - 1) / (s.piers * rpm * 2 ^ 22)

/-- DESTAGE_ESTIMATE_UPDATE: MSC_DESTAGE_EST is recomputed over the dirty extents (R217, R65). An extent is given by its
surface, recording zone and sector count, as the translation layer places it. -/
def State.destageEstimate (s : State) (exts : List (Nat × Nat × Nat)) : State :=
  let est := exts.foldl (fun acc e => acc + s.extentDecks e.1 e.2.1 e.2.2) 0
  s.fput Reg.MSC_DESTAGE_EST_MS (min (s.decksMs est) 0xFFFFFFFF)

end Sys2Proof.Machine
end

