-- ==== Sys2Proof/Machine/Smc.lean ====
section
/-!
DEFINITION. Sys2Proof/Machine/Smc.lean: the spindle motor controller (spec/12_spindle_motor.md): starts, crossings, the speed
loop, hand-overs, catch, braking, the chopper and motor-supply loss.
-/
namespace Sys2Proof.Machine

/-- A change of the SMC beside its registers. -/
def State.modSmc (s : State) (f : SmcSt → SmcSt) : State := { s with smc := f s.smc }

/-- Whether CHOP or OVP is latched. -/
def State.smcLatched (s : State) : Bool := s.fbit Reg.SMC_FAULT_CHOP || s.fbit Reg.SMC_FAULT_OVP
/-- HOVER.HSH as applied. -/
def State.smcHsh (s : State) : Nat := max 1 (s.fget Reg.SMC_HOVER_HSH)
/-- An angle of 32 bits read as signed. -/
def angle32 (x : Int) : Int := (BitVec.ofInt 32 x).toInt

/-! ### The drive (R397, R400, R404)

What the bridge is driven with, formed from the state and sent out at each change: the pins of the power stage hold nothing of their own. -/

/-- The drive step of an electrical angle (R400). -/
def driveStep (theta : Nat) : Nat := 6 * ((theta + 0x15555555) % 2 ^ 32) / 2 ^ 32

/-- The phases (0 A, 1 B, 2 C) of a drive step: high side, low side, floating (R400). -/
def stepPhases (q : Nat) : Nat × Nat × Nat :=
  match q with
  | 0 => (2, 1, 0)
  | 1 => (0, 1, 2)
  | 2 => (0, 2, 1)
  | 3 => (1, 2, 0)
  | 4 => (1, 0, 2)
  | _ => (2, 0, 1)

/-- PWM.PER as applied (R428). -/
def State.pwmPeriod (s : State) : Nat := max 2000 (s.fget Reg.SMC_PWM_PER)

/-- The on-time of phase p in a PWM period of sinusoidal drive, in fabric cycles (R400). -/
def State.phaseDuty (s : State) (p : Nat) : Nat :=
  let half : Int := s.pwmPeriod / 2
  let vm : Int := s.fget Reg.SMC_VMOT_MV
  let aEff : Int := if vm = 0 then 0 else (s.smc.amp * 12000).tdiv vm
  let adv := signed16 (s.fget Reg.SMC_MOTOR1_ADV)
  let idx := ((((s.thetaApplied : Int) + adv * 2 ^ 16 - p * 0x55555555) % 2 ^ 32) / 2 ^ 24).toNat
  let wave := signed16 (s.fget (Reg.SMC_WAVE_i_V idx))
  (max 0 (min (s.pwmPeriod : Int) (half + half * aEff * wave / 2 ^ 30))).toNat

/-- The bridge current above which an on-time ends early (R397, R404): ISTART in attempts 1 and 2 of a start, IBOOST in attempts
3 and 4, IMAX otherwise. -/
def State.bridgeLimit (s : State) : Nat :=
  let st := s.smcState
  if 1 ≤ st ∧ st ≤ 3 then
    if s.fget Reg.SMC_STATUS_ATTEMPT ≤ 2 then s.fget Reg.SMC_ISTART_ISTART else s.fget Reg.SMC_ISTART_IBOOST
  else s.fget Reg.SMC_ILIM_IMAX

/-- What drives the bridge (R400, R402, R404). DEDUCED: in Align and Open-loop, for which no rule gives a duty, the current limit alone
shapes the on-time. -/
def State.bridge (s : State) : Bridge :=
  let lim := s.bridgeLimit
  let (h, l, f) := stepPhases (s.smc.step % 6)
  match s.smcState with
  | 1 => .sense lim
  | 2 => .step h l f none lim
  | 3 => .step h l f none lim
  | 4 => .step h l f (some s.smc.amp) lim
  | 5 => .sine (s.phaseDuty 0) (s.phaseDuty 1) (s.phaseDuty 2) lim
  | 6 => .sine (s.phaseDuty 0) (s.phaseDuty 1) (s.phaseDuty 2) lim
  | 8 => .brake
  | _ => .off

/-- The bridge takes its drive. -/
def State.driveBridge (s : State) : State := s.emit (.bridge s.bridge)

/-! ### Write inhibit and states (R402, R417) -/

/-- The spindle's write-inhibit request set or withdrawn (R417). -/
def State.smcWinh (s : State) (on : Bool) : State :=
  let s := s.fput Reg.SMC_STATUS_WINH (if on then 1 else 0)
  lanes.foldl (fun s n => s.winhSet n 5 on) s

/-- Outside Run the inhibit is requested (R417). -/
def State.smcWinhRefresh (s : State) : State := if s.smcState ≠ 6 then s.smcWinh true else s

/-- The angle source of a state (R402). -/
def smcSource (st : Nat) : Nat := if st = 4 then 1 else if st = 5 then 2 else if st = 6 then 3 else 0

/-- The SMC enters a state (R402): the source follows; leaving Run ends Locked (R411), entering Sine forgets ROT_OFF and
begins a learning window (R413); with Run the first loads are over (R585). -/
def State.smcSet (s : State) (st : Nat) : State :=
  let old := s.smcState
  let s := (s.fput Reg.SMC_STATUS_STATE st).fput Reg.SMC_STATUS_SRC (smcSource st)
  let s := if old = 6 ∧ st ≠ 6 ∧ s.fget Reg.SMC_STATUS_SYNC = 1 then
      ((s.fput Reg.SMC_STATUS_SYNC 2).fput Reg.SMC_STATUS_PHOK 0).modSmc (fun m => { m with syncRun := 0 })
    else s
  let s := if st = 5 then (s.fput Reg.SMC_STATUS_ROTOK 0).modSmc (fun m => { m with learn := [] }) else s
  let s := s.modSmc (fun m => { m with clean := 0, cogW := 0, cog := 0, commAt := none })
  let s := if st = 6 then ({ s with pow := { s.pow with firstAct := Duo.all none } }).bootStep 11 else s
  s.smcWinhRefresh.driveBridge

/-! ### Hand-overs (R412) -/

/-- The amplitude that counts as last applied when Six-step hands over to Sine (R412). -/
def dutyToAmp (d : Int) : Int := min 32767 (d * 41722 / 2 ^ 15)

/-- A hand-over from the angle and the output last applied to a state (R412): mθ is the angle difference, the integrator is
set at the first loop run so that its output equals the last one, and the hand-over is recorded. -/
def State.smcHandOver (s : State) (st thetaOut : Nat) (amp : Int) : State :=
  let old := s.smcState
  let s := s.smcSet st
  let mt := angle32 ((thetaOut : Int) - (s.thetaOf st : Int))
  let s := s.modSmc (fun m => { m with mTheta := mt, mA := 0, hoOut := some amp, amp := amp })
  (s.bump Reg.SMC_HOVERS).evtC Reg.SMC_EVT_STAT_HOVER .trace none
    (leBytes old 1 ++ leBytes st 1 ++ leBytes 0 2 ++ leBytes (BitVec.ofInt 32 mt).toNat 4 ++
      leBytes (BitVec.ofInt 16 amp).toNat 2)

/-! ### Starts and stops (R403 to R407, R419) -/

/-- A start attempt begins (R404): attempts 1 and 3 Detect, 2 and 4 Align. -/
def State.smcAttempt (s : State) (k : Nat) : State :=
  let s := (s.bump Reg.SMC_STARTS).fput Reg.SMC_STATUS_ATTEMPT k
  let now := s.atb.spansG
  let s := s.modSmc (fun m =>
    { m with between := false, redetect := false, revCount := 0, fwdRun := 0, alignAt := now, detAt := s.cycle, step := 0,
             changeSpan := now })
  s.smcSet (if k % 2 = 1 then 1 else 2)

/-- A start begins at attempt 1 (R403, R404). -/
def State.smcBegin (s : State) : State :=
  let now := s.atb.spansG
  (s.modSmc (fun m => { m with starting := true, startSpan := now, stopping := false, iso := true })).smcAttempt 1

/-- A start ends without the spindle at speed. -/
def State.smcNoStart (s : State) : State :=
  (s.modSmc (fun m => { m with starting := false, between := false, redetect := false })).fput
    Reg.SMC_STATUS_ATTEMPT 0

/-- The end of attempt 4, or of a start at its bound (R404, R407): Off, SPINFAIL. -/
def State.smcSpinFail (s : State) : State :=
  let s := ((s.smcNoStart).smcSet 0).fput Reg.SMC_FAULT_SPINFAIL 1
  ((s.bump Reg.SMC_STARTFAIL).evt Reg.SMC_EVT_STAT_STARTFAIL .fault).spinUpFailed

/-- An attempt is aborted (R404): Short-brake until stopped, or, at attempt 4, the end of the start. -/
def State.smcAbort (s : State) : State :=
  let s := (s.bump Reg.SMC_ABORTS).note Reg.SMC_ABORTS .notice
  if 4 ≤ s.fget Reg.SMC_STATUS_ATTEMPT then s.smcSpinFail
  else (s.smcSet 8).modSmc (fun m => { m with between := true })

/-- Open-loop begins at a drive step (R405, R406). -/
def State.smcOpenLoop (s : State) (step : Nat) : State :=
  let now := s.atb.spansG
  (s.modSmc (fun m =>
    { m with step := step % 6, olSpan := now, olAt := now, olInt := s.fget Reg.SMC_START2_OLINT, fwdRun := 0 })).smcSet 3

/-- Entry to Catch (R416): every bridge FET off, 18 crossings to come, a Fault event. -/
def State.smcCatch (s : State) : State :=
  let now := s.atb.spansG
  ((s.smcSet 7).modSmc (fun m =>
    { m with catchAt := now, catchRun := 0, stopping := false, between := false, redetect := false,
             iso := true })).evt
    Reg.SMC_EVT_STAT_CATCH .fault

/-- Whether the spindle is stopped (R407). -/
def State.smcStopped (s : State) : Bool :=
  decide (s.smc.changeSpan + max 1 (s.fget Reg.SMC_START1_STOPWAIT) ≤ s.atb.spansG)

/-- SMC_CTRL_START (R403): from Off, or from Short-brake, Coast or Rectify, with no latched CHOP or OVP; in Sine or Run a
ramp to 0 ends; anywhere else it has no effect and is noticed. -/
def State.smcStart (s : State) : State :=
  let st := s.smcState
  if (st = 5 ∨ st = 6) ∧ s.smc.stopping then s.modSmc (fun m => { m with stopping := false })
  else if s.smcLatched then s.note Reg.SMC_CTRL .notice
  else if st = 0 then s.smcBegin
  else if st = 8 ∨ st = 9 ∨ (st = 10 ∧ 9000 ≤ s.fget Reg.PMU_VMOT_MV) then
    if s.smcStopped then s.smcBegin
    else
      let now := s.atb.spansG
      (s.modSmc (fun m => { m with starting := true, startSpan := now })).smcCatch
  else s.note Reg.SMC_CTRL .notice

/-- SMC_CTRL_STOP under BRAKE.MODE (R403, R419). -/
def State.smcStop (s : State) : State :=
  let st := s.smcState
  let mode := s.fget Reg.SMC_BRAKE_MODE % 3
  let driving := (1 ≤ st ∧ st ≤ 7)
  if mode = 0 then
    if st = 5 ∨ st = 6 then (s.smcNoStart).modSmc (fun m => { m with stopping := true }) else s
  else if driving then (s.smcNoStart).smcSet (if mode = 1 then 8 else 9)
  else s

/-- SMC_SETPT_WRITE (R409, R411): refused outside 5,400 to 7,200 rpm or with SRC 3; another source than VSYNC makes the sync
state Free-run with trim 0. -/
def State.smcSetpt (s : State) (w : Nat) : State :=
  let rpm := w % 65536
  let src := w / 65536 % 4
  if rpm < 5400 ∨ 7200 < rpm ∨ src = 3 then s.note Reg.SMC_SETPT .notice
  else
    let s := (s.fput Reg.SMC_SETPT_RPM rpm).fput Reg.SMC_SETPT_SRC src
    if src = 1 then s
    else
      (((s.fput Reg.SMC_STATUS_SYNC 0).fput Reg.SMC_STATUS_PHOK 0).fput Reg.SMC_TRIM_TRIM 0).modSmc
        (fun m => { m with trimI := 0, syncRun := 0 })

/-- The recorded peaks of steps 0 to 5. -/
def peaks (p0 p1 p2 p3 p4 p5 : Nat) (k : Fin 6) : Nat :=
  match k with
  | 0 => p0
  | 1 => p1
  | 2 => p2
  | 3 => p3
  | 4 => p4
  | 5 => p5

/-- DETECT_COMPLETE: inductive sensing has recorded the peak current of each step, six times 8,000 fabric cycles after it began (R405).
DESIGN CHOICE: of equal highest peaks the first step counts as k*, which matters for DETMIN 0 only. -/
def State.detectComplete (s : State) (peak : Fin 6 → Nat) : State :=
  if s.smcState ≠ 1 ∨ s.cycle < s.smc.detAt + 48000 then s
  else
    let ks : List (Fin 6) := [0, 1, 2, 3, 4, 5]
    let best := ks.foldl (fun b k => if peak b < peak k then k else b) 0
    let c1 := peak best
    let c2 := (ks.filter (fun k => decide (k ≠ best))).foldl (fun b k => max b (peak k)) 0
    if s.fget Reg.SMC_START_DETMIN * c1 ≤ (c1 - c2) * 256 then
      s.smcOpenLoop (best.val + s.fget Reg.SMC_MOTOR1_DETOFF)
    else
      let now := s.atb.spansG
      (s.modSmc (fun m => { m with step := 0, alignAt := now })).smcSet 2

/-- ALIGN_END: step 0 has been held for ALIGNT spans of G (R406). -/
def State.alignEnd (s : State) : State :=
  if s.smcState = 2 ∧ s.smc.alignAt + max 1 (s.fget Reg.SMC_START_ALIGNT) ≤ s.atb.spansG then s.smcOpenLoop 2 else s

/-- OPEN_LOOP_STEP: an interval ends (R406): the step advances, the next interval is 15/16 of it, down to OLMIN. -/
def State.openLoopStep (s : State) : State :=
  let m := s.smc
  if s.smcState = 3 ∧ m.olAt + m.olInt ≤ s.atb.spansG then
    let now := s.atb.spansG
    let next := max (max 1 (s.fget Reg.SMC_START2_OLMIN)) (m.olInt * 15 / 16)
    (s.modSmc (fun m => { m with step := (m.step + 1) % 6, olAt := now, olInt := next })).driveBridge
  else s

/-- OPEN_LOOP_BOUND_EXPIRY: OLMAX × 16 spans of open-loop without six forward crossings (R404). -/
def State.openLoopBound (s : State) : State :=
  if s.smcState = 3 ∧ s.smc.olSpan + s.fget Reg.SMC_START1_OLMAX * 16 ≤ s.atb.spansG then s.smcAbort else s

/-- START_BOUND_EXPIRY: a start that has not reached its set-point in SPINMAX × 1,024 spans of G (R407). -/
def State.startBound (s : State) : State :=
  if s.smc.starting ∧ s.smc.startSpan + s.fget Reg.SMC_HOVER_SPINMAX * 1024 ≤ s.atb.spansG then
    ((s.bump Reg.SMC_ABORTS).note Reg.SMC_ABORTS .notice).smcSpinFail
  else s

/-- STANDSTILL_DETECT: no comparator change for STOPWAIT spans of G (R403, R407). -/
def State.standstill (s : State) : State :=
  let st := s.smcState
  if ¬ s.smcStopped ∨ (st ≠ 8 ∧ st ≠ 9) then s
  else if s.smcLatched then (s.smcNoStart).smcSet 0
  else if st = 8 ∧ s.smc.between then s.smcAttempt (s.fget Reg.SMC_STATUS_ATTEMPT + 1)
  else if st = 8 ∧ s.smc.redetect then s.smcBegin
  else (s.modSmc (fun m => { m with stopping := false })).smcSet 0

/-! ### Crossings (R398, R399, R403, R416) -/

/-- The speed that k crossing intervals of a total length give, in 1/8 rpm (R408). -/
def State.crossSpeed (s : State) (k total : Nat) : Nat :=
  let d := 6 * s.dpi.poles * total
  if d = 0 then 0 else 480000000000 * k / d

/-- A catch fails (R416). -/
def State.catchFail (s : State) : State :=
  let s := (s.bump Reg.SMC_CATCHFAIL).fput Reg.SMC_FAULT_CATCHFAIL 1
  ((s.evt Reg.SMC_EVT_STAT_CATCH .fault).smcSet 8).modSmc (fun m => { m with redetect := true, between := false })

/-- A catch completes (R416): the angle of the last crossing, the amplitude that draws no current, Sine with the target at
the measured speed. -/
def State.catchDone (s : State) (speed : Nat) : State :=
  let vm := s.fget Reg.SMC_VMOT_MV
  let amp : Int := if vm = 0 then 0 else
    ((s.fget Reg.SMC_MOTOR0_KE * speed * 32768 / (vm * 16000) : Nat) : Int)
  let s := (s.bump Reg.SMC_CATCHES).smcHandOver 5 s.thetaCross amp
  ((s.fput Reg.SMC_SPEED_SPEED speed).fput Reg.SMC_SPEED_TARGET speed).modSmc (fun m => { m with targetFrac := 0 })

/-- BEMF_CROSSING: a comparator change of kind 0 to 5 (A rising, C falling, B rising, A falling, C rising, B falling), `edge` fabric
cycles after the last commutation or PWM edge, has held for `held` of them: it is accepted outside the blanking once it has held for
100 (R398, R399). -/
def State.bemfCrossing (s : State) (kind : Fin 6) (edge held : Nat) : State :=
  if edge < s.fget Reg.SMC_MOTOR1_BLANK ∨ held < 100 then s
  else
  let m := s.smc
  let st := s.smcState
  let now := s.atb.spansG
  let fwd := m.lastKind.any (fun k => decide (kind.val = (k + 1) % 6))
  let rev := m.lastKind.any (fun k => decide (kind.val = (k + 5) % 6))
  let iv := s.cycle - m.lastCross
  let s := s.modSmc (fun m =>
    { m with changeSpan := now, lastKind := some kind.val, lastCross := s.cycle, ints := (iv :: m.ints).take 18 })
  match st with
  | 1 =>
    if rev then
      let s := s.modSmc (fun m => { m with revCount := m.revCount + 1 })
      if s.fget Reg.SMC_START_BACKMAX < s.smc.revCount then s.smcAbort else s
    else s
  | 3 =>
    if rev then
      let s := (s.bump Reg.SMC_BACKJ).note Reg.SMC_BACKJ .trace
      let s := s.modSmc (fun m => { m with revCount := m.revCount + 1, fwdRun := 0 })
      if s.fget Reg.SMC_START_BACKMAX < s.smc.revCount then s.smcAbort else s
    else if fwd then
      if m.fwdRun + 1 < 6 then s.modSmc (fun m => { m with fwdRun := m.fwdRun + 1 })
      else
        let speed := s.crossSpeed 6 (s.smc.ints.take 6).sum
        let s := (s.smcSet 4).modSmc (fun m =>
          { m with fwdRun := 0, commAt := some (s.cycle + iv / 2), targetFrac := 0, acc := 0, mA := 0, mTheta := 0 })
        (s.fput Reg.SMC_SPEED_SPEED speed).fput Reg.SMC_SPEED_TARGET speed
    else s.modSmc (fun m => { m with fwdRun := 0 })
  | 4 =>
    if rev then
      ((s.bump Reg.SMC_BACKJ).note Reg.SMC_BACKJ .trace).modSmc (fun m => { m with revCount := m.revCount + 1 })
    else if fwd then s.modSmc (fun m => { m with commAt := some (s.cycle + iv / 2) })
    else s
  | 7 =>
    if rev then s.catchFail
    else if fwd then
      let k := m.catchRun + 1
      let s := s.modSmc (fun m => { m with catchRun := k })
      if k < 18 then s
      else
        let speed := s.crossSpeed 17 (s.smc.ints.take 17).sum
        if speed < s.fget Reg.SMC_CATCH_CATCHMIN * 8 then s.catchFail else s.catchDone speed
    else s
  | _ => s

/-- COMMUTATION: half the previous crossing interval after a forward crossing, six-step drive commutates (R401). -/
def State.commutation (s : State) : State :=
  match s.smc.commAt with
  | some c =>
    if s.smcState = 4 ∧ c ≤ s.cycle then (s.modSmc (fun m => { m with step := (m.step + 1) % 6, commAt := none })).driveBridge
    else s
  | none => s

/-- CATCH_TIMEOUT: the 18 crossings have not arrived CATCHMAX spans of G after entry (R416). -/
def State.catchTimeout (s : State) : State :=
  if s.smcState = 7 ∧ s.smc.catchAt + s.fget Reg.SMC_CATCH_CATCHMAX ≤ s.atb.spansG then s.catchFail else s

/-! ### Set-point and sync (R409 to R411) -/

/-- SPREF_SAMPLE: once per span of G the speed reference is digitised and averaged (R410). -/
def State.sprefSample (s : State) (code : BitVec 12) : State :=
  if s.atb.spansG ≤ s.smc.sprefAt then s
  else
  let l := (code.toNat :: s.smc.spref).take 64
  let was := s.fget Reg.SMC_SPREF_IN_CODE
  let avg := l.sum / l.length
  let s := (s.modSmc (fun m => { m with spref := l, sprefAt := s.atb.spansG })).fput Reg.SMC_SPREF_IN_CODE avg
  let lo := s.fget Reg.SMC_SPREF_LO
  let hi := s.fget Reg.SMC_SPREF_HI
  if avg < 16 then
    if s.fget Reg.SMC_SETPT_SRC = 2 ∧ (16 ≤ was ∨ s.smc.spref.length ≤ 1) then s.note Reg.SMC_SPREF_IN .notice else s
  else s.modSmc (fun m => { m with sprefKept := lo + (hi - lo) * avg / 4095 })

/-- The set-point before clamping, in 1/8 rpm (R409, R410). -/
def State.rawSetpt (s : State) : Nat :=
  let rpm := s.fget Reg.SMC_SETPT_RPM * 8
  match s.fget Reg.SMC_SETPT_SRC with
  | 1 => match s.smc.vsyncP with | some p => if p = 0 then rpm else 480000000000 / p | none => rpm
  | 2 => if s.smc.sprefKept = 0 then rpm else s.smc.sprefKept * 8
  | _ => rpm

/-- The set-point in 1/8 rpm, clamped to 5,400 to 7,200 rpm (R409). -/
def State.setpt (s : State) : Nat := max 43200 (min 57600 s.rawSetpt)

/-- STATUS.SPCLAMP (R409, R410). -/
def State.spClamp (s : State) : Bool :=
  let src := s.fget Reg.SMC_SETPT_SRC
  (decide (src = 1 ∨ src = 2) && decide (s.setpt ≠ s.rawSetpt)) ||
    (decide (src = 2) && decide (s.fget Reg.SMC_SPREF_IN_CODE < 16))

/-- An accepted VSYNC (R409): the interval between the last two gives the set-point. -/
def State.smcVsync (s : State) (arrival : Nat) : State :=
  let p := match s.smc.vsyncAt with | some a => some (arrival - a) | none => s.smc.vsyncP
  s.modSmc (fun m => { m with vsyncAt := some arrival, vsyncP := p })

/-- The trim update at a latched ATB_SYNC_ERR (R411): Locked is entered or kept in Run with source VSYNC. DEDUCED: the latch that enters Locked
updates the trim too; Holdover follows Locked only, and outlasts an entry to Run. -/
def State.smcSyncLatch (s : State) : State :=
  if s.fget Reg.SMC_SETPT_SRC ≠ 1 ∨ s.smcState ≠ 6 then s
  else
    let err := (s.rd Reg.ATB_SYNC_ERR).toInt
    let e8 := err / 2 ^ 14
    let tmax : Int := s.fget Reg.SMC_PHLOOP_TRIMMAX
    let lim (x : Int) : Int := max (-tmax) (min tmax x)
    let ti := lim (s.smc.trimI - e8 * (s.fget Reg.SMC_PHLOOP_KIH : Int) / 2 ^ 12)
    let tr := lim (ti - e8 * (s.fget Reg.SMC_PHLOOP_KPH : Int) / 2 ^ 8)
    let good := decide (err.natAbs ≤ s.fget Reg.SMC_SYNCCFG_LOCKTOL * 2 ^ 22)
    let run := if good then s.smc.syncRun + 1 else 0
    let s := s.modSmc (fun m => { m with trimI := ti, syncRun := run })
    let s := (s.fput Reg.SMC_STATUS_SYNC 1).fput Reg.SMC_TRIM_TRIM (sat16 tr)
    s.fput Reg.SMC_STATUS_PHOK (if max 1 (s.fget Reg.SMC_SYNCCFG_LOCKN) ≤ run then 1 else 0)

/-- The VCH reports holdover (R411, R534). -/
def State.smcSyncHoldover (s : State) : State :=
  if s.fget Reg.SMC_STATUS_SYNC = 1 then
    ((s.fput Reg.SMC_STATUS_SYNC 2).fput Reg.SMC_STATUS_PHOK 0).modSmc (fun m => { m with syncRun := 0 })
  else s

/-- The servo angle is lost in Run (R59, R403): Sine while the observer is trusted, otherwise Catch. -/
def State.smcAngleLost (s : State) : State :=
  if s.smcState ≠ 6 then s
  else if s.fbit Reg.SMC_STATUS_OBSLOCK then s.smcHandOver 5 s.thetaApplied s.smc.amp
  else s.smcCatch

/-! ### The speed loop (R408 to R417) -/

/-- The next target in 1/64 of 1/8 rpm (R409): it moves towards the set-point, or to 0 while stopping, by at most ACC or DEC
per 64 loop runs. -/
def State.nextTarget (s : State) : Int :=
  let goal : Int := if s.smc.stopping then 0 else (s.setpt : Int) * 64
  let t : Int := (s.fget Reg.SMC_SPEED_TARGET : Int) * 64 + s.smc.targetFrac
  if t ≤ goal then min goal (t + s.fget Reg.SMC_RAMP_ACC) else max goal (t - s.fget Reg.SMC_RAMP_DEC)

/-- Observer trust (R415) at one loop run. -/
def State.obsTrust (s : State) (obsEmf speed : Nat) : State :=
  let st := s.smcState
  let ref := s.thetaOf st
  let diff := (angle32 ((s.smc.obsAngle : Int) - (ref : Int))).natAbs
  let tol := s.fget Reg.SMC_OBS_OBSTOL * 2 ^ 16
  let emf := s.fget Reg.SMC_MOTOR0_KE * speed / 8
  let ampBad := decide (emf < 4 * (max obsEmf emf - min obsEmf emf))
  let good := decide (2 * diff ≤ tol)
  let bad := decide (tol < diff) || ampBad
  let n := max 1 (s.fget Reg.SMC_OBS_OBSN)
  let g := if good then s.smc.obsGood + 1 else 0
  let b := if bad then s.smc.obsBad + 1 else 0
  let s := s.modSmc (fun m => { m with obsGood := g, obsBad := b })
  if s.fbit Reg.SMC_STATUS_OBSLOCK then
    if n ≤ b then
      ((s.fput Reg.SMC_STATUS_OBSLOCK 0).bump Reg.SMC_OBSLOSS).evt Reg.SMC_EVT_STAT_OBSLOSS .notice
    else s
  else if n ≤ g then s.fput Reg.SMC_STATUS_OBSLOCK 1 else s

/-- The circular mean of a window of angles: the first angle plus the mean of the signed differences from it (R413). -/
def circMean : List Nat → Nat
  | [] => 0
  | a :: t =>
    let d := (t.map (fun x => angle32 ((x : Int) - (a : Int)))).sum / ((t.length + 1 : Nat) : Int)
    (((a : Int) + d) % 2 ^ 32).toNat

/-- The amplitude of one loop run (R408, R412, R414). -/
def State.speedAmp (s : State) (speed : Nat) : State :=
  let st := s.smcState
  let m := s.smc
  let trim := (BitVec.ofNat 16 (s.fget Reg.SMC_TRIM_TRIM)).toInt
  let e : Int := (s.fget Reg.SMC_SPEED_TARGET : Int) + trim - speed
  let cog := if st = 6 then
      (BitVec.ofNat 16 (s.fget (Reg.SMC_COG_i_V (s.thetaM / 2 ^ 24)))).toInt * (m.cogW : Int) / 16 else 0
  let p := (s.fget Reg.SMC_SPDLOOP_KP : Int) * e / 2 ^ 8
  let acc := match m.hoOut with | some u => (u - p - cog) * 256 | none => m.acc
  let raw := p + acc / 2 ^ 8 + m.mA + cog
  let lo : Int := if st = 4 then 0 else -32767
  let a := max lo (min 32767 raw)
  let hsh := s.smcHsh
  s.modSmc (fun m =>
    { m with err := e, cog := cog, amp := a, hoOut := none,
             acc := if a = raw then acc + (s.fget Reg.SMC_SPDLOOP_KI : Int) * e else acc,
             mA := m.mA - m.mA / 2 ^ hsh, mTheta := m.mTheta - m.mTheta / 2 ^ hsh,
             cogW := if st = 6 then min 16 (m.cogW + 1) else 0 })

/-- The write-inhibit request at a loop run (R417); `run`: the state was Run when the loop run began. -/
def State.speedWinh (s : State) (run : Bool) (speed : Nat) : State :=
  let sp := s.setpt
  let far := decide (sp * s.fget Reg.SMC_HOVER_WTOL < (max speed sp - min speed sp) * 1024)
  let off := decide (s.fget Reg.SMC_OBS_OBSTOL * 2 ^ 16 < s.smc.mTheta.natAbs)
  if ¬ run ∨ s.smcState ≠ 6 ∨ far ∨ off then (s.modSmc (fun m => { m with clean := 0 })).smcWinh true
  else
    let k := s.smc.clean + 1
    let s := s.modSmc (fun m => { m with clean := k })
    if 4 ≤ k then s.smcWinh false else s

/-- Transitions judged at a loop run (R403, R413, R415): Six-step to Sine, the learning window to Run, Sine to Catch when OBSLOCK
has fallen (`fell`), the end of a regenerative stop. -/
def State.speedTransition (s : State) (speed : Nat) (fell : Bool) : State :=
  let st := s.smcState
  if s.smc.stopping ∧ (st = 5 ∨ st = 6) ∧ speed ≤ s.fget Reg.SMC_SPEEDS_STOPSPD * 8 then
    (s.modSmc (fun m => { m with stopping := false })).smcSet 8
  else if st = 4 ∧ s.fget Reg.SMC_SPEEDS_SINSPD * 8 ≤ speed ∧ s.fbit Reg.SMC_STATUS_OBSLOCK then
    s.smcHandOver 5 s.thetaApplied (dutyToAmp s.smc.amp)
  else if st = 5 then
    if fell then s.smcCatch
    else if ¬ s.fbit Reg.ATB_STATUS_QUAL then s.modSmc (fun m => { m with learn := [] })
    else
      let x := (((s.smc.obsAngle : Int) - ((s.dpi.poles * s.thetaM : Nat) : Int)) % 2 ^ 32).toNat
      let l := x :: s.smc.learn
      let s := s.modSmc (fun m => { m with learn := l })
      if l.length < 64 then s
      else
        let out := s.thetaApplied
        let s := (s.wr Reg.SMC_ROTOFF (BitVec.ofNat 32 (circMean l.reverse))).fput Reg.SMC_STATUS_ROTOK 1
        s.smcHandOver 6 out s.smc.amp
  else s

/-- SPUN: the target has come within 1/256 of the set-point after a start (R428). -/
def State.speedSpun (s : State) : State :=
  let t := s.fget Reg.SMC_SPEED_TARGET
  let sp := s.setpt
  if s.smc.starting ∧ (s.smcState = 5 ∨ s.smcState = 6) ∧ (max t sp - min t sp) * 256 ≤ sp then
    let s := { s with pow := { s.pow with firstAct := Duo.all none } }
    (((s.modSmc (fun m => { m with starting := false, spun := true })).fput Reg.SMC_STATUS_ATTEMPT 0).evt
      Reg.SMC_EVT_STAT_SPUN .notice).bootStep 9
  else s

/-- SPEED_LOOP_RUN: every 16 spans of G, at a pier that is a multiple of 16, with the observer's angle, speed (1/8 rpm) and
back-EMF amplitude (µV), and the mean bridge current of the last PWM period (R408, R428). -/
def State.speedLoop (s : State) (obsTheta : BitVec 32) (obsSpeed obsEmf : Nat) (ibr : BitVec 16) : State :=
  let blk := s.atb.rev * 64 + s.angleG / 2 ^ 26
  let st := s.smcState
  if s.smc.loopBlock = some blk then s
  else
    let s := s.modSmc (fun m => { m with loopBlock := some blk, obsAngle := obsTheta.toNat })
    let s := s.fput Reg.SMC_IBR_I ibr.toNat
    let s := s.fput Reg.SMC_STATUS_SPCLAMP (if s.spClamp then 1 else 0)
    if st ≠ 4 ∧ st ≠ 5 ∧ st ≠ 6 then s.speedWinh false 0
    else
      let speed : Nat :=
        if st = 6 then (s.rd Reg.ATB_RATE).toNat * 480000000000 / (2 ^ 42 * s.piers)
        else if st = 5 then obsSpeed
        else s.crossSpeed 6 (s.smc.ints.take 6).sum
      let t := s.nextTarget
      let s := (s.fput Reg.SMC_SPEED_SPEED (min speed 65535)).fput Reg.SMC_SPEED_TARGET (t / 64).toNat
      let s := s.modSmc (fun m => { m with targetFrac := t % 64 })
      let locked := s.fbit Reg.SMC_STATUS_OBSLOCK
      let s := (s.obsTrust obsEmf speed).speedAmp speed
      let fell := locked && ! s.fbit Reg.SMC_STATUS_OBSLOCK
      let s := s.fput Reg.SMC_OBSDIFF_D
        (sat16 (angle32 ((s.smc.obsAngle : Int) - (s.thetaApplied : Int)) / 2 ^ 16))
      (((s.speedTransition speed fell).speedSpun).speedWinh (decide (st = 6)) speed).driveBridge

/-- SPINDLE_OVERCURRENT_TRIP: the bridge current exceeds IOC (R418); 64 trips within 1,024 spans of G escalate. -/
def State.spindleTrip (s : State) (i : Nat) : State :=
  if i ≤ s.fget Reg.SMC_ILIM_IOC then s
  else
    let s := (s.bump Reg.SMC_OCTRIPS).note Reg.SMC_OCTRIPS .notice
    let (hit, w) := escalate s.smc.trips s.atb.spansG 1024 64
    let s := s.modSmc (fun m => { m with trips := w })
    let st := s.smcState
    if ¬ hit then s
    else if 1 ≤ st ∧ st ≤ 3 then s.smcAbort
    else if 4 ≤ st ∧ st ≤ 6 then
      ((s.fput Reg.SMC_FAULT_OCESC 1).evt Reg.SMC_EVT_STAT_OCESC .fault).smcCatch
    else s

/-! ### The motor supply (R420 to R423, R426, R568) -/

/-- VMOT as sensed (R420, R568). -/
def State.senseVmot (s : State) (mv : Nat) : State :=
  (s.fput Reg.PMU_VMOT_MV (min mv 65535)).fput Reg.SMC_VMOT_MV (min mv 65535)

/-- The dwell that filters each threshold of VMOT, in fabric cycles (R420); DEDUCED: those of R422 among them. -/
def vmotDwell : Nat := 64

/-- CHOPPER_GATE_ON: VMOT has risen to 16.5 V (R420); the chopper stays off while CHOP is set (R421). -/
def State.chopperOn (s : State) (mv held : Nat) : State :=
  let s := s.senseVmot mv
  if mv < 16500 ∨ held < vmotDwell ∨ s.fbit Reg.SMC_STATUS_CHOPG ∨ s.fbit Reg.SMC_FAULT_CHOP then s
  else
    let now := s.cycle
    ((s.fput Reg.SMC_STATUS_CHOPG 1).bump Reg.SMC_CHOPON).modSmc (fun m => { m with chopAt := some now })

/-- CHOPPER_GATE_OFF: VMOT has fallen to 16.0 V (R420). -/
def State.chopperOff (s : State) (mv held : Nat) : State :=
  let s := s.senseVmot mv
  if 16000 < mv ∨ held < vmotDwell then s
  else (s.fput Reg.SMC_STATUS_CHOPG 0).modSmc (fun m => { m with chopAt := none })

/-- CHOPPER_FAULT: since the gate turned on, VMOT has not fallen below 16.5 V in 2 ms, or the highest chopper current stayed
below BRKIMIN for 20 µs (R421): the gate goes off, Short-brake, CHOP, and Fault Stop. -/
def State.chopperFault (s : State) (mv brki : Nat) : State :=
  match s.smc.chopAt with
  | none => s
  | some t =>
    let s := s.senseVmot mv
    if (t + 2000000 ≤ s.cycle ∧ 16500 ≤ mv) ∨ (t + 20000 ≤ s.cycle ∧ brki < s.fget Reg.SMC_BRAKE_BRKIMIN) then
      let s := ((s.fput Reg.SMC_STATUS_CHOPG 0).fput Reg.SMC_FAULT_CHOP 1).modSmc (fun m => { m with chopAt := none })
      let st := s.smcState
      let s := if st = 8 ∨ 17500 ≤ mv ∨ mv < 8000 then s else (s.smcNoStart).smcSet 8
      s.faultStopFor Reg.SMC_EVT_STAT_CHOP
    else s

/-- VMOT_OVERVOLTAGE: VMOT reaches 17.5 V (R422): Coast, every VCM bridge off, every actuator in retract, OVP, Fault Stop. -/
def State.vmotOver (s : State) (mv held : Nat) : State :=
  let s := s.senseVmot mv
  if mv < 17500 ∨ held < vmotDwell then s
  else
    let s := (s.smcNoStart).smcSet 9
    let s := lanes.foldl (fun s n =>
      if (s.pair.get n).law = 7 then s else s.fput (Reg.VCDn_STATUS_BRIDGE n) 0) s
    let s := (s.raiseRetracts).fput Reg.SMC_FAULT_OVP 1
    s.faultStopFor Reg.SMC_EVT_STAT_OVP

/-- OVP_SHORT_BRAKE_RETRY: with CHOP or OVP set and VMOT below 14.0 V, Coast becomes Short-brake (R422). -/
def State.ovpRetry (s : State) (mv held : Nat) : State :=
  let s := s.senseVmot mv
  if s.smcLatched ∧ s.smcState = 9 ∧ mv < 14000 ∧ vmotDwell ≤ held then s.smcSet 8 else s

end Sys2Proof.Machine
end

