-- ==== Sys2Proof/Machine/Atb.lean ====
section
/-!
DEFINITION. Sys2Proof/Machine/Atb.lean: the angle time base (spec/02_angle_time_base.md): the advance of G, pier detections,
the angle loop and states, steps, lane offsets and the firing of angle triggers.
-/
namespace Sys2Proof.Machine

/-- A change of the angle time base beside its registers. -/
def State.modAtb (s : State) (f : AtbSt → AtbSt) : State := { s with atb := f s.atb }

/-- A change of what the ATB keeps of lane n. -/
def State.modAtbLane (s : State) (n : Fin 4) (f : AtbLane → AtbLane) : State :=
  s.modAtb (fun a => { a with lanes := a.lanes.modify n f })

/-! ### Registers as they are applied -/

/-- ATB_STATUS.STATE. -/
def State.atbState (s : State) : Nat := s.fget Reg.ATB_STATUS_STATE
/-- ATB_FREE_RATE as applied (R54, R75). -/
def State.freeRate (s : State) : Nat := min (max (s.rd Reg.ATB_FREE_RATE).toNat 0x10000) 0x7FFFFFFF
/-- ATB_CORR.MAXCORR as applied (R53). -/
def State.maxCorr (s : State) : Nat := min (s.fget Reg.ATB_CORR_MAXCORR) 0x40000
/-- ATB_WIN.WIN as applied. -/
def State.detWin (s : State) : Nat := min (s.fget Reg.ATB_WIN_WIN) 0x200000
/-- HOLD_MAX as applied. -/
def State.holdMax (s : State) : Nat := max 1 (s.fget Reg.ATB_HOLD_HOLD_MAX)
/-- REQUAL as applied. -/
def State.requal (s : State) : Nat := max 1 (s.fget Reg.ATB_HOLD_REQUAL)

/-- Whether lane n is contributing (R52). -/
def State.contributing (s : State) (n : Fin 4) : Bool :=
  (s.fget Reg.ATB_CTRL_SRC).testBit n.val && s.svdLock n && ! (s.fget Reg.ATB_STATUS_DISAGREE).testBit n.val &&
    decide (2 ≤ (s.atb.lanes.get n).bounds)

/-- The number of contributing lanes. -/
def State.contribCount (s : State) : Nat := lanes.countP (fun n => s.contributing n)

/-! ### Firing of triggers (R62, R66 to R69) -/

/-- A firing of a trigger (R69): FIRED, LATE, LASTREV, the signal to TRSn, the late count, the action of TARGET. -/
def State.trigFireNow (s : State) (lane i : Nat) (late : Bool) : State :=
  let s := ((s.fput (trigFired lane i) 1).fput (trigLate lane i) (if late then 1 else 0)).wr (trigBase lane i + 0xC)
    (BitVec.ofNat 32 s.atb.rev)
  let cap : Fin 2 := if s.fget (trigCapsel lane i) = 1 then 1 else 0
  let target := s.fget (trigTarget lane i)
  let s := if late then
      (s.bump (if lane < 4 then Reg.ATB_LATEn lane else Reg.ATB_GLATE)).evt Reg.ATB_EVT_STAT_LATE .notice
    else s
  if h : lane < 4 then
    let n : Fin 4 := ⟨lane, h⟩
    let t := (s.rd (trigBase lane i)).toNat
    let adv := (s.crossOf lane).2
    let past := if s.fget (trigMode lane i) = 2 then (adv % 2 ^ 22 + 2 ^ 22 - t % 2 ^ 22) % 2 ^ 22 else angleFwd s.piers t adv
    let s := s.trsTriggerFired n i late (angleAddInt s.piers adv (-(past : Int)))
    match target with
    | 1 => s.assistStart n late past
    | 2 => s.assistEnd n late past
    | 3 => s.captureTrigger cap
    | 4 => s.evt Reg.ATB_EVT_STAT_TRIG .trace
    | _ => s
  else
    match target with
    | 1 => s.evt Reg.ATB_EVT_STAT_TRIG .trace
    | 2 => s.captureTrigger cap
    | 3 =>
      let pin := s.fget (trigGpiosel lane i)
      if s.fget (Reg.SYS_GPIO_CFGn_MODE pin) = 2 then
        s.modAtb (fun a => { a with gpioPulse := (pin, s.cycle) :: a.gpioPulse.filter (fun q => decide (q.1 ≠ pin)) })
      else s
    | _ => s

/-- A crossing of an armed trigger (R68). -/
def State.trigCross (s : State) (lane i : Nat) (late : Bool) : State :=
  let remain := s.fget (trigRemain lane i)
  match s.fget (trigMode lane i) with
  | 0 =>
    if remain = 0 then (s.trigFireNow lane i late).fput (trigArm lane i) 0
    else s.fput (trigRemain lane i) (remain - 1)
  | 1 =>
    if remain = 0 then (s.trigFireNow lane i late).fput (trigRemain lane i) (s.fget (trigRevs lane i))
    else s.fput (trigRemain lane i) (remain - 1)
  | 2 => s.trigFireNow lane i late
  | _ => s

/-- Whether an angle that moves forward from a by f decks reaches or passes the target of a trigger (R64, R66): the
whole angle, or, in mode Per pier, its DECK. -/
def State.trigReached (s : State) (lane i a f : Nat) : Bool :=
  let t := (s.rd (trigBase lane i)).toNat
  let d := if s.fget (trigMode lane i) = 2 then (t % 2 ^ 22 + 2 ^ 22 - a % 2 ^ 22) % 2 ^ 22 else angleFwd s.piers a t
  (decide (0 < d) && decide (d ≤ f)) || (decide (d = 0) && decide (s.fget (trigMode lane i) = 2) && decide (2 ^ 22 ≤ f))

/-- A crossing handled in this cycle, by what the trigger held before the writes of the cycle (R71). -/
def State.trigCrossNow (s : State) (lane i : Nat) (late : Bool) : State :=
  (s.trigHit lane i).underOld lane i (fun s => if s.fbit (trigArm lane i) then s.trigCross lane i late else s)

/-- TRIGGER_FIRE: the advanced angle has reached or passed the target of an armed trigger in this cycle (R66, R68), or the
trigger fires late since its arming in the cycle before (R67). Each crossing is handled once, by the contents from before the
writes of the cycle (R71). -/
def State.triggerFire (s : State) (lane i : Nat) : State :=
  if trigCount lane ≤ i then s
  else
    let due := s.atb.lateDue.any (fun t => decide (t.1 = lane) && decide (t.2.1 = i) && decide (t.2.2 < s.cycle))
    if due then (s.dropLate lane i).trigCrossNow lane i true
    else
      let (a, b) := s.crossOf lane
      let f := angleFwd s.piers a b
      if s.atb.hit.any (fun t => decide (t = (lane, i))) ∨ revLen s.piers < 2 * f then s
      else
        s.underOld lane i (fun t =>
          if t.fbit (trigArm lane i) ∧ t.trigReached lane i a f then (t.trigHit lane i).trigCross lane i false else t)

/-- A step of the compared angle of a lane, between two advanced angles (R61, R62): a forward one counts one crossing of every
armed trigger whose target lies in the interval passed over, late; a backward one fires nothing. -/
def State.trigStep (s : State) (lane a b : Nat) : State :=
  let f := angleFwd s.piers a b
  if f = 0 ∨ revLen s.piers < 2 * f then s
  else
    (List.range (trigCount lane)).foldl (fun s i =>
      s.underOld lane i (fun t =>
        if t.fbit (trigArm lane i) ∧ t.trigReached lane i a f then t.trigCross lane i true else t)) s

/-- The steps of this cycle, of Ln, of G or of both, reach the triggers of every compared angle (R62). -/
def State.laneSteps (s : State) : State :=
  ([0, 1, 2, 3, 4] : List Nat).foldl (fun s lane => s.trigStep lane (s.crossOf lane).2 (s.trigNow lane)) s

/-- What a write of PIERS moves is no step: every compared angle that it moved counts its crossings from where it is (R76). -/
def State.crossReset (s : State) : State :=
  let now (lane : Nat) : Nat × Nat :=
    let c := s.crossOf lane
    if c.2 = s.trigNow lane then c else (s.trigNow lane, s.trigNow lane)
  { s with atb := { s.atb with cross := [now 0, now 1, now 2, now 3, now 4] } }

/-- GPIO_PULSE_END: 64 fabric cycles after a trigger drove a pin high (R69). -/
def State.gpioPulseEnd (s : State) (pin : Nat) : State :=
  s.modAtb (fun a => { a with
    gpioPulse := a.gpioPulse.filter (fun q => ! (decide (q.1 = pin) && decide (q.2 + 64 ≤ s.cycle))) })

/-! ### Lane offsets (R48) -/

/-- OFFn for a head and a cylinder (R48). -/
def State.offsetFor (s : State) (n : Fin 4) (head cyl : Nat) : Nat :=
  let p := n.val / 2
  let i : Nat := cyl / 2 ^ 16 % 256
  let f : Nat := cyl % 2 ^ 16
  let s0 := (s.rd (Reg.ATB_SKEWn_i p i)).toInt
  let s1 := if i = 255 then s0 else (s.rd (Reg.ATB_SKEWn_i p (i + 1))).toInt
  let skew := s0 + (s1 - s0) * (f : Int) / 2 ^ 16
  angleAddInt s.piers (s.rd (Reg.ATB_NOMn n)).toNat ((s.rd (Reg.ATB_HEADn head)).toInt + skew)

/-- OFFn recomputed from a head and a cylinder (R48): a step of Ln, which reaches the triggers at the end of the cycle (R62). -/
def State.setOffset (s : State) (n : Fin 4) (head cyl : Nat) : State :=
  s.wr (Reg.ATB_LOFFn n) (BitVec.ofNat 32 (s.offsetFor n head cyl))

/-- A head change of lane n (R48, R52): the boundaries since it start again, and OFFn is recomputed. The first head after a
reset is a head change. -/
def State.laneHeadChange (s : State) (n : Fin 4) (head : Nat) : State :=
  let l := s.atb.lanes.get n
  if l.head = some head then s
  else (s.modAtbLane n (fun l => { l with head := some head, bounds := 0 })).setOffset n head l.cyl

/-! ### The advance of G (R53, R63) -/

/-- What of a correction has been taken after an advance, in 2^-20 decks: it spreads evenly over 0x10_0000 decks. -/
def AtbCorr.taken (c : AtbCorr) (adv : Nat) : Int := Int.tdiv (c.amount * ((min adv (2 ^ 40) : Nat) : Int)) (2 ^ 40)

/-- What of a correction is still to come. -/
def AtbCorr.left (c : AtbCorr) : Int := c.amount - c.taken c.adv

/-- The sum of the pending corrections, in 2^-20 decks (R53). -/
def AtbSt.pendingCorr (a : AtbSt) : Int := a.corrs.foldl (fun acc c => acc + c.left) a.backlog

/-- The sources of angle loss follow the state and QUAL (R58). -/
def State.refreshAngleLoss (s : State) : State :=
  let loss := ! (decide (s.atbState = 2) && s.fbit Reg.ATB_STATUS_QUAL)
  lanes.foldl (fun s n => s.winhSet n 2 loss) s

/-- Whether the linear position, in units per span of 2^42, passes a pier boundary between x and x + d. -/
def passesBoundary (x d : Nat) : Bool := decide (x / 2 ^ 42 ≠ (x + d) / 2 ^ 42)

/-- Multiples of 0x1_0000 decks of Ln passed (TRSn CNT1, R235). -/
def ticksPassed (x d : Nat) : Nat := (x + d) / 2 ^ 36 - x / 2 ^ 36

/-- One cycle of lane n: pier boundaries of Ln with its missed detections (R74), CNT1, the wait for queue room (R231),
the element under way. -/
def State.laneCycle (s : State) (n : Fin 4) (g0 d : Nat) : State :=
  let x := g0 + (s.rd (Reg.ATB_LOFFn n)).toNat * 2 ^ 20
  let l := s.atb.lanes.get n
  let s := if passesBoundary x d then
      let s := if s.contributing n ∧ ¬ l.detInSpan then s.bump (Reg.ATB_MISSn n) else s
      s.modAtbLane n (fun l => { l with spans := l.spans + 1, bounds := l.bounds + 1, detInSpan := false })
    else s
  let s := if s.trsRunning n then s.modTrs n (fun t => { t with cnt1 := t.cnt1 - ticksPassed x d }) else s
  let s := match (s.trs.get n).stalled with
    | some w => if (s.trs.get n).st = TrsState.running ∧ s.waitDone n w ∧ ¬ s.roomFor n w then s.bump (Reg.TRSn_QSTALL n) else s
    | none => s
  (((s.launchGates n x d).channelAdvance n x d).refreshLt n).advanceEdges n d

/-- A microsecond has passed: the counters of time spent in a stall (R124, R154, R219). -/
def State.stallTick (s : State) : State :=
  let h := s.host
  let s := if h.stallCtx then s.bump Reg.HQE_STALL_CTX_US else s
  let s := if h.stallCq then s.bump Reg.HQE_STALL_CQ_US else s
  let s := if h.ctxs.any (·.stallWc) then s.bump Reg.HQE_STALL_WC_US else s
  let s := if s.rltStalled then s.bump Reg.RLT_STALL_US else s
  lanes.foldl (fun (s : State) (n : Fin 4) =>
    if s.msc.stalls.any (fun x => decide (x.2 = n.val)) then s.bump (Reg.MSC_STALL_USn n) else s) s

/-- The advance of G in the cycle that ends, in 2^-20 decks. -/
def State.lastAdvance (s : State) : Nat := (s.atb.gCyc + s.revUnits - s.atb.gPrev) % s.revUnits

/-! ### States (R56 to R59) -/

/-- The ATB enters a state: VALID follows, QUAL becomes 0 (R56, R57); when VALID falls the SMC loses the servo angle
(R59). No further transition but that of FREE is taken in this cycle (R56). -/
def State.setAtbState (s : State) (st : Nat) : State :=
  let lost := s.fbit Reg.ATB_STATUS_VALID && decide (st < 2)
  let s := ((s.fput Reg.ATB_STATUS_STATE st).fput Reg.ATB_STATUS_VALID (if 2 ≤ st then 1 else 0)).fput
    Reg.ATB_STATUS_QUAL 0
  let s := (s.modAtb (fun a => { a with goodSpans := 0, holdSpans := 0, moved := true })).refreshAngleLoss
  if lost then s.smcAngleLost else s

/-- Every pending correction discarded. -/
def State.dropCorrs (s : State) : State := s.modAtb (fun a => { a with corrs := [], backlog := 0 })

/-- Acquisition by lane n (R60, R61): the step of G that puts Ln at k:0x00_0000 at the detection's instant, and the rate from the
interval of the two detections (in 2^-16 fabric cycles). -/
def State.acquire (s : State) (n : Fin 4) (instant k interval : Nat) : State :=
  let p := s.piers
  let before := s.stamp
  let rate : Nat := min (max (2 ^ 58 / max 1 interval) 0x10000) 0x7FFFFFFF
  let ru : Int := s.revUnits
  let target : Int := (((k % p * 2 ^ 22 : Nat) : Int) - ((s.rd (Reg.ATB_LOFFn n)).toNat : Int)) * 2 ^ 20
  let later : Int := (rate : Int) * (((s.cycle * 2 ^ 16 : Nat) : Int) - (instant : Int)) / 2 ^ 16
  let g1 := ((target + later) % ru).toNat
  let fw := (g1 + s.revUnits - s.atb.g) % s.revUnits
  let fwd := decide (2 * fw ≤ s.revUnits)
  let rev := if fwd ∧ g1 < s.atb.g then s.atb.rev + 1 else s.atb.rev
  let s := (s.modAtb (fun a => { a with g := g1, rev := rev })).wr Reg.ATB_RATE (BitVec.ofNat 32 rate)
  let s := ((s.dropCorrs).fput Reg.ATB_STATUS_DISAGREE 0).bump Reg.ATB_STEPS
  let s := s.evtC Reg.ATB_EVT_STAT_STEP .notice none (leBytes before 8 ++ leBytes s.stamp 8)
  let s := lanes.foldl (fun s m => s.modAtbLane m (fun l => { l with rejRow := 0 })) s
  s.setAtbState 2

/-- The transition Acquire to Locked, at the end of the cycle (R56): the lowest-numbered of the lanes that qualify acquires. -/
def State.acquireNow (s : State) : State :=
  if s.atbState = 1 ∧ s.atb.moved = false then
    match lanes.filterMap (fun n => s.atb.cand.find? (fun c => decide (c.1 = n))) with
    | (n, instant, k, interval) :: _ => s.acquire n instant k interval
    | [] => s
  else s

/-- The end of a fabric cycle: the acquisition (R56), the steps of the cycle (R62), and what is kept for one cycle only. -/
def State.cycleEnd (s : State) : State :=
  let s := (s.acquireNow).laneSteps
  { s with causes := [] }.modAtb (fun a => { a with
    hit := [], written := [], cand := [], moved := false,
    lateDue := a.lateDue.filter (fun t =>
      ! (decide (t.2.2 < s.cycle) && a.written.any (fun o => decide (o.lane = t.1 ∧ o.i = t.2.1)))) })

/-- The advance of G by one cycle: the rate less the share of corrections due, which is limited to a quarter of the rate (R53). Each
correction spreads over what G advances: its share of a cycle is taken for the advance of the cycle before
(notes/assumptions/26.md). -/
def State.gAdvance (s : State) : State :=
  let st := s.atbState
  let s := if st = 0 then s.wr Reg.ATB_RATE (BitVec.ofNat 32 s.freeRate) else s
  let rate := (s.rd Reg.ATB_RATE).toNat
  let corr := st = 2 ∨ st = 3
  let a := s.atb
  let last := s.lastAdvance
  let due : Int := a.corrs.foldl (fun acc c => acc + (c.taken (c.adv + last) - c.taken c.adv)) a.backlog
  let lim : Int := ((rate / 4 : Nat) : Int)
  let app : Int := if corr then max (-lim) (min lim due) else 0
  let d := ((rate : Int) - app).toNat
  let corrs := if corr then
      (a.corrs.map (fun c => { c with adv := c.adv + last })).filter (fun c => decide (c.adv < 2 ^ 40))
    else a.corrs
  let backlog := if corr then due - app else a.backlog
  let g0 := a.g
  let ru := s.revUnits
  s.modAtb (fun a => { a with
    g := (g0 + d) % ru, gPrev := g0, gCyc := (g0 + d) % ru, lead := 8 * rate, corrs := corrs, backlog := backlog,
    rev := if ru ≤ g0 + d then a.rev + 1 else a.rev,
    wrapped := a.wrapped || passesBoundary g0 d,
    spansG := if passesBoundary g0 d then a.spansG + 1 else a.spansG })

/-- The crossings of the new cycle begin where the advanced angles were and end where they are (R66). -/
def State.crossNext (s : State) (before : List Nat) : State :=
  s.modAtb (fun a => { a with cross := before.zip ([0, 1, 2, 3, 4].map (fun lane => s.trigNow lane)) })

/-- FABRIC_CYCLE_ADVANCE: the fabric cycle ends and the next begins: G advances by the rate less the share of corrections due (R53);
the revolution count follows (R63); every lane advances with it. -/
def State.fabricCycle (s : State) : State :=
  let s := s.cycleEnd
  let before := [0, 1, 2, 3, 4].map (fun lane => s.trigNow lane)
  let s := { s with cycle := s.cycle + 1 }
  let g0 := s.atb.g
  let s := (s.gAdvance).crossNext before
  let d := s.lastAdvance
  let s : State := lanes.foldl (fun s n => s.laneCycle n g0 d) s
  let s : State := if s.cycle % 1000 = 0 then s.stallTick else s
  let s := (s.refreshAngleLoss).smcWinhRefresh
  if passesBoundary g0 d then s.captureSample 4 else s

/-- ATB_SPAN_END: the DECK field of G has wrapped: with no valid residual in the span, Locked goes to Holdover and Holdover
counts the span; with one, QUAL is evaluated (R56, R57). -/
def State.atbSpanEnd (s : State) : State :=
  if ¬ s.atb.wrapped then s
  else
    let good := s.atb.spanValid
    let s := s.modAtb (fun a => { a with wrapped := false, spanValid := false })
    match s.atbState with
    | 2 =>
      if good then
        let k := s.atb.goodSpans + 1
        let s := s.modAtb (fun a => { a with goodSpans := k })
        if s.requal ≤ k then s.fput Reg.ATB_STATUS_QUAL 1 else s
      else if s.atb.moved then s.modAtb (fun a => { a with goodSpans := 0 })
      else ((s.bump Reg.ATB_HOLDS).evt Reg.ATB_EVT_STAT_HOLD .notice).setAtbState 3
    | 3 => if good then s.modAtb (fun a => { a with holdSpans := 0 })
      else s.modAtb (fun a => { a with holdSpans := a.holdSpans + 1 })
    | _ => s

/-- HOLDOVER_EXPIRY: HOLD_MAX consecutive spans of G ended without a valid residual: the angle is lost (R56). -/
def State.holdoverExpiry (s : State) : State :=
  if s.atbState = 3 ∧ s.holdMax ≤ s.atb.holdSpans ∧ s.atb.moved = false then
    (((s.bump Reg.ATB_LOSSES).evt Reg.ATB_EVT_STAT_LOSS .fault).setAtbState 1).dropCorrs
  else s

/-- ATB_CTRL_FREE (R56). -/
def State.atbFree (s : State) : State :=
  ((s.setAtbState 0).dropCorrs).wr Reg.ATB_RATE (BitVec.ofNat 32 s.freeRate)

/-- ATB_CTRL_ACQ: Free to Acquire; without effect in any other state (R56). -/
def State.atbAcq (s : State) : State :=
  if s.atbState = 0 ∧ s.atb.moved = false then
    (s.setAtbState 1).modAtb (fun a =>
      { a with lanes := ⟨{ a.lanes.a0 with lastDet := none }, { a.lanes.a1 with lastDet := none },
                         { a.lanes.a2 with lastDet := none }, { a.lanes.a3 with lastDet := none }⟩ })
  else s

/-! ### Detections (R51 to R56, R60) -/

/-- A valid residual r steers G (R52 to R54). -/
def State.steer (s : State) (r : Int) : State :=
  let nc : Int := max 1 s.contribCount
  let ki : Int := s.fget Reg.ATB_GAIN_KI
  let kp : Int := s.fget Reg.ATB_GAIN_KP
  let rate : Int := ((s.rd Reg.ATB_RATE).toNat : Int) - Int.tdiv (r * ki / 2 ^ 16) nc
  let rate := (max 0x10000 (min rate 0x7FFFFFFF)).toNat
  let mc : Int := s.maxCorr
  let c := max (-mc) (min mc (Int.tdiv (r * kp) (256 * nc))) * 2 ^ 20
  let lim := 4 * mc * 2 ^ 20
  let tot := s.atb.pendingCorr
  let c := if 0 < c then min c (max 0 (lim - tot)) else max c (min 0 (-lim - tot))
  let s := s.wr Reg.ATB_RATE (BitVec.ofNat 32 rate)
  if c = 0 then s else s.modAtb (fun a => { a with corrs := a.corrs ++ [⟨c, 0⟩] })

/-- A rejected detection of lane n (R51, R55). -/
def State.rejectDet (s : State) (n : Fin 4) : State :=
  let s := s.bump (Reg.ATB_REJn n)
  let dis := s.fget Reg.ATB_STATUS_DISAGREE
  if dis.testBit n.val then s
  else
    let k := (s.atb.lanes.get n).rejRow + 1
    let s := s.modAtbLane n (fun l => { l with rejRow := if 8 ≤ k then 0 else k })
    if 8 ≤ k then (s.fput Reg.ATB_STATUS_DISAGREE (dis + 2 ^ n.val)).evt Reg.ATB_EVT_STAT_DISAGREE .fault else s

/-- Whether two detections of a lane, with neighbouring indices, lie at consecutive boundaries (R56): less than half a revolution at
the current rate apart, so that no whole revolution lies between them (notes/assumptions/26.md). -/
def State.consecutive (s : State) (t0 t1 : Nat) : Bool :=
  decide (2 * ((s.rd Reg.ATB_RATE).toNat * (t1 - t0)) ≤ s.revUnits * 2 ^ 16)

/-- PIER_DETECTION: SVDn reports a servo address mark: the instant, the decoded index, the head and the cylinder. OFFn is
recomputed (R48), the residual is formed and judged (R51), a valid one steers G (R52) and ends Holdover, and in Acquire two
consecutive indices qualify the lane for acquisition at the end of the cycle (R56). -/
def State.pierDetection (s : State) (n : Fin 4) (instant : Nat) (idx : Option Nat) (head cyl : Nat) : State :=
  let l := s.atb.lanes.get n
  let prev := l.lastDet
  let s := if l.head = some head then s else s.modAtbLane n (fun l => { l with head := some head, bounds := 0 })
  let s := s.modAtbLane n (fun l =>
    { l with cyl := cyl, detInSpan := true, lastDet := idx.map (fun k => (k, instant)) })
  let s := s.setOffset n head cyl
  let p := s.piers
  let la := ((s.gAt instant + ((s.rd (Reg.ATB_LOFFn n)).toNat : Int)) % (revLen p : Int)).toNat
  let (k, r) := nearestPier p la
  let st := s.atbState
  let win := if st = 3 then 4 * s.detWin else s.detWin
  let indexOk := match idx with | some i => decide (i = k) | none => true
  let valid := indexOk && decide (r.natAbs ≤ win) && s.contributing n
  let acq := decide (st = 1) && (s.fget Reg.ATB_CTRL_SRC).testBit n.val && s.svdLock n &&
    ! (s.fget Reg.ATB_STATUS_DISAGREE).testBit n.val
  let s :=
    if valid then
      let s := (s.modAtbLane n (fun l => { l with rejRow := 0 })).modAtb (fun a => { a with spanValid := true })
      let s := if st = 2 ∨ st = 3 then s.steer r else s
      if st = 3 ∧ s.atb.moved = false then s.setAtbState 2 else s
    else s.rejectDet n
  match prev, idx with
  | some (i, t0), some j =>
    if acq ∧ j = (i + 1) % p ∧ s.consecutive t0 instant then
      s.modAtb (fun a => { a with cand := a.cand ++ [(n, instant, j, instant - t0)] })
    else s
  | _, _ => s

/-- DISAGREE_CLEAR: lanes whose bit is written 1 contribute again (R55). -/
def State.disagreeClear (s : State) (mask : Nat) : State :=
  let old := s.fget Reg.ATB_STATUS_DISAGREE
  let s := lanes.foldl (fun s n =>
    if mask.testBit n.val then s.modAtbLane n (fun l => { l with rejRow := 0 }) else s) s
  s.fput Reg.ATB_STATUS_DISAGREE (Nat.land old (15 - mask % 16))

/-! ### Register writes (R70, R76 to R78) -/

/-- ATB_PIERS_WRITE: PIERS changes in state Free only (R76); triggers and offsets beyond it follow R70, R76 and R78. -/
def State.atbPiersWrite (s : State) (w : Nat) : State :=
  if s.fbit Reg.ATB_LOCK_LOCK then s
  else
    let c := w % 2048
    if c < 256 ∨ 1024 < c ∨ s.atbState ≠ 0 then s.note Reg.ATB_PIERS .notice
    else
      let s := s.fput Reg.ATB_PIERS_COUNT c
      let s := if c ≤ s.atb.g / 2 ^ 42 then
          s.modAtb (fun a => { a with g := 0, gPrev := 0, gCyc := 0, rev := a.rev + 1 })
        else s
      let s := lanes.foldl (fun s n =>
        if c ≤ (s.rd (Reg.ATB_NOMn n)).toNat / 2 ^ 22 then (s.wr (Reg.ATB_NOMn n) 0#32).note (Reg.ATB_NOMn n) .notice
        else s) s
      let s := ([0, 1, 2, 3, 4] : List Nat).foldl (fun s lane => (List.range (trigCount lane)).foldl (fun s i =>
        if c ≤ (s.rd (trigBase lane i)).toNat / 2 ^ 22 then
          ((s.fput (trigArm lane i) 0).dropLate lane i).fput (trigErr lane i) 1
        else s) s) s
      let s := s.crossReset
      if c ≤ (s.rd Reg.ATB_SYNC_OFF).toNat / 2 ^ 22 then
        (s.wr Reg.ATB_SYNC_OFF 0#32).note Reg.ATB_SYNC_OFF .notice
      else s

/-- Whether a signed word lies in the range of ATB_HEADh and ATB_SKEWp_i (R78). -/
def offsetInRange (w : Word) : Bool := decide (-0x800000 ≤ w.toInt) && decide (w.toInt ≤ 0x7FFFFF)

/-- ATB_OFFSET_TABLE_WRITE: a write of ATB_NOMn, ATB_HEADh or ATB_SKEWp_i (R78); any other address is no offset register
and nothing happens. -/
def State.atbOffsetWrite (s : State) (a : Nat) (w : Word) : State :=
  let nom := 0x400B00A0 ≤ a ∧ a < 0x400B00B0
  let table := (0x400B0100 ≤ a ∧ a < 0x400B01A0) ∨ (0x400B0400 ≤ a ∧ a < 0x400B0C00)
  if s.fbit Reg.ATB_LOCK_LOCK ∨ a % 4 ≠ 0 then s
  else if nom then (if s.piers ≤ w.toNat / 2 ^ 22 then s.note a .notice else s.wr a w)
  else if table then (if offsetInRange w then s.wr a w else s.note a .notice)
  else s

/-- ATB_SYNC_OFF_WRITE: by a master that writes RWO fields, with a PIER field below PIERS (R18, R78). The flag says
whether the write is an invalid field. -/
def State.atbSyncOffWrite (s : State) (m : Master) (w : Word) : State :=
  if ¬ s.isOwner m then s
  else if s.piers ≤ w.toNat / 2 ^ 22 then s.note Reg.ATB_SYNC_OFF .notice
  else s.wr Reg.ATB_SYNC_OFF w

/-- ATB_ANGLE_READ: returns G and latches the revolution count into ATB_REV (R77). -/
def State.atbAngleRead (s : State) : State :=
  (s.wr Reg.ATB_REV (BitVec.ofNat 32 s.atb.rev)).emit (.regRead (BitVec.ofNat 32 s.angleG))

/-- An accepted VSYNC (R72): its compensated arrival, as a fabric cycle. DESIGN CHOICE (notes/assumptions/16.md): the event that VSYNC offers
is a Trace, as that of a trigger is; no rule states its severity. -/
def State.atbVsync (s : State) (arrival : Nat) : State :=
  if s.fbit Reg.ATB_STATUS_VALID then
    let p := s.piers
    let ga := (s.gAt (arrival * 2 ^ 16) % (revLen p : Int)).toNat
    let rev : Int := (s.atb.rev : Int) + s.gAt (arrival * 2 ^ 16) / (revLen p : Int)
    let e := angleSdiff p (s.rd Reg.ATB_SYNC_OFF).toNat ga
    (((s.wr Reg.ATB_SYNC_ERR (BitVec.ofInt 32 e)).wr Reg.ATB_SYNC_REV (BitVec.ofInt 32 rev)).evt
      Reg.ATB_EVT_STAT_VSYNC .trace).smcSyncLatch
  else s

/-! ### The head-select frame (R316, R341) -/

/-- SVDn switches to another head (R341): its first valid sample is awaited, and lane n's offset changes (R48). -/
def State.servoHeadSwitch (s : State) (n : Fin 4) (h : Nat) : State :=
  let s := (s.fput (Reg.SVDn_STATUS_HEAD n) h).modPair n (fun p => { p with switched := true })
  s.laneHeadChange n h

/-- PREAMP_FRAME_ACK: the frame under way ends; a read frame delivers the 16 bits the preamp drove, which are stored
and compared (R314, R316); the head-select frame of a seek switches SVDn to the new head (R341). -/
def State.preampAck (s : State) (n : Fin 4) (rdata : BitVec 16) : State :=
  match (s.pa.get n).flight with
  | none => s
  | some (c, frame) =>
    let s := s.modPa n (fun p => { p with flight := none })
    let s :=
      if frame / 2 ^ 23 = 1 then
        let s := s.fput (Reg.PAn_RDATA_DATA n) rdata.toNat
        let mask := s.fget (Reg.PIF_CMD_n_HI_MASK c.entry)
        if Nat.land rdata.toNat mask ≠ Nat.land (s.fget (Reg.PIF_CMD_n_HI_EXPECT c.entry)) mask then
          (s.fput (Reg.PAn_STATUS_CHKERR n) 1).paFault n
        else s
      else s
    match c.origin with
    | .headSelect h => s.servoHeadSwitch n h
    | .trs => s

end Sys2Proof.Machine
end

