-- ==== Sys2Proof/Machine/Power.lean ====
section
/-!
DEFINITION. Sys2Proof/Machine/Power.lean: power states, the Peak Window, temperatures, the loss of the motor supply, and the
loading and restoring of actuators (spec/18_power_thermal_modes.md; R423, R585, R586).
-/
namespace Sys2Proof.Machine

/-- A change of the PMU's state. -/
def State.modPow (s : State) (f : PowSt → PowSt) : State := { s with pow := f s.pow }

/-- The effective power state (R555). -/
def State.eps (s : State) : Nat := s.fget Reg.PMU_PSTATE_EPS

/-- The requested power state. -/
def State.psReq (s : State) : Nat := s.fget Reg.PMU_PSTATE_REQ

/-! ### Applied values of the expert registers (R578) -/

/-- PMU_PEAK0.WINDOW as applied, in ms. -/
def State.peakWindow (s : State) : Nat := min 2000 (s.fget Reg.PMU_PEAK0_WINDOW)
/-- PMU_PEAK0.PSUS as applied, in 100 mW. -/
def State.psus (s : State) : Nat := min 125 (s.fget Reg.PMU_PEAK0_PSUS)
/-- PMU_PEAK0.PPEAK as applied, in 100 mW. -/
def State.ppeak (s : State) : Nat := max s.psus (min 160 (s.fget Reg.PMU_PEAK0_PPEAK))
/-- PMU_PEAK1.RECMIN as applied. -/
def State.recMin (s : State) : Nat := max 10000 (s.fget Reg.PMU_PEAK1_RECMIN)
/-- PMU_PEAK1.RPCT as applied. -/
def State.rpct (s : State) : Nat := max 1 (min 60 (s.fget Reg.PMU_PEAK1_RPCT))
/-- PMU_PEAK1.RWCAP as applied. -/
def State.rwcap (s : State) : Nat := max 1 (min 2 (s.fget Reg.PMU_PEAK1_RWCAP))
/-- PMU_THERM.TTHR as applied, in degrees. -/
def State.tthr (s : State) : Nat := min 110 (s.fget Reg.PMU_THERM_TTHR)
/-- PMU_THERM.THYST as applied. -/
def State.thyst (s : State) : Nat := max 1 (s.fget Reg.PMU_THERM_THYST)
/-- The temperature below which throttling ends, in 1/16 degree. -/
def State.coolTemp (s : State) : Int := ((s.tthr : Int) - (s.thyst : Int)) * 16
/-- PMU_LIMIT.PCTMAX as applied. -/
def State.pctMax (s : State) : Nat := max 1 (min 100 (s.fget Reg.PMU_LIMIT_PCTMAX))
/-- PMU_LIMIT.WCAPMAX as applied. -/
def State.wcapMax (s : State) : Nat := max 1 (min 4 (s.fget Reg.PMU_LIMIT_WCAPMAX))

/-! ### The values the PMU supplies (R561, R562) -/

/-- PMU_CAPS and the values that the MSC and VCDn take from it (R561, R210, R363, R368). -/
def State.supplyCaps (s : State) : State :=
  let recovery := decide (s.fget Reg.PMU_PSTATE_PEAK = 2)
  let xcap := if s.eps = 0 then 4 else if s.eps = 1 then 2 else 0
  let wcap := min xcap (min s.wcapMax (if recovery then s.rwcap else 4))
  let pct := min s.pctMax (if recovery then s.rpct else 100)
  let s := ((s.fput Reg.PMU_CAPS_XCAP xcap).fput Reg.PMU_CAPS_WCAP wcap).fput Reg.PMU_CAPS_PCT pct
  let s := (s.fput Reg.MSC_WCG_STATUS_XFER_CAP xcap).fput Reg.MSC_WCG_STATUS_PMU_CAP wcap
  let s := lanes.foldl (fun (s : State) (n : Fin 4) =>
    if s.fget (Reg.VCDn_STATUS_PCT n) = pct then s else (s.fput (Reg.VCDn_STATUS_PCT n) pct).refreshLimit n) s
  (if s.pmuThrottles then s.captureThrottled else s).refreshRun

/-- RWCn_PEAK.GRANT of lane n (R562): an increase of RWCn_OVERRUN since the last tick starts its RESTORE revolutions anew. -/
def State.grantLane (s : State) (n : Fin 4) : State :=
  let (seen, at') := s.pow.overSeen.get n
  let cnt := (s.rd (Reg.RWCn_OVERRUN n)).toNat
  let at' := if seen < cnt then s.stamp else at'
  let s := s.modPow (fun p => { p with overSeen := p.overSeen.set n (cnt, at') })
  let quiet := decide (cnt = 0) || decide (at' + s.dpi.restore * 2 ^ 32 ≤ s.stamp)
  let grant := decide (s.fget Reg.PMU_PSTATE_PEAK ≠ 2) && decide (s.eps = 0) && ! s.fbit Reg.PMU_LIMIT_NOPEAK && quiet
  s.fput (Reg.RWCn_PEAK_GRANT n) (if grant then 1 else 0)

/-! ### Motor supply (R423, R568) -/

/-- VMOT_POWER_LOSS: VMOT falls below 8.0 V for 64 fabric cycles (R423, R495, R568, R575): the isolation FET opens, the SMC rectifies, every actuator
retracts, writes are inhibited; the dirty ranges go to the fault area. In PS3 and PS4 only VLOSS is set. -/
def State.vmotLoss (s : State) (mv held : Nat) : State :=
  let s := s.senseVmot mv
  if 8000 ≤ mv ∨ held < vmotDwell ∨ s.fbit Reg.PMU_PSTATE_VLOSS then s
  else
    let s := ((s.fput Reg.PMU_PSTATE_VLOSS 1).bump Reg.PMU_VLOSSES).evt Reg.PMU_EVT_STAT_VLOSS .notice
    let tick := s.pow.ticks
    let s := s.modPow (fun p => { p with vmotRun := 0 })
    if 3 ≤ s.eps then s
    else
      let s := s.modPow (fun p => { p with lossTick := some tick, lossAt := some tick })
      let s := { (s.emit (.flashWrite 0xD30000 0x40000)) with recov := { s.recov with faultRanges := s.dirtyRanges, faultVer := s.ns.wseq } }
      let s := ((s.smcNoStart).smcSet 10).modSmc (fun m => { m with iso := false })
      let s := (s.fput Reg.SMC_FAULT_PLOSS 1).evt Reg.SMC_EVT_STAT_PLOSS .fault
      let s := s.raiseRetracts
      lanes.foldl (fun s n => s.winhOn n 3) s

/-- VMOT_RESTORE: VMOT is at or above 9.0 V again: VLOSS clears, and with it the power-loss inhibit (R568, R321). -/
def State.vmotRestore (s : State) (mv : Nat) : State :=
  let s := s.senseVmot mv
  if mv < 9000 ∨ ¬ s.fbit Reg.PMU_PSTATE_VLOSS then s
  else lanes.foldl (fun s n => s.winhOff n 3) (s.fput Reg.PMU_PSTATE_VLOSS 0)

/-- Resident firmware writes SMC_CTRL.START, unless a thermal Fault Stop forbids it yet (R566). -/
def State.fwStart (s : State) : State := if s.pow.coolStart.isSome then s else s.smcStart

/-- VMOT_RESTART_COUNT: VMOT has stayed at or above 9.0 V for 1,000 ticks after a loss: firmware starts the spindle in PS0 to
PS2 (R568). -/
def State.vmotRestart (s : State) : State :=
  if s.pow.lossTick.isNone ∨ s.pow.vmotRun < 1000 ∨ s.pow.coolStart.isSome ∨ 3 ≤ s.eps ∨ s.recov.stopped then s
  else (s.modPow (fun p => { p with lossTick := none })).fwStart

/-- VMOT_LOSS_RUN_TIMEOUT: 60 s after a loss the SMC is not in Run: commands that wait for the medium complete with Namespace
Not Ready (R568). -/
def State.vmotLossTimeout (s : State) : State :=
  match s.pow.lossAt with
  | some t => if s.smcState = 6 ∨ s.pow.ticks < t + 60000 then s else s.waitersNotReady
  | none => s

/-! ### Temperatures (R563 to R566) -/

/-- The highest of the valid readings. -/
def maxTemp : List (Option Int) → Option Int
  | [] => none
  | none :: t => maxTemp t
  | some x :: t => match maxTemp t with | some y => some (max x y) | none => some x

/-- A register image of a reading in 1/16 degree. -/
def tempReg (x : Int) : Nat := (BitVec.ofInt 16 x).toNat

/-- The last valid temperature of a sensor kept (R317). -/
def State.keepTemp (s : State) (k : Nat) (x : Int) : State :=
  { s with pif := { s.pif with lastTemp := sparseInsert k x s.pif.lastTemp } }

/-- The six on-die sensors and the composite of a tick (R563). -/
def State.readDies (s : State) (l : List (Option Int)) : State :=
  let s := (l.zipIdx).foldl (fun s (rk : Option Int × Nat) =>
    match rk.1 with
    | some x => (s.fput (Reg.PMU_TDIE_n_T rk.2) (tempReg x)).fput (Reg.PMU_TDIE_n_VALID rk.2) 1
    | none => s.fput (Reg.PMU_TDIE_n_VALID rk.2) 0) s
  match maxTemp l with
  | some x => ((s.fput Reg.PMU_TCOMP_T (tempReg x)).fput Reg.PMU_TCOMP_VALID 1).keepTemp 4 x
  | none => s.fput Reg.PMU_TCOMP_VALID 0

/-- The composite temperature in 1/16 degree: the last valid one. -/
def State.composite (s : State) : Int := signed16 (s.fget Reg.PMU_TCOMP_T)

/-- Throttling at a tick (R565): 4 ticks at TTHR enter it, 100 at or below TTHR − THYST leave it. -/
def State.thermalTick (s : State) : State :=
  let t := s.composite
  let thr : Int := (s.tthr : Int) * 16
  let hot := if thr ≤ t then s.pow.hot + 1 else 0
  let cool := if t ≤ s.coolTemp then s.pow.cool + 1 else 0
  let start := s.pow.coolStart.bind (fun k => if t < s.coolTemp then (if 99 ≤ k then none else some (k + 1)) else some 0)
  let s := s.modPow (fun p => { p with hot := hot, cool := cool, coolStart := start })
  if ¬ s.fbit Reg.PMU_PSTATE_THROT ∧ 4 ≤ hot then
    (((s.fput Reg.PMU_PSTATE_THROT 1).bump Reg.PMU_THROTS).evt Reg.PMU_EVT_STAT_THROT .notice).asyncAll 1 1 2
  else if s.fbit Reg.PMU_PSTATE_THROT ∧ 100 ≤ cool then s.fput Reg.PMU_PSTATE_THROT 0
  else s

/-- 125 °C on two consecutive ticks is an FT (R566): Fault Stop, after which no start is free until the device has cooled. -/
def State.overTemp (s : State) : State :=
  let k := if 125 * 16 ≤ s.composite then s.pow.fatal + 1 else 0
  let s := s.modPow (fun p => { p with fatal := k })
  if k = 2 then
    (s.modPow (fun p => { p with coolStart := some 0 })).faultStopFor Reg.PMU_EVT_STAT_SHUTDOWN
  else s

/-- The temperature a TMPSEL value names, in Kelvin: the composite, or TD0 to TD3, 0 for a failed diode (R564, R567). -/
def State.kelvin (s : State) (sel : Nat) : Nat :=
  if sel = 0 then ((s.composite + 273 * 16) / 16).toNat
  else if s.fbit (Reg.PMU_TDn_FAIL (sel - 1)) ∨ ¬ s.fbit (Reg.PMU_TDn_VALID (sel - 1)) then 0
  else ((signed16 (s.fget (Reg.PMU_TDn_T (sel - 1))) + 273 * 16) / 16).toNat

/-- The temperature threshold of a controller (FID 0x04): over (THSEL 0) 0xFFFF, under (THSEL 1) 0 until it is set; the over
threshold of the composite is WCTEMP (NVMe 2.0 Base). -/
def State.tempThreshold (s : State) (m : Fin 2) (sel : Nat) (under : Bool) : Nat :=
  match sparseFind (sel + (if under then 16 else 0)) (s.host.ctrls.get m).tempThr with
  | some v => v
  | none => if under then 0 else if sel = 0 then s.tthr + 273 else 0xFFFF

/-- Whether a temperature of a controller's thresholds is crossed: at or above over, or at or below under. -/
def State.tempCrossed (s : State) (m : Fin 2) : Bool :=
  ([0, 1, 2, 3, 4] : List Nat).any (fun k =>
    let t := s.kelvin k
    decide (t ≠ 0) && (decide (s.tempThreshold m k false ≤ t) || decide (t ≤ s.tempThreshold m k true)))

/-- Reports the temperature threshold event on the controllers whose thresholds a tick has newly crossed (R118). -/
def State.tempEvents (s : State) (was : Duo Bool) : State :=
  s.controllers.foldl (fun s m => if s.tempCrossed m ∧ ¬ was.get m then s.asyncEvent m 1 1 2 else s) s

/-- DIODE_CONVERSION: diode k is converted (R564): `v` in 1/16 degree, none when it reads open or shorted. -/
def State.diodeConversion (s : State) (k : Fin 4) (v : Option Int) : State :=
  let ok := v.filter (fun x => decide (-880 ≤ x) && decide (x ≤ 2400))
  match ok with
  | some x =>
    let l := (x :: (sparseFind k.val s.pow.diode).getD []).take 4
    let mean := l.foldl (· + ·) 0 / (l.length : Int)
    let s := s.modPow (fun p =>
      { p with diode := sparseInsert k.val l p.diode, diodeBad := sparseErase k.val p.diodeBad })
    ((s.fput (Reg.PMU_TDn_T k) (tempReg mean)).fput (Reg.PMU_TDn_VALID k) 1).keepTemp k.val mean
  | none =>
    let bad := (sparseFind k.val s.pow.diodeBad).getD 0 + 1
    let s := s.modPow (fun p => { p with diodeBad := sparseInsert k.val bad p.diodeBad })
    let s := (s.bump Reg.PMU_TDINV).note Reg.PMU_TDINV .notice
    if bad = 8 ∧ ¬ s.fbit (Reg.PMU_TDn_FAIL k) then
      (s.fput (Reg.PMU_TDn_FAIL k) 1).evt Reg.PMU_EVT_STAT_TDFAIL .fault
    else s

/-! ### The Peak Window (R559, R560) -/

/-- The peak state and the bucket at a tick, for a device power in mW (R559, R560): at most one row, in table order; then a
Peak tick drains 5 units and a Normal tick refills 1. -/
def State.peakTick (s : State) (p : Nat) : State :=
  let st := s.fget Reg.PMU_PSTATE_PEAK
  let full := 5 * s.peakWindow
  let s := s.modPow (fun q => { q with recTicks := if st = 2 then q.recTicks + 1 else 0, bucket := min full q.bucket })
  let s :=
    if st ≠ 2 ∧ s.ppeak * 100 < p then
      ((s.fput Reg.PMU_PSTATE_PEAK 2).modPow (fun q => { q with bucket := 0, recTicks := 0 })).evt
        Reg.PMU_EVT_STAT_RECOV .notice
    else if st = 0 ∧ s.psus * 100 < p then
      ((s.fput Reg.PMU_PSTATE_PEAK 1).bump Reg.PMU_PEAKS).evt Reg.PMU_EVT_STAT_PEAK .trace
    else if st = 1 ∧ s.pow.bucket = 0 then
      (((s.fput Reg.PMU_PSTATE_PEAK 2).bump Reg.PMU_RECOVS).modPow (fun q => { q with recTicks := 0 })).evt
        Reg.PMU_EVT_STAT_RECOV .notice
    else if st = 1 ∧ p ≤ s.psus * 100 then s.fput Reg.PMU_PSTATE_PEAK 0
    else if st = 2 ∧ s.recMin ≤ s.pow.recTicks ∧ s.composite ≤ (s.fget Reg.PMU_THERM_TREC : Int) * 16 ∧
        p ≤ s.psus * 100 then
      (s.fput Reg.PMU_PSTATE_PEAK 0).modPow (fun q => { q with bucket := full })
    else s
  let now := s.fget Reg.PMU_PSTATE_PEAK
  let s := s.modPow (fun q =>
    { q with bucket := if now = 1 then q.bucket - 5 else if now = 0 then min full (q.bucket + 1) else q.bucket })
  let s := if now = 2 then s.bump Reg.PMU_RECOV_MS else s
  (s.fput Reg.PMU_POWER_P (min 65535 p)).fput Reg.PMU_POWER_BKT (s.pow.bucket / 5)

/-- The device power in mW (R559): the sum over the monitored rails of voltage, in mV, times current, in mA. -/
def devicePower (rails : List (Nat × Nat)) : Nat := rails.foldl (fun acc r => acc + r.1 * r.2) 0 / 1000

/-- PMU_TICK: every 1 ms (R559 to R566, R568): the rail monitors, the on-die readings (1/16 degree) and the sensed supplies. -/
def State.pmuTick (s : State) (rails : List (Nat × Nat)) (dies : List (Option Int)) (vmot vdda : Nat) : State :=
  let p := devicePower rails
  let was : Duo Bool := ⟨s.tempCrossed 0, s.tempCrossed 1⟩
  let s := (s.senseVmot vmot).fput Reg.PMU_VDDA_MV (min 65535 vdda)
  let running := decide (s.smcState = 6)
  let s := s.modPow (fun q => { q with ticks := q.ticks + 1, vmotRun := if 9000 ≤ vmot then q.vmotRun + 1 else 0,
                                       lossAt := if running then none else q.lossAt })
  let s := ((s.readDies (dies.take 6)).thermalTick.peakTick p).supplyCaps
  let s := lanes.foldl (fun s n => s.grantLane n) s
  (s.tempEvents was).overTemp

/-! ### Power states (R553 to R558) -/

/-- The state next to `eps` towards `goal`, in the order of R556's table. -/
def nextPs (eps goal : Nat) : Nat :=
  if eps < goal then (if eps = 0 then (if goal = 1 then 1 else 2) else eps + 1)
  else if goal < eps then (if eps = 2 then goal else eps - 1)
  else eps

/-- The effective state to be reached: the requested one, at least PS1 while throttled (R555). -/
def State.psGoal (s : State) : Nat := max s.psReq (if s.fbit Reg.PMU_PSTATE_THROT then 1 else 0)

/-- The requested state set (R553); an operational one is remembered (R557). -/
def State.setPsReq (s : State) (ps : Nat) : State :=
  let s := s.fput Reg.PMU_PSTATE_REQ ps
  if ps ≤ 1 then s.modPow (fun p => { p with lastOp := ps }) else s

/-- Ends the request under way, completing its command, and takes up the next (R553). -/
def State.endPsReq (s : State) : State :=
  match s.pow.reqs with
  | [] => s
  | (_, arr) :: rest =>
    let s := s.modPow (fun p => { p with reqs := rest })
    let s := match arr with | some a => s.endOk a 0 | none => s
    match rest with
    | (ps, _) :: _ => s.setPsReq ps
    | [] => s

/-- A request is complete once the effective state is the one to be reached. -/
def State.settlePs (s : State) : State := if s.eps = s.psGoal ∧ s.pow.moving = none then s.endPsReq else s

/-- A Set Features Power Management: the request waits for those before it (R553). -/
def State.powerRequest (s : State) (ps : Nat) (arr : Option Nat) : State :=
  let first := s.pow.reqs.isEmpty
  let s := s.modPow (fun p => { p with reqs := p.reqs ++ [(ps, arr)] })
  if first then (s.setPsReq ps).settlePs else s

/-- An I/O command is fetched in PS2 to PS4, or on the way there (R557): the requested state becomes the most recent
operational state; a transition to a non-operational state ends at that moment, and a spindle that was to stop starts again. -/
def State.powerWake (s : State) : State :=
  let s := s.modPow (fun p => { p with spinFail := false })
  if s.psReq < 2 then s
  else
    let back := s.pow.lastOp
    let stop := decide (s.pow.moving = some 3) && decide (s.eps = 2)
    let s := s.modPow (fun p => { p with moving := if s.eps = 3 ∧ p.moving = some 2 then p.moving else none })
    let s := if stop then s.fwStart else s
    match s.pow.reqs with
    | (ps, arr) :: rest =>
      let s := match arr with | some a => if 2 ≤ ps then s.endOk a 0 else s | none => s
      (s.modPow (fun p => { p with reqs := (back, none) :: rest })).setPsReq back
    | [] => (s.modPow (fun p => { p with reqs := [(back, none)] })).setPsReq back

/-- Unloads actuator n once its sequencer has run its operation to the end (R556). -/
def State.unloadWhenIdle (s : State) (n : Fin 4) : State :=
  if s.onDisk n ∧ ¬ s.trsRunning n then s.sceUnload n else s

/-- Whether no actuator is loaded or on its ramp. -/
def State.allUnloaded (s : State) : Bool :=
  lanes.all (fun n => decide ((s.pair.get n).law = 0) || decide ((s.pair.get n).law = 7))

/-- Captures stop and injections end on the way to PS2 (R575). -/
def State.endTests (s : State) : State :=
  let s := ([0, 1] : List (Fin 2)).foldl (fun s u => if (s.cap.get u).st = 0 then s else s.captureEnd u) s
  lanes.foldl (fun s (n : Fin 4) => if s.fbit (Reg.SCE_PAIRn_INJ0_EN n) then s.injectEnd n else s) s

/-- DRAM enters or leaves self-refresh (R459, R557); the scrub passes last longer by the time in it (R468). -/
def State.setSelfRef (s : State) (on : Bool) : State :=
  let t := s.pow.ticks
  let c := s.cycle
  let m := s.memp
  let s := if on then { s with memp := { m with sleepAt := c } }
    else if s.pow.selfRef then
      { s with memp := { m with dStart := m.dStart + (c - m.sleepAt), sStart := m.sStart + (c - m.sleepAt) } }
    else s
  s.modPow (fun p => { p with selfRef := on, refTick := t })

/-- The state `ps` is reached. -/
def State.psReached (s : State) (ps : Nat) : State :=
  ((s.fput Reg.PMU_PSTATE_EPS ps).modPow (fun p => { p with moving := none })).settlePs

/-- Each port requests L1, and L1.1, as far as the host has enabled them (R556). -/
def State.requestL1 (s : State) : State :=
  s.controllers.foldl (fun s m =>
    let c := s.host.cfg.get m
    if c.l1 then s.emit (.l1Request m c.l11) else s) s

/-- A transition to `ps` begins (R556); those that need nothing further are complete at once. -/
def State.psBegin (s : State) (ps : Nat) : State :=
  let eps := s.eps
  let s := s.modPow (fun p => { p with moving := some ps })
  match ps with
  | 0 => s.psReached 0
  | 1 =>
    let s := ([0, 1] : List (Fin 2)).foldl (fun s k => s.ps1Choose k) s
    if 2 ≤ eps then s.psReached 1
    else lanes.foldl (fun s n => if s.heldBack n then s.withdrawCommit n else s) s
  | 2 => if eps = 3 then s.fwStart else s.endTests
  | 3 => if eps = 4 then (s.setSelfRef false).psReached 3 else s.smcStop
  | _ => ((s.setSelfRef true).requestL1).psReached 4

/-- A transition under way goes on (R556). -/
def State.psContinue (s : State) (ps : Nat) : State :=
  let eps := s.eps
  if ps = 1 then
    let off := lanes.filter (fun n => s.heldBack n)
    if off.all (fun n => ! s.onDisk n && decide ((s.pair.get n).law ≠ 6)) then s.psReached 1
    else off.foldl (fun s n => s.unloadWhenIdle n) s
  else if ps = 2 ∧ eps = 3 then (if s.smcState = 6 then s.psReached 2 else s)
  else if ps = 2 then
    if s.dirtyCount ≠ 0 then s
    else if s.allUnloaded then s.psReached 2
    else lanes.foldl (fun s n => s.unloadWhenIdle n) s
  else if ps = 3 then
    (if s.smcState = 0 then s.psReached 3 else if s.smcState = 6 ∧ ¬ s.smc.stopping then s.smcStop else s)
  else s

/-- What the state in force asks of the actuators (R554, R558): in PS1 one that is not its pair's choice unloads, in PS2 every one
does. -/
def State.psHold (s : State) : State :=
  if s.eps = 1 then lanes.foldl (fun (s : State) n => if s.heldBack n then (s.withdrawCommit n).unloadWhenIdle n else s) s
  else if s.eps = 2 then lanes.foldl (fun (s : State) n => s.unloadWhenIdle n) s
  else s

/-- POWER_STATE_TRANSITION: the effective power state moves one state towards the one to be reached (R556): the transition
begins, or the one under way goes on and ends once its actions are done. -/
def State.powerTransition (s : State) : State :=
  match s.pow.moving with
  | some ps => s.psContinue ps
  | none =>
    let ps := nextPs s.eps s.psGoal
    if ps = s.eps then s.psHold.settlePs
    else if s.eps = 3 ∧ ps = 2 ∧ s.pow.spinFail then s
    else
      let s := s.psBegin ps
      match s.pow.moving with
      | some q => s.psContinue q
      | none => s

/-- PS4_WAKE: a doorbell, an MCTP message or a chain request in PS4: the cores and the DRAM wake (R557). -/
def State.ps4Wake (s : State) : State := if s.eps = 4 then s.setSelfRef false else s

/-- SELF_REFRESH_RETURN: 1,000 ms without a further request (R557). -/
def State.selfRefreshReturn (s : State) : State :=
  if s.eps = 4 ∧ ¬ s.pow.selfRef ∧ s.pow.refTick + 1000 ≤ s.pow.ticks then s.setSelfRef true else s

/-- PMU_PSTATE_REQ_WRITE: a firmware core, or permitted JTAG, writes the requested state (R578); from the other masters it has
no effect. A value above 4 names no power state and changes nothing. -/
def State.pstateReqWrite (s : State) (m : Master) (w : Word) : State :=
  let ps := wordBits w 2 0
  if ¬ (m.isCore ∨ (m = .jtag ∧ s.jtagPermitted)) ∨ 4 < ps then s else s.setPsReq ps

/-- PS1_CHOICE_HOLDOFF_END: 64 revolutions after a pair's last change of choice a deferred choice is made (R558). -/
def State.choiceHoldoff (s : State) (k : Fin 2) : State :=
  let ended : Bool := match s.pow.choiceAt.get k with | some t => decide (t + 64 * 2 ^ 32 ≤ s.stamp) | none => true
  if s.pow.choiceDue.get k ∧ ended ∧ s.inPs1 then s.ps1Choose k else s

/-! ### Loading and restoring actuators (R570 to R572, R585, R586) -/

/-- Whether a retract of actuator n runs. -/
def State.retracting (s : State) (n : Fin 4) : Bool := decide ((s.pair.get n).retract ≠ 0)

/-- The law code of a pair. -/
def State.pairLaw (s : State) (n : Fin 4) : Nat := (s.pair.get n).law

/-- ACTUATOR_LOAD: firmware loads a Parked actuator when R572's conditions hold; in PS1 the chosen one, after the other has
unloaded (R558). -/
def State.actuatorLoad (s : State) (n : Fin 4) : State :=
  let power := decide (s.eps ≤ 1) && (decide (s.pow.moving = none) || decide (s.pow.moving = some 1)) && ! s.heldBack n &&
    (! s.inPs1 || (! s.onDisk (partner n) && decide (s.pairLaw (partner n) ≠ 6)))
  if s.msc.avail.get n = .parked ∧ (s.pairLaw n = 0 ∨ s.pairLaw n = 7) ∧ power ∧ s.smcState = 6 ∧
      s.fbit Reg.ATB_STATUS_QUAL ∧ ¬ s.retracting n ∧ ¬ s.recov.stopped ∧ s.actEnabled n then s.sceLoad n
  else s

/-- ACTUATOR_RESTORE: a Degraded actuator is Available again under R570; one in Reduced for RESTORE revolutions without a late
output resumes. -/
def State.actuatorRestore (s : State) (n : Fin 4) : State :=
  let wait := s.dpi.restore * 2 ^ 32
  let since := decide (s.msc.escStamp.get n = 0) || decide (s.msc.escStamp.get n + wait ≤ s.stamp)
  let noLate : Bool := match (s.pair.get n).lateAt with | some t => decide (t + wait ≤ s.stamp) | none => true
  if s.msc.avail.get n ≠ .degraded then s
  else if s.pairLaw n = 3 ∧ ¬ s.pairImpaired n ∧ since then s.setAvail n .available
  else if s.pairLaw n = 4 ∧ (s.pair.get n).since + wait ≤ s.stamp ∧ noLate then s.sceResume n
  else s

/-- Whether a load of actuator n has come to nothing: its heads are off the disk and neither on their way there nor asked to
be. -/
def State.loadFailed (s : State) (n : Fin 4) : Bool :=
  (decide (s.pairLaw n = 0) || decide (s.pairLaw n = 7) || (decide (s.pairLaw n = 6) && ! (s.pair.get n).rampIn)) &&
    ! (s.pair.get n).loadReq

/-- Whether an Out actuator may be tried again (R571). -/
def State.restorable (s : State) (n : Fin 4) : Bool :=
  match s.msc.outCause.get n with
  | none => false
  | some .escape => false
  | some .dpi => false
  | some .fenced => decide (s.fget (Reg.SRFn_STATUS_XSTATE n) = 2) || decide (s.fget (Reg.SRFn_STATUS_YSTATE n) = 2)
  | some _ => true

/-- OUT_RESTORE_ATTEMPT: firmware tries to restore an Out actuator, or judges the try under way (R571): 64 revolutions in
Follow without a late output, a judgment or an overcurrent trip make it Degraded; otherwise it unloads and stays Out. -/
def State.outRestore (s : State) (n : Fin 4) : State :=
  if s.msc.avail.get n ≠ .out then s
  else
    match s.msc.trial.get n with
    | none =>
      if s.restorable n ∧ s.msc.escStamp.get n + s.dpi.restore * 2 ^ 32 ≤ s.stamp ∧
          s.msc.restoreTries.get n < s.dpi.outRetry ∧ ¬ s.recov.stopped ∧ s.eps = 0 ∧ s.pow.moving = none ∧ s.smcState = 6 ∧
          ¬ s.retracting n then
        let now := s.stamp
        (s.modMsc (fun m => { m with trial := m.trial.set n (some now),
                                     restoreTries := m.restoreTries.set n (m.restoreTries.get n + 1) })).sceLoad n
      else s
    | some t =>
      let bad : Bool := match (s.pair.get n).badAt with | some b => decide (t ≤ b) | none => false
      let ended := s.modMsc (fun m => { m with trial := m.trial.set n none })
      if bad ∨ s.pairLaw n = 4 ∨ s.pairLaw n = 5 ∨ s.loadFailed n then ended.sceUnload n
      else if s.pairLaw n = 3 ∧ t + 64 * 2 ^ 32 ≤ s.stamp then
        let now := s.stamp
        (ended.modMsc (fun m => { m with outCause := m.outCause.set n none, escStamp := m.escStamp.set n now })).setAvail n
          .degraded
      else s

/-- The actuators of a pair that the DPI enables and that are not Out. -/
def State.pairUsable (s : State) (k : Fin 2) : List (Fin 4) :=
  let (a, b) := ps1Pair k
  [a, b].filter (fun n => s.actEnabled n && decide (s.msc.avail.get n ≠ .out))

/-- The actuator to load first in a pair (R585): the lower-numbered one; after a load that ended in an unload, the partner. -/
def State.firstNext (s : State) (k : Fin 2) : Option (Fin 4) :=
  match s.pow.firstAct.get k with
  | none => (s.pairUsable k).head?
  | some a =>
    let b := partner a
    if s.loadFailed a ∧ (s.pairUsable k).contains b ∧ a.val < b.val ∧ s.pairLaw b = 0 then some b else none

/-- The first load of a pair. -/
def State.firstLoad (s : State) (k : Fin 2) : State :=
  match s.firstNext k with
  | some n => (s.modPow (fun p => { p with firstAct := p.firstAct.set k (some n) })).sceLoad n
  | none => s

/-- A start-up media failure (R586): the actuators unload, the spindle stops, a Fault event is offered, waiting commands complete
with Namespace Not Ready. -/
def State.mediaFails (s : State) : State :=
  let s := lanes.foldl (fun s n => if s.pairLaw n = 0 ∨ s.pairLaw n = 7 then s else s.sceUnload n) s
  let s := (s.modPow (fun p => { p with firstAct := Duo.all none })).fwPost 586 .fault none []
  s.smcStop.spinUpFailed

/-- Whether the first loads have begun and the SMC is not in Run yet. -/
def State.firstBegun (s : State) : Bool :=
  (s.pow.firstAct.b0.isSome || s.pow.firstAct.b1.isSome) && decide (s.smcState ≠ 6)

/-- FIRST_LOADS: once the SMC has offered SPUN, firmware acquires the angle and loads one actuator per pair (R585); with none to
load, no actuator can reach Follow. -/
def State.firstLoads (s : State) : State :=
  if s.recov.stopped then s
  else if s.smc.spun then
    let s := (s.modSmc (fun m => { m with spun := false })).atbFree.atbAcq
    if (s.pairUsable 0).isEmpty ∧ (s.pairUsable 1).isEmpty then s.mediaFails
    else ([0, 1] : List (Fin 2)).foldl (fun s k => s.firstLoad k) s
  else if s.firstBegun then ([0, 1] : List (Fin 2)).foldl (fun s k => s.firstLoad k) s
  else s

/-- Whether the media path is ready (R586). -/
def State.mediaReady (s : State) : Bool := decide (s.smcState = 6) && lanes.any (fun n => decide (s.pairLaw n = 3))

/-- MEDIA_NOT_READY_TIMEOUT: 60 s after its admission a command still waits for the medium (R586). -/
def State.notReadyTimeout (s : State) (arr : Nat) : State :=
  if ¬ s.mediaReady ∧ s.mediaWaiters.any (fun c => decide (c.arr = arr) && decide (c.admitCycle + 60 * 10 ^ 9 ≤ s.cycle)) then s.notReady arr else s

/-- START_UP_MEDIA_FAILURE: every first load has come to nothing (R586). -/
def State.mediaFailure (s : State) : State :=
  if s.firstBegun ∧ lanes.all (fun n => s.loadFailed n) ∧ (s.firstNext 0).isNone ∧ (s.firstNext 1).isNone then s.mediaFails
  else s

end Sys2Proof.Machine
end

