-- ==== Sys2Proof/Machine/Nspace.lean ====
section
/-!
DEFINITION. Sys2Proof/Machine/Nspace.lean: namespaces, zones and the media map (spec/05_namespaces_zones_media_map.md, R156 to
R170, R179, R184, R185, R187): band geometry and capacity, binding of zones, zone limits and the checks of a tail grant, the
outcome of a read, the media form of data, and the Locking table's effect on a command.
-/
namespace Sys2Proof.Machine

/-- LBAs of a zone and of a zone unit (R160). -/
def zoneLbas : Nat := 65536

/-- The zone units of a namespace. -/
def Ns.units (n : Ns) : Nat := n.nsze / zoneLbas

/-- Whether a namespace is zoned, compressed or not. -/
def Ns.zoned (n : Ns) : Bool := decide (n.kind ≠ .conventional)

/-- Whether a namespace is compressed. -/
def Ns.compressed (n : Ns) : Bool := decide (n.kind = .compressed)

/-! ### Capacity (R167, R170) -/

/-- The full bands a namespace of a kind, zone units and RATIO reserves (R170). -/
def reserveBands (kind : NsKind) (units ratio : Nat) : Nat :=
  match kind with
  | .conventional => (units * 17 + 15) / 16
  | .zoned => units
  | .compressed => (units + ratio - 1) / ratio

/-- The full bands reserved by all namespaces. -/
def State.reservedBands (s : State) : Nat := s.ns.list.foldl (fun acc n => acc + n.bands) 0

/-- The full bands not reserved. -/
def State.unreservedBands (s : State) : Nat := s.dpi.allBands - s.reservedBands

/-- The data sectors of n sectors of a sub-band, with track parity on or off (R167). -/
def dataSectors (n : Nat) (noParity : Bool) : Nat := if noParity then n else 64 * (n / 65) + (n % 65 - 1)

/-- The data sectors of a sub-band of a recording zone (R167). -/
def subSectors (d : DpiImage) (surf rz ratio : Nat) (noParity : Bool) : Nat :=
  dataSectors ((d.bt surf rz / ratio - d.guard) * d.spt surf rz) noParity

/-- PCAP of a bound zone of a compressed namespace (R167, R446). -/
def State.pcap (s : State) (n : Ns) (z : Zone) : Nat :=
  match z.band with
  | none => 0
  | some (surf, band, _) =>
    match s.dpi.bandZone surf band with
    | some rz => subSectors s.dpi surf rz n.ratio n.noParity
    | none => 0

/-- PMIN: the least data-sector count of any sub-band of the namespace's RATIO and track parity on the drive (R450). -/
def State.pmin (s : State) (n : Ns) : Nat :=
  let l := (List.range 20).flatMap (fun surf =>
    ((List.range (s.dpi.rzCount surf)).filter (fun k => decide (0 < s.dpi.bands surf k))).map (fun k =>
      subSectors s.dpi surf k n.ratio n.noParity))
  match l with
  | [] => 0
  | x :: t => t.foldl min x

/-! ### Zone states and limits (R160, R161) -/

/-- Whether a zone is open. -/
def Zone.open? (z : Zone) : Bool := decide (z.st = .implOpen) || decide (z.st = .explOpen)

/-- Whether a zone is active: open or Closed. -/
def Zone.active (z : Zone) : Bool := z.open? || decide (z.st = .closed)

/-- The open zones of a namespace. -/
def Ns.openCount (n : Ns) : Nat := n.zones.countP (fun z => z.2.open?)

/-- The active zones of a namespace. -/
def Ns.activeCount (n : Ns) : Nat := n.zones.countP (fun z => z.2.active)

/-- The open zones of all namespaces, or of the compressed ones. -/
def State.openZones (s : State) (comp : Bool) : Nat :=
  s.ns.list.foldl (fun acc n => if comp ∧ ¬ n.compressed then acc else acc + n.openCount) 0

/-- Whether a zone of a namespace cannot be made active or open: the status, or none (R160, R161). -/
def State.openRefused (s : State) (n : Ns) (z : Zone) : Option Status :=
  if ¬ z.active ∧ 4096 ≤ n.activeCount then some St.manyActive
  else if z.open? then none
  else if (if n.compressed then 256 else 1024) ≤ n.openCount ∨ 4096 ≤ s.openZones false ∨
      (n.compressed ∧ 256 ≤ s.openZones true) then some St.manyOpen
  else none

/-! ### Binding (R168, R169) -/

/-- The zones bound to a full band, as (namespace kind and RATIO, sub-band). -/
def State.bandUsers (s : State) (surf band : Nat) : List (NsKind × Nat × Nat) :=
  s.ns.list.flatMap (fun n => n.zones.filterMap (fun z =>
    match z.2.band with
    | some (sf, b, i) => if sf = surf ∧ b = band then some (n.kind, n.ratio, i) else none
    | none => none))

/-- Where the blocks of conventional namespaces lie on the medium: namespace, surface and band of each (R179). -/
def State.convPlaces (s : State) : List (Nat × Nat × Nat) :=
  s.ns.blocks.filterMap (fun kb =>
    let nsid := kb.1 / 2 ^ 40
    match kb.2.place, s.nspace nsid with
    | some (surf, band), some n => if n.zoned then none else some (nsid, surf, band)
    | _, _ => none)

/-- Whether a band, or a sub-band of it, is free for a zone of a namespace: a band that holds conventional blocks is not. -/
def State.bandFree (s : State) (n : Ns) (surf band sub : Nat) : Bool :=
  let u := s.bandUsers surf band
  decide (band < s.dpi.surfBands surf) && ! s.convPlaces.any (fun x => decide (x.2 = (surf, band))) &&
    (if n.compressed then decide (sub < n.ratio) && u.all (fun x => decide (x.1 = .compressed ∧ x.2.1 = n.ratio ∧ x.2.2 ≠ sub))
     else decide (sub = 0) && u.isEmpty)

/-- The full bands of a surface in use by zones or by conventional blocks. -/
def State.usedBands (s : State) (surf : Nat) : List Nat :=
  (s.ns.list.flatMap (fun n => n.zones.filterMap (fun z =>
    match z.2.band with
    | some (sf, b, _) => if sf = surf then some b else none
    | none => none)) ++
    (s.convPlaces.filter (fun x => decide (x.2.1 = surf))).map (fun x => x.2.2)).eraseDups

/-- The bands that hold blocks of a conventional namespace. -/
def State.convBands (s : State) (nsid : Nat) : List (Nat × Nat) :=
  ((s.convPlaces.filter (fun x => decide (x.1 = nsid))).map (·.2)).eraseDups

/-- Whether a surface has free space in a conventional namespace's reserved bands (R170, R179): in a band that holds blocks of it, which
takes 65,536 (R167), or in a free band while it uses fewer than it has reserved. -/
def State.convSpace (s : State) (n : Ns) (surf : Nat) : Bool :=
  let l := s.convBands n.nsid
  l.any (fun b => decide (b.1 = surf) && decide (s.convPlaces.countP (fun x => decide (x = (n.nsid, b))) < zoneLbas)) ||
    (decide (l.length < n.bands) && decide ((s.usedBands surf).length < s.dpi.surfBands surf))

/-- Whether a surface qualifies for binding a zone of a namespace (R169). -/
def State.surfQualifies (s : State) (n : Ns) (surf : Nat) : Bool :=
  let used := s.usedBands surf
  s.surfWritable surf && (decide (used.length < s.dpi.surfBands surf) ||
    (n.compressed && used.any (fun b => (List.range n.ratio).any (fun i => s.bandFree n surf b i))))

/-- The open zones bound in a half of the stack: S0 to S9 (false) or S10 to S19. -/
def State.halfOpen (s : State) (half : Bool) : Nat :=
  s.ns.list.foldl (fun acc n => acc + n.zones.countP (fun z =>
    z.2.open? && (match z.2.band with | some (sf, _, _) => decide (decide (10 ≤ sf) = half) | none => false))) 0

/-- The half in which a zone is to be bound (R169); none when no surface qualifies. -/
def State.bindHalf (s : State) (n : Ns) : Option Bool :=
  let has (h : Bool) : Bool := (List.range 10).any (fun k => s.surfQualifies n (if h then 10 + k else k))
  let pref : Bool := if s.halfOpen false < s.halfOpen true then false
    else if s.halfOpen true < s.halfOpen false then true else ! s.ns.lastHalf
  if has pref then some pref else if has (! pref) then some (! pref) else none

/-! ### Reports of zone and namespace changes -/

/-- The controllers a namespace is attached to. -/
def Ns.ctrls (n : Ns) : List (Fin 2) := ([0, 1] : List (Fin 2)).filter (fun m => n.att.get m)

/-- A zone's change is reported: the Changed Zone List and the zone descriptor changed event (R164, R447, R118). -/
def State.zoneChanged (s : State) (nsid z : Nat) : State :=
  match s.nspace nsid with
  | none => s
  | some n => n.ctrls.foldl (fun s m =>
      (s.modHost (fun h => { h with ctrls := h.ctrls.modify m (fun c =>
        { c with chgZones := if c.chgZones.contains (nsid, z) then c.chgZones else c.chgZones ++ [(nsid, z)] }) })).asyncEvent
        m 2 0xEF 0xBF) s

/-- A namespace attribute change is reported on a controller (R118; NVMe 2.0 Base): the Changed Namespace List and the
Notice. -/
def State.nsChanged (s : State) (m : Fin 2) (nsid : Nat) : State :=
  (s.modHost (fun h => { h with ctrls := h.ctrls.modify m (fun c =>
    { c with chgNs := if c.chgNs.contains nsid then c.chgNs else c.chgNs ++ [nsid] }) })).asyncEvent m 2 0 4

/-- A zone of a namespace changed. -/
def State.modZone (s : State) (nsid z : Nat) (f : Zone → Zone) : State :=
  s.modNs nsid (fun n => n.setZone z (f (n.zone z)))

/-- The stamp of a compressed zone's extension after an update (R449). -/
def State.zoneStamp (s : State) (nsid z : Nat) : State :=
  let t := s.stamp
  s.modZone nsid z (fun v => { v with comp := { v.comp with upd := t } })

/-! ### The outcome of a read (R163, R179, R182) -/

/-- Outcomes of one block of a read, the first of them prevailing (R163). -/
inductive ReadOutcome where
  | offline | failed | noActuator | unwritten | ok
  deriving DecidableEq, Repr

/-- The rank of an outcome in R163's order. -/
def ReadOutcome.rank : ReadOutcome → Nat
  | .offline => 0
  | .failed => 1
  | .noActuator => 2
  | .unwritten => 3
  | .ok => 4

/-- Whether both heads of a surface are lost for writing, or for reading: each retired, or not present. -/
def State.surfLost (s : State) (surf : Nat) (write : Bool) : Bool :=
  let (a, b) := surfActuators surf
  ([a, b] : List (Fin 4)).all (fun n =>
    let h := laneHead n surf
    ! s.dpi.headPresent h || (if write then (s.head h).retWrite else (s.head h).retRead))

/-- The outcome of one block of a read in a namespace (R163, R117): dirty and cached data need no actuator (R451); a
conventional block lies on the surface it was written to (R179), and reads as unrecovered once both heads there are lost for
reading (R182). -/
def State.readBlock (s : State) (n : Ns) (lba : Nat) : ReadOutcome :=
  let z := n.zone (lba / zoneLbas)
  let b := s.block n.nsid lba
  let below := ! n.zoned || decide (lba % zoneLbas < z.wp)
  if n.zoned ∧ z.st = .offline then .offline
  else
    match b with
    | none => .unwritten
    | some b =>
      if ¬ below then .unwritten
      else if b.failed ∨ b.unrec then .failed
      else if b.dirty then .ok
      else if n.zoned then
        match z.band with
        | some (surf, _, _) => if s.surfReadable surf then .ok else .noActuator
        | none => .ok
      else
        match b.place with
        | some (surf, _) => if s.surfLost surf false then .failed else if s.surfReadable surf then .ok else .noActuator
        | none => .ok

/-- The outcome of a read of a range: the first of R163's order among its blocks. -/
def State.readOutcome (s : State) (n : Ns) (lo cnt : Nat) : ReadOutcome :=
  (List.range cnt).foldl (fun acc i =>
    let o := s.readBlock n (lo + i)
    if o.rank < acc.rank then o else acc) .ok

/-- The status of a read's outcome: an unwritten block reads as zeros unless DULBE is 1 (R163, R117). -/
def State.readStatus (s : State) : ReadOutcome → Option Status
  | .offline => some St.zoneOffline
  | .failed => some St.readError
  | .noActuator => some s.unreachable
  | .unwritten => if s.host.dulbe then some St.unwritten else none
  | .ok => none

/-- The 4,096 bytes of a block as listed non-zero bytes at an offset. -/
def blockBytes (off : Nat) (l : List Byte) : List (Nat × Byte) :=
  (l.take 4096).zipIdx.filterMap (fun bi => if bi.1 = 0#8 then none else some (off + bi.2, bi.1))

/-! ### Media form (R32, R183 to R185) -/

/-- The key-band rows of a namespace (R185): rows 64 to 127. -/
def State.keyBands (s : State) (nsid : Nat) : List (Nat × LockRow) :=
  s.xts.rows.filter (fun r => decide (64 ≤ r.1) && decide (r.2.nsid = nsid) && decide (0 < r.2.len))

/-- The key slot of an LBA: that of the key band that holds it, else that of its namespace's global range (R183, R185). -/
def State.slotOf (s : State) (nsid lba : Nat) : Nat :=
  match (s.keyBands nsid).find? (fun r => decide (r.2.lo ≤ lba) && decide (lba < r.2.lo + r.2.len)) with
  | some r => r.1
  | none => nsid - 1

/-- The 128-bit tweak of a data unit as a number, byte 0 lowest (R184): the LBA, or the ordinal of a compressed zone's sector, and the
NSID. -/
def tweakOf (num nsid : Nat) : Nat := num % 2 ^ 64 + nsid % 2 ^ 32 * 2 ^ 64

/-- The number in the tweak of physical sector `ord` of a compressed zone (R184). -/
def zoneTweak (z ord : Nat) : Nat := z * 2 ^ 17 + ord

/-- The ordinal of data sector o among the physical sectors of its zone (R167, R184): with track parity on, a parity sector follows every
64 data sectors. -/
def physOrdinal (n : Ns) (o : Nat) : Nat := if n.noParity then o else o + o / 64

/-- A data unit of 4,096 bytes encrypted, or decrypted, under the key of a slot (R184); nothing when the slot is empty (R189). -/
def State.xtsUnit (s : State) (dec : Bool) (slot num nsid : Nat) (l : List Byte) : List Byte :=
  match sparseFind slot s.xts.keys with
  | some k => (Crypto.xts dec k (tweakOf num nsid) (Crypto.nats (padTo 4096 l))).map (BitVec.ofNat 8)
  | none => []

/-- The media form of a block of a conventional or zoned namespace. -/
def State.mediaForm (s : State) (nsid lba : Nat) (l : List Byte) : List Byte := s.xtsUnit false (s.slotOf nsid lba) lba nsid l

/-- The host's form of a block from its media form, under the key that its slot holds now. -/
def State.hostForm (s : State) (nsid lba : Nat) (l : List Byte) : List Byte := s.xtsUnit true (s.slotOf nsid lba) lba nsid l

/-- The bytes a read of a range of a conventional or zoned namespace returns: the decrypted data of blocks that hold data below the write
pointer, zeros elsewhere. -/
def State.readBytes (s : State) (n : Ns) (lo cnt : Nat) : List (Nat × Byte) :=
  (List.range cnt).flatMap (fun i =>
    match s.block n.nsid (lo + i) with
    | some b => if s.readBlock n (lo + i) = .ok then blockBytes (4096 * i) (s.hostForm n.nsid (lo + i) b.data) else []
    | none => [])

/-! ### Locking (R183, R185, R187) -/

/-- The LBAs that two half-open ranges share. -/
def overlapLen (a b c d : Nat) : Nat := min b d - max a c

/-- The rows whose ranges hold LBAs of [lo, hi) of a namespace: its key bands, and the global range of what they leave
(R185). -/
def State.rowsOf (s : State) (nsid lo hi : Nat) : List Nat :=
  let l := (s.keyBands nsid).filter (fun r => decide (0 < overlapLen lo hi r.2.lo (r.2.lo + r.2.len)))
  let covered := l.foldl (fun acc r => acc + overlapLen lo hi r.2.lo (r.2.lo + r.2.len)) 0
  (if covered < hi - lo then [nsid - 1] else []) ++ l.map (·.1)

/-- Row k of the Locking table. -/
def State.lockRow (s : State) (k : Nat) : LockRow := (sparseFind k s.xts.rows).getD ⟨0, 0, 0, false, false, false, false⟩

/-- Whether an access of [lo, hi) is locked (R187). -/
def State.rangeLocked (s : State) (nsid lo hi : Nat) (write : Bool) : Bool :=
  (s.rowsOf nsid lo hi).any (fun k => if write then (s.lockRow k).wl else (s.lockRow k).rl)

/-- Whether a key slot that a transfer of [lo, hi) names is empty (R189). -/
def State.slotEmpty (s : State) (nsid lo hi : Nat) : Bool :=
  (s.rowsOf nsid lo hi).any (fun k => (sparseFind k s.xts.keys).isNone)

/-! ### Create, attach and the checks of a create (R158) -/

/-- The lowest NSID from 1 to 64 that no namespace has. -/
def State.freeNsid (s : State) : Option Nat :=
  ((List.range 64).map (· + 1)).find? (fun k => (s.nspace k).isNone)

/-- The kind that CSI and CFLAGS name, or none when they break the table of R158. -/
def nsKindOf (csi cflags : Nat) : Option NsKind :=
  if 4 ≤ cflags then none
  else if csi = 0 then (if cflags.testBit 0 then none else some .conventional)
  else if csi = 2 then some (if cflags.testBit 0 then .compressed else .zoned)
  else none

/-- The namespace a create makes, or none when it breaks a rule of R158. -/
def State.nsToCreate (s : State) (nsze ncap flbas dps csi cflags ratio : Nat) : Option Ns :=
  match nsKindOf csi cflags, s.freeNsid with
  | some kind, some id =>
    let units := nsze / zoneLbas
    let ratioOk := if kind = .compressed then decide (ratio = 1 ∨ ratio = 2 ∨ ratio = 4) else decide (ratio = 0)
    let maxSz := if kind = .conventional then 2 ^ 37 else 2 ^ 36
    if nsze = 0 ∨ nsze % zoneLbas ≠ 0 ∨ maxSz < nsze ∨ ncap ≠ nsze ∨ flbas ≠ 0 ∨ dps ≠ 0 ∨ ¬ ratioOk ∨
        s.unreservedBands < reserveBands kind units ratio then none
    else
      some ⟨id, kind, nsze, ratio, cflags.testBit 1, reserveBands kind units ratio, Duo.all false, [],
        ⟨0, none, [], 0, false⟩⟩
  | _, _ => none

end Sys2Proof.Machine
end

