-- ==== Sys2Proof/Machine/Cxe.lean ====
section
/-!
DEFINITION. Sys2Proof/Machine/Cxe.lean: the compression engine and compressed zones (spec/13_compression.md): blocks, seals and
the space check, stream contexts, the zone descriptor extension, the decompressor and its errors, and log page 0xC3.
-/
namespace Sys2Proof.Machine

/-! ### The decompressor (R434 to R437, R452) -/

/-- A stored block as a decompressor meets it (R434, R437): its 16 header bytes, its payload, the uncompressed bytes of the chunk
from the nearest block with FIRST = 1 before it, whether every earlier block its history needs decoded, and the ZLBA and NLB
that the media map records for it. -/
structure CxeBlock where
  hdr : List Byte
  payload : List Byte
  history : List Byte
  chainOk : Bool
  zlba : Nat
  nlb : Nat
  deriving DecidableEq, Repr

/-- w bits of a payload, given as a number, from a bit position (R436). -/
def payBits (x pos w : Nat) : Nat := x / 2 ^ pos % 2 ^ w

/-- Bits of a DVAL and the first distance of a distance class (R436). -/
def distClass (c : Nat) : Nat × Nat :=
  if c = 0 then (6, 1) else if c = 1 then (10, 65) else if c = 2 then (13, 1089) else (16, 1)

/-- A match of L bytes from D bytes back, one byte at a time; the output is held last byte first. -/
def copyMatch (d : Nat) : Nat → List Byte → List Byte
  | 0, rev => rev
  | k + 1, rev => copyMatch d k (rev.getD (d - 1) 0#8 :: rev)

/-- The token loop of R437: the output, last byte first and history included, and the bit position after the End token, or the
cause of the error (R452). `x` is the payload as a number and `n` its length in bits. -/
def decodeTokens (x n hist lim : Nat) : Nat → Nat → List Byte → Except Nat (List Byte × Nat)
  | 0, _, _ => .error 5
  | fuel + 1, pos, rev =>
    if n < pos + 1 then .error 5
    else if payBits x pos 1 = 0 then
      if n < pos + 9 then .error 5
      else if hist + lim < rev.length + 1 then .error 3
      else decodeTokens x n hist lim fuel (pos + 9) (BitVec.ofNat 8 (payBits x (pos + 1) 8) :: rev)
    else if n < pos + 4 then .error 5
    else
      let l3 := payBits x (pos + 1) 3
      if l3 = 7 ∧ n < pos + 12 then .error 5
      else if l3 = 7 ∧ payBits x (pos + 4) 8 = 255 then .ok (rev, pos + 12)
      else
        let len := if l3 < 7 then l3 + 3 else payBits x (pos + 4) 8 + 10
        let p := if l3 < 7 then pos + 4 else pos + 12
        if n < p + 2 then .error 5
        else
          let (w, base) := distClass (payBits x p 2)
          if n < p + 2 + w then .error 5
          else
            let d := payBits x (p + 2) w + base
            if rev.length < d ∨ 65536 < d then .error 2
            else if hist + lim < rev.length + len then .error 3
            else decodeTokens x n hist lim fuel (p + 2 + w) (copyMatch d len rev)

/-- A header byte. -/
def hdrByte (b : CxeBlock) (k : Nat) : Nat := (b.hdr.getD k 0#8).toNat

/-- The decoding of a stored block (R437, R452): its uncompressed bytes, or the cause of the error. -/
def decodeBlock (b : CxeBlock) : Except Nat (List Byte) :=
  let kind := hdrByte b 2
  let nlb := hdrByte b 6
  let clen := leNat ((b.hdr.drop 8).take 4)
  let crc := leNat ((b.hdr.drop 12).take 4)
  if hdrByte b 0 + 256 * hdrByte b 1 ≠ 0x7A43 ∨ kind = 0 ∨ 3 < kind ∨ 8 ≤ hdrByte b 3 ∨ hdrByte b 7 ≠ 0 then .error 1
  else if hdrByte b 4 + 256 * hdrByte b 5 ≠ b.zlba ∨ nlb ≠ b.nlb then .error 8
  else if ¬ b.chainOk then .error 7
  else if kind = 3 then .ok []
  else
    let hist := if hdrByte b 3 % 2 = 1 then [] else b.history
    let pay := b.payload.take clen
    let out : Except Nat (List Byte) :=
      if kind = 2 then
        (if pay.length < clen then .error 5 else .ok pay)
      else
        let x := leNat pay
        let n := 8 * pay.length
        match decodeTokens x n hist.length (4096 * nlb) (n + 1) 0 hist.reverse with
        | .error e => .error e
        | .ok (rev, pos) =>
          if x / 2 ^ pos ≠ 0 then .error 1 else .ok (rev.reverse.drop hist.length)
    match out with
    | .error e => .error e
    | .ok o =>
      if 4096 * nlb < o.length then .error 3
      else if o.length < 4096 * nlb then .error 4
      else if crc32c o ≠ crc then .error 6
      else .ok o

/-! ### Statistics -/

/-- A total of log page 0xC3 raised (R455). -/
def State.addStat (s : State) (off k : Nat) : State :=
  let v := ((sparseFind off s.ns.cstats).getD 0 + k) % 2 ^ 64
  s.modNsSt (fun x => { x with cstats := sparseInsert off v x.cstats })

/-- A total of log page 0xC3. -/
def State.stat (s : State) (off : Nat) : Nat := (sparseFind off s.ns.cstats).getD 0

/-! ### Blocks, seals and the space check (R433 to R440, R446) -/

/-- A number rounded up to a multiple of 16. -/
def up16 (x : Nat) : Nat := (x + 15) / 16 * 16

/-- Whether a block of m LBAs with a payload is stored raw (R435); an empty payload is one not below m × 4,096 bytes. -/
def rawBlock (m : Nat) (pay : List Byte) : Bool := pay.isEmpty || decide (m * 4096 ≤ up16 pay.length)

/-- The stored size of a block of m LBAs (R434, R435). -/
def blockSize (m : Nat) (pay : List Byte) : Nat := if rawBlock m pay then 16 + m * 4096 else 16 + up16 pay.length

/-- A block header (R434). -/
def blockHeader (kind flags zlba nlb clen crc : Nat) : List Byte :=
  leBytes 0x7A43 2 ++ leBytes kind 1 ++ leBytes flags 1 ++ leBytes zlba 2 ++ leBytes nlb 1 ++ leBytes 0 1 ++ leBytes clen 4 ++
    leBytes crc 4

/-- The stored bytes of a block of m LBAs from ZLBA, with an input and a payload (R434, R435). -/
def blockOut (m zlba flags : Nat) (inp pay : List Byte) : List Byte :=
  let data := padTo (m * 4096) inp
  if rawBlock m pay then blockHeader 2 flags zlba m (m * 4096) (crc32c data) ++ data
  else blockHeader 1 flags zlba m (up16 pay.length) (crc32c data) ++ padTo (up16 pay.length) pay

/-- A pad block that takes `gap` bytes of the stream (R439). -/
def padOut (gap : Nat) : List Byte := blockHeader 3 0 0 0 (gap - 16) 0 ++ List.replicate (gap - 16) 0#8

/-- A compression run over a zone: the stream, and the bytes taken in, the bytes of completed blocks, the blocks and the raw
blocks it adds; the bytes it adds to the stream, and whether every payload codes its input. -/
structure CxeRun where
  c : CompSt
  inp : Nat
  out : Nat
  blocks : Nat
  raws : Nat
  bytes : List Byte
  good : Bool
  deriving DecidableEq, Repr

/-- A run over a stream that has taken nothing. -/
def CxeRun.start (c : CompSt) : CxeRun := ⟨c, 0, 0, 0, 0, [], true⟩

/-- Whether the block that begins at a zone-relative LBA has FIRST = 1: of the coalesced class (R432), after a loss of history, or the
first of its chunk (R431, R436). -/
def CompSt.isFirst (c : CompSt) (zlba : Nat) : Bool := decide (c.cls = some false) || c.first || decide (zlba % 256 = 0)

/-- The history of the open block (R432, R437). -/
def CompSt.past (c : CompSt) (zlba : Nat) : List Byte := if c.isFirst zlba then [] else c.hist

/-- The bits of the tokens before End of a payload that codes the open block's input after its history (R436, R437), none when it does
not. -/
def CompSt.tokens (c : CompSt) (zlba : Nat) (pay : List Byte) : Option Nat :=
  let hist := c.past zlba
  let x := leNat pay
  let n := 8 * pay.length
  match decodeTokens x n hist.length (4096 * c.m) (n + 1) 0 hist.reverse with
  | .ok (rev, pos) => if rev.reverse.drop hist.length = c.inp ∧ x / 2 ^ pos = 0 then some (pos - 12) else none
  | .error _ => none

/-- The compressor's payload of the open block so far; `p` is the zone-relative LBA after its last. It codes the input, and keeps the
tokens of the commands before (R431, R440). -/
def CxeRun.setPay (r : CxeRun) (p : Nat) (pay : List Byte) : CxeRun :=
  let kept := match r.c.marks.getLast?.bind (·.bits) with
    | some k => decide (leNat pay % 2 ^ k = leNat r.c.pay % 2 ^ k)
    | none => true
  { r with c := { r.c with pay := pay },
           good := r.good && (pay.isEmpty || ((r.c.tokens (p - r.c.m) pay).isSome && kept)) }

/-- The open block ends; `p` is the zone-relative LBA after its last, `sealed` whether a seal ends it (R434, R438). -/
def CxeRun.blockEnd (r : CxeRun) (p : Nat) (sealed : Bool) : CxeRun :=
  if r.c.m = 0 then r
  else
    let c := r.c
    let zlba := p - c.m
    let sz := blockSize c.m c.pay
    let raw := if rawBlock c.m c.pay then 1 else 0
    let b := c.b + sz
    let lo := if c.b % 4096 = 0 ∨ c.b / 4096 ≠ b / 4096 then zlba else c.openLo
    let first := c.isFirst zlba
    let flags := (if first then 1 else 0) + (if c.cls = some false then 2 else 0) + (if sealed then 4 else 0)
    { c := { c with b := b, m := 0, pay := [], cls := none, first := false, blocks := c.blocks + 1,
                    raws := c.raws + raw, openLo := lo, hist := lastBytes 65536 (c.past zlba ++ c.inp), inp := [], marks := [],
                    map := c.map ++ [⟨c.b, sz, zlba, c.m, first⟩] },
      inp := r.inp, out := r.out + sz, blocks := r.blocks + 1, raws := r.raws + raw,
      bytes := r.bytes ++ blockOut c.m zlba flags c.inp c.pay, good := r.good }

/-- A mark after k more LBAs of its block are gone, with q bits of tokens. -/
def CxeMark.shift (x : CxeMark) (k q : Nat) : CxeMark := ⟨x.arr, x.m - k, x.bits.map (fun b => b - q)⟩

/-- The open block ends at a seal after its first k LBAs, where a command ended (R440): the later commands' data goes on in a new block of
the same class with FIRST = 0 and the same tokens. -/
def CxeRun.endAt (r : CxeRun) (p k : Nat) : CxeRun :=
  let c := r.c
  if c.m ≤ k then r.blockEnd p true
  else if k = 0 then r
  else
    let x := leNat c.pay
    let bits := (c.marks.find? (fun x => decide (x.m = k))).bind (·.bits)
    let head := match bits with | some q => leBytes (x % 2 ^ q + 0xFFF * 2 ^ q) ((q + 19) / 8) | none => []
    let tail := match bits with | some q => leBytes (x / 2 ^ q) ((8 * c.pay.length - q + 7) / 8) | none => []
    let a := { r with c := { c with m := k, pay := head, inp := c.inp.take (4096 * k) } }.blockEnd (p - c.m + k) true
    { a with c := { a.c with
        m := c.m - k, cls := c.cls, pay := if c.pay.isEmpty then [] else tail, inp := c.inp.drop (4096 * k),
        marks := (c.marks.filter (fun x => decide (k < x.m))).map (fun x => x.shift k (bits.getD 0)) } }

/-- One LBA of a write enters the compressor, or fails the space check (R446); the 16th LBA of a segment ends the block
(R438), with the next of the payloads. -/
def CxeRun.take (r : CxeRun) (pcap p : Nat) (stream : Bool) (d : List Byte) (pays : List (List Byte)) :
    Option (CxeRun × List (List Byte)) :=
  if 4096 * pcap < r.c.b + (16 + 4096 * (r.c.m + 1)) then none
  else
    let r := { r with c := { r.c with m := r.c.m + 1, cls := some stream, inp := r.c.inp ++ padTo 4096 d }, inp := r.inp + 4096 }
    if (p + 1) % 16 = 0 then some ((r.setPay (p + 1) (pays.headD [])).blockEnd (p + 1) false, pays.tail)
    else some (r, pays)

/-- The LBAs of a write enter the compressor one after another. -/
def CxeRun.takes (pcap : Nat) (stream : Bool) : Nat → Nat → List (List Byte) → List (List Byte) → CxeRun →
    Option (CxeRun × List (List Byte))
  | 0, _, _, pays, r => some (r, pays)
  | k + 1, p, data, pays, r =>
    match r.take pcap p stream (data.headD []) pays with
    | none => none
    | some (r, pays) => CxeRun.takes pcap stream k (p + 1) data.tail pays r

/-- A command's data enters the compressor (R438, R446): an open block of the other class ends first, and the block of a
coalesced command ends with it; none when the space check fails. `arr` is the command's arrival number, `pays` the payloads that the
compressor makes, in order: of each block that ends with the command or in it, and of the block that stays open; `sealed` whether the
end of the command is a seal. -/
def cxeConsume (c : CompSt) (pcap p cnt arr : Nat) (stream zeroes : Bool) (data pays : List (List Byte)) (sealed : Bool) :
    Option CxeRun :=
  let r := CxeRun.start c
  let r := if c.m ≠ 0 ∧ (zeroes ∨ c.cls ≠ some stream) then r.blockEnd p false else r
  match CxeRun.takes pcap stream cnt p data pays r with
  | none => none
  | some (r, rest) =>
    if r.c.m = 0 then some r
    else
      let r := r.setPay (p + cnt) (rest.headD [])
      if stream then
        some { r with c := { r.c with marks := r.c.marks ++ [⟨arr, r.c.m, r.c.tokens (p + cnt - r.c.m) r.c.pay⟩] } }
      else some (r.blockEnd (p + cnt) sealed)

/-- Bytes enter the stream of a zone, whose next sector is data sector `o`: each sector they complete is encrypted as a whole (R433). -/
def State.cxeFill (s : State) (n : Ns) (z o : Nat) (c : CompSt) (l : List Byte) : CompSt :=
  let all := c.osec ++ l
  let k := all.length / 4096
  let sect := (List.range k).foldl (fun t i =>
    sparseInsert (o + i)
      (s.xtsUnit false (n.nsid - 1) (zoneTweak z (physOrdinal n (o + i))) n.nsid ((all.drop (4096 * i)).take 4096)) t) c.sect
  { c with osec := all.drop (4096 * k), sect := sect }

/-- The stream of a zone after a run, with its counters (R455, R456). -/
def State.cxeApply (s : State) (nsid z : Nat) (r : CxeRun) : State :=
  match s.nspace nsid with
  | none => s
  | some n =>
    let o := s.stat 16
    let c := s.cxeFill n z ((n.zone z).comp.b / 4096) r.c r.bytes
    let s := s.modZone nsid z (fun v => { v with comp := c })
    let s := (((s.addStat 8 r.inp).addStat 16 r.out).addStat 32 r.blocks).addStat 40 r.raws
    let s := (s.addc Reg.CXE_INKIB (r.inp / 1024)).addc Reg.CXE_OUTKIB ((o + r.out) / 1024 - o / 1024)
    (s.addc Reg.CXE_BLOCKS r.blocks).addc Reg.CXE_RAWBLK r.raws

/-- The LBAs of the open block that commands before an arrival number wrote. -/
def CompSt.mBefore (c : CompSt) (arr : Nat) : Nat :=
  c.marks.foldl (fun acc x => if x.arr < arr then max acc x.m else acc) 0

/-- The stream of a zone is sealed (R438, R439): the open block ends after its first k LBAs, and a pad block reaches the next sector
boundary. -/
def State.cxeSealAt (s : State) (nsid z k : Nat) : State :=
  match s.nspace nsid with
  | none => s
  | some n =>
    let v := n.zone z
    let s := if v.comp.m = 0 ∨ k = 0 then s
      else (s.cxeApply nsid z ((CxeRun.start v.comp).endAt v.wp k)).zoneStamp nsid z
    let s := (s.addStat 48 1).bump Reg.CXE_SEALS
    match s.nspace nsid with
    | none => s
    | some n =>
      let c := (n.zone z).comp
      let pad := if c.b % 4096 = 0 then 0 else 4096 - c.b % 4096
      if pad = 0 then s
      else
        let c' := s.cxeFill n z (c.b / 4096) c (padOut pad)
        (s.modZone nsid z (fun v => { v with comp := { c' with b := c.b + pad, seals := c.seals + 1 } })).addStat 24 pad

/-- The block of a zone ends and the stream is sealed (R438, R439). -/
def State.cxeSeal (s : State) (nsid z : Nat) : State :=
  match s.nspace nsid with
  | none => s
  | some n => s.cxeSealAt nsid z (n.zone z).comp.m

/-- Whether a zone holds output that a seal would complete: an open block or an open sector. -/
def Zone.unsealed (z : Zone) : Bool := decide (z.comp.m ≠ 0) || decide (z.comp.b % 4096 ≠ 0)

/-! ### Stream contexts (R442) -/

/-- A zone that becomes open gets a context; one that leaves the open states loses it. -/
def State.cxeContext (s : State) (nsid z : Nat) (on : Bool) : State :=
  let s := s.modZone nsid z (fun v => { v with comp := { v.comp with ctx := on } })
  if on then s else s.modNsSt (fun x => { x with cxeHeld := x.cxeHeld.filter (fun k => decide (k ≠ (nsid, z))) })

/-- A compressor turns to a zone (R442): the one that holds its context, else the one used less recently, which switches. -/
def State.cxeUse (s : State) (nsid z : Nat) : State :=
  let held := s.ns.cxeHeld
  let rest := held.filter (fun k => decide (k ≠ (nsid, z)))
  let s := s.modNsSt (fun x => { x with cxeHeld := (nsid, z) :: rest.take 1 })
  if held.contains (nsid, z) then s else (s.bump Reg.CXE_SWITCH).addStat 80 1

/-- A stream whose context is lost (R445): the open block is discarded, the open sector's bytes are gone, and the next block starts
history anew. -/
def CompSt.lost (c : CompSt) : CompSt :=
  { c with m := 0, pay := [], cls := none, first := true, hist := [], inp := [], marks := [],
           osec := List.replicate (c.b % 4096) 0#8 }

/-- An uncorrectable error in a context slot (R445): the output in the slot is lost as dirty data of cause Cache memory; the
open block is discarded and the next block starts history anew. -/
def State.contextError (s : State) (nsid z : Nat) : State :=
  match s.nspace nsid with
  | none => s
  | some n =>
    let v := n.zone z
    let lo := if v.comp.b % 4096 ≠ 0 then v.comp.openLo else v.wp - v.comp.m
    let s := if lo < v.wp then s.createRecords nsid (z * zoneLbas + lo) (v.wp - lo) 2 0 0xFF 0xFF else s
    let s := s.modZone nsid z (fun v => { v with comp := v.comp.lost })
    s.evt Reg.CXE_EVT_STAT_CTXERR .fault

/-! ### The space check fails (R447) -/

/-- A zone has become Full because a write did not fit (R447, steps 2, 3, 5 and 6): the write is rolled back already, for
nothing of it has been taken. -/
def State.cxeFull (s : State) (nsid z : Nat) : State :=
  let s := s.cxeSeal nsid z
  let s := s.modZone nsid z (fun v => { v with st := .full, comp := { v.comp with cfull := true } })
  let s := ((s.cxeContext nsid z false).zoneStamp nsid z).zoneChanged nsid z
  ((s.bump Reg.CXE_CFULL).addStat 56 1).evt Reg.CXE_EVT_STAT_CFULL .notice

/-! ### The zone descriptor extension (R449, R450) -/

/-- The loop of R450. -/
def guarLoop : Nat → Nat → Nat → Nat → Nat → Nat
  | 0, _, _, _, g => g
  | fuel + 1, f, k, q, g =>
    if q < 65536 ∧ 16 + 4096 * (k + 1) ≤ f then
      if (q + 1) % 16 = 0 then guarLoop fuel (f - (16 + 4096 * (k + 1))) 0 (q + 1) (g + 1)
      else guarLoop fuel f (k + 1) (q + 1) (g + 1)
    else g

/-- GUAR and EST of a zone (R450). -/
def State.guarEst (s : State) (n : Ns) (z : Zone) : Nat × Nat :=
  if z.st = .full ∨ z.st = .readOnly ∨ z.st = .offline then (0, 0)
  else
    let bound := z.band.isSome
    let b := if bound then z.comp.b else 0
    let f := 4096 * (if bound then s.pcap n z else s.pmin n) - b
    let p := if bound then z.wp else 0
    let g := guarLoop 65536 f (if bound then z.comp.m else 0) p 0
    (g, if b = 0 then g else min (65536 - p) (f * p / b))

/-- The 64-byte extension of a zone (R449). -/
def State.zoneExt (s : State) (n : Ns) (z : Zone) : List Byte :=
  let (guar, est) := s.guarEst n z
  let bound := z.band.isSome
  let k (x : Nat) : Nat := if bound then x else 0
  let flags := (if bound then 0 else 1) + (if z.comp.cfull then 2 else 0) + (if z.unsealed then 4 else 0)
  leBytes 1 2 ++ leBytes n.ratio 1 ++ leBytes flags 1 ++ leBytes (s.pcap n z) 4 ++
    leBytes (k ((z.comp.b + 4095) / 4096)) 4 ++ leBytes (k (z.comp.b % 4096)) 4 ++ leBytes (k z.wp) 4 ++
    leBytes guar 4 ++ leBytes est 4 ++ leBytes (k z.comp.blocks) 4 ++ leBytes (k z.comp.raws) 4 ++
    leBytes (k z.comp.seals) 4 ++ leBytes (k z.comp.upd) 8 ++ leBytes 0 16

/-! ### Reads (R451, R452) -/

/-- The completed blocks that a read of the zone-relative LBAs [lo, hi) decodes: those it names, and before each those back to the
nearest with FIRST = 1 (R451). -/
def CompSt.chain (c : CompSt) (lo hi : Nat) : List CxeMap :=
  (c.map.foldr (fun e (acc : Bool × List CxeMap) =>
    let want := acc.1 || (decide (e.zlba < hi) && decide (lo < e.zlba + e.nlb))
    (want && ! e.first, if want then e :: acc.2 else acc.2)) (false, [])).2

/-- Data sector o of a zone's stream as the decompressors get it: the open sector from the context, any other decrypted, as it is held or,
where `seen` lists the zone's sector, as the medium delivers it. -/
def State.streamSector (s : State) (n : Ns) (z : Nat) (seen : List (Nat × Nat × List Byte)) (o : Nat) : List Byte :=
  let c := (n.zone z).comp
  if o < c.b / 4096 then
    let held := (sparseFind o c.sect).getD []
    let media := match seen.find? (fun x => decide (x.1 = z) && decide (x.2.1 = o)) with | some x => x.2.2 | none => held
    s.xtsUnit true (n.nsid - 1) (zoneTweak z (physOrdinal n o)) n.nsid media
  else c.osec

/-- Bytes of a zone's stream. -/
def State.streamBytes (s : State) (n : Ns) (z : Nat) (seen : List (Nat × Nat × List Byte)) (off len : Nat) : List Byte :=
  let o := off / 4096
  let l := (List.range ((off + len + 4095) / 4096 - o)).flatMap (fun i => s.streamSector n z seen (o + i))
  (l.drop (off % 4096)).take len

/-- The decoding of a chain of blocks, one after another with the history so far; `whole` says that every block since the nearest FIRST
decoded. Each is counted; the first that fails records its cause (R452). The result says whether all decoded, and gives the output by
the blocks' first LBAs. -/
def State.cxeDecode (s : State) (n : Ns) (z : Nat) (seen : List (Nat × Nat × List Byte)) :
    List CxeMap → List Byte → Bool → State × Bool × List (CxeMap × List Byte)
  | [], _, _ => (s, true, [])
  | e :: t, hist, whole =>
    let hist := if e.first then [] else hist
    let whole := e.first || whole
    let gone := (List.range e.nlb).any (fun i => (s.block n.nsid (z * zoneLbas + e.zlba + i)).any (fun b => b.failed || b.unrec))
    if gone then s.cxeDecode n z seen t [] false
    else
      let s := (s.bump Reg.CXE_DBLOCKS).addStat 64 1
      match decodeBlock ⟨s.streamBytes n z seen e.off 16, s.streamBytes n z seen (e.off + 16) (e.size - 16), hist, whole, e.zlba, e.nlb⟩ with
      | .ok o =>
        let (s, ok, outs) := s.cxeDecode n z seen t (hist ++ o) whole
        (s, ok, (e, o) :: outs)
      | .error k =>
        let s := (s.bump Reg.CXE_DERRS).addStat 72 1
        let s := ((s.fput Reg.CXE_DERR0_CAUSE k).fput Reg.CXE_DERR0_NSID n.nsid).fput Reg.CXE_DERR0_ZLBA e.zlba
        ((s.fput Reg.CXE_DERR1_ZONE z).evt Reg.CXE_EVT_STAT_DERR .fault, false, [])

/-- The data of zone-relative LBA p: from the open block's input, or from the blocks decoded. -/
def CompSt.dataAt (c : CompSt) (wp p : Nat) (outs : List (CxeMap × List Byte)) : List Byte :=
  if wp ≤ p + c.m then (c.inp.drop (4096 * (p - (wp - c.m)))).take 4096
  else
    match outs.find? (fun o => decide (o.1.zlba ≤ p) && decide (p < o.1.zlba + o.1.nlb)) with
    | some (e, o) => (o.drop (4096 * (p - e.zlba))).take 4096
    | none => []

/-- A read of LBAs of one zone of a compressed namespace (R451, R452): the bytes of those that hold data, each at its place in the
command's data, which begins at LBA `slba`; the sectors decrypted are counted (R189). -/
def State.zoneRead (s : State) (n : Ns) (slba z lo hi : Nat) (seen : List (Nat × Nat × List Byte)) :
    State × Bool × List (Nat × Byte) :=
  let v := n.zone z
  let chain := v.comp.chain lo hi
  let sectors := match chain.head?, chain.getLast? with
    | some a, some b => min (v.comp.b / 4096) ((b.off + b.size + 4095) / 4096) - a.off / 4096
    | _, _ => 0
  let s := s.addc Reg.XTS_SECTDEC sectors
  let (s, ok, outs) := s.cxeDecode n z seen chain [] false
  let data := (List.range (hi - lo)).flatMap (fun i =>
    let lba := z * zoneLbas + lo + i
    if (s.block n.nsid lba).isSome ∧ s.readBlock n lba = .ok then
      blockBytes (4096 * (lba - slba)) (v.comp.dataAt v.wp (lo + i) outs) else [])
  (s, ok, data)

/-- A read of a compressed namespace, zone by zone. -/
def State.compRead (s : State) (n : Ns) (slba cnt : Nat) (seen : List (Nat × Nat × List Byte)) : State × Bool × List (Nat × Byte) :=
  let z0 := slba / zoneLbas
  let z1 := (slba + cnt - 1) / zoneLbas
  (List.range (z1 + 1 - z0)).foldl (fun (acc : State × Bool × List (Nat × Byte)) i =>
    let z := z0 + i
    let lo := max slba (z * zoneLbas) - z * zoneLbas
    let hi := min (slba + cnt) ((z + 1) * zoneLbas) - z * zoneLbas
    let (s, ok, l) := acc.1.zoneRead n slba z lo hi seen
    (s, acc.2.1 && ok, acc.2.2 ++ l)) (s, true, [])

/-! ### Log page 0xC3 (R455) -/

/-- The record of NSID k. -/
def State.cxeNsRecord (s : State) (k : Nat) : List Byte :=
  match s.nspace k with
  | some n =>
    if n.compressed then
      let bound := n.zones.filter (fun z => z.2.band.isSome)
      leBytes k 4 ++ leBytes n.ratio 1 ++ leBytes 0 3 ++ leBytes bound.length 4 ++
        leBytes (n.zones.countP (fun z => z.2.comp.cfull)) 4 ++
        leBytes (bound.foldl (fun acc z => acc + z.2.wp) 0) 8 ++
        leBytes (bound.foldl (fun acc z => acc + (z.2.comp.b + 4095) / 4096) 0) 8
    else leBytes 0 32
  | none => leBytes 0 32

/-- Log page 0xC3. -/
def State.cxePage (s : State) : List Byte :=
  leBytes 1 2 ++ leBytes (s.ns.list.countP (fun n => n.compressed)) 2 ++ leBytes 0 4 ++
    ([8, 16, 24, 32, 40, 48, 56, 64, 72, 80] : List Nat).flatMap (fun o => leBytes (s.stat o) 8) ++ leBytes 0 40 ++
    (List.range 64).flatMap (fun i => s.cxeNsRecord (i + 1))

/-- IDLE_SEAL: CXE_CFG.IDLE revolutions of G with data in the open sector and no write to the zone end the block and seal
(R438); 0 gives no idle seal. -/
def State.idleSeal (s : State) (nsid z : Nat) : State :=
  match s.nspace nsid with
  | none => s
  | some n =>
    let v := n.zone z
    let idle := s.fget Reg.CXE_CFG_IDLE
    let busy := s.host.ctxs.any (fun c => c.tail && c.started && decide (c.sqe.nsid = nsid) && decide (c.zone = some z))
    if n.compressed ∧ ¬ busy ∧ v.unsealed ∧ idle ≠ 0 ∧ v.comp.lastRev + idle ≤ s.atb.rev then s.cxeSeal nsid z else s

end Sys2Proof.Machine
end

