-- ==== Sys2Proof/Machine/Record.lean ====
section
/-!
DEFINITION. Sys2Proof/Machine/Record.lean: the bytes of a chain frame (R525) and of an event record, read and written (spec/16_event_recorder.md, R505, R509), and
the ring as it stands in SRAM (R40).
-/
namespace Sys2Proof

open Machine in
/-- The 8 bytes of a frame's header (R525). -/
def Frame.header (f : Frame) : List Byte :=
  leBytes f.dst 1 ++ leBytes f.src 1 ++ leBytes f.ty 1 ++ leBytes f.flags 1 ++ leBytes f.tag 2 ++ leBytes f.len 2

open Machine in
/-- Whether a frame's CRC-32C, over header and payload, is correct (R525, R526). -/
def Frame.crcOk (f : Frame) : Bool := decide (f.crc = crc32c (f.header ++ f.payload))

open Machine in
/-- A frame with its CRC. -/
def Frame.sealed (f : Frame) : Frame := { f with crc := crc32c (f.header ++ f.payload) }

end Sys2Proof

namespace Sys2Proof.Machine

/-- FLAGS of a record. -/
def EvRecord.flags (r : EvRecord) : Nat :=
  r.offer.sev.code + (match r.offer.cls with | some c => c.code * 4 + 16 | none => 0) + (if r.list.isSome then 32 else 0)

/-- Bytes 0x00 to 0xF7 of a record. -/
def EvRecord.body (r : EvRecord) : List Byte :=
  let o := r.offer
  leBytes o.seq 8 ++ leBytes o.stamp 8 ++ leBytes o.line 1 ++ leBytes r.flags 1 ++ leBytes o.inst 2 ++ leBytes o.cause 4 ++
    leBytes (r.list.getD 0xFF) 1 ++ leBytes r.snap.length 1 ++ leBytes r.dropped 2 ++ leBytes r.snapDly 2 ++ leBytes 0 2 ++
    padTo 24 o.payload ++ padTo 192 (r.snap.flatMap (fun w => leBytes w.toNat 4))

/-- MARK of a record. -/
def EvRecord.mark (r : EvRecord) : Nat := 0x45560000 + r.offer.seq % 65536

/-- The 256 bytes of a record: body, CRC, MARK. -/
def EvRecord.bytes (r : EvRecord) : List Byte := r.body ++ leBytes (crc32c r.body) 4 ++ leBytes r.mark 4

/-- The severity of a code. -/
def sevOf (k : Nat) : Sev := if k = 0 then .trace else if k = 1 then .notice else if k = 2 then .fault else .fatal

/-- The class of a code (R505). -/
def classOf (k : Nat) : ErrClass := if k = 0 then .ce else if k = 1 then .de else if k = 2 then .uc else .ft

/-- The number in k bytes of a list at an offset. -/
def leAt (l : List Byte) (off k : Nat) : Nat := leNat ((l.drop off).take k)

/-- The record that 256 bytes hold, when they hold a valid one (R509). -/
def recordOf (l : List Byte) : Option EvRecord :=
  let seq := leAt l 0 8
  if leAt l 0xFC 4 ≠ 0x45560000 + seq % 65536 ∨ crc32c (l.take 0xF8) ≠ leAt l 0xF8 4 then none
  else
    let flags := leAt l 0x11 1
    let cls : Option ErrClass := if flags.testBit 4 then some (classOf (flags / 4 % 4)) else none
    let o : Offer := ⟨seq, leAt l 8 8, leAt l 0x10 1, leAt l 0x12 2, leAt l 0x14 4, sevOf (flags % 4), cls, (l.drop 0x20).take 24, 0⟩
    let snap := (List.range (leAt l 0x19 1)).map (fun i => BitVec.ofNat 32 (leAt l (0x38 + 4 * i) 4))
    some ⟨o, if flags.testBit 5 then some (leAt l 0x18 1) else none, snap, leAt l 0x1A 2, leAt l 0x1C 2⟩

/-! ### Slots (R509) -/

/-- The record in a slot, when it holds a valid one; a slot with a poisoned word is partial. -/
def EvSlot.record : EvSlot → Option EvRecord
  | .valid r => some r
  | .bytes l => recordOf l
  | .poisoned _ => none

/-- The 256 bytes of a slot. -/
def EvSlot.data : EvSlot → List Byte
  | .valid r => r.bytes
  | .bytes l => l
  | .poisoned l => l

/-- Whether a slot is partial: neither valid nor empty, which it is when its MARK reads 0. -/
def EvSlot.isPartial : EvSlot → Bool
  | .valid _ => false
  | .bytes l => (recordOf l).isNone && decide (leAt l 0xFC 4 ≠ 0)
  | .poisoned _ => true

/-- A slot after a clear: its MARK is written as 0, which also clears the poison of that word alone. -/
def EvSlot.cleared : EvSlot → EvSlot
  | .valid r => .bytes (r.bytes.take 0xFC ++ leBytes 0 4)
  | .bytes l => .bytes (l.take 0xFC ++ leBytes 0 4)
  | .poisoned l => .poisoned (l.take 0xFC ++ leBytes 0 4)

/-- The 256 bytes of slot k of the ring: zeros when nothing was ever written there. -/
def State.slotBytes (s : State) (k : Nat) : List Byte :=
  match sparseFind k s.evr.ring with
  | some v => v.data
  | none => List.replicate 256 0#8

/-- The ring slots that hold a valid record (R509). -/
def State.validSlots (s : State) : List (Nat × EvRecord) :=
  s.evr.ring.filterMap (fun kv => kv.2.record.map (fun r => (kv.1, r)))

/-! ### SRAM and DRAM as a master sees them (R39, R40) -/

/-- Whether an address lies in the region of the Event Recorder ring (R40). -/
def inRing (a : Nat) : Bool := decide (0x11600000 ≤ a ∧ a < 0x11640000)

/-- A byte of memory; 0 where there is none. -/
def State.seenByte (s : State) (a : Nat) : Byte :=
  if inRing a then (s.slotBytes ((a - 0x11600000) / 256)).getD (a % 256) 0#8 else if inMemory a then s.memByte a else 0#8

/-- k bytes of memory, as a number. -/
def State.seenLe (s : State) (k a : Nat) : Nat := leNat ((List.range k).map (fun i => s.seenByte (a + i)))

/-- A byte written by a master into the ring's region: the slot holds bytes from then on. -/
def State.ringPut (s : State) (a : Nat) (b : Byte) : State :=
  let k := (a - 0x11600000) / 256
  let l := (s.slotBytes k).set (a % 256) b
  let v : EvSlot := match sparseFind k s.evr.ring with | some (.poisoned _) => .poisoned l | _ => .bytes l
  { s with evr := { s.evr with ring := sparseInsert k v s.evr.ring } }

/-- Bytes written by a master to memory: to the ring's slots those that lie there, to no place those that lie beyond memory. -/
def State.seenStore (s : State) (a : Nat) (l : List Byte) : State :=
  let at' := l.zipIdx.map (fun bi => (a + bi.2, bi.1))
  let plain := at'.filter (fun x => inMemory x.1 && ! inRing x.1)
  let s := match plain with
    | [] => s
    | x :: _ => s.memStore x.1 (plain.map (·.2))
  (at'.filter (fun x => inRing x.1)).foldl (fun s x => s.ringPut x.1 x.2) s

end Sys2Proof.Machine
end

