-- ==== Sys2Proof/Machine/Zones.lean ====
section
/-!
DEFINITION. Sys2Proof/Machine/Zones.lean: what changes zones (spec/05_namespaces_zones_media_map.md R161 to R169, R181, R182;
spec/04_ordering_and_errors.md R135, R136): the tail grant, Zone Management Send and Receive, and the effect of head
retirement.
-/
namespace Sys2Proof.Machine

/-! ### Opening -/

/-- A zone becomes open, implicitly or explicitly; a compressed one gets its context (R442). -/
def State.openZone (s : State) (n : Ns) (z : Nat) (st : ZoneState) : State :=
  let s := s.modZone n.nsid z (fun v => { v with st := st })
  if n.compressed then (s.cxeContext n.nsid z true).zoneStamp n.nsid z else s

/-- A zone leaves the open states, or stays out of them; a compressed one gives up its context. -/
def State.leaveOpen (s : State) (n : Ns) (z : Nat) (st : ZoneState) : State :=
  let s := s.modZone n.nsid z (fun v => { v with st := st })
  if n.compressed then (s.cxeContext n.nsid z false).zoneStamp n.nsid z else s

/-! ### The tail grant (R135, R168, R169) -/

/-- The zone checks of a write or Zone Append at its tail grant, but for the write pointer and the binding (R135, R152):
the zone's state, the boundary, and the limits. -/
def State.writeCheck (s : State) (n : Ns) (z slba nlb : Nat) (append : Bool) : Option Status :=
  let v := n.zone z
  if v.st = .offline then some St.zoneOffline
  else if v.st = .readOnly then some St.zoneReadOnly
  else if v.st = .full then some St.zoneFull
  else if append then
    (if slba % zoneLbas ≠ 0 then some St.invalidField
     else if zoneLbas < v.wp + nlb then some St.zoneBoundary
     else s.openRefused n v)
  else if zoneLbas < slba % zoneLbas + nlb then some St.zoneBoundary
  else if slba % zoneLbas ≠ v.wp then some St.zoneInvalidWrite
  else s.openRefused n v

/-- A zone without a band is bound to the one firmware chose (R168, R169): the choice must lie in the half that R169
prefers, on a surface that qualifies, and be free. None: the choice breaks R169. -/
def State.bindZone (s : State) (n : Ns) (z : Nat) (half : Bool) (band : Nat × Nat × Nat) : Option State :=
  let (surf, b, sub) := band
  if decide (10 ≤ surf) = half ∧ s.surfWritable surf ∧ s.bandFree n surf b sub then
    some ((s.modZone n.nsid z (fun v => { v with band := some band })).modNsSt (fun x => { x with lastHalf := half }))
  else none

/-! ### Zone Management Send (R162, R164) -/

/-- The actions of Zone Management Send (Zone Send Action values of the Zoned Namespace Command Set). -/
inductive ZoneAct where
  | close | finish | open_ | reset | offline
  deriving DecidableEq, Repr

/-- The action of a Zone Send Action value. -/
def zoneActOf (zsa : Nat) : Option ZoneAct :=
  if zsa = 1 then some .close
  else if zsa = 2 then some .finish
  else if zsa = 3 then some .open_
  else if zsa = 4 then some .reset
  else if zsa = 5 then some .offline
  else none

/-- The check of an action on a zone under the Zoned Namespace Command Set: the status, or none when it may go on. -/
def State.actCheck (s : State) (n : Ns) (z : Nat) (a : ZoneAct) : Option Status :=
  let v := n.zone z
  match a with
  | .close => if v.active then none else some St.zoneTransition
  | .finish => if v.st = .readOnly ∨ v.st = .offline then some St.zoneTransition else none
  | .open_ =>
    if v.st = .full ∨ v.st = .readOnly ∨ v.st = .offline then some St.zoneTransition else s.openRefused n v
  | .reset => if v.st = .readOnly ∨ v.st = .offline then some St.zoneTransition else none
  | .offline => if v.st = .readOnly ∨ v.st = .offline then none else some St.zoneTransition

/-- Whether Select All of an action selects a zone. -/
def Zone.selected (v : Zone) (a : ZoneAct) : Bool :=
  match a with
  | .close => v.open?
  | .finish => v.active
  | .open_ => decide (v.st = .closed)
  | .reset => v.active || decide (v.st = .full)
  | .offline => decide (v.st = .readOnly)

/-- A zone becomes Empty: its blocks, its band and its stream are gone (R168). -/
def State.emptyZone (s : State) (n : Ns) (z : Nat) : State :=
  let s := s.dropBlocks n.nsid (z * zoneLbas) zoneLbas
  let s := if n.compressed then s.cxeContext n.nsid z false else s
  let t := s.stamp
  s.modZone n.nsid z (fun v =>
    if v.comp.upd = 0 ∧ ¬ n.compressed then Zone.fresh
    else { Zone.fresh with comp := { Zone.fresh.comp with upd := if n.compressed then t else 0 } })

/-- An action on one zone that its check allows (R162, R438). -/
def State.actApply (s : State) (n : Ns) (z : Nat) (a : ZoneAct) : State :=
  let v := n.zone z
  match a with
  | .close =>
    if ¬ v.open? then s
    else
      let s := if n.compressed then
          (s.cxeSeal n.nsid z).modZone n.nsid z (fun v => { v with comp := { v.comp with first := true, hist := [] } })
        else s
      s.leaveOpen n z .closed
  | .finish =>
    if v.st = .full then s
    else (if n.compressed ∧ v.band.isSome then s.cxeSeal n.nsid z else s).leaveOpen n z .full
  | .open_ => if v.st = .explOpen then s else s.openZone n z .explOpen
  | .reset => s.emptyZone n z
  | .offline =>
    if v.st = .offline then s else (s.leaveOpen n z .offline).zoneChanged n.nsid z

/-- The numbers of the zones that Select All selects, in rising order. -/
def Ns.selects (n : Ns) (a : ZoneAct) : List Nat := (n.zones.filter (fun z => z.2.selected a)).map (·.1)

/-- Select All (R162): every selected zone is checked before any is changed; the checks count the zones that the action will
already have opened. -/
def State.selectCheck (s : State) (n : Ns) (a : ZoneAct) : Option Status :=
  let rec go (s : State) : List Nat → Option Status
    | [] => none
    | z :: t =>
      match s.nspace n.nsid with
      | none => none
      | some n =>
        match s.actCheck n z a with
        | some st => some st
        | none => go (if a = .open_ then s.openZone n z .explOpen else s) t
  go s (n.selects a)

/-- The action on every selected zone. -/
def State.selectApply (s : State) (n : Ns) (a : ZoneAct) : State :=
  (n.selects a).foldl (fun s z => match s.nspace n.nsid with | some n => s.actApply n z a | none => s) s

/-! ### Zone Management Receive (R162, R448, R449) -/

/-- The code of a zone state in a zone descriptor (Zoned Namespace Command Set). -/
def ZoneState.code : ZoneState → Nat
  | .empty => 1
  | .implOpen => 2
  | .explOpen => 3
  | .closed => 4
  | .readOnly => 0xD
  | .full => 0xE
  | .offline => 0xF

/-- ZCAP of a zone (R160, R448). -/
def Zone.zcap (v : Zone) : Nat := if v.comp.cfull then v.wp else zoneLbas

/-- The 64-byte zone descriptor (Zoned Namespace Command Set): type, state, attributes, ZCAP, ZSLBA, write pointer. -/
def zoneDescriptor (n : Ns) (z : Nat) : List Byte :=
  let v := n.zone z
  leBytes 2 1 ++ leBytes (16 * v.st.code) 1 ++ leBytes (if n.compressed then 0x80 else 0) 1 ++ leBytes 0 5 ++
    leBytes v.zcap 8 ++ leBytes (z * zoneLbas) 8 ++ leBytes (z * zoneLbas + v.wp) 8 ++ leBytes 0 32

/-- Whether the Zone Receive Action Specific field selects a zone state: 0 all, 1 Empty, 2 Implicitly Opened, 3 Explicitly
Opened, 4 Closed, 5 Full, 6 Read Only, 7 Offline. -/
def zrasSelects (zras : Nat) (st : ZoneState) : Bool :=
  match zras with
  | 0 => true
  | 1 => decide (st = .empty)
  | 2 => decide (st = .implOpen)
  | 3 => decide (st = .explOpen)
  | 4 => decide (st = .closed)
  | 5 => decide (st = .full)
  | 6 => decide (st = .readOnly)
  | 7 => decide (st = .offline)
  | _ => false

/-- The report of the zones of a namespace from an LBA: the number of zones, then their descriptors, with the extensions in
an extended report. The number counts every zone that matches, or, with the partial bit, those that the buffer holds. -/
def State.zoneReport (s : State) (n : Ns) (slba zras len : Nat) (ext part : Bool) : List Byte :=
  let zs := (List.range (n.units - slba / zoneLbas)).filterMap (fun i =>
    let z := slba / zoneLbas + i
    if zrasSelects zras (n.zone z).st then some z else none)
  let unit := if ext then 128 else 64
  let fit := zs.take ((len - 64) / unit)
  (leBytes (if part then fit.length else zs.length) 8 ++ leBytes 0 56 ++ fit.flatMap (fun z =>
    zoneDescriptor n z ++ (if ext then s.zoneExt n (n.zone z) else []))).take len

/-! ### Head retirement (R164, R181, R182) -/

/-- The zones of a surface whose heads were retired follow it (R164): Read Only, or Offline. -/
def State.zonesFollow (s : State) (surf : Nat) : State :=
  let off := s.surfLost surf false
  if ¬ off ∧ ¬ s.surfLost surf true then s
  else
    s.ns.list.foldl (fun s n =>
      n.zones.foldl (fun s z =>
        let here : Bool := match z.2.band with | some (sf, _, _) => decide (sf = surf) | none => false
        let go := here ∧ z.2.st ≠ .offline ∧ (off ∨ z.2.st ≠ .readOnly)
        if go then (s.leaveOpen n z.1 (if off then .offline else .readOnly)).zoneChanged n.nsid z.1 else s) s) s

end Sys2Proof.Machine
end

