-- ==== Sys2Proof/Machine/Xts.lean ====
section
/-!
DEFINITION. Sys2Proof/Machine/Xts.lean: encryption (spec/05_namespaces_zones_media_map.md R183 to R189): the key slots and the
key operations, the TCG subset, and the erasure of ranges.
-/
namespace Sys2Proof.Machine

/-! ### Bytes of the OTP array (R588) -/

/-- The byte at an offset of the OTP array. -/
def State.otpByte (s : State) (o : Nat) : Nat := byteAt s.boot.otp o

/-- k bytes of the OTP array, least significant first. -/
def State.otpLe (s : State) : Nat → Nat → Nat
  | 0, _ => 0
  | k + 1, o => s.otpByte o + 256 * s.otpLe k (o + 1)

/-- k bytes of the OTP array. -/
def State.otpBytes (s : State) (k o : Nat) : List Byte := (List.range k).map (fun i => BitVec.ofNat 8 (s.otpByte (o + i)))

/-- A change of the XTS. -/
def State.modXts (s : State) (f : XtsSt → XtsSt) : State := { s with xts := f s.xts }

/-! ### Key slots -/

/-- A key put into a slot, which becomes valid. -/
def State.setKey (s : State) (slot key : Nat) : State :=
  let s := s.modXts (fun x => { x with keys := sparseInsert slot key x.keys })
  let a := Reg.XTS_SLOTVn (slot / 32)
  s.wr a (s.rd a ||| BitVec.ofNat 32 (2 ^ (slot % 32)))

/-- A slot emptied. -/
def State.clearKey (s : State) (slot : Nat) : State :=
  let s := s.modXts (fun x => { x with keys := sparseErase slot x.keys })
  let a := Reg.XTS_SLOTVn (slot / 32)
  s.wr a (s.rd a &&& ~~~ BitVec.ofNat 32 (2 ^ (slot % 32)))

/-- Whether the entropy source has passed its health tests. -/
def State.drbgOk (s : State) : Bool := s.fbit Reg.XTS_STATUS_DRBGOK

/-- 512 bits drawn from the DRBG (R183): a free value. -/
def State.drawKey (s : State) : Nat × State := (Config.freeNat s.fresh % 2 ^ 512, { s with fresh := s.fresh + 1 })

/-! ### Wrapping (R183, R189) -/

/-- KEK(AUTH, SLOT) under a credential digest of 48 bytes, as a number with byte 0 lowest (R189). -/
def State.kek (s : State) (auth slot : Nat) (cred : List Byte) : Nat :=
  Crypto.littleNat (Crypto.hkdf (Crypto.nats (s.otpBytes 32 0x80)) (Crypto.nats (s.otpBytes 16 0xA0))
    (auth % 256 :: slot % 256 :: Crypto.nats cred) 32)

/-- A slot key wrapped under a KEK: 72 bytes as a number, byte 0 lowest (R189). -/
def wrapped (kek key : Nat) : Nat := Crypto.littleNat (Crypto.kwWrap kek (Crypto.littleBytes key 64))

/-- The key that a wrapped key holds under a KEK; none when the integrity check fails (R189). -/
def unwrapped (kek blob : Nat) : Option Nat := (Crypto.kwUnwrap kek (Crypto.littleBytes blob 72)).map Crypto.littleNat

/-- The authority that governs a Locking row (R186): BandMaster0 for a global range, BandMaster k for key band k. -/
def rowAuth (row : Nat) : Nat := if row < 64 then 1 else row - 62

/-- The PIN of an authority; the MSID until one is set. -/
def State.pinOf (s : State) (auth : Nat) : List Byte := (sparseFind auth s.xts.pins).getD Config.msid

/-- The credential under which firmware keeps the key of a range: the owning authority's MSID credential while both lock enables are 0,
so that start-up can load it, else its PIN (R183, R189). -/
def State.credOf (s : State) (slot : Nat) : Option (List Byte) :=
  if (s.lockRow slot).rle ∨ (s.lockRow slot).wle then some (s.pinOf (rowAuth slot)) else none

/-- The 72 bytes, as a number, that the system area holds for a kept key (R183): wrapped for the owning authority under the SHA-384 of its
credential. -/
def State.keptBlob (s : State) (slot : Nat) (k : Kept) : Nat :=
  wrapped (s.kek (rowAuth slot) slot
    ((Crypto.sha384 (Crypto.nats (k.cred.getD Config.msid))).map (BitVec.ofNat 8))) k.key

/-- Firmware gives a range a new key (R188): into its slot, and wrapped into the system area, over the old one. -/
def State.newKey (s : State) (slot : Nat) : State :=
  let (k, s) := s.drawKey
  let s := (s.setKey slot k).bump Reg.XTS_GENS
  let kept : Kept := ⟨k, s.credOf slot⟩
  s.modXts (fun x => { x with wrapped := sparseInsert slot kept x.wrapped })

/-- Firmware wraps the kept key of a range anew, after a change of its lock enables or of its authority's PIN. -/
def State.rewrap (s : State) (slot : Nat) : State :=
  match sparseFind slot s.xts.wrapped with
  | some k =>
    let kept : Kept := { k with cred := s.credOf slot }
    s.modXts (fun x => { x with wrapped := sparseInsert slot kept x.wrapped })
  | none => s

/-- Firmware loads the slot of a range whose key it keeps: at start-up under the MSID credential, `pin` none; at an authentication with
the PIN, which opens either wrap (R189). -/
def State.loadKept (s : State) (slot : Nat) (pin : Option (List Byte)) : State :=
  match sparseFind slot s.xts.wrapped with
  | some k => if k.cred = none ∨ k.cred = pin then s.setKey slot k.key else s
  | none => s

/-! ### Key operations (R189) -/

/-- The credential digest: the bytes of the twelve registers. -/
def State.credBytes (s : State) : List Byte :=
  (List.range 12).flatMap (fun d => leBytes ((sparseFind d s.xts.cred).getD 0#32).toNat 4)

/-- The wrapped key in XTS_BLOB. -/
def State.blob (s : State) : Nat := (List.range 18).foldl (fun acc d => acc + (s.rd (Reg.XTS_BLOB_n d)).toNat * 2 ^ (32 * d)) 0

/-- A wrapped key written to XTS_BLOB. -/
def State.setBlob (s : State) (x : Nat) : State :=
  (List.range 18).foldl (fun s d => s.wr (Reg.XTS_BLOB_n d) (BitVec.ofNat 32 (x / 2 ^ (32 * d)))) s

/-- Whether a master's writes to XTS_KCTRL, XTS_CRED and XTS_BLOB take effect (R189). -/
def State.xtsMaster (s : State) (m : Master) : Bool := m.isCore || (decide (m = .jtag) && s.jtagPermitted)

/-- A write of XTS_KCTRL (R189): an operation starts, unless OP is 0 or reserved or one runs. A write with OP 0 while one runs has no
effect, ERR included (DESIGN CHOICE, notes/assumptions/17.md: one table says that OP 0 has no effect, another that a write while BUSY
sets ERR). -/
def State.xtsKctrl (s : State) (m : Master) (op slot auth : Nat) : State :=
  if ¬ s.xtsMaster m ∨ op = 0 then s
  else if s.fbit Reg.XTS_STATUS_BUSY then s.fput Reg.XTS_STATUS_ERR 5
  else if 4 < op then s.fput Reg.XTS_STATUS_ERR 1
  else (s.modXts (fun x => { x with op := some ⟨op, slot % 128, auth⟩ })).fput Reg.XTS_STATUS_BUSY 1

/-- XTS_OPERATION_DONE: the key operation ends within 50 µs of its write (R189). -/
def State.xtsDone (s : State) : State :=
  match s.xts.op with
  | none => s
  | some o =>
    let s := s.modXts (fun x => { x with op := none })
    let s := (s.fput Reg.XTS_STATUS_BUSY 0).fput Reg.XTS_STATUS_DONE 1
    let kek := s.kek o.auth o.slot s.credBytes
    if o.op = 1 then
      if ¬ s.drbgOk then s.fput Reg.XTS_STATUS_ERR 2
      else
        let (k, s) := s.drawKey
        ((s.setKey o.slot k).setBlob (wrapped kek k)).bump Reg.XTS_GENS
    else if o.op = 2 then
      match unwrapped kek s.blob with
      | some k => s.setKey o.slot k
      | none => ((s.fput Reg.XTS_STATUS_ERR 3).bump Reg.XTS_UNWRAPFAIL).evt Reg.XTS_EVT_STAT_UNWRAP .notice
    else if o.op = 3 then s.clearKey o.slot
    else
      match sparseFind o.slot s.xts.keys with
      | some k => s.setBlob (wrapped kek k)
      | none => s.fput Reg.XTS_STATUS_ERR 4

/-- ENTROPY_HEALTH_TEST_FAIL: DRBGOK falls, HEALTH is set and a Fault offered (R189). -/
def State.entropyFail (s : State) : State := (s.fput Reg.XTS_STATUS_DRBGOK 0).evt Reg.XTS_EVT_STAT_HEALTH .fault

/-! ### Erasure (R147, R188) -/

/-- The deferred error records of a range of a namespace are removed, those too that a start-up has still to restore (R147, R188). -/
def State.dropRecords (s : State) (nsid lo len : Nat) : State :=
  let keep (r : DeRec) : Bool := ! (decide (r.nsid = nsid) && decide (r.slba < lo + len) && decide (lo < r.slba + r.nlb))
  ((s.modHost (fun h => { h with de := h.de.filter keep })).modRec (fun r => { r with sysDe := r.sysDe.filter keep })).refreshDe

/-- The data of a range is erased (R188): the zones it covers become Empty, conventional blocks are deallocated, records go. -/
def State.eraseRange (s : State) (n : Ns) (lo len : Nat) : State :=
  let s := s.dropBlocks n.nsid lo len
  let s := if n.zoned then
      (n.zones.filter (fun z => decide (lo ≤ z.1 * zoneLbas) && decide (z.1 * zoneLbas < lo + len))).foldl
        (fun s z => s.emptyZone n z.1) s
    else s
  s.dropRecords n.nsid lo len

/-- A whole namespace is erased, its reservations and attachments standing. -/
def State.eraseNs (s : State) (nsid : Nat) : State :=
  match s.nspace nsid with
  | some n => s.eraseRange n 0 n.nsze
  | none => s

/-! ### The TCG subset (R185, R186) -/

/-- TCG method status SUCCESS. -/
def Tcg.success : Nat := 0
/-- TCG method status NOT_AUTHORIZED. -/
def Tcg.notAuthorized : Nat := 1
/-- TCG method status SP_BUSY. -/
def Tcg.spBusy : Nat := 3
/-- TCG method status INVALID_PARAMETER. -/
def Tcg.invalidParameter : Nat := 0xC
/-- TCG method status AUTHORITY_LOCKED_OUT. -/
def Tcg.lockedOut : Nat := 0x12

/-- Whether an authority is authenticated in the session, which is with the Locking SP: the authorities of R186 and the Locking table
are its objects (PRESUMED, TCG Storage Enterprise SSC; notes/assumptions/5.md). -/
def State.authed (s : State) (auth : Nat) : Bool :=
  match s.xts.session with
  | some t => decide (t.sp = 1) && t.auths.contains auth
  | none => false

/-- Whether the session is with the Locking SP. -/
def State.lockingSession (s : State) : Bool :=
  match s.xts.session with
  | some t => decide (t.sp = 1)
  | none => false

/-- Whether a key-band row keeps R185: within one conventional or zoned namespace, on 65,536-LBA boundaries, overlapping no
other key band. A row of length 0 bounds nothing. -/
def State.rowOk (s : State) (row : Nat) (r : LockRow) : Bool :=
  decide (r.len = 0) ||
    (match s.nspace r.nsid with
      | some n => ! n.compressed && decide (r.lo + r.len ≤ n.nsze)
      | none => false) && decide (r.lo % zoneLbas = 0) && decide (r.len % zoneLbas = 0) &&
      (s.keyBands r.nsid).all (fun q => decide (q.1 = row) || decide (overlapLen r.lo (r.lo + r.len) q.2.lo (q.2.lo + q.2.len) = 0))

/-- A row with the columns of a Set. -/
def LockRow.apply (r : LockRow) (v : LockSet) : LockRow :=
  { nsid := v.nsid.getD r.nsid, lo := v.lo.getD r.lo, len := v.len.getD r.len, rle := v.rle.getD r.rle,
    wle := v.wle.getD r.wle, rl := v.rl.getD r.rl, wl := v.wl.getD r.wl }

/-- Authenticate (R186, R189): TryLimit 5; success loads the slots of the authority's ranges. -/
def State.tcgAuthenticate (s : State) (auth : Nat) (pin : List Byte) : State × Nat :=
  match s.xts.session with
  | none => (s, Tcg.notAuthorized)
  | some t =>
    let tries := (sparseFind auth s.xts.tries).getD 0
    if t.sp ≠ 1 then (s, Tcg.notAuthorized)
    else if 5 ≤ tries then (s, Tcg.lockedOut)
    else if pin = s.pinOf auth then
      let s := s.modXts (fun x => { x with session := some { t with auths := if t.auths.contains auth then t.auths else t.auths ++ [auth] },
                                           tries := sparseErase auth x.tries })
      let slots := (s.xts.wrapped.map (·.1)).filter (fun k => decide (rowAuth k = auth))
      (slots.foldl (fun s k => s.loadKept k (some pin)) s, Tcg.success)
    else (s.modXts (fun x => { x with tries := sparseInsert auth (tries + 1) x.tries }), Tcg.notAuthorized)

/-- Set of a Locking row (R185, R186). -/
def State.tcgSetRow (s : State) (row : Nat) (v : LockSet) : State × Nat :=
  if ¬ s.authed (rowAuth row) then (s, Tcg.notAuthorized)
  else if row < 64 ∧ (v.nsid.isSome ∨ v.lo.isSome ∨ v.len.isSome) then (s, Tcg.invalidParameter)
  else
    let r := (s.lockRow row).apply v
    if 64 ≤ row ∧ ¬ s.rowOk row r then (s, Tcg.invalidParameter)
    else ((s.modXts (fun x => { x with rows := sparseInsert row r x.rows })).rewrap row, Tcg.success)

/-- Erase of a range (R188), by the EraseMaster. The rule speaks of key bands only: on a global-range row the method draws a new global
key and erases the LBAs that no key band holds (DESIGN CHOICE, notes/assumptions/17.md). -/
def State.tcgErase (s : State) (row : Nat) : State × Nat :=
  if ¬ s.authed 0 then (s, Tcg.notAuthorized)
  else
    let r := s.lockRow row
    let s := s.newKey row
    if row < 64 then
      match s.nspace (row + 1) with
      | some n =>
        let bands := s.keyBands n.nsid
        let whole := s.eraseRange n 0 n.nsze
        if bands.isEmpty then (whole, Tcg.success)
        else
          let units := (List.range n.units).filter (fun u =>
            bands.all (fun q => decide (overlapLen (u * zoneLbas) ((u + 1) * zoneLbas) q.2.lo (q.2.lo + q.2.len) = 0)))
          (units.foldl (fun s u => s.eraseRange n (u * zoneLbas) zoneLbas) s, Tcg.success)
      | none => (s, Tcg.success)
    else
      match s.nspace r.nsid with
      | some n => (s.eraseRange n r.lo r.len, Tcg.success)
      | none => (s, Tcg.success)

/-- What a method returns beside its status (R186): the columns of a row, random bytes, or nothing that the specification states. -/
def State.tcgData (s : State) (c : TcgMethod) (st : Nat) : TcgData :=
  if st ≠ Tcg.success then .nothing
  else
    match c with
    | .getRow row => .row (s.lockRow row.val)
    | .random n => .bytes ((List.range n).map (fun i => Config.freeByte (2 ^ 80 + 2 ^ 20 * s.fresh + i)))
    | _ => .nothing

/-- A TCG method and its status (R186). -/
def State.tcg (s : State) (c : TcgMethod) : State × Nat :=
  match c with
  | .properties => (s, Tcg.success)
  | .startSession sp =>
    if s.xts.session.isSome then (s, Tcg.spBusy)
    else (s.modXts (fun x => { x with session := some ⟨sp.val, []⟩ }), Tcg.success)
  | .syncSession => (s, if s.xts.session.isSome then Tcg.success else Tcg.notAuthorized)
  | .closeSession => (s.modXts (fun x => { x with session := none }), Tcg.success)
  | .authenticate a pin => s.tcgAuthenticate a.val pin
  | .getRow _ => (s, if s.lockingSession then Tcg.success else Tcg.notAuthorized)
  | .setRow row v => s.tcgSetRow row.val v
  | .setPin a pin =>
    if ¬ s.authed a.val then (s, Tcg.notAuthorized)
    else if pin.length = 0 ∨ 32 < pin.length then (s, Tcg.invalidParameter)
    else
      let s := s.modXts (fun x => { x with pins := sparseInsert a.val pin x.pins })
      let slots := (s.xts.wrapped.map (·.1)).filter (fun k => decide (rowAuth k = a.val))
      (slots.foldl (fun s k => s.rewrap k) s, Tcg.success)
  | .erase row => s.tcgErase row.val
  | .random _ => ({ s with fresh := s.fresh + 1 }, if s.xts.session.isSome then Tcg.success else Tcg.notAuthorized)

/-- Whether a method needs a new key, and so waits while the health tests fail (R189). -/
def needsKey : TcgMethod → Bool
  | .erase _ => true
  | _ => false

end Sys2Proof.Machine
end

