-- ==== Sys2Proof/Machine/Mem.lean ====
section
/-!
DEFINITION. Sys2Proof/Machine/Mem.lean: memory and its protection (spec/14_memory_protection.md): correctable and uncorrectable
errors, the scrubber, refresh, the remap tables and the flip mask.
-/
namespace Sys2Proof.Machine

/-- A change of MEM's state. -/
def State.modMem (s : State) (f : MemSt → MemSt) : State := { s with memp := f s.memp }

/-! ### Addresses -/

/-- The region code of an address (MEM_x_INFO.REGION): 0 to 7 as R40 lists SRAM, 8 to 12 as R42 lists DRAM. -/
def memRegion (a : Nat) : Nat :=
  if inDram a then
    (if a < 0x818000000 then 8 else if a < 0x898000000 then 9 else if a < 0x89C000000 then 10
     else if a < 0x8A0000000 then 11 else 12)
  else if a < 0x10800000 then 0
  else if a < 0x11400000 then 1
  else if a < 0x11480000 then 2
  else if a < 0x11600000 then 3
  else if a < 0x11640000 then 4
  else if a < 0x11680000 then 5
  else if a < 0x116C0000 then 6
  else 7

/-- The dirty limit in blocks: min(4 GiB, half of the cache region) (R107). -/
def State.dirtyLimit (s : State) : Nat := min (2 ^ 20) ((s.dramSize - 5 * 2 ^ 29) / 2 / 4096)

/-- The page of DRAM, or the row of SRAM, that the remap table redirects (R470). -/
def remapUnit (a : Nat) : Nat := if inDram a then (a - 0x800000000) / 4096 else (a - 0x10000000) / 1024

/-- The spare of an RMT entry (R470). -/
def rmtSpare (dram : Bool) (i : Nat) : Nat := if dram then 0x817FE0000 + 4096 * i else 2 ^ 40 + 1024 * i

/-- The address range an RMT entry redirects. -/
def rmtBase (dram : Bool) (u : Nat) : Nat := if dram then 0x800000000 + 4096 * u else 0x10000000 + 1024 * u

/-- The size of a page or row. -/
def rmtLen (dram : Bool) : Nat := if dram then 4096 else 1024

/-- The entries of a remap table. -/
def rmtCount (dram : Bool) : Nat := if dram then 32 else 16

/-- An RMT entry's register. -/
def rmtReg (dram : Bool) (i : Nat) : Nat := if dram then Reg.MEM_RMT_D_n i else Reg.MEM_RMT_S_n i

/-- V of an RMT entry. -/
def rmtV (dram : Bool) (i : Nat) : Fld := ⟨rmtReg dram i, 31, 31⟩
/-- BUSY of an RMT entry. -/
def rmtBusy (dram : Bool) (i : Nat) : Fld := ⟨rmtReg dram i, 30, 30⟩
/-- PAGE or ROW of an RMT entry. -/
def rmtUnit (dram : Bool) (i : Nat) : Fld := ⟨rmtReg dram i, if dram then 22 else 14, 0⟩

/-! ### The remap tables (R470, R471) -/

/-- An entry is written with V = 1: the copy starts. -/
def State.rmtStart (s : State) (dram : Bool) (i u : Nat) : State :=
  ((s.fput (rmtUnit dram i) u).fput (rmtV dram i) 1).fput (rmtBusy dram i) 1

/-- The redirection of an entry ends. -/
def State.rmtDrop (s : State) (dram : Bool) (i : Nat) : State :=
  s.modMem (fun m => { m with remap := m.remap.filter (fun r => decide (r.2.2 ≠ rmtSpare dram i)) })

/-- RMT_ENTRY_WRITE: a write of an RMT entry (R470): nothing while BUSY; V = 1 starts a copy, V = 0 ends the redirection. With
MEM_LOCK set only the firmware cores and permitted JTAG write it (R476). -/
def State.rmtWrite (s : State) (m : Master) (dram : Bool) (i : Nat) (w : Word) : State :=
  let may := ! s.fbit Reg.MEM_LOCK_LOCK || m.isCore || (decide (m = .jtag) && s.jtagPermitted)
  let u := if dram then wordBits w 22 0 else wordBits w 14 0
  if rmtCount dram ≤ i ∨ ¬ may ∨ s.fbit (rmtBusy dram i) then s
  else
    let s := s.rmtDrop dram i
    if w.getLsbD 31 then s.rmtStart dram i u else (s.fput (rmtUnit dram i) u).fput (rmtV dram i) 0

/-- RMT_COPY_DONE: the copy of an entry ends (R470): data, poison and alterations go to the spare, and so do accesses from now
on. -/
def State.rmtDone (s : State) (dram : Bool) (i : Nat) : State :=
  if rmtCount dram ≤ i ∨ ¬ s.fbit (rmtBusy dram i) then s
  else
    let base := rmtBase dram (s.fget (rmtUnit dram i))
    let len := rmtLen dram
    let spare := rmtSpare dram i
    let bytes := s.memBytes len base
    let from' := s.mem.filter (fun kb => ! (decide (spare ≤ kb.1) && decide (kb.1 < spare + len)))
    let mem := (bytes.zipIdx).foldl (fun l (bi : Byte × Nat) => sparseSet memDefault l (spare + bi.2) bi.1) from'
    let s := { s with mem := mem }
    let s := s.modMem (fun m => { m with remap := (base, len, spare) :: m.remap.filter (fun r => decide (r.1 ≠ base)) })
    (s.fput (rmtBusy dram i) 0).evt Reg.MEM_EVT_STAT_RMTDONE .notice

/-- Firmware remaps the page or row of an address (R471): into a free entry, or, with none free, the failure is counted,
offered and reported. -/
def State.remapFor (s : State) (a : Nat) : State :=
  let dram := inDram a
  let u := remapUnit a
  let l := List.range (rmtCount dram)
  if l.any (fun i => s.fbit (rmtBusy dram i) && decide (s.fget (rmtUnit dram i) = u)) then s
  else
    match l.find? (fun i => ! s.fbit (rmtV dram i) && ! s.fbit (rmtBusy dram i)) with
    | some i => s.rmtStart dram i u
    | none => ((s.bump Reg.MEM_RMTFULL).note Reg.MEM_RMTFULL .fault).asyncAll 1 0 2

/-! ### Errors (R464 to R467, R489, R490) -/

/-- The unit of an address: the first address of its word or line. -/
def eccBase (a : Nat) : Nat := a / eccUnit a * eccUnit a

/-- The log registers of an error: the address and INFO; a further error while VALID is 1 sets OVER and the first stays. -/
def State.memLog (s : State) (ue : Bool) (a nsym client : Nat) (poison inj : Bool) : State :=
  let info := if ue then Reg.MEM_UE_INFO else Reg.MEM_CE_INFO
  let lo := if ue then Reg.MEM_UE_ADDR_LO else Reg.MEM_CE_ADDR_LO
  let hi := if ue then Reg.MEM_UE_ADDR_HI else Reg.MEM_CE_ADDR_HI
  let old := (s.rd info).toNat
  if old.testBit 31 then s.wr info (BitVec.ofNat 32 (putBits old 30 30 1))
  else
    let w := 2 ^ 31 + (if inj then 2 ^ 29 else 0) + (if poison then 2 ^ 28 else 0) + (if inDram a then 2 ^ 27 else 0) +
      client % 8 * 2 ^ 24 + memRegion a * 2 ^ 20 + nsym % 256
    ((s.wr lo (BitVec.ofNat 32 a)).wr hi (BitVec.ofNat 32 (a / 2 ^ 32 % 16))).wr info (BitVec.ofNat 32 w)

/-- Whether errors at a unit show INJ (R473). -/
def State.injected (s : State) (a : Nat) : Bool := decide (s.memp.fmrLast = some (eccBase a))

/-- A correctable error (R465): corrected and written back, counted, logged, offered as a Trace; four at one page or row in one
scrub pass remap it (R471). -/
def State.memCe (s : State) (a nsym client : Nat) : State :=
  let inj := s.injected a
  let dram := inDram a
  let b := eccBase a
  let s := s.modMem (fun m => { m with flaws := sparseErase b m.flaws })
  let s := s.bump (if dram then Reg.MEM_DRAM_CE else Reg.MEM_SRAM_CE)
  let s := (s.memLog false a nsym client false inj).evtC
    (if dram then Reg.MEM_EVT_STAT_DCE else Reg.MEM_EVT_STAT_SCE) .trace (some .ce) []
  if inj then s
  else
    let key := rmtBase dram (remapUnit a)
    let k := (sparseFind key s.memp.ceCount).getD 0 + 1
    let s := s.modMem (fun m => { m with ceCount := sparseInsert key k m.ceCount })
    if k = 4 then s.remapFor a else s

/-- A core machine check on firmware structures (R466, R489): reloaded where the content stands elsewhere, else an FT. -/
def State.coreCheck (s : State) (a : Nat) (current : Bool) : State :=
  let r := memRegion a
  if r = 3 ∨ (r = 9 ∧ current) ∨ r = 11 then s
  else s.faultStop 0x40 0xFFFF (0xFFFF0000 + Config.fwCode 489 % 65536)

/-- Resident firmware handles an uncorrectable error by its content (R466). The UC rows start a handler, which completes with
its action (R490); a handler already running makes the error an FT. -/
def State.memContent (s : State) (e : MemErr) : State :=
  let uc (s : State) (act : State → State) : State :=
    if s.recov.depth ≠ 0 then s.startHandler else (act (s.startHandler)).endHandler
  let post (s : State) : State := s.fwPost 466 .notice (some .uc) []
  match e.content with
  | .clean => uc s post
  | .writeData => uc s post
  | .readData => uc s post
  | .dirty exts => exts.foldl (fun s x => s.createRecords x.1 x.2.1 x.2.2 2 0 0xFF 0xFF) s
  | .context nsid zone => s.contextError nsid zone
  | .ring slot => uc s (fun s => post { s with evr := { s.evr with ring := sparseInsert slot (.poisoned (s.slotBytes slot)) s.evr.ring } })
  | .capture _ => uc s post
  | .firmware current => uc s (fun s => s.coreCheck e.addr current)

/-- An uncorrectable error (R465, R466): poisoned, counted, logged, offered, handled by its content, and remapped unless it was
injected (R471). -/
def State.memUe (s : State) (e : MemErr) : State :=
  let inj := s.injected e.addr
  let dram := inDram e.addr
  let b := eccBase e.addr
  let s := s.modMem (fun m => { m with poison := insertNat b m.poison, flaws := sparseErase b m.flaws })
  let s := s.bump (if dram then Reg.MEM_DRAM_UE else Reg.MEM_SRAM_UE)
  let s := (s.memLog true e.addr 0xFF e.client false inj).evtC
    (if dram then Reg.MEM_EVT_STAT_DUE else Reg.MEM_EVT_STAT_SUE) .fault (some .uc) []
  let s := s.memContent e
  if inj then s else s.remapFor e.addr

/-- An error that a client's read meets: a poison read (R464), a correctable or an uncorrectable error. -/
def State.memError (s : State) (e : MemErr) : State :=
  if s.memp.poison.contains (eccBase e.addr) then
    (s.bump Reg.MEM_POISONRD).memLog true e.addr 0xFF e.client true (s.injected e.addr)
  else if e.nsym = 0xFF then s.memUe e
  else if e.nsym = 0 then s
  else s.memCe e.addr e.nsym e.client

/-- The errors of a client's reads, one after another. -/
def State.memErrors (s : State) (l : List MemErr) : State := l.foldl (fun s e => s.memError e) s

/-! ### Scrubber and refresh (R459, R468) -/

/-- The address of a scrub position. -/
def scrubAddr (dram : Bool) (pos : Nat) : Nat := if dram then 0x800000000 + 64 * pos else 0x10000000 + 8 * pos

/-- SCRUB_READ: the scrubber reads its next line or word (R468), which shows `nsym` symbols or bits in error; one altered by the
flip mask shows the alteration. It skips the control store backing, and what is poisoned once it has counted it. `client`: a
client wrote the unit between the read and the write-back, whole (true) or in part; the write-back is then cancelled and counted,
and a whole write leaves no poison (R469, R472). -/
def State.scrubRead (s : State) (dram : Bool) (nsym : Nat) (content : MemContent) (client : Option Bool) : State :=
  if s.passCycles dram = 0 ∨ s.eps = 4 then s
  else
    let posF := if dram then Reg.SCB_DPOS_LINE else Reg.SCB_SPOS_WORD
    let pos := s.fget posF
    let a := scrubAddr dram pos
    let flaw := (sparseFind (eccBase a) s.memp.flaws).getD 0
    let k := if flaw = 0 then nsym else if (if dram then 4 else 1) < flaw then 0xFF else flaw
    let s := if dram ∧ ¬ s.memp.written.contains (a / 4096 - 0x800000) then s.bump Reg.MEM_NWREAD else s
    let due := decide (k ≠ 0) && ! s.memp.poison.contains (eccBase a)
    let s := s.memError ⟨a, k, 4, content⟩
    let s := if due ∧ client.isSome then s.bump Reg.MEM_SCBCANCEL else s
    let s := if due ∧ client = some true then
        s.modMem (fun m => { m with poison := m.poison.filter (fun x => decide (x ≠ eccBase a)) })
      else s
    let next := if ¬ dram ∧ pos + 1 = 0x1400000 / 8 then 0x1480000 / 8 else pos + 1
    if s.scrubUnits dram ≤ next then
      let c := s.cycle
      let s := (s.fput posF 0).bump (if dram then Reg.MEM_DPASSES else Reg.MEM_SPASSES)
      s.modMem (fun m => { m with
        ceCount := m.ceCount.filter (fun x => decide (inDram x.1 ≠ dram)),
        dStart := if dram then c else m.dStart, sStart := if dram then m.sStart else c })
    else s.fput posF next

/-- DRAM_REFRESH: the DMC issues refresh at the rate that the device temperature of a subchannel, in °C as MR4 reports it, needs: doubled above
85 °C (R459). -/
def State.dramRefresh (s : State) (sub : Fin 4) (deg : Int) : State :=
  if s.pow.selfRef ∨ ¬ (s.fget Reg.MEM_CFG_SUBCH).testBit sub.val then s
  else
    let old := s.fget Reg.MEM_STATUS_HOTREF
    s.fput Reg.MEM_STATUS_HOTREF (putBits old sub.val sub.val (if 85 < deg then 1 else 0))

/-- FMR_ARM: a write of MEM_FMR_CTRL that arms the flip mask (R473). -/
def State.fmrArm (s : State) (m : Master) (w : Word) : State :=
  if m.isCore ∨ (m = .jtag ∧ s.jtagPermitted) then
    s.wr Reg.MEM_FMR_CTRL (BitVec.ofNat 32 (putBits (w.toNat) 31 31 1 &&& 0xF1FFFFFF))
  else s

end Sys2Proof.Machine
end

