-- ==== Sys2Proof/Machine/Own.lean ====
section
/-!
DEFINITION. Sys2Proof/Machine/Own.lean: configuration ownership (spec/17_viaduct_chain_and_ownership.md R541 to R550, R552): the
ownership actions, the loss of the owner, refusals, and log page 0xC5.
-/
namespace Sys2Proof.Machine

/-- A change of the OWN. -/
def State.modOwn (s : State) (f : OwnSt → OwnSt) : State := { s with own := f s.own }

/-- The owner's master ID. -/
def State.owner (s : State) : Nat := s.fget Reg.OWN_STATE_OWNER

/-- The ownership state: 0 None, 1 Held, 2 Handover, 3 Suspended. -/
def State.ownState (s : State) : Nat := s.fget Reg.OWN_STATE_STATE

/-- Fabric cycles of a number of seconds. -/
def seconds (k : Nat) : Nat := k * 10 ^ 9

/-- A change of owner or state (R547): counted, stamped, offered as a Notice and reported. -/
def State.ownChange (s : State) (owner state target : Nat) (due : Option Nat) : State :=
  let now := s.stamp
  let before := s.ownBefore
  let at' := s.cycle
  let s := ((s.fput Reg.OWN_STATE_OWNER owner).fput Reg.OWN_STATE_STATE state).fput Reg.OWN_STATE_TARGET target
  let s := (s.fput Reg.OWN_STATE_GEN (s.fget Reg.OWN_STATE_GEN + 1)).bump Reg.OWN_CHANGES
  ((s.modOwn (fun o => { o with since := now, due := due, prev := some (at', before) })).evt Reg.OWN_EVT_STAT_CHANGE .notice).vendorEvent 0xC5

/-- The ownership becomes None. -/
def State.ownNone (s : State) : State := (s.modOwn (fun o => { o with token := 0 })).ownChange 0 0 0 none

/-- Claim by a master (R544): the result. -/
def State.ownClaim (s : State) (m token : Nat) : State × Nat :=
  if s.ownState = 0 then ((s.modOwn (fun o => { o with token := token })).ownChange m 1 0 none, 0)
  else if s.owner ≠ m then (s, 1)
  else if token ≠ s.own.token then (s, 2)
  else if s.ownState = 1 then (s, 0)
  else (s.ownChange m 1 0 none, 0)

/-- Handover by a master to a target (R544). -/
def State.ownHandover (s : State) (m target token : Nat) : State × Nat :=
  if s.ownState = 1 ∧ s.owner = m ∧ token = s.own.token then
    (s.ownChange m 2 target (some (s.cycle + seconds (max 1 (s.fget Reg.OWN_CFG_HOTMO)))), 0)
  else (s, 4)

/-- Accept by a master (R544), also in the fabric cycle in which the handover to it has ended by its timer or by the loss of the owner, for
then the Accept acts (R548). -/
def State.ownAccept (s : State) (m token : Nat) : State × Nat :=
  if (s.ownState = 2 ∧ s.fget Reg.OWN_STATE_TARGET = m) ∨ (s.own.lapsed = some (s.cycle, m) ∧ (s.ownState = 1 ∨ s.ownState = 3)) then
    ((s.modOwn (fun o => { o with token := token })).ownChange m 1 0 none, 0)
  else (s, 3)

/-- Release by a master (R544). -/
def State.ownRelease (s : State) (m token : Nat) : State × Nat :=
  if (s.ownState = 1 ∨ s.ownState = 2) ∧ s.owner = m ∧ token = s.own.token then (s.ownNone, 0) else (s, 4)

/-- An ownership action (R543, R544): 1 Claim, 2 Handover, 3 Accept, 4 Release. -/
def State.ownAction (s : State) (m act target token : Nat) : State × Nat :=
  if act = 1 then s.ownClaim m token
  else if act = 2 then s.ownHandover m target token
  else if act = 3 then s.ownAccept m token
  else s.ownRelease m token

/-- Whether an ownership request's fields are valid (R543). -/
def State.ownValid (s : State) (act target token : Nat) (reserved : Bool) : Bool :=
  decide (1 ≤ act ∧ act ≤ 4 ∧ token ≠ 0) && ! reserved &&
    (if act = 2 then decide (1 ≤ target ∧ target ≤ 4 ∧ target ≠ s.owner) else decide (target = 0))

/-- Completion dword 0 of an ownership request, and the DATA of the chain's RESPONSE (R543, R538). -/
def State.ownDword (s : State) (result : Nat) : Nat := s.owner + 16 * s.ownState + 256 * result

/-- The fields of the 16 bytes of an ownership request: action, target, token, and whether a reserved byte is not 0. -/
def ownFields (l : List Byte) : Nat × Nat × Nat × Bool :=
  ((l.getD 0 0#8).toNat, (l.getD 1 0#8).toNat, leNat ((l.drop 8).take 8), ! allZero ((l.drop 2).take 6))

/-- A pending handover lapses: its target may still accept in this fabric cycle (R548). -/
def State.ownLapse (s : State) : State :=
  if s.ownState = 2 then
    let x := (s.cycle, s.fget Reg.OWN_STATE_TARGET)
    s.modOwn (fun o => { o with lapsed := some x })
  else s

/-- The owner is lost (R545): Suspended with timer GRACE, or None at once when GRACE is 0; a pending handover is cancelled. -/
def State.ownLost (s : State) (m : Nat) : State :=
  if s.owner = m ∧ (s.ownState = 1 ∨ s.ownState = 2) then
    let g := s.fget Reg.OWN_CFG_GRACE
    let s := s.ownLapse
    let s := s.ownChange m 3 0 (some (s.cycle + seconds g))
    if g = 0 then s.ownNone else s
  else s

/-- HEADLESS follows the upstream link and HEADEN (R521); a chain owner is lost when the unit becomes headless (R545). -/
def State.refreshHeadless (s : State) : State :=
  let now := ! s.fbit Reg.VCH_STATUS_UPLINK && ! s.fbit Reg.VCH_CFG_HEADEN
  let s := if now ∧ ¬ s.fbit Reg.VCH_STATUS_HEADLESS then s.ownLost 4 else s
  s.fput Reg.VCH_STATUS_HEADLESS (if now then 1 else 0)

/-- Whether the timer of Handover or Suspended has run out. -/
def State.ownDue (s : State) : Bool := match s.own.due with | some d => decide (d ≤ s.cycle) | none => false

/-- HANDOVER_TIMEOUT: HOTMO expires: Held, the owner unchanged (R544). -/
def State.handoverTimeout (s : State) : State :=
  if s.ownState = 2 ∧ s.ownDue then s.ownLapse.ownChange s.owner 1 0 none else s

/-- GRACE_EXPIRY: GRACE expires: None (R544). -/
def State.graceExpiry (s : State) : State := if s.ownState = 3 ∧ s.ownDue then s.ownNone else s

/-- SMBUS_OWNER_TIMEOUT: no MCTP message for SMBTMO seconds: an SMBus owner is lost (R545). -/
def State.smbusOwnerTimeout (s : State) : State :=
  if s.cycle < s.mctp.lastAt + seconds (max 1 (s.fget Reg.OWN_CFG_SMBTMO)) then s else s.ownLost 3

/-- A refusal to a non-owner (R546): counted, recorded for log page 0xC5, offered as a Trace event. `kind`: 0 a command, 1 a
register write, 2 a chain frame. -/
def State.ownRefuse (s : State) (m kind opc addr : Nat) : State :=
  ((s.bump Reg.OWN_REFUSED).modOwn (fun o => { o with last := (m, kind, opc, addr) })).evt Reg.OWN_EVT_STAT_REFUSED .trace

/-- The milliseconds left of Handover or Suspended (R550, OWN_LEFT). -/
def State.ownLeft (s : State) : Nat :=
  if s.ownState = 2 ∨ s.ownState = 3 then
    (match s.own.due with | some d => (d - s.cycle) / 10 ^ 6 | none => 0)
  else 0

/-- Whether a master holds the ownership: Held or Handover (R546). -/
def State.ownsNow (s : State) (m : Nat) : Bool := decide (s.owner = m) && (decide (s.ownState = 1) || decide (s.ownState = 2))

/-- Whether a command of R546's table is refused to a master: another is Held or in Handover. -/
def State.othersOwn (s : State) (m : Nat) : Bool := (decide (s.ownState = 1) || decide (s.ownState = 2)) && decide (s.owner ≠ m)

/-- A BAR2 ACTION write of port m (R552): Claim or Release under R544; any other value, or a token of 0, has no effect. -/
def State.bar2Action (s : State) (m : Fin 2) (act : Nat) : State :=
  let tok := s.own.barToken.get m
  if (act = 1 ∨ act = 4) ∧ tok ≠ 0 then
    let (s, r) := s.ownAction (1 + m.val) act 0 tok
    s.modOwn (fun o => { o with barResult := o.barResult.set m r })
  else s.modOwn (fun o => { o with barResult := o.barResult.set m 0xFF })

/-- Log page 0xC5 (R550) for a requesting master. -/
def State.ownPage (s : State) (req : Nat) : List Byte :=
  let (lm, lk, lo, la) := s.own.last
  leBytes 1 2 ++ leBytes s.owner 1 ++ leBytes s.ownState 1 ++ leBytes (s.fget Reg.OWN_STATE_TARGET) 1 ++ leBytes req 1 ++
    leBytes (s.fget Reg.OWN_STATE_GEN) 2 ++ leBytes s.own.since 8 ++ leBytes s.ownLeft 4 ++
    leBytes (s.rd Reg.OWN_CFG).toNat 4 ++ leBytes (s.rd Reg.OWN_CHANGES).toNat 4 ++
    leBytes (s.rd Reg.OWN_REFUSED).toNat 4 ++ leBytes lm 1 ++ leBytes lk 1 ++ leBytes lo 2 ++ leBytes la 4 ++ leBytes 0 24

end Sys2Proof.Machine
end

