-- ==== Sys2Proof/Machine/Queue.lean ====
section
/-!
DEFINITION. Sys2Proof/Machine/Queue.lean: command queues (spec/03_host_queues.md R92 to R101, R110 to R113) and the order of
commands (spec/04_ordering_and_errors.md R125 to R137, R150, R153): doorbells, fetch, admission, range locks and completions.
-/
namespace Sys2Proof.Machine

/-! ### Controllers, queues and contexts -/

/-- Controller m. -/
def State.ctrl (s : State) (m : Fin 2) : Ctrl := s.host.ctrls.get m

/-- A change of controller m. -/
def State.modCtrl (s : State) (m : Fin 2) (f : Ctrl → Ctrl) : State :=
  s.modHost (fun h => { h with ctrls := h.ctrls.modify m f })

/-- Submission queue `qid` of controller m. -/
def State.sq (s : State) (m : Fin 2) (qid : Nat) : Option Sq :=
  s.host.sqs.find? (fun q => decide (q.ctrl = m) && decide (q.qid = qid))

/-- Completion queue `qid` of controller m. -/
def State.cq (s : State) (m : Fin 2) (qid : Nat) : Option Cq :=
  s.host.cqs.find? (fun q => decide (q.ctrl = m) && decide (q.qid = qid))

/-- A change of a submission queue. -/
def State.modSq (s : State) (m : Fin 2) (qid : Nat) (f : Sq → Sq) : State :=
  s.modHost (fun h => { h with sqs := h.sqs.map (fun q => if q.ctrl = m ∧ q.qid = qid then f q else q) })

/-- A change of a completion queue. -/
def State.modCq (s : State) (m : Fin 2) (qid : Nat) (f : Cq → Cq) : State :=
  s.modHost (fun h => { h with cqs := h.cqs.map (fun q => if q.ctrl = m ∧ q.qid = qid then f q else q) })

/-- Whether a submission queue holds commands not yet fetched. -/
def Sq.waiting (q : Sq) : Bool := decide (q.head ≠ q.tail)

/-- The entries of a completion queue posted and not yet acknowledged. -/
def Cq.used (q : Cq) : Nat := (q.tail + q.size - q.head) % q.size

/-- The free entries of a completion queue: one slot of it always stays empty. -/
def Cq.free (q : Cq) : Nat := q.size - 1 - q.used

/-- Whether controller m fetches: enabled, ready, not shutting down and not resetting (R96, R141). -/
def State.fetching (s : State) (m : Fin 2) : Bool :=
  let c := s.ctrl m
  c.en && c.rdy && decide (c.shn = 0) && ! c.resetWait

/-- Contexts free (R97). DESIGN CHOICE (notes/assumptions/32.md): a tunnelled admin command (R540) holds a context too. -/
def State.ctxFree (s : State) : Nat := 16384 - s.host.ctxs.length

/-- The class of a submission queue: 0 admin, 1 urgent, 2 any other (R97, R100). -/
def State.sqClass (s : State) (q : Sq) : Nat :=
  if q.qid = 0 then 0 else if (s.ctrl q.ctrl).ams = 1 ∧ q.prio = 0 then 1 else 2

/-- The context rule of R97. -/
def State.contextOk (s : State) (q : Sq) : Bool :=
  if s.sqClass q = 2 then decide (512 < s.ctxFree) else decide (0 < s.ctxFree)

/-- The bound of R98 on a controller's admin commands; tunnelled ones do not count towards it (R540). -/
def State.adminRoom (s : State) (m : Fin 2) : Bool :=
  decide (s.host.ctxs.countP (fun c => decide (c.ctrl = m) && c.isAdmin && ! c.smbus) < 64)

/-- The completion-room condition of R96. -/
def State.roomOk (s : State) (q : Sq) : Bool :=
  match s.cq q.ctrl q.cqid with
  | some c => decide (s.host.ctxs.countP (fun x => decide (x.ctrl = q.ctrl) && decide (x.cqid = q.cqid) && ! x.smbus) < c.free)
  | none => false

/-- Whether a queue's command may be fetched, but for the arbitration (R96 to R98). -/
def State.mayFetch (s : State) (q : Sq) : Bool :=
  s.fetching q.ctrl && q.waiting && s.contextOk q && s.roomOk q && (decide (q.qid ≠ 0) || s.adminRoom q.ctrl)

/-- Whether two submission queues of a controller share fetches equally (R100): one class, and under weighted round robin one priority. -/
def State.sameShare (s : State) (p q : Sq) : Bool :=
  decide (p.ctrl = q.ctrl) && decide (s.sqClass p = s.sqClass q) &&
    (decide (s.sqClass q ≠ 2) || decide ((s.ctrl q.ctrl).ams = 0) || decide (p.prio = q.prio))

/-- The fetches that a weighted class has left in the round: high, medium, low. -/
def Ctrl.credit (c : Ctrl) (prio : Nat) : Nat := if prio = 1 then c.credits.1 else if prio = 2 then c.credits.2.1 else c.credits.2.2

/-- Whether a queue's class has a share of its own under weighted round robin. -/
def State.weighted (s : State) (q : Sq) : Bool := decide ((s.ctrl q.ctrl).ams = 1) && decide (s.sqClass q = 2)

/-- Whether the turn of a queue goes on: the last fetch of its controller was its, and fewer than 2^AB in a row (R100). -/
def State.turnGoes (s : State) (q : Sq) : Bool :=
  let c := s.ctrl q.ctrl
  match c.turn with
  | some (qid, k) => decide (qid = q.qid) && (decide (c.ab = 7) || decide (k < 2 ^ c.ab))
  | none => false

/-- The arbitration of R100: under weighted round robin no queue of a stricter class may be fetched, and a weighted class whose share of
the round is spent waits while another that may be fetched has some left; a turn of 2^AB commands ends, and the queue's next begins only
when every queue of equal share that may be fetched has had its own. -/
def State.turnOk (s : State) (q : Sq) : Bool :=
  let c := s.ctrl q.ctrl
  let others := s.host.sqs.filter (fun p => decide (p.ctrl = q.ctrl) && decide (p.qid ≠ q.qid) && s.mayFetch p)
  let strict := decide (c.ams = 0) || ! others.any (fun p => decide (s.sqClass p < s.sqClass q))
  let share := ! s.weighted q || decide (0 < c.credit q.prio) ||
    ! others.any (fun p => s.weighted p && decide (0 < c.credit p.prio))
  strict && share &&
    (s.turnGoes q || ! c.round.contains q.qid || others.all (fun p => ! s.sameShare p q || c.round.contains p.qid))

/-- The arbitration after a fetch from a queue (R100): the turn, the queues of the round, and, of a weighted class, one fetch less of its
share; with none left a round of HPW + 1, MPW + 1 and LPW + 1 fetches begins. -/
def State.turnTaken (s : State) (q : Sq) : Ctrl → Ctrl := fun c =>
  let goes := s.turnGoes q
  let peers := (s.host.sqs.filter (fun p => s.sameShare p q)).map (·.qid)
  let round := if goes then c.round
    else if c.round.contains q.qid then q.qid :: c.round.filter (fun x => ! peers.contains x) else q.qid :: c.round
  let (h, m, l) := if s.weighted q ∧ c.credit q.prio = 0 then (c.hpw + 1, c.mpw + 1, c.lpw + 1) else c.credits
  let credits := if ¬ s.weighted q then c.credits
    else if q.prio = 1 then (h - 1, m, l) else if q.prio = 2 then (h, m - 1, l) else (h, m, l - 1)
  let turn := (q.qid, if goes then (match c.turn with | some (_, n) => n + 1 | none => 1) else 1)
  { c with turn := some turn, round := round, credits := credits }

/-! ### Stalls and counters (R97, R99, R124) -/

/-- Whether some queue holds commands that a condition forbids fetching. DESIGN CHOICE (notes/assumptions/34.md): a queue of a controller
that is disabled, shutting down or resetting does not count. -/
def State.someHeld (s : State) (ok : Sq → Bool) : Bool :=
  s.host.sqs.any (fun q => s.fetching q.ctrl && q.waiting && ! ok q)

/-- HQE_CTX_FREE, HQE_CTX_LOW and the fetch stalls after a change; an entry into a stall is counted and offered (R124). -/
def State.refreshFetch (s : State) : State :=
  let s := s.fput Reg.HQE_CTX_FREE_COUNT s.ctxFree
  let s := s.fput Reg.HQE_CTX_LOW_COUNT (min s.ctxFree (s.fget Reg.HQE_CTX_LOW_COUNT))
  let a := s.someHeld s.contextOk
  let b := s.someHeld s.roomOk
  let oldA := s.host.stallCtx
  let oldB := s.host.stallCq
  let s := s.modHost (fun h => { h with stallCtx := a, stallCq := b })
  let s := if a ∧ ¬ oldA then (s.bump Reg.HQE_STALL_CTX).note Reg.HQE_STALL_CTX .trace else s
  if b ∧ ¬ oldB then (s.bump Reg.HQE_STALL_CQ).note Reg.HQE_STALL_CQ .trace else s

/-! ### Doorbells (R93, R95) -/

/-- SQ_TAIL_DOORBELL. -/
def State.sqDoorbell (s : State) (m : Fin 2) (qid v : Nat) : State :=
  match s.sq m qid with
  | none => s.asyncEvent m 0 0 1
  | some q => if q.size ≤ v then s.asyncEvent m 0 1 1 else (s.modSq m qid (fun q => { q with tail := v })).refreshFetch

/-- CQ_HEAD_DOORBELL. -/
def State.cqDoorbell (s : State) (m : Fin 2) (qid v : Nat) : State :=
  match s.cq m qid with
  | none => s.asyncEvent m 0 0 1
  | some q =>
    if q.size ≤ v ∨ q.used < (v + q.size - q.head) % q.size then s.asyncEvent m 0 1 1
    else (s.modCq m qid (fun q => { q with head := v })).refreshFetch

/-! ### Fetch (R96 to R101, R125) -/

/-- The media priority of a queue's commands (R101). -/
def State.mediaPrio (s : State) (q : Sq) : Nat :=
  if q.qid = 0 then 3 else if (s.ctrl q.ctrl).ams = 0 then 1 else 3 - q.prio % 4

/-- A context for a command of controller m, without an arrival number. -/
def newCtx (m : Fin 2) (sqid cqid prio : Nat) (e : Sqe) (smbus : Bool) : Ctx :=
  { arr := 0, ctrl := m, sqid := sqid, cqid := cqid, prio := prio, sqe := e, smbus := smbus, admitted := false, rlt := 0,
    locks := [], granted := false, zone := none, tail := false, tailDone := false, slba := e.slba, started := false,
    stored := false, committed := false, media := 0, bad := none, badLba := 0, status := none, dw0 := 0, dw1 := 0, admitCycle := 0,
    stallWc := false, covered := [], readStart := none, inhStart := none, data := [], pays := [], deAt := 0 }

/-- A context gets the next arrival number (R125). -/
def State.addCtx (s : State) (c : Ctx) : State :=
  let a := s.host.nextArr
  (s.modHost (fun h => { h with ctxs := h.ctxs ++ [{ c with arr := a }], nextArr := a + 1 })).wr Reg.HQE_ARRIVAL_LO
    (BitVec.ofNat 32 a)

/-- COMMAND_FETCH: the HQE fetches the entry at the head of a queue (R96 to R101); an I/O command wakes the part (R557). -/
def State.commandFetch (s : State) (m : Fin 2) (qid : Nat) (e : Sqe) : State :=
  match s.sq m qid with
  | none => s
  | some q =>
    if ¬ s.mayFetch q ∨ ¬ s.turnOk q then s
    else
      let c := newCtx m qid q.cqid (s.mediaPrio q) e false
      let s := s.modCtrl m (s.turnTaken q)
      let s := s.modSq m qid (fun q => { q with head := (q.head + 1) % q.size })
      let s := s.addCtx c
      (if qid = 0 then s else s.powerWake).refreshFetch

/-! ### Commands and their operands -/

/-- The opcodes of the NVM and Zoned Namespace command sets (R114). -/
def ioOpcodes : List Nat := [0x00, 0x01, 0x02, 0x08, 0x09, 0x0D, 0x0E, 0x11, 0x15, 0x79, 0x7A, 0x7D]

/-- The admin opcodes (R114). -/
def adminOpcodes : List Nat :=
  [0x00, 0x01, 0x02, 0x04, 0x05, 0x06, 0x08, 0x09, 0x0A, 0x0C, 0x0D, 0x10, 0x11, 0x15, 0x19, 0x1A, 0x80, 0x81, 0x82, 0x84,
   0xC0, 0xC1, 0xC2, 0xC3, 0xC4, 0xC5, 0xC6]

/-- What the boot ROM serves in Recovery mode, beside Get Log Page 0x03 (R587). -/
def recoveryOpcodes : List Nat := [0x06, 0x10, 0x11, 0xC0]

/-- Whether a context is an I/O command of an opcode. -/
def Ctx.io (c : Ctx) (opc : Nat) : Bool := ! c.isAdmin && decide (c.sqe.opc = opc)
/-- Whether a context is an admin command of an opcode. -/
def Ctx.adm (c : Ctx) (opc : Nat) : Bool := c.isAdmin && decide (c.sqe.opc = opc)
/-- Whether a command writes blocks: Write, Write Zeroes, Zone Append. -/
def Ctx.writes (c : Ctx) : Bool := c.io 0x01 || c.io 0x08 || c.io 0x7D

/-- The namespace a command names, when it is active for its controller (R90). -/
def State.nsFor (s : State) (c : Ctx) : Option Ns :=
  match s.nspace c.sqe.nsid with
  | some n => if n.att.get c.ctrl ∧ (n.zoned = false ∨ (s.ctrl c.ctrl).css = 6) then some n else none
  | none => none

/-- The master ID of a command (R541). -/
def Ctx.master (c : Ctx) : Nat := if c.smbus then 3 else 1 + c.ctrl.val

/-- The master of a Register Access command. -/
def Ctx.busMaster (c : Ctx) : Master := if c.smbus then .smbus else .host c.ctrl

/-! ### Checks at admission (R153) -/

/-- Whether an address lies in a register window or the control store window (R39). -/
def inRegSpace (a : Nat) : Bool := decide (0x40000000 ≤ a) && decide (a < 0x41080000)

/-- Whether an aligned address of the control store window names a word (R38). -/
def inCsWindow (a : Nat) : Bool := decide (0x41000000 ≤ a) && decide (a < 0x41080000)

/-- Whether Register Access can reach an address: aligned, and a register or the control store (R14, R37, R39). -/
def regReach (a : Nat) : Bool := decide (a % 4 = 0) && (inCsWindow a || (inRegSpace a && (findReg a).isSome))

/-- Whether the register at an address has a field of type RWO. -/
def regRwo (a : Nat) : Bool :=
  match findReg a with
  | some h => h.row.hasRwo
  | none => false

/-- Whether a command is refused to its master as not the configuration owner (R121, R546, R153). -/
def State.ownRefused (s : State) (c : Ctx) : Bool :=
  let q := c.sqe
  let m := c.master
  if ¬ c.isAdmin then false
  else if q.opc ∈ [0x0D, 0x10, 0x11, 0x15, 0x80, 0x84] ∨ (q.opc = 0x09 ∧ wordBits q.cdw10 7 0 = 0xC0) then s.othersOwn m
  else if q.opc ∈ [0xC2, 0xC3, 0xC4, 0xC6] then ! s.ownsNow m
  else if q.opc = 0xC5 then decide (1 ≤ q.action ∧ q.action ≤ 6) && ! s.ownsNow m
  else if q.opc = 0xC0 then
    q.cdw13.getLsbD 0 && regReach q.cdw12.toNat && regRwo q.cdw12.toNat && ! s.ownsNow m
  else false

/-- Whether the signal code of a capture channel is reserved, or a lane code without a lane (R369, R371). -/
def captureCodeBad (lane code : Nat) : Bool :=
  ! (decide (1 ≤ code ∧ code ≤ 0x0E ∧ lane < 4) || decide (0x40 ≤ code ∧ code ≤ 0x4F) || decide (code = 0))

/-- The fields of Capture and Injection that break R370 or R371. -/
def State.captureField (s : State) (q : Sqe) : Bool :=
  let lane := wordBits q.cdw13 30 28
  let chans := (List.range 4).map (fun k => wordBits q.cdw14 (8 * k + 7) (8 * k))
  decide (q.cdw12.toNat / 32 ≠ 0) ||
    (match q.action with
     | 0 => decide (q.ndt ≠ 0) || decide (q.cdw15.toNat / 8 ≠ 0) || decide (4 < lane) ||
         chans.any (captureCodeBad lane) || (decide (lane < 4) && ! s.dpi.actEn lane)
     | 1 => decide (q.ndt % 4 ≠ 0) || decide (16384 < q.cdw13.toNat + q.ndt / 4)
     | 2 => decide (q.ndt ≠ 0)
     | 3 => decide (q.ndt ≠ 0)
     | _ => true)

/-- The fields of Event Recorder Control that break R515 or R516, but for the entries of a list. -/
def evrField (q : Sqe) : Bool :=
  let z13 := decide (q.cdw13 = 0#32)
  let z14 := decide (q.cdw14 = 0#32)
  let rest := decide (q.cdw12.toNat / 16 = 0) && decide (q.cdw15 = 0#32)
  ! (rest && (match q.action with
    | 0 => z13 && z14 && decide (q.ndt = 450)
    | 1 => decide (q.cdw13.toNat ≤ 64) && decide (q.ndt = 0)
    | 2 => decide (q.cdw13.toNat ≤ 7) && z14 && decide (q.ndt = 48)
    | 3 => z13 && decide (q.ndt = 0)
    | 4 => z13 && z14 && decide (q.ndt = 0)
    | 5 => z13 && z14 && decide (q.ndt = 0)
    | 6 => z13 && z14 && decide (q.ndt = 6)
    | _ => false))

/-- The fields of an admin command that can be checked without its data (R115, R120, R122, R162, R593, R598, R600). -/
def State.adminField (s : State) (q : Sqe) : Bool :=
  if 0xC0 ≤ q.opc ∧ q.cdw11 ≠ 0#32 then true
  else if q.opc = 0x0D then decide (1 < wordBits q.cdw10 3 0)
  else if q.opc = 0x15 then decide (1 < wordBits q.cdw10 3 0)
  else if q.opc = 0x10 then decide (2 < wordBits q.cdw10 5 3) || decide (2 < wordBits q.cdw10 2 0)
  else if q.opc = 0x80 then
    decide (wordBits q.cdw10 3 0 ≠ 0) || ! decide (wordBits q.cdw10 11 9 ∈ [0, 2])
  else if q.opc = 0x84 then decide (wordBits q.cdw10 2 0 ≠ 4)
  else if q.opc = 0xC0 then
    decide (q.ndt ≠ 0) || decide (q.cdw13.toNat / 2 ≠ 0) || ! regReach q.cdw12.toNat
  else if q.opc = 0xC1 then decide (q.ndt ≠ 4)
  else if q.opc = 0xC2 then s.captureField q
  else if q.opc = 0xC3 then decide (1 < q.cdw12.toNat)
  else if q.opc = 0xC4 then
    decide (q.cdw12.toNat / 16 ≠ 0) || (match q.action with
      | 1 => decide (q.ndt ≠ 16)
      | 2 => decide (q.ndt ≠ 12)
      | 3 => decide (q.ndt ≠ 0)
      | 4 => decide (q.ndt ≠ 0)
      | 5 => decide (q.ndt ≠ 0)
      | 6 => decide (q.ndt ≠ 0)
      | _ => true)
  else if q.opc = 0xC5 then evrField q
  else if q.opc = 0xC6 then decide (1 < q.cdw12.toNat) || (decide (q.cdw12.toNat = 1) && decide (q.ndt ≠ 0))
  else false

/-- The fields of an I/O command (R103, R160, R162): limits, zone actions, starts of zones. -/
def ioField (n : Option Ns) (q : Sqe) : Bool :=
  let start := decide (q.slba % zoneLbas = 0)
  if q.opc = 0x01 ∨ q.opc = 0x02 then decide (512 < q.nlb)
  else if q.opc = 0x7D then decide (256 < q.nlb) || ! start
  else if q.opc = 0x79 then (zoneActOf q.zoneAction).isNone || (! q.selectAll && ! start)
  else if q.opc = 0x7A then
    decide (1 < q.zoneAction) || decide (7 < q.zras) ||
      (decide (q.zoneAction = 1) && (match n with | some n => ! n.compressed | none => false))
  else if q.opc = 0x0D then decide (2 < wordBits q.cdw10 2 0)
  else if q.opc = 0x11 then
    decide (2 < wordBits q.cdw10 2 0) || ! decide (1 ≤ wordBits q.cdw10 15 8 ∧ wordBits q.cdw10 15 8 ≤ 6)
  else if q.opc = 0x15 then decide (1 < wordBits q.cdw10 2 0)
  else false

/-- Whether a command goes to a range beyond its namespace. `ranges`: the ranges of a Dataset Management, as its data gives
them. -/
def rangeBad (n : Ns) (q : Sqe) (ranges : List (Nat × Nat)) : Bool :=
  if q.opc ∈ [0x01, 0x02, 0x08] then decide (n.nsze < q.slba + q.nlb)
  else if q.opc = 0x7D ∨ q.opc = 0x7A ∨ (q.opc = 0x79 ∧ ¬ q.selectAll) then decide (n.nsze ≤ q.slba)
  else if q.opc = 0x09 then ranges.any (fun r => decide (n.nsze < r.1 + r.2))
  else false

/-- The namespaces that an admin command locks whole (R129), or none when it names one that is not there (R152). -/
def State.adminLocks (s : State) (q : Sqe) : Option (List Nat) :=
  let all := s.ns.list.map (·.nsid)
  let one : Option (List Nat) :=
    if q.nsid = 0xFFFFFFFF then some all else if (s.nspace q.nsid).isSome then some [q.nsid] else none
  if q.opc = 0x80 then one
  else if q.opc = 0x0D ∧ wordBits q.cdw10 3 0 = 1 then one
  else if q.opc = 0x15 then
    (if (s.nspace q.nsid).isSome then some (if wordBits q.cdw10 3 0 = 1 then [q.nsid] else []) else none)
  else if q.opc = 0x84 then some ((s.ns.list.filter (fun n => n.att.get 0 || n.att.get 1)).map (·.nsid))
  else some []

/-- The locks a command requests at admission (R129); a Zone Append's comes at its tail grant. DESIGN CHOICE (notes/assumptions/39.md): a
Dataset Management range of length 0 takes no entry and no lock, since it covers no block. -/
def State.locksOf (s : State) (c : Ctx) (ranges : List (Nat × Nat)) : List Lock :=
  let q := c.sqe
  let lock (lo hi : Nat) (excl : Bool) : Lock := ⟨q.nsid, lo, hi, excl, false⟩
  let whole (k : Nat) : Lock := ⟨k, 0, 0, true, true⟩
  if c.isAdmin then ((s.adminLocks q).getD []).map whole
  else if q.opc = 0x02 then [lock q.slba (q.slba + q.nlb) false]
  else if q.opc = 0x01 ∨ q.opc = 0x08 then [lock q.slba (q.slba + q.nlb) true]
  else if q.opc = 0x09 then
    (if q.cdw11.getLsbD 2 then (ranges.filter (fun r => decide (0 < r.2))).map (fun r => lock r.1 (r.1 + r.2) true) else [])
  else if q.opc = 0x79 then
    (if q.selectAll then [whole q.nsid]
     else if q.zoneAction ∈ [2, 4, 5] then [lock q.slba (q.slba + zoneLbas) true] else [])
  else []

/-- The zone whose tail a command wants (R129). -/
def wantsTail (n : Ns) (q : Sqe) : Option Nat :=
  if n.zoned ∧ (q.opc ∈ [0x01, 0x08, 0x7D] ∨ (q.opc = 0x79 ∧ ¬ q.selectAll)) then some (q.slba / zoneLbas) else none

/-- The identity of a controller's host in reservations: its Host Identifier, or, while that is 0, the controller. -/
def State.hostOf (s : State) (m : Fin 2) : Nat :=
  let k := (s.ctrl m).hostId
  if k = 0 then 2 ^ 128 + m.val else k

/-- Whether a command conflicts with a reservation (NVMe 2.0 Base; R152). -/
def State.resvConflict (s : State) (n : Ns) (c : Ctx) : Bool :=
  let v := n.resv
  let h := s.hostOf c.ctrl
  let holder := decide (v.holder = some h)
  let reg := v.regs.any (fun r => decide (r.1 = h))
  let reads := c.io 0x02 || c.io 0x7A
  let writes := c.writes || c.io 0x00 || c.io 0x09 || c.io 0x79 || c.adm 0x80 || c.adm 0x0D || c.adm 0x15
  match v.rtype with
  | 1 => writes && ! holder
  | 2 => (writes || reads) && ! holder
  | 3 => writes && ! reg
  | 4 => (writes || reads) && ! reg
  | 5 => writes && ! reg
  | 6 => (writes || reads) && ! reg
  | _ => false

/-- The status of a granted or waiting namespace-wide lock of Format NVM or Sanitize on a namespace (R134). -/
def State.blockedNs (s : State) (c : Ctx) (nsid : Nat) : Option Status :=
  let l := s.host.ctxs.filter (fun x => decide (x.arr < c.arr) && x.locks.any (fun k => k.whole && decide (k.nsid = nsid)))
  if l.any (fun x => x.adm 0x80) then some St.formatting
  else if l.any (fun x => x.adm 0x84) then some St.sanitizing
  else none

/-- The first pending record that a write or Flush to a namespace, or to all, carries on a controller, among those created before
record number `lim` and not in `taken` (R149). -/
def State.firstDue (s : State) (m : Fin 2) (nsid lim : Nat) (taken : List Nat) : Option DeRec :=
  (s.pendingDe m).find? (fun r => decide (nsid = 0xFFFFFFFF ∨ r.nsid = nsid) && decide (r.seq < lim) && ! taken.contains r.seq)

/-- The records that the Flushes in execution with a lower arrival number are to carry on a controller: each is the first command
in arrival order to carry its record (R149). -/
def State.flushDue (s : State) (m : Fin 2) (arr : Nat) : List Nat :=
  s.host.ctxs.foldl (fun taken x =>
    if x.io 0x00 ∧ x.ctrl = m ∧ x.admitted ∧ x.status.isNone ∧ x.arr < arr then
      (match s.firstDue m x.sqe.nsid x.deAt taken with
       | some r => taken ++ [r.seq]
       | none => taken)
    else taken) []

/-- The record that a command of an arrival number to a namespace, or to all, carries on a controller, when it was admitted before
record number `lim` was created (R149). -/
def State.carried (s : State) (m : Fin 2) (arr nsid lim : Nat) : Option DeRec := s.firstDue m nsid lim (s.flushDue m arr)

/-- The namespaces a command is to use, for the checks of Format and Sanitize. -/
def State.nsOf (s : State) (c : Ctx) : List Nat :=
  if c.adm 0x15 then [c.sqe.nsid]
  else if c.isAdmin then (s.adminLocks c.sqe).getD []
  else if c.sqe.nsid = 0xFFFFFFFF then (s.ns.list.filter (fun n => n.att.get c.ctrl)).map (·.nsid)
  else [c.sqe.nsid]

/-- Whether an admin command is to a zoned namespace that CC.CSS = 0b000 makes inactive for its controller (R90): Format NVM, deletion and
attachment of a namespace, Get Log Page of its changed zones. -/
def State.hiddenNs (s : State) (c : Ctx) : Bool :=
  (c.adm 0x80 || c.adm 0x15 || (c.adm 0x0D && decide (wordBits c.sqe.cdw10 3 0 = 1)) ||
      (c.adm 0x02 && decide (wordBits c.sqe.cdw10 7 0 = 0xBF))) &&
    (match s.nspace c.sqe.nsid with | some n => n.zoned && decide ((s.ctrl c.ctrl).css ≠ 6) | none => false)

/-- The status found at admission, in the order of R153; none when the command goes on. Deferred Write Fault is not among them. -/
def State.admitCheck (s : State) (c : Ctx) (ranges : List (Nat × Nat)) : Option Status :=
  let q := c.sqe
  let any := s.nspace q.nsid
  let wrongSet := ! c.isAdmin && decide (q.opc ∈ [0x79, 0x7A, 0x7D]) && (match any with | some n => ! n.zoned | none => false)
  let needNs := ! c.isAdmin && ! (c.io 0x00 && decide (q.nsid = 0xFFFFFFFF))
  let held := (s.nsOf c).filterMap (fun k => s.blockedNs c k)
  let blocked := if held.contains St.formatting then some St.formatting else held.head?
  if s.recov.stopped then some St.internalError
  else if s.fget Reg.SYS_BOOT_MODE = 3 ∧
      ¬ (c.isAdmin ∧ (q.opc ∈ recoveryOpcodes ∨ (q.opc = 0x02 ∧ wordBits q.cdw10 7 0 = 0x03))) then some St.invalidOpcode
  else if (if c.isAdmin then ¬ q.opc ∈ adminOpcodes else ¬ q.opc ∈ ioOpcodes ∨ wrongSet) then some St.invalidOpcode
  else if s.ownRefused c then some St.notOwner
  else if (if c.isAdmin then s.adminField q else ioField any q) then some St.invalidField
  else if s.host.ctxs.any (fun x => decide (x.arr < c.arr) && decide (x.ctrl = c.ctrl) && decide (x.sqid = c.sqid) &&
      decide (x.sqe.cid = q.cid) && decide (x.smbus = c.smbus)) then some St.cidConflict
  else if (needNs ∧ (s.nsFor c).isNone) ∨ (c.isAdmin ∧ (s.adminLocks q).isNone) ∨ s.hiddenNs c then some St.invalidNs
  else if (match s.nsFor c with | some n => needNs && rangeBad n q ranges | none => false) then some St.lbaRange
  else if blocked.isSome then blocked
  else if (s.nsOf c).any (fun k => match s.nspace k with | some n => s.resvConflict n c | none => false) then
    some St.reservation
  else none

/-! ### Range locks (R130, R131) -/

/-- Whether two ranges overlap. -/
def Lock.meets (a b : Lock) : Bool :=
  decide (a.nsid = b.nsid) && (a.whole || b.whole || (decide (a.lo < b.hi) && decide (b.lo < a.hi)))

/-- Whether two locks are incompatible. -/
def Lock.conflicts (a b : Lock) : Bool := a.meets b && (a.excl || b.excl)

/-- Whether a command's locks wait for a command with a lower arrival number. -/
def State.lockWaits (s : State) (c : Ctx) : Bool :=
  s.host.ctxs.any (fun x => decide (x.arr < c.arr) && x.locks.any (fun a => c.locks.any (fun b => a.conflicts b)))

/-- Whether a command wants its zone's tail while another wants or holds it. -/
def State.tailBusy (s : State) (c : Ctx) : Bool :=
  s.host.ctxs.any (fun x => decide (x.arr < c.arr) && decide (x.sqe.nsid = c.sqe.nsid) && ! x.isAdmin &&
    x.zone.isSome && decide (x.zone = c.zone))

/-! ### Admission (R137, R149, R150) -/

/-- A record is delivered on a controller (R149, R146, R151). -/
def State.deliver (s : State) (m : Fin 2) (seq : Nat) : State :=
  (s.modHost (fun h => { h with de := h.de.map (fun r => if r.seq = seq then { r with del := r.del.set m true } else r) })).refreshDe

/-- A command ends with Deferred Write Fault, carrying a record (R150, R151). -/
def State.endDeferred (s : State) (a : Nat) (m : Fin 2) (r : DeRec) : State :=
  (s.deliver m r.seq).finishNs a St.deferred 0 0 r.nsid r.slba r.seq

/-- The command next to be admitted: the lowest arrival number not admitted and without an outcome. -/
def State.nextAdmit (s : State) : Option Ctx :=
  s.host.ctxs.find? (fun c => ! c.admitted && c.status.isNone)

/-- A command enters the admission stall (R137). -/
def State.stallRlt (s : State) : State :=
  if s.rltStalled then s
  else ((s.modHost (fun h => { h with stallRlt := true, stallArr := (s.nextAdmit.map (·.arr)).getD 0 })).bump Reg.RLT_STALL).note Reg.RLT_STALL .trace

/-- RLT_ADMISSION: the next command in arrival order is admitted (R137): it completes at admission with a status found there
(R153) or as a carrying write (R150), waits while too few entries are free, or requests its locks and takes its place at its
zone's tail. -/
def State.rltAdmission (s : State) (ranges : List (Nat × Nat)) : State :=
  match s.nextAdmit with
  | none => s
  | some c =>
    let go (s : State) := s.modHost (fun h => { h with stallRlt := false })
    match s.admitCheck c ranges with
    | some st =>
      let s := (go s).modCtx c.arr (fun c => { c with admitted := true })
      let s := if st = St.notOwner then
          s.ownRefuse c.master (if c.sqe.opc = 0xC0 then 1 else 0) c.sqe.opc (if c.sqe.opc = 0xC0 then c.sqe.cdw12.toNat else 0)
        else s
      let bad := c.isAdmin && decide (c.sqe.opc = 0xC0) && decide (st = St.invalidField) && ! regReach c.sqe.cdw12.toNat &&
        inRegSpace c.sqe.cdw12.toNat
      let s := if bad then
          s.refusedAccess c.busMaster c.sqe.cdw12.toNat (decide (c.sqe.cdw12.toNat % 4 = 0)) (c.sqe.cdw13.getLsbD 0)
        else s
      s.endWith c.arr st
    | none =>
      match (if c.writes then s.carried c.ctrl c.arr c.sqe.nsid s.host.deSeq else none) with
      | some r => ((go s).modCtx c.arr (fun c => { c with admitted := true })).endDeferred c.arr c.ctrl r
      | none =>
        let locks := s.locksOf c ranges
        let need := if c.io 0x7D then 1 else locks.length
        if 8192 < s.rltUsed + need then s.stallRlt
        else
          let zone := match s.nsFor c with | some n => if c.isAdmin then none else wantsTail n c.sqe | none => none
          let now := s.cycle
          let de := s.host.deSeq
          let c' : Ctx := { c with admitted := true, rlt := need, locks := locks, zone := zone,
                                   granted := locks.isEmpty && ! c.io 0x7D, admitCycle := now, deAt := de }
          let s := (go s).modCtx c.arr (fun _ => c')
          let s := if s.lockWaits c' then s.bump Reg.RLT_WAITS else s
          let s := if zone.isSome ∧ s.tailBusy c' then s.bump Reg.RLT_TAIL_WAITS else s
          s.refreshRlt

/-! ### Grants (R130, R134, R135, R187) -/

/-- A command whose namespace is gone, or no longer active for its controller, by the time it is granted or run completes with
Invalid Namespace or Format (R134). -/
def State.lostNs (s : State) (c : Ctx) : State :=
  if ! c.isAdmin && c.admitted && c.status.isNone && (s.nsFor c).isNone then s.endWith c.arr St.invalidNs else s

/-- Whether a lock grant waits for a Security Send of a lower arrival number, whose effect on the Locking table it is to see
(R187). -/
def State.awaitsTcg (s : State) (c : Ctx) : Bool :=
  ! c.isAdmin && s.host.ctxs.any (fun x => decide (x.arr < c.arr) && x.adm 0x81 && x.status.isNone)

/-- Whether a command's range is locked by the Locking table (R187). -/
def State.deniedBy (s : State) (c : Ctx) : Bool :=
  let write := c.writes || c.io 0x09
  (write || c.io 0x02) && c.locks.any (fun k => s.rangeLocked k.nsid k.lo k.hi write)

/-- LOCK_GRANT: a command's locks are granted (R130); the Locking table is checked then (R187). -/
def State.lockGrant (s : State) (a : Nat) : State :=
  match s.ctx a with
  | none => s
  | some c =>
    if ¬ c.admitted ∨ c.granted ∨ c.locks.isEmpty ∨ c.status.isSome ∨ s.lockWaits c ∨ s.awaitsTcg c then s
    else if ¬ c.isAdmin ∧ (s.nsFor c).isNone then s.lostNs c
    else
      let s := s.modCtx a (fun c => { c with granted := true })
      if s.deniedBy c then s.endWith a St.accessDenied else s

/-- The tail checks of a write or Zone Append have passed: the zone is bound if need be and open, and an append takes its LBA
and requests its lock (R135, R168). `band`: the band firmware chooses. -/
def State.tailWrite (s : State) (c : Ctx) (n : Ns) (z : Nat) (band : Option (Nat × Nat × Nat)) : State :=
  let v := n.zone z
  let hold (s : State) : State :=
    let s := if v.open? then s else s.openZone n z .implOpen
    let s := s.modCtx c.arr (fun c => { c with tail := true, tailDone := true })
    if c.io 0x7D then
      let lba := z * zoneLbas + v.wp
      let c' : Ctx := { c with slba := lba, locks := [⟨n.nsid, lba, lba + c.sqe.nlb, true, false⟩] }
      let s := if s.lockWaits c' then s.bump Reg.RLT_WAITS else s
      s.modCtx c.arr (fun x => { x with slba := lba, locks := c'.locks })
    else s
  match v.band with
  | some _ => hold s
  | none =>
    match s.bindHalf n, band with
    | none, _ => s.endWith c.arr St.noActuator
    | some _, none => s
    | some h, some b => match s.bindZone n z h b with | some s => hold s | none => s

/-- ZONE_TAIL_GRANT: a zone's tail is granted in arrival order, and the zone checks are made (R135). -/
def State.tailGrant (s : State) (a : Nat) (band : Option (Nat × Nat × Nat)) : State :=
  match s.ctx a with
  | none => s
  | some c =>
    match c.zone, s.nspace c.sqe.nsid with
    | some z, some n =>
      if c.tail ∨ c.status.isSome ∨ s.tailBusy c then s
      else if (s.nsFor c).isNone then s.lostNs c
      else if c.io 0x79 then
        match zoneActOf c.sqe.zoneAction with
        | none => s
        | some act =>
          match s.actCheck n z act with
          | some st => s.endWith a st
          | none => s.modCtx a (fun c => { c with tail := true, tailDone := true })
      else
        match s.writeCheck n z c.sqe.slba c.sqe.nlb (c.io 0x7D) with
        | some st => s.endWith a st
        | none => s.tailWrite c n z band
    | _, _ => s

/-- Whether a command may execute (R131): admitted, its locks granted, its tail held when it wants one, and no outcome yet. -/
def Ctx.ready (c : Ctx) : Bool :=
  c.admitted && c.granted && (c.zone.isNone || c.tail) && c.status.isNone

/-! ### Completions (R97, R104, R110 to R113, R141) -/

/-- Whether what the HQE writes reaches host memory (R141). -/
def State.hostReach (s : State) (m : Fin 2) : Bool := s.fbit (Reg.HPXn_LINK_UP m) && s.fbit (Reg.HPXn_FUNC_BME m)

/-- A word of the MSI-X table of function m (R86), the Vector Control words apart. -/
def State.msixWord (s : State) (m : Fin 2) (k : Nat) : Nat := (sparseFind k (s.host.cfg.get m).table).getD 0

/-- An interrupt message of a vector, with the address and the data of its table entry: sent, or pending while the vector or the function is masked (R111). With MSI-X disabled the
function asserts INTx instead (`State.intx`). -/
def State.signal (s : State) (m : Fin 2) (v : Nat) : State :=
  if ¬ s.fbit (Reg.HPXn_FUNC_MSIXEN m) then s
  else if s.fbit (Reg.HPXn_FUNC_MSIXMASK m) ∨ ¬ (s.ctrl m).unmasked.contains v then
    s.modCtrl m (fun c => { c with pendVec := insertNat v c.pendVec })
  else if s.hostReach m then s.emit (.msix m v (s.msixWord m (4 * v) + s.msixWord m (4 * v + 1) * 2 ^ 32) (s.msixWord m (4 * v + 2)))
  else s

/-- INTx of function m (R111). -/
def State.intx (s : State) (m : Fin 2) : Bool :=
  ! s.fbit (Reg.HPXn_FUNC_MSIXEN m) && decide ((s.ctrl m).intms % 2 = 0) &&
    s.host.cqs.any (fun q => decide (q.ctrl = m) && q.ien && decide (0 < q.used))

/-- The vector's aggregation ends (R112, R113). -/
def State.endAggregation (s : State) (m : Fin 2) (v : Nat) : State :=
  s.modCtrl m (fun c => { c with unsig := c.unsig.filter (fun u => decide (u.1 ≠ v)) })

/-- An entry posted to a completion queue with interrupts enabled is signalled, at once or coalesced (R112, R113). -/
def State.signalEntry (s : State) (m : Fin 2) (q : Cq) (ok : Bool) : State :=
  let v := q.vector
  let c := s.ctrl m
  if ¬ q.ien then s
  else if q.qid = 0 ∨ ¬ ok ∨ c.cdVectors.contains v then (s.endAggregation m v).signal m v
  else
    let (n, t) : Nat × Nat := match c.unsig.find? (fun u => decide (u.1 = v)) with | some u => (u.2.1 + 1, u.2.2) | none => (1, s.cycle)
    if c.coalThr + 1 ≤ n ∨ c.coalTime = 0 then (s.endAggregation m v).signal m v
    else (s.endAggregation m v).modCtrl m (fun c => { c with unsig := c.unsig ++ [(v, n, t)] })

/-- COALESCE_TIMER_EXPIRY: TIME × 100 µs have passed since the oldest unsignalled entry of a vector (R112): each
entry of `unsig` is a vector, its count and the cycle of its oldest. -/
def State.coalesceExpiry (s : State) (m : Fin 2) (v : Nat) : State :=
  if (s.ctrl m).unsig.any (fun u => decide (u.1 = v) && decide (u.2.2 + (s.ctrl m).coalTime * 10 ^ 5 ≤ s.cycle)) then
    (s.endAggregation m v).signal m v
  else s

/-- The vectors whose pending entries no longer wait once the coalescing of controller m has changed send their messages (R112). -/
def State.coalesceSettle (s : State) (m : Fin 2) : State :=
  let c := s.ctrl m
  let go := c.unsig.filter (fun u => c.cdVectors.contains u.1 || decide (c.coalThr + 1 ≤ u.2.1) || decide (c.coalTime = 0))
  go.foldl (fun s u => (s.endAggregation m u.1).signal m u.1) s

/-- A vector's mask bit in the MSI-X table is written; a pending message is sent when neither mask holds it
(R111). -/
def State.msixUnmask (s : State) (m : Fin 2) (v : Nat) (mask : Bool) : State :=
  if mask then s.modCtrl m (fun c => { c with unmasked := c.unmasked.filter (fun x => decide (x ≠ v)) })
  else
    let s := s.modCtrl m (fun c => { c with unmasked := insertNat v c.unmasked })
    if (s.ctrl m).pendVec.contains v ∧ s.fbit (Reg.HPXn_FUNC_MSIXEN m) ∧ ¬ s.fbit (Reg.HPXn_FUNC_MSIXMASK m) then
      (s.modCtrl m (fun c => { c with pendVec := c.pendVec.filter (fun x => decide (x ≠ v)) })).signal m v
    else s

/-- The admin completion entry of a submission queue deletion comes after those of the queue's commands (R140). -/
def State.deleteWaits (s : State) (c : Ctx) : Bool :=
  c.adm 0x00 && decide (c.status = some St.success) &&
    s.host.ctxs.any (fun x => decide (x.ctrl = c.ctrl) && decide (x.sqid = wordBits c.sqe.cdw10 15 0) && ! x.isAdmin)

/-- The queues granted to a controller, or reserved to it before a grant when `res` (R92). -/
def State.granted (s : State) (cq res : Bool) (m : Fin 2) : Nat :=
  match (s.ctrl m).nq with
  | some (a, b) => if cq then b else a
  | none => if res ∧ ¬ s.singleX4 then 64 else 0

/-- HQE_Q_FREE after a change: the queues of the pool not granted (R92, R124). -/
def State.refreshPool (s : State) : State :=
  let free (cq : Bool) : Nat := 1024 - (s.granted cq false 0 + s.granted cq false 1)
  (s.fput Reg.HQE_Q_FREE_SQ (free false)).fput Reg.HQE_Q_FREE_CQ (free true)

/-- The I/O queues of a controller that has shut down return to the pool, and its reservation is restored (R92). -/
def State.returnQueues (s : State) (m : Fin 2) : State :=
  let io (c : Fin 2) (qid : Nat) : Bool := decide (c = m) && decide (qid ≠ 0)
  ((s.modHost (fun h => { h with sqs := h.sqs.filter (fun q => ! io q.ctrl q.qid),
                                 cqs := h.cqs.filter (fun q => ! io q.ctrl q.qid) })).modCtrl m
    (fun c => { c with nq := none })).refreshPool

/-- The queues of a controller return to the pool (R92), and its reservation is restored. -/
def State.dropQueues (s : State) (m : Fin 2) : State :=
  ((s.modHost (fun h => { h with sqs := h.sqs.filter (fun q => decide (q.ctrl ≠ m)),
                                 cqs := h.cqs.filter (fun q => decide (q.ctrl ≠ m)) })).modCtrl m
    (fun c => { c with nq := none })).refreshPool

/-- A controller reset is over once the last fetched command has ended: CSTS.RDY becomes 0 (R141). -/
def State.drain (s : State) (m : Fin 2) : State :=
  if (s.ctrl m).resetWait ∧ ¬ s.host.ctxs.any (fun c => decide (c.ctrl = m) && ! c.smbus) then
    (s.dropQueues m).modCtrl m (fun c => { c with resetWait := false, rdy := false })
  else s

/-- COMPLETION_POST: the entry of a command whose outcome is fixed is written to host memory, signalled, and its context freed
(R104, R110, R97); an entry that cannot reach host memory is counted (R141); a tunnelled command answers over SMBus. -/
def State.completionPost (s : State) (a : Nat) : State :=
  match s.ctx a with
  | none => s
  | some c =>
    match c.status with
    | none => s
    | some st =>
      if s.deleteWaits c then s
      else
        let m := c.ctrl
        let s := s.releaseLocks a
        let s := s.modHost (fun h => { h with ctxs := h.ctxs.filter (fun x => decide (x.arr ≠ a)) })
        let s :=
          if c.smbus then s.emit (.mi (some a) (st.sct * 256 + st.sc) (leBytes c.dw0 4))
          else
            match s.cq m c.cqid with
            | none => s
            | some q =>
              if ¬ s.hostReach m then s.bump Reg.HQE_CQ_LOST
              else
                let hd := match s.sq m c.sqid with | some x => x.head | none => 0
                let s := s.emit (.cqe m c.cqid q.tail q.phase c.sqid hd c.sqe.cid st c.dw0 c.dw1)
                let s := s.modCq m c.cqid (fun q =>
                  { q with tail := (q.tail + 1) % q.size, phase := if q.tail + 1 = q.size then ! q.phase else q.phase })
                let now := s.cycle
                let s := s.modHost (fun h => { h with lastPost := h.lastPost.set m (some now) })
                s.signalEntry m q (decide (st = St.success))
        ((s.refreshRlt).drain m).refreshFetch

end Sys2Proof.Machine
end

