-- ==== Sys2Proof/Machine/Port.lean ====
section
/-!
DEFINITION. Sys2Proof/Machine/Port.lean: the life of a port and its controller (spec/03_host_queues.md R83 to R92, R109, R123;
spec/04_ordering_and_errors.md R139 to R142): enabling, reset, shutdown, the link and the configuration space.
-/
namespace Sys2Proof.Machine

/-! ### Ending commands early (R140 to R142) -/

/-- A fourfold record with a function applied to each value. -/
def mapQuad {α β : Type} (f : α → β) (q : Quad α) : Quad β := ⟨f q.a0, f q.a1, f q.a2, f q.a3⟩

/-- The media operations of a command that ends early go on as destage writes of the data it has stored (R142). -/
def State.orphanOps (s : State) (a : Nat) : State :=
  let f (p : PostedOp) : PostedOp := if p.cmd = some a then { p with cmd := none, destage := true } else p
  let g (o : MscOp) : MscOp := { o with p := f o.p }
  let h (c : Option Commit) : Option Commit := c.map (fun c => { c with op := g c.op })
  let s := s.modMsc (fun m => { m with
    rings := m.rings.map (fun l => l.map f), ops := m.ops.map g, moveList := m.moveList.map g,
    commit := mapQuad h m.commit, running := mapQuad h m.running })
  { s with recov := { s.recov with ladders := (s.recov.ladders.filter (fun l => l.write || decide (l.p.cmd ≠ some a))).map
                                     (fun l => { l with p := f l.p }),
                                   inhibited := s.recov.inhibited.map f } }

/-- Whether an admin command has a commit point of its own, later than its beginning: a Set Features that turns the write cache off
(R105), Customer Microcode Load (R262). -/
def Ctx.lateCommit (c : Ctx) : Bool := c.adm 0xC3 || (c.adm 0x09 && decide (wordBits c.sqe.cdw10 7 0 = 6))

/-- Whether a command is past its commit point (R104, R139): its outcome is fixed, or it is an admin command that has begun. An
Asynchronous Event Request that waits is not. -/
def State.pastCommit (s : State) (c : Ctx) : Bool :=
  c.committed || c.status.isSome ||
    (c.isAdmin && c.started && ! c.lateCommit && ! (s.ctrl c.ctrl).aers.contains c.arr)

/-- What a command that ends early leaves (R142): stored data goes to the medium as a cached write's does. -/
def State.letGo (s : State) (c : Ctx) : State := if c.stored then s.orphanOps c.arr else s.withdrawOps c.arr

/-- A command ends early with a status (R140 step 3, R109). -/
def State.endEarly (s : State) (c : Ctx) (st : Status) : State := (s.letGo c).endWith c.arr st

/-- A command ends early without a completion entry (R141). -/
def State.endSilent (s : State) (c : Ctx) : State :=
  let s := (s.letGo c).releaseLocks c.arr
  (s.modHost (fun h => { h with ctxs := h.ctxs.filter (fun x => decide (x.arr ≠ c.arr)) })).refreshRlt

/-- The fetched commands of a controller that are not past their commit point. -/
def State.uncommitted (s : State) (m : Fin 2) : List Ctx :=
  s.host.ctxs.filter (fun c => decide (c.ctrl = m) && ! c.smbus && ! s.pastCommit c)

/-! ### Controller reset and enable (R89, R92, R141) -/

/-- A controller reset (R141): uncommitted commands end without entries; features, outstanding event requests and queues return
to their reset state, the queues when the last command has ended; an owner on the port is lost (R545). -/
def State.resetCtrl (s : State) (m : Fin 2) : State :=
  let gone := s.uncommitted m
  let s := s.modCtrl m (fun c =>
    { Ctrl.reset with rdy := c.rdy, resetWait := true, nq := c.nq, errLog := c.errLog, chgNs := c.chgNs, chgZones := c.chgZones, resvLog := c.resvLog,
                      unmasked := c.unmasked })
  let s := gone.foldl (fun s c => s.endSilent c) s
  let s := { s with evr := { s.evr with kept := s.evr.kept.set m none } }
  ((s.ownLost (1 + m.val)).drain m).refreshFetch

/-- Whether a port exists in the port mode (R81, R82). -/
def State.portOn (s : State) (m : Fin 2) : Bool := decide (m = 0) || ! s.singleX4

/-- Whether HPX runs: from the end of step 5 of the start-up sequence, or once the recovery controller has started (R584). -/
def State.hpxOn (s : State) : Bool := decide (s.fget Reg.SYS_BOOT_MODE ≠ 0) || decide (5 ≤ s.fget Reg.SYS_BOOT_STEP)

/-- CC_ENABLE: CC.EN goes from 0 to 1 with the settings given; with invalid ones the controller stays disabled (R89). The admin
queues come from AQA, ASQ and ACQ. -/
def State.ccEnable (s : State) (m : Fin 2) (css mps ams iosqes iocqes asqs acqs asq acq : Nat) : State :=
  let c := s.ctrl m
  if ¬ s.hpxOn ∨ ¬ s.portOn m ∨ c.en ∨ c.resetWait then s
  else
    let ok := decide (css = 0 ∨ css = 6) && decide (mps ≤ 4) && decide (ams ≤ 1)
    let s := s.modCtrl m (fun c => { c with en := true, rdy := ok, css := css, mps := mps, ams := ams, iosqes := iosqes,
                                            iocqes := iocqes, asqs := asqs, acqs := acqs, asq := asq, acq := acq, shn := 0, shst := 0 })
    if ¬ ok then s
    else
      s.modHost (fun h => { h with
        sqs := h.sqs ++ [⟨m, 0, asqs + 1, 0, 0, 0, 0⟩],
        cqs := h.cqs ++ [⟨m, 0, acqs + 1, 0, 0, true, 0, true⟩] })

/-- CONTROLLER_RESET: CC.EN goes from 1 to 0. -/
def State.controllerReset (s : State) (m : Fin 2) : State := if (s.ctrl m).en then s.resetCtrl m else s

/-! ### Shutdown (R109) -/

/-- NORMAL_SHUTDOWN: CC.SHN = 0b01: fetching stops, open compression blocks end and are sealed (R438). -/
def State.normalShutdown (s : State) (m : Fin 2) : State :=
  if ¬ (s.ctrl m).en then s
  else
    let s := s.modCtrl m (fun c => { c with shn := 1, shst := 1 })
    let s := s.ns.list.foldl (fun s n =>
      if n.compressed then n.zones.foldl (fun s z => if z.2.unsealed then s.cxeSeal n.nsid z.1 else s) s else s) s
    (s.ownLost (1 + m.val)).refreshFetch

/-- Whether the other controller is shut down, disabled or absent. -/
def State.otherDown (s : State) (m : Fin 2) : Bool :=
  let k : Fin 2 := if m = 0 then 1 else 0
  ! s.portOn k || ! (s.ctrl k).en || decide ((s.ctrl k).shst = 2)

/-- The destage writes that are committed or running. -/
def State.destaging (s : State) : List PostedOp :=
  (lanes.flatMap (fun n => ((s.msc.commit.get n).toList ++ (s.msc.running.get n).toList).map (·.op.p))).filter (·.destages)

/-- Whether a block lies in the logical range of an operation. -/
def PostedOp.holds (p : PostedOp) (key : Nat) : Bool :=
  match p.ext with
  | some (nsid, lo, len) => decide (blockKey nsid lo ≤ key) && decide (key < blockKey nsid lo + len)
  | none => false

/-- The dirty ranges that no destage write on its way carries become deferred errors of cause Abrupt shutdown (R109, R143). -/
def State.recordLeft (s : State) : State :=
  let mine := s.ns.blocks.filter (fun kb => ! s.destaging.any (fun p => p.holds kb.1))
  ((mine.foldl addDirty []).reverse).foldl (fun s r => s.createRecords r.1 r.2.1 r.2.2 3 0 0xFF 0xFF) s

/-- ABRUPT_SHUTDOWN: CC.SHN = 0b10: uncommitted commands end; no further dirty data is written, so queued destage writes are withdrawn
and running ones stop at a safe point; each range left dirty becomes a deferred error of cause Abrupt shutdown, whichever controller
wrote it (R109, R143; notes/assumptions/37.md). -/
def State.abruptShutdown (s : State) (m : Fin 2) : State :=
  if ¬ (s.ctrl m).en then s
  else
    let gone := s.uncommitted m
    let s := s.modCtrl m (fun c => { c with shn := 2, shst := 1 })
    let s := gone.foldl (fun s c => s.endEarly c St.powerLossAbort) s
    let s := s.withdrawWhere (·.destages)
    let s := lanes.foldl (fun s n =>
      if (s.msc.running.get n).any (fun c => c.op.p.destages) then s.trsAbort n else s) s
    ((s.recordLeft).ownLost (1 + m.val)).refreshFetch

/-- The fetched commands of a controller still to end before its shutdown completes. -/
def State.busyCmds (s : State) (m : Fin 2) : Bool :=
  s.host.ctxs.any (fun c => decide (c.ctrl = m) && ! c.smbus && ! (s.ctrl m).aers.contains c.arr)

/-- SHUTDOWN_COMPLETE: the shutdown work has finished: CSTS.SHST becomes 0b10 (R109). A normal shutdown waits for the dirty data
and, when the other controller is down too, for the heads to be unloaded; an abrupt one for the destage writes on their way. The
controller's I/O queues return to the pool (R92). -/
def State.shutdownComplete (s : State) (m : Fin 2) : State :=
  let c := s.ctrl m
  if c.shst ≠ 1 ∨ s.busyCmds m then s
  else if c.shn = 1 ∧ 0 < s.dirtyCount then s
  else if c.shn = 1 ∧ s.otherDown m ∧ ¬ s.allUnloaded then lanes.foldl (fun s n => s.unloadWhenIdle n) s
  else if c.shn = 2 ∧ ¬ s.destaging.isEmpty then s
  else
    let s := if c.shn = 2 then s.recordLeft else s
    (s.modCtrl m (fun c => { c with shst := 2 })).returnQueues m

/-! ### The port (R84, R85, R123, R495) -/

/-- The negotiated width of a port in HQE_PORTCFG. -/
def portWidth (m : Fin 2) : Fld := if m = 0 then Reg.HQE_PORTCFG_P0_WIDTH else Reg.HQE_PORTCFG_P1_WIDTH

/-- The function's configuration space returns to its reset values, the sticky AER fields apart (R85). -/
def State.configReset (s : State) (m : Fin 2) : State :=
  let s := s.modHost (fun h => { h with cfg := h.cfg.modify m (fun c => { PcieCfg.reset with aer := c.aer }) })
  let d := s.fget (Reg.HPXn_FUNC_DSTATE m)
  let s := s.wr (Reg.HPXn_FUNC m) 0#32
  let s := s.modCtrl m (fun c => { c with unmasked := [], pendVec := [] })
  if d = 0 then s else s.evt (Reg.HPXn_EVT_STAT_DSTATE m) .notice

/-- The data link layer of a port goes down (R123). -/
def State.linkFalls (s : State) (m : Fin 2) : State :=
  if ¬ s.fbit (Reg.HPXn_LINK_UP m) then s
  else
    let s := ((s.fput (Reg.HPXn_LINK_UP m) 0).fput (Reg.HPXn_LINK_PSTATE m) 3).fput (Reg.HPXn_LINK_RATE m) 0
    let s := (s.fput (Reg.HPXn_LINK_WIDTH m) 0).fput (portWidth m) 0
    (s.bump (Reg.HPXn_LINKDOWN m)).evt (Reg.HPXn_EVT_STAT_LINK m) .notice

/-- FUNCTION_LEVEL_RESET (R85). -/
def State.flr (s : State) (m : Fin 2) : State :=
  if ¬ s.portOn m then s
  else (((s.resetCtrl m).configReset m).bump (Reg.HPXn_FLR m)).evt (Reg.HPXn_EVT_STAT_FLR m) .notice

/-- PERST_ASSERT: a fundamental reset of the port (R83, R139), once the level has been held for 1,000 fabric cycles (R495). -/
def State.perstAssert (s : State) (m : Fin 2) (held : Nat) : State :=
  if ¬ s.portOn m ∨ held < 1000 then s
  else
    let s := (((s.fput (Reg.HPXn_LINK_PERST m) 1).linkFalls m).resetCtrl m).configReset m
    s.modHost (fun h => { h with cfg := h.cfg.modify m (fun c => { c with aer := none }) })

/-- PERST_DEASSERT: link training begins, once the level has been held for 1,000 fabric cycles (R495). -/
def State.perstDeassert (s : State) (m : Fin 2) (held : Nat) : State :=
  if s.portOn m ∧ 1000 ≤ held then s.fput (Reg.HPXn_LINK_PERST m) 0 else s

/-- PCIE_LINK_DOWN: the link goes down, which counts as a controller reset (R139). -/
def State.linkDown (s : State) (m : Fin 2) : State :=
  if ¬ s.fbit (Reg.HPXn_LINK_UP m) then s else ((s.linkFalls m).resetCtrl m).configReset m

/-- The rates and widths a link can train to (R84): 2.5 to 32.0 GT/s; x1 or x2, and x4 in single x4 mode. -/
def State.linkOk (s : State) (rate width : Nat) : Bool :=
  decide (1 ≤ rate) && decide (rate ≤ 5) && (decide (width = 1) || decide (width = 2) || (decide (width = 4) && s.singleX4))

/-- PCIE_LINK_CHANGE: the link is active with a power state, rate and width that R84 has; `recov`: it has passed through Recovery
(R123). -/
def State.linkChange (s : State) (m : Fin 2) (pstate rate width : Nat) (reversed recov : Bool) : State :=
  if ¬ s.hpxOn ∨ ¬ s.portOn m ∨ s.fbit (Reg.HPXn_LINK_PERST m) ∨ ¬ s.linkOk rate width then s
  else
    let same := s.fbit (Reg.HPXn_LINK_UP m) && decide (s.fget (Reg.HPXn_LINK_RATE m) = rate) &&
      decide (s.fget (Reg.HPXn_LINK_WIDTH m) = width)
    let s := ((s.fput (Reg.HPXn_LINK_UP m) 1).fput (Reg.HPXn_LINK_PSTATE m) pstate).fput (Reg.HPXn_LINK_RATE m) rate
    let s := (s.fput (Reg.HPXn_LINK_WIDTH m) width).fput (Reg.HPXn_LINK_REVERSED m) (if reversed then 1 else 0)
    let s := s.fput (portWidth m) width
    let s := if recov then s.bump (Reg.HPXn_RECOV m) else s
    if same then s else s.evt (Reg.HPXn_EVT_STAT_LINK m) .notice

/-- Whether a command moves data over the link, by the two low bits of its opcode (NVMe 2.0 Base; notes/assumptions/31.md). -/
def Ctx.movesData (c : Ctx) : Bool := decide (c.sqe.opc % 4 ≠ 0)

/-- A host memory access of a command has failed: the command ends with Data Transfer Error (R152), unless its outcome is fixed. -/
def State.transferFailed (s : State) (m : Fin 2) (a : Nat) : State :=
  match s.ctx a with
  | some c =>
    if c.ctrl = m ∧ ¬ c.smbus ∧ c.ready ∧ c.movesData ∧ ¬ c.stored ∧ ¬ c.committed ∧ ¬ (s.ctrl m).aers.contains a then
      s.endEarly c St.transferError
    else s
  | none => s

/-- PCIE_ERROR_LOGGED: an error is logged in AER: 0 correctable, 1 uncorrectable non-fatal, 2 uncorrectable fatal (R123). The header log
keeps the header of the first uncorrectable one until the host clears it (R84). `arr`: the command whose access to host memory it ended. -/
def State.aerError (s : State) (m : Fin 2) (kind : Fin 3) (header : Nat) (arr : Option Nat) : State :=
  if ¬ s.portOn m then s
  else
    let logged (s : State) : State := s.modHost (fun h => { h with cfg := h.cfg.modify m (fun c =>
      { c with aer := c.aer.orElse (fun _ => some (header % 2 ^ 128)) }) })
    let failed (s : State) : State := match arr with | some a => s.transferFailed m a | none => s
    match kind with
    | 0 => (s.bump (Reg.HPXn_CE m)).evt (Reg.HPXn_EVT_STAT_CE m) .trace
    | 1 => failed ((logged (s.bump (Reg.HPXn_NFE m))).evt (Reg.HPXn_EVT_STAT_NFE m) .notice)
    | _ => failed ((logged (s.bump (Reg.HPXn_FE m))).evt (Reg.HPXn_EVT_STAT_FE m) .fault)

/-- D_STATE_CHANGE: the function enters D3hot, or D0; an owner on the port is lost at D3hot (R123, R545). -/
def State.dState (s : State) (m : Fin 2) (d3 : Bool) : State :=
  let v := if d3 then 3 else 0
  if ¬ s.portOn m ∨ s.fget (Reg.HPXn_FUNC_DSTATE m) = v then s
  else
    let s := (s.fput (Reg.HPXn_FUNC_DSTATE m) v).evt (Reg.HPXn_EVT_STAT_DSTATE m) .notice
    if d3 then s.ownLost (1 + m.val) else s

/-- PCIE_CONFIG_WRITE: MSI-X enable, the function mask and Bus Master Enable; messages held by the function mask are sent when it
opens (R111). -/
def State.configWrite (s : State) (m : Fin 2) (msixen fmask bme : Bool) : State :=
  if ¬ s.portOn m then s
  else
    let b (x : Bool) : Nat := if x then 1 else 0
    let s := ((s.fput (Reg.HPXn_FUNC_MSIXEN m) (b msixen)).fput (Reg.HPXn_FUNC_MSIXMASK m) (b fmask)).fput (Reg.HPXn_FUNC_BME m) (b bme)
    if fmask ∨ ¬ msixen then s
    else
      let go := (s.ctrl m).pendVec.filter (fun v => (s.ctrl m).unmasked.contains v)
      let s := s.modCtrl m (fun c => { c with pendVec := c.pendVec.filter (fun v => ! c.unmasked.contains v) })
      go.foldl (fun s v => s.signal m v) s

end Sys2Proof.Machine
end

