-- ==== Sys2Proof/Machine/Bar0.lean ====
section
/-!
DEFINITION. Sys2Proof/Machine/Bar0.lean: the host's accesses to BAR0 and to the configuration space of a function
(spec/03_host_queues.md R84, R86 to R88, R93, R111): the layout, the controller registers, the doorbells, the MSI-X table, the
identification words.
-/
namespace Sys2Proof.Machine

/-! ### The layout of BAR0 (R86) -/

/-- What a 32-bit word of BAR0 is (R86, R93): a controller register, a doorbell, a word of a vector's MSI-X table entry, a word of the
pending-bit array; any other offset is reserved. -/
inductive Bar0 where
  | reg (off : Nat)
  | sqTail (qid : Nat)
  | cqHead (qid : Nat)
  | entry (v k : Nat)
  | pba (k : Nat)
  | reserved
  deriving DecidableEq, Repr

/-- The word of BAR0 at an offset, for a function of so many vectors (R81, R86, R93). DESIGN CHOICE (notes/assumptions/34.md): an offset
that is no multiple of 4 is taken as reserved. -/
def bar0Of (vectors off : Nat) : Bar0 :=
  if off % 4 ≠ 0 then .reserved
  else if off < 0x1000 then .reg off
  else if off < 0x3008 then (if off % 8 = 0 then .sqTail ((off - 0x1000) / 8) else .cqHead ((off - 0x1004) / 8))
  else if 0x20000 ≤ off ∧ off < 0x20000 + 16 * vectors then .entry ((off - 0x20000) / 16) (off / 4 % 4)
  else if 0x30000 ≤ off ∧ off < 0x30000 + vectors / 8 then .pba ((off - 0x30000) / 4)
  else .reserved

/-! ### Controller registers (R88) -/

/-- CAP (R88): MPSMAX, CPS, CSS, TO, AMS, CQR and MQES; every other field 0. -/
def capValue : Nat :=
  4 * 2 ^ 52 + 2 ^ 46 + 0x41 * 2 ^ 37 + 0x3C * 2 ^ 24 + 2 ^ 17 + 2 ^ 16 + 0x3FFF

/-- VS (R88): 2.0. -/
def vsValue : Nat := 0x00020000

/-- CC as the host reads it (R88). -/
def Ctrl.cc (c : Ctrl) : Nat :=
  bitAt 0 c.en + c.css % 8 * 2 ^ 4 + c.mps % 16 * 2 ^ 7 + c.ams % 8 * 2 ^ 11 + c.shn % 4 * 2 ^ 14 + c.iosqes % 16 * 2 ^ 16 +
    c.iocqes % 16 * 2 ^ 20

/-- CSTS as the host reads it (R88, R91). -/
def State.csts (s : State) (m : Fin 2) : Nat :=
  bitAt 0 (s.ctrl m).rdy + bitAt 1 s.recov.stopped + (s.ctrl m).shst % 4 * 2 ^ 2

/-- A controller register as the host reads it; a register that is not implemented reads 0 (R88). -/
def State.ctrlReg (s : State) (m : Fin 2) (off : Nat) : Nat :=
  let c := s.ctrl m
  match off with
  | 0x00 => capValue % 2 ^ 32
  | 0x04 => capValue / 2 ^ 32
  | 0x08 => vsValue
  | 0x0C => c.intms
  | 0x10 => c.intms
  | 0x14 => c.cc
  | 0x1C => s.csts m
  | 0x24 => c.asqs + c.acqs * 2 ^ 16
  | 0x28 => c.asq % 2 ^ 32
  | 0x2C => c.asq / 2 ^ 32
  | 0x30 => c.acq % 2 ^ 32
  | 0x34 => c.acq / 2 ^ 32
  | _ => 0

/-- A write of CC: EN going from 0 to 1 or from 1 to 0 enables or resets the controller, SHN begins a shutdown, and the entry sizes are
stored (R88, R89, R94, R109). -/
def State.ccWrite (s : State) (m : Fin 2) (w : Word) : State :=
  let c := s.ctrl m
  let f := wordBits w
  if w.getLsbD 0 ∧ ¬ c.en then s.ccEnable m (f 6 4) (f 10 7) (f 13 11) (f 19 16) (f 23 20) c.asqs c.acqs c.asq c.acq
  else if ¬ w.getLsbD 0 ∧ c.en then s.controllerReset m
  else if ¬ c.en then s
  else
    let s := s.modCtrl m (fun c => { c with iosqes := f 19 16, iocqes := f 23 20 })
    if f 15 14 = 1 ∧ c.shn = 0 then s.normalShutdown m else if f 15 14 = 2 ∧ c.shn ≠ 2 then s.abruptShutdown m else s

/-- A host write of a controller register (R88): INTMS and INTMC set and clear mask bits while MSI-X is disabled; AQA, ASQ and ACQ, whose
addresses are aligned to 4 KiB, are written while the controller is disabled. -/
def State.ctrlRegWrite (s : State) (m : Fin 2) (off w : Nat) : State :=
  let w := w % 2 ^ 32
  let c := s.ctrl m
  let low (v : Nat) : Nat := v / 2 ^ 32 * 2 ^ 32 + w / 4096 * 4096
  let high (v : Nat) : Nat := v % 2 ^ 32 + w * 2 ^ 32
  let setup (f : Ctrl → Ctrl) : State := if c.en then s else s.modCtrl m f
  match off with
  | 0x0C => if s.fbit (Reg.HPXn_FUNC_MSIXEN m) then s else s.modCtrl m (fun c => { c with intms := c.intms ||| w })
  | 0x10 => if s.fbit (Reg.HPXn_FUNC_MSIXEN m) then s else s.modCtrl m (fun c => { c with intms := c.intms - (c.intms &&& w) })
  | 0x14 => s.ccWrite m (BitVec.ofNat 32 w)
  | 0x24 => setup (fun c => { c with asqs := w % 4096, acqs := w / 2 ^ 16 % 4096 })
  | 0x28 => setup (fun c => { c with asq := low c.asq })
  | 0x2C => setup (fun c => { c with asq := high c.asq })
  | 0x30 => setup (fun c => { c with acq := low c.acq })
  | 0x34 => setup (fun c => { c with acq := high c.acq })
  | _ => s

/-! ### Accesses -/

/-- What a host read of BAR0 returns (R86 to R88, R93): doorbells and reserved offsets read 0. -/
def State.bar0Read (s : State) (m : Fin 2) (off : Nat) : Word :=
  BitVec.ofNat 32 (match bar0Of s.vectors off with
    | .reg o => s.ctrlReg m o
    | .sqTail _ => 0
    | .cqHead _ => 0
    | .entry v k => if k = 3 then bitAt 0 (! (s.ctrl m).unmasked.contains v) else s.msixWord m (4 * v + k)
    | .pba k => (List.range 32).foldl (fun acc i => acc + bitAt i ((s.ctrl m).pendVec.contains (32 * k + i))) 0
    | .reserved => 0)

/-- A word of a vector's table entry written (R86, R111): message address and data, or the mask bit. -/
def State.msixWrite (s : State) (m : Fin 2) (v k w : Nat) : State :=
  if k = 3 then s.msixUnmask m v (decide (w % 2 = 1))
  else s.modHost (fun h => { h with cfg := h.cfg.modify m (fun c =>
    { c with table := if w % 2 ^ 32 = 0 then sparseErase (4 * v + k) c.table else sparseInsert (4 * v + k) (w % 2 ^ 32) c.table }) })

/-- What a host write of BAR0 does (R86 to R88, R93, R95): a doorbell takes the low 16 bits; a reserved offset and the pending-bit array
take nothing. -/
def State.bar0Write (s : State) (m : Fin 2) (off w : Nat) : State :=
  match bar0Of s.vectors off with
  | .reg o => s.ctrlRegWrite m o w
  | .sqTail qid => s.sqDoorbell m qid (w % 2 ^ 16)
  | .cqHead qid => s.cqDoorbell m qid (w % 2 ^ 16)
  | .entry v k => s.msixWrite m v k w
  | .pba _ => s
  | .reserved => s

/-- SQ_TAIL_DOORBELL, CQ_HEAD_DOORBELL and MSIX_UNMASK: an access of the host to BAR0 of function m. -/
def State.bar0 (s : State) (m : Fin 2) (off : Nat) (acc : BarAccess) : State :=
  match acc with
  | .read => s.emit (.barRead m off (s.bar0Read m off))
  | .write w => s.bar0Write m off w

/-! ### Configuration space (R84) -/

/-- The class code of the function: an NVMe I/O controller (R84). -/
def classCode : Nat := 0x010802

/-- A word of the configuration header (R84), at the offset that PCI Express gives it (notes/assumptions/36.md): Device ID 0x9400 over
Vendor ID, class code, Subsystem ID over Subsystem Vendor ID; the identifiers come from OTP. Other words are not modelled and read 0. -/
def State.configWord (s : State) (off : Nat) : Nat :=
  let crec (i : Nat) : Nat := (s.rd (Reg.OTP_CREC_n (i / 4))).toNat / 256 ^ (i % 4) % 65536
  match off with
  | 0x00 => 0x9400 * 2 ^ 16 + crec 4
  | 0x08 => classCode * 2 ^ 8
  | 0x2C => crec 8 * 2 ^ 16 + crec 6
  | _ => 0

/-- PCIE_CONFIG_WRITE: the host's access to the configuration space of function m (R84, R111, R123). Messages held by the function mask are
sent when it opens. A payload size above 512 bytes or a read request size above 4,096 bytes is not supported and not taken. -/
def State.configAccess (s : State) (m : Fin 2) (acc : CfgAccess) : State :=
  match acc with
  | .control msixen fmask bme => s.configWrite m msixen fmask bme
  | .device mps mrrs =>
    if ¬ s.portOn m ∨ 2 < mps ∨ 5 < mrrs then s
    else s.modHost (fun h => { h with cfg := h.cfg.modify m (fun c => { c with mps := mps, mrrs := mrrs }) })
  | .link l1 l11 => if s.portOn m then s.modHost (fun h => { h with cfg := h.cfg.modify m (fun c => { c with l1 := l1, l11 := l11 }) }) else s
  | .aerClear => if s.portOn m then s.modHost (fun h => { h with cfg := h.cfg.modify m (fun c => { c with aer := none }) }) else s
  | .read off => if s.portOn m then s.emit (.configRead m off (BitVec.ofNat 32 (s.configWord off))) else s

end Sys2Proof.Machine
end

