-- ==== Sys2Proof/Machine/Staging.lean ====
section
/-!
DEFINITION. Sys2Proof/Machine/Staging.lean: what resident firmware and MEM do with the staging pages of a media operation before it is
posted (spec/01_architecture.md R33; spec/08_read_write_channel.md R276; spec/06_media_scheduler.md R199, R205; R159, R441): the
media form of a write's data and the tags, and the posts of destage writes.
-/
namespace Sys2Proof.Machine

/-- The tag of a data sector (R276): KEY, NSID and WRITTEN. -/
def tagOf (key nsid : Nat) : Nat := key % 2 ^ 48 + nsid % 256 * 2 ^ 48 + 2 ^ 56

/-- The 4,096 bytes of media form and the tag of the data unit that sector q, the i-th of an operation, carries: in a conventional or zoned
namespace the i-th LBA of the operation's range; in a compressed namespace the sector of the zone's stream that lies there (R167, R433);
zeros with KEY 0 and NSID 0 outside every namespace. -/
def State.unitOf (s : State) (p : PostedOp) (sk : Option SkipList) (i q : Nat) : List Byte × Nat :=
  let d := p.d
  match p.ext.bind (fun e => (s.nspace e.1).map (fun n => (n, e.2.1))) with
  | none => ([], tagOf 0 0)
  | some (n, lo) =>
    if n.compressed then
      match bandStart s.dpi d.surf d.bandNo with
      | none => ([], tagOf 0 0)
      | some (rz, first) =>
        match bandSector n (s.dpi.bt d.surf rz) (s.dpi.spt d.surf rz) s.dpi.guard (d.cyl - first) (slipOrdinal sk q) with
        | (sub, .data k) =>
          (match n.zones.find? (fun z => decide (z.2.band = some (d.surf, d.bandNo, sub))) with
           | some (z, v) => ((sparseFind k v.comp.sect).getD [], tagOf (zoneTweak z (physOrdinal n k)) n.nsid)
           | none => ([], tagOf 0 0))
        | _ => ([], tagOf 0 0)
    else
      let lba := lo + i
      (((s.block n.nsid lba).map (·.data)).getD [], tagOf lba n.nsid)

/-- The physical sectors of an operation that hold data, with their places in its range. -/
def State.opUnits (s : State) (d : OpDesc) (sk : Option SkipList) : List (Nat × Nat) :=
  ((rangeSectors (s.spt d.surf d.rz) d sk).take d.count).zipIdx

/-- The skip list of an operation (R246); none when DEFECT names none. -/
def State.skipOf (s : State) (d : OpDesc) : Option SkipList := (s.fetchSkip d).getD none

/-- The physical number of the i-th sector of an operation. -/
def State.sectorAt (s : State) (d : OpDesc) (i : Nat) : Nat :=
  ((s.opUnits d (s.skipOf d))[i]?.map (·.1)).getD (d.first + i)

/-- The staging pages of an operation made ready before its post: a write's data and tags, a read's expected tags (R33, R276). A parity
write takes its sector from the parity accumulator (R293). -/
def State.stage (s : State) (p : PostedOp) : State :=
  let d := p.d
  let sk := s.skipOf d
  if d.kind = 4 then s
  else
    (s.opUnits d sk).foldl (fun t qi =>
      let (bytes, tag) := s.unitOf p sk qi.2 qi.1
      let page := (d.buf + qi.2) % 3072
      if d.kind = 2 then t.storePage page bytes tag else t.memStore (tagAddr page) (leBytes tag 8)) s

/-- A media operation posted with its pages made ready (R33, R209, R276). -/
def State.post (s : State) (r : Fin 6) (p : PostedOp) : State := (s.stage p).postOp r p

/-- Whether two operations share a staging page (R199). -/
def pagesMeet (a b : OpDesc) : Bool :=
  decide ((b.buf + 3072 - a.buf % 3072) % 3072 < a.count) || decide ((a.buf + 3072 - b.buf % 3072) % 3072 < b.count)

/-- The media operations that are posted and have not ended. -/
def State.liveOps (s : State) : List PostedOp :=
  s.msc.rings.flatten ++ s.msc.ops.map (·.p) ++ s.msc.moveList.map (·.p) ++
    lanes.flatMap (fun n => ((s.msc.commit.get n).toList ++ (s.msc.running.get n).toList).map (·.op.p)) ++ s.recov.inhibited

/-- Whether the staging pages of an operation can be allocated to it: no operation that has not ended holds one (R33, R205). -/
def State.pagesFree (s : State) (d : OpDesc) : Bool :=
  (s.liveOps ++ s.recov.ladders.map (·.p)).all (fun q => ! pagesMeet q.d d)

/-- Whether track parity is off in the namespace of a logical range (R159). -/
def State.parityOff (s : State) (nsid : Nat) : Bool := match s.nspace nsid with | some n => n.noParity | none => false

/-- FLAGS of an operation that firmware posts: PIN follows the ring (R194), PARITY the namespace (R159, R198). -/
def State.postFlags (s : State) (r : Fin 6) (d : OpDesc) (nsid : Nat) : Nat :=
  let f := if r.val < 4 then d.flags ||| 4 else d.flags - d.flags / 4 % 2 * 4
  if s.parityOff nsid then f - f / 2 % 2 * 2 else f

/-- The spare that a sector is mapped to by a committed REALLOC entry (R485): its actuator and ordinal. -/
def State.spareOf (s : State) (surf cyl sect : Nat) : Option (Nat × Nat) :=
  (s.recov.grown.find? (fun g => g.spare.isSome && decide (g.surf = surf) && decide (g.cyl = cyl) && decide (g.sect = sect))).bind (·.spare)

/-- The sectors of an operation that have a REALLOC entry, with their places in the operation and their spares. -/
def State.opSpares (s : State) (d : OpDesc) : List (Nat × Nat × Nat) :=
  (s.opUnits d (s.skipOf d)).filterMap (fun qi => (s.spareOf d.surf d.cyl qi.1).map (fun x => (qi.2, x)))

/-- A descriptor moved to a spare sector: pinned to the actuator that writes its pool (R483), one sector, with no band. -/
def State.toSpare (s : State) (d : OpDesc) (x : Nat × Nat) : Option OpDesc :=
  (s.dpi.spareAt x.1 x.2).map (fun w =>
    let n : Fin 4 := ⟨x.1 % 4, Nat.mod_lt _ (by decide)⟩
    { d with kind := 2, flags := 4, band := 2 ^ 31 + w.1 * 2 ^ 24, rz := w.2.1, cyl := w.2.2.1, first := w.2.2.2, count := 1,
             head := laneHead n w.1, defect := 0xFFFF })

/-- A write posted with its data, also into the spares of the sectors that have a REALLOC entry (R485), where each starts at a free
angle, that of its sector (R199); a command waits for these too. -/
def State.postData (s : State) (r : Fin 6) (p : PostedOp) : State :=
  let s := s.post r p
  (if p.d.kind = 2 then s.opSpares p.d else []).foldl (fun s x =>
    match s.toSpare p.d x.2 with
    | none => s
    | some d =>
      let d' : OpDesc := { d with buf := (p.d.buf + x.1) % 3072, start := Config.freeNat s.fresh % max 1 (revLen s.piers) }
      let s := { s with fresh := s.fresh + 1 }
      let s := match p.cmd with | some a => s.modCtx a (fun c => { c with media := c.media + 1 }) | none => s
      s.postOp ⟨x.2.1 % 4, by omega⟩ ⟨d', p.destage, p.cmd, none, p.ver⟩) s

/-- Whether firmware can post an operation: its pages can be allocated, a write carries final sectors only (R441), and a read covers no
sector that has a REALLOC entry, which is read from its spare (R484). -/
def State.postable (s : State) (d : OpDesc) : Bool :=
  s.pagesFree d && (d.isWrite || (s.opSpares d).isEmpty) && (! decide (d.kind = 2) || s.opFinal d (s.skipOf d) (s.spt d.surf d.rz))

/-- CACHE_DESTAGE_POST: resident firmware posts a destage write for dirty data, or the parity write of a group (KIND 0x04, R199; never
with track parity off, R159), to an intake ring (R209): PRIO 0x0, or 0x2 while the estimate is at least 15,000 ms;
none while an abrupt shutdown is under way (R109). -/
def State.destagePost (s : State) (r : Fin 6) (d : OpDesc) (ext : Nat × Nat × Nat) : State :=
  let prio := if 15000 ≤ s.fget Reg.MSC_DESTAGE_EST_MS then 2 else 0
  let parity := decide (d.kind = 4)
  let d' : OpDesc := { d with prio := prio, flags := s.postFlags r d ext.1, kind := if parity then 4 else 2 }
  if s.abrupt ∨ (parity ∧ s.parityOff ext.1) ∨ ¬ s.postable d' then s
  else s.postData r ⟨d', true, none, if parity then none else some ext, s.ns.wseq⟩

end Sys2Proof.Machine
end

