-- ==== Sys2Proof/Machine/Io.lean ====
section
/-!
DEFINITION. Sys2Proof/Machine/Io.lean: the I/O commands (spec/03_host_queues.md R103 to R108; spec/04_ordering_and_errors.md R132
to R136, R143 to R151; spec/05_namespaces_zones_media_map.md R161 to R165, R636; spec/13_compression.md R444 to R454).
-/
namespace Sys2Proof.Machine

/-! ### Posting media operations (R209) -/

/-- The descriptor of a command's media operation as firmware posts it: its priority is the command's (R209). -/
def State.cmdDesc (s : State) (c : Ctx) (kind : Nat) (r : PostReq) : OpDesc :=
  { r.d with prio := c.prio, kind := kind, flags := s.postFlags r.ring r.d c.sqe.nsid }

/-- A command's media operation posted. -/
def State.cmdPost (s : State) (c : Ctx) (kind : Nat) (r : PostReq) : State :=
  s.postData r.ring ⟨s.cmdDesc c kind r, false, some c.arr, some (c.sqe.nsid, r.slba, r.nlb), s.ns.wseq⟩

/-- Whether no two of a list of operations share a staging page. -/
def pagesApart : List OpDesc → Bool
  | [] => true
  | d :: t => t.all (fun e => ! pagesMeet d e) && pagesApart t

/-- Whether firmware can post the media operations of a command. -/
def State.cmdPostable (s : State) (c : Ctx) (kind : Nat) (l : List PostReq) : Bool :=
  let ds := l.map (fun r => s.cmdDesc c kind r)
  ds.all (fun d => s.postable d) && pagesApart ds

/-- The media operations of a command are posted, and it waits for all of them. -/
def State.cmdPosts (s : State) (c : Ctx) (kind : Nat) (l : List PostReq) : State :=
  l.foldl (fun s r => s.cmdPost c kind r) (s.modCtx c.arr (fun c => { c with media := l.length }))

/-! ### The dirty limit (R107, R108) -/

/-- Blocks of writes whose data is being pulled. -/
def State.inFlight (s : State) : Nat :=
  s.host.ctxs.foldl (fun acc c => if c.writes ∧ c.started ∧ ¬ c.stored ∧ c.status.isNone then acc + c.sqe.nlb else acc) 0

/-- Where a write's blocks would go on the medium, as surface and recording zone: the band of its zone; in a conventional namespace the
first surface with room for it, in its first recording zone, the place not being chosen yet (notes/assumptions/18.md). -/
def State.writePlace (s : State) (n : Ns) (lba : Nat) : Option (Nat × Nat) :=
  if n.zoned then
    (n.zone (lba / zoneLbas)).band.bind (fun b => (bandStart s.dpi b.1 b.2.1).map (fun x => (b.1, x.1)))
  else ((List.range 20).find? (fun surf => s.surfWritable surf && s.convSpace n surf)).map (fun surf => (surf, 0))

/-- The milliseconds that a write's blocks add to the estimate of R217. -/
def State.writeShare (s : State) (c : Ctx) : Nat :=
  match s.nspace c.sqe.nsid with
  | none => 0
  | some n =>
    match s.writePlace n c.slba with
    | some (surf, rz) => s.decksMs (s.extentDecks surf rz c.sqe.nlb)
    | none => 0

/-- Whether a write may enter the cache: it takes the cache neither past the dirty limit nor past the budget of 20 s (R107, R108). -/
def State.cacheRoom (s : State) (c : Ctx) : Bool :=
  decide (s.dirtyCount + s.inFlight + c.sqe.nlb ≤ s.dirtyLimit) && decide (s.fget Reg.MSC_DESTAGE_EST_MS + s.writeShare c ≤ 20000)

/-- A write begins to wait for the dirty limit or the budget (R108). -/
def State.stallWrite (s : State) (a : Nat) : State :=
  ((s.modCtx a (fun c => { c with stallWc := true })).bump Reg.HQE_STALL_WC).note Reg.HQE_STALL_WC .trace

/-- DIRTY_LIMIT_RESUME: a waiting write may go on. -/
def State.dirtyResume (s : State) (a : Nat) : State :=
  match s.ctx a with
  | some c =>
    if c.stallWc ∧ s.cacheRoom c then s.modCtx a (fun c => { c with stallWc := false }) else s
  | none => s

/-! ### Writing (R104, R133, R136, R444, R446) -/

/-- Whether a write belongs to the stream class (R432). -/
def Ctx.stream (c : Ctx) : Bool := ! c.io 0x08 && decide (c.sqe.dtype = 1) && decide (c.sqe.dspec ≠ 0)

/-- Whether a write completes from the cache: write cache on and FUA = 0 (R104), and it did not arrive after a Set Features
that turns the cache off (R105). -/
def State.cachedWrite (s : State) (c : Ctx) : Bool :=
  s.host.wce && ! c.sqe.fua &&
    ! s.host.ctxs.any (fun x => decide (x.arr < c.arr) && x.adm 0x09 && decide (wordBits x.sqe.cdw10 7 0 = 6) &&
        ! x.sqe.cdw11.getLsbD 0 && x.status.isNone)

/-- The compression of a write's data in its zone (R438, R446): none when the space check fails. A write that does not complete from the
cache is sealed. -/
def State.compress (s : State) (n : Ns) (c : Ctx) (data pays : List (List Byte)) : Option CxeRun :=
  let v := n.zone (c.slba / zoneLbas)
  cxeConsume v.comp (s.pcap n v) v.wp c.sqe.nlb c.arr c.stream (c.io 0x08) data pays (! s.cachedWrite c)

/-- Whether the compressor's payloads code the data of a write (R436, R437). -/
def State.paysGood (s : State) (n : Ns) (c : Ctx) : Bool :=
  ! n.compressed || (match s.compress n c c.data c.pays with | some r => r.good | none => true)

/-- A write begins: its data is pulled from the host, encrypted and, in a compressed zone, compressed (R104, R108, R189, R446).
`data`: the blocks, or none when the host memory access fails. -/
def State.beginWrite (s : State) (c : Ctx) (data : Option (List (List Byte))) (pays : List (List Byte)) : State :=
  if ¬ c.ready ∨ c.started ∨ c.stallWc then s
  else
    match s.nspace c.sqe.nsid with
    | none => s.lostNs c
    | some n =>
      if ¬ s.cacheRoom c then s.stallWrite c.arr
      else if s.slotEmpty n.nsid c.slba (c.slba + c.sqe.nlb) then s.endWith c.arr St.accessDenied
      else
        match data with
        | none => s.endWith c.arr St.transferError
        | some l =>
          let full := n.compressed && (s.compress n c l pays).isNone
          let s := if n.compressed then s.cxeUse n.nsid (c.slba / zoneLbas) else s
          if full then (s.cxeFull n.nsid (c.slba / zoneLbas)).endWith c.arr St.compressedFull
          else s.modCtx c.arr (fun c => { c with started := true, data := l, pays := pays })

/-- WRITE and ZONE_APPEND. `merr`: the memory errors that the data meets on its way (R466: that data is pulled again). -/
def State.write (s : State) (opc a : Nat) (data : Option (List (List Byte))) (pays : List (List Byte)) (merr : List MemErr) : State :=
  match s.ctx a with
  | some c => if c.io opc then (s.beginWrite c data pays).memErrors merr else s
  | none => s

/-- WRITE_ZEROES: the blocks hold zeros. -/
def State.writeZeroes (s : State) (a : Nat) (pays : List (List Byte)) : State :=
  match s.ctx a with
  | some c => if c.io 0x08 then s.beginWrite c (some []) pays else s
  | none => s

/-- Whether SRAM staging has room for a whole command of n blocks (R33): beside the pages of the operations posted and the blocks that
wait there. -/
def State.stagingRoom (s : State) (n : Nat) : Bool :=
  decide (s.liveOps.foldl (fun acc p => acc + p.d.count) 0 + s.ns.blocks.countP (fun kb => kb.2.dirty && kb.2.sram) + n ≤ 3072)

/-- The blocks of a write enter staging or the cache (R33, R133): each replaces what it held, marks and all, in media form (R32); those
of a compressed namespace have their data in the zone's stream. Data that does not complete from the cache goes to SRAM staging when
that has room for the whole command (R33). -/
def State.storeBlocks (s : State) (c : Ctx) (compressed : Bool) : State :=
  let k := s.ns.wseq + 1
  let form (i : Nat) : List Byte :=
    if compressed then [] else s.mediaForm c.sqe.nsid (c.slba + i) (c.data.getD i [])
  let sram := ! s.cachedWrite c && s.stagingRoom c.sqe.nlb
  let s := (s.modNsSt (fun x => { x with wseq := k })).pruneUnrec c.sqe.nsid c.slba c.sqe.nlb
  (List.range c.sqe.nlb).foldl (fun s i =>
    s.putBlock c.sqe.nsid (c.slba + i)
      ⟨form i, true, c.arr, c.ctrl.val, c.sqid, c.sqe.cid, false, false, k,
        s.medium c.sqe.nsid (c.slba + i), (s.block c.sqe.nsid (c.slba + i)).bind (·.place), sram⟩) s

/-- The zone of a stored write (R136, R444): the write pointer advances; a zone written to its last LBA is Full. -/
def State.advanceZone (s : State) (n : Ns) (c : Ctx) : State :=
  let z := c.slba / zoneLbas
  let rev := s.atb.rev
  let s := s.modZone n.nsid z (fun v => { v with wp := v.wp + c.sqe.nlb, written := v.written + c.sqe.nlb,
                                                 comp := { v.comp with lastRev := rev } })
  let s := if n.compressed then s.zoneStamp n.nsid z else s
  match s.nspace n.nsid with
  | none => s
  | some n => if zoneLbas ≤ (n.zone z).wp then s.leaveOpen n z .full else s

/-- Whether some actuator can write a range (R179): the surface of its zone, or, in a conventional namespace, a surface that has free
space in the namespace's reserved bands. A zone is bound before its writes are stored. -/
def State.rangeWritable (s : State) (n : Ns) (lba : Nat) : Bool :=
  if n.zoned then
    match (n.zone (lba / zoneLbas)).band with
    | some (surf, _, _) => s.surfWritable surf
    | none => false
  else (List.range 20).any (fun surf => s.surfWritable surf && s.convSpace n surf)

/-- DATA_STORED: the last byte of a write is stored (R104, R136, R444); a zone that has become Read Only or Offline since the tail was
granted takes no block any more (R164; notes/assumptions/19.md). A cached write completes; another waits for the media
operations that firmware posts, or completes with Actuator Unavailable when none can take it (R179). -/
def State.dataStored (s0 : State) (a : Nat) (posts : List PostReq) : State :=
  let s := s0
  match s.ctx a with
  | none => s
  | some c =>
    match s.nspace c.sqe.nsid with
    | none => s.lostNs c
    | some n =>
      let cached := s.cachedWrite c
      let can := s.rangeWritable n c.slba
      let z := c.slba / zoneLbas
      if ¬ c.writes ∨ ¬ c.started ∨ c.stored ∨ c.status.isSome ∨ (¬ cached ∧ posts.isEmpty ∧ can) ∨ ¬ s.paysGood n c then s
      else if n.zoned ∧ (n.zone z).st = .readOnly then s.endWith a St.zoneReadOnly
      else if n.zoned ∧ (n.zone z).st = .offline then s.endWith a St.zoneOffline
      else if n.compressed ∧ (s.compress n c c.data c.pays).isNone then (s.cxeFull n.nsid z).endWith a St.compressedFull
      else
        let b0 := (n.zone z).comp.b / 4096
        let run := if n.compressed then s.compress n c c.data c.pays else none
        let s := match run with | some r => s.cxeApply n.nsid z r | none => s
        let s := if n.zoned then s.advanceZone n c else s
        let s := s.storeBlocks c n.compressed
        let s := if n.compressed ∧ ¬ cached then s.cxeSeal n.nsid z else s
        let b1 := match s.nspace n.nsid with | some n => (n.zone z).comp.b / 4096 | none => 0
        let s := s.addc Reg.XTS_SECTENC (if n.compressed then b1 - b0 else c.sqe.nlb)
        let (dw0, dw1) := if c.io 0x7D then (c.slba % 2 ^ 32, c.slba / 2 ^ 32) else (0, 0)
        let s := s.modCtx a (fun c => { c with stored := true, data := [], tail := false, zone := none, dw0 := dw0, dw1 := dw1 })
        if cached then s.finish a St.success dw0 dw1 0 0
        else if posts.isEmpty then s.endWith a s.unreachable
        else if s.cmdPostable c 2 posts then s.cmdPosts c 2 posts
        else s0

/-! ### Reading (R104, R163, R179, R451, R452) -/

/-- The data of a read is in host memory: the command's end (R104, R132), decrypted, and in a compressed namespace decompressed (R32). -/
def State.readReturn (s : State) (c : Ctx) (n : Ns) (seen : List (Nat × Nat × List Byte)) : State :=
  let st := s.readStatus (s.readOutcome n c.slba c.sqe.nlb)
  match st with
  | some st => s.endWith c.arr st
  | none =>
    if n.compressed then
      let (s, ok, l) := s.compRead n c.slba c.sqe.nlb seen
      if ok then (s.emit (.hostData c.arr l)).endOk c.arr 0 else s.endWith c.arr St.readError
    else
      let held := (List.range c.sqe.nlb).countP (fun i => (s.block n.nsid (c.slba + i)).isSome)
      let s := s.addc Reg.XTS_SECTDEC held
      (s.emit (.hostData c.arr (s.readBytes n c.slba c.sqe.nlb))).endOk c.arr 0

/-- READ: executed on its first run, which posts the media operations of the blocks that are not in a cache, or none; without any
left its data goes to the host (R104). `seen`: the sectors of compressed zones that the medium delivers otherwise than they were written,
as (zone, data sector, 4,096 bytes) (R452). -/
def State.read (s : State) (a : Nat) (posts : List PostReq) (seen : List (Nat × Nat × List Byte)) (merr : List MemErr) : State :=
  match s.ctx a with
  | none => s
  | some c =>
    match s.nspace c.sqe.nsid with
    | none => s.lostNs c
    | some n =>
      if ¬ c.io 0x02 ∨ ¬ c.ready then s
      else if ¬ c.started ∧ (s.readStatus (s.readOutcome n c.slba c.sqe.nlb)).isSome then s.readReturn c n seen
      else if s.slotEmpty n.nsid c.slba (c.slba + c.sqe.nlb) then s.endWith a St.accessDenied
      else if ¬ c.started ∧ ¬ posts.isEmpty then
        if ¬ s.cmdPostable c 1 posts then s else
        ((s.modCtx a (fun c => { c with started := true })).cmdPosts c 1 posts).memErrors merr
      else if 0 < c.media then s
      else
        let s := (s.modCtx a (fun c => { c with started := true })).memErrors merr
        s.readReturn c n seen

/-! ### Flush (R106, R149, R150) -/

/-- Whether a namespace is one a Flush names. -/
def Ctx.flushes (c : Ctx) (nsid : Nat) : Bool := decide (c.sqe.nsid = nsid) || decide (c.sqe.nsid = 0xFFFFFFFF)

/-- Whether every write a Flush covers is on the medium or has failed (R106). DESIGN CHOICE (notes/assumptions/39.md): a covered write whose
cached block a later write has replaced holds the Flush no longer. -/
def State.flushed (s : State) (c : Ctx) : Bool :=
  ! s.host.ctxs.any (fun x => x.writes && decide (x.arr < c.arr) && c.flushes x.sqe.nsid && x.status.isNone) &&
    ! s.ns.blocks.any (fun kb => kb.2.dirty && decide (kb.2.arr < c.arr) && c.flushes (kb.1 / 2 ^ 40))

/-- The end of a Flush whose own outcome is success: it carries a record if one is due (R149, R150). -/
def State.endFlush (s : State) (c : Ctx) : State :=
  let pend := s.pendingDe c.ctrl
  let due := s.carried c.ctrl c.arr c.sqe.nsid c.deAt
  match c.covered with
  | k :: rest =>
    match pend with
    | r :: _ => s.endDeferred c.arr c.ctrl r
    | [] =>
      let q := rest.foldl min k
      match s.host.de.find? (fun r => decide (r.seq = q)) with
      | some r => s.finishNs c.arr St.deferred 0 0 r.nsid r.slba q
      | none => s.finishNs c.arr St.deferred 0 0 c.sqe.nsid 0 q
  | [] =>
    match due with
    | some r => s.endDeferred c.arr c.ctrl r
    | none => s.endOk c.arr 0

/-- FLUSH: its first run ends and seals the compressed streams it covers, after the last write it covers (R438, R440); it commits when every covered write is on the
medium or has failed. -/
def State.flush (s : State) (a : Nat) : State :=
  match s.ctx a with
  | none => s
  | some c =>
    if ¬ c.io 0x00 ∨ ¬ c.ready then s
    else
      let s := if c.started then s
        else
          let s := s.modCtx a (fun c => { c with started := true })
          s.ns.list.foldl (fun s n =>
            if n.compressed ∧ c.flushes n.nsid then
              n.zones.foldl (fun s z => if z.2.unsealed then s.cxeSealAt n.nsid z.1 (z.2.comp.mBefore c.arr) else s) s
            else s) s
      if s.flushed c then (match s.ctx a with | some c => s.endFlush c | none => s) else s

/-! ### Deallocation (R636) -/

/-- DATASET_MANAGEMENT: its ranges are deallocated in a conventional namespace; a zoned one stays as it is. -/
def State.dsm (s : State) (a : Nat) : State :=
  match s.ctx a with
  | none => s
  | some c =>
    match s.nspace c.sqe.nsid with
    | none => s.lostNs c
    | some n =>
      if ¬ c.io 0x09 ∨ ¬ c.ready then s
      else
        let s := if n.zoned then s else c.locks.foldl (fun s k => s.dropBlocks n.nsid k.lo (k.hi - k.lo)) s
        s.endOk a 0

/-! ### Zone Management (R162) -/

/-- ZONE_CLOSE, ZONE_FINISH, ZONE_OPEN, ZONE_RESET and ZONE_OFFLINE: an action whose tail and locks are granted is applied. -/
def State.zoneSend (s : State) (act : ZoneAct) (a : Nat) : State :=
  match s.ctx a with
  | none => s
  | some c =>
    match s.nspace c.sqe.nsid with
    | none => s.lostNs c
    | some n =>
      if ¬ c.io 0x79 ∨ ¬ c.ready ∨ zoneActOf c.sqe.zoneAction ≠ some act then s
      else if c.sqe.selectAll then
        match s.selectCheck n act with
        | some st => s.endWith a st
        | none => (s.selectApply n act).endOk a 0
      else (s.actApply n (c.sqe.slba / zoneLbas) act).endOk a 0

/-- SET_ZONE_DESCRIPTOR_EXTENSION: it always completes with Invalid Field in Command, at its admission (R162). -/
def State.zoneSetExt (s : State) (a : Nat) : State :=
  match s.nextAdmit with
  | some c => if c.arr = a ∧ c.io 0x79 ∧ c.sqe.zoneAction = 0x10 then s.rltAdmission [] else s
  | none => s

/-- The non-zero bytes of a list, by offset. -/
def listedBytes (l : List Byte) : List (Nat × Byte) :=
  l.zipIdx.filterMap (fun bi => if bi.1 = 0#8 then none else some (bi.2, bi.1))

/-- ZONE_MANAGEMENT_RECEIVE: Report Zones or Extended Report Zones (R162, R449). -/
def State.zoneReceive (s : State) (a : Nat) : State :=
  match s.ctx a with
  | none => s
  | some c =>
    match s.nspace c.sqe.nsid with
    | none => s.lostNs c
    | some n =>
      if ¬ c.io 0x7A ∨ ¬ c.ready then s
      else
        let len := (c.sqe.cdw12.toNat + 1) * 4
        let l := s.zoneReport n c.sqe.slba c.sqe.zras len (decide (c.sqe.zoneAction = 1)) (c.sqe.cdw13.getLsbD 16)
        (s.emit (.hostData a (listedBytes l))).endOk a 0

/-! ### Reservations (R114; NVMe 2.0 Base) -/

/-- Whether a host is registered, and its key. -/
def Resv.keyOf (v : Resv) (h : Nat) : Option Nat := (v.regs.find? (fun r => decide (r.1 = h))).map (·.2)

/-- A notification of a reservation's change for the hosts of a list (log page 0x80): type 1 registration preempted, 2 reservation
released, 3 reservation preempted; a set bit of the mask holds it back. -/
def State.resvNotify (s : State) (ty nsid : Nat) (hosts : List Nat) : State :=
  s.controllers.foldl (fun s m =>
    if hosts.contains (s.hostOf m) ∧ ¬ (s.ctrl m).resvMask.testBit ty then
      s.modCtrl m (fun c => { c with resvLog := c.resvLog ++ [(ty, nsid)] })
    else s) s

/-- Whether every registrant holds a reservation type. -/
def allRegistrants (ty : Nat) : Bool := decide (ty = 5) || decide (ty = 6)

/-- Whether a host holds the reservation. -/
def Resv.holds (v : Resv) (h : Nat) : Bool :=
  decide (v.rtype ≠ 0) && (if allRegistrants v.rtype then (v.keyOf h).isSome else decide (v.holder = some h))

/-- A reservation given up: no type, no holder. -/
def Resv.free (v : Resv) : Resv := { v with rtype := 0, holder := none }

/-- A registrant removed; a reservation it holds alone is released. -/
def Resv.drop (v : Resv) (h : Nat) : Resv :=
  let v' := { v with regs := v.regs.filter (fun r => decide (r.1 ≠ h)), gen := v.gen + 1 }
  if v.rtype ≠ 0 ∧ (v.holder = some h ∨ (allRegistrants v.rtype ∧ v'.regs.isEmpty)) then v'.free else v'

/-- The reservation of a namespace replaced. -/
def State.setResv (s : State) (nsid : Nat) (v : Resv) : State := s.modNs nsid (fun n => { n with resv := v })

/-- A reservation command that may execute, with its namespace. -/
def State.resvCmd (s : State) (opc a : Nat) (f : Ctx → Ns → State) : State :=
  match s.ctx a with
  | none => s
  | some c =>
    match s.nspace c.sqe.nsid with
    | none => s.lostNs c
    | some n => if ¬ c.io opc ∨ ¬ c.ready then s else f c n

/-- The registered hosts other than one. -/
def Resv.others (v : Resv) (h : Nat) : List Nat := (v.regs.filter (fun r => decide (r.1 ≠ h))).map (·.1)

/-- RESERVATION_REGISTER: RREGA 0 register, 1 unregister, 2 replace; IEKEY; CPTPL. -/
def State.resvRegister (s : State) (a cr nr : Nat) : State :=
  s.resvCmd 0x0D a (fun c n =>
    let q := c.sqe
    let h := s.hostOf c.ctrl
    let v := n.resv
    let v := match wordBits q.cdw10 31 30 with
      | 2 => { v with ptpl := false }
      | 3 => { v with ptpl := true }
      | _ => v
    let match' := q.cdw10.getLsbD 3 || decide (v.keyOf h = some cr)
    match wordBits q.cdw10 2 0, v.keyOf h with
    | 0, none => (s.setResv n.nsid { v with regs := v.regs ++ [(h, nr)], gen := v.gen + 1 }).endOk a 0
    | 0, some k => if k = nr then (s.setResv n.nsid v).endOk a 0 else s.endWith a St.reservation
    | 1, some _ =>
      if ¬ match' then s.endWith a St.reservation
      else
        let v' := v.drop h
        let s := s.setResv n.nsid v'
        let s := if v.rtype ≠ 0 ∧ v'.rtype = 0 ∧ (v.rtype = 3 ∨ v.rtype = 4) then s.resvNotify 2 n.nsid (v.others h) else s
        s.endOk a 0
    | 2, some _ =>
      if ¬ match' then s.endWith a St.reservation
      else (s.setResv n.nsid { v with regs := v.regs.map (fun r => if r.1 = h then (h, nr) else r), gen := v.gen + 1 }).endOk a 0
    | 2, none =>
      if q.cdw10.getLsbD 3 then (s.setResv n.nsid { v with regs := v.regs ++ [(h, nr)], gen := v.gen + 1 }).endOk a 0
      else s.endWith a St.reservation
    | _, _ => s.endWith a St.reservation)

/-- RESERVATION_ACQUIRE: RACQA 0 acquire, 1 preempt, 2 preempt and abort; IEKEY; RTYPE. -/
def State.resvAcquire (s : State) (a cr pr : Nat) : State :=
  s.resvCmd 0x11 a (fun c n =>
    let q := c.sqe
    let h := s.hostOf c.ctrl
    let v := n.resv
    let ty := wordBits q.cdw10 15 8
    let ok := (v.keyOf h).isSome && (q.cdw10.getLsbD 3 || decide (v.keyOf h = some cr))
    if ¬ ok then s.endWith a St.reservation
    else if wordBits q.cdw10 2 0 = 0 then
      (if v.rtype = 0 then (s.setResv n.nsid { v with rtype := ty, holder := some h }).endOk a 0
       else if v.holds h ∧ v.rtype = ty then s.endOk a 0
       else s.endWith a St.reservation)
    else
      let lost := (v.regs.filter (fun r => decide (r.1 ≠ h) && decide (r.2 = pr))).map (·.1)
      let holderKey : Bool := match v.holder with | some x => decide (v.keyOf x = some pr) | none => false
      let all := allRegistrants v.rtype && decide (pr = 0)
      let lost := if all then v.others h else lost
      let takes := decide (v.rtype ≠ 0) && (all || (! allRegistrants v.rtype && holderKey))
      if lost.isEmpty ∧ ¬ takes then s.endWith a St.reservation
      else
        let v' := { v with regs := v.regs.filter (fun r => ! lost.contains r.1), gen := v.gen + 1 }
        let v' := if takes then { v' with rtype := ty, holder := some h } else v'
        let s := s.setResv n.nsid v'
        let s := s.resvNotify 1 n.nsid lost
        let s := if takes ∧ v.rtype ≠ ty then s.resvNotify 3 n.nsid (v'.others h) else s
        s.endOk a 0)

/-- RESERVATION_RELEASE: RRELA 0 release, 1 clear; IEKEY; RTYPE. -/
def State.resvRelease (s : State) (a cr : Nat) : State :=
  s.resvCmd 0x15 a (fun c n =>
    let q := c.sqe
    let h := s.hostOf c.ctrl
    let v := n.resv
    let ok := (v.keyOf h).isSome && (q.cdw10.getLsbD 3 || decide (v.keyOf h = some cr))
    if ¬ ok then s.endWith a St.reservation
    else if wordBits q.cdw10 2 0 = 1 then
      ((s.setResv n.nsid { v.free with regs := [], gen := v.gen + 1 }).resvNotify 3 n.nsid (v.others h)).endOk a 0
    else if ¬ v.holds h then s.endOk a 0
    else if v.rtype ≠ wordBits q.cdw10 15 8 then s.endWith a St.invalidField
    else
      let s := s.setResv n.nsid v.free
      let s := if v.rtype = 1 ∨ v.rtype = 2 then s else s.resvNotify 2 n.nsid (v.others h)
      s.endOk a 0)

/-- RESERVATION_REPORT: generation, type, registrants, PTPLS, then a structure per registrant: controller, whether it holds the
reservation, host identifier, key; the extended structure when EDS = 1. -/
def State.resvReport (s : State) (a : Nat) : State :=
  s.resvCmd 0x0E a (fun c n =>
    let v := n.resv
    let eds := c.sqe.cdw11.getLsbD 0
    let cid (h : Nat) : Nat := match s.controllers.find? (fun m => decide (s.hostOf m = h)) with | some m => m.val | none => 0xFFFF
    let ent (r : Nat × Nat) : List Byte :=
      let st := leBytes (if v.holds r.1 then 1 else 0) 1
      if eds then leBytes (cid r.1) 2 ++ st ++ leBytes 0 5 ++ leBytes r.2 8 ++ leBytes r.1 16 ++ leBytes 0 32
      else leBytes (cid r.1) 2 ++ st ++ leBytes 0 5 ++ leBytes r.1 8 ++ leBytes r.2 8
    let l := leBytes v.gen 4 ++ leBytes v.rtype 1 ++ leBytes v.regs.length 2 ++ leBytes 0 2 ++
      leBytes (if v.ptpl then 1 else 0) 1 ++ leBytes 0 14 ++ (if eds then leBytes 0 40 else []) ++ v.regs.flatMap ent
    (s.emit (.hostData a (listedBytes (l.take ((c.sqe.cdw10.toNat + 1) * 4))))).endOk a 0)

/-! ### Deferred error records (R146) -/

/-- The descriptor of a system-area write (R209): kind Write at PRIO 0x2, NOBAND, since the system area lies outside every band. -/
def State.sysDesc (s : State) (r : PostReq) : OpDesc :=
  { r.d with kind := 2, prio := 2, band := r.d.band ||| 2 ^ 31, flags := s.postFlags r.ring r.d 0 }

/-- A system-area write is posted, its pages holding the next of the bytes to be written with the tags of no namespace. What number of
sectors the bytes take, and where they go, firmware chooses (notes/assumptions/44.md). -/
def State.sysPost (s : State) (r : PostReq) (ver : Nat) (bytes : List Byte) : State :=
  let d := s.sysDesc r
  let s := (List.range d.count).foldl (fun s i =>
    s.storePage ((d.buf + i) % 3072) (padTo 4096 ((bytes.drop (4096 * i)).take 4096)) (tagOf 0 0)) s
  s.postOp r.ring ⟨d, false, none, none, ver⟩

/-- System-area writes are posted, once their pages can be allocated. -/
def State.sysPosts (s : State) (posts : List PostReq) (ver : Nat) (bytes : List Byte) : State :=
  if (posts.map s.sysDesc).all (fun d => s.pagesFree d) ∧ pagesApart (posts.map s.sysDesc) then
    (posts.foldl (fun (x : State × List Byte) r => (x.1.sysPost r ver x.2, x.2.drop (4096 * r.d.count))) (s, bytes)).1
  else s

/-- RECORD_PERSIST: firmware posts the system-area writes that hold the deferred error records (R146, R209); the records are in the system
area when a write has ended with success (`opDone`). -/
def State.recordPersist (s : State) (posts : List PostReq) : State :=
  s.sysPosts posts (deVer (s.host.deSeq - 1)) (s.host.de.flatMap (·.bytes))

end Sys2Proof.Machine
end

