-- ==== Sys2Proof/Machine/Recovery.lean ====
section
/-!
DEFINITION. Sys2Proof/Machine/Recovery.lean: what becomes of a media operation's outcome (spec/06_media_scheduler.md R213 to R216;
spec/15_recovery_and_faults.md R478 to R488; R174, R254, R330, R331): the read recovery ladder, reallocation, write retries,
head retirement, and the background scan.
-/
namespace Sys2Proof.Machine

/-! ### Operations and their remainders -/

/-- A ladder removed. -/
def State.dropLadder (s : State) (l : Ladder) : State :=
  s.modRec (fun r => { r with ladders := r.ladders.filter (fun x => decide (x ≠ l)) })

/-- A ladder put in place of another. -/
def State.setLadder (s : State) (old new : Ladder) : State :=
  s.modRec (fun r => { r with ladders := r.ladders.map (fun x => if x = old then new else x) })

/-- A ladder begun. -/
def State.addLadder (s : State) (l : Ladder) : State := s.modRec (fun r => { r with ladders := r.ladders ++ [l] })

/-- The blocks of a range that an operation has written are on the medium: those not stored again since it was posted are no longer
dirty (R133); once all that was dirty at a loss of VMOT is, the list of its ranges is erased (R568). -/
def State.cleanBlocks (s : State) (ext : Nat × Nat × Nat) (ver : Nat) (d : OpDesc) : State :=
  let s := s.mapBlocks ext.1 ext.2.1 ext.2.2 (fun b =>
    if b.seq ≤ ver then { b with dirty := false, place := some (d.surf, d.bandNo), sram := false } else b)
  if s.ns.blocks.all (fun kb => ! kb.2.dirty || decide (s.recov.faultVer < kb.2.seq)) ∧ ¬ s.recov.stopped then s.modRec (fun r => { r with faultRanges := [] }) else s

/-- An operation moved on past its first k sectors, with the descriptor of the rest; where each sector carries one block, its
range moves on too and what has been written is clean. -/
def State.advanceOp (s : State) (p : PostedOp) (k : Nat) (d : OpDesc) : State × PostedOp :=
  match p.ext with
  | some (nsid, lo, len) =>
    if len = p.d.count ∧ k ≤ len then
      ((if d.isWrite then s.cleanBlocks (nsid, lo, k) p.ver p.d else s),
        { p with d := d, ext := some (nsid, lo + k, len - k) })
    else (s, { p with d := d })
  | none => (s, { p with d := d })

/-- The descriptor of what an operation left, as TRSn reports it (R174). -/
def TrsReport.rest (r : TrsReport) : OpDesc :=
  { r.op with first := r.psec, start := r.sang, count := r.op.count - r.done, buf := (r.op.buf + r.done) % 3072 }

/-- The rest of an operation queued again in the slot it occupied, with its acceptance number and its age (R174, R195). -/
def State.keepOp (s : State) (n : Fin 4) (o : MscOp) (p : PostedOp) : State :=
  let o' : MscOp := { o with p := { p with d := { p.d with slot := o.p.d.slot } }, noRoute := 0 }
  (s.modMsc (fun m => { m with ops := m.ops ++ [o'] })).refreshUsed n

/-- The rest of an operation that actuator n lost the right to perform (R215): into the move list for the partner when that may
perform it, with its acceptance number and age; to No route when there is no route at all; else it stays (R216). -/
def State.moveRest (s : State) (n : Fin 4) (o : MscOp) (p : PostedOp) : State :=
  let o' : MscOp := { o with p := { p with d := { p.d with slot := o.p.d.slot } }, act := partner n, noRoute := 0 }
  if s.mayRun (partner n) p.d then
    (s.bump (Reg.MSC_MOVEDn n)).modMsc (fun m => { m with moveList := m.moveList ++ [o'] })
  else if s.deadRoute n o' then s.endNoRoute n o'
  else s.keepOp n o p

/-- An operation posted again by firmware: to the ring of the actuator it was pinned to, or to its pair's ring. -/
def State.repostOp (s : State) (n : Fin 4) (p : PostedOp) : State :=
  let r : Fin 6 := if p.d.pin then ⟨n.val, by omega⟩ else if p.d.surf < 10 then 4 else 5
  (s.setStepOffset n p.d).postOp r p

/-- An operation queued anew on actuator n (R254): in a free slot, or in the move list, with its ENTRY from ROUTE (R265). -/
def State.requeueOp (s : State) (n : Fin 4) (o : MscOp) (p : PostedOp) : State :=
  let idx := s.freeIdx n
  let acc := s.msc.nextAcc
  let now := s.stamp
  let o' : MscOp := { o with p := { p with d := { p.d with slot := n.val * 2048 + idx, entry := s.routeEntry p.d } }, act := n, idx := idx, acc := acc,
                             since := now, noRoute := 0 }
  let s := (s.setStepOffset n p.d).modMsc (fun m => { m with nextAcc := acc + 1 })
  if s.slotCount n < 2048 then (s.modMsc (fun m => { m with ops := m.ops ++ [o'] })).refreshUsed n
  else s.modMsc (fun m => { m with moveList := m.moveList ++ [o'] })

/-- The deferred error records that a system-area write of R146 held are in the system area. -/
def State.sysDone (s : State) (p : PostedOp) : State :=
  if p.d.isWrite ∧ deVer 0 ≤ p.ver then
    s.modHost (fun h => { h with de := h.de.map (fun r => if deVer r.seq ≤ p.ver then { r with saved := true } else r) })
  else s

/-- An operation has ended with success: written blocks are clean, and a command that waits has one operation less. -/
def State.opDone (s : State) (p : PostedOp) : State :=
  let s := s.sysDone p
  let s := match p.ext with | some e => if p.d.isWrite then s.cleanBlocks e p.ver p.d else s | none => s
  match p.cmd with
  | some a => s.mediaDone a none 0
  | none => s

/-- The first LBA of the range an operation carries. -/
def PostedOp.lba (p : PostedOp) : Nat := match p.ext with | some e => e.2.1 | none => 0

/-- An operation has failed for the command that waits for it. -/
def State.opFailed (s : State) (p : PostedOp) (st : Status) : State :=
  match p.cmd with
  | some a => s.mediaDone a (some st) p.lba
  | none => s

/-- The rest of an operation after its sector `idx`: posted anew when there is one; none left, it is done. An outcome waits for the
descriptor of the rest (`needsPost`); where the recovery bound ends the operation, the rest of a read has failed with it. -/
def State.continueOp (s : State) (p : PostedOp) (idx : Nat) (posts : List PostReq) : State :=
  if p.d.count ≤ idx + 1 then s.opDone p
  else
    match posts with
    | r :: _ =>
      let d := { r.d with kind := p.d.kind, prio := p.d.prio, count := p.d.count - (idx + 1) }
      let (s, p) := s.advanceOp p (idx + 1) d
      s.post r.ring p
    | [] => if p.d.isWrite then (s.advanceOp p (idx + 1) p.d).1 else s.opDone p

/-! ### Head retirement (R331) -/

/-- Head h is retired for writing or for reading (R331): a Fault event, the log page event, and its zones follow (R164). -/
def State.retireHead (s : State) (h : Nat) (write : Bool) : State :=
  let old := s.head h
  if (if write then old.retWrite else old.retRead) then s
  else
    let s := s.modHead h (fun x => if write then { x with retWrite := true } else { x with retRead := true })
    let s := (s.fwPost 331 .fault none []).vendorEvent 0xC2
    let s := s.reroute (headLane h)
    s.zonesFollow (h % 20)

/-- The retirement thresholds after an outcome of head h on actuator n (R331). `rdBad`: both readers failed the preamp's
read-fault checks; `retried`: a write succeeded after recovery. -/
def State.checkHead (s : State) (n : Fin 4) (h : Nat) (rdBad retried : Bool) : State :=
  let x := s.head h
  let s := if s.dpi.retw ≠ 0 ∧ s.dpi.retw ≤ x.wfault then s.retireHead h true else s
  let s := if retried ∧ s.dpi.lmax h < (s.pa.get n).lwrNeed then s.retireHead h true else s
  if (s.dpi.retr ≠ 0 ∧ s.dpi.retr ≤ x.realloc) ∨ rdBad then s.retireHead h false else s

/-! ### Reallocation (R483 to R485) -/

/-- Whether pool n has a free sector. -/
def State.poolFree (s : State) (n : Fin 4) : Bool := decide (s.recov.spareNext.get n < s.dpi.spareSectors n)

/-- The pool that a sector of a surface on actuator n is reallocated to (R484). -/
def State.poolFor (s : State) (n : Fin 4) (surf : Nat) : Option (Fin 4) :=
  let a := if s.canWrite n surf then n else partner n
  let b := partner a
  if s.canWrite a surf ∧ s.poolFree a then some a else if s.canWrite b surf ∧ s.poolFree b then some b else none

/-- Available Spare (R485): over each pair, the percentage of spare sectors still free; the lower of the two pairs. -/
def State.availableSpare (s : State) : Nat :=
  let pct (a b : Fin 4) : Nat :=
    let total := s.dpi.spareSectors a + s.dpi.spareSectors b
    let used := s.recov.spareNext.get a + s.recov.spareNext.get b
    if total = 0 then 100 else 100 * (total - used) / total
  min (pct 0 2) (pct 1 3)

/-- The next free sector of a pool is taken; Available Spare falling below the threshold is a SMART event (R118, R485). -/
def State.takeSpare (s : State) (a : Fin 4) : State × (Fin 4 × Nat) :=
  let k := s.recov.spareNext.get a
  let t := s.modRec (fun r => { r with spareNext := r.spareNext.set a (k + 1) })
  let t := if s.dpi.spareThr ≤ s.availableSpare ∧ t.availableSpare < s.dpi.spareThr then t.asyncAll 1 2 2 else t
  (t, (a, k))

/-- The write of a spare sector is posted at PRIO 0x2 (R209, R484), its data in the page where the recovery or the failed write left
it. -/
def State.postSpare (s : State) (x : Fin 4 × Nat) (r : PostReq) : State :=
  match s.toSpare r.d (x.1.val, x.2) with
  | some d => s.postOp ⟨x.1.val, by omega⟩ ⟨{ d with prio := 2 }, false, none, none, spareVer x⟩
  | none => s

/-- Reallocation of a sector begins (R484), when a pool has a free sector and firmware gives the write. None: it cannot. -/
def State.beginRealloc (s : State) (l : Ladder) (tries : Nat) (posts : List PostReq) : Option State :=
  match s.poolFor l.act l.p.d.surf, posts with
  | some a, r :: _ =>
    let (s, x) := s.takeSpare a
    some ((s.addLadder { l with step := 16, tries := tries, spare := some x }).postSpare x r)
  | _, _ => none

/-- The grown defect list with the entry of a sector (R485): at most one per sector. -/
def State.growEntry (s : State) (e : GrownEntry) : State :=
  s.modRec (fun r => { r with grown := (r.grown.filter (fun g =>
    ! (decide (g.surf = e.surf) && decide (g.cyl = e.cyl) && decide (g.sect = e.sect)))) ++ [e] })

/-- The LBA of a ladder's sector: the range moves with the operation (`advanceOp`). -/
def Ladder.lba (l : Ladder) : Nat :=
  match l.p.ext with
  | some (_, lo, len) => if len = l.p.d.count then lo + l.idx else lo
  | none => 0

/-- Whether a pending reallocation is discarded (R494): the host has written its block since the operation was posted, or its zone
was reset or its block erased. -/
def State.reallocStale (s : State) (l : Ladder) : Bool :=
  match l.p.ext with
  | none => false
  | some (nsid, _, _) => (match s.block nsid l.lba with | some b => decide (l.p.ver < b.seq) | none => true)

/-- A reallocation is committed (R484, R485, R332): the entry is stored, and the head that read or wrote the sector counts it; a
discarded one leaves nothing (R494). -/
def State.commitRealloc (s : State) (l : Ladder) (x : Fin 4 × Nat) : State :=
  if s.reallocStale l then s else
  let d := l.p.d
  let s := s.growEntry ⟨d.surf, d.cyl, l.sect, some (x.1.val, x.2), true, none⟩
  let h := laneHead l.act d.surf
  let s := if l.write then s else s.modHead h (fun y => { y with realloc := y.realloc + 1 })
  (s.checkHead l.act h false false).vendorEvent 0xC2

/-! ### The read recovery ladder (R478 to R482, R488) -/

/-- The tracks that the parity group of a ladder's sector touches (R167, R479): none where track parity is off for the sector (R159), or
it lies in the system area or a spare pool, outside every band. -/
def State.groupTracks (s : State) (l : Ladder) : List Nat :=
  let d := l.p.d
  match l.p.ext.bind (fun e => s.nspace e.1), bandStart s.dpi d.surf d.bandNo with
  | some n, some (rz, first) =>
    if n.noParity ∨ d.noBand then []
    else
      let spt := s.dpi.spt d.surf rz
      let w := if n.compressed then s.dpi.bt d.surf rz / max 1 n.ratio else s.dpi.bt d.surf rz
      let total := if n.compressed then (w - s.dpi.guard) * spt else 66560
      let sub := (d.cyl - first) / max 1 w
      let i := (d.cyl - first - sub * w) * spt + slipOrdinal (s.skipOf d) l.sect
      let a := i / 65 * 65
      let b := min (a + 65) total - 1
      (List.range (b / max 1 spt + 1 - a / max 1 spt)).map (fun t => first + sub * w + a / max 1 spt + t)
  | _, _ => []

/-- Whether a step is passed over (R478). -/
def State.stepPassed (s : State) (l : Ladder) (k : Nat) : Bool :=
  if k = 4 then ! s.dpi.readerB (laneHead l.act l.p.d.surf)
  else if k = 7 then ! s.canRead (partner l.act) l.p.d.surf
  else if k = 8 then (s.groupTracks l).isEmpty
  else false

/-- The next step of a ladder after step k, or none at its end; a sector of a parity group is taken through steps 0 to 2 only (R479). -/
def State.nextStep (s : State) (l : Ladder) (k : Nat) : Option Nat :=
  if s.boundReached l ∨ (l.p.groupRead ∧ 2 ≤ k) then none
  else ((List.range 8).map (· + 1)).find? (fun j => decide (k < j) && ! s.stepPassed l j)

/-- A step is posted (R478, R480): one sector, RETRY and the step, the priority of the read it recovers; steps 5 to 7 are pinned,
step 7 to the partner. -/
def State.postStep (s : State) (l : Ladder) (k : Nat) (r : PostReq) : State :=
  let d := l.p.d
  let act := if k = 7 then partner l.act else l.act
  let ring : Fin 6 := if 5 ≤ k then ⟨act.val, by omega⟩ else r.ring
  let pin := if ring.val < 4 then 4 else 0
  let f : Nat := d.flags / 2 % 2 * 2 + pin + 8 + 16 * k
  let h := laneHead act d.surf
  let d' : OpDesc := { r.d with kind := d.kind, prio := d.prio, cyl := d.cyl, rz := d.rz, first := l.sect, count := 1, flags := f, head := h, band := d.band }
  (s.setStepOffset act d').post ring { l.p with d := d' }

/-- A sector that stays unrecovered for the media scan becomes UNREC (R488), while fewer than 65,536 are (R485). -/
def State.markUnrec (s : State) (l : Ladder) : State :=
  let s := s.fwPost 488 .fault (some .uc) []
  if 65536 ≤ s.recov.grown.countP (fun g => g.spare.isNone) then s
  else
    let s := s.growEntry ⟨l.p.d.surf, l.p.d.cyl, l.sect, none, true, l.p.ext.map (fun e => (e.1, l.lba))⟩
    match l.p.ext with
    | some (nsid, _, _) => s.mapBlocks nsid l.lba 1 (fun b => if b.dirty then b else { b with unrec := true })
    | none => s

/-- A sector stays unrecovered (R482, R488): a UC of severity Fault; a host read has failed there, its first such LBA being kept; a
scanned sector becomes UNREC, also when a host read's ladder serves its scan (R494). -/
def State.unrecovered (s : State) (l : Ladder) (posts : List PostReq) : State :=
  let d := l.p.d
  let s := s.dropLadder l
  match l.p.cmd with
  | some a =>
    let s := s.fwPost 482 .fault (some .uc) []
    let s := if l.serves then s.markUnrec l
      else s.modRec (fun r => { r with scanQueue := (d.surf, d.cyl, l.sect) :: r.scanQueue })
    let lba := l.lba
    let s := s.modCtx a (fun c =>
      { c with bad := c.bad.orElse (fun _ => some St.readError),
               badLba := if c.bad.isNone then lba else if c.bad = some St.readError then min lba c.badLba else c.badLba })
    s.continueOp l.p l.idx posts
  | none => (s.markUnrec l).continueOp l.p l.idx posts

/-- A sector is recovered at a step (R482): its data is used; from REALLOC_STEP on it is reallocated (R484). Firmware posts the
rest of the operation first, then the spare's write. -/
def State.recovered (s : State) (l : Ladder) (k : Nat) (posts : List PostReq) : State :=
  let s := (s.dropLadder l).fwPost 482 .notice (some .ce) (leBytes k 1)
  let more := decide (l.idx + 1 < l.p.d.count)
  let (now, later) := if more then (posts.take 1, posts.drop 1) else ([], posts)
  let s := s.continueOp l.p l.idx now
  if s.dpi.reallocStep ≤ k then
    match s.beginRealloc l 1 later with
    | some s => s
    | none => s.fwPost 484 .fault none []
  else s

/-- Step 8 begins (R479): one Scan read per track that the parity group touches, at the priority of the read it recovers. -/
def State.groupBegin (s : State) (l : Ladder) (posts : List PostReq) : State :=
  let ts := s.groupTracks l
  let d := l.p.d
  let g : Ladder := { l with step := 8, wait := ts.length, acc := [] }
  ((posts.zip ts).zipIdx).foldl (fun s x =>
    let r := x.1.1
    let f : Nat := d.flags / 2 % 2 * 2
    let d' : OpDesc := { r.d with kind := 3, prio := d.prio, cyl := x.1.2, rz := d.rz, flags := f, head := d.head, band := d.band }
    s.post (if d.surf < 10 then 4 else 5) ⟨d', false, none, none, groupVer g x.2⟩) (s.setLadder l g)

/-- The next attempt of a ladder after step k, or its end. Step 8 rebuilds the sector from its parity group (R479). -/
def State.ladderStep (s : State) (l : Ladder) (k : Nat) (posts : List PostReq) : State :=
  match s.nextStep l k with
  | none => s.unrecovered l posts
  | some 8 => s.groupBegin l posts
  | some j =>
    match posts with
    | r :: _ => (s.setLadder l { l with step := j }).postStep { l with step := j } j r
    | [] => s

/-- The XOR of two payloads; a shorter one ends in zeros. -/
def xorBytes : List Byte → List Byte → List Byte
  | [], b => b
  | a, [] => a
  | x :: a, y :: b => (x ^^^ y) :: xorBytes a b

/-- The payloads of the first k sectors that a read of a parity group has brought into its pages, XORed into the rebuild's accumulator, tags
included (R479, R293); the sector under recovery is none of them. -/
def State.groupSum (s : State) (l : Ladder) (p : PostedOp) (k : Nat) : List Byte :=
  ((s.opUnits p.d (s.skipOf p.d)).take k).foldl (fun acc qi =>
    if p.d.cyl = l.p.d.cyl ∧ qi.1 = l.sect then acc
    else
      let page := (p.d.buf + qi.2) % 3072
      xorBytes acc (s.memBytes 4096 (pageAddr page) ++ leBytes (s.pageTag page) 8)) l.acc

/-- Whether the rebuilt payload of a ladder's sector is accepted (R479, R286): its tag meets the check against the expected tag of the
sector. -/
def State.rebuilt (s : State) (l : Ladder) (acc : List Byte) : Bool :=
  tagOk (s.unitOf l.p (s.skipOf l.p.d) l.idx l.sect).2 (leNat ((acc.drop 4096).take 8))

/-- A parity group has been read (R479): the sector is recovered, its payload in its page, when the tag is accepted. -/
def State.groupEnd (s : State) (l : Ladder) (posts : List PostReq) : State :=
  if s.rebuilt l l.acc then
    (s.storePage ((l.p.d.buf + l.idx) % 3072) l.acc (leNat ((l.acc.drop 4096).take 8))).recovered l 8 posts
  else s.unrecovered l posts

/-- One read of a parity group has ended; with the last the group has been read. -/
def State.groupReadDone (s : State) (l : Ladder) (posts : List PostReq) : State :=
  if l.wait ≤ 1 then s.groupEnd l posts else s.setLadder l { l with wait := l.wait - 1 }

/-- The reads of a parity group are given up: what is not committed is withdrawn, what runs receives abort pending, and the recovery of its
sectors ends. -/
def State.groupDrop (s : State) (l : Ladder) : State :=
  let s := s.modRec (fun r => { r with ladders := r.ladders.filter (fun x => ! x.p.inGroup l) })
  let s := s.withdrawWhere (fun p => p.inGroup l)
  lanes.foldl (fun s n => if (s.msc.running.get n).any (fun c => c.op.p.inGroup l) then s.trsAbort n else s) s

/-- A second sector of a parity group has failed: step 8 fails, and with it the ladder (R479). -/
def State.groupFail (s : State) (l : Ladder) (posts : List PostReq) : State := (s.groupDrop l).unrecovered l posts

/-! ### Write failures (R486) -/

/-- A write of a sector is final and its block could not be placed (R486, R143): a command that waits completes with Write Fault
and the block is write-failed; cached data becomes a deferred error of cause Media write. Data stored later in the block stands (R133). The UC of a command that waits starts a
handler without an action, which completes at once, unless a handler runs already (R489, R490). -/
def State.writeFailed (s : State) (l : Ladder) (posts : List PostReq) : State :=
  let h := laneHead l.act l.p.d.surf
  let s := s.dropLadder { l with spare := none }
  let s := (s.dropLadder l).fwPost 486 .fault (some (if l.p.cmd.isSome then .uc else .de)) []
  let s := if l.p.cmd.isSome ∧ s.recov.depth ≠ 0 then s.startHandler else s
  match l.p.ext with
  | none => s
  | some (nsid, lo, len) =>
    let (b, k) := if len = l.p.d.count then (lo + l.idx, 1) else (lo, len)
    let s := match l.p.cmd with
      | some a =>
        let s := (s.lostRuns nsid b k l.p.ver).foldl (fun (s : State) (r : Nat × Nat) => s.failBlocks nsid (b + r.1) r.2) s
        s.modCtx a (fun c => { c with bad := c.bad.orElse (fun _ => some St.writeFault), badLba := if c.bad.isNone then b else c.badLba })
      | none => s.recordLost nsid b k l.p.ver 1 0x0280 l.act.val h
    s.continueOp l.p l.idx posts

/-- A write of a sector has become final (R486): a sector of a band is reallocated, a block of a conventional namespace is
written into another band; failing that the write has failed on the medium. -/
def State.writeFinal (s : State) (l : Ladder) (posts : List PostReq) : State :=
  let conv : Bool := match l.p.ext with
    | some (nsid, _, _) => (match s.nspace nsid with | some n => ! n.zoned | none => false)
    | none => false
  let s := s.dropLadder l
  if conv then
    match posts with
    | r :: _ =>
      let d := { r.d with kind := 2, prio := 2, count := l.p.d.count - l.idx }
      let (s, p) := s.advanceOp l.p l.idx d
      (s.addLadder { l with p := p, idx := 0, step := 17 }).postData r.ring p
    | [] => s.writeFailed l posts
  else
    match s.beginRealloc l 1 posts with
    | some s => s
    | none => (s.fwPost 484 .fault none []).writeFailed l posts

/-- A write attempt failed at its sector f (R486): tried again until WRMAX attempts of that sector. -/
def State.writeRetry (s : State) (n : Fin 4) (p : PostedOp) (old : Option Ladder) (f : Nat) (posts : List PostReq) : State :=
  let tries := match old with | some l => if f = 0 then l.tries + 1 else 1 | none => 1
  let s := match old with | some l => s.dropLadder l | none => s
  let since := s.linStamp
  let l : Ladder := ⟨p, true, 0, tries, f, s.sectorAt p.d f, since, 0, 0, n, none, false, 0, []⟩
  if s.dpi.wrMax ≤ tries then (s.addLadder l).writeFinal l posts
  else
    match posts with
    | r :: _ =>
      let d := { r.d with kind := p.d.kind, prio := p.d.prio, count := p.d.count - f,
                          flags := r.d.flags - r.d.flags / 8 % 2 * 8 + 8 }
      let (s, p') := s.advanceOp p f d
      (s.addLadder { l with p := p', idx := 0 }).post r.ring p'
    | [] => s

/-- The write of a spare sector has ended (R484): the entry is committed, or the next of up to 4 spares is tried. -/
def State.spareEnded (s : State) (l : Ladder) (x : Fin 4 × Nat) (ok : Bool) (posts : List PostReq) : State :=
  let s := s.dropLadder l
  if ok then
    let s := s.commitRealloc l x
    if l.write then s.continueOp l.p l.idx posts else s
  else
    let s := s.modRec (fun r => { r with spareBad := r.spareBad ++ [(x.1.val, x.2)] })
    match (if l.tries < 4 then s.beginRealloc { l with spare := none } (l.tries + 1) posts else none) with
    | some s => s
    | none =>
      let s := s.fwPost 484 .fault none []
      if l.write then s.writeFailed { l with spare := none } posts else s

/-! ### Outcomes (R213) -/

/-- Whether an operation began one or more revolutions after its committed start (R213). -/
def State.missed (s : State) (c : Commit) (r : TrsReport) : Bool :=
  match r.firstGate with
  | some t => decide (c.start + revLen s.piers / 2 ≤ s.linOf t)
  | none => false

/-- Whether an operation ended with Lease ended, Aborted or Timeout on an actuator that may no longer perform it and to which it was pinned: its
rest is neither moved nor requeued (R215). -/
def State.pinLost (s : State) (n : Fin 4) (o : MscOp) (r : TrsReport) : Bool :=
  (decide (r.code = 1) || decide (r.code = 4) || decide (r.code = 5)) && o.p.d.pin && ! s.mayRun n o.p.d

/-- Whether the command an operation belongs to has failed already, or is gone. -/
def State.cmdBad (s : State) (p : PostedOp) : Bool :=
  match p.cmd with
  | some a => (match s.ctx a with | some c => c.bad.isSome | none => true)
  | none => false

/-- What firmware does with the rest of a pinned operation that its actuator lost (R215): a read ladder goes on to its next step;
the operation of a command is posted again for the partner, or has no route (R179); anything else ends. -/
def State.pinnedRest (s : State) (p : PostedOp) (lad : Option Ladder) (posts : List PostReq) : State :=
  match lad with
  | some l =>
    if ¬ l.write then s.ladderStep l l.step posts
    else
      let s := s.dropLadder l
      if p.cmd.isSome then (match posts with | q :: _ => s.post q.ring { p with d := q.d } | [] => s.routeFailed p) else s
  | none =>
    if p.cmd.isNone then s
    else if s.cmdBad p then s.opDone p
    else
      match posts with
      | q :: _ => s.post q.ring { p with d := { q.d with kind := p.d.kind, prio := p.d.prio, count := p.d.count } }
      | [] => s.routeFailed p

/-- An operation that ended with Aborted or Timeout (R215, R481): what it left is moved when its actuator lost the right to perform
it, and posted again otherwise. -/
def State.abortedOp (s : State) (n : Fin 4) (o : MscOp) (r : TrsReport) (posts : List PostReq) : State :=
  let lost := s.pinLost n o r
  let (s, p) := s.advanceOp o.p r.done r.rest
  match s.ladderOf o.p with
  | some l =>
    if l.step < 9 ∧ s.boundReached l then s.unrecovered l []
    else if lost then s.pinnedRest p (some l) posts
    else
      let s := s.setLadder l { l with p := p }
      if s.mayRun n p.d then s.repostOp n p else s.moveRest n o p
  | none =>
    if lost then s.pinnedRest p none posts
    else if s.cmdBad p then s.opDone p
    else if s.mayRun n p.d then s.repostOp n p
    else s.moveRest n o p

/-- The word that an image loads at a control store address: its own, or what an address outside it holds (R262 step 4). -/
def csWordAt (c : CsImage) (a : Nat) : Nat :=
  if c.first ≤ a then c.words.getD (a - c.first) (csDefault a) else csDefault a

/-- After a Parity machine check resident firmware rewrites the failing word from its verified image of the region and writes CLR
(R253). -/
def State.parityRepair (s : State) (n : Fin 4) : State :=
  let a := s.fget (Reg.TRSn_MCHK_ADDR n)
  let img : Option CsImage := if a < 0x3000 then s.boot.fwRun.map (fun f => f.cs) else s.cs.image
  match img with
  | some c =>
    if (s.trs.get n).st = .checked ∧ s.fget (Reg.TRSn_MCHK_CAUSE n) = McCause.parity.code then
      (s.csCommit a (csWordAt c a)).trsClr n
    else s
  | none => s

/-- An operation that ended with Machine check (R254): re-issued once, to the partner when that may run it. A word that failed its
parity is repaired first (R253). -/
def State.mchkOp (s : State) (n : Fin 4) (o : MscOp) (r : TrsReport) : State :=
  let s := s.parityRepair n
  let (s, p) := s.advanceOp o.p r.done r.rest
  let m := if s.mayRun (partner n) p.d then partner n else n
  let again : Bool := s.recov.ladders.any (fun l => decide (l.step = 18) && l.p.same o.p)
  if ¬ again then
    let since := s.linStamp
    (s.addLadder ⟨p, p.d.isWrite, 18, 1, 0, 0, since, 0, 0, n, none, false, 0, []⟩).requeueOp m o { p with d := { p.d with head := laneHead m p.d.surf } }
  else
    let s := s.modRec (fun x => { x with ladders := x.ladders.filter (fun l => ! (decide (l.step = 18) && l.p.same o.p)) })
    match p.cmd with
    | some _ => s.opFailed p St.microcode
    | none => if p.destage then s.keepOp n o p else s

/-- An operation that ended with Write inhibited (R330): its rest waits for the inhibit to clear. -/
def State.inhibitedOp (s : State) (o : MscOp) (r : TrsReport) : State :=
  let (s, p) := s.advanceOp o.p r.done r.rest
  let now := s.linStamp
  let s := match p.cmd with
    | some a => s.modCtx a (fun c => { c with inhStart := c.inhStart.orElse (fun _ => some now) })
    | none => s
  s.modRec (fun x => { x with inhibited := x.inhibited ++ [p] })

/-- Whether two ladders recover the same sector. -/
def Ladder.sameSector (a b : Ladder) : Bool :=
  decide (a.p.d.surf = b.p.d.surf) && decide (a.p.d.cyl = b.p.d.cyl) && decide (a.sect = b.sect)

/-- The ladder of a failed read begins (R478). On a sector that has one already (R494), a scan takes no steps of its own and goes on
to its next sector, and a host read ends the ladder of the scan; either way the host read's outcome serves both. -/
def State.beginLadder (s : State) (l : Ladder) (posts : List PostReq) : State :=
  let twins := s.recov.ladders.filter (fun x => ! x.write && ! x.p.groupRead && decide (x.step < 9) && x.sameSector l)
  if l.p.cmd.isNone then
    match twins.find? (fun x => x.p.cmd.isSome) with
    | some x => (s.setLadder x { x with serves := true }).continueOp l.p l.idx posts
    | none => (s.addLadder l).ladderStep l 0 posts
  else
    let scans := twins.filter (fun x => x.p.cmd.isNone)
    let s := scans.foldl (fun s x => ((s.groupDrop x).dropLadder x).withdrawWhere x.p.same) s
    let l := { l with serves := ! scans.isEmpty }
    (s.addLadder l).ladderStep l 0 posts

/-- The ladder of a read that has just failed at its sector f, with the start and the bound that all the sectors of a command share (R481)
and the half-width of the sync windows of the failed attempt (R282). -/
def State.newLadder (s : State) (n : Fin 4) (p : PostedOp) (f : Nat) : Ladder :=
  let (since, bound) := ((p.cmd.bind s.ctx).bind (·.readStart)).getD (s.linOf (s.trs.get n).acceptStamp, s.recoveryBound false)
  ⟨p, false, 0, 1, f, s.sectorAt p.d f, since, bound, (s.liveCfg n).halfWidth, n, none, false, 0, []⟩

/-- A destage write that has not ended with success in an abrupt shutdown: its rest stays unwritten and becomes a deferred error of cause
Abrupt shutdown (R109). -/
def State.leftDirty (s : State) (n : Fin 4) (o : MscOp) (r : TrsReport) : State :=
  let (s, p) := s.advanceOp o.p r.done r.rest
  let s := s.modRec (fun x => { x with ladders := x.ladders.filter (fun l => ! l.runs o.p) })
  let s := s.refreshUsed n
  match p.ext with
  | some (nsid, lo, len) => s.recordLost nsid lo len p.ver 3 0 0xFF 0xFF
  | none => s

/-- Posts for the rest of a ladder's operation after its sector idx. -/
def Ladder.restPosts (l : Ladder) (idx : Nat) : Nat := if idx + 1 < l.p.d.count then 1 else 0

/-- Posts for the write of a spare sector: one while a pool of the pair has one. -/
def State.spareCount (s : State) (l : Ladder) : Nat := if (s.poolFor l.act l.p.d.surf).isSome then 1 else 0

/-- Posts once a sector is recovered at step k: the rest of the operation, and a spare's write from REALLOC_STEP on (R484). -/
def State.recoveredPosts (s : State) (l : Ladder) (k : Nat) : Nat :=
  l.restPosts l.idx + (if s.dpi.reallocStep ≤ k then s.spareCount l else 0)

/-- Posts once a parity group has been read with an accumulator (R479). -/
def State.groupEndPosts (s : State) (l : Ladder) (acc : List Byte) : Nat :=
  if s.rebuilt l acc then s.recoveredPosts l 8 else l.restPosts l.idx

/-- Posts after step k of a ladder has failed. -/
def State.stepPosts (s : State) (l : Ladder) (k : Nat) : Nat :=
  match s.nextStep l k with
  | none => l.restPosts l.idx
  | some 8 => (s.groupTracks l).length
  | some _ => 1

/-- Posts at the outcome of a read of a parity group (`groupOutcome`). -/
def State.groupPosts (s : State) (n : Fin 4) (l : Ladder) (o : MscOp) (r : TrsReport) : Nat :=
  let p := o.p
  let f := if r.fail = 0xFFFF then r.done else r.fail
  let sub := (s.ladderOf p).filter (fun k => decide (k.step < 9))
  let last (k : Nat) : Nat := if l.wait ≤ 1 then s.groupEndPosts l (s.groupSum l p k) else 0
  if r.code = 0 then
    match sub with
    | none => last p.d.count
    | some k => s.recoveredPosts k k.step + (if k.idx + 1 < k.p.d.count then 0 else last p.d.count)
  else if r.code = 2 ∨ r.code = 7 then
    match sub with
    | some k => if (s.nextStep k k.step).isSome then 1 else l.restPosts l.idx
    | none =>
      if p.d.cyl = l.p.d.cyl ∧ s.sectorAt p.d f = l.sect then (if f + 1 < p.d.count then 1 else last f)
      else if (s.nextStep { s.newLadder n p f with since := l.since, bound := l.bound } 0).isSome then 1
      else l.restPosts l.idx
  else 0

/-- What firmware does with the outcome of a read of a parity group (R479): the payloads it brought join the rebuild; a failed sector is
taken through steps 1 and 2, the sector under recovery passed over; an operation that was aborted is posted again. -/
def State.groupOutcome (s : State) (n : Fin 4) (l : Ladder) (o : MscOp) (r : TrsReport) (posts : List PostReq) : State :=
  let p := o.p
  let f := if r.fail = 0xFFFF then r.done else r.fail
  let sub := (s.ladderOf p).filter (fun k => decide (k.step < 9))
  let g : Ladder := { l with acc := s.groupSum l p (if r.code = 0 then p.d.count else if r.code = 2 ∨ r.code = 7 then f else r.done) }
  let s := s.setLadder l g
  if r.code = 0 then
    match sub with
    | none => s.groupReadDone g posts
    | some k =>
      let c := s.recoveredPosts k k.step
      let s := s.recovered k k.step (posts.take c)
      if k.idx + 1 < k.p.d.count then s else s.groupReadDone g (posts.drop c)
  else if r.code = 2 ∨ r.code = 7 then
    match sub with
    | some k => if (s.nextStep k k.step).isSome then s.ladderStep k k.step posts else s.groupFail g posts
    | none =>
      if p.d.cyl = l.p.d.cyl ∧ s.sectorAt p.d f = l.sect then
        (if f + 1 < p.d.count then s.continueOp p f posts else s.groupReadDone g posts)
      else
        let k : Ladder := { s.newLadder n p f with since := l.since, bound := l.bound }
        if (s.nextStep k 0).isSome then (s.addLadder k).ladderStep k 0 posts else s.groupFail g posts
  else if s.boundReached l then (s.groupDrop g).unrecovered g []
  else if r.code = 6 then
    (if s.recov.ladders.any (fun k => decide (k.step = 18) && k.p.same p) then s.groupFail g [] else s.mchkOp n o r)
  else
    let (s, p) := s.advanceOp p r.done r.rest
    let s := match sub with | some k => s.setLadder k { k with p := p } | none => s
    if s.mayRun n p.d then s.repostOp n p else s.moveRest n o p

/-- What firmware does with an outcome. `posts`: the operations it posts, in order. The read of a parity group that no sector waits for any
more leaves nothing. -/
def State.handleOutcome (s : State) (n : Fin 4) (o : MscOp) (r : TrsReport) (posts : List PostReq) : State :=
  let p := o.p
  let lad := s.ladderOf p
  let f := if r.fail = 0xFFFF then r.done else r.fail
  let clear (s : State) : State :=
    s.modRec (fun x => { x with ladders := x.ladders.filter (fun l => ! (decide (l.step = 18) && l.runs p)) })
  if p.groupRead then
    match s.groupOf p with
    | some l => (if r.code = 6 then s else clear s).groupOutcome n l o r posts
    | none => s
  else if r.code = 0 then
    let s := clear s
    match lad with
    | none => s.opDone p
    | some l =>
      match l.spare with
      | some x => s.spareEnded l x true posts
      | none => if l.step = 18 ∨ l.write then (s.dropLadder l).opDone p else s.recovered l l.step posts
  else if r.code = 2 ∨ r.code = 7 then
    let s := clear s
    match lad with
    | some l =>
      match l.spare with
      | some x => s.spareEnded l x false posts
      | none =>
        if l.step = 17 then (s.dropLadder l).writeFailed { l with idx := f } posts
        else if l.write then s.writeRetry n p (if l.step = 18 then none else some l) f posts
        else if l.step = 18 then s.beginLadder (s.newLadder n p f) posts
        else s.ladderStep l l.step posts
    | none =>
      if p.d.isWrite then s.writeRetry n p none f posts
      else if p.d.retry ∨ (p.cmd.isNone ∧ p.d.kind = 1) then s.opDone p
      else s.beginLadder (s.newLadder n p f) posts
  else if r.code = 3 then s.inhibitedOp o r
  else if r.code = 6 then s.mchkOp n o r
  else s.abortedOp n o r posts

/-- Posts after a write attempt has failed: the next attempt, or, once the write is final, its reallocation, its rewrite in another
band, or the rest of the operation (R486). -/
def State.retryPosts (s : State) (n : Fin 4) (p : PostedOp) (old : Option Ladder) (f : Nat) : Nat :=
  let tries := match old with | some l => if f = 0 then l.tries + 1 else 1 | none => 1
  let l : Ladder := ⟨p, true, 0, tries, f, 0, 0, 0, 0, n, none, false, 0, []⟩
  if tries < s.dpi.wrMax then 1
  else if (match p.ext with
    | some (nsid, _, _) => (match s.nspace nsid with | some x => ! x.zoned | none => false)
    | none => false) then 1
  else max (s.spareCount l) (l.restPosts f)

/-- The operations that firmware is to post at an outcome (R478 to R486, R215). -/
def State.postsDue (s : State) (n : Fin 4) (o : MscOp) (r : TrsReport) : Nat :=
  let p := o.p
  let lad := s.ladderOf p
  let f := if r.fail = 0xFFFF then r.done else r.fail
  if s.abrupt ∧ p.destages ∧ r.code ≠ 0 then 0
  else if p.groupRead then (match s.groupOf p with | some l => s.groupPosts n l o r | none => 0)
  else if s.pinLost n o r then
    if p.cmd.isSome ∧ ¬ s.cmdBad p ∧ s.routable (partner n) p.d then
      (match lad with
       | some l => if l.write then 1 else s.stepPosts l l.step
       | none => 1)
    else 0
  else if r.code = 0 then
    match lad with
    | none => 0
    | some l =>
      if l.spare.isSome then (if l.write then l.restPosts l.idx else 0)
      else if l.step = 18 ∨ l.write then 0
      else s.recoveredPosts l l.step
  else if r.code = 2 ∨ r.code = 7 then
    match lad with
    | some l =>
      if l.spare.isSome then
        (if l.tries < 4 ∧ s.spareCount l = 1 then 1 else if l.write then l.restPosts l.idx else 0)
      else if l.step = 17 then l.restPosts f
      else if l.write then s.retryPosts n p (if l.step = 18 then none else some l) f
      else if l.step = 18 then s.stepPosts (s.newLadder n p f) 0
      else s.stepPosts l l.step
    | none =>
      if p.d.isWrite then s.retryPosts n p none f
      else if p.d.retry ∨ (p.cmd.isNone ∧ p.d.kind = 1) then 0
      else s.stepPosts (s.newLadder n p f) 0
  else 0

/-- Whether firmware must post operations and has not: the outcome then waits. -/
def State.needsPost (s : State) (n : Fin 4) (o : MscOp) (r : TrsReport) (posts : List PostReq) : Bool :=
  decide (posts.length < s.postsDue n o r)

/-- OPERATION_OUTCOME: TRSn's report of an operation's end (R213, R174): the outcome record, or the rest queued anew; then what
firmware makes of it. `rdBad`: both readers of the head fail the preamp's read-fault checks (R331). -/
def State.operationOutcome (s : State) (n : Fin 4) (posts : List PostReq) (rdBad : Bool) : State :=
  match s.msc.reports.find? (fun r => decide (r.lane = n)), s.msc.running.get n with
  | some r, some c =>
    if s.needsPost n c.op r posts then s
    else
      let o := c.op
      let miss := s.missed c r
      let s := s.modMsc (fun m => { m with reports := m.reports.erase r, running := m.running.set n none, tmoStage := m.tmoStage.set n 0 })
      let s := (s.addc (if o.p.d.isWrite then Reg.MSC_WRSECn n else Reg.MSC_RDSECn n) r.done).refreshRun
      let s := s.clearStepOffset n o.p.d
      let s := s.refreshUsed n
      if r.code = 1 then
        let s := (s.bump Reg.MSC_LEASE_CUT).note Reg.MSC_LEASE_CUT .trace
        if s.abrupt ∧ o.p.destages then s.leftDirty n o r
        else if s.pinLost n o r then s.abortedOp n o r posts
        else
          let (s, p) := s.advanceOp o.p r.done r.rest
          if s.mayRun n p.d then s.keepOp n o p else s.moveRest n o p
      else
        let s := s.outcome ⟨o.p.d.slot, r.code, miss, r.done, r.fail, r.stamp⟩
        let s := if miss then s.bump (Reg.MSC_ROTMISSn n) else s
        let h := laneHead n o.p.d.surf
        let lwr := s.fget (Reg.PAn_OP_LWR_V n)
        let s := if o.p.d.isWrite then s.modHead h (fun x => { x with lwr := lwr }) else s
        let retried := o.p.d.isWrite && decide (r.code = 0) && o.p.d.retry
        (if s.abrupt ∧ o.p.destages ∧ r.code ≠ 0 then s.leftDirty n o r
         else s.handleOutcome n o r posts).checkHead n h rdBad retried
  | _, _ => s

/-! ### Waiting for the write inhibit (R330) -/

/-- INHIBIT_CLEAR_REPOST: the write inhibit of every actuator that can write the range has cleared: firmware posts the rest of the
k-th operation that waits. -/
def State.inhibitRepost (s : State) (k : Nat) (ring : Fin 6) : State :=
  match s.recov.inhibited[k]? with
  | none => s
  | some p =>
    let (a, b) := surfActuators p.d.surf
    let clear (n : Fin 4) : Bool := ! s.canWrite n p.d.surf || decide (s.winh n = 0)
    if clear a ∧ clear b ∧ s.surfWritable p.d.surf then
      let flags := if ring.val < 4 then p.d.flags ||| 4 else p.d.flags - p.d.flags / 4 % 2 * 4
      (s.modRec (fun r => { r with inhibited := r.inhibited.eraseIdx k })).postOp ring { p with d := { p.d with flags := flags } }
    else s

/-- WRITE_INHIBITED_TIMEOUT: 120 revolutions after the first such outcome the command completes with Write Inhibited; its data
stays in the cache. -/
def State.inhibitTimeout (s : State) (a : Nat) : State :=
  match s.ctx a with
  | none => s
  | some c =>
    match c.inhStart with
    | none => s
    | some t =>
      if c.status.isSome ∨ s.linStamp < t + 120 * revLen s.piers then s else (s.orphanOps a).endWith a St.writeInhibited

/-! ### The recovery bound and the scan (R481, R487) -/

/-- RECOVERY_BOUND_REACHED: the bound of the k-th ladder is reached: a running step receives abort pending; one that waits is withdrawn,
and the sector is unrecovered (R481). A step committed before stays so until TRSn accepts it (R207). -/
def State.boundStep (s : State) (k : Nat) : State :=
  match s.recov.ladders[k]? with
  | none => s
  | some l =>
    if l.write ∨ 8 < l.step ∨ l.p.groupRead ∨ ¬ s.boundReached l then s
    else if l.step = 8 then (s.groupDrop l).unrecovered l []
    else
      match lanes.find? (fun n => match s.msc.running.get n with | some c => l.p.same c.op.p | none => false) with
      | some n => s.trsAbort n
      | none =>
        if lanes.any (fun n => (s.msc.commit.get n).any (fun c => l.p.same c.op.p)) then s else
        let act := if l.step = 7 then partner l.act else l.act
        let offset := decide (l.step = 5) || decide (l.step = 6)
        let s := s.withdrawWhere l.p.same
        (if offset then s.fput (Reg.SCE_PAIRn_TOFF_OFF act) 0 else s).unrecovered l []

/-- BACKGROUND_SCAN_POST: firmware posts a Scan read at PRIO 0x0 (R487), on the pair ring where both actuators of the pair are present, and
the scan position follows; a sector queued under R482 comes first. The scan pauses in PS2 and below, and on the way there (R556). -/
def State.scanPost (s : State) (ring : Fin 6) (d : OpDesc) (ext : Option (Nat × Nat × Nat)) : State :=
  let p : PostedOp := ⟨{ d with kind := 3, prio := 0 }, false, none, ext, s.ns.wseq⟩
  let (a, b) := surfActuators d.surf
  let shared := s.dpi.actEn a && s.dpi.actEn b
  if ¬ s.postable p.d ∨ (shared ∧ ring.val < 4) ∨ 2 ≤ max s.eps (s.pow.moving.getD 0) then s
  else
    match s.recov.scanQueue with
    | [] => (s.modRec (fun r => { r with scanPos := (d.surf, d.cyl, d.first + d.count) })).post ring p
    | q :: rest =>
      if d.surf = q.1 ∧ d.cyl = q.2.1 ∧ d.first ≤ q.2.2 ∧ q.2.2 < d.first + d.count then
        (s.modRec (fun r => { r with scanQueue := rest })).post ring p
      else s

/-- FAULT_HANDLER_TIMEOUT: a handler not complete 100 ms after it started is an FT (R489). -/
def State.handlerTimeout (s : State) : State :=
  if s.recov.depth = 0 ∨ s.cycle < s.recov.handlerAt + 10 ^ 8 then s else s.faultStop 0x40 0xFFFF (0xFFFF0000 + Config.fwCode 489 % 65536)

end Sys2Proof.Machine
end

