-- ==== Sys2Proof/Machine/View.lean ====
section
/-!
DEFINITION. Sys2Proof/Machine/View.lean: what a register reads as (R15, R22): the fields that show live state are computed
here, every other field is the one stored. A view has no side effect; it is what a snapshot records (R503).
-/
namespace Sys2Proof.Machine

/-! ### Event lines (R43, R44) -/

/-- The event registers of a unit with one event line each: line, EVT_STAT, EVT_EN (R43). -/
def eventRegs : List (Nat × Nat × Nat) :=
  [(0x01, Reg.PMU_EVT_STAT, Reg.PMU_EVT_EN), (0x03, Reg.OWN_EVT_STAT, Reg.OWN_EVT_EN),
   (0x04, Reg.VCH_EVT_STAT, Reg.VCH_EVT_EN), (0x05, Reg.EVR_EVT_STAT, Reg.EVR_EVT_EN),
   (0x06, Reg.MEM_EVT_STAT, Reg.MEM_EVT_EN), (0x0A, Reg.ATB_EVT_STAT, Reg.ATB_EVT_EN),
   (0x0B, Reg.TRS_EVT_STAT, Reg.TRS_EVT_EN), (0x14, Reg.AST_EVT_STAT, Reg.AST_EVT_EN),
   (0x15, Reg.PIF_EVT_STAT, Reg.PIF_EVT_EN), (0x34, Reg.SMC_EVT_STAT, Reg.SMC_EVT_EN),
   (0x35, Reg.CXE_EVT_STAT, Reg.CXE_EVT_EN), (0x36, Reg.XTS_EVT_STAT, Reg.XTS_EVT_EN),
   (0x37, Reg.HPXn_EVT_STAT 0, Reg.HPXn_EVT_EN 0), (0x37, Reg.HPXn_EVT_STAT 1, Reg.HPXn_EVT_EN 1)] ++
  (List.range 4).flatMap (fun n =>
    [(0x0C + n, Reg.TRSn_EVT_STAT n, Reg.TRSn_EVT_EN n), (0x10 + n, Reg.RWCn_EVT_STAT n, Reg.RWCn_EVT_EN n),
     (0x16 + n, Reg.PAn_EVT_STAT n, Reg.PAn_EVT_EN n), (0x1A + n, Reg.SVDn_EVT_STAT n, Reg.SVDn_EVT_EN n),
     (0x20 + 2 * n, Reg.SCE_PAIRn_EVT_STAT n, Reg.SCE_PAIRn_EVT_EN n), (0x28 + n, Reg.SRFn_EVT_STAT n, Reg.SRFn_EVT_EN n),
     (0x2C + n, Reg.VCDn_EVT_STAT n, Reg.VCDn_EVT_EN n)])

/-- The cores that an event line is delivered to, fixed in hardware (R43): none for a reserved line. -/
def lineCores (k : Nat) : List (Fin 8) :=
  if k = 0x1E ∨ k = 0x1F ∨ 0x38 ≤ k then []
  else if k = 0x0A then [6, 7]
  else if k = 0x01 ∨ k = 0x04 then [7]
  else if k = 0x34 then [6]
  else if 0x1A ≤ k ∧ k ≤ 0x1D then (if k < 0x1C then [6] else [7])
  else if 0x20 ≤ k ∧ k ≤ 0x27 then (if k < 0x24 then [6] else [7])
  else if 0x28 ≤ k ∧ k ≤ 0x33 then (if k % 4 < 2 then [6] else [7])
  else [0, 1, 2, 3, 4, 5]

/-- Whether an event line is active: an enabled cause bit of its source is 1 (R44). -/
def State.lineActive (s : State) (k : Nat) : Bool :=
  eventRegs.any (fun r => decide (r.1 = k) && decide ((s.rd r.2.1 &&& s.rd r.2.2) ≠ 0#32))

/-- The active event lines that a core sees (R43, R44). -/
def State.coreLines (s : State) (c : Fin 8) : List Nat :=
  (List.range 64).filter (fun k => (lineCores k).contains c && s.lineActive k)

/-- The word that shows 32 lines from a first one. -/
def State.lineWord (s : State) (first : Nat) : Nat :=
  (List.range 32).foldl (fun acc i => if s.lineActive (first + i) then acc + 2 ^ i else acc) 0

/-! ### Units disabled by the DPI (R3, R587) -/

/-- The actuator whose pipeline holds the register at an address (R28, R35). -/
def pipelineOf (a : Nat) : Option Nat :=
  let w := a / 0x10000
  let o := a % 0x10000
  let sub := o / 0x1000
  if w = 0x400C then (if 1 ≤ sub ∧ sub ≤ 4 then some (sub - 1) else none)
  else if 0x4010 ≤ w ∧ w ≤ 0x4013 then some (w - 0x4010)
  else if w = 0x4014 then (if 0x400 ≤ o ∧ o < 0xC00 then some ((o - 0x400) / 0x200) else none)
  else if w = 0x4015 then (if 1 ≤ sub ∧ sub ≤ 4 then some (sub - 1) else none)
  else if w = 0x4016 then (if sub < 4 ∧ o ≠ 0x4000 then some sub else none)
  else if w = 0x4018 then (if sub < 8 then some (sub / 2) else if sub = 8 ∧ o < 0x8400 then some ((o - 0x8000) / 0x100) else none)
  else if w = 0x4019 then (if sub < 4 then some sub else none)
  else if w = 0x401A then (if sub < 4 then some sub else if 8 ≤ sub ∧ sub < 12 then some (sub - 8) else none)
  else none

/-- Whether the unit of a register is disabled: a pipeline whose actuator the DPI disables (R190), and, without a DPI, every
pipeline and the SMC (R587). -/
def State.unitOff (s : State) (a : Nat) : Bool :=
  match pipelineOf a with
  | some n => (s.dpiOn && ! s.dpi.actEn n) || decide (s.fget Reg.SYS_BOOT_MODE = 2)
  | none => decide (a / 0x10000 = 0x401B) && decide (s.fget Reg.SYS_BOOT_MODE = 2)

/-- Whether the address is a register of port P1 while the part is in single x4 mode: it reads 0 and ignores writes (R123). -/
def State.portAbsent (s : State) (a : Nat) : Bool := s.singleX4 && decide (a / 0x1000 = 0x40071)

/-! ### Views of the blocks -/

/-- The code of a sequencer state (R222). -/
def TrsState.code : TrsState → Nat
  | .off => 0
  | .idle => 1
  | .running => 2
  | .checked => 3
  | .held => 4

/-- The 32 bytes of a descriptor (R198). -/
def descBytes (d : OpDesc) : List Byte :=
  leBytes d.slot 2 ++ leBytes d.kind 1 ++ leBytes d.flags 1 ++ leBytes d.head 1 ++ leBytes d.rz 1 ++ leBytes d.entry 1 ++
    leBytes d.prio 1 ++ leBytes d.cyl 4 ++ leBytes d.band 4 ++ leBytes d.first 2 ++ leBytes d.count 2 ++ leBytes d.start 4 ++
    leBytes d.endA 4 ++ leBytes d.buf 2 ++ leBytes d.defect 2

/-- The registers of TRSn that show its state. -/
def State.trsView (s : State) (n : Fin 4) (o : Nat) : Option Nat :=
  let t := s.trs.get n
  if o = 0x8 then
    let stall := t.stalled.getD 0
    let room := t.stalled.isSome && s.waitDone n stall && ! s.roomFor n stall
    some (t.st.code + bitAt 6 t.flag0 + bitAt 7 t.flag1 + bitAt 8 t.abortP + bitAt 9 (decide (s.winh n ≠ 0)) +
      bitAt 10 (s.leaseValid n) + bitAt 11 room + (if t.stalled.isSome then mwWait stall else 0) * 2 ^ 12)
  else if o = 0xC then some t.pc
  else if o = 0x10 then some (t.psec % 1024 + sectorClass t.skip t.psec * 2 ^ 10 + t.done % 2048 * 2 ^ 16)
  else if o = 0x14 then some (t.cnt0 % 2 ^ 16 + t.cnt1 % 2 ^ 16 * 2 ^ 16)
  else if o = 0x18 then some t.sang
  else if o = 0x1C then some (t.code % 256 + t.fail % 2 ^ 16 * 2 ^ 16)
  else if 0x20 ≤ o ∧ o < 0x40 then some (leNat (((descBytes t.op).drop (o - 0x20)).take 4))
  else none

/-- An adapted value as a field of 8 bits. -/
def byteField (x : Int) : Nat := (BitVec.ofInt 8 x).toNat

/-- The registers of RWCn that show its state. -/
def State.rwcView (s : State) (n : Fin 4) (o : Nat) : Option Nat :=
  let c := s.rwc.get n
  if o = 0x100 then
    some (min c.elems.length 7 + min c.results.length 7 * 2 ^ 4 + bitAt 8 c.svw + bitAt 9 c.wmask +
      bitAt 10 (decide (s.winh n ≠ 0)) + bitAt 11 c.underrunSt + min c.units.length 3 * 2 ^ 13)
  else if o = 0x110 then
    some (byteField (c.adout.getD 0 0) + byteField (c.adout.getD 2 0) * 2 ^ 8 + byteField (c.adout.getD 4 0) * 2 ^ 16)
  else if o = 0x114 then
    some (byteField (c.adout.getD 1 0) + byteField (c.adout.getD 3 0) * 2 ^ 8 + byteField (c.adout.getD 5 0) * 2 ^ 16)
  else none

/-- AST_STAT: the level and the pulse window of each lane. -/
def State.astView (s : State) : Nat :=
  lanes.foldl (fun acc n => acc + s.ltLevel n * 4 ^ n.val + bitAt (8 + n.val) (s.pa.get n).window) 0

/-- The contexts assigned to compression streams (R442). -/
def State.cxeAssigned (s : State) : Nat :=
  s.ns.list.foldl (fun acc n => acc + (n.zones.filter (fun z => z.2.comp.ctx)).length) 0

/-- The word a register shows when it is not simply the stored one. -/
def State.live (s : State) (a : Nat) : Option Nat :=
  if a = Reg.SYS_IRQ_PEND0 then some (s.lineWord 0)
  else if a = Reg.SYS_IRQ_PEND1 then some (s.lineWord 32)
  else if a = Reg.ATB_ANGLE then some s.angleG
  else if a = Reg.ATB_STATUS then
    some (putBits (s.rd a).toNat 11 8 (lanes.foldl (fun acc n => acc + bitAt n.val (s.contributing n)) 0))
  else if a = Reg.AST_STAT then some s.astView
  else if a = Reg.SMC_ANGLE then some s.thetaApplied
  else if a = Reg.CXE_STATUS then some (s.cxeAssigned % 512 * 2 ^ 16)
  else if a = Reg.MEM_NW_RES then
    some (bitAt 0 (! s.memp.written.any (fun p => decide (p = s.fget Reg.MEM_NW_ADDR_PAGE))))
  else if a = Reg.EVR_STATUS then
    some (putBits (putBits (s.rd a).toNat 27 17 s.validSlots.length) 6 0 s.evr.queue.length)
  else if a = Reg.SCB_DPOS then some (putBits (s.rd a).toNat 31 31 (bitAt 0 (s.scrubBehind true)))
  else if a = Reg.SCB_SPOS then some (putBits (s.rd a).toNat 31 31 (bitAt 0 (s.scrubBehind false)))
  else if a = Reg.OWN_LEFT then some s.ownLeft
  else if a = Reg.MSC_WCG_STATUS then
    some (putBits (putBits (putBits (s.rd a).toNat 2 0 s.writesRunning) 10 8 s.writeCap) 30 28 s.xfersRunning)
  else
    match pipelineOf a with
    | none => none
    | some k =>
      let n : Fin 4 := if k = 0 then 0 else if k = 1 then 1 else if k = 2 then 2 else 3
      let w := a / 0x10000
      if w = 0x400C then s.trsView n (a % 0x1000)
      else if 0x4010 ≤ w ∧ w ≤ 0x4013 then s.rwcView n (a % 0x10000)
      else if w = 0x401A ∧ a % 0x10000 < 0x8000 ∧ a % 0x1000 = 0x48 then some (sat16 (s.coilTemp n / 2 ^ 36))
      else if w = 0x4015 ∧ a % 0x1000 = 0x14 then some (putBits (s.rd a).toNat 6 4 (s.pa.get n).queue.length)
      else none

/-- The word of an expert register that its block has taken (R22): the channel works with what it took at the start of the sector under
way until that sector has ended (R298). -/
def State.taken (s : State) (a : Nat) : Nat :=
  match lanes.find? (fun (n : Fin 4) => decide (a = Reg.RWCn_TLOOP n ∨ a = Reg.RWCn_SYNC n ∨ a = Reg.RWCn_LDPC n ∨ a = Reg.RWCn_ADAPT n)) with
  | some n =>
    let g := s.sectCfg n
    (if a = Reg.RWCn_TLOOP n then g.tloop else if a = Reg.RWCn_SYNC n then g.sync
      else if a = Reg.RWCn_LDPC n then g.ldpc else g.adapt).toNat
  | none => (s.rd a).toNat

/-- What a read of a register returns, side effects apart (R15, R22, R37): 0 where no register is defined; an expert register reads
the value that its block applies; a register of a
disabled unit reads its reset value, ENABLE 0 (R3); in single x4 mode the registers of P1 read 0 (R123). -/
def State.view (s : State) (a : Nat) : Word :=
  match findReg a with
  | none => 0#32
  | some h =>
    let w : Nat :=
      if s.portAbsent a then 0
      else if s.unitOff a then h.row.resetNat
      else match s.live a with
        | some w => w
        | none => if h.row.expert then s.applied a (s.taken a) else (s.rd a).toNat
    BitVec.ofNat 32 (h.row.readBack w)

end Sys2Proof.Machine
end

