-- ==== Sys2Proof/Machine/Evr.lean ====
section
/-!
DEFINITION. Sys2Proof/Machine/Evr.lean: the event recorder (spec/16_event_recorder.md): records and their bytes, the ring and its
slots, freeze, snapshot lists, firmware posts, the mirror, log page 0xC1 and the Event Recorder Control command.
-/
namespace Sys2Proof.Machine

/-! ### Snapshot lists (R503, R504) -/

/-- Whether an address lies in an assigned register window, outside the control store window (R35). -/
def inWindow (a : Nat) : Bool :=
  let w := a / 0x10000
  decide (0x4000 ≤ w ∧ w ≤ 0x401D) && ! decide (0x400D ≤ w ∧ w ≤ 0x400F) && ! decide (w = 0x4017)

/-- Whether a word may stand in a snapshot list. -/
def listEntryOk (w : Nat) : Bool := decide (w = 0) || (decide (w % 4 = 0) && inWindow w)

/-- The addresses of list L: up to its first entry of 0. -/
def State.snapList (s : State) (l : Nat) : List Nat :=
  ((List.range 48).map (fun i => (s.rd (Reg.EVR_LIST_n_i l i)).toNat)).takeWhile (fun a => decide (a ≠ 0))

/-- A write of a list entry (R504): RWO; an entry that may not stand there has no effect and is offered as a Notice. -/
def State.evrListWrite (s : State) (m : Master) (l i : Nat) (w : Word) : State :=
  if ¬ s.isOwner m then s
  else if listEntryOk w.toNat then s.wr (Reg.EVR_LIST_n_i l i) w
  else s.note (Reg.EVR_LIST_n_i l i) .notice

/-! ### Slots (R508, R509) -/

/-- The first slot from a start on, in ring order, that a list of occupied slots does not name. -/
def firstFree (cap : Nat) (used : List Nat) : Nat → Nat → Option Nat
  | 0, _ => none
  | k + 1, i => if used.contains (i % cap) then firstFree cap used k (i + 1) else some (i % cap)

/-- The record that a new one of a severity displaces: of the lowest severity present, at most that one and not Fatal, the one
of lowest SEQ. -/
def oldestBelow (l : List (Nat × EvRecord)) (sev : Nat) : Option Nat :=
  let low := l.foldl (fun acc kr => min acc kr.2.offer.sev.code) 3
  if low = 3 ∨ sev < low then none
  else
    (l.foldl (fun (acc : Option (Nat × Nat)) kr =>
      if kr.2.offer.sev.code ≠ low then acc
      else match acc with
        | some (_, q) => if kr.2.offer.seq < q then some (kr.1, kr.2.offer.seq) else acc
        | none => some (kr.1, kr.2.offer.seq)) none).map (·.1)

/-- The slot for a record of a severity among `cap` slots, the last one written being `last` (R508). -/
def pickSlot (cap last : Nat) (l : List (Nat × EvRecord)) (sev : Nat) : Option Nat :=
  match firstFree cap (l.map (·.1)) cap (last + 1) with
  | some k => some k
  | none => oldestBelow l sev

/-- A change of the recorder. -/
def State.modEvr (s : State) (f : EvrSt → EvrSt) : State := { s with evr := f s.evr }

/-- A record overwritten before it was copied to the mirror, though it was to be (R511). -/
def State.mirrorLoss (s : State) (slot : Nat) : State :=
  match s.validSlots.find? (fun kr => decide (kr.1 = slot)) with
  | none => s
  | some kr =>
    let q := kr.2.offer.seq
    if s.fget Reg.EVR_CFG_MIRSEV ≤ kr.2.offer.sev.code ∧ ¬ s.evr.mirrored.contains q then
      s.modEvr (fun e => { e with mirLost := e.mirLost + 1 })
    else s.modEvr (fun e => { e with mirrored := e.mirrored.filter (fun x => decide (x ≠ q)) })

/-- Puts a record into a list in rising SEQ order. -/
def insertRec (r : EvRecord) : List EvRecord → List EvRecord
  | [] => [r]
  | x :: t => if r.offer.seq ≤ x.offer.seq then r :: x :: t else x :: insertRec r t

/-- Records in rising SEQ order. -/
def sortRecs (l : List EvRecord) : List EvRecord := l.foldl (fun acc r => insertRec r acc) []

/-- What a record of Fault Stop leaves in the fault area (R512): it and the 63 valid records of next-lower SEQ. -/
def State.faultRecords (s : State) (r : EvRecord) : List EvRecord :=
  let older := (s.validSlots.map (·.2)).filter (fun x => decide (x.offer.seq < r.offer.seq))
  r :: (sortRecs older).reverse.take 63

/-- EVR_RECORD_WRITE: the EVR writes the record of the oldest queued offer (R502, R503, R507, R508, R510, R512);
a snapshot shows the values before the record's own effects (R518). -/
def State.recordWrite (s : State) : State :=
  match s.evr.queue with
  | [] => s
  | o :: rest =>
    if ¬ s.fbit Reg.EVR_LOCK_LOCK then s
    else
      let t := s
      let s := s.modEvr (fun e => { e with queue := rest })
      match pickSlot 1024 s.evr.lastSlot s.validSlots o.sev.code with
      | none => (s.bump Reg.EVR_DROPRING).modEvr (fun e => { e with dropped := min (e.dropped + 1) 0xFFFF })
      | some k =>
        let on := s.fbit (Reg.EVR_LINE_n_SNAP o.line)
        let l := s.fget (Reg.EVR_LINE_n_LIST o.line)
        let r : EvRecord :=
          { offer := o, list := if on then some l else none,
            snap := if on then (t.snapList l).map (fun a => t.view a) else [],
            dropped := s.evr.dropped, snapDly := if on then min (s.cycle - o.cycle) 0xFFFF else 0 }
        let s := s.mirrorLoss k
        let s := s.modEvr (fun e =>
          { e with ring := sparseInsert k (.valid r) e.ring, lastSlot := k, dropped := 0 })
        let s := s.bump Reg.EVR_WRITTEN
        let s :=
          if o.sev = .fatal then
            let s := s.evt Reg.EVR_EVT_STAT_FATAL .notice
            if s.fbit Reg.EVR_CFG_FRZ then
              (s.fput Reg.EVR_STATUS_FROZEN 1).evt Reg.EVR_EVT_STAT_FROZE .notice
            else s
          else s
        if s.recov.stopped ∧ o.cls = some .ft ∧ s.recov.faultRecs.isEmpty then
          let l := s.faultRecords r
          { (s.emit (.flashWrite 0xD30000 0x40000)) with recov := { s.recov with faultRecs := l } }
        else s

/-- Every ring slot invalidated: its MARK is written as 0 (R509, R515). -/
def State.evrClear (s : State) : State := s.modEvr (fun e => { e with ring := e.ring.map (fun kv => (kv.1, kv.2.cleared)) })

/-- The freeze ends (R510). -/
def State.evrUnfreeze (s : State) : State := s.fput Reg.EVR_STATUS_FROZEN 0

/-! ### Firmware posts (R498, R517) -/

/-- Whether a master may write a register that only the firmware cores and permitted JTAG write (R473, R517, R578). -/
def State.coreOrJtag (s : State) (m : Master) : Bool := m.isCore || (decide (m = .jtag) && s.jtagPermitted)

/-- EVR_POST: a write of POST_CTRL offers a firmware post with the payload of POST_D0 to POST_D5. -/
def State.evrPost (s : State) (m : Master) (w : Word) : State :=
  if ¬ s.coreOrJtag m then s
  else
    let x := w.toNat
    let pay := (List.range 6).flatMap (fun d => leBytes (s.rd (Reg.EVR_POST_Dn d)).toNat 4)
    s.offer 0x40 0xFFFF (0xFFFF0000 + bitsOf x 31 16) (sevOf (bitsOf x 1 0))
      (if x.testBit 4 then some (classOf (bitsOf x 3 2)) else none) pay

/-- EVR_CTRL_CLEAR and EVR_CTRL_UNFREEZE: a write of EVR_CTRL. -/
def State.evrCtrl (s : State) (w : Word) : State :=
  let s := if w.getLsbD 0 then s.evrClear else s
  if w.getLsbD 1 then s.evrUnfreeze else s

/-! ### The mirror (R511) -/

/-- A record written to the mirror by R508's rule, applied to its 16,384 entries. -/
def State.mirrorPut (s : State) (r : EvRecord) : State :=
  match pickSlot 16384 s.evr.mirLast s.evr.mirror r.offer.sev.code with
  | some k => s.modEvr (fun e => { e with mirror := sparseInsert k r e.mirror, mirLast := k })
  | none => s

/-- Firmware copies the valid record of a slot, of severity at least MIRSEV, to the mirror. -/
def State.mirrorCopy (s : State) (slot : Nat) : State :=
  match s.validSlots.find? (fun kr => decide (kr.1 = slot)) with
  | none => s
  | some kr =>
    let r := kr.2
    if r.offer.sev.code < s.fget Reg.EVR_CFG_MIRSEV ∨ s.evr.mirrored.contains r.offer.seq then s
    else
      let s := s.mirrorPut r
      s.modEvr (fun e => { e with mirrored := r.offer.seq :: e.mirrored })

/-- EVR_MIRROR_COPY: firmware copies a record to the mirror (R511), with the system-area writes that this takes (R209). -/
def State.mirrorWrite (s : State) (slot : Nat) (posts : List PostReq) : State :=
  let t := s.mirrorCopy slot
  if t.evr.mirrored = s.evr.mirrored then t
  else t.sysPosts posts 0 (s.slotBytes slot)

/-! ### Log page 0xC1 (R513, R514) -/

/-- Log page 0xC1 as assembled from the ring (false) or the mirror (true); `held`: it is returned from a kept page. -/
def State.evrPage (s : State) (mirror held : Bool) : List Byte :=
  let l := sortRecs (if mirror then s.evr.mirror.map (·.2) else s.validSlots.map (·.2))
  let newest := match l.getLast? with | some r => r.offer.seq | none => 0
  let oldest := match l.head? with | some r => r.offer.seq | none => 0
  let parts := if mirror then 0 else s.evr.ring.countP (fun kv => kv.2.isPartial)
  let frozen := if s.fbit Reg.EVR_STATUS_FROZEN then 2 else 0
  leBytes newest 8 ++ leBytes oldest 8 ++ leBytes l.length 4 ++ leBytes parts 4 ++
    leBytes (s.rd Reg.EVR_DROPQ).toNat 4 ++ leBytes (s.rd Reg.EVR_DROPRING).toNat 4 ++ leBytes s.evr.mirLost 4 ++
    leBytes ((if mirror then 1 else 0) + frozen + (if held then 4 else 0)) 1 ++ leBytes 0 27 ++ l.flatMap (·.bytes)

/-- A kept page with its HELD flag set. -/
def heldPage (l : List Byte) : List Byte := l.set 0x24 ((l.getD 0x24 0#8) ||| 4#8)

/-- Get Log Page 0xC1 on a controller (R514): the state after it, and the page. -/
def State.evrLog (s : State) (m : Fin 2) (mirror hold : Bool) (off : Nat) : State × List Byte :=
  let fresh := s.evrPage mirror false
  if ¬ hold then (s.modEvr (fun e => { e with kept := e.kept.set m none }), fresh)
  else
    match (if off = 0 then none else s.evr.kept.get m) with
    | some l => (s, heldPage l)
    | none => (s.modEvr (fun e => { e with kept := e.kept.set m (some fresh) }), fresh)

/-! ### Event Recorder Control (R515, R516) -/

/-- An admin command of an opcode that is admitted, holds its locks and has not been executed: `f` is its effect. -/
def State.adm (s : State) (opc a : Nat) (f : Ctx → State) : State :=
  match s.ctx a with
  | none => s
  | some c => if c.adm opc ∧ c.ready ∧ ¬ c.started then f c else s

/-- Data written to host memory for a command, which then ends successfully. -/
def State.returnData (s : State) (a : Nat) (l : List Byte) : State := (s.emit (.hostData a (listedBytes l))).endOk a 0

/-- An action of Event Recorder Control that takes effect and ends successfully. -/
def State.evrAction (s : State) (a act : Nat) (f : Ctx → State) : State :=
  s.adm 0xC5 a (fun c => if c.sqe.action = act then (f c).endOk a 0 else s)

/-- EVR_READ_CONFIGURATION: EVR_CFG, the 65 line settings, the 8 lists. -/
def State.evrReadConfig (s : State) (a : Nat) : State :=
  s.adm 0xC5 a (fun c =>
    if c.sqe.action = 0 then
      let w (r : Nat) : List Byte := leBytes (s.rd r).toNat 4
      s.returnData a (w Reg.EVR_CFG ++ (List.range 65).flatMap (fun k => w (Reg.EVR_LINE_n k)) ++
        (List.range 8).flatMap (fun l => (List.range 48).flatMap (fun i => w (Reg.EVR_LIST_n_i l i))))
    else s)

/-- A register written by firmware for an owner: its fields under their types. -/
def State.fwWrite (s : State) (r : Nat) (w : Word) : State :=
  match findReg r with
  | some h => s.wr r (BitVec.ofNat 32 (h.row.written true false (s.rd r).toNat w.toNat))
  | none => s

/-- EVR_SET_LINE. -/
def State.evrSetLine (s : State) (a : Nat) : State :=
  s.evrAction a 1 (fun c => s.fwWrite (Reg.EVR_LINE_n (wordBits c.sqe.cdw13 6 0)) c.sqe.cdw14)

/-- EVR_WRITE_LIST: the 48 entries of a list; one that may not stand there refuses the whole. -/
def State.evrWriteList (s : State) (a : Nat) (data : List Word) : State :=
  s.adm 0xC5 a (fun c =>
    if c.sqe.action ≠ 2 then s
    else
      let l := (List.range 48).map (fun i => data.getD i 0#32)
      match l.findIdx? (fun w => ! listEntryOk w.toNat) with
      | some i => (s.note (Reg.EVR_LIST_n_i (wordBits c.sqe.cdw13 2 0) i) .notice).endWith a St.invalidField
      | none =>
        let s := l.zipIdx.foldl (fun s wi => s.wr (Reg.EVR_LIST_n_i (wordBits c.sqe.cdw13 2 0) wi.2) wi.1) s
        s.endOk a 0)

/-- EVR_SET_CONFIGURATION. -/
def State.evrSetConfig (s : State) (a : Nat) : State := s.evrAction a 3 (fun c => s.fwWrite Reg.EVR_CFG c.sqe.cdw14)

/-- EVR_CLEAR. -/
def State.evrClearCmd (s : State) (a : Nat) : State := s.evrAction a 4 (fun _ => s.evrClear)

/-- EVR_UNFREEZE. -/
def State.evrUnfreezeCmd (s : State) (a : Nat) : State := s.evrAction a 5 (fun _ => s.evrUnfreeze)

/-- EVR_POST_MARKER: a Notice firmware post with CODE 0xFFFE and the 24 data bytes. -/
def State.evrMarker (s : State) (a : Nat) (data : List Byte) : State :=
  s.evrAction a 6 (fun _ => s.offer 0x40 0xFFFF 0xFFFFFFFE .notice none (padTo 24 data))

end Sys2Proof.Machine
end

