-- ==== Sys2Proof/Machine/Image.lean ====
section
/-!
DEFINITION. Sys2Proof/Machine/Image.lean: the OTP array, the flash and the images (spec/19_startup_and_otp.md): key slots,
Configuration Records, the settings record, and the validity of control store images (R260, R261), firmware images (R595) and
Drive Parameter Images (R597 and the rules it names).
-/
namespace Sys2Proof.Machine

/-! ### The OTP array (R588 to R593) -/

/-- A change of the boot state. -/
def State.modBoot (s : State) (f : BootSt → BootSt) : State := { s with boot := f s.boot }

/-- Bytes programmed into the array: bits are set, never cleared (R588). -/
def State.otpProgram (s : State) (o : Nat) (l : List Byte) : State :=
  l.zipIdx.foldl (fun s bi =>
    let v := Nat.lor (s.otpByte (o + bi.2)) bi.1.toNat
    if v = 0 then s
    else s.modBoot (fun b => { b with otp := sparseInsert (o + bi.2) (BitVec.ofNat 8 v) b.otp })) s

/-- Whether k bytes are all zero. -/
def State.otpBlank (s : State) (k o : Nat) : Bool := allZero (s.otpBytes k o)

/-- Whether root key slot k is usable (R589). -/
def State.rootUsable (s : State) (k : Nat) : Bool := ! s.otpBlank 48 (0x100 + 48 * k) && ! (s.otpByte 0x1C0).testBit k

/-- Whether DPI key slot k is usable (R589). -/
def State.dkeyUsable (s : State) (k : Nat) : Bool := ! s.otpBlank 48 (0x200 + 48 * k) && ! (s.otpByte 0x2C0).testBit k

/-- Bits set among k bytes: the value of a thermometer code. -/
def State.otpCount (s : State) (k o : Nat) : Nat :=
  (List.range (8 * k)).countP (fun i => (s.otpByte (o + i / 8)).testBit (i % 8))

/-- FW_SVN. -/
def State.fwSvn (s : State) : Nat := s.otpCount 32 0x400

/-- DPI_SVN. -/
def State.dpiSvn (s : State) : Nat := s.otpCount 32 0x420

/-- The DRAM configurations of R458, as byte 0x0A of a Configuration Record. -/
def dramConfigs : List Nat := [0x50, 0xF1, 0xF2, 0xF6, 0xFA]

/-- Whether the 64 bytes of a generation are correct (R590, R591); `gen` is its slot. -/
def crecOk (l : List Byte) (gen : Nat) : Bool :=
  let b (k : Nat) : Nat := (l.getD k 0#8).toNat
  decide (leNat (l.take 2) = 0x9400) && decide (b 2 = gen) && decide (b 3 ≤ 1) && dramConfigs.contains (b 0xA) &&
    decide (b 0xB ≤ 1) && decide (b 0xC % 16 / 8 = 0) && decide (b 0xC / 2 % 4 ≤ 2) && decide (1 ≤ b 0xC / 16) &&
    allZero ((l.drop 0xD).take 47) && decide (crc32c (l.take 60) = leNat (l.drop 60))

/-- The bytes of generation g. -/
def State.crec (s : State) (g : Nat) : List Byte := s.otpBytes 64 (0x300 + 64 * g)

/-- Whether generation g is programmed: not all zero, or programmed in vain (R593). -/
def State.crecUsed (s : State) (g : Nat) : Bool := ! allZero (s.crec g) || s.boot.otpBad.contains g

/-- Whether generation g is valid (R591). -/
def State.crecValid (s : State) (g : Nat) : Bool := ! s.boot.otpBad.contains g && crecOk (s.crec g) g

/-- The active generation (R591). -/
def State.activeGen (s : State) : Option Nat := [3, 2, 1, 0].find? (fun g => s.crecValid g)

/-- A mask of four conditions. -/
def mask4 (f : Nat → Bool) : Nat := (List.range 4).foldl (fun acc k => acc + bitAt k (f k)) 0

/-! ### The settings record (R594) -/

/-- A settings record before any is written. -/
def Settings.blank : Settings := ⟨0, 1, 1, 0, 0, none⟩

/-- The settings record in force: of the copies with a correct CRC, the one with the higher SEQ. -/
def State.settings (s : State) : Settings :=
  match s.boot.settings.b0, s.boot.settings.b1 with
  | some a, some b => if a.seq < b.seq then b else a
  | some a, none => a
  | none, some b => b
  | none, none => Settings.blank

/-- Whether the next update goes to copy 1: the copy with the lower SEQ. -/
def State.settingsToB (s : State) : Bool :=
  match s.boot.settings.b0, s.boot.settings.b1 with
  | some a, some b => decide (b.seq < a.seq)
  | some _, none => true
  | _, _ => false

/-- A write to the serial NOR flash leaves the chip: its first address and its size in the layout of R594. -/
def State.flashWrite (s : State) (addr size : Nat) : State := s.emit (.flashWrite addr size)

/-- What the next update leaves in the copy it goes to: a record, or, when the write fails, none that is valid. -/
def State.putSettings (s : State) (r : Option Settings) : State :=
  (s.flashWrite (if s.settingsToB then 0xD80000 else 0xD70000) 0x10000).modBoot (fun b =>
    { b with settings := if s.settingsToB then { b.settings with b1 := r } else { b.settings with b0 := r } })

/-- An update of the settings record, with the next SEQ. -/
def State.saveSettings (s : State) (f : Settings → Settings) : State :=
  s.putSettings (some { f s.settings with seq := s.settings.seq + 1 })

/-! ### Control store images (R255, R260, R261) -/

/-- Whether no two entries of a list of numbers are equal. -/
def distinct : List Nat → Bool
  | [] => true
  | a :: t => ! t.contains a && distinct t

/-- Whether a pattern record is laid out as R255 says. -/
def patternOk (p : Nat × List Byte) : Bool :=
  decide (p.1 ≤ 127) && decide (p.2.getD 3 0#8 = 0#8) && decide (leNat (p.2.take 2) ≤ 480)

/-- Whether the fields of an image meet R260 for a region that holds at most `maxWords` words; the CRC covers bytes 0x40 to
LEN − 1. -/
def csFieldsOk (c : CsImage) (region maxWords : Nat) : Bool :=
  decide (c.bytes.take 4 = [0x54#8, 0x52#8, 0x53#8, 0x51#8]) && decide (c.le 0x04 2 = 1) && decide (c.le 0x06 2 = region) &&
    decide (1 ≤ c.nwords) && decide (c.nwords ≤ maxWords) && decide (c.npat ≤ (if region = 0 then 0 else 128)) &&
    decide (c.le 0x0E 2 = 0) && decide (c.len = 0x40 + 18 * c.nwords + 64 * c.npat) && decide (c.len ≤ c.bytes.length) &&
    decide (c.le 0x20 4 = crc32c ((c.bytes.drop 0x40).take (c.len - 0x40))) && decide (c.le 0x24 28 = 0) &&
    c.patterns.all patternOk

/-- Whether the signature block of a customer image is laid out as R260 says, and the padding behind it is zero (R262). -/
def csSigBlockOk (c : CsImage) : Bool :=
  decide (c.bytes.length = (c.len + 199) / 4 * 4) && sigBlockOk c.bytes c.len &&
    (c.bytes.drop (c.len + 196)).all (fun b => decide (b = 0#8))

/-- Whether a customer image is valid under a CKEY_HASH (R261). -/
def csCustomerOk (c : CsImage) (ckey : List Byte) : Bool :=
  csFieldsOk c 1 4096 && csSigBlockOk c && decide (0x3000 ≤ c.first) && decide (c.first + c.nwords ≤ 0x4000) &&
    (List.range 64).all (fun i =>
      ! c.entryValid.testBit i || (decide (c.first ≤ 0x3000 + i) && decide (0x3000 + i < c.first + c.nwords))) &&
    c.words.all mwEncodingOk && distinct (c.patterns.map (·.1)) && decide (c.keyHash = ckey) && ! allZero ckey && c.sigOk

/-! ### Firmware images (R595) -/

/-- Whether a firmware image is valid. -/
def State.fwOk (s : State) (f : FwImage) : Bool :=
  f.fieldsOk && decide (f.svn ≤ 256) && decide (f.len ≤ 6 * 2 ^ 20 - 196) &&
    [0, 1, 2, 3].any (fun k => s.rootUsable k && decide (s.otpBytes 48 (0x100 + 48 * k) = f.keyHash)) && f.sigOk &&
    decide (s.fwSvn ≤ f.svn) && csFieldsOk f.cs 0 12288 && decide (f.cs.first = 0)

/-- The image in firmware slot k, 1 or 2. -/
def State.fwSlot (s : State) (k : Nat) : Option FwImage := if k = 1 then s.boot.fw.b0 else s.boot.fw.b1

/-- Whether firmware slot k holds a valid image. -/
def State.fwSlotOk (s : State) (k : Nat) : Bool := match s.fwSlot k with | some f => s.fwOk f | none => false

/-! ### Drive Parameter Images: tables -/

/-- Whether len bytes from an offset of a table are zero. -/
def DpiZero (d : DpiImage) (ty off len : Nat) : Bool :=
  match d.table ty with
  | some t => t.bytes.all (fun kb => decide (kb.1 < off) || decide (off + len ≤ kb.1) || decide (kb.2 = 0#8))
  | none => true

/-- The tables of a DPI and their sizes (R596). -/
def dpiSizes : List (Nat × Nat) :=
  [(1, 2488), (2, 168), (3, 20576), (4, 2576), (5, 128), (6, 90112), (7, 23040), (8, 33024), (9, 272), (10, 1856), (11, 72),
   (12, 136), (13, 528), (14, 544)]

/-- Where PROFILE_VALID stands in a table. -/
def profileValidOff (ty : Nat) : Nat := if ty = 1 then 2 else if ty = 4 then 4 else 0

/-- Whether profile entry k of a table is valid. -/
def profileValid (d : DpiImage) (ty k : Nat) : Bool := (d.le ty 2 (profileValidOff ty)).testBit k

/-- The actuators of a head's surface that the head-map table enables. -/
def headAct (h : Nat) : Nat := 2 * (h / 20) + (if h % 20 < 10 then 0 else 1)

/-- R79, R80. -/
def dpiAtbOk (d : DpiImage) : Bool :=
  let p := d.le 1 2 0
  decide (256 ≤ p ∧ p ≤ 1024) && decide (d.le 1 4 4 ≠ 0) &&
    (List.range 4).all (fun n => decide (d.le 1 4 (8 + 4 * n) / 2 ^ 22 < p)) && profileValid d 1 0

/-- R190, R191. -/
def dpiHeadOk (d : DpiImage) : Bool :=
  let present (h : Nat) : Bool := d.headPresent h
  decide (d.byte 2 0 < 16) && DpiZero d 2 1 3 && decide (d.le 2 4 4 < 2 ^ 20) &&
    (List.range 40).all (fun h =>
      decide (d.headFlags h < 8) && decide (d.paHead h ≤ 9) && decide (d.le 2 2 (10 + 4 * h) = 0) &&
        decide (present h = (d.actEn (headAct h) && d.surfEn (h % 20))) && (! present h || (d.headFlags h).testBit 2)) &&
    (List.range 4).all (fun n =>
      distinct (((List.range 40).filter (fun h => present h && decide (headAct h = n))).map (fun h => d.paHead h))) &&
    (List.range 20).all (fun s => ! d.surfEn s || present s || present (20 + s))

/-- R192, R193. -/
def dpiZoneOk (d : DpiImage) : Bool :=
  decide (1 ≤ d.guard ∧ d.guard ≤ 32) && decide (d.byte 3 1 = 64) && DpiZero d 3 2 2 && DpiZero d 3 0x54 12 &&
    (List.range 20).all (fun s =>
      let n := d.rzCount s
      decide (1 ≤ n ∧ n ≤ 64) &&
      (d.surfEn s || (decide (n = 1) && decide (d.bands s 0 = 0))) &&
      (List.range n).all (fun k =>
        let spt := d.spt s k
        let next := if k + 1 < n then d.firstCyl s (k + 1) else d.lastCyl s + 1
        decide (d.byte 3 (rzOff s k + 3) = 0) && decide (64 ≤ spt ∧ spt ≤ 1024) &&
          decide (2000 ≤ d.baud s k ∧ d.baud s k ≤ 4700) && decide (d.bands s k ≤ 65535) &&
          decide (d.le 3 2 (rzOff s k + 14) = 0) &&
          decide ((66560 + spt - 1) / spt + d.guard ≤ d.bt s k) &&
          decide (d.firstCyl s k + d.bands s k * d.bt s k ≤ next) &&
          (decide (k + 1 = n) || decide (d.firstCyl s k < next))))

/-- Whether three thresholds T1, T2, T3 of a register image do not rise. -/
def fallingThresholds (w : Nat) : Bool :=
  decide (bitsOf w 9 0 ≤ bitsOf w 19 10) && decide (bitsOf w 19 10 ≤ bitsOf w 29 20)

/-- R220, R221. -/
def dpiMscOk (d : DpiImage) : Bool :=
  let seek (n k o c : Nat) : Nat := d.le 4 c (0x10 + 512 * n + 8 * k + o)
  decide (d.le 4 2 0 ≤ d.le 4 2 2) && DpiZero d 4 6 2 && fallingThresholds (d.le 4 4 8) && fallingThresholds (d.le 4 4 12) &&
    (List.range 16).all (fun k => DpiZero d 4 (0x810 + 32 * k + 20) 12) && profileValid d 4 0 &&
    (List.range 4).all (fun n =>
      ! d.actEn n ||
        (decide (seek n 0 0 4 = 0) &&
          (List.range 64).all (fun k =>
            decide (seek n k 0 4 < 2 ^ 24) && decide (seek n k 4 2 ≤ seek n k 6 2) &&
              (decide (k = 63) ||
                (decide (seek n k 0 4 < seek n (k + 1) 0 4) && decide (seek n k 4 2 ≤ seek n (k + 1) 4 2) &&
                  decide (seek n k 6 2 ≤ seek n (k + 1) 6 2))))))

/-- R265. -/
def dpiTrsOk (d : DpiImage) : Bool :=
  (List.range 64).all (fun i => decide (d.byte 5 i = 0xFF) || ! (d.byte 5 i).testBit 6) && DpiZero d 5 0x70 16

/-- The number of bits in which two numbers below 2^32 differ. -/
def hamming32 (a b : Nat) : Nat := (List.range 32).countP (fun i => decide (a.testBit i ≠ b.testBit i))

/-- Whether a recording zone fits its servo windows (R274): with P, w and SV(P) over the common denominator SPT × 2^22. -/
def zoneFits (piers spt baud pre post : Nat) : Bool :=
  let den := spt * 2 ^ 22
  let p := piers * 2 ^ 22
  let w := 16 * (pre + post) * spt
  let m := piers / spt
  let f := p - m * den
  let sv := m * w + min f w + (f + w - den)
  let tbNum := piers * 2 ^ 22 * 120
  -- (P − SV(P)) × 2^22 / T_b ≥ 36,976, with T_b = tbNum / (baud × 10^6)
  decide (36976 * tbNum * spt ≤ (p - sv) * (baud * 10 ^ 6))

/-- Whether a head sub-record at an offset of the channel table is within its limits (R310). -/
def subRecordOk (d : DpiImage) (o spt : Nat) : Bool :=
  let norm := d.byte 6 (o + 0xE)
  let mx := d.byte 6 (o + 0xF)
  decide (1 ≤ norm ∧ norm ≤ mx ∧ mx ≤ 127) && decide (200 + 348 * mx ≤ 3 * (8333333 / spt)) &&
    ! (decide (d.le 6 2 (o + 8) = 0) && decide (d.le 6 2 (o + 10) = 0)) &&
    decide (d.byte 6 (o + 7) = 0) && decide (d.byte 6 (o + 0x13) = 0) &&
    [0x10, 0x11, 0x12].all (fun k => decide (-32 ≤ signed8 (d.byte 6 (o + k)) ∧ signed8 (d.byte 6 (o + k)) ≤ 32))

/-- The valid entries' columns of a code row (R304). -/
def codeRow (d : DpiImage) (r : Nat) : List Nat :=
  (List.range 32).filterMap (fun k =>
    let w := d.le 6 4 (0x200 + 128 * r + 4 * k)
    if w.testBit 31 then some (bitsOf w 25 16) else none)

/-- The four 32-bit phases of the preamble pattern 1, 1, 0, 0 (R275). -/
def preamblePhases : List Nat := [0x33333333, 0x99999999, 0xCCCCCCCC, 0x66666666]

/-- R307 to R310. -/
def dpiChannelOk (d : DpiImage) : Bool :=
  let svw := d.le 6 4 4
  let sm1 := d.le 6 4 8
  let sm2 := d.le 6 4 12
  let rows := (List.range 58).map (codeRow d)
  profileValid d 6 0 && DpiZero d 6 2 2 && DpiZero d 6 0x10 240 && DpiZero d 6 0x1F00 256 &&
    decide (16 * (bitsOf svw 31 16 + bitsOf svw 15 0) ≤ 0x080000) &&
    decide (12 ≤ hamming32 sm1 sm2) && preamblePhases.all (fun x => decide (8 ≤ hamming32 sm1 x) && decide (8 ≤ hamming32 sm2 x)) &&
    rows.all distinct && (List.range 513).all (fun c => decide (3 ≤ rows.countP (fun l => l.contains c))) &&
    (List.range 20).all (fun s => (List.range 64).all (fun k => (List.range 2).all (fun p =>
      let o := 0x2000 + 0x1000 * s + 0x40 * k + 0x20 * p
      if d.headPresent (20 * p + s) ∧ k < d.rzCount s then subRecordOk d o (d.spt s k) else DpiZero d 6 o 32))) &&
    (List.range 20).all (fun s => ! d.surfEn s || (List.range (d.rzCount s)).all (fun k =>
      zoneFits (d.le 1 2 0) (d.spt s k) (d.baud s k) (bitsOf svw 31 16) (bitsOf svw 15 0)))

/-- R334, R335. -/
def dpiPreampOk (d : DpiImage) : Bool :=
  let lo (e : Nat) : Nat := d.le 7 4 (0x200 + 8 * e)
  profileValid d 7 0 && decide (d.tsen ≤ 4) && decide (1 ≤ d.preheat) && decide (1 ≤ d.retw) && decide (1 ≤ d.retr) &&
    DpiZero d 7 0x84 124 &&
    (List.range 4).all (fun i =>
      let w := lo (d.paEntry i)
      decide (d.paEntry i ≠ 0) && w.testBit 31 && ! w.testBit 30 && decide (bitsOf w 29 27 = i + 1)) &&
    (List.range 40).all (fun h => decide (d.le 7 2 (0x34 + 2 * h) ≤ 0x3FFF)) &&
    (List.range 20).all (fun s => (List.range 64).all (fun k => (List.range 2).all (fun p =>
      let o := 0xA00 + 0x400 * s + 0x10 * k + 8 * p
      if d.headPresent (20 * p + s) ∧ k < d.rzCount s then
        decide (d.byte 7 (o + 2) < d.byte 7 (o + 1)) && decide (d.byte 7 (o + 1) ≤ d.lmax (20 * p + s)) && DpiZero d 7 (o + 5) 3
      else DpiZero d 7 o 8)))

/-- The offset of the actuator block of An in the servo table (R373). -/
def actBlock (n : Nat) : Nat := 0x100 + 0x2000 * n

/-- Whether the actuator block of an enabled actuator is valid (R374). -/
def actBlockOk (d : DpiImage) (n : Nat) : Bool :=
  let o := actBlock n
  let u (k c : Nat) : Nat := d.le 8 c (o + k)
  let imax := u 0 2
  let ihot := u 4 2
  let budget := d.le 8 4 4 * 60 * 10 ^ 9 / (2 ^ 22 * d.le 1 2 0 * 7200)
  let surf (j : Nat) : Nat := 10 * (n % 2) + j
  decide (ihot ≤ imax ∧ imax < u 2 2 ∧ u 2 2 ≤ 32767) && decide (u 6 1 ≤ 3) && decide (5 ≤ u 7 1 ∧ u 7 1 ≤ 100) &&
    decide (1 ≤ u 8 2) && decide (1 ≤ u 0x10 4) && decide (u 0xE 1 < u 0xF 1 ∧ u 0xF 1 ≤ 150) &&
    decide (u 0x1C 1 ≤ 4) && decide (1 ≤ u 0x1B 1) && decide (u 0x14 2 ≤ 32767) &&
    decide (u 0x1A 1 ≤ 20) &&
    (List.range 10).all (fun j => decide (d.lastCyl (surf j) / 2 ^ u 0x1A 1 ≤ 127)) &&
    (List.range 64).all (fun k => decide (u (0x40 + 2 * k) 2 ≤ u (0x42 + 2 * k) 2)) &&
    (List.range 129).all (fun k =>
      let w := u (0x100 + 4 * k) 4
      decide (2 * ((signed16 (w % 65536)).natAbs + (signed16 (w / 65536)).natAbs) ≤ ihot)) &&
    (List.range 16).all (fun k =>
      ! profileValid d 8 k ||
        (let st := u (0x400 + 320 * k) 4
         let vb := bitsOf st 3 0
         let mb := bitsOf st 7 4
         decide (vb ≤ 8) && decide (mb ≤ 4) && decide (250 ≤ bitsOf (u (0x1800 + 4 * k) 4) 11 0) &&
           decide (96 + max 276 (226 + 8 * (vb + mb)) + 256 ≤ budget))) &&
    DpiZero d 8 (o + 0x1D) 35 && DpiZero d 8 (o + 0x1DE8) 536 &&
    (List.range 16).all (fun k => DpiZero d 8 (o + 0x42C + 320 * k) 20 && DpiZero d 8 (o + 0x530 + 320 * k) 16) &&
    (List.range 10).all (fun j =>
      d.headPresent (20 * (n / 2) + surf j) || (DpiZero d 8 (o + 0x18C0 + 130 * j) 130 && DpiZero d 8 (o + 0x1DD4 + 2 * j) 2))

/-- R373, R374. -/
def dpiServoOk (d : DpiImage) : Bool :=
  let sb := d.le 8 2 2
  let deadline := d.le 8 4 4
  profileValid d 8 0 && decide (512 ≤ sb) && decide (248 * sb ≤ 16 * bitsOf (d.le 6 4 4) 31 16) &&
    decide (0x020000 ≤ deadline ∧ deadline ≤ 0x300000) && DpiZero d 8 8 248 &&
    (List.range 4).all (fun n => if d.actEn n then actBlockOk d n else DpiZero d 8 (actBlock n) 8192)

/-- R394, R395. -/
def dpiRefOk (d : DpiImage) : Bool :=
  profileValid d 9 0 && DpiZero d 9 2 2 && DpiZero d 9 8 8 &&
    (List.range 4).all (fun n =>
      if d.actEn n then decide (d.actProf n ≤ 15) && profileValid d 9 (d.actProf n) else decide (d.actProf n = 0)) &&
    (List.range 16).all (fun k =>
      let o := 0x10 + 16 * k
      let cfg := d.le 9 4 o
      let ref1 := d.le 9 4 (o + 8)
      DpiZero d 9 (o + 12) 4 && (! profileValid d 9 k ||
        (decide (2 ≤ bitsOf cfg 31 24) && decide (1 ≤ bitsOf cfg 23 16) && decide (16 ≤ bitsOf cfg 15 8) &&
          decide (1 ≤ bitsOf cfg 7 4) && decide (1 ≤ bitsOf ref1 15 0 ∧ bitsOf ref1 15 0 ≤ 32767) &&
          decide (bitsOf ref1 31 16 ≤ bitsOf ref1 15 0))))

/-- Whether a speed lies in the range of set-points. -/
def rpmOk (v : Nat) : Bool := decide (5400 ≤ v ∧ v ≤ 7200)

/-- R429, R430. -/
def dpiSpindleOk (d : DpiImage) : Bool :=
  let w (i : Nat) : Nat := d.le 10 4 (8 + 4 * i)
  let setpt := d.le 10 2 4
  profileValid d 10 0 && decide (1 ≤ d.poles ∧ d.poles ≤ 16) && decide (d.byte 10 3 ≤ 2) && rpmOk setpt &&
    rpmOk (bitsOf (w 3) 31 16) && rpmOk (bitsOf (w 3) 15 0) && decide (bitsOf (w 3) 15 0 ≤ bitsOf (w 3) 31 16) &&
    decide (bitsOf (w 2) 15 0 ≤ bitsOf (w 2) 31 16 ∧ bitsOf (w 2) 31 16 ≤ bitsOf (w 1) 15 0) &&
    decide (bitsOf (w 1) 15 0 < bitsOf (w 1) 31 16 ∧ bitsOf (w 1) 31 16 ≤ 32767) &&
    decide (5 ≤ bitsOf (w 0) 6 0 ∧ bitsOf (w 0) 6 0 ≤ 100) &&
    decide (bitsOf (w 5) 11 0 ≤ 2000 ∧ bitsOf (w 5) 27 16 ≤ 2000) &&
    decide (1 ≤ bitsOf (w 6) 15 0 ∧ 1 ≤ bitsOf (w 6) 31 16) &&
    decide (bitsOf (w 7) 31 16 ≠ 0 ∧ bitsOf (w 7) 15 0 ≠ 0 ∧ bitsOf (w 8) 4 0 ≠ 0 ∧ bitsOf (w 8) 7 5 ≤ 5) &&
    (List.range 128).all (fun i =>
      decide (signed16 (d.le 10 2 (0x340 + 2 * (i + 128))) = - signed16 (d.le 10 2 (0x340 + 2 * i)))) &&
    (List.range 16).all (fun k =>
      let o := 0x40 + 48 * k
      let r (i : Nat) : Nat := d.le 10 4 (o + 4 * i)
      let stop := bitsOf (r 9) 15 0
      let sin := bitsOf (r 9) 31 16
      let acc := bitsOf (r 4) 15 0
      DpiZero d 10 (o + 44) 4 && (! profileValid d 10 k ||
        (decide (stop < sin ∧ sin < 5400) && decide (bitsOf (r 10) 15 0 < sin) &&
          decide (bitsOf (r 2) 15 0 ≤ bitsOf (r 2) 31 16) && decide (1 ≤ acc) && decide (1 ≤ bitsOf (r 4) 31 16) &&
          -- SPINMAX × 1,024 spans of 10^10 / 1,075,200 ns, against (SETPT − 100) × 8 / (105 × ACC) s plus 1 s
          decide (((setpt - 100) * 8 + 105 * acc) * 107520 ≤ bitsOf (r 8) 27 16 * 1024 * 105 * acc)))) &&
    DpiZero d 10 6 2 && DpiZero d 10 0x2C 20

/-- R457. -/
def dpiCompOk (d : DpiImage) : Bool :=
  profileValid d 11 0 && DpiZero d 11 2 6 &&
    (List.range 16).all (fun k =>
      let w := d.le 11 4 (8 + 4 * k)
      decide (bitsOf w 23 9 = 0) && decide (bitsOf w 7 4 = 0))

/-- R477. -/
def dpiMemOk (d : DpiImage) : Bool := profileValid d 12 0 && DpiZero d 12 2 6

/-- Whether the cylinder ranges [a, a + n) and [b, b + m) meet. -/
def rangesMeet (a n b m : Nat) : Bool := decide (a < b + m) && decide (b < a + n)

/-- R496, R497. -/
def dpiRecoveryOk (d : DpiImage) : Bool :=
  decide (4 ≤ d.revMax ∧ d.revMax ≤ 1024) && decide (1 ≤ d.reallocStep ∧ d.reallocStep ≤ 8) &&
    decide (2 ≤ d.wrMax ∧ d.wrMax ≤ 32) && decide (1 ≤ d.byte 13 4) && decide (1 ≤ d.spareThr ∧ d.spareThr ≤ 50) &&
    decide (1 ≤ d.offStep ∧ d.offStep ≤ 1024) && DpiZero d 13 8 8 &&
    (List.range 4).all (fun n => ! d.actEn n || ! (d.spares n).isEmpty) &&
    (List.range 4).all (fun n => (List.range 16).all (fun i =>
      let o := spareOff n i
      let surf := d.byte 13 o
      let rz := d.byte 13 (o + 1)
      let tracks := d.le 13 2 (o + 2)
      let first := d.le 13 3 (o + 4)
      if surf = 0xFF then DpiZero d 13 (o + 1) 7
      else
        d.actEn n && decide (surf < 20) && decide (surf / 10 = n % 2) && decide (rz < d.rzCount surf) &&
          decide (2 ≤ tracks ∧ tracks % 2 = 0) && decide (d.byte 13 (o + 7) = 0) &&
          decide (first + tracks ≤ d.lastCyl surf + 1) &&
          (List.range (d.rzCount surf)).all (fun k =>
            ! rangesMeet first tracks (d.firstCyl surf k) (d.bands surf k * d.bt surf k)) &&
          (List.range 4).all (fun m => (List.range 16).all (fun j =>
            decide (n = m ∧ i = j) || decide (d.byte 13 (spareOff m j) ≠ surf) ||
              ! rangesMeet first tracks (d.le 13 3 (spareOff m j + 4)) (d.le 13 2 (spareOff m j + 2))))))

/-- The tables whose profiles a mode record names, in the record's order: ATB, MSC, RWC, PIF, SVD, SCE, VCD, SRF, SMC, CXE, MEM,
PMU (R579). -/
def modeTables : List Nat := [1, 4, 6, 7, 8, 8, 8, 9, 10, 11, 12, 14]

/-- R579, R580. -/
def dpiPowerOk (d : DpiImage) : Bool :=
  profileValid d 14 0 && d.modeValid 0 && decide (d.modeDefault ≤ 15) && d.modeValid d.modeDefault && decide (d.outRetry ≤ 15) &&
    decide (64 ≤ d.restore) && decide (d.maxPower 0 ≠ 0) &&
    (List.range 4).all (fun k => decide (d.maxPower (k + 1) ≤ d.maxPower k)) && DpiZero d 14 0x12 14 &&
    (List.range 16).all (fun k =>
      let o := 0x20 + 16 * k
      let p0 := d.le 14 4 o
      let p1 := d.le 14 4 (o + 4)
      let th := d.le 14 4 (o + 8)
      DpiZero d 14 (o + 12) 4 && (! profileValid d 14 k ||
        (decide (bitsOf p0 7 0 ≤ 125) && decide (bitsOf p0 7 0 ≤ bitsOf p0 15 8 ∧ bitsOf p0 15 8 ≤ 160) &&
          decide (bitsOf p0 31 16 ≤ 2000) && decide (10000 ≤ bitsOf p1 31 16) &&
          decide (1 ≤ bitsOf p1 15 8 ∧ bitsOf p1 15 8 ≤ 60) && decide (1 ≤ bitsOf p1 2 0 ∧ bitsOf p1 2 0 ≤ 2) &&
          decide (bitsOf th 23 16 ≤ 110) && decide (1 ≤ bitsOf th 15 8) &&
          decide (bitsOf th 31 24 + bitsOf th 15 8 < bitsOf th 23 16)))) &&
    (List.range 16).all (fun k =>
      decide (d.mode k 15 = 0) && (! d.modeValid k ||
        (modeTables.zipIdx.all (fun ti =>
            decide (d.mode k ti.2 = 0xFF) || (decide (d.mode k ti.2 ≤ 15) && profileValid d ti.1 (d.mode k ti.2))) &&
          decide (1 ≤ d.mode k 12 ∧ d.mode k 12 ≤ 100) && decide (1 ≤ d.mode k 13 ∧ d.mode k 13 ≤ 4) && decide (d.mode k 14 ≤ 1))))

/-- Whether a DPI is valid (R597). -/
def State.dpiOk (s : State) (d : DpiImage) : Bool :=
  d.layoutOk && decide (d.format = 1) && decide (d.ntab = 14) && decide (d.len ≤ 512 * 1024 - 196) && decide (d.svn ≤ 256) &&
    decide (d.chain ≤ 3) && decide (d.tables.length = 14) &&
    dpiSizes.all (fun ts => match d.table ts.1 with | some t => decide (t.size = ts.2) && t.crcOk | none => false) &&
    [0, 1, 2, 3].any (fun k => s.dkeyUsable k && decide (s.otpBytes 48 (0x200 + 48 * k) = d.keyHash)) && d.sigOk &&
    decide (s.dpiSvn ≤ d.svn) &&
    dpiAtbOk d && dpiHeadOk d && dpiZoneOk d && dpiMscOk d && dpiTrsOk d && dpiChannelOk d && dpiPreampOk d && dpiServoOk d &&
    dpiRefOk d && dpiSpindleOk d && dpiCompOk d && dpiMemOk d && dpiRecoveryOk d && dpiPowerOk d

/-- The DPI in slot A (0) or B (1). -/
def State.dpiSlot (s : State) (k : Nat) : Option DpiImage := if k = 0 then s.boot.dpis.b0 else s.boot.dpis.b1

/-- Whether DPI slot k holds a valid image. -/
def State.dpiSlotOk (s : State) (k : Nat) : Bool := match s.dpiSlot k with | some d => s.dpiOk d | none => false

end Sys2Proof.Machine
end

