-- ==== Sys2Proof/Machine/DpiLoad.lean ====
section
/-!
DEFINITION. Sys2Proof/Machine/DpiLoad.lean: profiles and BLOCK_BASIC (R21 to R25, R343, R344), and the load of a Drive
Parameter Image into the registers (R20, R583 step 7; R80, R192, R220, R265, R307, R335, R374, R395, R430, R457, R477, R579).
-/
namespace Sys2Proof.Machine

/-! ### Profiles -/

/-- The images of consecutive words of a table, with the registers they are for. -/
def DpiWords (d : DpiImage) (ty off : Nat) (l : List Nat) : List (Nat × Nat) :=
  l.zipIdx.map (fun ai => (ai.1, d.le ty 4 (off + 4 * ai.2)))

/-- The expert registers of engine X of pair n that a profile of 320 bytes at an offset holds (R373). -/
def sceImages (d : DpiImage) (n : Fin 4) (o : Nat) : List (Nat × Nat) :=
  let e := engX n
  DpiWords d 8 o [Reg.SCEn_STRUCT e, Reg.SCEn_EST0 e, Reg.SCEn_EST1 e, Reg.SCEn_SEEK e, Reg.SCEn_SEEK1 e, Reg.SCEn_SETTLE0 e,
    Reg.SCEn_SETTLE1 e, Reg.SCEn_RED e, Reg.SCEn_RAMP e, Reg.SCEn_HOVER e, Reg.SCEn_FF e] ++
  DpiWords d 8 (o + 0x40) ((List.range 8).flatMap (fun k => (List.range 5).map (fun c => Reg.SCEn_VBQk_c e k c))) ++
  DpiWords d 8 (o + 0xE0) ((List.range 4).flatMap (fun k => (List.range 5).map (fun c => Reg.SCEn_MBQk_c e k c)))

/-- The DPI table that holds the profiles of the block whose BLOCK_BASIC is at an address, the block's instance, and the images
of profile entry k: (register, image). None where no BLOCK_BASIC is (R79, R220, R307, R334, R373, R394, R429, R457, R477,
R579). -/
def profileOf (d : DpiImage) (a k : Nat) : Option (Nat × List (Nat × Nat)) :=
  let lane (base stride : Nat) : Option (Fin 4) := lanes.find? (fun n => decide (a = base + stride * n.val))
  if a = Reg.ATB_BASIC then some (1, DpiWords d 1 (0x8B8 + 16 * k) [Reg.ATB_GAIN, Reg.ATB_WIN, Reg.ATB_CORR, Reg.ATB_HOLD])
  else if a = Reg.MSC_BASIC then
    some (4, DpiWords d 4 (0x810 + 32 * k) [Reg.MSC_CREDIT, Reg.MSC_AGE, Reg.MSC_DISPATCH, Reg.MSC_WCG_CFG, Reg.MSC_LEASE_CFG])
  else if a = Reg.PIF_BASIC then some (7, DpiWords d 7 (0x100 + 16 * k) [Reg.PIF_SHK_CFG, Reg.PIF_MEMS_CFG])
  else if a = Reg.AST_BASIC then some (7, [(Reg.AST_GUARD, d.byte 7 (0x10F + 16 * k))])
  else if a = Reg.SMC_BASIC then
    some (10, DpiWords d 10 (0x40 + 48 * k) [Reg.SMC_START, Reg.SMC_START1, Reg.SMC_START2, Reg.SMC_SPDLOOP, Reg.SMC_RAMP,
      Reg.SMC_PHLOOP, Reg.SMC_SYNCCFG, Reg.SMC_OBS, Reg.SMC_HOVER, Reg.SMC_SPEEDS, Reg.SMC_CATCH])
  else if a = Reg.CXE_BASIC then some (11, DpiWords d 11 (8 + 4 * k) [Reg.CXE_CFG])
  else if a = Reg.MEM_BASIC then
    some (12, [(Reg.SCB_CFG, d.le 12 4 (8 + 8 * k)), (Reg.DMC_ARB, d.le 12 3 (12 + 8 * k)), (Reg.DMC_ARB1, d.byte 12 (15 + 8 * k))])
  else if a = Reg.PMU_BASIC then some (14, DpiWords d 14 (0x20 + 16 * k) [Reg.PMU_PEAK0, Reg.PMU_PEAK1, Reg.PMU_THERM])
  else
    match lane (Reg.RWCn_BASIC 0) 0x10000 with
    | some n =>
      some (6, DpiWords d 6 (0x100 + 16 * k) [Reg.RWCn_TLOOP n, Reg.RWCn_SYNC n, Reg.RWCn_LDPC n, Reg.RWCn_ADAPT n])
    | none =>
    match lane (Reg.PAn_BASIC 0) 0x1000 with
    | some n => some (7, DpiWords d 7 (0x108 + 16 * k) [Reg.PAn_WINH_CFG n, Reg.PAn_FLT_CFG n])
    | none =>
    match lane (Reg.SVDn_BASIC 0) 0x1000 with
    | some n => some (8, DpiWords d 8 (actBlock n + 0x1840 + 8 * k) [Reg.SVDn_CFG0 n, Reg.SVDn_CFG1 n])
    | none =>
    match lane (Reg.SCEn_BASIC 0) 0x2000, lane (Reg.SCEn_BASIC 1) 0x2000 with
    | some n, _ => some (8, sceImages d n (actBlock n + 0x400 + 320 * k))
    | none, some n => some (8, sceImages d n (actBlock n + 0x400 + 320 * k))
    | none, none =>
    match lane (Reg.VCDn_BASIC 0) 0x1000 with
    | some n => some (8, DpiWords d 8 (actBlock n + 0x1800 + 4 * k) [Reg.VCDn_LOOP n])
    | none =>
    match lane (Reg.SRFn_BASIC 0) 0x1000 with
    | some n => some (9, DpiWords d 9 (0x10 + 16 * k) [Reg.SRFn_CFG n, Reg.SRFn_REF0 n, Reg.SRFn_REF1 n])
    | none => none

/-- The images of profile entry k of a block, when a DPI is in force and the entry is valid (R24). -/
def State.profile (s : State) (a k : Nat) : Option (List (Nat × Nat)) :=
  if ¬ s.dpiOn then none
  else match profileOf s.dpi a k with
    | some (ty, l) => if profileValid s.dpi ty k then some l else none
    | none => none

/-- The pair of the engine whose sub-window holds an address (R343). -/
def scePair (a : Nat) : Option (Fin 4) := lanes.find? (fun n => decide (a / 0x2000 = 0x40180000 / 0x2000 + n.val))

/-- The word a profile or an expert write leaves in a register: the bits of its fields (R19). -/
def imageWord (a w : Nat) : Word :=
  match findReg a with
  | some h => BitVec.ofNat 32 (h.row.written true false 0 w)
  | none => 0#32

/-- The expert registers of a block loaded from a profile (R23): those of a pair of engines wait for the next sample (R344). -/
def State.loadProfile (s : State) (a : Nat) (l : List (Nat × Nat)) : State :=
  let l := l.map (fun ai => (ai.1, imageWord ai.1 ai.2))
  match scePair a with
  | some n => (s.modPair n (fun p => { p with shadow := [], applyReq := false, reload := l })).showShadow n
  | none => l.foldl (fun s aw => s.wr aw.1 aw.2) s

/-- The BLOCK_BASIC register of each instance that a write of one reaches: both engines of a pair (R343). -/
def basicPair (a : Nat) : List Nat :=
  match scePair a with
  | some n => [Reg.SCEn_BASIC (engX n), Reg.SCEn_BASIC (engX n + 1)]
  | none => [a]

/-- What ENABLE = 0 does at once to a bridge: it is Off, unless it drives a retract (R361, R424). -/
def State.bridgeOff (s : State) (a : Nat) : State :=
  lanes.foldl (fun (s : State) (n : Fin 4) =>
    if a = Reg.VCDn_BASIC n ∧ ¬ s.fbit (Reg.VCDn_BASIC_ENABLE n) ∧ (s.pair.get n).law ≠ 7 then
      s.fput (Reg.VCDn_STATUS_BRIDGE n) 0
    else s) s

/-- The outputs that follow ENABLE: the lasers (AST), and the bridges (VCD). -/
def State.refreshEnable (s : State) (a : Nat) : State :=
  let s := s.bridgeOff a
  if a = Reg.AST_BASIC then lanes.foldl (fun s n => s.refreshLt n) s else s

/-- The BLOCK_BASIC register of the block that a register is an expert register of (R21, R36). -/
def basicOf (a : Nat) : Option Nat :=
  match findReg a with
  | some h => if h.row.expert then h.unit.basicOff.map (fun o => h.unit.base + h.unit.stride * h.inst + o) else none
  | none => none

/-- The expert values of a block that wait for its ENABLE are dropped. -/
def State.dropHeld (s : State) (a : Nat) : State := { s with held := s.held.filter (fun aw => decide (basicOf aw.1 ≠ some a)) }

/-- ENABLE of a block becomes 1: the expert values written before take effect (R25). -/
def State.takeHeld (s : State) (a en : Nat) : State :=
  if en = 0 then s
  else ((s.held.filter (fun aw => decide (basicOf aw.1 = some a))).foldl (fun s aw => s.wr aw.1 aw.2) s).dropHeld a

/-- A write of BLOCK_BASIC (R23, R24), and whether it took effect: with KEEP = 1 it sets ENABLE only; with KEEP = 0 it sets
PROFILE and ENABLE, clears MODE and reloads the expert registers; a profile that is not valid changes nothing and offers a
Notice event. -/
def State.basicWrite (s : State) (a w : Nat) : State × Bool :=
  let en := w % 2
  if w / 2 ^ 9 % 2 = 1 then
    ((((basicPair a).foldl (fun s b => s.fput ⟨b, 0, 0⟩ en) s).takeHeld a en).refreshEnable a, true)
  else
    let k := w / 16 % 16
    match s.profile a k with
    | none => (s.note a .notice, false)
    | some l =>
      let s := (basicPair a).foldl (fun s b => s.wr b (BitVec.ofNat 32 (16 * k + en))) s
      (((s.dropHeld a).loadProfile a l).refreshEnable a, true)

/-- A write of an expert register (R21, R25, R344): the register is set, or, while ENABLE is 0, will be; MODE of its block becomes
1; an expert register of a pair goes to the shadow. -/
def State.expertWrite (s : State) (a basic : Nat) (w : Word) : State :=
  let v := imageWord a w.toNat
  let s := (basicPair basic).foldl (fun s b => s.fput ⟨b, 8, 8⟩ 1) s
  match scePair a with
  | some n =>
    let x := if a / 0x1000 % 2 = 1 then a - 0x1000 else a
    (s.modPair n (fun p => { p with shadow := sparseInsert x v p.shadow })).showShadow n
  | none => if s.fbit ⟨basic, 0, 0⟩ then s.wr a v else { s with held := sparseInsert a v s.held }

/-! ### The load of the tables -/

/-- Values of `sz` bytes each, from an offset of a table of the DPI, stored in a list of registers. -/
def State.loadTable (s : State) (ty sz off : Nat) (l : List Nat) : State :=
  l.zipIdx.foldl (fun s ai => s.wr ai.1 (imageWord ai.1 (s.dpi.le ty sz (off + sz * ai.2)))) s

/-- The listed bytes of a part of a table copied to memory, which holds 0 before. -/
def State.loadArea (s : State) (ty off len dst : Nat) : State :=
  match s.dpi.table ty with
  | none => s
  | some t => t.bytes.foldl (fun s kb =>
      if off ≤ kb.1 ∧ kb.1 < off + len then s.memPut (dst + (kb.1 - off)) kb.2 else s) s

/-- The actuators that the DPI enables. -/
def State.enabledActs (s : State) : List (Fin 4) := lanes.filter (fun n => s.dpi.actEn n)

/-- Offset registers from words of the ATB table: a word out of the register's range leaves it as it is, with a Notice event (R78). -/
def State.loadOffsets (s : State) (ok : Word → Bool) (off : Nat) (l : List Nat) : State :=
  l.zipIdx.foldl (fun s ai =>
    let w := imageWord ai.1 (s.dpi.le 1 4 (off + 4 * ai.2))
    if ok w then s.wr ai.1 w else s.note ai.1 .notice) s

/-- Registers of the ATB from its table (R79), COUNT first, and the contributing lanes. -/
def State.loadAtb (s : State) : State :=
  let s := s.loadTable 1 2 0 [Reg.ATB_PIERS]
  let s := s.loadTable 1 4 4 [Reg.ATB_FREE_RATE]
  let piers := s.piers
  let s := s.loadOffsets (fun w => decide (w.toNat / 2 ^ 22 < piers)) 8 ((List.range 4).map Reg.ATB_NOMn)
  let s := s.loadOffsets offsetInRange 0x18 ((List.range 40).map Reg.ATB_HEADn)
  let s := s.loadOffsets offsetInRange 0xB8 ((List.range 2).flatMap (fun p => (List.range 256).map (fun i => Reg.ATB_SKEWn_i p i)))
  s.fput Reg.ATB_CTRL_SRC (s.dpi.byte 2 0 % 16)

/-- Registers of the MSC from its table (R220). -/
def State.loadMsc (s : State) : State :=
  let s := s.loadTable 4 4 0 [Reg.MSC_HSW]
  let s := s.loadTable 4 4 8 [Reg.MSC_WCG_VMOT, Reg.MSC_WCG_VDDA]
  (List.range 4).foldl (fun s n => (List.range 64).foldl (fun s i =>
    (s.loadTable 4 4 (0x10 + 512 * n + 8 * i) [Reg.MSC_SEEKn_i_DIST n i, Reg.MSC_SEEKn_i_TIME n i])) s) s

/-- TRS_SPT from the zone-format table (R192); 0 beyond RZ_COUNT. -/
def State.loadSpt (s : State) : State :=
  let v (surf k : Nat) : Nat := if k < s.dpi.rzCount surf then s.dpi.spt surf k else 0
  (List.range 20).foldl (fun s surf => (List.range 32).foldl (fun (s : State) i =>
    s.wr (Reg.TRS_SPT_n_i surf i) (BitVec.ofNat 32 (v surf (2 * i) + 2 ^ 16 * v surf (2 * i + 1)))) s) s

/-- Registers of the channels from the channel table (R307). -/
def State.loadRwc (s : State) : State :=
  s.enabledActs.foldl (fun s n =>
    let s := s.loadTable 6 4 4 [Reg.RWCn_SVWIN n, Reg.RWCn_SM1 n, Reg.RWCn_SM2 n]
    let s := s.loadTable 6 4 0x200 ((List.range 58).flatMap (fun r => (List.range 32).map (fun k => Reg.RWCn_CODE_r_k n r k)))
    s.loadArea 6 0x2000 81920 (s.fget (Reg.RWCn_ZBASE_ADDR n) * 4096)) s

/-- Registers of the preamp interface from the preamp table (R335). -/
def State.loadPif (s : State) : State :=
  let s := s.loadArea 7 0xA00 20480 (s.fget Reg.PIF_PBASE_ADDR * 4096)
  let s := s.loadTable 7 4 0x208 ((List.range 255).flatMap (fun i => [Reg.PIF_CMD_n_LO (i + 1), Reg.PIF_CMD_n_HI (i + 1)]))
  s.loadTable 7 2 0x34 ((List.range 40).map Reg.AST_LDLY_n)

/-- Registers of the servo blocks of an enabled actuator from its actuator block (R373). -/
def State.loadAct (s : State) (n : Fin 4) : State :=
  let o := actBlock n
  let e := engX n
  let both (f : Nat → Nat) : State → State := fun s =>
    (s.wr (f (e + 1)) (s.rd (f e)))
  let s := s.loadTable 8 4 o [Reg.VCDn_ILIM_CFG n]
  let s := s.loadTable 8 2 (o + 4) [Reg.VCDn_IHOT n]
  let s := s.wr (Reg.VCDn_SCALE n) (imageWord (Reg.VCDn_SCALE n) (s.dpi.byte 8 (o + 6) * 256 + s.dpi.byte 8 (o + 7)))
  let s := s.loadTable 8 4 (o + 8) [Reg.VCDn_TH0 n, Reg.VCDn_TH1 n, Reg.VCDn_TAU n, Reg.MADn_CFG n, Reg.SCEn_TBL e]
  let s := both Reg.SCEn_TBL s
  let s := s.loadTable 8 1 (o + 0x1C) [Reg.VCDn_TSEN n]
  let s := s.loadTable 8 2 (o + 0x40) ((List.range 65).map (Reg.SCEn_VPROF_i e))
  let s := s.loadTable 8 4 (o + 0x100) ((List.range 129).map (Reg.SCEn_FFT_i e))
  let s := (List.range 65).foldl (fun s i => both (fun e => Reg.SCEn_VPROF_i e i) s) s
  let s := (List.range 129).foldl (fun s i => both (fun e => Reg.SCEn_FFT_i e i) s) s
  let s := s.loadTable 8 2 (o + 0x18C0) ((List.range 10).flatMap (fun j => (List.range 65).map (fun i => Reg.SVDn_LIN_j_i n j i)))
  (s.loadTable 8 2 (o + 0x1DD4) ((List.range 10).map (Reg.SVDn_JOG_i n))).refreshLimit n

/-- Registers of the servo blocks from the servo table (R374); the engines of an enabled actuator are Standby and its sequencer
Idle (R222, R375). -/
def State.loadServo (s : State) : State :=
  let s := s.loadTable 8 2 2 [Reg.SVD_SB]
  let s := s.loadTable 8 4 4 [Reg.SCE_DEADLINE]
  s.enabledActs.foldl (fun s n =>
    let s := s.loadAct n
    let s := (s.fput (Reg.SRFn_STATUS_XSTATE n) 2).fput (Reg.SRFn_STATUS_YSTATE n) 2
    s.modTrs n (fun t => { t with st := .idle })) s

/-- Registers of the spindle controller from the spindle table (R429). -/
def State.loadSmc (s : State) : State :=
  let s := s.wr Reg.SMC_SETPT (BitVec.ofNat 32 (s.dpi.byte 10 3 % 4 * 2 ^ 16 + s.dpi.le 10 2 4))
  let s := s.loadTable 10 4 8 [Reg.SMC_PWM, Reg.SMC_ILIM, Reg.SMC_ISTART, Reg.SMC_SPREF, Reg.SMC_BRAKE, Reg.SMC_RETRACT0,
    Reg.SMC_RETRACT1, Reg.SMC_MOTOR0, Reg.SMC_MOTOR1]
  let s := s.loadTable 10 2 0x340 ((List.range 256).map Reg.SMC_WAVE_i)
  s.loadTable 10 2 0x540 ((List.range 256).map Reg.SMC_COG_i)

/-- The BLOCK_BASIC registers that firmware writes with PROFILE = 0 and ENABLE = 1 after the load; SRFn takes ACTPROF (R395). -/
def State.basicsToWrite (s : State) : List (Nat × Nat) :=
  [Reg.ATB_BASIC, Reg.MSC_BASIC, Reg.PIF_BASIC, Reg.AST_BASIC, Reg.SMC_BASIC, Reg.CXE_BASIC, Reg.MEM_BASIC,
    Reg.PMU_BASIC].map (fun a => (a, 0)) ++
  s.enabledActs.flatMap (fun (n : Fin 4) =>
    [(Reg.RWCn_BASIC n, 0), (Reg.PAn_BASIC n, 0), (Reg.SVDn_BASIC n, 0), (Reg.SCEn_BASIC (engX n), 0), (Reg.VCDn_BASIC n, 0),
     (Reg.SRFn_BASIC n, s.dpi.actProf n)])

/-- Every block's LOCK bit set (R583 step 7), of the units that the DPI enables. -/
def State.lockAll (s : State) : State :=
  regUnits.foldl (fun s u =>
    match u.lockOff with
    | none => s
    | some o => (List.range u.count).foldl (fun (s : State) i =>
        let a := u.base + u.stride * i + o
        if s.unitOff a then s else s.fput ⟨a, 0, 0⟩ 1) s) s

/-- The availability of each actuator once the DPI is known: Parked, or Out when the DPI disables it (R569). -/
def State.dpiAvail (s : State) : State :=
  s.modMsc (fun m => lanes.foldl (fun (m : MscSt) (n : Fin 4) =>
    if s.dpi.actEn n then m
    else { m with avail := m.avail.set n .out, outCause := m.outCause.set n (some .dpi) }) m)

/-- A DPI put into force (R583 step 7): tables, BASIC registers, VCH_CFG, locks. -/
def State.loadDpi (s : State) (d : DpiImage) : State :=
  let s := { s with dpi := d, dpiOn := true }
  let s := (((s.loadAtb.loadMsc.loadSpt).loadRwc).loadPif).loadServo.loadSmc
  let s := s.basicsToWrite.foldl (fun s ak => (s.basicWrite ak.1 (16 * ak.2 + 1)).1) s
  let s := (s.fput Reg.VCH_CFG_HEADEN (d.chain % 2)).fput Reg.VCH_CFG_MASTER (d.chain / 2 % 2)
  s.refreshHeadless.dpiAvail.lockAll

end Sys2Proof.Machine
end

