-- ==== Sys2Proof/Machine/Boot.lean ====
section
/-!
DEFINITION. Sys2Proof/Machine/Boot.lean: resets and the start-up sequence (spec/19_startup_and_otp.md R581 to R587, R599;
spec/20_package_and_electrical.md R614 to R617): what survives a reset, the steps of R583, and the modes they end in.
-/
namespace Sys2Proof.Machine

/-! ### Control store images (R262, R264) -/

/-- The words of an image committed one by one (R257). -/
def State.csStore (s : State) (first : Nat) (l : List Nat) : State :=
  l.zipIdx.foldl (fun s wi => s.csCommit (first + wi.2) wi.1) s

/-- The Smipoent region written from the firmware image (R583 step 6). -/
def State.loadSmipoent (s : State) (c : CsImage) : State :=
  let s := { s with cs := { s.cs with words := s.cs.words.filter (fun kw => decide (0x3000 ≤ kw.1)) } }
  s.csStore c.first c.words

/-- The customer region and the pattern RAM written from an image, every other word the fill word and every other entry clear
(R262 step 4). -/
def State.loadCustomer (s : State) (c : CsImage) : State :=
  let s := { s with cs := { s.cs with words := s.cs.words.filter (fun kw => decide (kw.1 < 0x3000)) } }
  let s := (s.csStore c.first c.words).memClear 0x115FE000 8192
  c.patterns.foldl (fun s p => s.memStore (0x115FE000 + 64 * p.1) p.2) s

/-- TRS_CENTRY from ENTRY_VALID, and IMAGE_ID (R262 step 6): the image is loaded. -/
def State.enableCustomer (s : State) (c : CsImage) : State :=
  let s := ((s.fput Reg.TRS_CENTRY_LO_VALID (c.entryValid % 2 ^ 32)).fput Reg.TRS_CENTRY_HI_VALID (c.entryValid / 2 ^ 32)).fput
    Reg.TRS_IMAGE_ID_ID c.imageId
  { s with cs := { s.cs with image := some c } }

/-- What a read-back finds other than written: a word of the customer region (its address, what it holds), or pattern entry k
(0x4000 + k, its 64 bytes as a number). -/
def State.csWrong (s : State) (l : List (Nat × Nat)) : State :=
  l.foldl (fun s wv =>
    if wv.1 < 0x4000 then s.csCommit (0x3000 + wv.1 % 4096) wv.2
    else s.memStore (0x115FE000 + 64 * (wv.1 % 128)) (leBytes wv.2 64)) s

/-- The persisted customer image reloaded (R264): one that is not valid is not loaded, with a Fault event. When the read-back finds
anything else than was written, the region stays invalid (R583 step 8). -/
def State.reloadCustomer (s : State) : State :=
  match s.boot.cust with
  | none => s
  | some c =>
    if csCustomerOk c s.dpi.ckeyHash then
      let bad := s.boot.env.custBad
      let s := (s.loadCustomer c).csWrong bad
      if bad.isEmpty then s.enableCustomer c else s
    else s.fwPost 264 .fault none []

/-! ### Mode Profiles (R576) -/

/-- The BLOCK_BASIC registers of the blocks that index j of a mode record names, of the units that the DPI enables. -/
def State.modeBlocks (s : State) (j : Nat) : List Nat :=
  let each (f : Fin 4 → Nat) : List Nat := s.enabledActs.map f
  if j = 0 then [Reg.ATB_BASIC]
  else if j = 1 then [Reg.MSC_BASIC]
  else if j = 2 then each (fun n => Reg.RWCn_BASIC n)
  else if j = 3 then [Reg.PIF_BASIC, Reg.AST_BASIC] ++ each (fun n => Reg.PAn_BASIC n)
  else if j = 4 then each (fun n => Reg.SVDn_BASIC n)
  else if j = 5 then each (fun n => Reg.SCEn_BASIC (engX n))
  else if j = 6 then each (fun n => Reg.VCDn_BASIC n)
  else if j = 7 then each (fun n => Reg.SRFn_BASIC n)
  else if j = 8 then [Reg.SMC_BASIC]
  else if j = 9 then [Reg.CXE_BASIC]
  else if j = 10 then [Reg.MEM_BASIC]
  else [Reg.PMU_BASIC]

/-- The limits that follow PMU_LIMIT at once: the caps and the grants (R561, R562). -/
def State.refreshPower (s : State) : State := lanes.foldl (fun s n => s.grantLane n) s.supplyCaps

/-- Mode record k applied (R576): PROFILE of each block named, with the current ENABLE, and PMU_LIMIT. -/
def State.applyMode (s : State) (k : Nat) : State :=
  let s := (List.range 12).foldl (fun s j =>
    let p := s.dpi.mode k j
    if p = 0xFF then s
    else (s.modeBlocks j).foldl (fun s b => (s.basicWrite b (16 * p + s.fget ⟨b, 0, 0⟩)).1) s) s
  let s := (s.fput Reg.PMU_LIMIT_PCTMAX (s.dpi.mode k 12)).fput Reg.PMU_LIMIT_WCAPMAX (s.dpi.mode k 13)
  ((s.fput Reg.PMU_LIMIT_NOPEAK (s.dpi.mode k 14 % 2)).modPow (fun p => { p with mode := k })).refreshPower

/-- The Mode Profile in force after start-up: the saved one, else the default (R577). -/
def State.savedMode (s : State) : Nat :=
  match s.settings.mode with
  | some k => if s.dpi.modeValid k then k else s.dpi.modeDefault
  | none => s.dpi.modeDefault

/-! ### What survives a reset (R16, R582) -/

/-- The register file after a reset: STK fields as they were, every other field at its reset value. -/
def keepSticky (rf : RegFile) : RegFile :=
  rf.filterMap (fun aw =>
    match findReg aw.1 with
    | none => none
    | some h =>
      let w : Word := BitVec.ofNat 32 (h.row.afterReset aw.2.toNat)
      if w = resetOf aw.1 then none else some (aw.1, w))

/-- The fields that show the level of a pin: PERSTm_N, the GPIO inputs, the neighbours' presence. -/
def pinFields : List Fld :=
  [Reg.HPXn_LINK_PERST 0, Reg.HPXn_LINK_PERST 1, Reg.VCH_STATUS_DNPRES, Reg.VCH_STATUS_UPPRES] ++
    (List.range 32).map (fun k => Reg.SYS_GPIO_CFGn_IN k)

/-- A logical block after a reset: cached data that never reached the medium is gone, and what the medium holds stands. -/
def Block.afterReset (b : Block) : Option Block :=
  if ¬ b.dirty then some b
  else b.med.map (fun d => { b with data := d, dirty := false, med := none, sram := false })

/-- A zone after a reset: an open zone is Closed, its stream context gone with what it holds. -/
def Zone.afterReset (z : Zone) : Zone :=
  { z with st := if z.open? then .closed else z.st, comp := { z.comp.lost with ctx := false } }

/-- A namespace after a reset: reservations stay where they persist through power loss. -/
def Ns.afterReset (n : Ns) : Ns :=
  { n with zones := n.zones.map (fun z => (z.1, z.2.afterReset)),
           resv := if n.resv.ptpl then n.resv else ⟨0, none, [], 0, false⟩ }

/-- The media side after a reset; a power-on reset also starts the totals of log page 0xC3 anew (R455). -/
def NsSt.afterReset (n : NsSt) (power : Bool) : NsSt :=
  { n with list := n.list.map Ns.afterReset,
           blocks := n.blocks.filterMap (fun kb => kb.2.afterReset.map (fun b => (kb.1, b))),
           cstats := if power then [] else n.cstats, cxeHeld := [] }

/-- The XTS after a reset: every slot empty; a power-on reset locks the rows (LockOnReset) and renews the tries (R185, R186,
R189). -/
def XtsSt.afterReset (x : XtsSt) (power : Bool) : XtsSt :=
  let lock (r : LockRow) : LockRow := { r with rl := r.rl || r.rle, wl := r.wl || r.wle }
  { XtsSt.reset with wrapped := x.wrapped, pins := x.pins, tries := if power then [] else x.tries, sanitize := x.sanitize,
                     rows := if power then x.rows.map (fun kr => (kr.1, lock kr.2)) else x.rows }

/-- The remaps in force, which the system area keeps (R471): (DRAM, RMT entry, page or row). -/
def State.remaps (s : State) : List (Bool × Nat × Nat) :=
  ([true, false] : List Bool).flatMap (fun dram =>
    ((List.range (rmtCount dram)).filter (fun i => s.fbit (rmtV dram i))).map (fun i => (dram, i, s.fget (rmtUnit dram i))))

/-- Media recovery after a reset: what the medium and the flash hold. -/
def State.recovAfter (s : State) : RecSt :=
  let r := s.recov
  { RecSt.reset with
    grown := r.grown, spareNext := r.spareNext, spareBad := r.spareBad, scanQueue := r.scanQueue, scanPos := r.scanPos,
    stopStamp := if r.stopped then r.stopStamp else s.stamp,
    faultRecs := r.faultRecs, faultRanges := r.faultRanges, faultVer := r.faultVer,
    sysDe := r.sysDe ++ s.host.de.filter (·.saved), sysRmt := r.sysRmt ++ s.remaps }

/-- A pair after a reset: the retract of the VDDA domain goes on through it (R582, R616). -/
def PairSt.afterReset (p : PairSt) : PairSt :=
  if p.retract = 0 then PairSt.reset else { PairSt.reset with law := 7, retract := p.retract }

/-- The fields that show a retract that goes on. -/
def State.showRetract (s : State) (n : Fin 4) : State :=
  if (s.pair.get n).retract = 0 then s
  else
    let s := (s.fput (Reg.SCE_PAIRn_STATUS_LAW n) 7).fput (Reg.VCDn_STATUS_BRIDGE n) 4
    (s.fput (Reg.SCEn_STATUS_LAW (engX n)) 7).fput (Reg.SCEn_STATUS_LAW (engX n + 1)) 7

/-- A reset takes effect (R582): every field returns to its reset value but those the rules keep; `power`: a power-on reset;
`stk`: one that begins with VDDIO below its threshold, which clears the STK fields too (R614). SYS_BOOT.CAUSE names it. -/
def State.resetAll (s : State) (cause : Nat) (power stk : Bool) : State :=
  let regs := if stk then [] else keepSticky s.regs
  let t : State :=
    { State.reset with
      fresh := s.fresh, regs := regs, out := s.out, pending := s.pending, heads := s.heads,
      evr := { EvrSt.reset with mirror := s.evr.mirror, mirLast := s.evr.mirLast, mirLost := s.evr.mirLost },
      host := { HostSt.reset with deSeq := s.host.deSeq, overflow := s.host.overflow },
      ns := s.ns.afterReset power, xts := s.xts.afterReset power, recov := s.recovAfter,
      pair := mapQuad PairSt.afterReset s.pair,
      pow := { PowSt.reset with coolStart := if s.pow.coolStart.isSome then some 0 else none },
      boot := { s.boot with resetCause := none, fwRun := none } }
  let t := pinFields.foldl (fun t f => t.fput f (s.fget f)) t
  ((lanes.foldl (fun t n => t.showRetract n) t).setHealth (fun n => s.actHealth n)).fput Reg.SYS_BOOT_CAUSE cause

/-! ### Start-up (R583) -/

/-- Fields whose Reset column says OTP, loaded at step 1 (R20, R602). -/
def State.otpLoad (s : State) : State :=
  let s := (s.fput Reg.OTP_STATUS_CVALID (mask4 s.crecValid)).fput Reg.OTP_STATUS_DKEY (mask4 s.dkeyUsable)
  let s := (s.fput Reg.OTP_STATUS_ROOT (mask4 s.rootUsable)).fput Reg.OTP_SVN_DPI s.dpiSvn
  let s := s.fput Reg.OTP_SVN_FW s.fwSvn
  match s.activeGen with
  | none => s
  | some g =>
    let o := 0x300 + 64 * g
    let s := (s.fput Reg.OTP_STATUS_ACTIVE g).fput Reg.OTP_STATUS_DEBUG (s.otpByte (o + 0xB))
    let s := (List.range 16).foldl (fun (s : State) i => s.wr (Reg.OTP_CREC_n i) (BitVec.ofNat 32 (s.otpLe 4 (o + 4 * i)))) s
    let dram := s.otpByte (o + 0xA)
    let s := (s.fput Reg.MEM_CFG_SIZE (dram % 4)).fput Reg.MEM_CFG_WIDTH (dram / 4 % 2)
    let s := (s.fput Reg.MEM_CFG_RANKS (dram / 8 % 2)).fput Reg.MEM_CFG_SUBCH (dram / 16)
    s.fput Reg.HQE_PORTCFG_MODE (s.otpByte (o + 3) % 2)

/-- Start-up ends in Recovery mode (R587), for the reason that SYS_BOOT.FAIL shows. -/
def State.enterRecovery (s : State) (fail : Nat) : State :=
  (s.fput Reg.SYS_BOOT_MODE 3).fput Reg.SYS_BOOT_FAIL fail

/-- The dirty ranges of the fault area reported as deferred error records of cause Power loss, with the stamp kept there; which
writes they belonged to is not known (R491, R568). -/
def State.reportFaultArea (s : State) : State :=
  let first := s.host.deSeq
  let stamp := s.recov.stopStamp
  let s := s.recov.faultRanges.foldl (fun s r => s.createRecords r.1 r.2.1 r.2.2 4 0 0xFF 0xFF) s
  let fix (d : DeRec) : DeRec :=
    if d.seq < first then d else { d with stamp := stamp, arr := 0, ctrl := 0xFFFF, sqid := 0xFFFF, cid := 0xFFFF }
  (s.modHost (fun h => { h with de := h.de.map fix })).modRec (fun r => { r with faultRanges := [] })

/-- The keys of the ranges that need no authentication (R189): both lock enables 0. -/
def State.loadOpenKeys (s : State) : State :=
  s.xts.wrapped.foldl (fun s kw =>
    let r := s.lockRow kw.1
    if r.rle ∨ r.wle then s else s.loadKept kw.1 none) s

/-- Step 6: the control store, the start-up count, the fault area. -/
def State.startCores (s : State) (f : FwImage) : State :=
  let s := (s.loadSmipoent f.cs).fput Reg.TRS_LOCK_SLOCK 1
  let s := s.saveSettings (fun r => { r with starts := r.starts + 1 })
  let s := (s.wr Reg.EVR_BOOT (BitVec.ofNat 32 s.settings.starts)).fput Reg.EVR_LOCK_LOCK 1
  (s.reportFaultArea.loadOpenKeys).fput Reg.SYS_BOOT_STEP 6

/-- Step 9: the spin-up begins, or waits for VMOT or for the device to cool (R566, R601). -/
def State.spinUp (s : State) : State :=
  let s := s.senseVmot s.boot.env.vmot
  if s.boot.env.vmot < 9000 ∨ s.pow.coolStart.isSome then s.modPow (fun p => { p with lossTick := some 0 }) else s.fwStart

/-- Steps 7 to 9, with the DPI chosen, or No-DPI mode. -/
def State.startMedia (s : State) : State :=
  let k := s.settings.dpi
  let load (k : Nat) : State :=
    match s.dpiSlot k with
    | none => s
    | some d =>
      let s := ((s.fput Reg.SYS_BOOT_DPISLOT k).loadDpi d).reloadCustomer
      (((s.applyMode s.savedMode).fput Reg.SYS_BOOT_MODE 1).fput Reg.SYS_BOOT_STEP 8).spinUp
  if s.dpiSlotOk k then load k
  else if s.dpiSlotOk (1 - k) then load (1 - k)
  else ((s.fput Reg.SYS_BOOT_MODE 2).fput Reg.SYS_BOOT_FAIL 4).refreshHeadless

/-- Step 5 ended with the firmware of a slot (R599): `fallback` when it is not the slot that was to be activated. -/
def State.startFirmware (s : State) (slot : Nat) (fallback : Bool) : State :=
  match s.fwSlot slot with
  | none => s
  | some f =>
    let s := ((s.fput Reg.SYS_BOOT_FWSLOT slot).fput Reg.SYS_BOOT_STEP 5).modBoot (fun b => { b with fwRun := some f })
    let s := if s.settings.fw = slot ∧ s.settings.fwNext = slot then s
      else s.saveSettings (fun r => { r with fw := slot, fwNext := slot })
    let s := if fallback then s.fput Reg.SYS_BOOT_FALLBACK 1 else s
    let s := s.startCores f
    (if fallback then s.fwPost 599 .fault none [] else s).startMedia

/-- The start-up sequence from step 1 to the start of step 9 (R583, R587). -/
def State.startUp (s : State) : State :=
  let s := (s.otpLoad).fput Reg.XTS_STATUS_DRBGOK (if s.boot.env.drbgOk then 1 else 0)
  if s.activeGen.isNone then s.enterRecovery 1
  else
    let s := (s.fput Reg.MEM_STATUS_SRAMFILL 1).fput Reg.SYS_BOOT_STEP 2
    let bad := Nat.land s.boot.env.trainFail (s.fget Reg.MEM_CFG_SUBCH)
    if bad ≠ 0 then ((s.fput Reg.MEM_STATUS_TRAINFAIL bad).evt Reg.MEM_EVT_STAT_TRAINFAIL .fault).enterRecovery 2
    else
      let s := ((s.fput Reg.MEM_STATUS_TRAINED 1).fput Reg.MEM_STATUS_DRAMFILL 1).fput Reg.SYS_BOOT_STEP 4
      let k := s.settings.fwNext
      if s.fwSlotOk k then s.startFirmware k false
      else if s.fwSlotOk (3 - k) then s.startFirmware (3 - k) true
      else s.enterRecovery 3

/-! ### Reset sources (R581, R582, R614 to R617) -/

/-- Whether a retract runs on some actuator. -/
def State.retractRuns (s : State) : Bool := lanes.any (fun n => s.retracting n)

/-- A chip-wide reset that waits takes effect when no retract runs (R582); one that the clock monitor holds starts nothing yet
(R617). -/
def State.resetDue (s : State) : State :=
  match s.boot.resetCause with
  | none => s
  | some c =>
    if s.retractRuns then s
    else
      let s := s.resetAll c false false
      if s.boot.held = .off then s.startUp else s

/-- A chip-wide reset is asked for (R582): Force on all lanes, every actuator retracts, and the reset follows. A reset that
already waits keeps its cause. -/
def State.chipReset (s : State) (cause : Nat) : State :=
  if s.boot.resetCause.isSome then s
  else
    let s := (lanes.foldl (fun s n => s.forceWrites n true) s).raiseRetracts
    (s.modBoot (fun b => { b with resetCause := some cause })).resetDue

/-- POWER_ON_RESET: every rail is up in order, after a supply had fallen below its threshold (R581, R614): `vddio` when VDDIO was
among them. -/
def State.powerOnReset (s : State) (env : StartUp) (vddio : Bool) : State :=
  let s := s.modBoot (fun b => { b with env := env, held := .off })
  (s.resetAll 1 true vddio).startUp

/-- CHIP_RESET_PIN: SYS_RESET_N has been low for `low` fabric cycles, at least 1 µs of them; a reset that is held governs (R581, R633). -/
def State.resetPin (s : State) (env : StartUp) (low : Nat) : State :=
  if s.boot.held ≠ .off ∨ low < 1000 then s
  else (s.modBoot (fun b => { b with env := env })).chipReset 2

/-- A write of SYS_RST (R581): CHIP with KEY 0xC41F resets the part, from a core, permitted JTAG or the configuration owner. -/
def State.sysRst (s : State) (m : Master) (w : Word) : State :=
  if s.isOwner m ∧ w.getLsbD 0 ∧ wordBits w 31 16 = 0xC41F then s.chipReset 3 else s

/-- CLOCK_LOSS: the clock monitor sees no 25 MHz reference (R617): Force, retracts, a chip-wide reset held; a retract that runs
goes on, and nothing else follows (R633). -/
def State.clockLoss (s : State) : State :=
  if s.boot.held ≠ .off then s
  else (s.modBoot (fun b => { b with held := .clock })).chipReset 4

/-- REFERENCE_CLOCK_RESTORE: the reference has run for 1 ms: the held reset is released, when no retract runs, and the part starts
up. -/
def State.clockRestore (s : State) (env : StartUp) : State :=
  if s.boot.held ≠ .clock then s
  else
    let s := s.modBoot (fun b => { b with held := .off, env := env })
    if s.boot.resetCause.isSome then s.resetDue else s.startUp

/-- RAIL_SEQUENCE_VIOLATION: a rail (0 to 5 VDDIO to VDDQ) out of order, or VDDM late (6): its PMU_SEQERR bit is set and reset is
held until every rail has been brought up again in order (R614, R615). -/
def State.railViolation (s : State) (rail : Fin 7) : State :=
  let s := if s.boot.held = .rails then s
    else (s.resetAll 1 true false).modBoot (fun b => { b with held := .rails })
  s.fput ⟨Reg.PMU_SEQERR, if rail.val = 6 then 8 else rail.val, if rail.val = 6 then 8 else rail.val⟩ 1

/-- VDDA_BELOW_RETRACT_MIN: the retract amplifiers turn off, whatever phase remains (R616). -/
def State.retractLost (s : State) : State :=
  let s := lanes.foldl (fun s n =>
    if (s.pair.get n).retract = 0 then s
    else (s.modPair n (fun p => { p with retract := 0 })).enterLaw n 7 0 false) s
  s.resetDue

/-- RETRACT_PHASE_END, and the reset that waits for the last retract. -/
def State.retractEnd (s : State) (n : Fin 4) : State := (s.retractPhase n).resetDue

/-- FAULT_STOP_RESET_REQUEST: in Fault Stop, with CC.EN = 0 on every controller, firmware asks for a chip-wide reset (R492). -/
def State.faultStopReset (s : State) : State :=
  if s.recov.stopped ∧ s.controllers.all (fun m => ! (s.ctrl m).en) then s.chipReset 3 else s

/-- The deferred error records of the system area come back, the oldest first, up to 1,024 with those made since; the others are counted
and reported as lost (R146). -/
def State.restoreDe (s : State) : State :=
  let l := s.recov.sysDe ++ s.host.de
  let s := (s.modHost (fun h => { h with de := l.take 1024 })).refreshDe
  if l.length ≤ 1024 then s
  else
    let s := s.modHost (fun h => { h with overflow := true })
    (s.addc Reg.HQE_DE_LOST (l.length - 1024)).note Reg.HQE_DE_LOST .fault

/-- SYSTEM_AREA_READ_RETRY: the read of the system area (R583 step 12), at first and on each repeat: deferred error records come
back, remaps are replayed, the records of the fault area join the mirror (R146, R471, R512); a failure offers a Fault event, and the
next try comes 60 s later. -/
def State.systemArea (s : State) (ok : Bool) : State :=
  let early : Bool := match s.recov.sysTry with | some c => decide (s.cycle < c + 60 * 10 ^ 9) | none => false
  if s.fget Reg.SYS_BOOT_MODE ≠ 1 ∨ s.fget Reg.SYS_BOOT_STEP ≠ 11 ∨ early = true then s
  else if ¬ ok then (s.modRec (fun r => { r with sysTry := some s.cycle })).fwPost 583 .fault none []
  else
    let s := s.restoreDe
    let s := s.recov.sysRmt.foldl (fun s r => s.rmtStart r.1 r.2.1 r.2.2) s
    let s := s.recov.faultRecs.foldl (fun s r => s.mirrorPut r) s
    (s.modRec (fun r => { r with sysDe := [], sysRmt := [], faultRecs := [] })).bootStep 12

/-- DRBG_HEALTH_RETEST: the health tests of the entropy source repeated while DRBGOK is 0 (R189), with their result. -/
def State.drbgRetest (s : State) (ok : Bool) : State :=
  if s.drbgOk ∨ ¬ ok then s else s.fput Reg.XTS_STATUS_DRBGOK 1

/-! ### Running a command -/

/-- A command that the part takes unless a reset is held. -/
def State.run (s : State) (f : State → State) : Host.Outcome State Fault Refusal :=
  if s.boot.held = .off then (f s).done else .next s

end Sys2Proof.Machine
end

