-- ==== Sys2Proof/Machine/Chain.lean ====
section
/-!
DEFINITION. Sys2Proof/Machine/Chain.lean: the Viaduct chain (spec/17_viaduct_chain_and_ownership.md R519 to R537): links, the
head, frames and their forwarding, hop delay, enumeration, VSYNC and TIME. The frames served for the head (R538) are in
Machine/ChainReg.lean.
-/
namespace Sys2Proof.Machine

/-- A change of the VCH. -/
def State.modChain (s : State) (f : ChainSt → ChainSt) : State := { s with chain := f s.chain }

/-- Whether a port's receive link is Up: upstream (true) or downstream. -/
def State.linkUp (s : State) (up : Bool) : Bool := s.fbit (if up then Reg.VCH_STATUS_UPLINK else Reg.VCH_STATUS_DNLINK)

/-- The address of this unit: 0 while it has none. -/
def State.chainAddr (s : State) : Nat := s.fget Reg.VCH_ADDR_ADDR

/-- Whether this unit is the head. -/
def State.isHead (s : State) : Bool := s.fbit Reg.VCH_STATUS_HEAD

/-- The VCH sync state (R534): 0 None, 1 Acquire, 2 Locked, 3 Holdover, 4 Master. -/
def State.vchSync (s : State) : Nat := s.fget Reg.VCH_STATUS_SYNC

/-- A frame of this unit: SRC is its address, 0 for the head or an unaddressed unit (R525). -/
def State.ownFrame (s : State) (dst ty : Nat) (payload : List Byte) : Frame :=
  Frame.sealed ⟨dst, if s.isHead then 0 else s.chainAddr, ty, 0, 0, payload.length, payload, 0⟩

/-- A frame sent on a port whose link is Up. -/
def State.sendFrame (s : State) (up : Bool) (f : Frame) : State :=
  if s.linkUp up then s.emit (if up then .chainUp f else .chainDn f) else s

/-! ### Links and the head (R521, R523) -/

/-- The unit's address changes (R530): counted, offered, reported. -/
def State.setAddr (s : State) (a : Nat) : State :=
  if s.chainAddr = a then s
  else
    (((s.fput Reg.VCH_ADDR_ADDR a).bump Reg.VCH_ENUMS).evt Reg.VCH_EVT_STAT_ENUM .notice).vendorEvent 0xC4

/-- The unit stops being head (R521): a master leaves state Master (R534). -/
def State.headEnds (s : State) : State :=
  let s := s.fput Reg.VCH_STATUS_HEAD 0
  if s.vchSync = 4 then s.fput Reg.VCH_STATUS_SYNC 0 else s

/-- A change of HEADEN (R521): a unit that may not be head is none. -/
def State.headenChanged (s : State) : State :=
  (if s.isHead ∧ ¬ s.fbit Reg.VCH_CFG_HEADEN then s.headEnds else s).refreshHeadless

/-- A PROBE is sent upstream (R528). -/
def State.sendProbe (s : State) : State :=
  if ¬ s.linkUp true then s
  else (s.modChain (fun c => { c with probeAt := some s.cycle })).sendFrame true (s.ownFrame 0 3 [])

/-- The presence input of a port, VIA_UPIN_N or VIA_DPIN_N, as VCH_STATUS shows it (R520, R551). No row brings it alone: DESIGN CHOICE, the
rows of the port's receive link do (notes/assumptions/24.md). -/
def State.chainPresence (s : State) (up present : Bool) : State :=
  s.fput (if up then Reg.VCH_STATUS_UPPRES else Reg.VCH_STATUS_DNPRES) (bitAt 0 present)

/-- CHAIN_LINK_UP: a receive link comes Up after 64 consecutive valid idle characters (R523). -/
def State.chainLinkUp (s : State) (up : Bool) (idles : Nat) (present : Bool) : State :=
  let s := s.chainPresence up present
  if s.linkUp up ∨ idles < 64 then s
  else
    let s := s.fput (if up then Reg.VCH_STATUS_UPLINK else Reg.VCH_STATUS_DNLINK) 1
    let s := s.evt Reg.VCH_EVT_STAT_LINK .notice
    if up then (s.headEnds.refreshHeadless.modChain (fun c => { c with probedAt := s.cycle })).sendProbe
    else s.modChain (fun c => { c with dnEchoed := false, attachDue := false, enumDue := c.enumDue || s.isHead })

/-- CHAIN_LINK_DOWN: so many code violations within 256 characters, or so many fabric cycles without signal: a receive link goes Down after
16 violations or 1 µs (R523). -/
def State.chainLinkDown (s : State) (up : Bool) (violations silent : Nat) (present : Bool) : State :=
  let s := (s.chainPresence up present).addc Reg.VCH_CODEERR violations
  if ¬ s.linkUp up ∨ (violations < 16 ∧ silent < 1000) then s
  else
    let s := s.fput (if up then Reg.VCH_STATUS_UPLINK else Reg.VCH_STATUS_DNLINK) 0
    let s := s.evt Reg.VCH_EVT_STAT_LINK .notice
    if up then ((s.modChain (fun c => { c with probeAt := none, downAt := s.cycle })).ownLost 4).refreshHeadless
    else
      let s := s.modChain (fun c => { c with dnEchoed := false, attachDue := false })
      if s.isHead ∨ s.chainAddr = 0 then s
      else (s.sendFrame true (s.ownFrame 0 7 (leBytes s.chainAddr 4))).evt Reg.VCH_EVT_STAT_DETACH .notice

/-- HEAD_TIMER_EXPIRY: HEADEN is 1 and the upstream link has not been Up for 1,000 ms: the unit becomes head (R521, R529,
R534); firmware sets the set-point source of a master to Register (R535). -/
def State.headTimer (s : State) : State :=
  if ¬ s.fbit Reg.VCH_CFG_HEADEN ∨ s.linkUp true ∨ s.isHead ∨ s.cycle < s.chain.downAt + seconds 1 then s
  else
    let s := ((s.fput Reg.VCH_STATUS_HEAD 1).setAddr 1).ownLost 4
    let s := s.modChain (fun c => { c with enumDue := true })
    if s.fbit Reg.VCH_CFG_MASTER then
      let s := (s.fput Reg.VCH_STATUS_SYNC 4).modChain (fun c => { c with emitted := 0, timeDue := none })
      if s.fget Reg.SMC_SETPT_SRC = 0 then s else s.smcSetpt (s.fget Reg.SMC_SETPT_RPM)
    else s

/-- PROBE_TIMER: every 10 s while the upstream link stays Up (R528). -/
def State.probeTimer (s : State) : State :=
  if s.cycle < s.chain.probedAt + seconds 10 then s
  else (s.modChain (fun c => { c with probedAt := s.cycle })).sendProbe

/-- ECHO_TIMEOUT: no ECHO 2,000 fabric cycles after the PROBE. -/
def State.echoTimeout (s : State) : State :=
  match s.chain.probeAt with
  | some t => if t + 2000 < s.cycle then s.modChain (fun c => { c with probeAt := none }) else s
  | none => s

/-- ENUM_SEND: a head sends ENUM (R529). -/
def State.enumSend (s : State) : State :=
  if ¬ s.chain.enumDue ∨ ¬ s.isHead then s
  else
    (s.modChain (fun c => { c with enumDue := false })).sendFrame false (s.ownFrame 127 1 (leBytes 2 4 ++ leBytes 0 4))

/-- VCH_CTRL.ENUM written 1: enumeration starts, when head. -/
def State.vchEnum (s : State) : State := if s.isHead then s.modChain (fun c => { c with enumDue := true }) else s

/-- ATTACH_SEND: the downstream neighbour of an addressed unit is there (R531). -/
def State.attachSend (s : State) : State :=
  if ¬ s.chain.attachDue ∨ ¬ s.linkUp false then s
  else
    let s := s.modChain (fun c => { c with attachDue := false })
    ((s.sendFrame true (s.ownFrame 0 6 (leBytes s.chainAddr 4))).bump Reg.VCH_ATTACHES).evt Reg.VCH_EVT_STAT_ATTACH .notice

/-! ### Frames (R525 to R531) -/

/-- The LEN a frame type states; none for a reserved TYPE. -/
def frameLen (ty : Nat) : Option Nat :=
  if ty = 1 then some 8
  else if ty = 2 then some 4
  else if ty = 3 ∨ ty = 4 then some 0
  else if ty = 5 then some 24
  else if ty = 6 ∨ ty = 7 then some 4
  else if ty = 0x10 then some 4
  else if ty = 0x11 then some 8
  else if ty = 0x12 then some 16
  else if ty = 0x13 then some 8
  else none

/-- Whether the unit consumes a frame (R527): its own address, or, from upstream, broadcast; a head also has address 0 (R519). -/
def State.consumes (s : State) (up : Bool) (f : Frame) : Bool :=
  (decide (s.chainAddr ≠ 0) && decide (f.dst = s.chainAddr)) || (up && decide (f.dst = 127)) || (s.isHead && decide (f.dst = 0))

/-- A received frame that the unit does not keep to itself goes on in its direction (R527). -/
def State.forward (s : State) (up : Bool) (f : Frame) : State :=
  if f.ty = 1 ∧ up then s
  else if f.ty = 3 ∨ f.ty = 4 then s
  else if s.consumes up f ∧ ¬ (up ∧ f.dst = 127) then s
  else s.sendFrame (! up) f

/-- ENUM at a unit that is not head (R530). -/
def State.rxEnum (s : State) (f : Frame) : State :=
  if s.isHead then s
  else
    let next := (f.payload.getD 0 0#8).toNat
    let acc := leNat ((f.payload.drop 4).take 4)
    let s := if 127 ≤ next then (s.setAddr 0).fput Reg.VCH_STATUS_OVERFLOW 1 else s.setAddr next
    let s := if 127 ≤ next then s.evt Reg.VCH_EVT_STAT_OVERFLOW .notice else s
    let dly := s.fget Reg.VCH_UPDLY_DLY
    let s := (s.modChain (fun c => { c with accIn := acc })).fput Reg.VCH_ACCDLY_DLY (acc + dly)
    if s.chainAddr ≠ 0 ∧ s.linkUp false then
      let pay := leBytes (next + 1) 1 ++ (f.payload.drop 1).take 3 ++ leBytes (acc + dly + 68 * 16) 4
      s.sendFrame false (Frame.sealed { f with payload := pay })
    else
      s.sendFrame true (s.ownFrame 0 2 (leBytes (min (next - 1) 126) 1 ++ leBytes (if s.chainAddr = 0 then 1 else 0) 3))

/-- PROBE from downstream (R528): ECHO exactly 200 fabric cycles after it; the neighbour of an addressed unit is then
attached, once for each time its link comes Up (R531). -/
def State.rxProbe (s : State) : State :=
  let due := ! s.chain.dnEchoed && decide (s.chainAddr ≠ 0) && ! s.isHead
  (if s.linkUp false then s.emit (.chainEcho (s.cycle + 200) (s.ownFrame 0 4 [])) else s).modChain (fun c => { c with dnEchoed := true, attachDue := c.attachDue || due })

/-- ECHO from upstream (R528). -/
def State.rxEcho (s : State) : State :=
  match s.chain.probeAt with
  | none => s
  | some t =>
    let rtt := s.cycle - t
    let s := s.modChain (fun c => { c with probeAt := none })
    if 2000 < rtt then s
    else
      let s := s.fput Reg.VCH_UPDLY_DLY (8 * (rtt - 200))
      s.fput Reg.VCH_ACCDLY_DLY (s.chain.accIn + s.fget Reg.VCH_UPDLY_DLY)

/-- TIME (R537): after an accepted VSYNC, with no TIME between them, the stamps are latched. -/
def State.rxTime (s : State) (f : Frame) : State :=
  if ¬ s.chain.timeOk then s
  else
    s.modChain (fun c =>
      { c with timeOk := false, tref := (leNat (f.payload.take 8), leNat ((f.payload.drop 8).take 8), c.ownVsync) })

/-- ATTACH or DETACH at a head (R529). -/
def State.rxAttach (s : State) (attach : Bool) : State :=
  let s := s.modChain (fun c => { c with enumDue := true })
  if attach then (s.bump Reg.VCH_ATTACHES).evt Reg.VCH_EVT_STAT_ATTACH .notice else s.evt Reg.VCH_EVT_STAT_DETACH .notice

/-- A frame arrives on a port whose link is Up (R526, R527): one with a wrong CRC, a reserved TYPE or another LEN is dropped and
counted; the others are forwarded, consumed, or both. `serve` handles those that R538 answers. -/
def State.rxFrame (s : State) (up : Bool) (f : Frame) (serve : State → State) : State :=
  if ¬ s.linkUp up then s
  else if ¬ f.crcOk then s.bump Reg.VCH_CRCERR
  else if frameLen f.ty ≠ some f.len ∨ f.payload.length ≠ f.len then s.bump Reg.VCH_RXDROP
  else
    let s := s.forward up f
    if f.ty = 3 then (if up then s else s.rxProbe)
    else if f.ty = 4 then (if up then s.rxEcho else s)
    else if ¬ s.consumes up f then s
    else if f.ty = 1 then (if up then s.rxEnum f else s)
    else if f.ty = 2 then (if s.isHead then s.fput Reg.VCH_ADDR_COUNT (f.payload.getD 0 0#8).toNat else s)
    else if f.ty = 5 then (if up then s.rxTime f else s)
    else if f.ty = 6 ∨ f.ty = 7 then (if s.isHead then s.rxAttach (decide (f.ty = 6)) else s)
    else if 0x10 ≤ f.ty ∧ f.ty ≤ 0x12 ∧ up ∧ f.dst = s.chainAddr then serve s
    else s

/-! ### VSYNC and TIME (R532 to R537) -/

/-- The compensated arrival of a VSYNC detected in this cycle (R533). -/
def State.vsyncArrival (s : State) : Nat := (16 * s.cycle + 8 - s.fget Reg.VCH_ACCDLY_DLY) / 16

/-- The Rev-Angle Stamp of G at a cycle. -/
def State.stampAt (s : State) (cycle : Nat) : Stamp :=
  let p := (revLen s.piers : Int)
  let x := s.gAt (cycle * 2 ^ 16)
  (((s.atb.rev : Int) + x / p) % (2 ^ 32 : Int)).toNat * 2 ^ 32 + (x % p).toNat

/-- A pulse accepted (R534): P and t_last, the count, and the hand-off to the ATB and the SMC. -/
def State.vsyncAccepted (s : State) (arrival period : Nat) : State :=
  let own := s.stampAt arrival
  let s := (((s.fput Reg.VCH_STATUS_SYNC 2).wr Reg.VCH_PERIOD (BitVec.ofNat 32 period)).bump Reg.VCH_SYNCACC).modChain
    (fun c => { c with tLast := arrival, winK := 1, rejRun := 0, ownVsync := own, timeOk := true })
  (s.smcVsync arrival).atbVsync arrival

/-- A rejection (R534): the eighth in a run ends in Holdover. -/
def State.vsyncRejected (s : State) : State :=
  let s := (s.bump Reg.VCH_SYNCREJ).modChain (fun c => { c with rejRun := c.rejRun + 1 })
  if s.chain.rejRun < 8 then s
  else
    let s := ((s.fput Reg.VCH_STATUS_SYNC 3).bump Reg.VCH_HOLDS).modChain (fun c => { c with rejRun := 0, winK := 1 })
    (s.evt Reg.VCH_EVT_STAT_HOLD .notice).smcSyncHoldover

/-- The acceptance rules of a received VSYNC (R534). -/
def State.vsyncJudge (s : State) (arrival : Nat) : State :=
  let st := s.vchSync
  let c := s.chain
  let again (s : State) : State := s.modChain (fun c => { c with tLast := arrival })
  if st = 0 then again (s.fput Reg.VCH_STATUS_SYNC 1)
  else if st = 1 ∨ st = 3 then
    let i := arrival - c.tLast
    if 8166667 ≤ i ∧ i ≤ 11333333 then s.vsyncAccepted arrival i else again s
  else if st = 2 then
    let p := (s.rd Reg.VCH_PERIOD).toNat
    let mid := c.tLast + c.winK * p
    if mid ≤ arrival + p / 50 ∧ arrival ≤ mid + p / 50 then
      if c.winK = 1 then s.vsyncAccepted arrival (arrival - c.tLast)
      else s.modChain (fun c => { c with tLast := arrival, winK := 1 })
    else s.vsyncRejected
  else s

/-- VSYNC_RECEIVE: K28.1 on the upstream port: it will be forwarded, and is judged. -/
def State.vsyncReceive (s : State) : State :=
  if ¬ s.linkUp true then s
  else (s.modChain (fun c => { c with fwd := c.fwd ++ [s.cycle] })).vsyncJudge s.vsyncArrival

/-- VSYNC_FORWARD: the oldest pulse leaves downstream, 48 to 87 fabric cycles after its detection (R532). -/
def State.vsyncForward (s : State) : State :=
  match s.chain.fwd with
  | [] => s
  | t :: rest =>
    if s.cycle < t + 48 then s
    else
      let s := s.modChain (fun c => { c with fwd := rest })
      if s.linkUp false then s.emit .vsyncDn else s

/-- VSYNC_WINDOW_CLOSE: a window of state Locked closes with no VSYNC (R534). -/
def State.vsyncWindowClose (s : State) : State :=
  let p := (s.rd Reg.VCH_PERIOD).toNat
  if s.vchSync ≠ 2 ∨ s.vsyncArrival ≤ s.chain.tLast + s.chain.winK * p + p / 50 then s
  else (s.modChain (fun c => { c with winK := c.winK + 1 })).vsyncRejected

/-- The Timestamp feature now, in ms; 0 when it has not been set (R537). -/
def State.timestampNow (s : State) : Nat :=
  match s.host.timestamp with
  | some (v, at') => v + (s.cycle - at') / 10 ^ 6
  | none => 0

/-- Whether the advance of G in this cycle reached or passed ATB_SYNC_OFF (R73). -/
def State.syncCrossed (s : State) : Bool :=
  let a := s.atb.gPrev / 2 ^ 20
  let d := angleFwd s.piers a (s.rd Reg.ATB_SYNC_OFF).toNat
  decide (0 < d) && decide (d ≤ angleFwd s.piers a (s.atb.gCyc / 2 ^ 20))

/-- VSYNC_EMIT: in state Master G has crossed ATB_SYNC_OFF in this cycle (R73, R535): the pulse leaves, once, and TIME is due
(R537). -/
def State.vsyncEmit (s : State) : State :=
  if s.vchSync ≠ 4 ∨ ¬ s.syncCrossed ∨ s.atb.hit.any (fun t => decide (t = (5, 0))) then s
  else
    let s := s.trigHit 5 0
    let s := if s.linkUp false then s.emit .vsyncDn else s
    s.modChain (fun c => { c with emitted := c.emitted + 1, timeDue := some (s.stamp, s.timestampNow) })

/-- TIME_SEND: the master sends TIME after the VSYNC it emitted (R537). -/
def State.timeSend (s : State) : State :=
  match s.chain.timeDue with
  | none => s
  | some (stamp, ms) =>
    if s.vchSync ≠ 4 then s
    else
      let pay := leBytes stamp 8 ++ leBytes ms 8 ++ leBytes s.chain.emitted 4 ++ leBytes 0 4
      (s.modChain (fun c => { c with timeDue := none })).sendFrame false (s.ownFrame 127 5 pay)

/-- Log page 0xC4 (R549). -/
def State.chainPage (s : State) : List Byte :=
  let w (r : Nat) : List Byte := leBytes (s.rd r).toNat 4
  let (a, b, c) := s.chain.tref
  leBytes 1 2 ++ leBytes s.chainAddr 1 ++ leBytes (s.fget Reg.VCH_ADDR_COUNT) 1 ++ w Reg.VCH_STATUS ++ w Reg.VCH_UPDLY ++
    w Reg.VCH_ACCDLY ++ w Reg.VCH_PERIOD ++ w Reg.ATB_SYNC_OFF ++ w Reg.ATB_SYNC_ERR ++ leBytes 0 4 ++ leBytes a 8 ++
    leBytes b 8 ++ leBytes c 8 ++ (List.range 9).flatMap (fun i => w (Reg.VCH_SYNCACC + 4 * i)) ++ List.replicate 36 0#8

/-! ### BAR2 (R552) -/

/-- What a host read of BAR2 returns: the image of OWN_STATE, the RESULT of the function's last action, log page 0xC4; other offsets and
the write-only registers read 0. -/
def State.bar2Read (s : State) (m : Fin 2) (off : Nat) : Word :=
  if off = 0 then s.rd Reg.OWN_STATE
  else if off = 0x10 then BitVec.ofNat 32 (256 * s.own.barResult.get m)
  else if 0x1000 ≤ off ∧ off < 0x1080 ∧ off % 4 = 0 then BitVec.ofNat 32 (leNat ((s.chainPage.drop (off - 0x1000)).take 4))
  else 0#32

/-- What a host write of BAR2 does: the halves of TOKEN, and ACTION. -/
def State.bar2Write (s : State) (m : Fin 2) (off w : Nat) : State :=
  let w := w % 2 ^ 32
  if off = 4 then s.modOwn (fun o => { o with barToken := o.barToken.set m (o.barToken.get m / 2 ^ 32 * 2 ^ 32 + w) })
  else if off = 8 then s.modOwn (fun o => { o with barToken := o.barToken.set m (o.barToken.get m % 2 ^ 32 + w * 2 ^ 32) })
  else if off = 0xC then s.bar2Action m w
  else s

/-- BAR2_OWN_ACTION: an access of the host to BAR2 of function m. -/
def State.bar2 (s : State) (m : Fin 2) (off : Nat) (acc : BarAccess) : State :=
  if ¬ s.portOn m then s
  else
    match acc with
    | .read => s.emit (.barRead m off (s.bar2Read m off))
    | .write w => s.bar2Write m off w

/-- A read of VCH_TREF_MLO latches all six TREF registers (R551). -/
def State.trefLatch (s : State) : State :=
  let (a, b, c) := s.chain.tref
  let put (s : State) (lo hi x : Nat) : State := (s.wr lo (BitVec.ofNat 32 x)).wr hi (BitVec.ofNat 32 (x / 2 ^ 32))
  put (put (put s Reg.VCH_TREF_MLO Reg.VCH_TREF_MHI a) Reg.VCH_TREF_TLO Reg.VCH_TREF_THI b) Reg.VCH_TREF_OLO Reg.VCH_TREF_OHI c

end Sys2Proof.Machine
end

