-- ==== Sys2Proof/Machine/RegBus.lean ====
section
/-!
DEFINITION. Sys2Proof/Machine/RegBus.lean: a read and a write of the internal register space by a master (R14 to R25, R37 to R41):
which addresses are refused, what each access type does, and the registers whose write has an effect of its own.
-/
namespace Sys2Proof.Machine

/-- How an access ends, for the masters that are told (R18, R37, R39, R122, R538): done; no register there; not aligned; outside the
reach of the master; an RWO field and not the owner; refused to this master by the register's own rule; a value that is not
valid. -/
inductive BusEnd where
  | done | unassigned | misaligned | unreachable | notOwner | refused | invalid
  deriving DecidableEq, Repr

/-- Whether an address lies in the control store window (R35). -/
def inCs (a : Nat) : Bool := decide (0x41000000 ≤ a ∧ a < 0x41080000)

/-- The n for which a register of stride d, at b for n = 0, is at an address. -/
def laneOf (b d a : Nat) : Option (Fin 4) := lanes.find? (fun n => decide (a = b + d * n.val))

/-- A command on a register of a unit that the part has (R3, R123); the others ignore it. -/
def State.onUnit (s : State) (a : Nat) (f : State → State) : State := if s.portAbsent a ∨ s.unitOff a then s else f s

/-! ### Counters (R74, R123, R124, R154, R176, R189, R219, R266, R306, R333, R372, R392, R428, R456, R476, R517, R551, R578) -/

/-- k registers in a row. -/
def regsFrom (a k : Nat) : List Nat := (List.range k).map (fun i => a + 4 * i)

/-- The counters that a CNT_CLR register sets to 0, if there is one at the address. -/
def countersOf (a : Nat) : Option (List Nat) :=
  let per (b d : Nat) (f : Nat → List Nat) : Option (List Nat) := (laneOf b d a).map (fun n => f n.val)
  if a = Reg.ATB_CNT_CLR then some (regsFrom (Reg.ATB_MISSn 0) 16)
  else if a = Reg.HPXn_CNT_CLR 0 then some (regsFrom (Reg.HPXn_RECOV 0) 6)
  else if a = Reg.HPXn_CNT_CLR 1 then some (regsFrom (Reg.HPXn_RECOV 1) 6)
  else if a = Reg.HQE_CNT_CLR then some (Reg.HQE_CQ_LOST :: regsFrom Reg.HQE_STALL_CTX 6)
  else if a = Reg.RLT_CNT_CLR then some (regsFrom Reg.RLT_STALL 4)
  else if a = Reg.MSC_LEASE_CLR then some (regsFrom Reg.MSC_LEASE_CUT 4)
  else if a = Reg.XTS_CNT_CLR then some (regsFrom Reg.XTS_SECTENC 4)
  else if a = Reg.MSC_CNT_CLR then some (lanes.flatMap (fun n => regsFrom (Reg.MSC_DISPn n) 12))
  else if a = Reg.TRS_CNT_CLR then some (lanes.flatMap (fun n => regsFrom (Reg.TRSn_OPS n) 6))
  else if a = Reg.PIF_CNT_CLR then some (regsFrom Reg.PIF_SHK_LINCNT 4)
  else if a = Reg.AST_CNT_CLR then some (regsFrom (Reg.AST_LATEn 0) 8)
  else if a = Reg.SCE_CNT_CLR then some (lanes.flatMap (fun n => regsFrom (Reg.SCE_PAIRn_OVR n) 4))
  else if a = Reg.SMC_CNT_CLR then some (regsFrom Reg.SMC_STARTS 10)
  else if a = Reg.CXE_CNT_CLR then some (regsFrom Reg.CXE_INKIB 9)
  else if a = Reg.MEM_CNT_CLR then some (regsFrom Reg.MEM_SRAM_CE 10)
  else if a = Reg.EVR_CNT_CLR then some (regsFrom Reg.EVR_DROPQ 3)
  else if a = Reg.VCH_CNT_CLR then some (regsFrom Reg.VCH_SYNCACC 9)
  else if a = Reg.OWN_CNT_CLR then some (regsFrom Reg.OWN_CHANGES 2)
  else if a = Reg.PMU_CNT_CLR then some (regsFrom Reg.PMU_PEAKS 6)
  else
    match per (Reg.RWCn_CNT_CLR 0) 0x10000 (fun n => regsFrom (Reg.RWCn_SECT_RD n) 13) with
    | some l => some l
    | none =>
    match per (Reg.PAn_CNT_CLR 0) 0x1000 (fun n => Reg.PAn_FAULTS n :: regsFrom (Reg.PAn_INHi n 0) 9) with
    | some l => some l
    | none =>
    match per (Reg.SVDn_CNT_CLR 0) 0x1000 (fun n => regsFrom (Reg.SVDn_SAMPLES n) 6) with
    | some l => some l
    | none =>
    match per (Reg.VCDn_CNT_CLR 0) 0x1000 (fun n => regsFrom (Reg.VCDn_CLAMPS n) 4) with
    | some l => some l
    | none =>
    match per (Reg.MADn_CNT_CLR 0) 0x1000 (fun n => [Reg.MADn_CLAMPS n]) with
    | some l => some l
    | none => per (Reg.SRFn_CNT_CLR 0) 0x1000 (fun n => regsFrom (Reg.SRFn_CMP n) 9)

/-- What a CNT_CLR write sets beside the counters: the lowest free contexts (R124), the highest RLT use (R154), the highest slot use
(R219), the longest computations (R372); and the overruns that R562 has seen go with their counter. -/
def State.clearBeside (s : State) (a : Nat) : State :=
  if a = Reg.HQE_CNT_CLR then s.fput Reg.HQE_CTX_LOW_COUNT (s.fget Reg.HQE_CTX_FREE_COUNT)
  else if a = Reg.RLT_CNT_CLR then s.fput Reg.RLT_HIGH_COUNT (s.fget Reg.RLT_USED_COUNT)
  else if a = Reg.MSC_CNT_CLR then
    lanes.foldl (fun (s : State) (n : Fin 4) => s.fput (Reg.MSC_HIGHn_COUNT n) (s.fget (Reg.MSC_USEDn_COUNT n))) s
  else if a = Reg.SCE_CNT_CLR then (List.range 8).foldl (fun (s : State) (e : Nat) => s.fput (Reg.SCEn_CYC_MAX e) 0) s
  else
    match laneOf (Reg.RWCn_CNT_CLR 0) 0x10000 a with
    | some n => { s with pow := { s.pow with overSeen := s.pow.overSeen.modify n (fun x => (0, x.2)) } }
    | none => s

/-- A write of 1 to a CNT_CLR register; log page 0xC2 goes on counting (R332). -/
def State.counterClear (s : State) (a : Nat) (w : Word) : State :=
  match countersOf a with
  | some l =>
    if w.getLsbD 0 then ((l.foldl (fun s r => s.wr r 0#32) s).clearBeside a).setHealth (fun n => s.actHealth n) else s
  | none => s

/-! ### The control store window (R256, R257, R259) -/

/-- A read of the control store window: the stored word and its parity. -/
def State.csRead (s : State) (a : Nat) : Word :=
  let w := (a - 0x41000000) / 0x20
  let part := a % 0x20 / 4
  if part ≤ 3 then BitVec.ofNat 32 (s.csWord w / 2 ^ (32 * part))
  else if part = 4 then BitVec.ofNat 32 (s.csWord w / 2 ^ 128 % 2 ^ 16)
  else if part = 5 then BitVec.ofNat 32 (s.csWord w / 2 ^ 144 % 16)
  else 0#32

/-- A write of the control store window; the places that hold no writable bits change nothing. -/
def State.csBusWrite (s : State) (m : Master) (a : Nat) (v : Word) : State × BusEnd :=
  let w := (a - 0x41000000) / 0x20
  let part := a % 0x20 / 4
  if ¬ s.csWritable m w then (s.csRefused, .refused)
  else if part ≤ 3 then (s.csHold m w part v, .done)
  else if part = 4 then (s.csCommitWrite m w v, .done)
  else (s, .done)

/-! ### Writes with an effect of their own -/

/-- Registers that only the firmware cores and permitted JTAG write (R189, R267, R473, R517, R578). -/
def coreOnly (a : Nat) : Bool :=
  decide (a = Reg.XTS_KCTRL) || decide (Reg.XTS_CRED_n 0 ≤ a ∧ a < Reg.XTS_CRED_n 12) ||
    decide (Reg.XTS_BLOB_n 0 ≤ a ∧ a < Reg.XTS_BLOB_n 18) || decide (a = Reg.TRS_CS_CTRL) || decide (a = Reg.TRS_CENTRY_LO) ||
    decide (a = Reg.TRS_CENTRY_HI) || decide (Reg.MEM_FMR_CTRL ≤ a ∧ a ≤ Reg.MEM_FMR_ADDR_HI) || decide (a = Reg.EVR_POST_CTRL) ||
    decide (a = Reg.PMU_PSTATE)

/-- Registers whose write is kept for the configuration owner: those with RWO fields, and SYS_RST (R18, R581). -/
def ownerOnly (a : Nat) (r : RegRow) : Bool := r.hasRwo || decide (a = Reg.SYS_RST)

/-- Whether the lock that governs the RWL fields of a register is set (R17): its unit's LOCK, and for AST_LDLY_h that of PIF or
AST (R333). -/
def State.locked (s : State) (h : RegHit) : Bool :=
  match h.unit.lockOff with
  | some o => s.fbit ⟨h.unit.base + h.unit.stride * h.inst + o, 0, 0⟩ ||
      (decide (h.unit.base = Reg.AST_BASIC) && s.fbit Reg.PIF_LOCK_LOCK)
  | none => false

/-- A write of TRSn_CTRL (R266): ABORT, STOP, CLR, HOLD, STEP. -/
def State.trsCtrl (s : State) (n : Fin 4) (w : Word) : State :=
  let s := if w.getLsbD 0 then s.trsAbort n else s
  let s := if w.getLsbD 1 then s.trsStop n else s
  let s := if w.getLsbD 2 then s.trsClr n else s
  let s := s.trsHold n (w.getLsbD 3)
  if w.getLsbD 4 then s.trsStep n else s

/-- A write of SCEe_CTRL, on both engines of the pair (R343, R372). -/
def State.sceCtrl (s : State) (n : Fin 4) (w : Word) : State :=
  let s := if w.getLsbD 0 then s.sceApply n else s
  let s := if w.getLsbD 1 then s.sceResume n else s
  let s := if w.getLsbD 2 then s.sceForceRed n else s
  let s := if w.getLsbD 3 then s.sceLoad n else s
  if w.getLsbD 4 then s.sceUnload n else s

/-- A write of SRFn_CTRL by a master that may (R393): ESEL applies as written in the same write. DESIGN CHOICE: of several bits FENCE acts
first, then RESYNC, CORRUPT and SWAP. -/
def State.srfCtrl (s : State) (m : Master) (n : Fin 4) (w : Word) : State :=
  let e : Fin 2 := if w.getLsbD 0 then 1 else 0
  let s := s.fput (Reg.SRFn_CTRL_ESEL n) e.val
  let s := if w.getLsbD 4 then s.srfFence m n e else s
  let s := if w.getLsbD 3 then s.srfResync m n e else s
  let s := if w.getLsbD 5 then s.srfCorrupt m n e else s
  if w.getLsbD 2 then s.srfSwap m n else s

/-- A write of SMC_CTRL: a START that arrives with a STOP has no effect (R426). -/
def State.smcCtrl (s : State) (w : Word) : State :=
  if w.getLsbD 1 then s.smcStop else if w.getLsbD 0 then s.smcStart else s

/-- A write of ATB_CTRL: SRC, then FREE, else ACQ. -/
def State.atbCtrl (s : State) (w : Word) : State :=
  let s := s.fput Reg.ATB_CTRL_SRC (wordBits w 3 0)
  if w.getLsbD 8 then s.atbFree else if w.getLsbD 9 then s.atbAcq else s

/-- A write of SCE_PAIRn_INJ0: an injection begins or ends with EN (R367). -/
def State.injWrite (s : State) (n : Fin 4) (w : Word) : State :=
  let was := s.injOn n
  let on := w.getLsbD 8
  let s := s.fwWrite (Reg.SCE_PAIRn_INJ0 n) w
  if on ∧ ¬ was then s.injectStart n else if was ∧ ¬ on then s.injectEnd n else s

/-- A write of SVD_CAPu_CTRL: ARM, STOP (R368). -/
def State.capCtrl (s : State) (u : Fin 2) (w : Word) : State :=
  let s := if w.getLsbD 1 then s.captureCtrlStop u else s
  if w.getLsbD 0 then s.captureArm u else s

/-- A write of VCH_CTRL (R528, R529). -/
def State.vchCtrl (s : State) (w : Word) : State :=
  let s := if w.getLsbD 0 then s.sendProbe else s
  if w.getLsbD 1 then s.vchEnum else s

/-- The register of lane n, if any, whose write has an effect of its own. -/
def State.laneWrite (s : State) (m : Master) (a : Nat) (w : Word) : Option State :=
  match laneOf (Reg.TRSn_CTRL 0) 0x1000 a with
  | some n => some (s.trsCtrl n w)
  | none =>
  match laneOf (Reg.RWCn_SVWIN 0) 0x10000 a with
  | some n => some (s.svwinWrite n w)
  | none =>
  match laneOf (Reg.PAn_CTRL 0) 0x1000 a with
  | some n => some (s.forceWrites n (w.getLsbD 0))
  | none =>
  match laneOf (Reg.PAn_STATUS 0) 0x1000 a with
  | some n => some (s.paStatusWrite n w)
  | none =>
  match lanes.find? (fun (n : Fin 4) => decide (Reg.PAn_OP_IW n ≤ a ∧ a ≤ Reg.PAn_OP_AUX n) ||
      decide (a = Reg.AST_OPn_CTRL n) || decide (a = Reg.AST_OPn_MOD n)) with
  | some n => some (s.opRegWrite n a w)
  | none =>
  match lanes.find? (fun (n : Fin 4) => decide (a = Reg.SCEn_CTRL (engX n)) || decide (a = Reg.SCEn_CTRL (engX n + 1))) with
  | some n => some (s.sceCtrl n w)
  | none =>
  match laneOf (Reg.SCE_PAIRn_INJ0 0) 0x100 a with
  | some n => some (s.injWrite n w)
  | none =>
  match laneOf (Reg.SRFn_CTRL 0) 0x1000 a with
  | some n => some (s.srfCtrl m n w)
  | none => none

/-- The trigger whose ANGLE (false) or CTRL (true) register is at an address: lane (4 global) and index. -/
def triggerAt (a : Nat) : Option (Bool × Nat × Nat) :=
  let o := a % 0x10
  if a < 0x400B1000 ∨ 0x400B2200 ≤ a ∨ 4 < o then none
  else
    let lane := if a < 0x400B2000 then (a - 0x400B1000) / 0x400 else 4
    some (decide (o = 4), lane, if lane < 4 then a % 0x400 / 0x10 else (a - 0x400B2000) / 0x10)

/-- The register, if any, whose write has an effect of its own, with how the access ends. -/
def State.ownWrite (s : State) (m : Master) (a : Nat) (w : Word) : Option (State × BusEnd) :=
  let ok (t : State) : Option (State × BusEnd) := some (t, .done)
  if (countersOf a).isSome then ok (s.counterClear a w)
  else if a = Reg.SYS_RST then ok (s.sysRst m w)
  else if a = Reg.PMU_PSTATE then ok (s.pstateReqWrite m w)
  else if a = Reg.PMU_LIMIT then ok (s.fwWrite a w).refreshPower
  else if a = Reg.VCH_CTRL then ok (s.vchCtrl w)
  else if a = Reg.VCH_CFG then (if s.fbit Reg.VCH_LOCK_LOCK then ok s else ok (s.fwWrite a w).headenChanged)
  else if a = Reg.EVR_CTRL then ok (s.evrCtrl w)
  else if a = Reg.EVR_POST_CTRL then ok (s.evrPost m w)
  else if Reg.EVR_LIST_n_i 0 0 ≤ a ∧ a ≤ Reg.EVR_LIST_n_i 7 47 then
    ok (s.evrListWrite m ((a - Reg.EVR_LIST_n_i 0 0) / 0xC0) ((a - Reg.EVR_LIST_n_i 0 0) % 0xC0 / 4) w)
  else if Reg.MEM_RMT_D_n 0 ≤ a ∧ a ≤ Reg.MEM_RMT_D_n 31 then ok (s.rmtWrite m true ((a - Reg.MEM_RMT_D_n 0) / 4) w)
  else if Reg.MEM_RMT_S_n 0 ≤ a ∧ a ≤ Reg.MEM_RMT_S_n 15 then ok (s.rmtWrite m false ((a - Reg.MEM_RMT_S_n 0) / 4) w)
  else if a = Reg.XTS_KCTRL then ok (s.xtsKctrl m (wordBits w 3 0) (wordBits w 14 8) (wordBits w 22 16))
  else if Reg.XTS_CRED_n 0 ≤ a ∧ a ≤ Reg.XTS_CRED_n 11 then
    ok (s.modXts (fun x => { x with cred := sparseInsert ((a - Reg.XTS_CRED_n 0) / 4) w x.cred }))
  else if a = Reg.ATB_CTRL then ok (s.atbCtrl w)
  else if a = Reg.ATB_PIERS then ok (s.atbPiersWrite w.toNat)
  else if a = Reg.ATB_STATUS then ok (s.disagreeClear (wordBits w 15 12))
  else if a = Reg.ATB_SYNC_OFF then
    some (s.atbSyncOffWrite m w, if s.piers ≤ w.toNat / 2 ^ 22 then .invalid else .done)
  else if (Reg.ATB_NOMn 0 ≤ a ∧ a ≤ Reg.ATB_NOMn 3) ∨ (Reg.ATB_HEADn 0 ≤ a ∧ a ≤ Reg.ATB_HEADn 39) ∨
      (Reg.ATB_SKEWn_i 0 0 ≤ a ∧ a ≤ Reg.ATB_SKEWn_i 1 255) then ok (s.atbOffsetWrite a w)
  else if a = Reg.PIF_SHK_ACK then ok (s.shkAckWrite m (w.extractLsb' 0 2))
  else if a = Reg.SVD_CAPn_CTRL 0 then ok (s.capCtrl 0 w)
  else if a = Reg.SVD_CAPn_CTRL 1 then ok (s.capCtrl 1 w)
  else if a = Reg.SMC_CTRL then ok (s.smcCtrl w)
  else if a = Reg.SMC_SETPT then ok (s.smcSetpt w.toNat)
  else
    match triggerAt a with
    | some (ctrl, lane, i) => ok (s.trigWrite m ctrl lane i w)
    | none => (s.laneWrite m a w).map (fun t => (t, .done))

/-- A write of a register without an effect of its own (R15, R17, R19): each field under its access type. A register of an engine
other than STATUS and CYC is written on both engines of the pair (R343). A cause that arose in this fabric cycle keeps its bit (R44). -/
def State.plainWrite (s : State) (m : Master) (h : RegHit) (a : Nat) (w : Word) : State :=
  let put (s : State) (a : Nat) : State :=
    let old := (s.rd a).toNat
    s.wr a (BitVec.ofNat 32 (Nat.lor (h.row.written (s.isOwner m) (s.locked h) old w.toNat) (Nat.land old (s.arisen a))))
  match scePair a with
  | some _ => put (put s a) (if a / 0x1000 % 2 = 0 then a + 0x1000 else a - 0x1000)
  | none => put s a

/-- A write that reaches a register: BLOCK_BASIC (R23), an expert register (R21), one with an effect of its own, or a plain one. -/
def State.regWrite (s : State) (m : Master) (h : RegHit) (a : Nat) (w : Word) : State × BusEnd :=
  if h.unit.basicOff = some h.row.off then
    let (t, ok) := s.basicWrite a w.toNat
    (t, if ok then .done else .invalid)
  else
    match basicOf a with
    | some b => (s.expertWrite a b w, .done)
    | none =>
      match s.ownWrite m a w with
      | some r => r
      | none => (s.plainWrite m h a w, .done)

/-- A write of a master (R14, R15, R35 to R41), and how it ends: to the register space, to the control store window, or, from a core
or permitted JTAG, to SRAM or DRAM (R39). -/
def State.busWrite (s : State) (m : Master) (a : Nat) (w : Word) : State × BusEnd :=
  if inMemory a then (if s.coreOrJtag m then (s.seenStore a (leBytes w.toNat 4), .done) else (s, .unreachable))
  else if a % 4 ≠ 0 then (s.refusedAccess m a false true, .misaligned)
  else if inCs a then s.csBusWrite m a w
  else
    match findReg a with
    | none => (s.refusedAccess m a true true, .unassigned)
    | some h =>
      if s.portAbsent a ∨ s.unitOff a then (s, .done)
      else if coreOnly a ∧ ¬ s.coreOrJtag m then (s, .refused)
      else if ownerOnly a h.row ∧ ¬ s.isOwner m then (s, .notOwner)
      else s.regWrite m h a w

/-- The side effects of a read: ATB_ANGLE, HQE_ARRIVAL_LO, SVDn_POS_LO and VCH_TREF_MLO latch what goes with them (R77, R155, R372,
R551). -/
def State.readLatch (s : State) (a : Nat) : State :=
  if a = Reg.ATB_ANGLE then s.wr Reg.ATB_REV (BitVec.ofNat 32 s.atb.rev)
  else if a = Reg.HQE_ARRIVAL_LO then s.wr Reg.HQE_ARRIVAL_HI (BitVec.ofNat 32 ((s.host.nextArr - 1) / 2 ^ 32))
  else if a = Reg.VCH_TREF_MLO then s.trefLatch
  else
    match laneOf (Reg.SVDn_POS_LO 0) 0x1000 a with
    | some n => s.fput (Reg.SVDn_POS_HI_X n) ((s.pair.get n).sampX / 2 ^ 32 % 16).toNat
    | none => s

/-- A read of a master of the register space, the control store window, or, by a core or permitted JTAG, SRAM or DRAM (R39): the value,
and how it ends. -/
def State.busRead (s : State) (m : Master) (a : Nat) : State × Word × BusEnd :=
  if inMemory a then
    (if s.coreOrJtag m then (s, BitVec.ofNat 32 (s.seenLe 4 a), .done) else (s, 0#32, .unreachable))
  else if a % 4 ≠ 0 then (s.refusedAccess m a false false, 0#32, .misaligned)
  else if inCs a then (s, s.csRead a, .done)
  else
    match findReg a with
    | none => (s.refusedAccess m a true false, 0#32, .unassigned)
    | some _ =>
      let s := s.onUnit a (fun s => s.readLatch a)
      (s, s.view a, .done)

/-! ### The rows of register accesses -/

/-- A write that the table counts as another row's leaves the state as it is. -/
def State.busRow (s : State) (m : Master) (a : Nat) (w : Word) (isRow : Bool) : State := if isRow then (s.busWrite m a w).1 else s

/-- Whether a register has a write of its own kind: BLOCK_BASIC, expert, lock, CNT_CLR. -/
def regKind (a : Nat) : Nat :=
  match findReg a with
  | none => 0
  | some h =>
    if h.unit.basicOff = some h.row.off then 2
    else if h.row.expert then 3
    else if h.unit.lockOff = some h.row.off then 4
    else if (countersOf a).isSome then 5
    else 1

/-- REGISTER_WRITE: a write of any register that is none of the kinds with a row of their own, or of memory (R39). -/
def State.registerWrite (s : State) (m : Master) (a : Nat) (w : Word) : State :=
  s.busRow m a w ((decide (a % 4 = 0) && decide (regKind a = 1)) || inMemory a)

/-- UNASSIGNED_ACCESS: a read returns 0. -/
def State.badAccess (s : State) (m : Master) (a : Nat) (write isRow : Bool) : State :=
  if ¬ isRow then s
  else if write then (s.busWrite m a 0#32).1
  else (s.busRead m a).1.emit (.regRead 0#32)

/-- MISALIGNED_ACCESS: an access that is not an aligned one of 32 bits (R14): refused, but in SRAM and DRAM, which are no register
windows: there it is an access of that many bytes (R39). -/
def State.oddAccess (s : State) (m : Master) (a bytes : Nat) (write : Bool) (v : Nat) : State :=
  if a % 4 = 0 ∧ bytes = 4 then s
  else if inMemory a then
    if ¬ s.coreOrJtag m then (if write then s else s.emit (.regRead 0#32))
    else if write then s.seenStore a (leBytes v bytes)
    else s.emit (.memRead a ((List.range bytes).map (fun i => s.seenByte (a + i))))
  else if write then s.refusedAccess m a false true
  else (s.refusedAccess m a false false).emit (.regRead 0#32)

/-- Whether an aligned address names nothing that a master can reach (R37). -/
def unassigned (a : Nat) : Bool := decide (a % 4 = 0) && (findReg a).isNone && ! inMemory a && ! inCs a

/-- A read row: the value goes to the master. -/
def State.readRow (s : State) (m : Master) (a : Nat) : State :=
  let (t, v, _) := s.busRead m a
  t.emit (.regRead v)

end Sys2Proof.Machine
end

