-- ==== Sys2Proof/Machine/Admin.lean ====
section
/-!
DEFINITION. Sys2Proof/Machine/Admin.lean: the standard admin commands (spec/03_host_queues.md R92 to R94, R103, R114 to R118;
spec/04_ordering_and_errors.md R138, R140, R147; spec/05_namespaces_zones_media_map.md R156 to R160, R170, R186 to R188;
spec/18_power_thermal_modes.md R553, R554, R567, R576, R577): queues, Identify, features, events, namespaces, Format, Sanitize,
Security and Directives. Layouts of NVMe structures are those of NVMe 2.0 Base and the Zoned Namespace Command Set
(notes/assumptions/31.md).
-/
namespace Sys2Proof.Machine

/-! ### Statuses of queue, feature and log handling (R94, R116, R119; R152: DNR = 1, More = 0) -/

/-- A command specific status. -/
def St.specific (sc : Nat) : Status := ⟨1, sc, true, false⟩
/-- Completion Queue Invalid. -/
def St.cqInvalid : Status := St.specific 0x00
/-- Invalid Queue Identifier. -/
def St.qidInvalid : Status := St.specific 0x01
/-- Invalid Queue Size. -/
def St.qsizeInvalid : Status := St.specific 0x02
/-- Asynchronous Event Request Limit Exceeded. -/
def St.aerLimit : Status := St.specific 0x05
/-- Invalid Interrupt Vector. -/
def St.vectorInvalid : Status := St.specific 0x08
/-- Invalid Log Page. -/
def St.logInvalid : Status := St.specific 0x09
/-- Invalid Queue Deletion. -/
def St.queueDeletion : Status := St.specific 0x0C
/-- Feature Identifier Not Saveable. -/
def St.notSaveable : Status := St.specific 0x0D
/-- Namespace Already Attached. -/
def St.alreadyAttached : Status := St.specific 0x18
/-- Namespace Not Attached. -/
def St.notAttached : Status := St.specific 0x1A
/-- Controller List Invalid. -/
def St.ctrlListInvalid : Status := St.specific 0x1C

/-! ### Queues (R92, R94, R140) -/

/-- What R94 checks of both kinds of creation, in the order of its table; `used`: the identifier is in use. -/
def State.queueCheck (s : State) (c : Ctx) (cq used : Bool) : Option Status :=
  let k := s.ctrl c.ctrl
  let qid := wordBits c.sqe.cdw10 15 0
  let size := wordBits c.sqe.cdw10 31 16
  if k.iosqes ≠ 6 ∨ k.iocqes ≠ 4 then some St.qsizeInvalid
  else if qid = 0 ∨ s.granted cq false c.ctrl < qid ∨ used then some St.qidInvalid
  else if size = 0 ∨ 0x3FFF < size then some St.qsizeInvalid
  else if ¬ c.sqe.cdw11.getLsbD 0 then some St.invalidField
  else none

/-- CREATE_IO_SQ. DESIGN CHOICE (notes/assumptions/34.md): a CQID of 0, which names the admin completion queue, is answered with
Completion Queue Invalid. -/
def State.createSq (s : State) (a : Nat) : State :=
  s.adm 0x01 a (fun c =>
    let qid := wordBits c.sqe.cdw10 15 0
    let cqid := wordBits c.sqe.cdw11 31 16
    match s.queueCheck c false (s.sq c.ctrl qid).isSome with
    | some st => s.endWith a st
    | none =>
      if cqid = 0 ∨ (s.cq c.ctrl cqid).isNone then s.endWith a St.cqInvalid
      else
        (s.modHost (fun h => { h with sqs := h.sqs ++
          [⟨c.ctrl, qid, wordBits c.sqe.cdw10 31 16 + 1, 0, 0, cqid, wordBits c.sqe.cdw11 2 1⟩] })).endOk a 0)

/-- CREATE_IO_CQ. -/
def State.createCq (s : State) (a : Nat) : State :=
  s.adm 0x05 a (fun c =>
    let qid := wordBits c.sqe.cdw10 15 0
    let iv := wordBits c.sqe.cdw11 31 16
    match s.queueCheck c true (s.cq c.ctrl qid).isSome with
    | some st => s.endWith a st
    | none =>
      if s.vectors ≤ iv then s.endWith a St.vectorInvalid
      else
        (s.modHost (fun h => { h with cqs := h.cqs ++
          [⟨c.ctrl, qid, wordBits c.sqe.cdw10 31 16 + 1, 0, 0, true, iv, c.sqe.cdw11.getLsbD 1⟩] })).endOk a 0)

/-- DELETE_IO_SQ (R140): unfetched entries are discarded; uncommitted commands end with Command Aborted due to SQ Deletion; the
completion of the deletion waits for theirs (`State.deleteWaits`). -/
def State.deleteSq (s : State) (a : Nat) : State :=
  s.adm 0x00 a (fun c =>
    let qid := wordBits c.sqe.cdw10 15 0
    if qid = 0 ∨ (s.sq c.ctrl qid).isNone then s.endWith a St.qidInvalid
    else
      let gone := s.host.ctxs.filter (fun x => decide (x.ctrl = c.ctrl) && decide (x.sqid = qid) && ! s.pastCommit x)
      let s := s.modHost (fun h => { h with sqs := h.sqs.filter (fun q => ! (decide (q.ctrl = c.ctrl) && decide (q.qid = qid))) })
      let s := gone.foldl (fun s x => s.endEarly x St.sqDeleted) s
      (s.endOk a 0).refreshFetch)

/-- DELETE_IO_CQ (R94). A submission queue under deletion still uses its completion queue while commands of it have entries to
post. -/
def State.deleteCq (s : State) (a : Nat) : State :=
  s.adm 0x04 a (fun c =>
    let qid := wordBits c.sqe.cdw10 15 0
    if qid = 0 ∨ (s.cq c.ctrl qid).isNone then s.endWith a St.qidInvalid
    else if s.host.sqs.any (fun q => decide (q.ctrl = c.ctrl) && decide (q.cqid = qid)) ∨
        s.host.ctxs.any (fun x => decide (x.ctrl = c.ctrl) && decide (x.cqid = qid) && ! x.isAdmin) then
      s.endWith a St.queueDeletion
    else
      (s.modHost (fun h => { h with cqs := h.cqs.filter (fun q => ! (decide (q.ctrl = c.ctrl) && decide (q.qid = qid))) })).endOk a 0)

/-- ABORT: it aborts nothing (R138). -/
def State.abortCmd (s : State) (a : Nat) : State := s.adm 0x08 a (fun _ => s.endOk a 1)

/-- ASYNC_EVENT_REQUEST: an event that waits completes it; otherwise it is outstanding, at most AERL + 1 of them (R114, R118). -/
def State.eventRequest (s : State) (a : Nat) : State :=
  s.adm 0x0C a (fun c =>
    let k := s.ctrl c.ctrl
    match k.events with
    | (dw, _) :: rest => (s.modCtrl c.ctrl (fun k => { k with events := rest })).endOk a dw
    | [] =>
      if 8 ≤ k.aers.length then s.endWith a St.aerLimit
      else (s.modCtx a (fun c => { c with started := true })).modCtrl c.ctrl (fun k => { k with aers := k.aers ++ [a] }))

/-! ### Identify (R100, R103, R106, R109, R114 to R116, R119, R120, R156, R157, R160, R170, R554, R567, R577, R598) -/

/-- A structure of k bytes with the fields given as (offset, size, value); every byte that the specification does not state is a
free value of the part (notes/assumptions/4.md). -/
def idBytes (key k : Nat) (fields : List (Nat × Nat × Nat)) : List Byte :=
  (List.range k).map (fun i =>
    match fields.find? (fun f => decide (f.1 ≤ i) && decide (i < f.1 + f.2.1)) with
    | some f => BitVec.ofNat 8 (f.2.2 / 256 ^ (i - f.1))
    | none => Config.freeByte (2 ^ 64 + 4096 * key + i))

/-- Whether the boot ROM serves, with no namespace (R587). -/
def State.romMode (s : State) : Bool := decide (s.fget Reg.SYS_BOOT_MODE = 3)

/-- T_spin in µs (R554): SPINMAX × 1,024 reference spans, rounded up to 1,000 µs, of the DPI in force. -/
def State.tSpin (s : State) : Nat :=
  let spinMax := if s.dpiOn then bitsOf (s.dpi.le 10 4 0x60) 27 16 else s.fget Reg.SMC_HOVER_SPINMAX
  (spinMax * 1024 * 10000 + 1075199) / 1075200 * 1000

/-- NOPS, ENLAT and EXLAT of a power state (R554). -/
def State.psLatency (s : State) (k : Nat) : Nat × Nat × Nat :=
  match k with
  | 0 => (0, 0, 0)
  | 1 => (0, 200000, 300000)
  | 2 => (1, 21000000, 300000)
  | 3 => (1, 40000000, s.tSpin + 2000000)
  | _ => (1, 40100000, s.tSpin + 2100000)

/-- The power state descriptor k (R554). -/
def State.psd (s : State) (k : Nat) : List (Nat × Nat × Nat) :=
  let (nops, en, ex) := s.psLatency k
  let o := 2048 + 32 * k
  [(o, 2, s.dpi.maxPower k), (o + 3, 1, 2 * nops), (o + 4, 4, en), (o + 8, 4, ex), (o + 12, 1, k), (o + 13, 1, k), (o + 14, 1, k),
    (o + 15, 1, k), (o + 16, 2, 0), (o + 20, 2, 0)]

/-- Bytes of a zone unit and of a full band (R170). -/
def bandBytes : Nat := 65536 * 4096

/-- Identify Controller. -/
def State.idCtrl (s : State) (m : Fin 2) : List Byte :=
  let crec (i : Nat) : Nat := (s.rd (Reg.OTP_CREC_n (i / 4))).toNat / 256 ^ (i % 4) % 65536
  idBytes 1 4096 ([(0, 2, crec 4), (2, 2, crec 6), (72, 1, 3), (77, 1, 9), (78, 2, m.val), (88, 4, 30000000),
    (256, 2, 0x2F), (258, 1, 3), (259, 1, 7), (260, 1, 4), (262, 1, 0x3F), (263, 1, 4), (264, 1, 1), (265, 1, 0),
    (266, 2, s.tthr + 273), (268, 2, 398), (280, 16, s.dpi.allBands * bandBytes), (296, 16, s.unreservedBands * bandBytes),
    (319, 1, 1), (328, 4, 1), (516, 4, if s.romMode then 0 else 64), (520, 2, 0x7C), (525, 1, 7)] ++
    (List.range 5).flatMap s.psd)

/-- Identify Namespace, for both command sets. -/
def Ns.idNs (n : Ns) : List Byte :=
  idBytes 2 4096 [(0, 8, n.nsze), (8, 8, n.nsze), (25, 1, 0), (26, 1, 0), (27, 1, 0), (28, 1, 0), (29, 1, 0), (30, 1, 1),
    (48, 16, n.bands * bandBytes), (128, 2, 0), (130, 1, 12)]

/-- Identify Namespace of the Zoned Namespace Command Set (R160). -/
def Ns.idZns (n : Ns) : List Byte :=
  let c : Nat := if n.compressed then 1 else 0
  idBytes 3 4096 [(0, 2, c), (2, 2, 1), (4, 4, 0xFFF), (8, 4, if n.compressed then 0xFF else 0x3FF), (2816, 8, 65536), (2824, 1, c)]

/-- A list of numbers of sz bytes each, in a structure of 4,096 bytes that ends in zeros. -/
def idList (sz : Nat) (l : List Nat) : List Byte := (padTo 4096 (l.flatMap (fun x => leBytes x sz))).take 4096

/-- A number put into a list in rising order, keeping repeats out. -/
def sortNats (l : List Nat) : List Nat := l.foldl (fun acc k => insertNat k acc) []

/-- The NSIDs above a bound of the namespaces that meet a condition, at most 1,024. -/
def State.nsidsAbove (s : State) (lo : Nat) (f : Ns → Bool) : List Nat :=
  (sortNats ((s.ns.list.filter (fun n => f n && decide (lo < n.nsid))).map (·.nsid))).take 1024

/-- The command set identifier of a namespace. -/
def Ns.csi (n : Ns) : Nat := if n.zoned then 2 else 0

/-- The structure that a CNS value names, or a status (NVMe 2.0 Base; notes/assumptions/31.md). In CNS 06h of the NVM command set WZSL is
65,536 blocks, and DMRL, a byte, is the low byte of 256 (R103). -/
def State.identifyData (s : State) (c : Ctx) : Except Status (List Byte) :=
  let q := c.sqe
  let cns := wordBits q.cdw10 7 0
  let csi := wordBits q.cdw11 31 24
  let active (n : Ns) : Bool := n.att.get c.ctrl && (! n.zoned || decide ((s.ctrl c.ctrl).css = 6))
  let zeros : List Byte := List.replicate 4096 0#8
  let nsData (act : Bool) (f : Ns → Option (List Byte)) : Except Status (List Byte) :=
    if q.nsid = 0xFFFFFFFF ∧ act then .ok (idBytes 4 4096 [(25, 1, 0), (27, 1, 0), (28, 1, 0), (30, 1, 1), (128, 2, 0), (130, 1, 12)])
    else if q.nsid = 0 ∨ 64 < q.nsid ∨ s.romMode then .error St.invalidNs
    else
      match s.nspace q.nsid with
      | some n => if act ∧ ¬ active n then .ok zeros else (match f n with | some l => .ok l | none => .error St.invalidField)
      | none => .ok zeros
  if cns = 0x00 then nsData true (fun n => some n.idNs)
  else if cns = 0x01 then .ok (s.idCtrl c.ctrl)
  else if cns = 0x02 then .ok (idList 4 (s.nsidsAbove q.nsid active))
  else if cns = 0x03 then nsData true (fun n => some (idBytes (5 + n.nsid) 4096 []))
  else if cns = 0x05 then
    nsData true (fun n => if n.csi ≠ csi then none else some (if csi = 2 then n.idZns else idBytes 6 4096 []))
  else if cns = 0x06 then
    (if csi = 2 then .ok (idBytes 7 4096 [(0, 1, 8)]) else if csi = 0 then .ok (idBytes 8 4096 [(1, 1, 16), (3, 1, 0)]) else .error St.invalidField)
  else if cns = 0x07 then .ok (idList 4 (s.nsidsAbove q.nsid (fun n => active n && decide (n.csi = csi))))
  else if cns = 0x08 then nsData true (fun _ => some (idBytes 9 4096 [(1, 1, 1)]))
  else if cns = 0x10 then .ok (idList 4 (s.nsidsAbove q.nsid (fun _ => true)))
  else if cns = 0x11 then nsData false (fun n => some n.idNs)
  else if cns = 0x12 then
    match s.nspace q.nsid with
    | none => .error St.invalidNs
    | some n =>
      let l := (n.ctrls.map (fun (m : Fin 2) => m.val)).filter (fun k => decide (wordBits q.cdw10 31 16 ≤ k))
      .ok (idList 2 (l.length :: l))
  else if cns = 0x13 then
    let l := (s.controllers.map (fun (m : Fin 2) => m.val)).filter (fun k => decide (wordBits q.cdw10 31 16 ≤ k))
    .ok (idList 2 (l.length :: l))
  else if cns = 0x1A then .ok (idList 4 (s.nsidsAbove q.nsid (fun n => decide (n.csi = csi))))
  else if cns = 0x1C then .ok (padTo 4096 (leBytes 5 8))
  else .error St.invalidField

/-- IDENTIFY. -/
def State.identify (s : State) (a : Nat) : State :=
  s.adm 0x06 a (fun c =>
    match s.identifyData c with
    | .ok l => s.returnData a l
    | .error st => s.endWith a st)

/-! ### Features (R116) -/

/-- The features of R116. -/
def featureIds : List Nat := [0x01, 0x02, 0x04, 0x05, 0x06, 0x07, 0x08, 0x09, 0x0B, 0x0E, 0x81, 0x82, 0x83, 0xC0]

/-- Whether some block that mode record k names is in Expert mode or holds another PROFILE (R577). -/
def State.modeMixed (s : State) (k : Nat) : Bool :=
  (List.range 12).any (fun j =>
    decide (s.dpi.mode k j ≠ 0xFF) && (s.modeBlocks j).any (fun b =>
      s.fbit ⟨b, 8, 8⟩ || decide (s.fget ⟨b, 7, 4⟩ ≠ s.dpi.mode k j)))

/-- The mode reported for a Select value: 0 current, 1 default, 2 saved (R577). -/
def State.modeSel (s : State) (sel : Nat) : Nat :=
  if sel = 0 then s.pow.mode else if sel = 1 then s.dpi.modeDefault else s.savedMode

/-- Completion dword 0 of a Get Features: the current value, or, when `dflt`, the value after reset, which an unsaveable feature's
saved value also is. -/
def State.featureDw (s : State) (c : Ctx) (dflt : Bool) : Nat :=
  let q := c.sqe
  let k := if dflt then Ctrl.reset else s.ctrl c.ctrl
  let fid := wordBits q.cdw10 7 0
  if fid = 0x01 then k.ab + 2 ^ 8 * k.lpw + 2 ^ 16 * k.mpw + 2 ^ 24 * k.hpw
  else if fid = 0x02 then (if dflt then 0 else s.psReq)
  else if fid = 0x04 then
    let sel := wordBits q.cdw11 19 16
    let under := q.cdw11.getLsbD 20
    if dflt then (if under then 0 else if sel = 0 then s.tthr + 273 else 0xFFFF) else s.tempThreshold c.ctrl sel under
  else if fid = 0x05 then (if dflt then 0 else s.host.tler + bitAt 16 s.host.dulbe)
  else if fid = 0x06 then (if dflt ∨ s.host.wce then 1 else 0)
  else if fid = 0x07 then
    (match k.nq with | some (x, y) => (x - 1) + 2 ^ 16 * (y - 1) | none => 0)
  else if fid = 0x08 then k.coalThr + 2 ^ 8 * k.coalTime
  else if fid = 0x09 then wordBits q.cdw11 15 0 + bitAt 16 (k.cdVectors.contains (wordBits q.cdw11 15 0))
  else if fid = 0x0B then k.aec
  else if fid = 0x82 then k.resvMask
  else if fid = 0x83 then
    (match s.nspace q.nsid with | some n => if n.resv.ptpl ∧ ¬ dflt then 1 else 0 | none => 0)
  else 0

/-- Whether the fields of a Get or Set Features name what does not exist: a temperature sensor, a vector, a namespace. -/
def State.featureField (s : State) (c : Ctx) : Option Status :=
  let q := c.sqe
  let fid := wordBits q.cdw10 7 0
  if ¬ featureIds.contains fid then some St.invalidField
  else if fid = 0x04 ∧ (4 < wordBits q.cdw11 19 16 ∨ 1 < wordBits q.cdw11 21 20) ∧
      ¬ (q.opc = 0x09 ∧ wordBits q.cdw11 19 16 = 0xF ∧ wordBits q.cdw11 21 20 ≤ 1) then some St.invalidField
  else if fid = 0x09 ∧ s.vectors ≤ wordBits q.cdw11 15 0 then some St.invalidField
  else if fid = 0x83 ∧ (s.nspace q.nsid).isNone ∧ ¬ (q.opc = 0x09 ∧ q.nsid = 0xFFFFFFFF) then some St.invalidNs
  else none

/-- The Timestamp data structure (NVMe 2.0 Base): 48 bits of ms, then the origin: set by the host, or counted from reset. -/
def State.timestampBytes (s : State) : List Byte :=
  match s.host.timestamp with
  | some _ => leBytes (s.timestampNow % 2 ^ 48) 6 ++ leBytes 2 2
  | none => leBytes (s.cycle / 10 ^ 6 % 2 ^ 48) 6 ++ leBytes 0 2

/-- GET_FEATURES (R116, R577). -/
def State.getFeatures (s : State) (a : Nat) : State :=
  s.adm 0x0A a (fun c =>
    let q := c.sqe
    let fid := wordBits q.cdw10 7 0
    let sel := wordBits q.cdw10 10 8
    match s.featureField c with
    | some st => s.endWith a st
    | none =>
      if 3 < sel then s.endWith a St.invalidField
      else if sel = 3 then s.endOk a ((if fid = 0xC0 then 1 else 0) + (if fid = 0x83 then 2 else 0) + 4)
      else if fid = 0xC0 then
        let k := s.modeSel sel
        s.endOk a (k + bitAt 31 (decide (sel = 0) && s.modeMixed k))
      else if fid = 0x0E then s.returnData a (if sel = 0 then s.timestampBytes else leBytes 0 8)
      else if fid = 0x81 then
        s.returnData a (leBytes (if sel = 0 then (s.ctrl c.ctrl).hostId else 0) (if q.cdw11.getLsbD 0 then 16 else 8))
      else s.endOk a (s.featureDw c (decide (sel ≠ 0))))

/-- Whether a Set Features asks to save (SV). -/
def sqeSave (q : Sqe) : Bool := q.cdw10.getLsbD 31

/-- The status that ends a Set Features before it acts: a field, a feature that is not saveable (R116), a feature that a tunnelled
command does not reach (R539). -/
def State.setFeatureCheck (s : State) (c : Ctx) : Option Status :=
  let fid := wordBits c.sqe.cdw10 7 0
  if c.smbus ∧ fid ≠ 0x0E ∧ fid ≠ 0xC0 then some St.invalidField
  else
    match s.featureField c with
    | some st => some st
    | none => if sqeSave c.sqe ∧ fid ≠ 0xC0 then some St.notSaveable else none

/-- A Set Features of one of the identifiers `fids` that passes the checks: `f` is its effect. -/
def State.setFeature (s : State) (a : Nat) (fids : Nat → Bool) (f : Ctx → State) : State :=
  s.adm 0x09 a (fun c =>
    if ¬ fids (wordBits c.sqe.cdw10 7 0) then s
    else
      match s.setFeatureCheck c with
      | some st => s.endWith a st
      | none => f c)

/-- The features with a row of their own. -/
def ownFeature (fid : Nat) : Bool := decide (fid ∈ [0x01, 0x02, 0x05, 0x06, 0x07, 0x08, 0xC0])

/-- SET_FEATURES: the other features; `data` is the Timestamp or the Host Identifier. -/
def State.setFeatures (s : State) (a : Nat) (data : List Byte) : State :=
  s.setFeature a (fun fid => ! ownFeature fid) (fun c =>
    let q := c.sqe
    let fid := wordBits q.cdw10 7 0
    let put (f : Ctrl → Ctrl) : State := (s.modCtrl c.ctrl f).endOk a 0
    if fid = 0x04 then
      let sel := wordBits q.cdw11 19 16
      let off := if q.cdw11.getLsbD 20 then 16 else 0
      let v := wordBits q.cdw11 15 0
      put (fun k => { k with tempThr :=
        (if sel = 0xF then List.range 5 else [sel]).foldl (fun l x => sparseInsert (x + off) v l) k.tempThr })
    else if fid = 0x09 then
      let iv := wordBits q.cdw11 15 0
      let f (l : List Nat) : List Nat := if q.cdw11.getLsbD 16 then insertNat iv l else l.filter (fun x => decide (x ≠ iv))
      ((s.modCtrl c.ctrl (fun k => { k with cdVectors := f k.cdVectors })).coalesceSettle c.ctrl).endOk a 0
    else if fid = 0x0B then put (fun k => { k with aec := q.cdw11.toNat })
    else if fid = 0x0E then
      (s.modHost (fun h => { h with timestamp := some (leNat (data.take 6), s.cycle) })).endOk a 0
    else if fid = 0x81 then
      put (fun k => { k with hostId := leNat (data.take (if q.cdw11.getLsbD 0 then 16 else 8)) })
    else if fid = 0x82 then put (fun k => { k with resvMask := q.cdw11.toNat })
    else if fid = 0x83 then
      let f (n : Ns) : Ns := { n with resv := { n.resv with ptpl := q.cdw11.getLsbD 0 } }
      let s := if q.nsid = 0xFFFFFFFF then s.modNsSt (fun x => { x with list := x.list.map f }) else s.modNs q.nsid f
      s.endOk a 0
    else s.endWith a St.invalidField)

/-- SET_FEATURES_ARBITRATION (R100). -/
def State.setArbitration (s : State) (a : Nat) : State :=
  s.setFeature a (fun f => decide (f = 0x01)) (fun c =>
    let w := c.sqe.cdw11
    (s.modCtrl c.ctrl (fun k =>
      { k with ab := wordBits w 2 0, lpw := wordBits w 15 8, mpw := wordBits w 23 16, hpw := wordBits w 31 24 })).endOk a 0)

/-- SET_FEATURES_POWER_MANAGEMENT (R553): the command completes when the state is reached. -/
def State.setPower (s : State) (a : Nat) : State :=
  s.setFeature a (fun f => decide (f = 0x02)) (fun c =>
    let ps := wordBits c.sqe.cdw11 4 0
    if 4 < ps then s.endWith a St.invalidField
    else (s.modCtx a (fun c => { c with started := true })).powerRequest ps (some a))

/-- SET_FEATURES_ERROR_RECOVERY (R117). -/
def State.setRecovery (s : State) (a : Nat) : State :=
  s.setFeature a (fun f => decide (f = 0x05)) (fun c =>
    (s.modHost (fun h => { h with tler := wordBits c.sqe.cdw11 15 0, dulbe := c.sqe.cdw11.getLsbD 16 })).endOk a 0)

/-- SET_FEATURES_VOLATILE_WRITE_CACHE (R105): turning the cache off commits when no block is dirty any more. -/
def State.setWce (s : State) (a : Nat) : State :=
  match s.ctx a with
  | none => s
  | some c =>
    if ¬ c.adm 0x09 ∨ ¬ c.ready ∨ wordBits c.sqe.cdw10 7 0 ≠ 0x06 then s
    else
      match s.setFeatureCheck c with
      | some st => s.endWith a st
      | none =>
        if c.sqe.cdw11.getLsbD 0 then (s.modHost (fun h => { h with wce := true })).endOk a 0
        else if s.host.wce ∧ 0 < s.dirtyCount then s.modCtx a (fun c => { c with started := true })
        else (s.modHost (fun h => { h with wce := false })).endOk a 0

/-- SET_FEATURES_NUMBER_OF_QUEUES (R92). -/
def State.setQueues (s : State) (a : Nat) : State :=
  s.setFeature a (fun f => decide (f = 0x07)) (fun c =>
    let other : Fin 2 := if c.ctrl = 0 then 1 else 0
    let nsq := wordBits c.sqe.cdw11 15 0
    let ncq := wordBits c.sqe.cdw11 31 16
    if nsq = 0xFFFF ∨ ncq = 0xFFFF then s.endWith a St.invalidField
    else if (s.ctrl c.ctrl).nq.isSome then s.endWith a St.sequenceError
    else
      let grant (cq : Bool) (k : Nat) : Nat :=
        if s.singleX4 then min (k + 1) 1024 else min (min (k + 1) 1024) (1024 - s.granted cq true other)
      let gs := grant false nsq
      let gc := grant true ncq
      let s := (s.modCtrl c.ctrl (fun k => { k with nq := some (gs, gc) })).refreshPool
      s.endOk a ((gs - 1) + 2 ^ 16 * (gc - 1)))

/-- SET_FEATURES_INTERRUPT_COALESCING (R112). -/
def State.setCoalescing (s : State) (a : Nat) : State :=
  s.setFeature a (fun f => decide (f = 0x08)) (fun c =>
    ((s.modCtrl c.ctrl (fun k =>
      { k with coalThr := wordBits c.sqe.cdw11 7 0, coalTime := wordBits c.sqe.cdw11 15 8 })).coalesceSettle c.ctrl).endOk a 0)

/-- SET_FEATURES_MODE_PROFILE (R576, R577). -/
def State.setMode (s : State) (a : Nat) : State :=
  s.setFeature a (fun f => decide (f = 0xC0)) (fun c =>
    let k := c.sqe.cdw11.toNat
    if 15 < k ∨ ¬ s.dpiOn ∨ ¬ s.dpi.modeValid k then s.endWith a St.invalidField
    else
      let s := s.applyMode k
      (if sqeSave c.sqe then s.saveSettings (fun r => { r with mode := some k }) else s).endOk a 0)

/-! ### Namespaces (R147, R156 to R158, R170) -/

/-- k bytes of a host data structure, given by its non-zero bytes, least significant first. -/
def sparseLe (l : List (Nat × Byte)) (off : Nat) : Nat → Nat
  | 0 => 0
  | k + 1 => byteAt l off + 256 * sparseLe l (off + 1) k

/-- NAMESPACE_CREATE: NSZE, NCAP, FLBAS, DPS, CFLAGS and RATIO are read from the host's data structure, the other fields ignored (R158);
the new namespace's global range gets its key (R183). -/
def State.nsCreate (s : State) (a : Nat) (data : List (Nat × Byte)) : State :=
  s.adm 0x0D a (fun c =>
    if wordBits c.sqe.cdw10 3 0 ≠ 0 then s
    else
      match s.nsToCreate (sparseLe data 0 8) (sparseLe data 8 8) (byteAt data 26) (byteAt data 29) (wordBits c.sqe.cdw11 31 24)
          (byteAt data 3072) (byteAt data 3073) with
      | none => s.endWith a St.invalidField
      | some n =>
        if ¬ s.drbgOk then s
        else ((s.modNsSt (fun x => { x with list := x.list ++ [n] })).newKey (n.nsid - 1)).endOk a n.nsid)

/-- A key slot that no range uses any more is emptied, with the key kept for it. -/
def State.forgetKey (s : State) (slot : Nat) : State :=
  (s.clearKey slot).modXts (fun x => { x with wrapped := sparseErase slot x.wrapped, rows := sparseErase slot x.rows })

/-- A namespace is gone (R147): its data, zones and records, its Locking rows and keys, its place in the lists; the controllers it
was attached to are told. -/
def State.nsDelete (s : State) (nsid : Nat) : State :=
  match s.nspace nsid with
  | none => s
  | some n =>
    let rows := (s.xts.rows.filter (fun r => decide (64 ≤ r.1) && decide (r.2.nsid = nsid))).map (·.1)
    let s := s.eraseNs nsid
    let s := (((nsid - 1) :: rows).foldl (fun s k => s.forgetKey k) s).modNsSt
      (fun x => { x with list := x.list.filter (fun n => decide (n.nsid ≠ nsid)) })
    n.ctrls.foldl (fun s m => s.nsChanged m nsid) s

/-- NAMESPACE_DELETE. -/
def State.nsDeleteCmd (s : State) (a : Nat) : State :=
  s.adm 0x0D a (fun c =>
    if wordBits c.sqe.cdw10 3 0 ≠ 1 then s
    else (((s.adminLocks c.sqe).getD []).foldl (fun s k => s.nsDelete k) s).endOk a 0)

/-- The controllers that a controller list names, or none when it is empty or names one that is not there. -/
def State.listedCtrls (s : State) (l : List Nat) : Option (List (Fin 2)) :=
  let f (k : Nat) : Option (Fin 2) := s.controllers.find? (fun (m : Fin 2) => decide (m.val = k))
  if l.isEmpty ∨ l.any (fun k => (f k).isNone) then none else some (l.filterMap f)

/-- NAMESPACE_ATTACH: `l` is the controller list of the host's data. -/
def State.nsAttach (s : State) (a : Nat) (l : List Nat) : State :=
  s.adm 0x15 a (fun c =>
    if wordBits c.sqe.cdw10 3 0 ≠ 0 then s
    else
      match s.nspace c.sqe.nsid, s.listedCtrls l with
      | none, _ => s.endWith a St.invalidNs
      | _, none => s.endWith a St.ctrlListInvalid
      | some n, some ms =>
        if ms.any (fun m => n.att.get m) then s.endWith a St.alreadyAttached
        else
          let s := s.modNs n.nsid (fun n => { n with att := ms.foldl (fun t m => t.set m true) n.att })
          (ms.foldl (fun s m => s.nsChanged m n.nsid) s).endOk a 0)

/-- NAMESPACE_DETACH (R147): pending records count as delivered on the controllers detached. -/
def State.nsDetach (s : State) (a : Nat) (l : List Nat) : State :=
  s.adm 0x15 a (fun c =>
    if wordBits c.sqe.cdw10 3 0 ≠ 1 then s
    else
      match s.nspace c.sqe.nsid, s.listedCtrls l with
      | none, _ => s.endWith a St.invalidNs
      | _, none => s.endWith a St.ctrlListInvalid
      | some n, some ms =>
        if ms.any (fun m => ! n.att.get m) then s.endWith a St.notAttached
        else
          let s := s.modNs n.nsid (fun n => { n with att := ms.foldl (fun t m => t.set m false) n.att })
          let mark (r : DeRec) : DeRec :=
            if r.nsid = n.nsid then { r with del := ms.foldl (fun t m => if r.att.get m then t.set m true else t) r.del } else r
          let s := ((s.modHost (fun h => { h with de := h.de.map mark })).modRec (fun r => { r with sysDe := r.sysDe.map mark })).refreshDe
          (ms.foldl (fun s m => s.nsChanged m n.nsid) s).endOk a 0)

/-! ### Erasure (R115, R147, R188) -/

/-- The key slots of a namespace's ranges (R183, R185). -/
def State.nsSlots (s : State) (nsid : Nat) : List Nat := (nsid - 1) :: (s.keyBands nsid).map (·.1)

/-- FORMAT_NVM: SES 0b000, or 0b010 with new keys for every range of the namespace. -/
def State.formatNvm (s : State) (a : Nat) : State :=
  s.adm 0x80 a (fun c =>
    let ids := (s.adminLocks c.sqe).getD []
    let crypto := decide (wordBits c.sqe.cdw10 11 9 = 2)
    if crypto ∧ ¬ s.drbgOk then s
    else
      let s := if crypto then (ids.flatMap s.nsSlots).foldl (fun s k => s.newKey k) s else s
      (ids.foldl (fun s k => s.eraseNs k) s).endOk a 0)

/-- SANITIZE: all 128 keys are new, and no data of any namespace is left. -/
def State.sanitizeCmd (s : State) (a : Nat) : State :=
  s.adm 0x84 a (fun c =>
    if ¬ s.drbgOk then s
    else
      let s := (List.range 128).foldl (fun s k => s.newKey k) s
      let s := (s.ns.list.map (·.nsid)).foldl (fun s k => s.eraseNs k) s
      (s.modXts (fun x => { x with sanitize := some c.sqe.cdw10.toNat })).endOk a 0)

/-! ### Security (R186, R187, R189) -/

/-- A key band that is given a length for the first time gets its key (R183). -/
def State.bandKey (s : State) (row : Nat) : State :=
  if 64 ≤ row ∧ 0 < (s.lockRow row).len ∧ (sparseFind row s.xts.wrapped).isNone then s.newKey row else s

/-- A method of Security Send carried out, with the keys it makes needed. -/
def State.tcgRun (s : State) (m : TcgMethod) : State × Nat :=
  match m with
  | .setRow row _ =>
    let (t, st) := s.tcg m
    (if st = Tcg.success then t.bandKey row.val else t, st)
  | _ => s.tcg m

/-- Whether a method needs a new key while none can be drawn: its command waits (R189). -/
def State.keyWaits (s : State) (m : TcgMethod) : Bool :=
  ! s.drbgOk && (needsKey m || (match m with | .setRow row _ => decide (64 ≤ row.val) | _ => false))

/-- Whether a Security Send waits for the lock grant of a command of a lower arrival number, which is not to see its effect
(R187). -/
def State.grantsWait (s : State) (c : Ctx) : Bool :=
  s.host.ctxs.any (fun x => decide (x.arr < c.arr) && ! x.isAdmin && x.status.isNone && (! x.admitted || ! x.granted))

/-- SECURITY_SEND: a method of the TCG subset on protocol 0x01, ComID 0x07FE. -/
def State.securitySend (s : State) (a : Nat) (m : TcgMethod) : State :=
  s.adm 0x81 a (fun c =>
    if wordBits c.sqe.cdw10 31 24 ≠ 1 ∨ wordBits c.sqe.cdw10 23 8 ≠ 0x07FE then s.endWith a St.invalidField
    else if s.keyWaits m ∨ s.grantsWait c then s
    else
      let (t, st) := s.tcgRun m
      (t.modXts (fun x => { x with response := some (st, s.tcgData m st) })).endOk a 0)

/-- Bytes of a number, most significant first. -/
def beBytes (x k : Nat) : List Byte := (leBytes x k).reverse

/-- Level 0 discovery (R186): the header and the TPer, Locking and Enterprise SSC feature descriptors, laid out as TCG Storage Core and the
Enterprise SSC have them (PRESUMED, notes/assumptions/5.md): Sync and Streaming supported; Locking supported and enabled, whether any
range is locked, media encryption; base ComID 0x07FE, one ComID. -/
def State.level0 (s : State) : List Byte :=
  let locked := s.xts.rows.any (fun r => r.2.rl || r.2.wl)
  beBytes 96 4 ++ beBytes 1 4 ++ leBytes 0 40 ++
    (beBytes 0x0001 2 ++ beBytes 0x10 1 ++ beBytes 12 1 ++ beBytes 0x11 1 ++ leBytes 0 11) ++
    (beBytes 0x0002 2 ++ beBytes 0x10 1 ++ beBytes 12 1 ++ beBytes (if locked then 0x0F else 0x0B) 1 ++ leBytes 0 11) ++
    (beBytes 0x0100 2 ++ beBytes 0x10 1 ++ beBytes 16 1 ++ beBytes 0x07FE 2 ++ beBytes 1 2 ++ leBytes 0 12)

/-- SECURITY_RECEIVE: the protocols list, Level 0 discovery, or the response of the last method, whose TCG status and results leave as
`Out.tcg`. -/
def State.securityReceive (s : State) (a : Nat) : State :=
  s.adm 0x82 a (fun c =>
    let p := wordBits c.sqe.cdw10 31 24
    let com := wordBits c.sqe.cdw10 23 8
    let len := c.sqe.cdw11.toNat
    if p = 0 then
      (if com = 0 then s.returnData a ([0, 0, 0, 0, 0, 0, 0, 2, 0, 1].take len) else s.endWith a St.invalidField)
    else if p ≠ 1 then s.endWith a St.invalidField
    else if com = 1 then s.returnData a (s.level0.take len)
    else if com ≠ 0x07FE then s.endWith a St.invalidField
    else
      match s.xts.response with
      | some r => ((s.emit (.tcg a r.1 r.2)).modXts (fun x => { x with response := none })).endOk a 0
      | none => s.endOk a 0)

/-! ### Directives (R114, R432) -/

/-- DIRECTIVE_SEND: the directives are Identify and Streams, the class of a write following from its own DTYPE and DSPEC alone
(R432). -/
def State.directiveSend (s : State) (a : Nat) : State :=
  s.adm 0x19 a (fun c =>
    if 1 < wordBits c.sqe.cdw11 15 8 then s.endWith a St.invalidField else s.endOk a 0)

/-- DIRECTIVE_RECEIVE: data whose contents are not stated. -/
def State.directiveReceive (s : State) (a : Nat) : State :=
  s.adm 0x1A a (fun c =>
    if 1 < wordBits c.sqe.cdw11 15 8 then s.endWith a St.invalidField
    else s.returnData a (idBytes 11 (min 4096 (4 * (c.sqe.cdw10.toNat + 1))) []))

end Sys2Proof.Machine
end

