-- ==== Sys2Proof/Machine/LogPages.lean ====
section
/-!
DEFINITION. Sys2Proof/Machine/LogPages.lean: Get Log Page (spec/03_host_queues.md R119; spec/04_ordering_and_errors.md R144,
R146 to R148, R151; spec/09_assist_and_preamp.md R332; spec/13_compression.md R455; spec/15_recovery_and_faults.md R485, R493;
spec/16_event_recorder.md R513, R514; spec/17_viaduct_chain_and_ownership.md R549, R550; spec/18_power_thermal_modes.md R564 to
R567; spec/19_startup_and_otp.md R599).
-/
namespace Sys2Proof.Machine

/-! ### The fault state (R493) -/

/-- Whether every entry of an RMT is in use. -/
def State.rmtFull (s : State) (dram : Bool) : Bool :=
  (List.range (rmtCount dram)).all (fun i => s.fbit (rmtV dram i) || s.fbit (rmtBusy dram i))

/-- Whether the MZ9400 is Degraded (R493). -/
def State.degraded (s : State) : Bool :=
  lanes.any (fun n => decide (s.msc.avail.get n = .degraded) || decide (s.msc.avail.get n = .out)) ||
    lanes.any (fun (n : Fin 4) => decide (s.fget (Reg.SRFn_STATUS_XSTATE n) = 5) || decide (s.fget (Reg.SRFn_STATUS_YSTATE n) = 5)) ||
    s.heads.any (fun h => h.2.retWrite || h.2.retRead) ||
    decide (s.rd Reg.PIF_SHK_STAT &&& 0x370#32 ≠ 0#32) ||
    s.rmtFull true || s.rmtFull false || decide (s.availableSpare < s.dpi.spareThr)

/-! ### Standard pages -/

/-- Bytes that the specification does not state, of the page read now. -/
def State.freePage (s : State) (k : Nat) (fields : List (Nat × Nat × Nat)) : List Byte := idBytes (2 ^ 20 + s.fresh) k fields

/-- The status of a completion as an Error Information entry holds it. -/
def Status.word (st : Status) : Nat := 2 * (st.sc + 2 ^ 8 * st.sct + bitAt 13 st.more + bitAt 14 st.dnr)

/-- Log page 0x01: the newest entry first; unused entries are 0. -/
def State.errPage (s : State) (m : Fin 2) : List Byte :=
  let one (ei : ErrInfo × Nat) : List Byte :=
    let e := ei.1
    idBytes (2 ^ 40 + 64 * s.fresh + ei.2) 64
      [(8, 2, e.sqid), (10, 2, e.cid), (12, 2, e.status.word), (16, 8, e.lba), (24, 4, e.nsid), (32, 8, e.vendor)]
  padTo 4096 ((s.ctrl m).errLog.zipIdx.flatMap one)

/-- Log page 0x02: critical warning, temperatures, spares (R485, R493, R564, R565, R567). -/
def State.smartPage (s : State) : List Byte :=
  let warn := bitAt 0 (decide (s.availableSpare < s.dpi.spareThr)) + bitAt 1 (s.fbit Reg.PMU_PSTATE_THROT) + bitAt 2 s.degraded
  let free := (Config.freeByte (2 ^ 64 + s.fresh)).toNat / 8 * 8
  s.freePage 512 ([(0, 1, warn + free), (1, 2, s.kelvin 0), (3, 1, s.availableSpare), (4, 1, s.dpi.spareThr)] ++
    (List.range 4).map (fun k => (200 + 2 * k, 2, s.kelvin (k + 1))))

/-- VERSION of a firmware slot; zeros when it holds no valid image. -/
def State.slotVersion (s : State) (k : Nat) : List Byte :=
  match s.fwSlot k with
  | some f => if s.fwOk f then padTo 8 f.version else List.replicate 8 0#8
  | none => List.replicate 8 0#8

/-- Log page 0x03 (R599). -/
def State.fwPage (s : State) : List Byte :=
  padTo 512 (leBytes (s.fget Reg.SYS_BOOT_FWSLOT + 16 * s.settings.fwNext) 1 ++ leBytes 0 7 ++ s.slotVersion 1 ++ s.slotVersion 2)

/-- Log page 0x04. -/
def State.chgNsPage (s : State) (m : Fin 2) : List Byte :=
  let l := (s.ctrl m).chgNs
  idList 4 (if 1024 < l.length then [0xFFFFFFFF] else sortNats l)

/-- Log page 0x05: a supported command's entry has CSUPP = 1; its effects are not stated. -/
def effectsPage : List Byte :=
  let ent (on : Bool) (k : Nat) : List Byte := if on then leBytes (2 * ((Config.freeWord (2 ^ 64 + k)).toNat / 2) + 1) 4 else leBytes 0 4
  padTo 4096 ((List.range 256).flatMap (fun k => ent (adminOpcodes.contains k) k) ++
    (List.range 256).flatMap (fun k => ent (ioOpcodes.contains k) (256 + k)))

/-- Log page 0x80: the oldest notification not yet read; the count is not stated. -/
def State.resvPage (s : State) (m : Fin 2) : List Byte :=
  match (s.ctrl m).resvLog with
  | [] => List.replicate 64 0#8
  | (ty, nsid) :: rest =>
    padTo 64 (leBytes (Config.freeNat (2 ^ 64 + s.fresh)) 8 ++ leBytes ty 1 ++ leBytes (min rest.length 254 + 1) 1 ++ leBytes 0 2 ++
      leBytes nsid 4)

/-- Log page 0x81: no sanitize operation, or the last one complete with its dword 10; whether data was written since and the
estimates are not stated. -/
def State.sanitizePage (s : State) : List Byte :=
  match s.xts.sanitize with
  | none => s.freePage 512 [(0, 2, 0xFFFF), (2, 1, 0), (4, 4, 0)]
  | some d => s.freePage 512 [(0, 2, 0xFFFF), (2, 1, 1), (4, 4, d)]

/-- Log page 0xBF of a namespace: the zones that changed, by their first LBA. -/
def State.chgZonePage (s : State) (m : Fin 2) (nsid : Nat) : List Byte :=
  let l := ((s.ctrl m).chgZones.filter (fun z => decide (z.1 = nsid))).map (fun z => z.2 * zoneLbas)
  if 511 < l.length then padTo 4096 (leBytes 0xFFFF 2)
  else padTo 4096 (leBytes l.length 2 ++ leBytes 0 6 ++ (sortNats l).flatMap (fun x => leBytes x 8))

/-! ### Log page 0xC0 (R144, R146 to R148) -/

/-- Log page 0xC0 for a controller. -/
def State.dePage (s : State) (m : Fin 2) : List Byte :=
  leBytes (s.host.deSeq - 1) 8 ++ leBytes s.host.de.length 4 ++ leBytes (s.pendingDe m).length 4 ++
    leBytes (s.rd Reg.HQE_DE_LOST).toNat 4 ++ leBytes (bitAt 0 s.host.overflow) 4 ++ leBytes 0 40 ++ s.host.de.flatMap (·.bytes)

/-- Whether a record is delivered on every controller to which its namespace was attached at its creation. -/
def DeRec.delivered (r : DeRec) : Bool := ([0, 1] : List (Fin 2)).all (fun m => ! r.att.get m || r.del.get m)

/-- Whether the namespace of a record is attached to no controller. -/
def State.unattached (s : State) (r : DeRec) : Bool :=
  match s.nspace r.nsid with
  | some n => ! n.att.get 0 && ! n.att.get 1
  | none => true

/-- What a read of log page 0xC0 does to the records it returns whole (R146 to R148): marked as returned, and, with LSP bit 0 = 1,
removed when they may be; OVERFLOW clears once fewer than 1,024 are held. -/
def State.deRead (s : State) (off len : Nat) (remove : Bool) : State :=
  let seen (i : Nat) : Bool := decide (off ≤ 64 + 64 * i) && decide (64 + 64 * i + 64 ≤ off + len)
  let l := s.host.de.zipIdx.filterMap (fun ri =>
    let r := ri.1
    if ¬ seen ri.2 then some r
    else if remove && (r.delivered || s.unattached r) then none
    else some { r with returned := r.returned || r.delivered })
  (s.modHost (fun h => { h with de := l, overflow := h.overflow && decide (1024 ≤ l.length) })).refreshDe

/-! ### Log page 0xC2 (R332) -/

/-- The record of an actuator. -/
def State.actRec (s : State) (n : Fin 4) : List Byte :=
  let st := match s.msc.avail.get n with
    | .available => 0
    | .degraded => 1
    | .out => 2
    | .parked => 3
  let off := ! s.dpi.actEn n
  leBytes (if off then 2 else st) 1 ++ leBytes (if off then 1 else 0) 1 ++ leBytes (s.winh n % 1024) 2 ++
    (s.actHealth n).flatMap (fun v => leBytes (min v.toNat 0xFFFFFFFF) 4) ++ leBytes 0 12

/-- The record of a head. -/
def State.headBytes (s : State) (h : Nat) : List Byte :=
  let x := s.head h
  leBytes (bitAt 0 (s.dpi.headPresent h) + bitAt 1 x.retWrite + bitAt 2 x.retRead) 1 ++ leBytes x.lwr 1 ++ leBytes 0 2 ++
    leBytes x.sectRd 8 ++ leBytes x.sectWr 8 ++ leBytes x.ldpcFail 4 ++ leBytes x.syncMiss 4 ++ leBytes x.redecOk 4 ++
    leBytes x.realloc 4 ++ leBytes x.wfault 4 ++ leBytes x.inhHit 4 ++ leBytes 0 20

/-- Log page 0xC2. -/
def State.healthPage (s : State) : List Byte :=
  leBytes 1 2 ++ leBytes 4 1 ++ leBytes 40 1 ++ leBytes (s.rd Reg.PIF_SHK_STAT).toNat 4 ++ leBytes s.stamp 8 ++ leBytes 0 48 ++
    lanes.flatMap s.actRec ++ (List.range 40).flatMap s.headBytes

/-! ### Get Log Page (R119) -/

/-- The log pages of R119. -/
def logPages : List Nat := [0x01, 0x02, 0x03, 0x04, 0x05, 0x80, 0x81, 0xBF, 0xC0, 0xC1, 0xC2, 0xC3, 0xC4, 0xC5]

/-- The multiple that a page's offset must be: of 64, 8 or 4 bytes where the page's rule says so, else of a dword. -/
def offsetUnit (lid : Nat) : Nat := if lid = 0xC0 ∨ lid = 0xC1 then 64 else if lid = 0xC3 then 8 else 4

/-- The length that a Get Log Page asks for, in bytes. -/
def logLen (q : Sqe) : Nat := 4 * (wordBits q.cdw10 31 16 + 2 ^ 16 * wordBits q.cdw11 15 0 + 1)

/-- The offset that a Get Log Page asks for. -/
def logOff (q : Sqe) : Nat := q.cdw12.toNat + 2 ^ 32 * q.cdw13.toNat

/-- A page of a command's controller, and the state once it is assembled. -/
def State.logPage (s : State) (c : Ctx) (lid lsp off : Nat) : State × List Byte :=
  let m := c.ctrl
  if lid = 0x01 then (s, s.errPage m)
  else if lid = 0x02 then (s, s.smartPage)
  else if lid = 0x03 then (s, s.fwPage)
  else if lid = 0x04 then (s, s.chgNsPage m)
  else if lid = 0x05 then (s, effectsPage)
  else if lid = 0x80 then (s, s.resvPage m)
  else if lid = 0x81 then (s, s.sanitizePage)
  else if lid = 0xBF then (s, s.chgZonePage m c.sqe.nsid)
  else if lid = 0xC0 then (s, s.dePage m)
  else if lid = 0xC1 then s.evrLog m (lsp % 2 = 1) (lsp / 2 % 2 = 1) off
  else if lid = 0xC2 then (s, s.healthPage)
  else if lid = 0xC3 then (s, s.cxePage)
  else if lid = 0xC4 then (s, s.chainPage)
  else (s, s.ownPage c.master)

/-- What the read of a page changes: the records of 0xC0; and, unless the asynchronous event is retained, the lists of changes and
the notification just read. -/
def State.logRead (s : State) (c : Ctx) (lid lsp off len : Nat) : State :=
  let keep := c.sqe.cdw10.getLsbD 15
  if lid = 0xC0 then s.deRead off len (lsp % 2 = 1)
  else if keep then s
  else if lid = 0x04 then s.modCtrl c.ctrl (fun k => { k with chgNs := [] })
  else if lid = 0x80 then s.modCtrl c.ctrl (fun k => { k with resvLog := k.resvLog.drop 1 })
  else if lid = 0xBF then
    s.modCtrl c.ctrl (fun k => { k with chgZones := k.chgZones.filter (fun z => decide (z.1 ≠ c.sqe.nsid)) })
  else s

/-- GET_LOG_PAGE: the bytes asked for of a page; those beyond its end are free values. -/
def State.getLogPage (s : State) (a : Nat) : State :=
  s.adm 0x02 a (fun c =>
    let lid := wordBits c.sqe.cdw10 7 0
    let lsp := wordBits c.sqe.cdw10 14 8
    let len := logLen c.sqe
    let off := logOff c.sqe
    if ¬ logPages.contains lid then s.endWith a St.logInvalid
    else if off % offsetUnit lid ≠ 0 ∨ 2 ^ 21 < len ∨ (lid = 0xC1 ∧ 3 < lsp) then s.endWith a St.invalidField
    else
      let (t, page) := s.logPage c lid lsp off
      if page.length < off then s.endWith a St.invalidField
      else
        let l := (page.drop off).take len
        let rest := (List.range (len - l.length)).map (fun i => Config.freeByte (2 ^ 96 + 2 ^ 22 * s.fresh + i))
        (({ t with fresh := t.fresh + 1 }).logRead c lid lsp off len).returnData a (l ++ rest))

end Sys2Proof.Machine
end

