-- ==== Sys2Proof/Machine/Vendor.lean ====
section
/-!
DEFINITION. Sys2Proof/Machine/Vendor.lean: the vendor admin commands Register Access (R122), Ownership (R543, R544) and Capture
and Injection (R370, R371). Issuer, lengths and reserved bits are checked at admission (Machine/Queue.lean).
-/
namespace Sys2Proof.Machine

/-! ### Register Access (R18, R24, R37, R39, R122, R259) -/

/-- A Register Access ends as its access did. -/
def State.accessEnd (s : State) (a : Nat) (c : Ctx) (e : BusEnd) (dw0 : Nat) : State :=
  match e with
  | .done => s.endOk a dw0
  | .notOwner => (s.ownRefuse c.master 1 0xC0 c.sqe.cdw12.toNat).endWith a St.notOwner
  | _ => s.endWith a St.invalidField

/-- REGISTER_ACCESS_READ: the value is in completion dword 0. -/
def State.accessRead (s : State) (a : Nat) : State :=
  s.adm 0xC0 a (fun c =>
    if c.sqe.cdw13.getLsbD 0 then s
    else
      let (t, v, e) := s.busRead c.busMaster c.sqe.cdw12.toNat
      t.accessEnd a c e v.toNat)

/-- REGISTER_ACCESS_WRITE. Whether the issuer may write RWO fields was judged at admission (R546). -/
def State.accessWrite (s : State) (a : Nat) : State :=
  s.adm 0xC0 a (fun c =>
    if ¬ c.sqe.cdw13.getLsbD 0 then s
    else
      let addr := c.sqe.cdw12.toNat
      let (t, e) := s.busWrite (if regRwo addr then .core 0 else c.busMaster) addr c.sqe.cdw14
      t.accessEnd a c e 0)

/-! ### Ownership (R543, R544) -/

/-- An Ownership command of action `act`; `data` is its 16 bytes. A request that breaks R543 completes with Invalid Field in
Command; one that is refused completes successfully, with the RESULT. -/
def State.ownCmd (s : State) (a act : Nat) (data : List Byte) : State :=
  s.adm 0xC1 a (fun c =>
    let (x, target, token, reserved) := ownFields data
    if x ≠ act ∧ 1 ≤ x ∧ x ≤ 4 then s
    else if ¬ s.ownValid x target token reserved then s.endWith a St.invalidField
    else
      let (t, r) := s.ownAction c.master x target token
      t.endOk a (t.ownDword r))

/-! ### Capture and Injection (R370, R371) -/

/-- A Capture and Injection command of action `act` on its unit. -/
def State.captureCmd (s : State) (a act : Nat) (f : Ctx → Fin 2 → State) : State :=
  s.adm 0xC2 a (fun c => if c.sqe.action = act then f c (if c.sqe.cdw12.getLsbD 4 then 1 else 0) else s)

/-- The end of an action that is done: Peak Window Throttled when the unit's THROTTLED is 1. -/
def State.captureDone (s : State) (a : Nat) (u : Fin 2) (dw0 : Nat) : State :=
  s.finish a (if s.fbit (Reg.SVD_CAPn_STAT_THROTTLED u) then St.peakThrottled else St.success) dw0 0 0 0

/-- The pair that PAIR names. -/
def pairOf (k : Nat) : Fin 4 := if k = 0 then 0 else if k = 1 then 1 else if k = 2 then 2 else 3

/-- CAPTURE_CONFIGURE_AND_START. -/
def State.captureConfigure (s : State) (a : Nat) : State :=
  s.captureCmd a 0 (fun c u =>
    let inj := c.sqe.cdw15.getLsbD 0
    let n := pairOf (wordBits c.sqe.cdw15 2 1)
    if (s.cap.get u).st ≠ 0 ∨ (inj ∧ (s.pair.get n).law ≠ 3) then s.endWith a St.sequenceError
    else
      let s := (s.fwWrite (Reg.SVD_CAPn_CFG u) c.sqe.cdw13).fwWrite (Reg.SVD_CAPn_CH u) c.sqe.cdw14
      let s := if inj then (s.injectStart n).modCap u (fun k => { k with injPair := some n }) else s
      (s.captureArm u).captureDone a u 0)

/-- A sample as a read of the buffer returns it: zero with the stamp all ones where a word of it is poisoned (R466). -/
def State.captureBytes (s : State) (a : Nat) : List Byte :=
  if s.memp.poison.contains a ∨ s.memp.poison.contains (a + 8) then leBytes (2 ^ 64 - 1) 8 ++ leBytes 0 8 else s.memBytes 16 a

/-- CAPTURE_READ: 16 bytes for each sample; NDT is 4 times their number. `errs`: the errors its reads of the buffer meet
(R466). -/
def State.captureRead (s : State) (a : Nat) (errs : List MemErr) : State :=
  s.captureCmd a 1 (fun c u =>
    if (s.cap.get u).st ≠ 0 then s.endWith a St.sequenceError
    else
      let s := s.memErrors errs
      let l := (List.range (c.sqe.ndt / 4)).flatMap (fun i => s.captureBytes (captureAddr u (c.sqe.cdw13.toNat + i)))
      (s.emit (.hostData a (listedBytes l))).captureDone a u 0)

/-- CAPTURE_STOP: at once, with its injection. -/
def State.captureStop (s : State) (a : Nat) : State :=
  s.captureCmd a 2 (fun _ u => (if (s.cap.get u).st = 0 then s else s.captureEnd u).captureDone a u 0)

/-- CAPTURE_STATUS: completion dword 0 is the image of SVD_CAPu_STAT. -/
def State.captureStatus (s : State) (a : Nat) : State :=
  s.captureCmd a 3 (fun _ u => s.captureDone a u (s.rd (Reg.SVD_CAPn_STAT u)).toNat)

end Sys2Proof.Machine
end

