-- ==== Sys2Proof/Machine/Update.lean ====
section
/-!
DEFINITION. Sys2Proof/Machine/Update.lean: what changes flash and OTP (spec/19_startup_and_otp.md R588 to R601,
spec/07_trestle_sequencer.md R262 to R264): Firmware Image Download and Commit, Customer Microcode Load, OTP Program and DPI Load.
-/
namespace Sys2Proof.Machine

/-- Whether a command waits for one of Firmware Commit, DPI Load, Customer Microcode Load and OTP Program that arrived before it
and is outstanding (R601). -/
def State.updateWaits (s : State) (a : Nat) : Bool :=
  s.host.ctxs.any (fun x => x.isAdmin && decide (x.sqe.opc ∈ [0x10, 0xC3, 0xC4, 0xC6]) && decide (x.arr < a) && x.status.isNone)

/-- One of the four commands, when its turn has come (R601). -/
def State.update (s : State) (opc a : Nat) (f : Ctx → State) : State := s.adm opc a (fun c => if s.updateWaits a then s else f c)

/-! ### Firmware (R595, R598) -/

/-- The bytes of a firmware image that may be downloaded. -/
def fwRoom : Nat := 6 * 2 ^ 20

/-- FIRMWARE_IMAGE_DOWNLOAD: `data` is the piece, of the length that the command gives. -/
def State.fwDownload (s : State) (a : Nat) (data : List Byte) : State :=
  s.adm 0x11 a (fun c =>
    let len := 4 * (c.sqe.cdw10.toNat + 1)
    let off := 4 * c.sqe.cdw11.toNat
    if len % 4096 ≠ 0 ∨ off % 4096 ≠ 0 ∨ fwRoom < off + len then s.endWith a St.invalidField
    else (s.modHost (fun h => { h with fwPieces := h.fwPieces ++ [(off, padTo len data)] })).endOk a 0)

/-- The slot that FS names: FS 0 is the slot not running; with none running (Recovery mode), slot 1. -/
def State.commitSlot (s : State) (fs : Nat) : Nat :=
  if fs = 0 then (if s.fget Reg.SYS_BOOT_FWSLOT = 1 then 2 else 1) else fs

/-- A piece put into an image at its offset. -/
def pieceInto (img : List Byte) (p : Nat × List Byte) : List Byte :=
  let stop := p.1 + p.2.length
  let img := padTo (max img.length stop) img
  img.take p.1 ++ p.2 ++ img.drop stop

/-- The image that the downloaded pieces spell, a later piece over an earlier one; a byte that none gives is 0 (DESIGN CHOICE, log
58). -/
def State.fwJoined (s : State) : FwImage := ⟨s.host.fwPieces.foldl pieceInto []⟩

/-- Firmware slot k holds an image, or none that is valid (R594). -/
def State.putFw (s : State) (k : Nat) (f : Option FwImage) : State :=
  (s.flashWrite (if k = 1 then 0x10000 else 0x610000) fwRoom).modBoot (fun b => { b with fw := if k = 1 then { b.fw with b0 := f } else { b.fw with b1 := f } })

/-- A Firmware Commit of commit action `ca`, with the slot FS names. -/
def State.fwCommit (s : State) (a ca : Nat) (f : Nat → State) : State :=
  s.update 0x10 a (fun c => if wordBits c.sqe.cdw10 5 3 = ca then f (s.commitSlot (wordBits c.sqe.cdw10 2 0)) else s)

/-- A settings record write that ends a command, or fails. -/
def State.settingsEnd (s : State) (a : Nat) (recOk : Bool) (f : Settings → Settings) : State :=
  if recOk then (s.saveSettings f).endOk a 0 else (s.putSettings none).endWith a St.microcode

/-- The downloaded image verified and stored in a slot; `slotOk`: the write and its read-back succeed. -/
def State.fwStored (s : State) (a k : Nat) (slotOk : Bool) (f : State → State) : State :=
  let img := s.fwJoined
  if s.host.fwPieces.isEmpty ∨ ¬ s.fwOk img then s.endWith a St.invalidField
  else
    let s := s.modHost (fun h => { h with fwPieces := [] })
    if slotOk then f (s.putFw k (some img)) else (s.putFw k none).endWith a St.microcode

/-- FIRMWARE_COMMIT_STORE: CA 0b000. -/
def State.fwStore (s : State) (a : Nat) (slotOk : Bool) : State :=
  s.fwCommit a 0 (fun k => s.fwStored a k slotOk (fun s => s.endOk a 0))

/-- FIRMWARE_COMMIT_STORE_ACTIVATE: CA 0b001; `recOk`: the settings record write succeeds. -/
def State.fwStoreActivate (s : State) (a : Nat) (slotOk recOk : Bool) : State :=
  s.fwCommit a 1 (fun k => s.fwStored a k slotOk (fun s => s.settingsEnd a recOk (fun r => { r with fwNext := k })))

/-- FIRMWARE_COMMIT_ACTIVATE: CA 0b010. -/
def State.fwActivate (s : State) (a : Nat) (recOk : Bool) : State :=
  s.fwCommit a 2 (fun k => if s.fwSlotOk k then s.settingsEnd a recOk (fun r => { r with fwNext := k }) else s.endWith a St.invalidField)

/-! ### Customer Microcode Load (R262, R263) -/

/-- Whether a sequencer runs a customer routine. -/
def State.customerRuns (s : State) : Bool :=
  lanes.any (fun n =>
    let t := s.trs.get n
    t.op.customer && (decide (t.st = .running) || decide (t.st = .held)))

/-- NDT of an image padded to whole dwords: ceil((LEN + 196) / 4). -/
def imageNdt (len : Nat) : Nat := (len + 199) / 4

/-- The customer microcode area of the flash holds an image, or none that is valid (R594). -/
def State.putCust (s : State) (c : Option CsImage) : State := (s.flashWrite 0xD10000 0x20000).modBoot (fun b => { b with cust := c })

/-- Steps 4 to 6 of R262. -/
def State.customerWrite (s : State) (a : Nat) (img : CsImage) (persist : Bool) (wrong : List (Nat × Nat)) (flashOk : Bool) : State :=
  let s := ((s.loadCustomer img).csWrong wrong).fput Reg.TRS_CS_CTRL_COPEN 0
  let s := { s with cs := { s.cs with loading := none } }
  if ¬ wrong.isEmpty then s.endWith a St.microcode
  else if persist ∧ ¬ flashOk then (s.putCust none).endWith a St.microcode
  else
    let s := if persist then s.putCust (some img) else s
    (s.enableCustomer img).endOk a 0

/-- CUSTOMER_MICROCODE_LOAD: steps 1 and 2 when it begins; then, as soon as no sequencer runs a customer routine, steps 4 to 6.
The command that waits for a sequencer is sent again, and goes on with the image that step 1 checked. -/
def State.customerLoad (s : State) (a : Nat) (img : CsImage) (wrong : List (Nat × Nat)) (flashOk : Bool) : State :=
  match s.ctx a with
  | none => s
  | some c =>
    if ¬ c.adm 0xC3 ∨ ¬ c.ready ∨ s.updateWaits a then s
    else
      let persist := c.sqe.cdw12.getLsbD 0
      let go (s : State) : State :=
        match s.cs.loading with
        | some img => if s.customerRuns then s else s.customerWrite a img persist wrong flashOk
        | none => s
      if c.started then go s
      else if c.sqe.ndt ≠ imageNdt img.len ∨ ¬ csCustomerOk img s.dpi.ckeyHash then s.endWith a St.invalidField
      else
        let s := s.customerGone
        let s := { s with cs := { s.cs with loading := some img } }
        go (s.modCtx a (fun c => { c with started := true }))

/-! ### OTP Program (R588 to R593) -/

/-- Bytes programmed into the array. When the read-back fails, which of their bits were set is not stated: free values. -/
def State.otpTry (s : State) (ok : Bool) (o : Nat) (l : List Byte) : State :=
  if ok then s.otpProgram o l
  else
    let got := l.zipIdx.map (fun bi => bi.1 &&& Config.freeByte (2 ^ 128 + 4096 * s.fresh + bi.2))
    { s with fresh := s.fresh + 1 }.otpProgram o got

/-- An OTP Program command of action `act`. -/
def State.otpCmd (s : State) (a act : Nat) (f : Ctx → State) : State :=
  s.update 0xC4 a (fun c => if c.sqe.action = act then f c else s)

/-- An OTP Program that has acted: completion dword 0 tells whether the read-back failed. -/
def State.otpEnd (s : State) (a : Nat) (ok : Bool) : State := s.endOk a (if ok then 0 else 1)

/-- The 64 bytes of a record as the part programs it: GEN and CRC are its own (R593). -/
def crecBytes (data : List Byte) (g : Nat) : List Byte :=
  let l := ((padTo 64 data).take 60).set 2 (BitVec.ofNat 8 g)
  l ++ leBytes (crc32c l) 4

/-- OTP_PROGRAM_CONFIG_RECORD: `data` is the 64 bytes; `ok`: the read-back succeeds. -/
def State.otpRecord (s : State) (a : Nat) (data : List Byte) (ok : Bool) : State :=
  s.otpCmd a 1 (fun _ =>
    let debug := match s.activeGen with | some g => s.otpByte (0x30B + 64 * g) | none => 0
    match [0, 1, 2, 3].find? (fun g => ! s.crecUsed g) with
    | none => s.endWith a St.invalidField
    | some g =>
      if s.crecUsed 3 ∨ debug < (data.getD 0xB 0#8).toNat then s.endWith a St.invalidField
      else
        let s := s.otpTry ok (0x300 + 64 * g) (crecBytes data g)
        let s := if ok then s else s.modBoot (fun b => { b with otpBad := b.otpBad ++ [g] })
        s.otpEnd a ok)

/-- OTP_PROGRAM_DPI_KEY: a slot that fails is revoked at once. -/
def State.otpDpiKey (s : State) (a : Nat) (data : List Byte) (ok : Bool) : State :=
  s.otpCmd a 2 (fun _ =>
    match [0, 1, 2, 3].find? (fun k => s.otpBlank 48 (0x200 + 48 * k)) with
    | none => s.endWith a St.invalidField
    | some k =>
      let s := s.otpTry ok (0x200 + 48 * k) (data.take 48)
      (if ok then s else s.otpProgram 0x2C0 [BitVec.ofNat 8 (2 ^ k)]).otpEnd a ok)

/-- A revocation of slot k (R589): another usable slot of the kind must remain. -/
def State.otpRevoke (s : State) (a o k : Nat) (usable : Nat → Bool) (ok : Bool) : State :=
  if [0, 1, 2, 3].any (fun j => decide (j ≠ k) && usable j) then (s.otpTry ok o [BitVec.ofNat 8 (2 ^ k)]).otpEnd a ok
  else s.endWith a St.invalidField

/-- OTP_REVOKE_DPI_KEY. -/
def State.otpRevokeDpi (s : State) (a : Nat) (ok : Bool) : State :=
  s.otpCmd a 3 (fun c => s.otpRevoke a 0x2C0 (wordBits c.sqe.cdw13 1 0) s.dkeyUsable ok)

/-- OTP_REVOKE_ROOT_KEY. -/
def State.otpRevokeRoot (s : State) (a : Nat) (ok : Bool) : State :=
  s.otpCmd a 4 (fun c => s.otpRevoke a 0x1C0 (wordBits c.sqe.cdw13 1 0) s.rootUsable ok)

/-- The 32 bytes of a thermometer code of value v. -/
def thermo (v : Nat) : List Byte := leBytes (2 ^ v - 1) 32

/-- A raise of a security version number: one at or below the current value changes nothing. -/
def State.otpRaise (s : State) (a o now limit v : Nat) (ok : Bool) : State :=
  if limit < v then s.endWith a St.invalidField
  else if v ≤ now then s.otpEnd a true
  else (s.otpTry ok o (thermo v)).otpEnd a ok

/-- OTP_RAISE_FW_SVN: at most the running firmware's SVN. -/
def State.otpRaiseFw (s : State) (a : Nat) (ok : Bool) : State :=
  s.otpCmd a 5 (fun c =>
    s.otpRaise a 0x400 s.fwSvn (match s.boot.fwRun with | some f => f.svn | none => 0) (wordBits c.sqe.cdw13 8 0) ok)

/-- OTP_RAISE_DPI_SVN: at most the active DPI's SVN. -/
def State.otpRaiseDpi (s : State) (a : Nat) (ok : Bool) : State :=
  s.otpCmd a 6 (fun c => s.otpRaise a 0x420 s.dpiSvn (if s.dpiOn then s.dpi.svn else 0) (wordBits c.sqe.cdw13 8 0) ok)

/-! ### DPI Load (R597, R600) -/

/-- R264: a DPI whose CKEY_HASH is not the hash that verified the loaded image invalidates the customer region and erases the
persisted image. -/
def State.customerRetire (s : State) (ckey : List Byte) : State :=
  match s.cs.image with
  | some c => if c.keyHash ≠ ckey then s.centryInvalidate.putCust none else s
  | none => s

/-- The commit point of DPI Load: DPI slot k is named active; the saved Mode Profile is erased, the head retirements and the
counters of log page 0xC2 are cleared (R331, R332), and R264 applies. -/
def State.dpiNamed (s : State) (a k : Nat) (d : DpiImage) (recOk : Bool) : State :=
  if ¬ recOk then (s.putSettings none).endWith a St.microcode
  else
    let s := s.saveSettings (fun r => { r with dpi := k, mode := none })
    let s := { s with heads := [] }.setHealth (fun _ => List.replicate 12 0)
    (s.customerRetire d.ckeyHash).endOk a 0

/-- A DPI Load command of action `act`, with the slot that is not active. -/
def State.dpiCmd (s : State) (a act : Nat) (f : Ctx → Nat → State) : State :=
  s.update 0xC6 a (fun c => if c.sqe.action = act then f c (1 - s.settings.dpi) else s)

/-- DPI slot k holds an image, or none that is valid (R594). -/
def State.putDpi (s : State) (k : Nat) (d : Option DpiImage) : State :=
  (s.flashWrite (if k = 0 then 0xC10000 else 0xC90000) 0x80000).modBoot (fun b => { b with dpis := if k = 0 then { b.dpis with b0 := d } else { b.dpis with b1 := d } })

/-- DPI_LOAD: `d` is the image; `slotOk`: the slot write and its read-back succeed; `recOk`: the settings record write does. -/
def State.dpiLoad (s : State) (a : Nat) (d : DpiImage) (slotOk recOk : Bool) : State :=
  s.dpiCmd a 0 (fun c k =>
    if c.sqe.ndt ≠ imageNdt d.len ∨ ¬ s.dpiOk d then s.endWith a St.invalidField
    else if ¬ slotOk then (s.putDpi k none).endWith a St.microcode
    else (s.putDpi k (some d)).dpiNamed a k d recOk)

/-- DPI_ACTIVATE_OTHER. -/
def State.dpiActivate (s : State) (a : Nat) (recOk : Bool) : State :=
  s.dpiCmd a 1 (fun _ k =>
    match s.dpiSlot k with
    | some d => if s.dpiOk d then s.dpiNamed a k d recOk else s.endWith a St.invalidField
    | none => s.endWith a St.invalidField)

end Sys2Proof.Machine
end

