-- ==== Sys2Proof/Machine/ChainReg.lean ====
section
/-!
DEFINITION. Sys2Proof/Machine/ChainReg.lean: requests over the chain (R538): REG_READ, REG_WRITE and OWN frames to this unit, and
their RESPONSE.
-/
namespace Sys2Proof.Machine

/-- The STATUS of a RESPONSE for the end of an access: 0 Done, 1 Address, 2 Not owner, 3 Refused. An address in a window where no
register is defined is within the reach of R39: the write has no effect and the read returns 0 (R37). -/
def chainStatus : BusEnd → Nat
  | .done => 0
  | .unassigned => 0
  | .misaligned => 1
  | .unreachable => 1
  | .notOwner => 2
  | .refused => 3
  | .invalid => 0

/-- The answer to a request: RESPONSE to the head, with the request's TAG; a refused one is counted. -/
def State.respond (s : State) (f : Frame) (status data : Nat) : State :=
  let s := if status = 0 then s else s.bump Reg.VCH_REFUSED
  s.sendFrame true (Frame.sealed { s.ownFrame 0 0x13 (leBytes status 4 ++ leBytes data 4) with tag := f.tag })

/-- Whether an address lies in the windows that the chain reaches (R39). -/
def chainReach (a : Nat) : Bool := inRegSpace a

/-- A chain read. -/
def State.serveRead (s : State) (f : Frame) : State :=
  let a := leNat f.payload
  if ¬ chainReach a then s.respond f 1 0
  else
    let (t, v, e) := s.busRead .chain a
    t.respond f (chainStatus e) v.toNat

/-- A chain write. A refusal to a non-owner is recorded (R546). -/
def State.serveWrite (s : State) (f : Frame) : State :=
  let a := leNat (f.payload.take 4)
  if ¬ chainReach a then s.respond f 1 0
  else
    let (t, e) := s.busWrite .chain a (BitVec.ofNat 32 (leNat (f.payload.drop 4)))
    let t := if e = .notOwner then t.ownRefuse 4 2 f.ty a else t
    t.respond f (chainStatus e) 0

/-- An OWN request of the chain. -/
def State.serveOwn (s : State) (f : Frame) : State :=
  let (act, target, token, reserved) := ownFields f.payload
  if ¬ s.ownValid act target token reserved then s.respond f 4 0
  else
    let (t, r) := s.ownAction 4 act target token
    t.respond f 0 (t.ownDword r)

/-- What answers a request frame. -/
def State.serve (f : Frame) (s : State) : State :=
  if f.ty = 0x10 then s.serveRead f else if f.ty = 0x11 then s.serveWrite f else s.serveOwn f

/-- A frame arrives on a port: forwarded, handled, answered (R526, R527, R538). -/
def State.rx (s : State) (up : Bool) (f : Frame) : State := s.rxFrame up f (State.serve f)

end Sys2Proof.Machine
end

