-- ==== Sys2Proof/Machine/Mi.lean ====
section
/-!
DEFINITION. Sys2Proof/Machine/Mi.lean: what the pins bring: NVMe-MI over SMBus (R539, R540, R626), GPIO inputs (R495, R609), UART
(R610) and JTAG (R628). The layouts of MCTP and NVMe-MI messages are those of their specifications, and the boundary-scan
instructions act as IEEE 1149.1 says (notes/assumptions/32.md).
-/
namespace Sys2Proof.Machine

/-- A response over SMBus, with its status. -/
def State.miSay (s : State) (st : Nat) (l : List Byte) : State := s.emit (.mi none st l)

/-- A response with the bytes that the specification states; every other byte is a free value. -/
def State.miFree (s : State) (k : Nat) (fields : List (Nat × Nat × Nat)) : State :=
  { s.miSay 0 (idBytes (2 ^ 50 + s.fresh) k fields) with fresh := s.fresh + 1 }

/-- The composite temperature in °C, as a byte of the Appendix A structure. -/
def State.tempByte (s : State) : Nat :=
  let t := s.composite / 16
  if 127 ≤ t then 0x7F else if t ≤ -60 then 0xC4 else if 0 ≤ t then t.toNat else (t + 256).toNat

/-- SMBUS_BASIC_MANAGEMENT_READ: bytes 0 to 31 of the Appendix A structure. -/
def State.basicRead (s : State) : State := s.miFree 32 [(0, 1, 6), (3, 1, s.tempByte), (8, 1, 22)]

/-- MCTP_SET_ENDPOINT_ID: an ID that MCTP reserves is not taken. -/
def State.setEid (s : State) (eid : Nat) : State :=
  if eid < 8 ∨ 254 < eid then s.miFree 4 [(0, 1, 2)]
  else ({ s with mctp := { s.mctp with eid := eid } }).miFree 4 [(0, 1, 0), (1, 1, 0), (2, 1, eid)]

/-- MCTP_GET_ENDPOINT_ID. -/
def State.getEid (s : State) : State := s.miFree 4 [(0, 1, 0), (1, 1, s.mctp.eid)]

/-- MCTP_GET_VERSION_SUPPORT. -/
def State.getMctpVersion (s : State) : State := s.miFree 6 [(0, 1, 0), (1, 1, 1)]

/-- MCTP_GET_MESSAGE_TYPE_SUPPORT: NVMe-MI messages only. -/
def State.getMsgTypes (s : State) : State := s.miSay 0 (leBytes 0 1 ++ leBytes 1 1 ++ leBytes 4 1)

/-- MI_READ_DATA_STRUCTURE. -/
def State.miRead (s : State) (len : Nat) : State := s.miFree len []

/-- MI_SUBSYSTEM_HEALTH_POLL. -/
def State.miSubsystem (s : State) : State := s.miFree 8 [(2, 1, s.tempByte)]

/-- MI_CONTROLLER_HEALTH_POLL: one record for each controller. -/
def State.miController (s : State) : State :=
  let one (m : Fin 2) : List (Nat × Nat × Nat) :=
    let o := 16 * m.val
    let c := s.ctrl m
    [(o, 2, m.val), (o + 2, 1, bitAt 0 c.rdy + bitAt 1 s.recov.stopped + 4 * (c.shst % 4)), (o + 4, 2, s.kelvin 0),
      (o + 7, 1, s.availableSpare)]
  s.miFree (16 * s.controllers.length) (s.controllers.flatMap one)

/-- Invalid Parameter. -/
def miInvalid : Nat := 4

/-- MI_CONFIGURATION_GET: configuration 1 is the SMBus frequency, 3 the transmission unit. -/
def State.miGet (s : State) (id : Nat) : State :=
  if id = 1 then s.miSay 0 (leBytes s.mctp.freq 3) else if id = 3 then s.miSay 0 (leBytes s.mctp.mtu 3) else s.miSay miInvalid []

/-- MI_CONFIGURATION_SET: 100 or 400 kHz; the transmission unit is 64 bytes. -/
def State.miSet (s : State) (id v : Nat) : State :=
  if id = 1 ∧ (v = 1 ∨ v = 2) then ({ s with mctp := { s.mctp with freq := v } }).miSay 0 []
  else if id = 3 ∧ v = 64 then ({ s with mctp := { s.mctp with mtu := v } }).miSay 0 []
  else s.miSay miInvalid []

/-- MI_VPD_READ. -/
def State.miVpd (s : State) (len : Nat) : State := s.miFree len []

/-- MI_GET_STATE. -/
def State.miState (s : State) : State := s.miFree 2 []

/-- MI_ABORT: the message in progress is not answered any more; a command that has begun runs on, for it ends early in no other way
than R139 states. -/
def State.miAbort (s : State) : State := s.miFree 2 []

/-- The admin commands that are tunnelled (R539). -/
def tunnelled : List Nat := [0x02, 0x06, 0x09, 0x0A, 0x10, 0x11, 0xC0, 0xC1, 0xC2, 0xC3, 0xC4, 0xC5, 0xC6]

/-- An MCTP message reaches the endpoint (R545). -/
def State.mctpMsg (s : State) : State := { s with mctp := { s.mctp with lastAt := s.cycle } }

/-- MI_TUNNELLED_ADMIN: of the features, 0x0E and 0xC0 alone can be set (R539); the command becomes an admin command of controller 0x0000 with SMBus as its master (R540). -/
def State.miTunnel (s : State) (e : Sqe) : State :=
  let a := s.host.nextArr
  let s := (s.addCtx (newCtx 0 0 0 3 e true)).refreshFetch
  if ¬ e.opc ∈ tunnelled then s.endWith a St.invalidOpcode
  else if e.opc = 0x09 ∧ ¬ wordBits e.cdw10 7 0 ∈ [0x0E, 0xC0] then s.endWith a St.invalidField
  else s

/-- SMBUS_BUS_TIMEOUT: the lines are released and the transaction under way, of which the state holds nothing, is abandoned
(R626). -/
def State.smbusTimeout (s : State) : State := s

/-- GPIO_INPUT_CHANGE: the level of a pin, held for 64 fabric cycles; a shorter change is ignored (R495, R609). -/
def State.gpioInput (s : State) (k : Fin 32) (level : Bool) (held : Nat) : State :=
  if held < 64 then s else s.fput (Reg.SYS_GPIO_CFGn_IN k.val) (if level then 1 else 0)

/-- What the part drives on GPIO pin k (R69, R609): none where it drives nothing; a trigger output is low between pulses. -/
def State.gpioDriven (s : State) (k : Fin 32) : Option Bool :=
  let mode := s.fget (Reg.SYS_GPIO_CFGn_MODE k.val)
  let out := s.fbit (Reg.SYS_GPIO_CFGn_OUT k.val)
  if s.boot.held ≠ .off ∨ mode = 0 then none
  else if mode = 1 then some out
  else if mode = 2 then some (s.atb.gpioPulse.any (fun p => decide (p.1 = k.val)))
  else if out then none else some false

/-- Whether SMB_ALERT_N is low: in Fault Stop or Recovery mode (R608). -/
def State.smbAlert (s : State) : Bool := s.recov.stopped || decide (s.fget Reg.SYS_BOOT_MODE = 3)

/-- Whether ACT_LEDm_N is low: for 50 ms after each completion on the port (R608). -/
def State.actLed (s : State) (m : Fin 2) : Bool :=
  match s.host.lastPost.get m with | some t => decide (s.cycle < t + 50 * 10 ^ 6) | none => false

/-- Whether MAn_HVEN is high: the DPI enables the actuator and no reset is in force (R608). -/
def State.maHven (s : State) (n : Fin 4) : Bool := s.dpiOn && s.dpi.actEn n && decide (s.boot.held = .off)

/-- Whether MEMS_RST_N is high: from step 6 of the start-up sequence (R608). -/
def State.memsRst (s : State) : Bool := decide (5 ≤ s.fget Reg.SYS_BOOT_STEP) && decide (s.boot.held = .off)

/-- Whether NOR_RST_N is high: from step 5 of the start-up sequence (R608). -/
def State.norRst (s : State) : Bool := decide (4 ≤ s.fget Reg.SYS_BOOT_STEP) && decide (s.boot.held = .off)

/-- Whether VIA_UPOUT_N and VIA_DPOUT_N are low: from the end of power-on reset (R523). -/
def State.viaAnnounced (s : State) : Bool := decide (s.boot.held ≠ .rails)

/-- UART_RX_CHARACTER: ignored unless DEBUG is open (R610); the manual binds no effect of a character then but that a framing error is
counted (R495). -/
def State.uartRx (s : State) (_ch : Byte) (framed : Bool) : State :=
  if s.jtagPermitted ∧ ¬ framed then { s with pow := { s.pow with uartErr := s.pow.uartErr + 1 } } else s

/-- A JTAG instruction is in force. -/
def State.jtagSet (s : State) (i : JtagIr) : State := s.modBoot (fun b => { b with jtag := i })

/-- JTAG_BYPASS: the bypass register, which captures 0. -/
def State.jtagBypass (s : State) : State := (s.jtagSet .bypass).emit (.tdo 0)

/-- JTAG_IDCODE: 32 bits, bit 0 of which is 1. -/
def State.jtagIdcode (s : State) : State := (s.jtagSet .idcode).emit (.tdo (2 * ((Config.freeWord (2 ^ 65)).toNat / 2) + 1))

/-- JTAG_SAMPLE_PRELOAD: the levels of the pins are captured and shifted out; what is shifted in is held. -/
def State.jtagSample (s : State) (pins shift : Nat) : State :=
  ((s.jtagSet .sample).emit (.tdo pins)).modBoot (fun b => { b with bsr := shift })

/-- JTAG_EXTEST: as SAMPLE, and the cells drive the pins. -/
def State.jtagExtest (s : State) (pins shift : Nat) : State :=
  ((s.jtagSet .extest).emit (.tdo pins)).modBoot (fun b => { b with bsr := shift })

/-- JTAG_HIGHZ: the outputs are high impedance; the bypass register is selected. -/
def State.jtagHighz (s : State) : State := (s.jtagSet .highz).emit (.tdo 0)

/-- JTAG_CLAMP: the cells hold the outputs; the bypass register is selected. -/
def State.jtagClamp (s : State) : State := (s.jtagSet .clamp).emit (.tdo 0)

end Sys2Proof.Machine
end

