-- ==== Sys2Proof/Machine/Commands.lean ====
section
/-!
DEFINITION. Sys2Proof/Machine/Commands.lean: the meaning of each command of the table: one definition per row, a direct
use of the operation its block defines. `State.done` gives the offers of the command their sequence numbers (R500) and
answers the next state; `State.run` does so unless a reset is held, while which the part takes no command but the events of its
supplies, its clock, its reset pin, its retracts and its boundary scan.
-/
namespace Sys2Proof.Machine

/-- POWER_ON_RESET: A supply falls below power-good; every field including STK returns to reset and the start-up
sequence runs (R582). -/
def execPowerOnReset (env : StartUp) (vddio : Bool) (s : State) : Host.Outcome State Fault Refusal :=
  (s.powerOnReset env vddio).done

/-- CHIP_RESET_PIN: SYS_RESET_N held low for at least 1 us starts a chip-wide reset (R581). -/
def execChipResetPin (env : StartUp) (low : Nat) (s : State) : Host.Outcome State Fault Refusal :=
  (s.resetPin env low).done

/-- SYS_RST_CHIP: A write of SYS_RST.CHIP with key 0xC41F starts a chip-wide reset (R581). -/
def execSysRstChip (m : Master) (w : Word) (s : State) : Host.Outcome State Fault Refusal :=
  s.run (fun s => s.sysRst m w)

/-- CLOCK_LOSS: loss of the 25 MHz reference activates Force, starts the retracts and holds a chip-wide reset until
the clock has run for 1 ms (R617). -/
def execClockLoss (s : State) : Host.Outcome State Fault Refusal :=
  (s.clockLoss).done

/-- RAIL_SEQUENCE_VIOLATION: A rail comes up or goes down out of order; a PMU_SEQERR bit is set and reset is held
(R614). -/
def execRailSequenceViolation (rail : Fin 7) (s : State) : Host.Outcome State Fault Refusal :=
  (s.railViolation rail).done

/-- VDDA_BELOW_RETRACT_MIN: VDDA falls below 2.70 V and the retract amplifiers turn off, abandoning the remaining
phase (R616). -/
def execVddaBelowRetractMin (s : State) : Host.Outcome State Fault Refusal :=
  (s.retractLost).done

/-- REGISTER_WRITE: an aligned write to a register without behaviour of its own sets the field under its access type
(R15). -/
def execRegisterWrite (m : Master) (a : Nat) (w : Word) (s : State) : Host.Outcome State Fault Refusal :=
  s.run (fun s => s.registerWrite m a w)

/-- MISALIGNED_ACCESS: a register access that is not an aligned one of 32 bits has no effect, reads 0, and SYS offers a
refused-access Notice (R14). -/
def execMisalignedAccess (m : Master) (a bytes : Nat) (write : Bool) (v : Nat) (s : State) : Host.Outcome State Fault Refusal :=
  s.run (fun s => s.oddAccess m a bytes write v)

/-- UNASSIGNED_ACCESS: an access to an unassigned address or an undefined register has no effect, reads 0, and SYS
offers a Notice (R37). -/
def execUnassignedAccess (m : Master) (a : Nat) (write : Bool) (s : State) : Host.Outcome State Fault Refusal :=
  s.run (fun s => s.badAccess m a write (unassigned a))

/-- BLOCK_BASIC_WRITE: A write with KEEP = 0 sets PROFILE and ENABLE, clears MODE and reloads every expert register
from the profile (R23). -/
def execBlockBasicWrite (m : Master) (a : Nat) (w : Word) (s : State) : Host.Outcome State Fault Refusal :=
  s.run (fun s => s.busRow m a w (decide (regKind a = 2) && ! w.getLsbD 9))

/-- BLOCK_BASIC_KEEP_WRITE: A write with KEEP = 1 updates ENABLE only (R23). -/
def execBlockBasicKeepWrite (m : Master) (a : Nat) (w : Word) (s : State) : Host.Outcome State Fault Refusal :=
  s.run (fun s => s.busRow m a w (decide (regKind a = 2) && w.getLsbD 9))

/-- EXPERT_REGISTER_WRITE: A write to an expert register sets it and sets MODE to Expert (R21). -/
def execExpertRegisterWrite (m : Master) (a : Nat) (w : Word) (s : State) : Host.Outcome State Fault Refusal :=
  s.run (fun s => s.busRow m a w (decide (regKind a = 3)))

/-- LOCK_SET: A write of 1 to a block lock bit makes its RWL registers read-only until reset (R17). -/
def execLockSet (m : Master) (a : Nat) (w : Word) (s : State) : Host.Outcome State Fault Refusal :=
  s.run (fun s => s.busRow m a w (decide (regKind a = 4)))

/-- COUNTER_CLEAR: A write of 1 to a block CNT_CLR bit sets that block's counters to 0 (R74). -/
def execCounterClear (m : Master) (a : Nat) (w : Word) (s : State) : Host.Outcome State Fault Refusal :=
  s.run (fun s => s.busRow m a w (decide (regKind a = 5)))

/-- FABRIC_CYCLE_ADVANCE: each fabric cycle G advances by the rate less the due corrections and is published on the
angle bus (R53). -/
def execFabricCycleAdvance (s : State) : Host.Outcome State Fault Refusal :=
  s.run (fun s => s.fabricCycle)

/-- ATB_SPAN_END: the DECK field of G wraps; with no valid residual in the span, Locked goes to Holdover, and QUAL
is evaluated (R56). -/
def execAtbSpanEnd (s : State) : Host.Outcome State Fault Refusal :=
  s.run (fun s => s.atbSpanEnd)

/-- HOLDOVER_EXPIRY: HOLD_MAX spans end without a valid residual; the ATB goes to Acquire and the angle is declared
lost (R56). -/
def execHoldoverExpiry (s : State) : Host.Outcome State Fault Refusal :=
  s.run (fun s => s.holdoverExpiry)

/-- PIER_DETECTION: SVDn reports a servo address mark detection; the ATB recomputes OFFn, forms the residual and
validates it (R51). -/
def execPierDetection (n : Fin 4) (instant : Nat) (idx : Option Nat) (head cyl : Nat) (s : State) : Host.Outcome State Fault Refusal :=
  s.run (fun s => s.pierDetection n instant idx head cyl)

/-- ATB_CTRL_FREE: A write of 1 to FREE puts the ATB in Free at FREE_RATE and discards pending corrections (R56). -/
def execAtbCtrlFree (_m : Master) (s : State) : Host.Outcome State Fault Refusal :=
  s.run (fun s => s.atbFree)

/-- ATB_CTRL_ACQ: A write of 1 to ACQ moves the ATB from Free to Acquire (R56). -/
def execAtbCtrlAcq (_m : Master) (s : State) : Host.Outcome State Fault Refusal :=
  s.run (fun s => s.atbAcq)

/-- DISAGREE_CLEAR: A write of 1 to a DISAGREE bit lets the lane contribute again (R55). -/
def execDisagreeClear (_m : Master) (mask : BitVec 4) (s : State) : Host.Outcome State Fault Refusal :=
  s.run (fun s => s.disagreeClear mask.toNat)

/-- ATB_PIERS_WRITE: A write of PIERS in Free changes the revolution length and wraps or disarms out-of-range angles
(R76). -/
def execAtbPiersWrite (_m : Master) (w : Word) (s : State) : Host.Outcome State Fault Refusal :=
  s.run (fun s => s.atbPiersWrite w.toNat)

/-- ATB_OFFSET_TABLE_WRITE: A write of NOM, HEAD or SKEW is range-checked and refused with a Notice when out of
range (R78). -/
def execAtbOffsetTableWrite (_m : Master) (a : Nat) (w : Word) (s : State) : Host.Outcome State Fault Refusal :=
  s.run (fun s => s.atbOffsetWrite a w)

/-- ATB_SYNC_OFF_WRITE: A write of the sync offset is range-checked and is RWO (R78). -/
def execAtbSyncOffWrite (m : Master) (w : Word) (s : State) : Host.Outcome State Fault Refusal :=
  s.run (fun s => s.atbSyncOffWrite m w)

/-- ATB_ANGLE_READ: A read of ATB_ANGLE returns G and latches the revolution count into ATB_REV (R77). -/
def execAtbAngleRead (_m : Master) (s : State) : Host.Outcome State Fault Refusal :=
  s.run (fun s => s.atbAngleRead)

/-- TRIGGER_CTRL_WRITE: A write of trigger CTRL arms or disarms it, loads REMAIN and applies the late rule at arming
(R67). -/
def execTriggerCtrlWrite (m : Master) (n : Fin 5) (i : Nat) (w : Word) (s : State) : Host.Outcome State Fault Refusal :=
  s.run (fun s => s.trigWrite m true n.val i w)

/-- TRIGGER_ANGLE_WRITE: A write of trigger ANGLE sets the target unless the trigger is armed or the pier is out of
range (R70). -/
def execTriggerAngleWrite (m : Master) (n : Fin 5) (i : Nat) (w : Word) (s : State) : Host.Outcome State Fault Refusal :=
  s.run (fun s => s.trigWrite m false n.val i w)

/-- TRIGGER_FIRE: the compared angle crosses an armed trigger target; the trigger fires or decrements REMAIN, and
its target action is performed (R69). -/
def execTriggerFire (n : Fin 5) (i : Nat) (s : State) : Host.Outcome State Fault Refusal :=
  s.run (fun s => s.triggerFire n.val i)

/-- GPIO_PULSE_END: A trigger GPIO pulse ends after 64 fabric cycles (R69). -/
def execGpioPulseEnd (pin : Nat) (s : State) : Host.Outcome State Fault Refusal :=
  s.run (fun s => s.gpioPulseEnd pin)

/-- VSYNC_EMIT: as sync master the VCH emits VSYNC when G crosses the sync offset (R73). -/
def execVsyncEmit (s : State) : Host.Outcome State Fault Refusal :=
  s.run (fun s => s.vsyncEmit)

/-- SQ_TAIL_DOORBELL: A host write of a submission queue tail, at its offset in BAR0, makes new entries available for fetch (R86, R93). -/
def execSqTailDoorbell (m : Fin 2) (off : Nat) (acc : BarAccess) (s : State) : Host.Outcome State Fault Refusal :=
  s.run (fun s => s.bar0 m off acc)

/-- CQ_HEAD_DOORBELL: A host write of a completion queue head, at its offset in BAR0, frees completion entries (R86, R93). -/
def execCqHeadDoorbell (m : Fin 2) (off : Nat) (acc : BarAccess) (s : State) : Host.Outcome State Fault Refusal :=
  s.run (fun s => s.bar0 m off acc)

/-- COMMAND_FETCH: the HQE fetches a command when its context, completion-room and arbitration conditions hold, and
assigns a context and arrival number (R96). -/
def execCommandFetch (m : Fin 2) (qid : Nat) (e : Sqe) (s : State) : Host.Outcome State Fault Refusal :=
  s.run (fun s => s.commandFetch m qid e)

/-- RLT_ADMISSION: A command is admitted in arrival order once enough RLT entries are free and requests its locks
(R137). -/
def execRltAdmission (ranges : List (Nat × Nat)) (s : State) : Host.Outcome State Fault Refusal :=
  s.run (fun s => s.rltAdmission ranges)

/-- LOCK_GRANT: A waiting lock is granted when every earlier overlapping lock is compatible or released (R130). -/
def execLockGrant (arr : Nat) (s : State) : Host.Outcome State Fault Refusal :=
  s.run (fun s => s.lockGrant arr)

/-- ZONE_TAIL_GRANT: A zone tail is granted in arrival order; the zone checks run and a Zone Append takes its LBA
(R135). -/
def execZoneTailGrant (arr : Nat) (band : Option (Nat × Nat × Nat)) (s : State) : Host.Outcome State Fault Refusal :=
  s.run (fun s => s.tailGrant arr band)

/-- DATA_STORED: the last byte of a write is stored; the write pointer advances, the tail is released and a cached
write commits (R136). -/
def execDataStored (arr : Nat) (posts : List PostReq) (s : State) : Host.Outcome State Fault Refusal :=
  s.run (fun s => s.dataStored arr posts)

/-- DIRTY_LIMIT_RESUME: A write waiting for the dirty limit or the destage budget resumes once enough data reaches
the medium (R108). -/
def execDirtyLimitResume (arr : Nat) (s : State) : Host.Outcome State Fault Refusal :=
  s.run (fun s => s.dirtyResume arr)

/-- COMPLETION_POST: A completion queue entry is written to host memory and its context is freed (R104). -/
def execCompletionPost (arr : Nat) (s : State) : Host.Outcome State Fault Refusal :=
  s.run (fun s => s.completionPost arr)

/-- MSIX_UNMASK: A masked vector with its pending bit set is unmasked, by a write of its Vector Control word in BAR0, and its message is
sent (R86, R111). -/
def execMsixUnmask (m : Fin 2) (off : Nat) (acc : BarAccess) (s : State) : Host.Outcome State Fault Refusal :=
  s.run (fun s => s.bar0 m off acc)

/-- COALESCE_TIMER_EXPIRY: the coalescing time passes for the oldest unsignalled entry and the vector sends its
message (R112). -/
def execCoalesceTimerExpiry (m : Fin 2) (v : Nat) (s : State) : Host.Outcome State Fault Refusal :=
  s.run (fun s => s.coalesceExpiry m v)

/-- CC_ENABLE: CC.EN goes from 0 to 1; with valid settings the controller becomes ready within CAP.TO (R89). -/
def execCcEnable (m : Fin 2) (css mps ams iosqes iocqes asqs acqs asq acq : Nat) (s : State) : Host.Outcome State Fault Refusal :=
  s.run (fun s => s.ccEnable m css mps ams iosqes iocqes asqs acqs asq acq)

/-- CONTROLLER_RESET: CC.EN goes to 0; fetching stops, uncommitted commands end and RDY falls once all have ended
(R141). -/
def execControllerReset (m : Fin 2) (s : State) : Host.Outcome State Fault Refusal :=
  s.run (fun s => s.controllerReset m)

/-- NORMAL_SHUTDOWN: CC.SHN = 0b01 stops fetching, flushes dirty data and unloads the heads (R109). -/
def execNormalShutdown (m : Fin 2) (s : State) : Host.Outcome State Fault Refusal :=
  s.run (fun s => s.normalShutdown m)

/-- SHUTDOWN_COMPLETE: the shutdown work has finished and CSTS.SHST becomes 0b10 (R109). -/
def execShutdownComplete (m : Fin 2) (s : State) : Host.Outcome State Fault Refusal :=
  s.run (fun s => s.shutdownComplete m)

/-- ABRUPT_SHUTDOWN: CC.SHN = 0b10 aborts uncommitted commands and records the dirty ranges as deferred errors
(R109). -/
def execAbruptShutdown (m : Fin 2) (s : State) : Host.Outcome State Fault Refusal :=
  s.run (fun s => s.abruptShutdown m)

/-- FUNCTION_LEVEL_RESET: A Function Level Reset performs a controller reset and resets the configuration space
(R85). -/
def execFunctionLevelReset (m : Fin 2) (s : State) : Host.Outcome State Fault Refusal :=
  s.run (fun s => s.flr m)

/-- PERST_ASSERT: A filtered PERSTn_N assertion resets that port's link and controller (R83). -/
def execPerstAssert (m : Fin 2) (held : Nat) (s : State) : Host.Outcome State Fault Refusal :=
  s.run (fun s => s.perstAssert m held)

/-- PCIE_LINK_DOWN: the port's link goes down, which counts as a controller reset (R141). -/
def execPcieLinkDown (m : Fin 2) (s : State) : Host.Outcome State Fault Refusal :=
  s.run (fun s => s.linkDown m)

/-- PCIE_LINK_CHANGE: the link state, rate or width changes and HPX records and offers it (R123). -/
def execPcieLinkChange (m : Fin 2) (pstate rate width : Nat) (reversed recov : Bool) (s : State) : Host.Outcome State Fault Refusal :=
  s.run (fun s => s.linkChange m pstate rate width reversed recov)

/-- PCIE_ERROR_LOGGED: an AER error is logged and counted in HPX (R123). -/
def execPcieErrorLogged (m : Fin 2) (kind : Fin 3) (header : Nat) (arr : Option Nat) (s : State) : Host.Outcome State Fault Refusal :=
  s.run (fun s => s.aerError m kind header arr)

/-- D_STATE_CHANGE: the function changes D-state and HPX offers a Notice (R123). -/
def execDStateChange (m : Fin 2) (d3 : Bool) (s : State) : Host.Outcome State Fault Refusal :=
  s.run (fun s => s.dState m d3)

/-- CREATE_IO_SQ: the admin command creates an I/O submission queue, subject to the creation checks (R94). -/
def execCreateIoSq (arr : Nat) (s : State) : Host.Outcome State Fault Refusal :=
  s.run (fun s => s.createSq arr)

/-- CREATE_IO_CQ: the admin command creates an I/O completion queue (R94). -/
def execCreateIoCq (arr : Nat) (s : State) : Host.Outcome State Fault Refusal :=
  s.run (fun s => s.createCq arr)

/-- DELETE_IO_SQ: the queue is deleted; committed commands finish and the others complete as aborted by SQ deletion
(R140). -/
def execDeleteIoSq (arr : Nat) (s : State) : Host.Outcome State Fault Refusal :=
  s.run (fun s => s.deleteSq arr)

/-- DELETE_IO_CQ: the completion queue is deleted unless a submission queue still uses it (R94). -/
def execDeleteIoCq (arr : Nat) (s : State) : Host.Outcome State Fault Refusal :=
  s.run (fun s => s.deleteCq arr)

/-- IDENTIFY: returns the controller and namespace identification data (R103). -/
def execIdentify (arr : Nat) (s : State) : Host.Outcome State Fault Refusal :=
  s.run (fun s => s.identify arr)

/-- ABORT: always completes successfully with the command-not-aborted bit set (R138). -/
def execAbort (arr : Nat) (s : State) : Host.Outcome State Fault Refusal :=
  s.run (fun s => s.abortCmd arr)

/-- GET_LOG_PAGE: returns a supported log page; 0xC0 with LSP bit 0 removes delivered records, and 0xC1 handles HOLD
(R119). -/
def execGetLogPage (arr : Nat) (s : State) : Host.Outcome State Fault Refusal :=
  s.run (fun s => s.getLogPage arr)

/-- GET_FEATURES: returns the value of a supported feature (R116). -/
def execGetFeatures (arr : Nat) (s : State) : Host.Outcome State Fault Refusal :=
  s.run (fun s => s.getFeatures arr)

/-- SET_FEATURES: sets a supported feature with no behaviour of its own row (R116). -/
def execSetFeatures (arr : Nat) (data : List Byte) (s : State) : Host.Outcome State Fault Refusal :=
  s.run (fun s => s.setFeatures arr data)

/-- SET_FEATURES_ARBITRATION: sets the arbitration burst and the class weights (R100). -/
def execSetFeaturesArbitration (arr : Nat) (s : State) : Host.Outcome State Fault Refusal :=
  s.run (fun s => s.setArbitration arr)

/-- SET_FEATURES_POWER_MANAGEMENT: sets the requested power state for the subsystem and completes when it is reached
(R553). -/
def execSetFeaturesPowerManagement (arr : Nat) (s : State) : Host.Outcome State Fault Refusal :=
  s.run (fun s => s.setPower arr)

/-- SET_FEATURES_ERROR_RECOVERY: sets TLER and DULBE (R117). -/
def execSetFeaturesErrorRecovery (arr : Nat) (s : State) : Host.Outcome State Fault Refusal :=
  s.run (fun s => s.setRecovery arr)

/-- SET_FEATURES_VOLATILE_WRITE_CACHE: sets WCE for both controllers; turning it off commits once all dirty data is
on the medium (R105). -/
def execSetFeaturesVolatileWriteCache (arr : Nat) (s : State) : Host.Outcome State Fault Refusal :=
  s.run (fun s => s.setWce arr)

/-- SET_FEATURES_NUMBER_OF_QUEUES: allocates I/O queues from the shared pool, once per controller reset (R92). -/
def execSetFeaturesNumberOfQueues (arr : Nat) (s : State) : Host.Outcome State Fault Refusal :=
  s.run (fun s => s.setQueues arr)

/-- SET_FEATURES_INTERRUPT_COALESCING: sets the coalescing threshold and time (R112). -/
def execSetFeaturesInterruptCoalescing (arr : Nat) (s : State) : Host.Outcome State Fault Refusal :=
  s.run (fun s => s.setCoalescing arr)

/-- SET_FEATURES_MODE_PROFILE: applies a DPI mode record to the BASIC profiles and PMU_LIMIT (R576). -/
def execSetFeaturesModeProfile (arr : Nat) (s : State) : Host.Outcome State Fault Refusal :=
  s.run (fun s => s.setMode arr)

/-- ASYNC_EVENT_REQUEST: posts a request that a later asynchronous event completes (R118). -/
def execAsyncEventRequest (arr : Nat) (s : State) : Host.Outcome State Fault Refusal :=
  s.run (fun s => s.eventRequest arr)

/-- NAMESPACE_CREATE: creates a namespace of the requested kind and reserves its bands (R158). -/
def execNamespaceCreate (arr : Nat) (data : List (Nat × Byte)) (s : State) : Host.Outcome State Fault Refusal :=
  s.run (fun s => s.nsCreate arr data)

/-- NAMESPACE_DELETE: deletes a namespace under a namespace-wide lock and removes its deferred error records (R147).
-/
def execNamespaceDelete (arr : Nat) (s : State) : Host.Outcome State Fault Refusal :=
  s.run (fun s => s.nsDeleteCmd arr)

/-- NAMESPACE_ATTACH: attaches a namespace to a controller (R156). -/
def execNamespaceAttach (arr : Nat) (l : List Nat) (s : State) : Host.Outcome State Fault Refusal :=
  s.run (fun s => s.nsAttach arr l)

/-- NAMESPACE_DETACH: detaches a namespace, counting its pending records as delivered on that controller (R147). -/
def execNamespaceDetach (arr : Nat) (l : List Nat) (s : State) : Host.Outcome State Fault Refusal :=
  s.run (fun s => s.nsDetach arr l)

/-- FIRMWARE_IMAGE_DOWNLOAD: receives a 4 KiB-aligned piece of a firmware image (R598). -/
def execFirmwareImageDownload (arr : Nat) (data : List Byte) (s : State) : Host.Outcome State Fault Refusal :=
  s.run (fun s => s.fwDownload arr data)

/-- FIRMWARE_COMMIT_STORE: with CA 0b000, verifies the image and stores it in slot FS (R598). -/
def execFirmwareCommitStore (arr : Nat) (slotOk : Bool) (s : State) : Host.Outcome State Fault Refusal :=
  s.run (fun s => s.fwStore arr slotOk)

/-- FIRMWARE_COMMIT_STORE_ACTIVATE: with CA 0b001, stores the image and names it for activation at the next reset
(R598). -/
def execFirmwareCommitStoreActivate (arr : Nat) (slotOk recOk : Bool) (s : State) : Host.Outcome State Fault Refusal :=
  s.run (fun s => s.fwStoreActivate arr slotOk recOk)

/-- FIRMWARE_COMMIT_ACTIVATE: with CA 0b010, verifies the stored slot and names it for activation (R598). -/
def execFirmwareCommitActivate (arr : Nat) (recOk : Bool) (s : State) : Host.Outcome State Fault Refusal :=
  s.run (fun s => s.fwActivate arr recOk)

/-- DIRECTIVE_SEND: A Directive Send command (R432). -/
def execDirectiveSend (arr : Nat) (s : State) : Host.Outcome State Fault Refusal :=
  s.run (fun s => s.directiveSend arr)

/-- DIRECTIVE_RECEIVE: A Directive Receive command returns directive data (R432). -/
def execDirectiveReceive (arr : Nat) (s : State) : Host.Outcome State Fault Refusal :=
  s.run (fun s => s.directiveReceive arr)

/-- FORMAT_NVM: formats a namespace, optionally by crypto erase, and removes its deferred error records (R115). -/
def execFormatNvm (arr : Nat) (s : State) : Host.Outcome State Fault Refusal :=
  s.run (fun s => s.formatNvm arr)

/-- SECURITY_SEND: performs a TCG method on ComID 0x07FE, such as changing a Locking row or erasing a key band
(R186). -/
def execSecuritySend (arr : Nat) (m : TcgMethod) (s : State) : Host.Outcome State Fault Refusal :=
  s.run (fun s => s.securitySend arr m)

/-- SECURITY_RECEIVE: returns TCG discovery or method response data (R186). -/
def execSecurityReceive (arr : Nat) (s : State) : Host.Outcome State Fault Refusal :=
  s.run (fun s => s.securityReceive arr)

/-- SANITIZE: A crypto-erase sanitize regenerates all 128 keys (R115). -/
def execSanitize (arr : Nat) (s : State) : Host.Outcome State Fault Refusal :=
  s.run (fun s => s.sanitizeCmd arr)

/-- REGISTER_ACCESS_READ: the vendor command reads one internal register into completion dword 0 (R122). -/
def execRegisterAccessRead (arr : Nat) (s : State) : Host.Outcome State Fault Refusal :=
  s.run (fun s => s.accessRead arr)

/-- REGISTER_ACCESS_WRITE: the vendor command performs one internal register write, refused for RWO fields when the
issuer is not the owner (R122). -/
def execRegisterAccessWrite (arr : Nat) (s : State) : Host.Outcome State Fault Refusal :=
  s.run (fun s => s.accessWrite arr)

/-- OWNERSHIP_CLAIM: the Ownership command claims configuration ownership with a token (R544). -/
def execOwnershipClaim (arr : Nat) (data : List Byte) (s : State) : Host.Outcome State Fault Refusal :=
  s.run (fun s => s.ownCmd arr 1 data)

/-- OWNERSHIP_HANDOVER: the owner starts a handover to a target master (R544). -/
def execOwnershipHandover (arr : Nat) (data : List Byte) (s : State) : Host.Outcome State Fault Refusal :=
  s.run (fun s => s.ownCmd arr 2 data)

/-- OWNERSHIP_ACCEPT: the handover target accepts ownership (R544). -/
def execOwnershipAccept (arr : Nat) (data : List Byte) (s : State) : Host.Outcome State Fault Refusal :=
  s.run (fun s => s.ownCmd arr 3 data)

/-- OWNERSHIP_RELEASE: the owner releases ownership (R544). -/
def execOwnershipRelease (arr : Nat) (data : List Byte) (s : State) : Host.Outcome State Fault Refusal :=
  s.run (fun s => s.ownCmd arr 4 data)

/-- CAPTURE_CONFIGURE_AND_START: configures a capture unit, optionally starts an injection, and arms the unit
(R370). -/
def execCaptureConfigureAndStart (arr : Nat) (s : State) : Host.Outcome State Fault Refusal :=
  s.run (fun s => s.captureConfigure arr)

/-- CAPTURE_READ: returns captured samples from a given index (R370). -/
def execCaptureRead (arr : Nat) (errs : List MemErr) (s : State) : Host.Outcome State Fault Refusal :=
  s.run (fun s => s.captureRead arr errs)

/-- CAPTURE_STOP: stops a capture unit at once and ends its injection (R370). -/
def execCaptureStop (arr : Nat) (s : State) : Host.Outcome State Fault Refusal :=
  s.run (fun s => s.captureStop arr)

/-- CAPTURE_STATUS: returns the capture unit status (R370). -/
def execCaptureStatus (arr : Nat) (s : State) : Host.Outcome State Fault Refusal :=
  s.run (fun s => s.captureStatus arr)

/-- CUSTOMER_MICROCODE_LOAD: verifies a customer image, writes the customer region and pattern RAM, optionally
persists it, and commits TRS_CENTRY (R262). -/
def execCustomerMicrocodeLoad (arr : Nat) (img : CsImage) (wrong : List (Nat × Nat)) (flashOk : Bool) (s : State) : Host.Outcome State Fault Refusal :=
  s.run (fun s => s.customerLoad arr img wrong flashOk)

/-- OTP_PROGRAM_CONFIG_RECORD: programs the next Configuration Record generation (R593). -/
def execOtpProgramConfigRecord (arr : Nat) (data : List Byte) (ok : Bool) (s : State) : Host.Outcome State Fault Refusal :=
  s.run (fun s => s.otpRecord arr data ok)

/-- OTP_PROGRAM_DPI_KEY: programs a DPI key hash slot (R593). -/
def execOtpProgramDpiKey (arr : Nat) (data : List Byte) (ok : Bool) (s : State) : Host.Outcome State Fault Refusal :=
  s.run (fun s => s.otpDpiKey arr data ok)

/-- OTP_REVOKE_DPI_KEY: revokes a DPI key slot (R593). -/
def execOtpRevokeDpiKey (arr : Nat) (ok : Bool) (s : State) : Host.Outcome State Fault Refusal :=
  s.run (fun s => s.otpRevokeDpi arr ok)

/-- OTP_REVOKE_ROOT_KEY: revokes a root key slot (R593). -/
def execOtpRevokeRootKey (arr : Nat) (ok : Bool) (s : State) : Host.Outcome State Fault Refusal :=
  s.run (fun s => s.otpRevokeRoot arr ok)

/-- OTP_RAISE_FW_SVN: raises FW_SVN (R593). -/
def execOtpRaiseFwSvn (arr : Nat) (ok : Bool) (s : State) : Host.Outcome State Fault Refusal :=
  s.run (fun s => s.otpRaiseFw arr ok)

/-- OTP_RAISE_DPI_SVN: raises DPI_SVN (R593). -/
def execOtpRaiseDpiSvn (arr : Nat) (ok : Bool) (s : State) : Host.Outcome State Fault Refusal :=
  s.run (fun s => s.otpRaiseDpi arr ok)

/-- EVR_READ_CONFIGURATION: returns EVR_CFG, the line settings and the snapshot lists (R515). -/
def execEvrReadConfiguration (arr : Nat) (s : State) : Host.Outcome State Fault Refusal :=
  s.run (fun s => s.evrReadConfig arr)

/-- EVR_SET_LINE: sets EVR_LINE_k (R515). -/
def execEvrSetLine (arr : Nat) (s : State) : Host.Outcome State Fault Refusal :=
  s.run (fun s => s.evrSetLine arr)

/-- EVR_WRITE_LIST: writes a snapshot list (R515). -/
def execEvrWriteList (arr : Nat) (data : List Word) (s : State) : Host.Outcome State Fault Refusal :=
  s.run (fun s => s.evrWriteList arr data)

/-- EVR_SET_CONFIGURATION: sets EVR_CFG (R515). -/
def execEvrSetConfiguration (arr : Nat) (s : State) : Host.Outcome State Fault Refusal :=
  s.run (fun s => s.evrSetConfig arr)

/-- EVR_CLEAR: invalidates every ring slot (R515). -/
def execEvrClear (arr : Nat) (s : State) : Host.Outcome State Fault Refusal :=
  s.run (fun s => s.evrClearCmd arr)

/-- EVR_UNFREEZE: the command ends a freeze (R515). -/
def execEvrUnfreeze (arr : Nat) (s : State) : Host.Outcome State Fault Refusal :=
  s.run (fun s => s.evrUnfreezeCmd arr)

/-- EVR_POST_MARKER: posts a Notice marker record with the given payload (R515). -/
def execEvrPostMarker (arr : Nat) (data : List Byte) (s : State) : Host.Outcome State Fault Refusal :=
  s.run (fun s => s.evrMarker arr data)

/-- DPI_LOAD: verifies a DPI, writes it to the inactive slot and names it active for the next reset (R600). -/
def execDpiLoad (arr : Nat) (d : DpiImage) (slotOk recOk : Bool) (s : State) : Host.Outcome State Fault Refusal :=
  s.run (fun s => s.dpiLoad arr d slotOk recOk)

/-- DPI_ACTIVATE_OTHER: verifies the stored inactive DPI slot and names it active (R600). -/
def execDpiActivateOther (arr : Nat) (recOk : Bool) (s : State) : Host.Outcome State Fault Refusal :=
  s.run (fun s => s.dpiActivate arr recOk)

/-- FLUSH: commits when every covered write is on the medium or has failed, seals compressed blocks, and may carry a
deferred error (R106). -/
def execFlush (arr : Nat) (s : State) : Host.Outcome State Fault Refusal :=
  s.run (fun s => s.flush arr)

/-- WRITE: writes LBAs through the cache or, with FUA or the cache off, to the medium (R104). -/
def execWrite (arr : Nat) (data : Option (List (List Byte))) (pays : List (List Byte)) (merr : List MemErr) (s : State) : Host.Outcome State Fault Refusal :=
  s.run (fun s => s.write 0x01 arr data pays merr)

/-- READ: reads LBAs from the cache or the medium into host memory (R104). -/
def execRead (arr : Nat) (posts : List PostReq) (seen : List (Nat × Nat × List Byte)) (merr : List MemErr) (s : State) : Host.Outcome State Fault Refusal :=
  s.run (fun s => s.read arr posts seen merr)

/-- DATASET_MANAGEMENT: deallocates ranges in a conventional namespace, or changes nothing in a zoned namespace
(R636). -/
def execDatasetManagement (arr : Nat) (s : State) : Host.Outcome State Fault Refusal :=
  s.run (fun s => s.dsm arr)

/-- WRITE_ZEROES: writes zeros over up to 65,536 blocks (R104). -/
def execWriteZeroes (arr : Nat) (pays : List (List Byte)) (s : State) : Host.Outcome State Fault Refusal :=
  s.run (fun s => s.writeZeroes arr pays)

/-- RESERVATION_REGISTER: A reservation register command (R114). -/
def execReservationRegister (arr crkey nrkey : Nat) (s : State) : Host.Outcome State Fault Refusal :=
  s.run (fun s => s.resvRegister arr crkey nrkey)

/-- RESERVATION_REPORT: returns reservation status (R114). -/
def execReservationReport (arr : Nat) (s : State) : Host.Outcome State Fault Refusal :=
  s.run (fun s => s.resvReport arr)

/-- RESERVATION_ACQUIRE: A reservation acquire command (R114). -/
def execReservationAcquire (arr crkey prkey : Nat) (s : State) : Host.Outcome State Fault Refusal :=
  s.run (fun s => s.resvAcquire arr crkey prkey)

/-- RESERVATION_RELEASE: A reservation release command (R114). -/
def execReservationRelease (arr crkey : Nat) (s : State) : Host.Outcome State Fault Refusal :=
  s.run (fun s => s.resvRelease arr crkey)

/-- ZONE_APPEND: appends data at the write pointer taken at tail grant (R135). -/
def execZoneAppend (arr : Nat) (data : Option (List (List Byte))) (pays : List (List Byte)) (merr : List MemErr) (s : State) : Host.Outcome State Fault Refusal :=
  s.run (fun s => s.write 0x7D arr data pays merr)

/-- ZONE_MANAGEMENT_RECEIVE: returns Report Zones or Extended Report Zones data (R162). -/
def execZoneManagementReceive (arr : Nat) (s : State) : Host.Outcome State Fault Refusal :=
  s.run (fun s => s.zoneReceive arr)

/-- ZONE_CLOSE: closes zones and seals compressed blocks (R162). -/
def execZoneClose (arr : Nat) (s : State) : Host.Outcome State Fault Refusal :=
  s.run (fun s => s.zoneSend .close arr)

/-- ZONE_FINISH: moves zones to Full and seals compressed blocks (R162). -/
def execZoneFinish (arr : Nat) (s : State) : Host.Outcome State Fault Refusal :=
  s.run (fun s => s.zoneSend .finish arr)

/-- ZONE_OPEN: opens zones within the open-zone limits (R162). -/
def execZoneOpen (arr : Nat) (s : State) : Host.Outcome State Fault Refusal :=
  s.run (fun s => s.zoneSend .open_ arr)

/-- ZONE_RESET: resets zones and frees their bands (R168). -/
def execZoneReset (arr : Nat) (s : State) : Host.Outcome State Fault Refusal :=
  s.run (fun s => s.zoneSend .reset arr)

/-- ZONE_OFFLINE: moves a Read Only zone to Offline (R164). -/
def execZoneOffline (arr : Nat) (s : State) : Host.Outcome State Fault Refusal :=
  s.run (fun s => s.zoneSend .offline arr)

/-- SET_ZONE_DESCRIPTOR_EXTENSION: always completes with Invalid Field in Command (R162). -/
def execSetZoneDescriptorExtension (arr : Nat) (s : State) : Host.Outcome State Fault Refusal :=
  s.run (fun s => s.zoneSetExt arr)

/-- RECORD_PERSIST: A deferred error record is written to the system area within 8 revolutions (R146). -/
def execRecordPersist (posts : List PostReq) (s : State) : Host.Outcome State Fault Refusal :=
  s.run (fun s => s.recordPersist posts)

/-- XTS_GENERATE: draws a key from the DRBG into a slot and returns the wrapped key (R189). -/
def execXtsGenerate (m : Master) (slot : Fin 128) (auth : Fin 128) (s : State) : Host.Outcome State Fault Refusal :=
  s.run (fun s => s.xtsKctrl m 1 slot.val auth.val)

/-- XTS_LOAD: unwraps a blob into a slot when the integrity check passes (R189). -/
def execXtsLoad (m : Master) (slot : Fin 128) (auth : Fin 128) (s : State) : Host.Outcome State Fault Refusal :=
  s.run (fun s => s.xtsKctrl m 2 slot.val auth.val)

/-- XTS_CLEAR: zeroes a key slot (R189). -/
def execXtsClear (m : Master) (slot : Fin 128) (auth : Fin 128) (s : State) : Host.Outcome State Fault Refusal :=
  s.run (fun s => s.xtsKctrl m 3 slot.val auth.val)

/-- XTS_REWRAP: wraps a slot key under the current credential (R189). -/
def execXtsRewrap (m : Master) (slot : Fin 128) (auth : Fin 128) (s : State) : Host.Outcome State Fault Refusal :=
  s.run (fun s => s.xtsKctrl m 4 slot.val auth.val)

/-- XTS_OPERATION_DONE: A key operation ends, setting DONE or ERR (R189). -/
def execXtsOperationDone (s : State) : Host.Outcome State Fault Refusal :=
  s.run (fun s => s.xtsDone)

/-- DRBG_HEALTH_RETEST: every 1 s while DRBGOK is 0, firmware repeats the entropy health tests (R189). -/
def execDrbgHealthRetest (ok : Bool) (s : State) : Host.Outcome State Fault Refusal :=
  s.run (fun s => s.drbgRetest ok)

/-- INTAKE_ACCEPT: the MSC accepts an operation from an intake ring into a slot of its actuator (R194). -/
def execIntakeAccept (r : Fin 6) (s : State) : Host.Outcome State Fault Refusal :=
  s.run (fun s => s.intakeAccept r)

/-- OPERATION_SELECT: the MSC selects and commits the next operation for an idle or nearly done actuator and sends
the seek target (R207). -/
def execOperationSelect (n : Fin 4) (s : State) : Host.Outcome State Fault Refusal :=
  s.run (fun s => s.operationSelect n)

/-- LEASE_EXPIRY: G reaches a lease's expiry stamp and the lease ends (R175). -/
def execLeaseExpiry (s : State) : Host.Outcome State Fault Refusal :=
  s.run (fun s => s.leaseExpiry)

/-- LEASE_REVOKE: an Out or Degraded holder's leases are revoked once its sequencer has stopped and its write gate
is off (R175). -/
def execLeaseRevoke (n : Fin 4) (s : State) : Host.Outcome State Fault Refusal :=
  s.run (fun s => s.leaseRevoke n)

/-- TRS_DESCRIPTOR_ACCEPT: an Idle TRSn accepts the committed descriptor, loads its operation state and the RWC, PAn
and AST operation settings, and issues the entry word (R223). -/
def execTrsDescriptorAccept (n : Fin 4) (s : State) : Host.Outcome State Fault Refusal :=
  s.run (fun s => s.descriptorAccept n)

/-- OPERATION_OUTCOME: TRSn reports an operation's end and the MSC writes its outcome record or requeues its
remainder (R213). -/
def execOperationOutcome (n : Fin 4) (posts : List PostReq) (rdBad : Bool) (s : State) : Host.Outcome State Fault Refusal :=
  s.run (fun s => s.operationOutcome n posts rdBad)

/-- ABORT_PENDING_TIMEOUT: an operation not ended TMO revolutions after acceptance gets abort pending (R214). -/
def execAbortPendingTimeout (n : Fin 4) (s : State) : Host.Outcome State Fault Refusal :=
  s.run (fun s => s.abortTimeout n)

/-- FORCED_STOP_TIMEOUT: one revolution later the MSC forces TRSn to stop with outcome Timeout (R214). -/
def execForcedStopTimeout (n : Fin 4) (s : State) : Host.Outcome State Fault Refusal :=
  s.run (fun s => s.forcedTimeout n)

/-- MOVE_LIST_ENTRY: A waiting moved operation enters a freed slot of the partner (R215). -/
def execMoveListEntry (s : State) : Host.Outcome State Fault Refusal :=
  s.run (fun s => s.moveListEntry)

/-- DESTAGE_ROUTE_CHECK: at each pier boundary a routeless destage write's bound is checked, and it ends with No
route when the bound expires (R216). -/
def execDestageRouteCheck (s : State) : Host.Outcome State Fault Refusal :=
  s.run (fun s => s.destageRouteCheck)

/-- MARGIN_CAP_EVAL: once per span the VMOT and VDDA write caps are evaluated against their thresholds (R211). -/
def execMarginCapEval (s : State) : Host.Outcome State Fault Refusal :=
  s.run (fun s => s.marginEval)

/-- DESTAGE_ESTIMATE_UPDATE: the destage time estimate is recomputed at least once per revolution (R217). -/
def execDestageEstimateUpdate (exts : List (Nat × Nat × Nat)) (s : State) : Host.Outcome State Fault Refusal :=
  s.run (fun s => s.destageEstimate exts)

/-- WORD_RELEASE: A stalled microword's wait source and room conditions are satisfied; its actions take effect and
the next word issues (R232). -/
def execWordRelease (n : Fin 4) (s : State) : Host.Outcome State Fault Refusal :=
  s.run (fun s => s.wordRelease n)

/-- TRS_CTRL_STOP: A write of 1 to STOP force-stops the sequencer with outcome Aborted (R250). -/
def execTrsCtrlStop (_m : Master) (n : Fin 4) (s : State) : Host.Outcome State Fault Refusal :=
  s.run (fun s => s.onUnit (Reg.TRSn_CTRL n) (fun s => s.trsStop n))

/-- TRS_CTRL_ABORT: A write of 1 to ABORT sets abort pending (R249). -/
def execTrsCtrlAbort (_m : Master) (n : Fin 4) (s : State) : Host.Outcome State Fault Refusal :=
  s.run (fun s => s.onUnit (Reg.TRSn_CTRL n) (fun s => s.trsAbort n))

/-- TRS_CTRL_CLR: A write of 1 to CLR returns a Checked sequencer to Idle (R222). -/
def execTrsCtrlClr (_m : Master) (n : Fin 4) (s : State) : Host.Outcome State Fault Refusal :=
  s.run (fun s => s.onUnit (Reg.TRSn_CTRL n) (fun s => s.trsClr n))

/-- TRS_CTRL_HOLD: A write of HOLD makes the sequencer enter Held before the next word, or leave Held (R222). -/
def execTrsCtrlHold (_m : Master) (n : Fin 4) (v : Bool) (s : State) : Host.Outcome State Fault Refusal :=
  s.run (fun s => s.onUnit (Reg.TRSn_CTRL n) (fun s => s.trsHold n v))

/-- TRS_CTRL_STEP: A write of 1 to STEP while Held executes one word (R222). -/
def execTrsCtrlStep (_m : Master) (n : Fin 4) (s : State) : Host.Outcome State Fault Refusal :=
  s.run (fun s => s.onUnit (Reg.TRSn_CTRL n) (fun s => s.trsStep n))

/-- CONTROL_STORE_HOLDING_WRITE: A write to offsets 0x00-0x0C of a slot goes to the master's holding register
(R257). -/
def execControlStoreHoldingWrite (m : Master) (w : Fin 16384) (part : Fin 4) (v : Word) (s : State) : Host.Outcome State Fault Refusal :=
  s.run (fun s => s.csHold m w.val part.val v)

/-- CONTROL_STORE_COMMIT: A write to offset 0x10 commits the whole word with its parity, unless the region refuses
the write (R257). -/
def execControlStoreCommit (m : Master) (w : Fin 16384) (v : Word) (s : State) : Host.Outcome State Fault Refusal :=
  s.run (fun s => s.csCommitWrite m w.val v)

/-- SM1_ACCEPT: SM1 is detected inside its window and accepted, possibly provisionally (R279). -/
def execSm1Accept (n : Fin 4) (e : Int) (bits : Word) (s : State) : Host.Outcome State Fault Refusal :=
  s.run (fun s => s.sm1Accept n e bits)

/-- SM2_CHECK: SM2 is confirmed after SM1, or searched when SM1 was missed (R280). -/
def execSm2Check (n : Fin 4) (found : Option (Int × Word)) (s : State) : Host.Outcome State Fault Refusal :=
  s.run (fun s => s.sm2Check n found)

/-- SYNC_WINDOW_CLOSE: the SM2 window closes; a sector with no mark becomes a sync miss (R281). -/
def execSyncWindowClose (n : Fin 4) (vals : Samples) (s : State) : Host.Outcome State Fault Refusal :=
  s.run (fun s => s.syncClose n vals)

/-- CODEWORD_ARRIVAL: A sector's Parity element ends and its codeword enters the decoder input buffer (R285). -/
def execCodewordArrival (n : Fin 4) (vals : Samples) (s : State) : Host.Outcome State Fault Refusal :=
  s.run (fun s => s.codewordArrival n vals)

/-- DECODE_COMPLETE: A decoder unit finishes; data and tag are stored on success and the result enters the queue
(R286). -/
def execDecodeComplete (n : Fin 4) (u iters : Nat) (payload parity : List Byte) (s : State) : Host.Outcome State Fault Refusal :=
  s.run (fun s => s.decodeComplete n u iters payload parity)

/-- REDECODE_START: A re-decode element starts on a free unit and decodes a sample slot at an offset (R291). -/
def execRedecodeStart (n : Fin 4) (s : State) : Host.Outcome State Fault Refusal :=
  s.run (fun s => s.redecodeStart n)

/-- SERVO_WINDOW_BEGIN: the lane enters its servo window; elements are suspended and WG and AG are masked (R272). -/
def execServoWindowBegin (n : Fin 4) (s : State) : Host.Outcome State Fault Refusal :=
  s.run (fun s => s.servoWindowBegin n)

/-- SERVO_WINDOW_END: the servo window ends and the suspended elements resume (R272). -/
def execServoWindowEnd (n : Fin 4) (s : State) : Host.Outcome State Fault Refusal :=
  s.run (fun s => s.servoWindowEnd n)

/-- BUFFER_UNDERRUN: A payload bit is due before it is fetched; write data is masked to the end of the sector
(R297). -/
def execBufferUnderrun (n : Fin 4) (s : State) : Host.Outcome State Fault Refusal :=
  s.run (fun s => s.bufferUnderrun n)

/-- RWC_SVWIN_WRITE: A write of the servo window is refused with a Notice when the window is too long (R300). -/
def execRwcSvwinWrite (_m : Master) (n : Fin 4) (w : Word) (s : State) : Host.Outcome State Fault Refusal :=
  s.run (fun s => s.onUnit (Reg.RWCn_SVWIN n) (fun s => s.svwinWrite n w))

/-- PREAMP_COMMAND_SEND: the next queued preamp command goes out as a serial frame (R313). -/
def execPreampCommandSend (n : Fin 4) (s : State) : Host.Outcome State Fault Refusal :=
  s.run (fun s => s.preampSend n)

/-- PREAMP_FRAME_ACK: A frame ends or its read data is captured and checked; the command is acknowledged (R314). -/
def execPreampFrameAck (n : Fin 4) (rdata : BitVec 16) (s : State) : Host.Outcome State Fault Refusal :=
  s.run (fun s => s.preampAck n rdata)

/-- ESCAPE_DETECT: 8 cycles after inhibit, a driver that is not off records an escape and sets the actuator Out
(R328). -/
def execEscapeDetect (n : Fin 4) (s : State) : Host.Outcome State Fault Refusal :=
  s.run (fun s => s.escapeDetect n)

/-- SHOCK_COMPARATOR_CHANGE: A filtered analog shock comparator changes state (R323). -/
def execShockComparatorChange (rot : Bool) (level held : Nat) (s : State) : Host.Outcome State Fault Refusal :=
  s.run (fun s => s.shockChange rot level held)

/-- SHOCK_HOLD_EXPIRY: HOLD piers after the last input clears, the shock source becomes inactive (R323). -/
def execShockHoldExpiry (s : State) : Host.Outcome State Fault Refusal :=
  s.run (fun s => s.shockHoldExpiry)

/-- MEMS_READ: once per span PIF reads the MEMS sensor and compares it with the threshold (R324). -/
def execMemsRead (x0 x1 y0 y1 z0 z1 : Byte) (s : State) : Host.Outcome State Fault Refusal :=
  s.run (fun s => s.memsRead x0 x1 y0 y1 z0 z1)

/-- SHOCK_INPUT_STUCK: an input active more than 64 piers, or 8 constant MEMS reads, is declared stuck (R325). -/
def execShockInputStuck (which : Fin 3) (s : State) : Host.Outcome State Fault Refusal :=
  s.run (fun s => s.shockStuck which)

/-- PIF_SHK_ACK_WRITE: the owner acknowledges stuck inputs, masking them or keeping them (R326). -/
def execPifShkAckWrite (m : Master) (ack : BitVec 2) (s : State) : Host.Outcome State Fault Refusal :=
  s.run (fun s => s.shkAckWrite m ack)

/-- PREAMP_FAULT_LINE: the filtered fault line becomes active; FAULT is set and a running operation is force-stopped
(R327). -/
def execPreampFaultLine (n : Fin 4) (held : Nat) (s : State) : Host.Outcome State Fault Refusal :=
  s.run (fun s => s.faultLineOn n held)

/-- PA_FORCE_WRITE: A write of PAn_CTRL.FORCE sets or clears the force inhibit source (R321). -/
def execPaForceWrite (_m : Master) (n : Fin 4) (v : Bool) (s : State) : Host.Outcome State Fault Refusal :=
  s.run (fun s => s.onUnit (Reg.PAn_CTRL n) (fun s => s.forceWrites n v))

/-- ASSIST_OVERON: the laser stays in Write beyond MAXON spans; AST drives it Off and activates the assist source
(R319). -/
def execAssistOveron (n : Fin 4) (s : State) : Host.Outcome State Fault Refusal :=
  s.run (fun s => s.assistOveron n)

/-- INHIBIT_CLEAR_REPOST: once inhibit clears, firmware re-posts the remainder of a write ended by Write inhibited
(R330). -/
def execInhibitClearRepost (k : Nat) (ring : Fin 6) (s : State) : Host.Outcome State Fault Refusal :=
  s.run (fun s => s.inhibitRepost k ring)

/-- WRITE_INHIBITED_TIMEOUT: after 120 revolutions the waiting command completes with Write Inhibited (R330). -/
def execWriteInhibitedTimeout (k : Nat) (s : State) : Host.Outcome State Fault Refusal :=
  s.run (fun s => s.inhibitTimeout k)

/-- SAM_DETECT: SVDn accepts a servo address mark and demodulates the field (R337). -/
def execSamDetect (n : Fin 4) (instant : Nat) (bits : BitVec 16) (bn bq : Int) (idxWord : BitVec 12) (gray : BitVec 24) (s : State) : Host.Outcome State Fault Refusal :=
  s.run (fun s => s.samDetect n instant bits bn bq idxWord gray)

/-- SAMPLE_PUBLISH: 96 cycles after SAM, or after the window closes empty, the sample is published to the engines
(R337). -/
def execSamplePublish (n : Fin 4) (s : State) : Host.Outcome State Fault Refusal :=
  s.run (fun s => s.samplePublish n)

/-- ENGINE_DELIVERY: an engine delivers its output record to SRFn, which compares, commits or judges (R379). -/
def execEngineDelivery (n : Fin 4) (e : Fin 2) (dv dm : Int) (dsig : Word) (flag : Bool) (ecc : Nat) (s : State) : Host.Outcome State Fault Refusal :=
  s.run (fun s => s.engineDelivery n e dv dm dsig flag ecc)

/-- OUTPUT_DEADLINE: the commit deadline passes without a commit; the output is late and the overrun escalation runs
(R358). -/
def execOutputDeadline (n : Fin 4) (s : State) : Host.Outcome State Fault Refusal :=
  s.run (fun s => s.outputDeadline n)

/-- KEYSTONE_EXPIRY: ln reaches the expiry pier without a commit; the Holder is judged and the keystone moves or the
actuator is fenced (R384). -/
def execKeystoneExpiry (n : Fin 4) (s : State) : Host.Outcome State Fault Refusal :=
  s.run (fun s => s.keystoneExpiry n)

/-- SWITCHOVER_INHIBIT_RELEASE: after SWN on-time commits, the switch-over write inhibit is withdrawn (R385). -/
def execSwitchoverInhibitRelease (n : Fin 4) (s : State) : Host.Outcome State Fault Refusal :=
  s.run (fun s => s.swnRelease n)

/-- RESYNC_PARAMETER_COPY_DONE: the parameter copy ends and the state copy follows after the next commit (R388). -/
def execResyncParameterCopyDone (n : Fin 4) (e : Fin 2) (s : State) : Host.Outcome State Fault Refusal :=
  s.run (fun s => s.resyncCopied n e)

/-- PLANNED_SWAP_SCHEDULE: once per 24 hours of power-on firmware requests a planned swap (R387). -/
def execPlannedSwapSchedule (n : Fin 4) (s : State) : Host.Outcome State Fault Refusal :=
  s.run (fun s => s.plannedSwap n)

/-- SRF_CTRL_SWAP: A SWAP write performs a switch-over at the next sample without a judgment (R387). -/
def execSrfCtrlSwap (m : Master) (n : Fin 4) (s : State) : Host.Outcome State Fault Refusal :=
  s.run (fun s => s.onUnit (Reg.SRFn_CTRL n) (fun s => s.srfSwap m n))

/-- SRF_CTRL_FENCE: A FENCE write judges the named engine with cause Forced (R380). -/
def execSrfCtrlFence (m : Master) (n : Fin 4) (e : Fin 2) (s : State) : Host.Outcome State Fault Refusal :=
  s.run (fun s => s.onUnit (Reg.SRFn_CTRL n) (fun s => s.srfFence m n e))

/-- SRF_CTRL_RESYNC: A RESYNC write starts re-synchronisation of a Fenced or Retired engine (R388). -/
def execSrfCtrlResync (m : Master) (n : Fin 4) (e : Fin 2) (s : State) : Host.Outcome State Fault Refusal :=
  s.run (fun s => s.onUnit (Reg.SRFn_CTRL n) (fun s => s.srfResync m n e))

/-- SRF_CTRL_CORRUPT: A CORRUPT write inverts bit 0 of the next u_v of the named engine (R392). -/
def execSrfCtrlCorrupt (m : Master) (n : Fin 4) (e : Fin 2) (s : State) : Host.Outcome State Fault Refusal :=
  s.run (fun s => s.onUnit (Reg.SRFn_CTRL n) (fun s => s.srfCorrupt m n e))

/-- SCE_CTRL_LOAD: A LOAD write gives out the keystone and starts a Ramp load (R376). -/
def execSceCtrlLoad (_m : Master) (e : Fin 8) (s : State) : Host.Outcome State Fault Refusal :=
  s.run (fun s => s.onUnit (Reg.SCEn_CTRL e) (fun s => s.sceLoad (enginePair e)))

/-- SCE_CTRL_UNLOAD: an UNLOAD write starts a Ramp unload (R353). -/
def execSceCtrlUnload (_m : Master) (e : Fin 8) (s : State) : Host.Outcome State Fault Refusal :=
  s.run (fun s => s.onUnit (Reg.SCEn_CTRL e) (fun s => s.sceUnload (enginePair e)))

/-- SCE_CTRL_FORCE_RED: A FORCE_RED write hands over to the Reduced law (R353). -/
def execSceCtrlForceRed (_m : Master) (e : Fin 8) (s : State) : Host.Outcome State Fault Refusal :=
  s.run (fun s => s.onUnit (Reg.SCEn_CTRL e) (fun s => s.sceForceRed (enginePair e)))

/-- SCE_CTRL_RESUME: A RESUME write moves the pair from Reduced to Settle (R353). -/
def execSceCtrlResume (_m : Master) (e : Fin 8) (s : State) : Host.Outcome State Fault Refusal :=
  s.run (fun s => s.onUnit (Reg.SCEn_CTRL e) (fun s => s.sceResume (enginePair e)))

/-- SCE_CTRL_APPLY: an APPLY write applies the shadow parameters at the next sample (R344). -/
def execSceCtrlApply (_m : Master) (e : Fin 8) (s : State) : Host.Outcome State Fault Refusal :=
  s.run (fun s => s.onUnit (Reg.SCEn_CTRL e) (fun s => s.sceApply (enginePair e)))

/-- SCE_PAIR_REGISTER_WRITE: A write to an engine register is performed on both engines of the pair at once (R343).
-/
def execScePairRegisterWrite (m : Master) (a : Nat) (w : Word) (s : State) : Host.Outcome State Fault Refusal :=
  s.run (fun s => s.busRow m a w (decide (a % 4 = 0) && (scePair a).isSome))

/-- RAMP_LOAD_TIMEOUT: no servo lock within 2 revolutions of a load turns it into an unload (R353). -/
def execRampLoadTimeout (n : Fin 4) (s : State) : Host.Outcome State Fault Refusal :=
  s.run (fun s => s.rampTimeout n)

/-- HOLD_RELOCK_TIMEOUT: RELOCK piers in Hold without lock send the pair to Retract (R353). -/
def execHoldRelockTimeout (n : Fin 4) (s : State) : Host.Outcome State Fault Refusal :=
  s.run (fun s => s.relockTimeout n)

/-- INJECTION_END: the injection duration runs out and EN returns to 0 (R367). -/
def execInjectionEnd (n : Fin 4) (s : State) : Host.Outcome State Fault Refusal :=
  s.run (fun s => s.injectionEnd n)

/-- CAPTURE_ARM: A write of 1 to CTRL.ARM arms the capture unit (R368). -/
def execCaptureArm (m : Master) (u : Fin 2) (s : State) : Host.Outcome State Fault Refusal :=
  s.run (fun s => if s.isOwner m then s.captureArm u else s)

/-- CAPTURE_CTRL_STOP: A write of 1 to CTRL.STOP ends a ring capture after COUNT more samples (R368). -/
def execCaptureCtrlStop (m : Master) (u : Fin 2) (s : State) : Host.Outcome State Fault Refusal :=
  s.run (fun s => if s.isOwner m then s.captureCtrlStop u else s)

/-- BRIDGE_SWITCH: the VCM current leaves the hysteresis band and the bridge changes state, after the dwell (R361).
-/
def execBridgeSwitch (n : Fin 4) (i : Int) (s : State) : Host.Outcome State Fault Refusal :=
  s.run (fun s => s.bridgeSwitch n i)

/-- VCM_OVERCURRENT_TRIP: the coil current exceeds IOC and the bridge turns off until the next commit (R362). -/
def execVcmOvercurrentTrip (n : Fin 4) (i : Int) (s : State) : Host.Outcome State Fault Refusal :=
  s.run (fun s => s.vcmTrip n i)

/-- COIL_THERMAL_UPDATE: once per span the coil temperature model and thermal limit are updated (R365). -/
def execCoilThermalUpdate (n : Fin 4) (mean : Int) (rms : Nat) (mv : Int) (s : State) : Host.Outcome State Fault Refusal :=
  s.run (fun s => s.coilUpdate n mean rms mv)

/-- RETRACT_PHASE_END: the move or park phase of a retract ends; after the park phase the pair goes Idle (R424). -/
def execRetractPhaseEnd (n : Fin 4) (s : State) : Host.Outcome State Fault Refusal :=
  (s.retractEnd n).done

/-- SMC_CTRL_START: A START write starts or resumes the spindle (R403). -/
def execSmcCtrlStart (_m : Master) (s : State) : Host.Outcome State Fault Refusal :=
  s.run (fun s => s.onUnit (Reg.SMC_CTRL) (fun s => s.smcStart))

/-- SMC_CTRL_STOP: A STOP write stops the spindle under BRAKE.MODE (R403). -/
def execSmcCtrlStop (_m : Master) (s : State) : Host.Outcome State Fault Refusal :=
  s.run (fun s => s.onUnit (Reg.SMC_CTRL) (fun s => s.smcStop))

/-- SMC_SETPT_WRITE: A set-point write is range-checked (R409). -/
def execSmcSetptWrite (_m : Master) (w : Word) (s : State) : Host.Outcome State Fault Refusal :=
  s.run (fun s => s.onUnit (Reg.SMC_SETPT) (fun s => s.smcSetpt w.toNat))

/-- DETECT_COMPLETE: inductive detection ends and open-loop starts at the detected step, or Align follows (R405). -/
def execDetectComplete (p0 p1 p2 p3 p4 p5 : Nat) (s : State) : Host.Outcome State Fault Refusal :=
  s.run (fun s => s.detectComplete (peaks p0 p1 p2 p3 p4 p5))

/-- ALIGN_END: the Align hold ends and open-loop starts at step 2 (R406). -/
def execAlignEnd (s : State) : Host.Outcome State Fault Refusal :=
  s.run (fun s => s.alignEnd)

/-- OPEN_LOOP_STEP: an open-loop interval ends and the drive step advances (R406). -/
def execOpenLoopStep (s : State) : Host.Outcome State Fault Refusal :=
  s.run (fun s => s.openLoopStep)

/-- BEMF_CROSSING: A filtered back-EMF comparator change is accepted as a forward or reverse crossing (R399). -/
def execBemfCrossing (kind : Fin 6) (edge held : Nat) (s : State) : Host.Outcome State Fault Refusal :=
  s.run (fun s => s.bemfCrossing kind edge held)

/-- COMMUTATION: half a crossing interval after a forward crossing, six-step drive commutates (R401). -/
def execCommutation (s : State) : Host.Outcome State Fault Refusal :=
  s.run (fun s => s.commutation)

/-- START_BOUND_EXPIRY: A start not reaching Sine within SPINMAX ends as an abort of attempt 4 (R407). -/
def execStartBoundExpiry (s : State) : Host.Outcome State Fault Refusal :=
  s.run (fun s => s.startBound)

/-- STANDSTILL_DETECT: STOPWAIT spans without a crossing declare the spindle stopped (R407). -/
def execStandstillDetect (s : State) : Host.Outcome State Fault Refusal :=
  s.run (fun s => s.standstill)

/-- CATCH_TIMEOUT: the 18 crossings do not arrive within CATCHMAX and the catch fails (R416). -/
def execCatchTimeout (s : State) : Host.Outcome State Fault Refusal :=
  s.run (fun s => s.catchTimeout)

/-- SPEED_LOOP_RUN: every 16 spans the speed loop measures speed, ramps the target and updates the amplitude (R408).
-/
def execSpeedLoopRun (obsTheta : BitVec 32) (obsSpeed obsEmf : Nat) (ibr : BitVec 16) (s : State) : Host.Outcome State Fault Refusal :=
  s.run (fun s => s.speedLoop obsTheta obsSpeed obsEmf ibr)

/-- SPINDLE_OVERCURRENT_TRIP: the bridge current exceeds IOC and the bridge turns off for the PWM period; 64 trips
escalate (R418). -/
def execSpindleOvercurrentTrip (i : Nat) (s : State) : Host.Outcome State Fault Refusal :=
  s.run (fun s => s.spindleTrip i)

/-- SPREF_SAMPLE: once per span SPREF is digitised and averaged into the set-point (R410). -/
def execSprefSample (code : BitVec 12) (s : State) : Host.Outcome State Fault Refusal :=
  s.run (fun s => s.sprefSample code)

/-- CHOPPER_GATE_ON: VMOT rises to 16.5 V and the brake chopper gate turns on (R420). -/
def execChopperGateOn (mv held : Nat) (s : State) : Host.Outcome State Fault Refusal :=
  s.run (fun s => s.chopperOn mv held)

/-- CHOPPER_GATE_OFF: VMOT falls to 16.0 V and the brake chopper gate turns off (R420). -/
def execChopperGateOff (mv held : Nat) (s : State) : Host.Outcome State Fault Refusal :=
  s.run (fun s => s.chopperOff mv held)

/-- CHOPPER_FAULT: VMOT or the chopper current misses its bound after the gate turned on; CHOP is set and the device
goes to Fault Stop (R421). -/
def execChopperFault (mv brki : Nat) (s : State) : Host.Outcome State Fault Refusal :=
  s.run (fun s => s.chopperFault mv brki)

/-- VMOT_OVERVOLTAGE: VMOT reaches 17.5 V; all power stages turn off, the actuators retract and a Fatal event
follows (R422). -/
def execVmotOvervoltage (mv held : Nat) (s : State) : Host.Outcome State Fault Refusal :=
  s.run (fun s => s.vmotOver mv held)

/-- OVP_SHORT_BRAKE_RETRY: with CHOP or OVP set, VMOT below 14.0 V moves Coast to Short-brake (R422). -/
def execOvpShortBrakeRetry (mv held : Nat) (s : State) : Host.Outcome State Fault Refusal :=
  s.run (fun s => s.ovpRetry mv held)

/-- VMOT_POWER_LOSS: VMOT falls below 8.0 V; the isolation FET opens, the SMC enters Rectify and every actuator
retracts (R423). -/
def execVmotPowerLoss (mv held : Nat) (s : State) : Host.Outcome State Fault Refusal :=
  s.run (fun s => s.vmotLoss mv held)

/-- VMOT_RESTORE: VMOT returns to at least 9.0 V and VLOSS clears (R568). -/
def execVmotRestore (mv : Nat) (s : State) : Host.Outcome State Fault Refusal :=
  s.run (fun s => s.vmotRestore mv)

/-- VMOT_RESTART_COUNT: after 1,000 ticks at or above 9.0 V firmware writes SMC START (R568). -/
def execVmotRestartCount (s : State) : Host.Outcome State Fault Refusal :=
  s.run (fun s => s.vmotRestart)

/-- IDLE_SEAL: IDLE revolutions without a write to a zone with data in its open sector end the block and seal
(R438). -/
def execIdleSeal (nsid zone : Nat) (s : State) : Host.Outcome State Fault Refusal :=
  s.run (fun s => s.idleSeal nsid zone)

/-- SCRUB_READ: the scrubber reads the next line or word on its schedule (R468). -/
def execScrubRead (dram : Bool) (nsym : Fin 256) (content : MemContent) (client : Option Bool) (s : State) : Host.Outcome State Fault Refusal :=
  s.run (fun s => s.scrubRead dram nsym.val content client)

/-- DRAM_REFRESH: the DMC issues refresh at the rate the device temperature needs (R459). -/
def execDramRefresh (sub : Fin 4) (deg : Int) (s : State) : Host.Outcome State Fault Refusal :=
  s.run (fun s => s.dramRefresh sub deg)

/-- RMT_ENTRY_WRITE: A remap entry write starts a copy to the spare, or ends a redirection (R470). -/
def execRmtEntryWrite (m : Master) (dram : Bool) (i : Fin 32) (w : Word) (s : State) : Host.Outcome State Fault Refusal :=
  s.run (fun s => s.rmtWrite m dram i.val w)

/-- RMT_COPY_DONE: the remap copy ends and accesses go to the spare (R470). -/
def execRmtCopyDone (dram : Bool) (i : Fin 32) (s : State) : Host.Outcome State Fault Refusal :=
  s.run (fun s => s.rmtDone dram i.val)

/-- FMR_ARM: arming the flip-mask register corrupts the next write to the named address (R473). -/
def execFmrArm (m : Master) (w : Word) (s : State) : Host.Outcome State Fault Refusal :=
  s.run (fun s => s.fmrArm m w)

/-- RECOVERY_BOUND_REACHED: A read's recovery revolution bound is reached and no further step is committed (R481).
-/
def execRecoveryBoundReached (k : Nat) (s : State) : Host.Outcome State Fault Refusal :=
  s.run (fun s => s.boundStep k)

/-- BACKGROUND_SCAN_POST: firmware posts scan reads to cover every data sector once per SCAN_DAYS (R487). -/
def execBackgroundScanPost (ring : Fin 6) (d : OpDesc) (ext : Option (Nat × Nat × Nat)) (s : State) : Host.Outcome State Fault Refusal :=
  s.run (fun s => s.scanPost ring d ext)

/-- FAULT_HANDLER_TIMEOUT: A fault handler not complete after 100 ms is an FT (R489). -/
def execFaultHandlerTimeout (s : State) : Host.Outcome State Fault Refusal :=
  s.run (fun s => s.handlerTimeout)

/-- FAULT_STOP_RESET_REQUEST: with every controller disabled, firmware requests a chip-wide reset once the flash
writes complete (R492). -/
def execFaultStopResetRequest (s : State) : Host.Outcome State Fault Refusal :=
  s.run (fun s => s.faultStopReset)

/-- EVR_RECORD_WRITE: the EVR writes the next queued offer into a ring slot with its snapshot (R507). -/
def execEvrRecordWrite (s : State) : Host.Outcome State Fault Refusal :=
  s.run (fun s => s.recordWrite)

/-- EVR_MIRROR_COPY: firmware copies valid records to the system-area mirror within its deadline (R511). -/
def execEvrMirrorCopy (slot : Nat) (posts : List PostReq) (s : State) : Host.Outcome State Fault Refusal :=
  s.run (fun s => s.mirrorWrite slot posts)

/-- EVR_POST: A write of POST_CTRL offers a firmware post (R517). -/
def execEvrPost (m : Master) (w : Word) (s : State) : Host.Outcome State Fault Refusal :=
  s.run (fun s => s.evrPost m w)

/-- EVR_CTRL_CLEAR: A write of 1 to CLEAR invalidates every ring slot (R517). -/
def execEvrCtrlClear (_m : Master) (w : Word) (s : State) : Host.Outcome State Fault Refusal :=
  s.run (fun s => if w.getLsbD 0 then s.evrCtrl w else s)

/-- EVR_CTRL_UNFREEZE: A write of 1 to UNFREEZE ends a freeze (R510). -/
def execEvrCtrlUnfreeze (_m : Master) (w : Word) (s : State) : Host.Outcome State Fault Refusal :=
  s.run (fun s => if w.getLsbD 1 then s.evrCtrl w else s)

/-- EVR_LIST_WRITE: A snapshot list entry write is checked and refused with a Notice when invalid (R504). -/
def execEvrListWrite (m : Master) (l : Fin 8) (k : Fin 48) (w : Word) (s : State) : Host.Outcome State Fault Refusal :=
  s.run (fun s => s.evrListWrite m l k w)

/-- CHAIN_LINK_UP: A chain receive link comes Up after 64 valid idle characters (R523). -/
def execChainLinkUp (up : Bool) (idles : Nat) (present : Bool) (s : State) : Host.Outcome State Fault Refusal :=
  s.run (fun s => s.chainLinkUp up idles present)

/-- CHAIN_LINK_DOWN: A chain receive link goes Down after code violations or loss of signal (R523). -/
def execChainLinkDown (up : Bool) (violations silent : Nat) (present : Bool) (s : State) : Host.Outcome State Fault Refusal :=
  s.run (fun s => s.chainLinkDown up violations silent present)

/-- HEAD_TIMER_EXPIRY: with HEADEN set and the upstream link not Up for 1,000 ms, the unit becomes head (R521). -/
def execHeadTimerExpiry (s : State) : Host.Outcome State Fault Refusal :=
  s.run (fun s => s.headTimer)

/-- ENUM_FRAME: an ENUM sets the unit's address and delay and is forwarded, or answered with ENUM_END (R530). -/
def execEnumFrame (up : Bool) (f : Frame) (s : State) : Host.Outcome State Fault Refusal :=
  s.run (fun s => s.rx up f)

/-- ENUM_END_FRAME: A head stores the unit count from ENUM_END (R530). -/
def execEnumEndFrame (up : Bool) (f : Frame) (s : State) : Host.Outcome State Fault Refusal :=
  s.run (fun s => s.rx up f)

/-- PROBE_FRAME: A PROBE from downstream is answered with ECHO after 200 cycles (R528). -/
def execProbeFrame (up : Bool) (f : Frame) (s : State) : Host.Outcome State Fault Refusal :=
  s.run (fun s => s.rx up f)

/-- ECHO_FRAME: an ECHO gives the round trip and sets the hop and accumulated delays (R528). -/
def execEchoFrame (up : Bool) (f : Frame) (s : State) : Host.Outcome State Fault Refusal :=
  s.run (fun s => s.rx up f)

/-- TIME_FRAME: A TIME after an accepted VSYNC latches the master and own stamps (R537). -/
def execTimeFrame (up : Bool) (f : Frame) (s : State) : Host.Outcome State Fault Refusal :=
  s.run (fun s => s.rx up f)

/-- ATTACH_FRAME: an ATTACH at the head triggers enumeration (R529). -/
def execAttachFrame (up : Bool) (f : Frame) (s : State) : Host.Outcome State Fault Refusal :=
  s.run (fun s => s.rx up f)

/-- DETACH_FRAME: A DETACH at the head triggers enumeration (R529). -/
def execDetachFrame (up : Bool) (f : Frame) (s : State) : Host.Outcome State Fault Refusal :=
  s.run (fun s => s.rx up f)

/-- REG_READ_FRAME: A chain register read is served and answered with RESPONSE (R538). -/
def execRegReadFrame (up : Bool) (f : Frame) (s : State) : Host.Outcome State Fault Refusal :=
  s.run (fun s => s.rx up f)

/-- REG_WRITE_FRAME: A chain register write is performed, or refused, and answered with RESPONSE (R538). -/
def execRegWriteFrame (up : Bool) (f : Frame) (s : State) : Host.Outcome State Fault Refusal :=
  s.run (fun s => s.rx up f)

/-- OWN_FRAME: A chain ownership request is handled under the ownership rules and answered (R538). -/
def execOwnFrame (up : Bool) (f : Frame) (s : State) : Host.Outcome State Fault Refusal :=
  s.run (fun s => s.rx up f)

/-- RESPONSE_FRAME: A RESPONSE from downstream is forwarded upstream (R527). -/
def execResponseFrame (up : Bool) (f : Frame) (s : State) : Host.Outcome State Fault Refusal :=
  s.run (fun s => s.rx up f)

/-- PROBE_TIMER: every 10 s while the upstream link stays Up, the unit sends PROBE (R528). -/
def execProbeTimer (s : State) : Host.Outcome State Fault Refusal :=
  s.run (fun s => s.probeTimer)

/-- ECHO_TIMEOUT: no ECHO within 2,000 cycles leaves the delays unchanged (R528). -/
def execEchoTimeout (s : State) : Host.Outcome State Fault Refusal :=
  s.run (fun s => s.echoTimeout)

/-- ENUM_SEND: A head sends ENUM after becoming head, an ATTACH or DETACH, or its downstream link coming Up (R529).
-/
def execEnumSend (s : State) : Host.Outcome State Fault Refusal :=
  s.run (fun s => s.enumSend)

/-- ATTACH_SEND: A unit whose downstream neighbour answered a PROBE sends ATTACH (R531). -/
def execAttachSend (s : State) : Host.Outcome State Fault Refusal :=
  s.run (fun s => s.attachSend)

/-- VCH_CTRL_ENUM: A write of 1 to ENUM starts enumeration when head (R529). -/
def execVchCtrlEnum (_m : Master) (s : State) : Host.Outcome State Fault Refusal :=
  s.run (fun s => s.vchEnum)

/-- VCH_CTRL_PROBE: A write of 1 to PROBE sends a PROBE now (R528). -/
def execVchCtrlProbe (_m : Master) (s : State) : Host.Outcome State Fault Refusal :=
  s.run (fun s => s.sendProbe)

/-- VSYNC_RECEIVE: A received VSYNC is compensated and accepted, re-anchored or rejected by the sync state machine
(R534). -/
def execVsyncReceive (s : State) : Host.Outcome State Fault Refusal :=
  s.run (fun s => s.vsyncReceive)

/-- VSYNC_FORWARD: A received VSYNC is sent downstream 48 to 87 cycles after detection (R532). -/
def execVsyncForward (s : State) : Host.Outcome State Fault Refusal :=
  s.run (fun s => s.vsyncForward)

/-- VSYNC_WINDOW_CLOSE: A Locked window closes with no VSYNC; a rejection counts and 8 lead to Holdover (R534). -/
def execVsyncWindowClose (s : State) : Host.Outcome State Fault Refusal :=
  s.run (fun s => s.vsyncWindowClose)

/-- TIME_SEND: the master sends TIME within the revolution after each VSYNC it emits (R537). -/
def execTimeSend (s : State) : Host.Outcome State Fault Refusal :=
  s.run (fun s => s.timeSend)

/-- HANDOVER_TIMEOUT: HOTMO expires and a pending handover is cancelled (R544). -/
def execHandoverTimeout (s : State) : Host.Outcome State Fault Refusal :=
  s.run (fun s => s.handoverTimeout)

/-- GRACE_EXPIRY: GRACE expires and a Suspended owner is lost (R544). -/
def execGraceExpiry (s : State) : Host.Outcome State Fault Refusal :=
  s.run (fun s => s.graceExpiry)

/-- SMBUS_OWNER_TIMEOUT: no MCTP message for SMBTMO seconds suspends an SMBus owner (R545). -/
def execSmbusOwnerTimeout (s : State) : Host.Outcome State Fault Refusal :=
  s.run (fun s => s.smbusOwnerTimeout)

/-- BAR2_OWN_ACTION: A BAR2 ACTION write performs Claim or Release for the function's port (R2). -/
def execBar2OwnAction (m : Fin 2) (off : Nat) (acc : BarAccess) (s : State) : Host.Outcome State Fault Refusal :=
  s.run (fun s => s.bar2 m off acc)

/-- SMBUS_BASIC_MANAGEMENT_READ: A basic management command read returns the data structure at address 0x6A (R539).
-/
def execSmbusBasicManagementRead (s : State) : Host.Outcome State Fault Refusal :=
  s.run (fun s => s.basicRead)

/-- MCTP_SET_ENDPOINT_ID: sets the MCTP endpoint ID (R539). -/
def execMctpSetEndpointId (eid : Fin 256) (s : State) : Host.Outcome State Fault Refusal :=
  s.run (fun s => s.mctpMsg.setEid eid.val)

/-- MCTP_GET_ENDPOINT_ID: returns the endpoint ID (R539). -/
def execMctpGetEndpointId (s : State) : Host.Outcome State Fault Refusal :=
  s.run (fun s => s.mctpMsg.getEid)

/-- MCTP_GET_VERSION_SUPPORT: returns the MCTP version support (R539). -/
def execMctpGetVersionSupport (s : State) : Host.Outcome State Fault Refusal :=
  s.run (fun s => s.mctpMsg.getMctpVersion)

/-- MCTP_GET_MESSAGE_TYPE_SUPPORT: returns the supported message types (R539). -/
def execMctpGetMessageTypeSupport (s : State) : Host.Outcome State Fault Refusal :=
  s.run (fun s => s.mctpMsg.getMsgTypes)

/-- MI_READ_DATA_STRUCTURE: the NVMe-MI command returns an MI data structure (R539). -/
def execMiReadDataStructure (len : Nat) (s : State) : Host.Outcome State Fault Refusal :=
  s.run (fun s => s.mctpMsg.miRead len)

/-- MI_SUBSYSTEM_HEALTH_POLL: returns the NVM subsystem health status (R539). -/
def execMiSubsystemHealthPoll (s : State) : Host.Outcome State Fault Refusal :=
  s.run (fun s => s.mctpMsg.miSubsystem)

/-- MI_CONTROLLER_HEALTH_POLL: returns the controller health status (R539). -/
def execMiControllerHealthPoll (s : State) : Host.Outcome State Fault Refusal :=
  s.run (fun s => s.mctpMsg.miController)

/-- MI_CONFIGURATION_GET: returns an MI configuration value (R539). -/
def execMiConfigurationGet (id : Fin 256) (s : State) : Host.Outcome State Fault Refusal :=
  s.run (fun s => s.mctpMsg.miGet id.val)

/-- MI_CONFIGURATION_SET: sets the SMBus frequency or the transmission unit (R539). -/
def execMiConfigurationSet (id : Fin 256) (v : Nat) (s : State) : Host.Outcome State Fault Refusal :=
  s.run (fun s => s.mctpMsg.miSet id.val v)

/-- MI_VPD_READ: returns vital product data (R539). -/
def execMiVpdRead (len : Nat) (s : State) : Host.Outcome State Fault Refusal :=
  s.run (fun s => s.mctpMsg.miVpd len)

/-- MI_GET_STATE: the control primitive returns the endpoint state (R539). -/
def execMiGetState (s : State) : Host.Outcome State Fault Refusal :=
  s.run (fun s => s.mctpMsg.miState)

/-- MI_ABORT: the control primitive aborts the message in progress (R539). -/
def execMiAbort (s : State) : Host.Outcome State Fault Refusal :=
  s.run (fun s => s.mctpMsg.miAbort)

/-- MI_TUNNELLED_ADMIN: A tunnelled admin command runs on controller 0x0000 with SMBus as master (R540). -/
def execMiTunnelledAdmin (e : Sqe) (s : State) : Host.Outcome State Fault Refusal :=
  s.run (fun s => s.mctpMsg.miTunnel e)

/-- SMBUS_BUS_TIMEOUT: SCL held low for 30 ms releases the lines and abandons the transaction (R626). -/
def execSmbusBusTimeout (s : State) : Host.Outcome State Fault Refusal :=
  s.run (fun s => s.smbusTimeout)

/-- PMU_TICK: every 1 ms the PMU forms device power, updates the peak bucket and state, and supplies the caps and
PCT (R559). -/
def execPmuTick (rails : List (Nat × Nat)) (d0 d1 d2 d3 d4 d5 : Option Int) (vmot vdda : Nat) (s : State) : Host.Outcome State Fault Refusal :=
  s.run (fun s => s.pmuTick rails [d0, d1, d2, d3, d4, d5] vmot vdda)

/-- DIODE_CONVERSION: every 8 ms a thermal diode is converted and validated; 8 invalid conversions set FAIL (R564).
-/
def execDiodeConversion (k : Fin 4) (v : Option Int) (s : State) : Host.Outcome State Fault Refusal :=
  s.run (fun s => s.diodeConversion k v)

/-- POWER_STATE_TRANSITION: the effective power state moves one state, performing that transition's actions (R556).
-/
def execPowerStateTransition (s : State) : Host.Outcome State Fault Refusal :=
  s.run (fun s => s.powerTransition)

/-- PS4_WAKE: A doorbell, MCTP message or chain request in PS4 wakes the cores and DRAM (R557). -/
def execPs4Wake (s : State) : Host.Outcome State Fault Refusal :=
  s.run (fun s => s.ps4Wake)

/-- SELF_REFRESH_RETURN: 1,000 ms without a request returns DRAM to self-refresh in PS4 (R557). -/
def execSelfRefreshReturn (s : State) : Host.Outcome State Fault Refusal :=
  s.run (fun s => s.selfRefreshReturn)

/-- ACTUATOR_RESTORE: after RESTORE revolutions, firmware restores a Degraded actuator to Available (R570). -/
def execActuatorRestore (n : Fin 4) (s : State) : Host.Outcome State Fault Refusal :=
  s.run (fun s => s.actuatorRestore n)

/-- OUT_RESTORE_ATTEMPT: firmware loads an Out actuator and restores it to Degraded after 64 clean revolutions
(R571). -/
def execOutRestoreAttempt (n : Fin 4) (s : State) : Host.Outcome State Fault Refusal :=
  s.run (fun s => s.outRestore n)

/-- ACTUATOR_LOAD: firmware loads a Parked actuator once its conditions hold (R572). -/
def execActuatorLoad (n : Fin 4) (s : State) : Host.Outcome State Fault Refusal :=
  s.run (fun s => s.actuatorLoad n)

/-- FIRST_LOADS: on SPUN firmware acquires the angle and loads one actuator per pair (R585). -/
def execFirstLoads (s : State) : Host.Outcome State Fault Refusal :=
  s.run (fun s => s.firstLoads)

/-- MEDIA_NOT_READY_TIMEOUT: A command waiting 60 s for the media path completes with Namespace Not Ready (R586). -/
def execMediaNotReadyTimeout (arr : Nat) (s : State) : Host.Outcome State Fault Refusal :=
  s.run (fun s => s.notReadyTimeout arr)

/-- START_UP_MEDIA_FAILURE: no pair reaches Follow at step 10; the actuators unload and the spindle stops (R586). -/
def execStartUpMediaFailure (s : State) : Host.Outcome State Fault Refusal :=
  s.run (fun s => s.mediaFailure)

/-- SYSTEM_AREA_READ_RETRY: A failed system area read is repeated every 60 s (R583). -/
def execSystemAreaReadRetry (ok : Bool) (s : State) : Host.Outcome State Fault Refusal :=
  s.run (fun s => s.systemArea ok)

/-- PMU_PSTATE_REQ_WRITE: A firmware write of the requested power state (R578). -/
def execPmuPstateReqWrite (m : Master) (w : Word) (s : State) : Host.Outcome State Fault Refusal :=
  s.run (fun s => s.pstateReqWrite m w)

/-- GPIO_INPUT_CHANGE: A filtered GPIO input changes level (R495). -/
def execGpioInputChange (pin : Fin 32) (level : Bool) (held : Nat) (s : State) : Host.Outcome State Fault Refusal :=
  s.run (fun s => s.gpioInput pin level held)

/-- UART_RX_CHARACTER: A received UART character is used only with DEBUG open (R610). -/
def execUartRxCharacter (ch : Byte) (framed : Bool) (s : State) : Host.Outcome State Fault Refusal :=
  s.run (fun s => s.uartRx ch framed)

/-- JTAG_BYPASS: the BYPASS instruction (R628). -/
def execJtagBypass (s : State) : Host.Outcome State Fault Refusal :=
  (s.jtagBypass).done

/-- JTAG_IDCODE: the IDCODE instruction (R628). -/
def execJtagIdcode (s : State) : Host.Outcome State Fault Refusal :=
  (s.jtagIdcode).done

/-- JTAG_SAMPLE_PRELOAD: the SAMPLE/PRELOAD instruction (R628). -/
def execJtagSamplePreload (pins shift : Nat) (s : State) : Host.Outcome State Fault Refusal :=
  (s.jtagSample pins shift).done

/-- JTAG_EXTEST: the EXTEST instruction (R628). -/
def execJtagExtest (pins shift : Nat) (s : State) : Host.Outcome State Fault Refusal :=
  (s.jtagExtest pins shift).done

/-- JTAG_HIGHZ: the HIGHZ instruction (R628). -/
def execJtagHighz (s : State) : Host.Outcome State Fault Refusal :=
  (s.jtagHighz).done

/-- JTAG_CLAMP: the CLAMP instruction (R628). -/
def execJtagClamp (s : State) : Host.Outcome State Fault Refusal :=
  (s.jtagClamp).done

/-- HQE_ARRIVAL_READ: A read of HQE_ARRIVAL_LO latches the upper half into HQE_ARRIVAL_HI (R155). -/
def execHqeArrivalRead (m : Master) (s : State) : Host.Outcome State Fault Refusal :=
  s.run (fun s => s.readRow m Reg.HQE_ARRIVAL_LO)

/-- SVD_POS_READ: A read of SVDn_POS_LO latches the upper bits of X (R372). -/
def execSvdPosRead (m : Master) (n : Fin 4) (s : State) : Host.Outcome State Fault Refusal :=
  s.run (fun s => s.readRow m (Reg.SVDn_POS_LO n))

/-- VCH_TREF_READ: A read of VCH_TREF_MLO latches all six TREF registers (R551). -/
def execVchTrefRead (m : Master) (s : State) : Host.Outcome State Fault Refusal :=
  s.run (fun s => s.readRow m Reg.VCH_TREF_MLO)

/-- PERST_DEASSERT: A filtered PERSTn_N deassertion releases the port from fundamental reset, clears HPXm_LINK.PERST
and lets link training begin (R495). -/
def execPerstDeassert (m : Fin 2) (held : Nat) (s : State) : Host.Outcome State Fault Refusal :=
  s.run (fun s => s.perstDeassert m held)

/-- REFERENCE_CLOCK_RESTORE: the 25 MHz reference returns, and 1 ms later the chip-wide reset held by the clock
monitor is released (R617). -/
def execReferenceClockRestore (env : StartUp) (s : State) : Host.Outcome State Fault Refusal :=
  (s.clockRestore env).done

/-- OPEN_LOOP_BOUND_EXPIRY: six consecutive forward crossings have not arrived OLMAX x 16 spans of G after open-loop
began, and the start attempt is aborted (R404). -/
def execOpenLoopBoundExpiry (s : State) : Host.Outcome State Fault Refusal :=
  s.run (fun s => s.openLoopBound)

/-- PREAMP_FAULT_LINE_INACTIVE: the filtered PAn_FAULT_N becomes inactive; once FAULT has been cleared, the preamp-
fault inhibit source goes inactive (R327). -/
def execPreampFaultLineInactive (n : Fin 4) (held : Nat) (s : State) : Host.Outcome State Fault Refusal :=
  s.run (fun s => s.faultLineOff n held)

/-- VMOT_LOSS_RUN_TIMEOUT: 60 s after a VMOT loss without the SMC reaching Run, commands waiting for the medium
complete with Namespace Not Ready (R568). -/
def execVmotLossRunTimeout (s : State) : Host.Outcome State Fault Refusal :=
  s.run (fun s => s.vmotLossTimeout)

/-- CACHE_DESTAGE_POST: resident firmware posts destage write operations for dirty write-cache data to the intake
rings (R209). -/
def execCacheDestagePost (r : Fin 6) (d : OpDesc) (nsid slba nlb : Nat) (s : State) : Host.Outcome State Fault Refusal :=
  s.run (fun s => s.destagePost r d (nsid, slba, nlb))

/-- ENTROPY_HEALTH_TEST_FAIL: the entropy source fails a continuous health test; DRBGOK falls, HEALTH is set and a
Fault event is offered (R189). -/
def execEntropyHealthTestFail (s : State) : Host.Outcome State Fault Refusal :=
  s.run (fun s => s.entropyFail)

/-- PS1_CHOICE_HOLDOFF_END: 64 revolutions after a pair's last PS1 choice change, a choice deferred by that limit is
made, unloading the old actuator and loading the new one (R558). -/
def execPs1ChoiceHoldoffEnd (k : Fin 2) (s : State) : Host.Outcome State Fault Refusal :=
  s.run (fun s => s.choiceHoldoff k)

/-- PCIE_CONFIG_WRITE: A host configuration write changes MSI-X enable, the MSI-X function mask or Bus Master
Enable, switching interrupt delivery or completion writes (R111). -/
def execPcieConfigWrite (m : Fin 2) (acc : CfgAccess) (s : State) : Host.Outcome State Fault Refusal :=
  s.run (fun s => s.configAccess m acc)

end Sys2Proof.Machine
end

