-- ==== Sys2Proof/Machine/Dispatch.lean ====
section
/-!
DEFINITION. Sys2Proof/Machine/Dispatch.lean: one arm per command, each a direct call of its meaning.
-/
namespace Sys2Proof.Machine

/-- The effect of a command on everything but the queue. -/
def exec (i : Instr) (s : State) : Host.Outcome State Fault Refusal :=
  match i with
  | .powerOnReset env vddio => Sys2Proof.Machine.execPowerOnReset env vddio s
  | .chipResetPin env low => Sys2Proof.Machine.execChipResetPin env low s
  | .sysRstChip m w => Sys2Proof.Machine.execSysRstChip m w s
  | .clockLoss => Sys2Proof.Machine.execClockLoss s
  | .railSequenceViolation rail => Sys2Proof.Machine.execRailSequenceViolation rail s
  | .vddaBelowRetractMin => Sys2Proof.Machine.execVddaBelowRetractMin s
  | .registerWrite m a w => Sys2Proof.Machine.execRegisterWrite m a w s
  | .misalignedAccess m a bytes write v => Sys2Proof.Machine.execMisalignedAccess m a bytes write v s
  | .unassignedAccess m a write => Sys2Proof.Machine.execUnassignedAccess m a write s
  | .blockBasicWrite m a w => Sys2Proof.Machine.execBlockBasicWrite m a w s
  | .blockBasicKeepWrite m a w => Sys2Proof.Machine.execBlockBasicKeepWrite m a w s
  | .expertRegisterWrite m a w => Sys2Proof.Machine.execExpertRegisterWrite m a w s
  | .lockSet m a w => Sys2Proof.Machine.execLockSet m a w s
  | .counterClear m a w => Sys2Proof.Machine.execCounterClear m a w s
  | .fabricCycleAdvance => Sys2Proof.Machine.execFabricCycleAdvance s
  | .atbSpanEnd => Sys2Proof.Machine.execAtbSpanEnd s
  | .holdoverExpiry => Sys2Proof.Machine.execHoldoverExpiry s
  | .pierDetection n instant idx head cyl => Sys2Proof.Machine.execPierDetection n instant idx head cyl s
  | .atbCtrlFree m => Sys2Proof.Machine.execAtbCtrlFree m s
  | .atbCtrlAcq m => Sys2Proof.Machine.execAtbCtrlAcq m s
  | .disagreeClear m mask => Sys2Proof.Machine.execDisagreeClear m mask s
  | .atbPiersWrite m w => Sys2Proof.Machine.execAtbPiersWrite m w s
  | .atbOffsetTableWrite m a w => Sys2Proof.Machine.execAtbOffsetTableWrite m a w s
  | .atbSyncOffWrite m w => Sys2Proof.Machine.execAtbSyncOffWrite m w s
  | .atbAngleRead m => Sys2Proof.Machine.execAtbAngleRead m s
  | .triggerCtrlWrite m n j w => Sys2Proof.Machine.execTriggerCtrlWrite m n j w s
  | .triggerAngleWrite m n j w => Sys2Proof.Machine.execTriggerAngleWrite m n j w s
  | .triggerFire n j => Sys2Proof.Machine.execTriggerFire n j s
  | .gpioPulseEnd pin => Sys2Proof.Machine.execGpioPulseEnd pin s
  | .vsyncEmit => Sys2Proof.Machine.execVsyncEmit s
  | .sqTailDoorbell m off acc => Sys2Proof.Machine.execSqTailDoorbell m off acc s
  | .cqHeadDoorbell m off acc => Sys2Proof.Machine.execCqHeadDoorbell m off acc s
  | .commandFetch m qid e => Sys2Proof.Machine.execCommandFetch m qid e s
  | .rltAdmission ranges => Sys2Proof.Machine.execRltAdmission ranges s
  | .lockGrant arr => Sys2Proof.Machine.execLockGrant arr s
  | .zoneTailGrant arr band => Sys2Proof.Machine.execZoneTailGrant arr band s
  | .dataStored arr posts => Sys2Proof.Machine.execDataStored arr posts s
  | .dirtyLimitResume arr => Sys2Proof.Machine.execDirtyLimitResume arr s
  | .completionPost arr => Sys2Proof.Machine.execCompletionPost arr s
  | .msixUnmask m off acc => Sys2Proof.Machine.execMsixUnmask m off acc s
  | .coalesceTimerExpiry m v => Sys2Proof.Machine.execCoalesceTimerExpiry m v s
  | .ccEnable m css mps ams iosqes iocqes asqs acqs asq acq => Sys2Proof.Machine.execCcEnable m css mps ams iosqes iocqes asqs acqs asq acq s
  | .controllerReset m => Sys2Proof.Machine.execControllerReset m s
  | .normalShutdown m => Sys2Proof.Machine.execNormalShutdown m s
  | .shutdownComplete m => Sys2Proof.Machine.execShutdownComplete m s
  | .abruptShutdown m => Sys2Proof.Machine.execAbruptShutdown m s
  | .functionLevelReset m => Sys2Proof.Machine.execFunctionLevelReset m s
  | .perstAssert m held => Sys2Proof.Machine.execPerstAssert m held s
  | .pcieLinkDown m => Sys2Proof.Machine.execPcieLinkDown m s
  | .pcieLinkChange m pstate rate width reversed recov => Sys2Proof.Machine.execPcieLinkChange m pstate rate width reversed recov s
  | .pcieErrorLogged m kind header arr => Sys2Proof.Machine.execPcieErrorLogged m kind header arr s
  | .dStateChange m d3 => Sys2Proof.Machine.execDStateChange m d3 s
  | .createIoSq arr => Sys2Proof.Machine.execCreateIoSq arr s
  | .createIoCq arr => Sys2Proof.Machine.execCreateIoCq arr s
  | .deleteIoSq arr => Sys2Proof.Machine.execDeleteIoSq arr s
  | .deleteIoCq arr => Sys2Proof.Machine.execDeleteIoCq arr s
  | .identify arr => Sys2Proof.Machine.execIdentify arr s
  | .abort arr => Sys2Proof.Machine.execAbort arr s
  | .getLogPage arr => Sys2Proof.Machine.execGetLogPage arr s
  | .getFeatures arr => Sys2Proof.Machine.execGetFeatures arr s
  | .setFeatures arr data => Sys2Proof.Machine.execSetFeatures arr data s
  | .setFeaturesArbitration arr => Sys2Proof.Machine.execSetFeaturesArbitration arr s
  | .setFeaturesPowerManagement arr => Sys2Proof.Machine.execSetFeaturesPowerManagement arr s
  | .setFeaturesErrorRecovery arr => Sys2Proof.Machine.execSetFeaturesErrorRecovery arr s
  | .setFeaturesVolatileWriteCache arr => Sys2Proof.Machine.execSetFeaturesVolatileWriteCache arr s
  | .setFeaturesNumberOfQueues arr => Sys2Proof.Machine.execSetFeaturesNumberOfQueues arr s
  | .setFeaturesInterruptCoalescing arr => Sys2Proof.Machine.execSetFeaturesInterruptCoalescing arr s
  | .setFeaturesModeProfile arr => Sys2Proof.Machine.execSetFeaturesModeProfile arr s
  | .asyncEventRequest arr => Sys2Proof.Machine.execAsyncEventRequest arr s
  | .namespaceCreate arr data => Sys2Proof.Machine.execNamespaceCreate arr data s
  | .namespaceDelete arr => Sys2Proof.Machine.execNamespaceDelete arr s
  | .namespaceAttach arr l => Sys2Proof.Machine.execNamespaceAttach arr l s
  | .namespaceDetach arr l => Sys2Proof.Machine.execNamespaceDetach arr l s
  | .firmwareImageDownload arr data => Sys2Proof.Machine.execFirmwareImageDownload arr data s
  | .firmwareCommitStore arr slotOk => Sys2Proof.Machine.execFirmwareCommitStore arr slotOk s
  | .firmwareCommitStoreActivate arr slotOk recOk => Sys2Proof.Machine.execFirmwareCommitStoreActivate arr slotOk recOk s
  | .firmwareCommitActivate arr recOk => Sys2Proof.Machine.execFirmwareCommitActivate arr recOk s
  | .directiveSend arr => Sys2Proof.Machine.execDirectiveSend arr s
  | .directiveReceive arr => Sys2Proof.Machine.execDirectiveReceive arr s
  | .formatNvm arr => Sys2Proof.Machine.execFormatNvm arr s
  | .securitySend arr m => Sys2Proof.Machine.execSecuritySend arr m s
  | .securityReceive arr => Sys2Proof.Machine.execSecurityReceive arr s
  | .sanitize arr => Sys2Proof.Machine.execSanitize arr s
  | .registerAccessRead arr => Sys2Proof.Machine.execRegisterAccessRead arr s
  | .registerAccessWrite arr => Sys2Proof.Machine.execRegisterAccessWrite arr s
  | .ownershipClaim arr data => Sys2Proof.Machine.execOwnershipClaim arr data s
  | .ownershipHandover arr data => Sys2Proof.Machine.execOwnershipHandover arr data s
  | .ownershipAccept arr data => Sys2Proof.Machine.execOwnershipAccept arr data s
  | .ownershipRelease arr data => Sys2Proof.Machine.execOwnershipRelease arr data s
  | .captureConfigureAndStart arr => Sys2Proof.Machine.execCaptureConfigureAndStart arr s
  | .captureRead arr errs => Sys2Proof.Machine.execCaptureRead arr errs s
  | .captureStop arr => Sys2Proof.Machine.execCaptureStop arr s
  | .captureStatus arr => Sys2Proof.Machine.execCaptureStatus arr s
  | .customerMicrocodeLoad arr img wrong flashOk => Sys2Proof.Machine.execCustomerMicrocodeLoad arr img wrong flashOk s
  | .otpProgramConfigRecord arr data ok => Sys2Proof.Machine.execOtpProgramConfigRecord arr data ok s
  | .otpProgramDpiKey arr data ok => Sys2Proof.Machine.execOtpProgramDpiKey arr data ok s
  | .otpRevokeDpiKey arr ok => Sys2Proof.Machine.execOtpRevokeDpiKey arr ok s
  | .otpRevokeRootKey arr ok => Sys2Proof.Machine.execOtpRevokeRootKey arr ok s
  | .otpRaiseFwSvn arr ok => Sys2Proof.Machine.execOtpRaiseFwSvn arr ok s
  | .otpRaiseDpiSvn arr ok => Sys2Proof.Machine.execOtpRaiseDpiSvn arr ok s
  | .evrReadConfiguration arr => Sys2Proof.Machine.execEvrReadConfiguration arr s
  | .evrSetLine arr => Sys2Proof.Machine.execEvrSetLine arr s
  | .evrWriteList arr data => Sys2Proof.Machine.execEvrWriteList arr data s
  | .evrSetConfiguration arr => Sys2Proof.Machine.execEvrSetConfiguration arr s
  | .evrClear arr => Sys2Proof.Machine.execEvrClear arr s
  | .evrUnfreeze arr => Sys2Proof.Machine.execEvrUnfreeze arr s
  | .evrPostMarker arr data => Sys2Proof.Machine.execEvrPostMarker arr data s
  | .dpiLoad arr d slotOk recOk => Sys2Proof.Machine.execDpiLoad arr d slotOk recOk s
  | .dpiActivateOther arr recOk => Sys2Proof.Machine.execDpiActivateOther arr recOk s
  | .flush arr => Sys2Proof.Machine.execFlush arr s
  | .write arr data pays merr => Sys2Proof.Machine.execWrite arr data pays merr s
  | .read arr posts seen merr => Sys2Proof.Machine.execRead arr posts seen merr s
  | .datasetManagement arr => Sys2Proof.Machine.execDatasetManagement arr s
  | .writeZeroes arr pays => Sys2Proof.Machine.execWriteZeroes arr pays s
  | .reservationRegister arr crkey nrkey => Sys2Proof.Machine.execReservationRegister arr crkey nrkey s
  | .reservationReport arr => Sys2Proof.Machine.execReservationReport arr s
  | .reservationAcquire arr crkey prkey => Sys2Proof.Machine.execReservationAcquire arr crkey prkey s
  | .reservationRelease arr crkey => Sys2Proof.Machine.execReservationRelease arr crkey s
  | .zoneAppend arr data pays merr => Sys2Proof.Machine.execZoneAppend arr data pays merr s
  | .zoneManagementReceive arr => Sys2Proof.Machine.execZoneManagementReceive arr s
  | .zoneClose arr => Sys2Proof.Machine.execZoneClose arr s
  | .zoneFinish arr => Sys2Proof.Machine.execZoneFinish arr s
  | .zoneOpen arr => Sys2Proof.Machine.execZoneOpen arr s
  | .zoneReset arr => Sys2Proof.Machine.execZoneReset arr s
  | .zoneOffline arr => Sys2Proof.Machine.execZoneOffline arr s
  | .setZoneDescriptorExtension arr => Sys2Proof.Machine.execSetZoneDescriptorExtension arr s
  | .recordPersist posts => Sys2Proof.Machine.execRecordPersist posts s
  | .xtsGenerate m slot auth => Sys2Proof.Machine.execXtsGenerate m slot auth s
  | .xtsLoad m slot auth => Sys2Proof.Machine.execXtsLoad m slot auth s
  | .xtsClear m slot auth => Sys2Proof.Machine.execXtsClear m slot auth s
  | .xtsRewrap m slot auth => Sys2Proof.Machine.execXtsRewrap m slot auth s
  | .xtsOperationDone => Sys2Proof.Machine.execXtsOperationDone s
  | .drbgHealthRetest ok => Sys2Proof.Machine.execDrbgHealthRetest ok s
  | .intakeAccept r => Sys2Proof.Machine.execIntakeAccept r s
  | .operationSelect n => Sys2Proof.Machine.execOperationSelect n s
  | .leaseExpiry => Sys2Proof.Machine.execLeaseExpiry s
  | .leaseRevoke n => Sys2Proof.Machine.execLeaseRevoke n s
  | .trsDescriptorAccept n => Sys2Proof.Machine.execTrsDescriptorAccept n s
  | .operationOutcome n posts rdBad => Sys2Proof.Machine.execOperationOutcome n posts rdBad s
  | .abortPendingTimeout n => Sys2Proof.Machine.execAbortPendingTimeout n s
  | .forcedStopTimeout n => Sys2Proof.Machine.execForcedStopTimeout n s
  | .moveListEntry => Sys2Proof.Machine.execMoveListEntry s
  | .destageRouteCheck => Sys2Proof.Machine.execDestageRouteCheck s
  | .marginCapEval => Sys2Proof.Machine.execMarginCapEval s
  | .destageEstimateUpdate exts => Sys2Proof.Machine.execDestageEstimateUpdate exts s
  | .wordRelease n => Sys2Proof.Machine.execWordRelease n s
  | .trsCtrlStop m n => Sys2Proof.Machine.execTrsCtrlStop m n s
  | .trsCtrlAbort m n => Sys2Proof.Machine.execTrsCtrlAbort m n s
  | .trsCtrlClr m n => Sys2Proof.Machine.execTrsCtrlClr m n s
  | .trsCtrlHold m n v => Sys2Proof.Machine.execTrsCtrlHold m n v s
  | .trsCtrlStep m n => Sys2Proof.Machine.execTrsCtrlStep m n s
  | .controlStoreHoldingWrite m w part v => Sys2Proof.Machine.execControlStoreHoldingWrite m w part v s
  | .controlStoreCommit m w v => Sys2Proof.Machine.execControlStoreCommit m w v s
  | .sm1Accept n e bits => Sys2Proof.Machine.execSm1Accept n e bits s
  | .sm2Check n found => Sys2Proof.Machine.execSm2Check n found s
  | .syncWindowClose n vals => Sys2Proof.Machine.execSyncWindowClose n vals s
  | .codewordArrival n vals => Sys2Proof.Machine.execCodewordArrival n vals s
  | .decodeComplete n u iters payload parity => Sys2Proof.Machine.execDecodeComplete n u iters payload parity s
  | .redecodeStart n => Sys2Proof.Machine.execRedecodeStart n s
  | .servoWindowBegin n => Sys2Proof.Machine.execServoWindowBegin n s
  | .servoWindowEnd n => Sys2Proof.Machine.execServoWindowEnd n s
  | .bufferUnderrun n => Sys2Proof.Machine.execBufferUnderrun n s
  | .rwcSvwinWrite m n w => Sys2Proof.Machine.execRwcSvwinWrite m n w s
  | .preampCommandSend n => Sys2Proof.Machine.execPreampCommandSend n s
  | .preampFrameAck n rdata => Sys2Proof.Machine.execPreampFrameAck n rdata s
  | .escapeDetect n => Sys2Proof.Machine.execEscapeDetect n s
  | .shockComparatorChange rot level held => Sys2Proof.Machine.execShockComparatorChange rot level held s
  | .shockHoldExpiry => Sys2Proof.Machine.execShockHoldExpiry s
  | .memsRead x0 x1 y0 y1 z0 z1 => Sys2Proof.Machine.execMemsRead x0 x1 y0 y1 z0 z1 s
  | .shockInputStuck which => Sys2Proof.Machine.execShockInputStuck which s
  | .pifShkAckWrite m ack => Sys2Proof.Machine.execPifShkAckWrite m ack s
  | .preampFaultLine n held => Sys2Proof.Machine.execPreampFaultLine n held s
  | .paForceWrite m n v => Sys2Proof.Machine.execPaForceWrite m n v s
  | .assistOveron n => Sys2Proof.Machine.execAssistOveron n s
  | .inhibitClearRepost k ring => Sys2Proof.Machine.execInhibitClearRepost k ring s
  | .writeInhibitedTimeout k => Sys2Proof.Machine.execWriteInhibitedTimeout k s
  | .samDetect n instant bits bn bq idxWord gray => Sys2Proof.Machine.execSamDetect n instant bits bn bq idxWord gray s
  | .samplePublish n => Sys2Proof.Machine.execSamplePublish n s
  | .engineDelivery n e dv dm dsig flag ecc => Sys2Proof.Machine.execEngineDelivery n e dv dm dsig flag ecc s
  | .outputDeadline n => Sys2Proof.Machine.execOutputDeadline n s
  | .keystoneExpiry n => Sys2Proof.Machine.execKeystoneExpiry n s
  | .switchoverInhibitRelease n => Sys2Proof.Machine.execSwitchoverInhibitRelease n s
  | .resyncParameterCopyDone n e => Sys2Proof.Machine.execResyncParameterCopyDone n e s
  | .plannedSwapSchedule n => Sys2Proof.Machine.execPlannedSwapSchedule n s
  | .srfCtrlSwap m n => Sys2Proof.Machine.execSrfCtrlSwap m n s
  | .srfCtrlFence m n e => Sys2Proof.Machine.execSrfCtrlFence m n e s
  | .srfCtrlResync m n e => Sys2Proof.Machine.execSrfCtrlResync m n e s
  | .srfCtrlCorrupt m n e => Sys2Proof.Machine.execSrfCtrlCorrupt m n e s
  | .sceCtrlLoad m e => Sys2Proof.Machine.execSceCtrlLoad m e s
  | .sceCtrlUnload m e => Sys2Proof.Machine.execSceCtrlUnload m e s
  | .sceCtrlForceRed m e => Sys2Proof.Machine.execSceCtrlForceRed m e s
  | .sceCtrlResume m e => Sys2Proof.Machine.execSceCtrlResume m e s
  | .sceCtrlApply m e => Sys2Proof.Machine.execSceCtrlApply m e s
  | .scePairRegisterWrite m a w => Sys2Proof.Machine.execScePairRegisterWrite m a w s
  | .rampLoadTimeout n => Sys2Proof.Machine.execRampLoadTimeout n s
  | .holdRelockTimeout n => Sys2Proof.Machine.execHoldRelockTimeout n s
  | .injectionEnd n => Sys2Proof.Machine.execInjectionEnd n s
  | .captureArm m u => Sys2Proof.Machine.execCaptureArm m u s
  | .captureCtrlStop m u => Sys2Proof.Machine.execCaptureCtrlStop m u s
  | .bridgeSwitch n j => Sys2Proof.Machine.execBridgeSwitch n j s
  | .vcmOvercurrentTrip n j => Sys2Proof.Machine.execVcmOvercurrentTrip n j s
  | .coilThermalUpdate n mean rms mv => Sys2Proof.Machine.execCoilThermalUpdate n mean rms mv s
  | .retractPhaseEnd n => Sys2Proof.Machine.execRetractPhaseEnd n s
  | .smcCtrlStart m => Sys2Proof.Machine.execSmcCtrlStart m s
  | .smcCtrlStop m => Sys2Proof.Machine.execSmcCtrlStop m s
  | .smcSetptWrite m w => Sys2Proof.Machine.execSmcSetptWrite m w s
  | .detectComplete p0 p1 p2 p3 p4 p5 => Sys2Proof.Machine.execDetectComplete p0 p1 p2 p3 p4 p5 s
  | .alignEnd => Sys2Proof.Machine.execAlignEnd s
  | .openLoopStep => Sys2Proof.Machine.execOpenLoopStep s
  | .bemfCrossing kind edge held => Sys2Proof.Machine.execBemfCrossing kind edge held s
  | .commutation => Sys2Proof.Machine.execCommutation s
  | .startBoundExpiry => Sys2Proof.Machine.execStartBoundExpiry s
  | .standstillDetect => Sys2Proof.Machine.execStandstillDetect s
  | .catchTimeout => Sys2Proof.Machine.execCatchTimeout s
  | .speedLoopRun obsTheta obsSpeed obsEmf ibr => Sys2Proof.Machine.execSpeedLoopRun obsTheta obsSpeed obsEmf ibr s
  | .spindleOvercurrentTrip j => Sys2Proof.Machine.execSpindleOvercurrentTrip j s
  | .sprefSample code => Sys2Proof.Machine.execSprefSample code s
  | .chopperGateOn mv held => Sys2Proof.Machine.execChopperGateOn mv held s
  | .chopperGateOff mv held => Sys2Proof.Machine.execChopperGateOff mv held s
  | .chopperFault mv brki => Sys2Proof.Machine.execChopperFault mv brki s
  | .vmotOvervoltage mv held => Sys2Proof.Machine.execVmotOvervoltage mv held s
  | .ovpShortBrakeRetry mv held => Sys2Proof.Machine.execOvpShortBrakeRetry mv held s
  | .vmotPowerLoss mv held => Sys2Proof.Machine.execVmotPowerLoss mv held s
  | .vmotRestore mv => Sys2Proof.Machine.execVmotRestore mv s
  | .vmotRestartCount => Sys2Proof.Machine.execVmotRestartCount s
  | .idleSeal nsid zone => Sys2Proof.Machine.execIdleSeal nsid zone s
  | .scrubRead dram nsym content client => Sys2Proof.Machine.execScrubRead dram nsym content client s
  | .dramRefresh sub deg => Sys2Proof.Machine.execDramRefresh sub deg s
  | .rmtEntryWrite m dram j w => Sys2Proof.Machine.execRmtEntryWrite m dram j w s
  | .rmtCopyDone dram j => Sys2Proof.Machine.execRmtCopyDone dram j s
  | .fmrArm m w => Sys2Proof.Machine.execFmrArm m w s
  | .recoveryBoundReached k => Sys2Proof.Machine.execRecoveryBoundReached k s
  | .backgroundScanPost ring d ext => Sys2Proof.Machine.execBackgroundScanPost ring d ext s
  | .faultHandlerTimeout => Sys2Proof.Machine.execFaultHandlerTimeout s
  | .faultStopResetRequest => Sys2Proof.Machine.execFaultStopResetRequest s
  | .evrRecordWrite => Sys2Proof.Machine.execEvrRecordWrite s
  | .evrMirrorCopy slot posts => Sys2Proof.Machine.execEvrMirrorCopy slot posts s
  | .evrPost m w => Sys2Proof.Machine.execEvrPost m w s
  | .evrCtrlClear m w => Sys2Proof.Machine.execEvrCtrlClear m w s
  | .evrCtrlUnfreeze m w => Sys2Proof.Machine.execEvrCtrlUnfreeze m w s
  | .evrListWrite m l k w => Sys2Proof.Machine.execEvrListWrite m l k w s
  | .chainLinkUp up idles present => Sys2Proof.Machine.execChainLinkUp up idles present s
  | .chainLinkDown up violations silent present => Sys2Proof.Machine.execChainLinkDown up violations silent present s
  | .headTimerExpiry => Sys2Proof.Machine.execHeadTimerExpiry s
  | .enumFrame up f => Sys2Proof.Machine.execEnumFrame up f s
  | .enumEndFrame up f => Sys2Proof.Machine.execEnumEndFrame up f s
  | .probeFrame up f => Sys2Proof.Machine.execProbeFrame up f s
  | .echoFrame up f => Sys2Proof.Machine.execEchoFrame up f s
  | .timeFrame up f => Sys2Proof.Machine.execTimeFrame up f s
  | .attachFrame up f => Sys2Proof.Machine.execAttachFrame up f s
  | .detachFrame up f => Sys2Proof.Machine.execDetachFrame up f s
  | .regReadFrame up f => Sys2Proof.Machine.execRegReadFrame up f s
  | .regWriteFrame up f => Sys2Proof.Machine.execRegWriteFrame up f s
  | .ownFrame up f => Sys2Proof.Machine.execOwnFrame up f s
  | .responseFrame up f => Sys2Proof.Machine.execResponseFrame up f s
  | .probeTimer => Sys2Proof.Machine.execProbeTimer s
  | .echoTimeout => Sys2Proof.Machine.execEchoTimeout s
  | .enumSend => Sys2Proof.Machine.execEnumSend s
  | .attachSend => Sys2Proof.Machine.execAttachSend s
  | .vchCtrlEnum m => Sys2Proof.Machine.execVchCtrlEnum m s
  | .vchCtrlProbe m => Sys2Proof.Machine.execVchCtrlProbe m s
  | .vsyncReceive => Sys2Proof.Machine.execVsyncReceive s
  | .vsyncForward => Sys2Proof.Machine.execVsyncForward s
  | .vsyncWindowClose => Sys2Proof.Machine.execVsyncWindowClose s
  | .timeSend => Sys2Proof.Machine.execTimeSend s
  | .handoverTimeout => Sys2Proof.Machine.execHandoverTimeout s
  | .graceExpiry => Sys2Proof.Machine.execGraceExpiry s
  | .smbusOwnerTimeout => Sys2Proof.Machine.execSmbusOwnerTimeout s
  | .bar2OwnAction m off acc => Sys2Proof.Machine.execBar2OwnAction m off acc s
  | .smbusBasicManagementRead => Sys2Proof.Machine.execSmbusBasicManagementRead s
  | .mctpSetEndpointId eid => Sys2Proof.Machine.execMctpSetEndpointId eid s
  | .mctpGetEndpointId => Sys2Proof.Machine.execMctpGetEndpointId s
  | .mctpGetVersionSupport => Sys2Proof.Machine.execMctpGetVersionSupport s
  | .mctpGetMessageTypeSupport => Sys2Proof.Machine.execMctpGetMessageTypeSupport s
  | .miReadDataStructure len => Sys2Proof.Machine.execMiReadDataStructure len s
  | .miSubsystemHealthPoll => Sys2Proof.Machine.execMiSubsystemHealthPoll s
  | .miControllerHealthPoll => Sys2Proof.Machine.execMiControllerHealthPoll s
  | .miConfigurationGet id => Sys2Proof.Machine.execMiConfigurationGet id s
  | .miConfigurationSet id v => Sys2Proof.Machine.execMiConfigurationSet id v s
  | .miVpdRead len => Sys2Proof.Machine.execMiVpdRead len s
  | .miGetState => Sys2Proof.Machine.execMiGetState s
  | .miAbort => Sys2Proof.Machine.execMiAbort s
  | .miTunnelledAdmin e => Sys2Proof.Machine.execMiTunnelledAdmin e s
  | .smbusBusTimeout => Sys2Proof.Machine.execSmbusBusTimeout s
  | .pmuTick rails d0 d1 d2 d3 d4 d5 vmot vdda => Sys2Proof.Machine.execPmuTick rails d0 d1 d2 d3 d4 d5 vmot vdda s
  | .diodeConversion k v => Sys2Proof.Machine.execDiodeConversion k v s
  | .powerStateTransition => Sys2Proof.Machine.execPowerStateTransition s
  | .ps4Wake => Sys2Proof.Machine.execPs4Wake s
  | .selfRefreshReturn => Sys2Proof.Machine.execSelfRefreshReturn s
  | .actuatorRestore n => Sys2Proof.Machine.execActuatorRestore n s
  | .outRestoreAttempt n => Sys2Proof.Machine.execOutRestoreAttempt n s
  | .actuatorLoad n => Sys2Proof.Machine.execActuatorLoad n s
  | .firstLoads => Sys2Proof.Machine.execFirstLoads s
  | .mediaNotReadyTimeout arr => Sys2Proof.Machine.execMediaNotReadyTimeout arr s
  | .startUpMediaFailure => Sys2Proof.Machine.execStartUpMediaFailure s
  | .systemAreaReadRetry ok => Sys2Proof.Machine.execSystemAreaReadRetry ok s
  | .pmuPstateReqWrite m w => Sys2Proof.Machine.execPmuPstateReqWrite m w s
  | .gpioInputChange pin level held => Sys2Proof.Machine.execGpioInputChange pin level held s
  | .uartRxCharacter ch framed => Sys2Proof.Machine.execUartRxCharacter ch framed s
  | .jtagBypass => Sys2Proof.Machine.execJtagBypass s
  | .jtagIdcode => Sys2Proof.Machine.execJtagIdcode s
  | .jtagSamplePreload pins shift => Sys2Proof.Machine.execJtagSamplePreload pins shift s
  | .jtagExtest pins shift => Sys2Proof.Machine.execJtagExtest pins shift s
  | .jtagHighz => Sys2Proof.Machine.execJtagHighz s
  | .jtagClamp => Sys2Proof.Machine.execJtagClamp s
  | .hqeArrivalRead m => Sys2Proof.Machine.execHqeArrivalRead m s
  | .svdPosRead m n => Sys2Proof.Machine.execSvdPosRead m n s
  | .vchTrefRead m => Sys2Proof.Machine.execVchTrefRead m s
  | .perstDeassert m held => Sys2Proof.Machine.execPerstDeassert m held s
  | .referenceClockRestore env => Sys2Proof.Machine.execReferenceClockRestore env s
  | .openLoopBoundExpiry => Sys2Proof.Machine.execOpenLoopBoundExpiry s
  | .preampFaultLineInactive n held => Sys2Proof.Machine.execPreampFaultLineInactive n held s
  | .vmotLossRunTimeout => Sys2Proof.Machine.execVmotLossRunTimeout s
  | .cacheDestagePost r d nsid slba nlb => Sys2Proof.Machine.execCacheDestagePost r d nsid slba nlb s
  | .entropyHealthTestFail => Sys2Proof.Machine.execEntropyHealthTestFail s
  | .ps1ChoiceHoldoffEnd k => Sys2Proof.Machine.execPs1ChoiceHoldoffEnd k s
  | .pcieConfigWrite m acc => Sys2Proof.Machine.execPcieConfigWrite m acc s

end Sys2Proof.Machine
end

