-- ==== Sys2Proof/Safety.lean ====
section
/-!
DEFINITION. Sys2Proof/Safety.lean: what counts as a safe run, and which commands reach a part that is held in reset.
-/
namespace Sys2Proof.Machine

/-- A step goes on: it ends in a next state, in no fault and no refusal. -/
def Goes (s : State) : Prop := ∃ t, step s = .next t

/-- The commands that reach a part held in reset (R614, R616, R617, R628): the events of its supplies, its clock, its reset pin and
its retracts, and the boundary scan. -/
def reachesHeldPart : Instr → Bool
  | .powerOnReset .. => true
  | .chipResetPin .. => true
  | .clockLoss => true
  | .railSequenceViolation .. => true
  | .vddaBelowRetractMin => true
  | .retractPhaseEnd .. => true
  | .jtagBypass => true
  | .jtagIdcode => true
  | .jtagSamplePreload .. => true
  | .jtagExtest .. => true
  | .jtagHighz => true
  | .jtagClamp => true
  | .referenceClockRestore .. => true
  | _ => false

/-! ### What a command may change -/

/-- The commands that may change any part of the state: resets and what can end in one, and accesses to an address that the command
names, from a host, JTAG or the chain (a chain frame of any type may be served as a request). -/
def reachesAll : Instr → Bool
  | .powerOnReset .. => true
  | .chipResetPin .. => true
  | .sysRstChip .. => true
  | .clockLoss => true
  | .railSequenceViolation .. => true
  | .vddaBelowRetractMin => true
  | .registerWrite .. => true
  | .misalignedAccess .. => true
  | .unassignedAccess .. => true
  | .blockBasicWrite .. => true
  | .blockBasicKeepWrite .. => true
  | .expertRegisterWrite .. => true
  | .lockSet .. => true
  | .counterClear .. => true
  | .registerAccessWrite .. => true
  | .scePairRegisterWrite .. => true
  | .retractPhaseEnd .. => true
  | .faultStopResetRequest => true
  | .enumFrame .. => true
  | .enumEndFrame .. => true
  | .probeFrame .. => true
  | .echoFrame .. => true
  | .timeFrame .. => true
  | .attachFrame .. => true
  | .detachFrame .. => true
  | .regReadFrame .. => true
  | .regWriteFrame .. => true
  | .ownFrame .. => true
  | .responseFrame .. => true
  | .referenceClockRestore .. => true
  | _ => false

/-- The commands that store to memory: a decoded word and a released one write their buffers, an element that begins the parity of its
sector, a command that posts a media operation the staging pages of its data and their tags, a load of customer microcode its backing, the
samples of the capture units their buffers, the copy of a remapped page or row its spare. -/
def storesMemory : Instr → Bool
  | .fabricCycleAdvance => true
  | .dataStored .. => true
  | .customerMicrocodeLoad .. => true
  | .read .. => true
  | .recordPersist .. => true
  | .operationOutcome .. => true
  | .wordRelease .. => true
  | .sm1Accept .. => true
  | .sm2Check .. => true
  | .syncWindowClose .. => true
  | .codewordArrival .. => true
  | .decodeComplete .. => true
  | .servoWindowEnd .. => true
  | .samplePublish .. => true
  | .rmtCopyDone .. => true
  | .recoveryBoundReached .. => true
  | .backgroundScanPost .. => true
  | .evrMirrorCopy .. => true
  | .cacheDestagePost .. => true
  | _ => false

/-- The commands that change key slots, credentials or wrapped keys (R183 to R189). -/
def changesKeys : Instr → Bool
  | .namespaceCreate .. => true
  | .namespaceDelete .. => true
  | .formatNvm .. => true
  | .securitySend .. => true
  | .securityReceive .. => true
  | .sanitize .. => true
  | .xtsGenerate .. => true
  | .xtsLoad .. => true
  | .xtsClear .. => true
  | .xtsRewrap .. => true
  | .xtsOperationDone => true
  | _ => false

/-- The commands that change the control store or its holding registers (R262 to R266), or after which no customer image is loaded (R253,
R264), or a word of it is written again (R253). -/
def changesControlStore : Instr → Bool
  | .customerMicrocodeLoad .. => true
  | .dpiLoad .. => true
  | .dpiActivateOther .. => true
  | .trsDescriptorAccept .. => true
  | .operationOutcome .. => true
  | .wordRelease .. => true
  | .trsCtrlHold .. => true
  | .trsCtrlStep .. => true
  | .controlStoreHoldingWrite .. => true
  | .controlStoreCommit .. => true
  | _ => false

/-- The commands that change OTP, the flash slots, the settings record, or the JTAG instruction. -/
def changesChip : Instr → Bool
  | .setFeaturesModeProfile .. => true
  | .firmwareCommitStore .. => true
  | .firmwareCommitStoreActivate .. => true
  | .firmwareCommitActivate .. => true
  | .customerMicrocodeLoad .. => true
  | .otpProgramConfigRecord .. => true
  | .otpProgramDpiKey .. => true
  | .otpRevokeDpiKey .. => true
  | .otpRevokeRootKey .. => true
  | .otpRaiseFwSvn .. => true
  | .otpRaiseDpiSvn .. => true
  | .dpiLoad .. => true
  | .dpiActivateOther .. => true
  | .jtagBypass => true
  | .jtagIdcode => true
  | .jtagSamplePreload .. => true
  | .jtagExtest .. => true
  | .jtagHighz => true
  | .jtagClamp => true
  | _ => false

/-- The commands that change the endpoint on SMBus: the messages that reach it (R539, R545). -/
def changesMctp : Instr → Bool
  | .mctpSetEndpointId .. => true
  | .mctpGetEndpointId => true
  | .mctpGetVersionSupport => true
  | .mctpGetMessageTypeSupport => true
  | .miReadDataStructure .. => true
  | .miSubsystemHealthPoll => true
  | .miControllerHealthPoll => true
  | .miConfigurationGet .. => true
  | .miConfigurationSet .. => true
  | .miVpdRead .. => true
  | .miGetState => true
  | .miAbort => true
  | .miTunnelledAdmin .. => true
  | _ => false

/-- The commands that write no register. -/
def writesNoRegister : Instr → Bool
  | .gpioPulseEnd .. => true
  | .vsyncEmit => true
  | .dirtyLimitResume .. => true
  | .coalesceTimerExpiry .. => true
  | .ccEnable .. => true
  | .abortPendingTimeout .. => true
  | .trsCtrlAbort .. => true
  | .servoWindowBegin .. => true
  | .inhibitClearRepost .. => true
  | .samDetect .. => true
  | .plannedSwapSchedule .. => true
  | .srfCtrlSwap .. => true
  | .sceCtrlUnload .. => true
  | .sceCtrlForceRed .. => true
  | .sceCtrlResume .. => true
  | .sceCtrlApply .. => true
  | .rampLoadTimeout .. => true
  | .captureCtrlStop .. => true
  | .openLoopStep => true
  | .commutation => true
  | .evrPost .. => true
  | .probeTimer => true
  | .echoTimeout => true
  | .enumSend => true
  | .vchCtrlEnum .. => true
  | .vchCtrlProbe .. => true
  | .vsyncForward => true
  | .timeSend => true
  | .smbusBasicManagementRead => true
  | .mctpSetEndpointId .. => true
  | .mctpGetEndpointId => true
  | .mctpGetVersionSupport => true
  | .mctpGetMessageTypeSupport => true
  | .miReadDataStructure .. => true
  | .miSubsystemHealthPoll => true
  | .miControllerHealthPoll => true
  | .miConfigurationGet .. => true
  | .miConfigurationSet .. => true
  | .miVpdRead .. => true
  | .miGetState => true
  | .miAbort => true
  | .smbusBusTimeout => true
  | .ps4Wake => true
  | .selfRefreshReturn => true
  | .uartRxCharacter .. => true
  | .jtagBypass => true
  | .jtagIdcode => true
  | .jtagSamplePreload .. => true
  | .jtagExtest .. => true
  | .jtagHighz => true
  | .jtagClamp => true
  | .ps1ChoiceHoldoffEnd .. => true
  | _ => false

/-! ### Commands in the table of contexts -/

/-- The outcome fixed for the command of an arrival number, if its context is there and has one. -/
def State.statusOf (s : State) (a : Nat) : Option Status := (s.ctx a).bind (fun c => c.status)

/-- Completion dword 0 of the command of an arrival number. -/
def State.dw0Of (s : State) (a : Nat) : Option Nat := (s.ctx a).map (fun c => c.dw0)

/-- The command of arrival number a is c, and may be executed now: admitted, holding its locks and tail, without an outcome, not
begun; no other context has its number (R125) and it is no outstanding event request; the part is neither held in reset nor in
Fault Stop. -/
def State.mayExecute (s : State) (a : Nat) (c : Ctx) : Prop :=
  s.boot.held = .off ∧ s.recov.stopped = false ∧ s.ctx a = some c ∧ c.ready = true ∧ c.started = false ∧
    (∀ x ∈ s.host.ctxs, x.arr = a → x = c) ∧ ∀ m, a ∉ (s.ctrl m).aers

end Sys2Proof.Machine
end

