-- ==== Sys2Proof/Certificates/Slice0/Obligations.lean ====
section
/-!
DEFINITION. Sys2Proof/Certificates/Slice0/Obligations.lean: the statements about the model that are to be proved. `s.boot.held = .off`
says that no reset is held (R614, R617): while one is, the part takes no command but the events of its supplies, clock, reset
pin, retracts and boundary scan.
-/
open Sys2Proof Sys2Proof.Machine

/-! ### The machine: one step, reset, held resets -/

/-- A step runs the command at the front of the queue, with the queue's rest. -/
def Obligations.StepRunsFrontCommand : Prop :=
  ∀ (c : Instr) (rest : List Instr) (s : State),
    step { s with pending := c :: rest } = exec c { s with pending := rest }

/-- With nothing waiting the block idles (the model's choice, notes/assumptions/3.md: time passes by FABRIC_CYCLE_ADVANCE). The
table gives no bits, so no word spells a command and a word put in front changes nothing (notes/assumptions/2.md). -/
def Obligations.IdleAndTableWords : Prop :=
  ∀ s : State, (s.pending = [] → step s = .next s) ∧ ∀ n w : Nat, decodeTableWord n w = none ∧ s.withFetchWord n w = s

/-- After reset every register holds its reset value (0 where the spec gives a load: R20), PART is 0x9400 and PIERS 896 (R46,
R75), the base is Free with G at 0:0 (R56, R63), no queue, context or key is there (R94, R189), the cache is on (R105), nobody
owns the configuration (R545), the recorder is empty (R500, R509) and every actuator is Parked (R569).
The model's own choices in it: notes/assumptions/12.md, 13.md. -/
def Obligations.ResetState : Prop :=
  (∀ a, State.reset.rd a = resetOf a) ∧
  State.reset.fget Reg.SYS_ID_PART = 0x9400 ∧ State.reset.fget Reg.ATB_PIERS_COUNT = 896 ∧
  State.reset.fget Reg.SYS_BOOT_CAUSE = 1 ∧ State.reset.fget Reg.OWN_STATE_STATE = 0 ∧
  State.reset.atbState = 0 ∧ State.reset.atb.g = 0 ∧ State.reset.atb.rev = 0 ∧
  State.reset.host.sqs = [] ∧ State.reset.host.cqs = [] ∧ State.reset.host.ctxs = [] ∧ State.reset.host.wce = true ∧
  State.reset.xts.keys = [] ∧ State.reset.evr.ring = [] ∧ State.reset.evr.queue = [] ∧ State.reset.evr.seq = 0 ∧
  (∀ n, State.reset.msc.avail.get n = .parked) ∧ State.reset.pending = []

/-- While a reset is held the part takes no command but the events that reach a held part (R614, R617). -/
def Obligations.HeldPartTakesNoCommand : Prop :=
  ∀ (c : Instr) (s : State), s.boot.held ≠ .off → reachesHeldPart c = false → exec c s = .next s

/-- A step leaves no offer of an event without its number (R500), if none was without before. -/
def Obligations.NoOfferStaysUnnumbered : Prop :=
  ∀ s t : State, s.evr.staged = [] → step s = .next t → t.evr.staged = []

/-! ### Register accesses and resets -/

/-- Accesses that name no register, or are not aligned ones of 32 bits, have no effect but the refused-access Notice on line 0x00 (R14,
R37, R634); a read returns 0. Registers (but the count of dropped offers) and memory stay. SRAM and DRAM are no register windows: there
such an access reads or writes its bytes, for a core or permitted JTAG (R39). -/
def Obligations.RefusedRegisterAccesses : Prop :=
  ∀ (s : State) (m : Master) (a bytes v : Nat) (write : Bool), s.boot.held = .off →
    (a % 4 ≠ 0 ∨ bytes ≠ 4 → inMemory a = true → s.coreOrJtag m = true →
      ∃ t, exec (.misalignedAccess m a bytes write v) s = .next t ∧
        t = (if write then s.seenStore a (leBytes v bytes)
          else s.emit (.memRead a ((List.range bytes).map (fun i => s.seenByte (a + i))))).settle) ∧
    (a % 4 ≠ 0 ∨ bytes ≠ 4 → inMemory a = true → s.coreOrJtag m = false →
      ∃ t, exec (.misalignedAccess m a bytes write v) s = .next t ∧
        t = (if write then s else s.emit (.regRead 0#32)).settle) ∧
    (a % 4 ≠ 0 ∨ bytes ≠ 4 → inMemory a = false → ∃ t, exec (.misalignedAccess m a bytes write v) s = .next t ∧
      t = (if write then s.refusedAccess m a false true
        else (s.refusedAccess m a false false).emit (.regRead 0#32)).settle ∧
      (∀ b, b ≠ Reg.EVR_DROPQ → t.rd b = s.rd b) ∧ t.mem = s.mem ∧
      t.out = (if write then s.out else .regRead 0#32 :: s.out)) ∧
    (unassigned a = true → ∃ t, exec (.unassignedAccess m a write) s = .next t ∧
      t = (if write then s.refusedAccess m a true true
        else (s.refusedAccess m a true false).emit (.regRead 0#32)).settle ∧
      (∀ b, b ≠ Reg.EVR_DROPQ → t.rd b = s.rd b) ∧ t.mem = s.mem ∧
      t.out = (if write then s.out else .regRead 0#32 :: s.out))

/-- A write of a register that has no behaviour of its own leaves in each field what its access type says
(R15, R17, R19), and in no other register anything; what is not the register file stays. A field of type RWO is written for the
configuration owner only, one of type RWL only while its lock is 0, a W1C bit is cleared by a 1 and kept by a 0, an RO field
never changes, a WO field reads 0 (R15, R16). -/
def Obligations.PlainRegisterWrites : Prop :=
  (∀ (s : State) (m : Master) (a : Nat) (w : Word) (h : RegHit), s.boot.held = .off →
    a % 4 = 0 → inMemory a = false → inCs a = false → findReg a = some h → regKind a = 1 → scePair a = none →
    s.portAbsent a = false → s.unitOff a = false → (coreOnly a = true → s.coreOrJtag m = true) →
    (ownerOnly a h.row = true → s.isOwner m = true) → s.ownWrite m a w = none → a ≠ Reg.EVR_DROPQ →
    ∃ t, exec (.registerWrite m a w) s = .next t ∧
      t.rd a = BitVec.ofNat 32 (h.row.written (s.isOwner m) (s.locked h) (s.rd a).toNat w.toNat) ∧
      (∀ b, b ≠ a → b ≠ Reg.EVR_DROPQ → t.rd b = s.rd b) ∧ t.mem = s.mem ∧ t.host = s.host ∧ t.msc = s.msc ∧
      t.pair = s.pair ∧ t.smc = s.smc ∧ t.held = s.held ∧ t.out = s.out) ∧
  ∀ (f : FieldSpec) (owner locked : Bool) (old new : Nat),
    (f.acc = .ro → f.written owner locked old new = old) ∧ (f.acc = .rw → f.written owner locked old new = new) ∧
    (f.acc = .rwo → f.written owner locked old new = if owner then new else old) ∧
    (f.acc = .rwl → f.written owner locked old new = if locked then old else new) ∧
    (f.acc = .w1s → f.written owner locked old new = old ||| new) ∧
    (f.acc = .w1c → f.hi = f.lo → f.written owner locked old new = if new = 1 then 0 else old) ∧
    (f.acc = .wo → f.written owner locked old new = 0)

/-- The writes with a row of their own: a lock bit is set by a 1 (R17); a CNT_CLR write of 1 sets every counter of its block to 0
(R74 and its like); a write of BLOCK_BASIC with KEEP = 1 changes ENABLE only (R23, R25); an expert write sets MODE, and the
register while ENABLE is 1, else the value waits (R21, R25); a BLOCK_BASIC write that names no valid profile changes nothing but
the Notice it offers (R24). Stated for the blocks that are no pipeline's: their registers are not switched off by the DPI.
The model's own choices in it: notes/assumptions/47.md, 48.md. -/
def Obligations.BlockRegisterRows : Prop :=
  ∀ (s : State) (m : Master) (a : Nat) (w : Word) (h : RegHit), s.boot.held = .off →
    a % 4 = 0 → inMemory a = false → inCs a = false → findReg a = some h → scePair a = none →
    s.portAbsent a = false → s.unitOff a = false → coreOnly a = false → ownerOnly a h.row = false →
    (regKind a = 4 → s.ownWrite m a w = none → ∃ t, exec (.lockSet m a w) s = .next t ∧
      t.rd a = BitVec.ofNat 32 (h.row.written (s.isOwner m) (s.locked h) (s.rd a).toNat w.toNat)) ∧
    (∀ l, regKind a = 5 → countersOf a = some l → w.getLsbD 0 = true → ∃ t, exec (.counterClear m a w) s = .next t ∧
      ∀ r ∈ l, r ≠ Reg.EVR_DROPQ → t.rd r = 0#32) ∧
    (regKind a = 2 → w.getLsbD 9 = true → w.getLsbD 0 = false → (∀ n : Fin 4, a ≠ Reg.VCDn_BASIC n) →
      ∃ t, exec (.blockBasicKeepWrite m a w) s = .next t ∧ t.fget ⟨a, 0, 0⟩ = 0 ∧
        t.fget ⟨a, 7, 4⟩ = s.fget ⟨a, 7, 4⟩ ∧ t.held = s.held) ∧
    (regKind a = 2 → w.getLsbD 9 = false → s.profile a (w.toNat / 16 % 16) = none →
      ∃ t, exec (.blockBasicWrite m a w) s = .next t ∧ t = (s.note a .notice).settle ∧ t.rd a = s.rd a) ∧
    (∀ l, regKind a = 2 → w.getLsbD 9 = false → s.profile a (w.toNat / 16 % 16) = some l → (∀ x ∈ l, x.1 ≠ a) →
      (∀ n : Fin 4, a ≠ Reg.VCDn_BASIC n) → a ≠ Reg.AST_BASIC →
      ∃ t, exec (.blockBasicWrite m a w) s = .next t ∧
        t.rd a = BitVec.ofNat 32 (16 * (w.toNat / 16 % 16) + w.toNat % 2)) ∧
    (∀ b, regKind a = 3 → basicOf a = some b → scePair b = none → b ≠ a →
      ∃ t, exec (.expertRegisterWrite m a w) s = .next t ∧ t.fget ⟨b, 8, 8⟩ = 1 ∧
        (s.fget ⟨b, 0, 0⟩ = 1 → t.rd a = imageWord a w.toNat) ∧
        (s.fget ⟨b, 0, 0⟩ ≠ 1 → t.rd a = s.rd a ∧ t.held = sparseInsert a (imageWord a w.toNat) s.held))

/-- The reset sources (R581, R582, R587, R592, R614, R617). A power-on reset takes effect at once, with CAUSE 1, and the start-up
that follows ends in Recovery mode with FAIL 1 on a part without a valid Configuration Record. With no retract to wait for, the
pin and a write of SYS_RST by the owner with the key reset the part with CAUSE 2 and 3; a reset that already waits keeps its
cause. The loss of the clock holds the part in reset, its return releases it, and a rail out of order holds it and sets its
SEQERR bit. VDDA below the retract minimum ends every retract.
The model's own choices in it: notes/assumptions/12.md, 45.md, 46.md. -/
def Obligations.ResetSources : Prop :=
  ∀ s : State,
    (∀ env vddio, s.activeGen = none → ∃ t, exec (.powerOnReset env vddio) s = .next t ∧ t.boot.held = .off ∧
      t.fget Reg.SYS_BOOT_CAUSE = 1 ∧ t.fget Reg.SYS_BOOT_MODE = 3 ∧ t.fget Reg.SYS_BOOT_FAIL = 1 ∧ t.cycle = 0) ∧
    (∀ env low, 1000 ≤ low → s.boot.held = .off → s.boot.resetCause = none → s.activeGen = none → (∀ n, s.actEnabled n = false) →
      s.retractRuns = false → ∃ t, exec (.chipResetPin env low) s = .next t ∧
      t.fget Reg.SYS_BOOT_CAUSE = 2 ∧ t.fget Reg.SYS_BOOT_MODE = 3) ∧
    (∀ env low c, s.boot.held = .off → s.boot.resetCause = some c → ∃ t, exec (.chipResetPin env low) s = .next t ∧
      t.boot.resetCause = some c) ∧
    (∀ env low, low < 1000 → ∃ t, exec (.chipResetPin env low) s = .next t ∧ t = s.settle) ∧
    (∀ m w, s.boot.held = .off → s.boot.resetCause = none → s.activeGen = none → (∀ n, s.actEnabled n = false) →
      s.retractRuns = false → s.isOwner m = true → w.getLsbD 0 = true → wordBits w 31 16 = 0xC41F →
      ∃ t, exec (.sysRstChip m w) s = .next t ∧ t.fget Reg.SYS_BOOT_CAUSE = 3 ∧ t.fget Reg.SYS_BOOT_MODE = 3) ∧
    (s.boot.held = .off → s.boot.resetCause = none → (∀ n, s.actEnabled n = false) → s.retractRuns = false →
      ∃ t, exec .clockLoss s = .next t ∧ t.boot.held = .clock ∧ t.fget Reg.SYS_BOOT_CAUSE = 4) ∧
    (∀ env, s.boot.held = .clock → s.boot.resetCause = none → s.activeGen = none →
      ∃ t, exec (.referenceClockRestore env) s = .next t ∧ t.boot.held = .off ∧ t.fget Reg.SYS_BOOT_MODE = 3) ∧
    (∀ rail : Fin 7, ∃ t, exec (.railSequenceViolation rail) s = .next t ∧ t.boot.held = .rails ∧
      t.fget ⟨Reg.PMU_SEQERR, if rail.val = 6 then 8 else rail.val, if rail.val = 6 then 8 else rail.val⟩ = 1) ∧
    (s.boot.resetCause = none → ∃ t, exec .vddaBelowRetractMin s = .next t ∧ t.retractRuns = false)

/-! ### The angle time base -/

/-- What the angle time base does as time passes and as detections arrive (R51, R53, R56, R58, R74).
The model's own choices in it: notes/assumptions/26.md. -/
def Obligations.AngleTimeBaseRuns : Prop :=
  ∀ s : State, s.boot.held = .off →
    (∃ t, exec .fabricCycleAdvance s = .next t ∧ t.cycle = s.cycle + 1 ∧
      (s.atbState ≠ 1 → t.atb.gPrev = s.atb.g) ∧
      (s.atbState = 0 → t.atb.g = (s.atb.g + s.freeRate) % s.revUnits) ∧
      (s.atbState = 2 ∨ s.atbState = 3 → ∃ d : Nat, t.atb.g = (s.atb.g + d) % s.revUnits ∧
        (s.rd Reg.ATB_RATE).toNat ≤ d + (s.rd Reg.ATB_RATE).toNat / 4 ∧
        d ≤ (s.rd Reg.ATB_RATE).toNat + (s.rd Reg.ATB_RATE).toNat / 4)) ∧
    (s.atb.wrapped = true → ∃ t, exec .atbSpanEnd s = .next t ∧ t.atb.wrapped = false ∧ t.atb.spanValid = false ∧
      (s.atbState = 2 → s.atb.spanValid = false → s.atb.moved = false → t.atbState = 3 ∧ t.fget Reg.ATB_EVT_STAT_HOLD = 1) ∧
      (s.atbState = 3 → s.atb.spanValid = false → t.atbState = 3 ∧ t.atb.holdSpans = s.atb.holdSpans + 1)) ∧
    (s.atbState = 3 → s.holdMax ≤ s.atb.holdSpans → s.atb.moved = false → ∃ t, exec .holdoverExpiry s = .next t ∧ t.atbState = 1 ∧
      t.fget Reg.ATB_STATUS_VALID = 0 ∧ t.fget Reg.ATB_EVT_STAT_LOSS = 1 ∧ t.atb.corrs = [] ∧ t.atb.backlog = 0) ∧
    (∀ n instant idx head cyl, ∃ t, exec (.pierDetection n instant idx head cyl) s = .next t ∧
      (t.atb.lanes.get n).head = some head ∧ (t.atb.lanes.get n).cyl = cyl ∧
      (t.atb.lanes.get n).detInSpan = true)

/-- What masters write to and read from the angle time base. A write of FREE puts it in Free at FREE_RATE with nothing pending, one of ACQ
takes it from Free to Acquire and has no effect in another state (R56). A 1 written to a DISAGREE bit clears it and starts the lane's
count anew (R55). PIERS changes in Free only, to 256 to 1,024, and a write outside that offers a Notice; G, the nominal offsets and the
triggers beyond the new count follow (R76, R70). An offset or SYNC_OFF out of range has no effect but its Notice; the tables are locked by
LOCK, SYNC_OFF is written by the configuration owner only (R15, R17, R78). A read of ANGLE gives G and latches the revolution count (R77).
The model's own choices in it: notes/assumptions/26.md, 49.md. -/
def Obligations.AngleTimeBaseRegisters : Prop :=
  ∀ (s : State) (m : Master), s.boot.held = .off →
    (∃ t, exec (.atbCtrlFree m) s = .next t ∧ t.atbState = 0 ∧ t.fget Reg.ATB_STATUS_VALID = 0 ∧ t.atb.corrs = [] ∧
      t.atb.backlog = 0 ∧ t.rd Reg.ATB_RATE = BitVec.ofNat 32 s.freeRate ∧ t.atb.g = s.atb.g) ∧
    (s.atbState = 0 → s.atb.moved = false → ∃ t, exec (.atbCtrlAcq m) s = .next t ∧ t.atbState = 1 ∧
      t.fget Reg.ATB_STATUS_VALID = 0 ∧ t.rd Reg.ATB_RATE = s.rd Reg.ATB_RATE ∧ t.atb.g = s.atb.g) ∧
    (s.atbState ≠ 0 → ∃ t, exec (.atbCtrlAcq m) s = .next t ∧ t = s.settle) ∧
    (∀ mask : BitVec 4, ∃ t, exec (.disagreeClear m mask) s = .next t ∧
      t.fget Reg.ATB_STATUS_DISAGREE = Nat.land (s.fget Reg.ATB_STATUS_DISAGREE) (15 - mask.toNat) ∧
      (∀ n : Fin 4, mask.toNat.testBit n.val = true → (t.atb.lanes.get n).rejRow = 0) ∧
      (∀ r, r ≠ Reg.ATB_STATUS → r ≠ Reg.EVR_DROPQ → t.rd r = s.rd r)) ∧
    (∀ w : Word, s.fget Reg.ATB_LOCK_LOCK = 0 → s.atbState = 0 → 256 ≤ w.toNat % 2048 → w.toNat % 2048 ≤ 1024 →
      ∃ t, exec (.atbPiersWrite m w) s = .next t ∧ t.piers = w.toNat % 2048 ∧
        (w.toNat % 2048 ≤ s.atb.g / 2 ^ 42 → t.atb.g = 0 ∧ t.atb.rev = s.atb.rev + 1) ∧
        (s.atb.g / 2 ^ 42 < w.toNat % 2048 → t.atb.g = s.atb.g ∧ t.atb.rev = s.atb.rev) ∧
        (∀ n : Fin 4, w.toNat % 2048 ≤ (s.rd (Reg.ATB_NOMn n)).toNat / 2 ^ 22 → t.rd (Reg.ATB_NOMn n) = 0#32) ∧
        (∀ lane i : Nat, lane < 5 → i < trigCount lane → w.toNat % 2048 ≤ (s.rd (trigBase lane i)).toNat / 2 ^ 22 →
          t.fget (trigArm lane i) = 0 ∧ t.fget (trigErr lane i) = 1)) ∧
    (∀ w : Word, s.fget Reg.ATB_LOCK_LOCK = 0 → s.atbState ≠ 0 ∨ w.toNat % 2048 < 256 ∨ 1024 < w.toNat % 2048 →
      ∃ t, exec (.atbPiersWrite m w) s = .next t ∧ t = (s.note Reg.ATB_PIERS .notice).settle ∧ t.piers = s.piers) ∧
    (∀ w : Word, s.fget Reg.ATB_LOCK_LOCK = 1 → ∃ t, exec (.atbPiersWrite m w) s = .next t ∧ t = s.settle) ∧
    (∀ (n : Fin 4) (w : Word), s.fget Reg.ATB_LOCK_LOCK = 0 →
      ∃ t, exec (.atbOffsetTableWrite m (Reg.ATB_NOMn n) w) s = .next t ∧
        t.rd (Reg.ATB_NOMn n) = (if s.piers ≤ w.toNat / 2 ^ 22 then s.rd (Reg.ATB_NOMn n) else w) ∧
        (s.piers ≤ w.toNat / 2 ^ 22 → t = (s.note (Reg.ATB_NOMn n) .notice).settle)) ∧
    (∀ (h : Fin 40) (w : Word), s.fget Reg.ATB_LOCK_LOCK = 0 →
      ∃ t, exec (.atbOffsetTableWrite m (Reg.ATB_HEADn h) w) s = .next t ∧
        t.rd (Reg.ATB_HEADn h) = (if offsetInRange w then w else s.rd (Reg.ATB_HEADn h)) ∧
        (offsetInRange w = false → t = (s.note (Reg.ATB_HEADn h) .notice).settle)) ∧
    (∀ (k : Fin 2) (i : Fin 256) (w : Word), s.fget Reg.ATB_LOCK_LOCK = 0 →
      ∃ t, exec (.atbOffsetTableWrite m (Reg.ATB_SKEWn_i k i) w) s = .next t ∧
        t.rd (Reg.ATB_SKEWn_i k i) = (if offsetInRange w then w else s.rd (Reg.ATB_SKEWn_i k i)) ∧
        (offsetInRange w = false → t = (s.note (Reg.ATB_SKEWn_i k i) .notice).settle)) ∧
    (∀ (a : Nat) (w : Word), s.fget Reg.ATB_LOCK_LOCK = 1 →
      ∃ t, exec (.atbOffsetTableWrite m a w) s = .next t ∧ t = s.settle) ∧
    (∀ w : Word, s.isOwner m = true → ∃ t, exec (.atbSyncOffWrite m w) s = .next t ∧
      t.rd Reg.ATB_SYNC_OFF = (if s.piers ≤ w.toNat / 2 ^ 22 then s.rd Reg.ATB_SYNC_OFF else w) ∧
      (s.piers ≤ w.toNat / 2 ^ 22 → t = (s.note Reg.ATB_SYNC_OFF .notice).settle)) ∧
    (∀ w : Word, s.isOwner m = false → ∃ t, exec (.atbSyncOffWrite m w) s = .next t ∧ t = s.settle) ∧
    (∃ t, exec (.atbAngleRead m) s = .next t ∧ t.rd Reg.ATB_REV = BitVec.ofNat 32 s.atb.rev ∧
      t.out = .regRead (BitVec.ofNat 32 s.angleG) :: s.out)

/-- Angle triggers and VSYNC (R67 to R70, R73): what a write arms or refuses, what a crossing does, and what ends.
The model's own choices in it: notes/assumptions/27.md. -/
def Obligations.AngleTriggers : Prop :=
  ∀ s : State, s.boot.held = .off →
    (∀ (m : Master) (n : Fin 5) (i : Nat) (w : Word), i < trigCount n.val → s.fbit (trigArm n.val i) = false →
      w.toNat / 2 ^ 22 < s.piers → ∃ t, exec (.triggerAngleWrite m n i w) s = .next t ∧ t.rd (trigBase n.val i) = w) ∧
    (∀ (m : Master) (n : Fin 5) (i : Nat) (w : Word), i < trigCount n.val → s.fbit (trigArm n.val i) = true →
      ∃ t, exec (.triggerAngleWrite m n i w) s = .next t ∧ t.rd (trigBase n.val i) = s.rd (trigBase n.val i) ∧
        t.fget (trigErr n.val i) = 1 ∧ t.fget Reg.ATB_EVT_STAT_TRIG_ERR = 1) ∧
    (∀ (m : Master) (n : Fin 5) (i : Nat) (w : Word), i < trigCount n.val → bitsOf w.toNat 2 1 = 3 →
      ∃ t, exec (.triggerCtrlWrite m n i w) s = .next t ∧ t.rd (trigBase n.val i + 4) = s.rd (trigBase n.val i + 4) ∧
        t.fget (trigErr n.val i) = 1) ∧
    (∀ (m : Master) (n : Fin 5) (i : Nat) (w : Word), i < trigCount n.val → bitsOf w.toNat 2 1 ≠ 3 →
      bitsOf w.toNat 7 4 ≤ 3 → w.getLsbD 0 = true → ∃ t, exec (.triggerCtrlWrite m n i w) s = .next t ∧
        t.fget (trigArm n.val i) = 1 ∧ t.fget (trigFired n.val i) = 0 ∧ t.fget (trigLate n.val i) = 0 ∧
        t.fget (trigRemain n.val i) = bitsOf w.toNat 23 16) ∧
    (∀ (n : Fin 5) (i : Nat), i < trigCount n.val → s.atb.lateDue = [] → s.atb.written = [] → s.fbit (trigArm n.val i) = true →
      2 * angleFwd s.piers (s.crossOf n.val).1 (s.crossOf n.val).2 ≤ revLen s.piers →
      s.trigReached n.val i (s.crossOf n.val).1 (angleFwd s.piers (s.crossOf n.val).1 (s.crossOf n.val).2) = true →
      (n.val, i) ∉ s.atb.hit → s.fget (trigMode n.val i) < 2 → s.fget (trigRemain n.val i) ≠ 0 →
      ∃ t, exec (.triggerFire n i) s = .next t ∧ t.fget (trigRemain n.val i) = s.fget (trigRemain n.val i) - 1 ∧
        t.fget (trigArm n.val i) = 1) ∧
    (∀ (n : Fin 5) (i : Nat), i < trigCount n.val → s.atb.written = [] → s.fbit (trigArm n.val i) = true →
      s.atb.lateDue.any (fun x => decide (x.1 = n.val) && decide (x.2.1 = i) && decide (x.2.2 < s.cycle)) = true →
      s.fget (trigMode n.val i) = 0 → s.fget (trigRemain n.val i) = 0 →
      ∃ t, exec (.triggerFire n i) s = .next t ∧ t.fget (trigArm n.val i) = 0 ∧ t.fget (trigFired n.val i) = 1 ∧
        t.fget (trigLate n.val i) = 1) ∧
    (∀ pin, ∃ t, exec (.gpioPulseEnd pin) s = .next t ∧
      ∀ c, (pin, c) ∈ t.atb.gpioPulse → s.cycle < c + 64) ∧
    (s.vchSync = 4 → s.syncCrossed = true → (5, 0) ∉ s.atb.hit →
      ∃ t, exec .vsyncEmit s = .next t ∧ t.chain.emitted = s.chain.emitted + 1 ∧
        (s.linkUp false = true → t.out = .vsyncDn :: s.out))
/-! ### Host queues, ordering and completions -/

/-- Doorbells, fetch and admission (R93, R95 to R101, R125, R129, R137): a doorbell moves its queue's index, one outside the queue
or for no queue reports an error event, and a doorbell or a reserved offset reads 0, a write to which is dropped (R87); a fetched command takes the next arrival number and its queue's head moves; the command
next in arrival order is admitted with the locks it requests, or waits while the table has no room, or ends with the status its
checks find.
The model's own choices in it: notes/assumptions/34.md. -/
def Obligations.DoorbellsFetchAdmission : Prop :=
  ∀ s : State, s.boot.held = .off →
    (∀ m qid v q, s.sq m qid = some q → qid ≤ 1024 → v < 65536 → v < q.size →
      ∃ t, exec (.sqTailDoorbell m (0x1000 + 8 * qid) (.write v)) s = .next t ∧ t.sq m qid = some { q with tail := v }) ∧
    (∀ m qid v q, s.sq m qid = some q → qid ≤ 1024 → v < 65536 → q.size ≤ v →
      ∃ t, exec (.sqTailDoorbell m (0x1000 + 8 * qid) (.write v)) s = .next t ∧ t = (s.asyncEvent m 0 1 1).settle) ∧
    (∀ m qid v, s.sq m qid = none → qid ≤ 1024 → ∃ t, exec (.sqTailDoorbell m (0x1000 + 8 * qid) (.write v)) s = .next t ∧
      t = (s.asyncEvent m 0 0 1).settle) ∧
    (∀ m qid v q, s.cq m qid = some q → qid ≤ 1024 → v < 65536 → v < q.size → (v + q.size - q.head) % q.size ≤ q.used →
      ∃ t, exec (.cqHeadDoorbell m (0x1004 + 8 * qid) (.write v)) s = .next t ∧ t.cq m qid = some { q with head := v }) ∧
    (∀ m qid v q, s.cq m qid = some q → qid ≤ 1024 → v < 65536 → q.size ≤ v ∨ q.used < (v + q.size - q.head) % q.size →
      ∃ t, exec (.cqHeadDoorbell m (0x1004 + 8 * qid) (.write v)) s = .next t ∧ t = (s.asyncEvent m 0 1 1).settle) ∧
    (∀ m qid v, s.cq m qid = none → qid ≤ 1024 → ∃ t, exec (.cqHeadDoorbell m (0x1004 + 8 * qid) (.write v)) s = .next t ∧
      t = (s.asyncEvent m 0 0 1).settle) ∧
    (∀ m qid, qid ≤ 1024 → ∃ t, exec (.sqTailDoorbell m (0x1000 + 8 * qid) .read) s = .next t ∧
      t.out = .barRead m (0x1000 + 8 * qid) 0#32 :: s.out) ∧
    (∀ m qid, qid ≤ 1024 → ∃ t, exec (.cqHeadDoorbell m (0x1004 + 8 * qid) .read) s = .next t ∧
      t.out = .barRead m (0x1004 + 8 * qid) 0#32 :: s.out) ∧
    (∀ m off v, 0x3008 ≤ off → off < 0x20000 → ∃ t, exec (.msixUnmask m off (.write v)) s = .next t ∧ t = s.settle) ∧
    (∀ m off, 0x3008 ≤ off → off < 0x20000 → ∃ t, exec (.msixUnmask m off .read) s = .next t ∧
      t.out = .barRead m off 0#32 :: s.out) ∧
    (∀ m qid e q, s.sq m qid = some q → s.mayFetch q = true → s.turnOk q = true →
      ∃ t, exec (.commandFetch m qid e) s = .next t ∧ t.host.nextArr = s.host.nextArr + 1 ∧
        t.sq m qid = some { q with head := (q.head + 1) % q.size } ∧
        ∃ c ∈ t.host.ctxs, c.arr = s.host.nextArr ∧ c.ctrl = m ∧ c.sqid = qid ∧ c.sqe = e ∧ c.prio = s.mediaPrio q) ∧
    (∀ c ranges, s.nextAdmit = some c → s.ctx c.arr = some c → s.admitCheck c ranges = none → c.writes = false →
      s.rltUsed + (s.locksOf c ranges).length ≤ 8192 → ∃ t, exec (.rltAdmission ranges) s = .next t ∧
        ∃ c', t.ctx c.arr = some c' ∧ c'.admitted = true ∧ c'.locks = s.locksOf c ranges ∧ c'.status = none) ∧
    (∀ c ranges, s.nextAdmit = some c → s.ctx c.arr = some c → s.admitCheck c ranges = none → c.writes = false →
      8192 < s.rltUsed + (s.locksOf c ranges).length → s.host.stallRlt = false →
      ∃ t, exec (.rltAdmission ranges) s = .next t ∧ t.host.stallRlt = true ∧ t.ctx c.arr = some c) ∧
    (∀ c ranges st, s.nextAdmit = some c → s.ctx c.arr = some c → s.admitCheck c ranges = some st → s.recov.stopped = false →
      ∃ t, exec (.rltAdmission ranges) s = .next t ∧ t.statusOf c.arr = some st)

/-- Grants (R130, R134, R135, R168, R187): a command whose locks wait for no earlier command holds them, unless the Locking table
denies its range; a zone's tail goes to the first command that wants it, and an append takes the write pointer as its LBA.
The model's own choices in it: notes/assumptions/19.md, 39.md. -/
def Obligations.LockAndTailGrants : Prop :=
  ∀ (s : State) (a : Nat) (c : Ctx), s.boot.held = .off → s.recov.stopped = false → s.ctx a = some c →
    (c.admitted = true → c.granted = false → c.locks ≠ [] → c.status = none → s.lockWaits c = false →
      s.awaitsTcg c = false → (c.isAdmin = false → (s.nsFor c).isSome = true) → s.deniedBy c = false →
      ∃ t, exec (.lockGrant a) s = .next t ∧ t.ctx a = some { c with granted := true }) ∧
    (c.admitted = true → c.granted = false → c.locks ≠ [] → c.status = none → s.lockWaits c = false →
      s.awaitsTcg c = false → (c.isAdmin = false → (s.nsFor c).isSome = true) → s.deniedBy c = true →
      ∃ t, exec (.lockGrant a) s = .next t ∧ t.statusOf a = some St.accessDenied) ∧
    (s.lockWaits c = true → ∃ t, exec (.lockGrant a) s = .next t ∧ t.ctx a = some c) ∧
    (∀ z n band b, c.zone = some z → s.nspace c.sqe.nsid = some n → c.tail = false → c.status = none →
      s.tailBusy c = false → (s.nsFor c).isSome = true → c.io 0x7D = true →
      s.writeCheck n z c.sqe.slba c.sqe.nlb true = none → (n.zone z).band = some b → (n.zone z).open? = true →
      ∃ t, exec (.zoneTailGrant a band) s = .next t ∧ ∃ c', t.ctx a = some c' ∧ c'.tail = true ∧
        c'.slba = z * zoneLbas + (n.zone z).wp ∧
        c'.locks = [⟨n.nsid, z * zoneLbas + (n.zone z).wp, z * zoneLbas + (n.zone z).wp + c.sqe.nlb, true, false⟩]) ∧
    (∀ z n band st, c.zone = some z → s.nspace c.sqe.nsid = some n → c.tail = false → c.status = none →
      s.tailBusy c = false → (s.nsFor c).isSome = true → c.io 0x01 = true →
      s.writeCheck n z c.sqe.slba c.sqe.nlb false = some st →
      ∃ t, exec (.zoneTailGrant a band) s = .next t ∧ t.statusOf a = some st)

/-- Completions and interrupts (R97, R104, R110 to R113): the entry of a command whose outcome is fixed goes to host memory and its
context is freed; an unmasked vector's pending message is sent; the coalescing time ends an aggregation with its message.
The model's own choices in it: notes/assumptions/35.md. -/
def Obligations.CompletionsAndMessages : Prop :=
  ∀ s : State, s.boot.held = .off →
    (∀ a c st q, s.ctx a = some c → c.status = some st → s.deleteWaits c = false → c.smbus = false →
      s.cq c.ctrl c.cqid = some q → s.hostReach c.ctrl = true → ∃ t, exec (.completionPost a) s = .next t ∧
        t.ctx a = none ∧ ∃ hd, .cqe c.ctrl c.cqid q.tail q.phase c.sqid hd c.sqe.cid st c.dw0 c.dw1 ∈ t.out) ∧
    (∀ a c st q, s.ctx a = some c → c.status = some st → s.deleteWaits c = false → c.smbus = false →
      s.cq c.ctrl c.cqid = some q → s.hostReach c.ctrl = false → ∃ t, exec (.completionPost a) s = .next t ∧
        t.ctx a = none ∧ t.out = s.out ∧
        (t.rd Reg.HQE_CQ_LOST).toNat = min ((s.rd Reg.HQE_CQ_LOST).toNat + 1) 0xFFFFFFFF) ∧
    (∀ m v, v < s.vectors → ∃ t, exec (.msixUnmask m (0x20000 + 16 * v + 12) (.write 1)) s = .next t ∧ v ∉ (t.ctrl m).unmasked) ∧
    (∀ m v, v < s.vectors → (s.ctrl m).pendVec.contains v = true → s.fbit (Reg.HPXn_FUNC_MSIXEN m) = true →
      s.fbit (Reg.HPXn_FUNC_MSIXMASK m) = false → s.hostReach m = true →
      ∃ t, exec (.msixUnmask m (0x20000 + 16 * v + 12) (.write 0)) s = .next t ∧ v ∈ (t.ctrl m).unmasked ∧
        v ∉ (t.ctrl m).pendVec ∧ t.out = .msix m v (s.msixWord m (4 * v) + s.msixWord m (4 * v + 1) * 2 ^ 32)
          (s.msixWord m (4 * v + 2)) :: s.out) ∧
    (∀ m v k w, v < s.vectors → k < 3 → ∃ t, exec (.msixUnmask m (0x20000 + 16 * v + 4 * k) (.write w)) s = .next t ∧
      t.msixWord m (4 * v + k) = w % 2 ^ 32) ∧
    (∀ m v, (s.ctrl m).unsig.any (fun u => decide (u.1 = v) &&
        decide (u.2.2 + (s.ctrl m).coalTime * 10 ^ 5 ≤ s.cycle)) = true → s.fbit (Reg.HPXn_FUNC_MSIXEN m) = true →
      s.fbit (Reg.HPXn_FUNC_MSIXMASK m) = false → (s.ctrl m).unmasked.contains v = true → s.hostReach m = true →
      ∃ t, exec (.coalesceTimerExpiry m v) s = .next t ∧
        t.out = .msix m v (s.msixWord m (4 * v) + s.msixWord m (4 * v + 1) * 2 ^ 32) (s.msixWord m (4 * v + 2)) :: s.out ∧
        ∀ u ∈ (t.ctrl m).unsig, u.1 ≠ v)

/-- The life of a controller (R89, R109, R141): enabling with valid settings makes it ready with its admin queues, invalid ones do
not; disabling resets it; a shutdown is announced and ends when its work is done.
The model's own choices in it: notes/assumptions/37.md. -/
def Obligations.ControllerLife : Prop :=
  ∀ (s : State) (m : Fin 2), s.boot.held = .off →
    (∀ css mps ams iosqes iocqes asqs acqs asq acq, s.hpxOn = true → s.portOn m = true → (s.ctrl m).en = false →
      (s.ctrl m).resetWait = false → (css = 0 ∨ css = 6) → mps ≤ 4 → ams ≤ 1 →
      ∃ t, exec (.ccEnable m css mps ams iosqes iocqes asqs acqs asq acq) s = .next t ∧ (t.ctrl m).en = true ∧
        (t.ctrl m).rdy = true ∧ (t.ctrl m).css = css ∧ ⟨m, 0, asqs + 1, 0, 0, 0, 0⟩ ∈ t.host.sqs ∧
        ⟨m, 0, acqs + 1, 0, 0, true, 0, true⟩ ∈ t.host.cqs) ∧
    (∀ css mps ams iosqes iocqes asqs acqs asq acq, s.hpxOn = true → s.portOn m = true → (s.ctrl m).en = false →
      (s.ctrl m).resetWait = false → 4 < mps →
      ∃ t, exec (.ccEnable m css mps ams iosqes iocqes asqs acqs asq acq) s = .next t ∧ (t.ctrl m).rdy = false ∧
        t.host.sqs = s.host.sqs) ∧
    ((s.ctrl m).en = true → ∃ t, exec (.controllerReset m) s = .next t ∧ (t.ctrl m).en = false) ∧
    ((s.ctrl m).en = true → s.host.ctxs = [] → ∃ t, exec (.controllerReset m) s = .next t ∧ (t.ctrl m).rdy = false ∧
      (∀ q ∈ t.host.sqs, q.ctrl ≠ m) ∧ (∀ q ∈ t.host.cqs, q.ctrl ≠ m)) ∧
    ((s.ctrl m).en = true → ∃ t, exec (.normalShutdown m) s = .next t ∧ (t.ctrl m).shn = 1 ∧ (t.ctrl m).shst = 1) ∧
    ((s.ctrl m).en = true → ∃ t, exec (.abruptShutdown m) s = .next t ∧ (t.ctrl m).shn = 2 ∧ (t.ctrl m).shst = 1) ∧
    ((s.ctrl m).shst = 1 → s.busyCmds m = false → ((s.ctrl m).shn = 1 → s.dirtyCount = 0 ∧
        (s.otherDown m = true → s.allUnloaded = true)) → ((s.ctrl m).shn = 2 → s.destaging = []) →
      ∃ t, exec (.shutdownComplete m) s = .next t ∧ (t.ctrl m).shst = 2 ∧ (∀ q ∈ t.host.sqs, q.ctrl = m → q.qid = 0))

/-- The ports (R83 to R85, R111, R123, R139, R141, R495): what resets, link changes, logged errors, D-states and configuration
writes leave in the port's registers and its controller.
The model's own choices in it: notes/assumptions/36.md, 37.md. -/
def Obligations.PortEvents : Prop :=
  ∀ (s : State) (m : Fin 2), s.boot.held = .off → s.portOn m = true →
    (∃ t, exec (.functionLevelReset m) s = .next t ∧ (t.ctrl m).en = false ∧ t.rd (Reg.HPXn_FUNC m) = 0#32 ∧
      t.fget (Reg.HPXn_EVT_STAT_FLR m) = 1) ∧
    (∀ held, 1000 ≤ held → ∃ t, exec (.perstAssert m held) s = .next t ∧ (t.ctrl m).en = false ∧
      t.fget (Reg.HPXn_LINK_PERST m) = 1 ∧ t.fget (Reg.HPXn_LINK_UP m) = 0) ∧
    (∀ held, 1000 ≤ held → ∃ t, exec (.perstDeassert m held) s = .next t ∧ t.fget (Reg.HPXn_LINK_PERST m) = 0) ∧
    (∀ held, held < 1000 → ∃ t, exec (.perstAssert m held) s = .next t ∧ t = s.settle) ∧
    (∀ held, held < 1000 → ∃ t, exec (.perstDeassert m held) s = .next t ∧ t = s.settle) ∧
    (s.fbit (Reg.HPXn_LINK_UP m) = true → ∃ t, exec (.pcieLinkDown m) s = .next t ∧ t.fget (Reg.HPXn_LINK_UP m) = 0 ∧
      (t.ctrl m).en = false) ∧
    (∀ pstate rate width reversed recov, s.hpxOn = true → s.fbit (Reg.HPXn_LINK_PERST m) = false →
      s.linkOk rate width = true →
      ∃ t, exec (.pcieLinkChange m pstate rate width reversed recov) s = .next t ∧ t.fget (Reg.HPXn_LINK_UP m) = 1 ∧
        t.fget (Reg.HPXn_LINK_RATE m) = rate ∧ t.fget (Reg.HPXn_LINK_WIDTH m) = width) ∧
    (∀ header arr, ∃ t, exec (.pcieErrorLogged m 0 header arr) s = .next t ∧ t.fget (Reg.HPXn_EVT_STAT_CE m) = 1 ∧
      (t.rd (Reg.HPXn_CE m)).toNat = min ((s.rd (Reg.HPXn_CE m)).toNat + 1) 0xFFFFFFFF) ∧
    (∀ header arr, ∃ t, exec (.pcieErrorLogged m 1 header arr) s = .next t ∧ t.fget (Reg.HPXn_EVT_STAT_NFE m) = 1 ∧
      (t.rd (Reg.HPXn_NFE m)).toNat = min ((s.rd (Reg.HPXn_NFE m)).toNat + 1) 0xFFFFFFFF) ∧
    (∀ header arr, ∃ t, exec (.pcieErrorLogged m 2 header arr) s = .next t ∧ t.fget (Reg.HPXn_EVT_STAT_FE m) = 1 ∧
      (t.rd (Reg.HPXn_FE m)).toNat = min ((s.rd (Reg.HPXn_FE m)).toNat + 1) 0xFFFFFFFF) ∧
    (∀ d3, ∃ t, exec (.dStateChange m d3) s = .next t ∧ t.fget (Reg.HPXn_FUNC_DSTATE m) = if d3 then 3 else 0) ∧
    (∀ msixen fmask bme, ∃ t, exec (.pcieConfigWrite m (.control msixen fmask bme)) s = .next t ∧
      t.fbit (Reg.HPXn_FUNC_MSIXEN m) = msixen ∧ t.fbit (Reg.HPXn_FUNC_MSIXMASK m) = fmask ∧
      t.fbit (Reg.HPXn_FUNC_BME m) = bme) ∧
    (∀ mps mrrs, mps ≤ 2 → mrrs ≤ 5 → ∃ t, exec (.pcieConfigWrite m (.device mps mrrs)) s = .next t ∧
      (t.host.cfg.get m).mps = mps ∧ (t.host.cfg.get m).mrrs = mrrs) ∧
    (∀ off, ∃ t, exec (.pcieConfigWrite m (.read off)) s = .next t ∧
      t.out = .configRead m off (BitVec.ofNat 32 (s.configWord off)) :: s.out)

/-! ### Admin commands. `s.mayExecute a c`: command a is c, admitted, with its locks, not begun; no reset and no Fault Stop -/

/-- Queue creation and deletion (R94, R140), Abort (R138) and Asynchronous Event Request (R118): what completes with success and
what it leaves, and the checks of R94 that end a creation.
The model's own choices in it: notes/assumptions/31.md, 34.md. -/
def Obligations.QueueCommands : Prop :=
  ∀ (s : State) (a : Nat) (c : Ctx), s.mayExecute a c →
    (c.adm 0x01 = true → s.queueCheck c false (s.sq c.ctrl (wordBits c.sqe.cdw10 15 0)).isSome = none →
      wordBits c.sqe.cdw11 31 16 ≠ 0 → (s.cq c.ctrl (wordBits c.sqe.cdw11 31 16)).isSome = true →
      ∃ t, exec (.createIoSq a) s = .next t ∧ t.statusOf a = some St.success ∧
        ⟨c.ctrl, wordBits c.sqe.cdw10 15 0, wordBits c.sqe.cdw10 31 16 + 1, 0, 0, wordBits c.sqe.cdw11 31 16,
          wordBits c.sqe.cdw11 2 1⟩ ∈ t.host.sqs) ∧
    (∀ st, c.adm 0x01 = true → s.queueCheck c false (s.sq c.ctrl (wordBits c.sqe.cdw10 15 0)).isSome = some st →
      ∃ t, exec (.createIoSq a) s = .next t ∧ t.statusOf a = some st ∧ t.host.sqs = s.host.sqs) ∧
    (c.adm 0x05 = true → s.queueCheck c true (s.cq c.ctrl (wordBits c.sqe.cdw10 15 0)).isSome = none →
      wordBits c.sqe.cdw11 31 16 < s.vectors →
      ∃ t, exec (.createIoCq a) s = .next t ∧ t.statusOf a = some St.success ∧
        ⟨c.ctrl, wordBits c.sqe.cdw10 15 0, wordBits c.sqe.cdw10 31 16 + 1, 0, 0, true, wordBits c.sqe.cdw11 31 16,
          c.sqe.cdw11.getLsbD 1⟩ ∈ t.host.cqs) ∧
    (c.adm 0x00 = true → wordBits c.sqe.cdw10 15 0 ≠ 0 → (s.sq c.ctrl (wordBits c.sqe.cdw10 15 0)).isSome = true →
      ∃ t, exec (.deleteIoSq a) s = .next t ∧ t.statusOf a = some St.success ∧
        t.sq c.ctrl (wordBits c.sqe.cdw10 15 0) = none) ∧
    (c.adm 0x04 = true → wordBits c.sqe.cdw10 15 0 ≠ 0 → (s.cq c.ctrl (wordBits c.sqe.cdw10 15 0)).isSome = true →
      (∀ q ∈ s.host.sqs, q.ctrl = c.ctrl → q.cqid ≠ wordBits c.sqe.cdw10 15 0) →
      (∀ x ∈ s.host.ctxs, x.ctrl = c.ctrl → x.cqid = wordBits c.sqe.cdw10 15 0 → x.isAdmin = true) →
      ∃ t, exec (.deleteIoCq a) s = .next t ∧ t.statusOf a = some St.success ∧
        t.cq c.ctrl (wordBits c.sqe.cdw10 15 0) = none) ∧
    (c.adm 0x08 = true → ∃ t, exec (.abort a) s = .next t ∧ t.statusOf a = some St.success ∧ t.dw0Of a = some 1 ∧
      ∀ x, x ≠ a → t.ctx x = s.ctx x) ∧
    (∀ dw l rest, c.adm 0x0C = true → (s.ctrl c.ctrl).events = (dw, l) :: rest →
      ∃ t, exec (.asyncEventRequest a) s = .next t ∧ t.statusOf a = some St.success ∧ t.dw0Of a = some dw ∧
        (t.ctrl c.ctrl).events = rest) ∧
    (c.adm 0x0C = true → (s.ctrl c.ctrl).events = [] → (s.ctrl c.ctrl).aers.length < 8 →
      ∃ t, exec (.asyncEventRequest a) s = .next t ∧ t.statusOf a = none ∧ (t.ctrl c.ctrl).aers = (s.ctrl c.ctrl).aers ++ [a])

/-- Identify, Get Log Page, Get Features and the Set Features with no row of their own (R103, R116, R119): the data or value
returned, the status of a field that names nothing, the feature set.
The model's own choices in it: notes/assumptions/31.md, 52.md, 53.md. -/
def Obligations.ReadingAndFeatures : Prop :=
  ∀ (s : State) (a : Nat) (c : Ctx), s.mayExecute a c →
    (∀ l, c.adm 0x06 = true → s.identifyData c = .ok l → ∃ t, exec (.identify a) s = .next t ∧
      t.statusOf a = some St.success ∧ t.out = .hostData a (listedBytes l) :: s.out) ∧
    (∀ st, c.adm 0x06 = true → s.identifyData c = .error st → ∃ t, exec (.identify a) s = .next t ∧
      t.statusOf a = some st ∧ t.out = s.out) ∧
    (c.adm 0x02 = true → wordBits c.sqe.cdw10 7 0 ∉ logPages → ∃ t, exec (.getLogPage a) s = .next t ∧
      t.statusOf a = some St.logInvalid) ∧
    (c.adm 0x02 = true → wordBits c.sqe.cdw10 7 0 = 0xC2 → logOff c.sqe % 4 = 0 → logLen c.sqe ≤ 2 ^ 21 →
      logOff c.sqe + logLen c.sqe ≤ s.healthPage.length → ∃ t, exec (.getLogPage a) s = .next t ∧
        t.statusOf a = some St.success ∧
        t.out = .hostData a (listedBytes ((s.healthPage.drop (logOff c.sqe)).take (logLen c.sqe))) :: s.out) ∧
    (c.adm 0x0A = true → s.featureField c = none → wordBits c.sqe.cdw10 10 8 = 0 →
      wordBits c.sqe.cdw10 7 0 ∉ [0x0E, 0x81, 0xC0] → ∃ t, exec (.getFeatures a) s = .next t ∧
        t.statusOf a = some St.success ∧ t.dw0Of a = some (s.featureDw c false)) ∧
    (∀ st, c.adm 0x0A = true → s.featureField c = some st → ∃ t, exec (.getFeatures a) s = .next t ∧
      t.statusOf a = some st) ∧
    (∀ data, c.adm 0x09 = true → s.setFeatureCheck c = none → wordBits c.sqe.cdw10 7 0 = 0x0B →
      ∃ t, exec (.setFeatures a data) s = .next t ∧ t.statusOf a = some St.success ∧
        (t.ctrl c.ctrl).aec = c.sqe.cdw11.toNat) ∧
    (∀ data, c.adm 0x09 = true → s.setFeatureCheck c = none → wordBits c.sqe.cdw10 7 0 = 0x0E →
      ∃ t, exec (.setFeatures a data) s = .next t ∧ t.statusOf a = some St.success ∧
        t.host.timestamp = some (leNat (data.take 6), s.cycle)) ∧
    (∀ data st, c.adm 0x09 = true → s.setFeatureCheck c = some st → ownFeature (wordBits c.sqe.cdw10 7 0) = false →
      ∃ t, exec (.setFeatures a data) s = .next t ∧ t.statusOf a = some st)

/-- The Set Features with a row of their own (R92, R100, R105, R112, R117, R553, R576, R577).
The model's own choices in it: notes/assumptions/31.md, 33.md, 53.md. -/
def Obligations.SettingFeatures : Prop :=
  ∀ (s : State) (a : Nat) (c : Ctx), s.mayExecute a c → c.adm 0x09 = true → s.setFeatureCheck c = none →
    (wordBits c.sqe.cdw10 7 0 = 0x01 → ∃ t, exec (.setFeaturesArbitration a) s = .next t ∧
      t.statusOf a = some St.success ∧ (t.ctrl c.ctrl).ab = wordBits c.sqe.cdw11 2 0 ∧
      (t.ctrl c.ctrl).lpw = wordBits c.sqe.cdw11 15 8 ∧ (t.ctrl c.ctrl).mpw = wordBits c.sqe.cdw11 23 16 ∧
      (t.ctrl c.ctrl).hpw = wordBits c.sqe.cdw11 31 24) ∧
    (wordBits c.sqe.cdw10 7 0 = 0x02 → wordBits c.sqe.cdw11 4 0 ≤ 4 → s.pow.reqs = [] →
      ∃ t, exec (.setFeaturesPowerManagement a) s = .next t ∧ t.psReq = wordBits c.sqe.cdw11 4 0) ∧
    (wordBits c.sqe.cdw10 7 0 = 0x02 → wordBits c.sqe.cdw11 4 0 ≤ 4 → s.pow.reqs ≠ [] →
      ∃ t, exec (.setFeaturesPowerManagement a) s = .next t ∧ t.statusOf a = none ∧
        t.pow.reqs = s.pow.reqs ++ [(wordBits c.sqe.cdw11 4 0, some a)]) ∧
    (wordBits c.sqe.cdw10 7 0 = 0x02 → 4 < wordBits c.sqe.cdw11 4 0 →
      ∃ t, exec (.setFeaturesPowerManagement a) s = .next t ∧ t.statusOf a = some St.invalidField) ∧
    (wordBits c.sqe.cdw10 7 0 = 0x05 → ∃ t, exec (.setFeaturesErrorRecovery a) s = .next t ∧
      t.statusOf a = some St.success ∧ t.host.tler = wordBits c.sqe.cdw11 15 0 ∧ t.host.dulbe = c.sqe.cdw11.getLsbD 16) ∧
    (wordBits c.sqe.cdw10 7 0 = 0x06 → c.sqe.cdw11.getLsbD 0 = true →
      ∃ t, exec (.setFeaturesVolatileWriteCache a) s = .next t ∧ t.statusOf a = some St.success ∧ t.host.wce = true) ∧
    (wordBits c.sqe.cdw10 7 0 = 0x06 → c.sqe.cdw11.getLsbD 0 = false → s.dirtyCount = 0 →
      ∃ t, exec (.setFeaturesVolatileWriteCache a) s = .next t ∧ t.statusOf a = some St.success ∧ t.host.wce = false) ∧
    (wordBits c.sqe.cdw10 7 0 = 0x06 → c.sqe.cdw11.getLsbD 0 = false → s.host.wce = true → 0 < s.dirtyCount →
      ∃ t, exec (.setFeaturesVolatileWriteCache a) s = .next t ∧ t.statusOf a = none ∧ t.host.wce = true) ∧
    (wordBits c.sqe.cdw10 7 0 = 0x07 → wordBits c.sqe.cdw11 15 0 ≠ 0xFFFF → wordBits c.sqe.cdw11 31 16 ≠ 0xFFFF →
      (s.ctrl c.ctrl).nq = none → s.singleX4 = true →
      ∃ t, exec (.setFeaturesNumberOfQueues a) s = .next t ∧ t.statusOf a = some St.success ∧
        (t.ctrl c.ctrl).nq = some (min (wordBits c.sqe.cdw11 15 0 + 1) 1024, min (wordBits c.sqe.cdw11 31 16 + 1) 1024)) ∧
    (wordBits c.sqe.cdw10 7 0 = 0x07 → wordBits c.sqe.cdw11 15 0 ≠ 0xFFFF → wordBits c.sqe.cdw11 31 16 ≠ 0xFFFF →
      (s.ctrl c.ctrl).nq.isSome = true →
      ∃ t, exec (.setFeaturesNumberOfQueues a) s = .next t ∧ t.statusOf a = some St.sequenceError) ∧
    (wordBits c.sqe.cdw10 7 0 = 0x08 → ∃ t, exec (.setFeaturesInterruptCoalescing a) s = .next t ∧
      t.statusOf a = some St.success ∧ (t.ctrl c.ctrl).coalThr = wordBits c.sqe.cdw11 7 0 ∧
      (t.ctrl c.ctrl).coalTime = wordBits c.sqe.cdw11 15 8) ∧
    (wordBits c.sqe.cdw10 7 0 = 0xC0 → c.sqe.cdw11.toNat ≤ 15 → s.dpiOn = true →
      s.dpi.modeValid c.sqe.cdw11.toNat = true → ∃ t, exec (.setFeaturesModeProfile a) s = .next t ∧
        t.statusOf a = some St.success ∧ t.pow.mode = c.sqe.cdw11.toNat) ∧
    (wordBits c.sqe.cdw10 7 0 = 0xC0 → s.dpiOn = false → ∃ t, exec (.setFeaturesModeProfile a) s = .next t ∧
      t.statusOf a = some St.invalidField)

/-- Namespaces (R147, R156 to R158), their erasure (R115, R188), Security (R186) and Directives (R432).
The model's own choices in it: notes/assumptions/21.md, 22.md, 54.md. -/
def Obligations.NamespaceCommands : Prop :=
  ∀ (s : State) (a : Nat) (c : Ctx), s.mayExecute a c →
    (∀ data n, c.adm 0x0D = true → wordBits c.sqe.cdw10 3 0 = 0 → s.drbgOk = true →
      s.nsToCreate (sparseLe data 0 8) (sparseLe data 8 8) (byteAt data 26) (byteAt data 29) (wordBits c.sqe.cdw11 31 24)
        (byteAt data 3072) (byteAt data 3073) = some n →
      ∃ t, exec (.namespaceCreate a data) s = .next t ∧ t.statusOf a = some St.success ∧
        t.dw0Of a = some n.nsid ∧ n ∈ t.ns.list) ∧
    (∀ data, c.adm 0x0D = true → wordBits c.sqe.cdw10 3 0 = 0 →
      s.nsToCreate (sparseLe data 0 8) (sparseLe data 8 8) (byteAt data 26) (byteAt data 29) (wordBits c.sqe.cdw11 31 24)
        (byteAt data 3072) (byteAt data 3073) = none →
      ∃ t, exec (.namespaceCreate a data) s = .next t ∧
        t.statusOf a = some St.invalidField ∧ t.ns = s.ns) ∧
    (∀ k, c.adm 0x0D = true → wordBits c.sqe.cdw10 3 0 = 1 → s.adminLocks c.sqe = some [k] →
      ∃ t, exec (.namespaceDelete a) s = .next t ∧ t.statusOf a = some St.success ∧ t.nspace k = none) ∧
    (∀ l n ms, c.adm 0x15 = true → wordBits c.sqe.cdw10 3 0 = 0 → s.nspace c.sqe.nsid = some n →
      s.listedCtrls l = some ms → (∀ m ∈ ms, n.att.get m = false) →
      ∃ t, exec (.namespaceAttach a l) s = .next t ∧ t.statusOf a = some St.success ∧
        ∃ n', t.nspace c.sqe.nsid = some n' ∧ ∀ m ∈ ms, n'.att.get m = true) ∧
    (∀ l n ms, c.adm 0x15 = true → wordBits c.sqe.cdw10 3 0 = 1 → s.nspace c.sqe.nsid = some n →
      s.listedCtrls l = some ms → (∀ m ∈ ms, n.att.get m = true) →
      ∃ t, exec (.namespaceDetach a l) s = .next t ∧ t.statusOf a = some St.success ∧
        ∃ n', t.nspace c.sqe.nsid = some n' ∧ ∀ m ∈ ms, n'.att.get m = false) ∧
    (∀ k n, c.adm 0x80 = true → wordBits c.sqe.cdw10 11 9 = 0 → s.adminLocks c.sqe = some [k] → s.nspace k = some n →
      ∃ t, exec (.formatNvm a) s = .next t ∧ t.statusOf a = some St.success ∧
        ∀ lba, lba < n.nsze → t.block k lba = none) ∧
    (c.adm 0x84 = true → s.drbgOk = true → ∃ t, exec (.sanitize a) s = .next t ∧ t.statusOf a = some St.success ∧
      t.xts.sanitize = some c.sqe.cdw10.toNat) ∧
    (∀ m, c.adm 0x81 = true → wordBits c.sqe.cdw10 31 24 = 1 → wordBits c.sqe.cdw10 23 8 = 0x07FE →
      s.keyWaits m = false → s.grantsWait c = false → ∃ t, exec (.securitySend a m) s = .next t ∧
        t.statusOf a = some St.success ∧ t.xts.response = some ((s.tcgRun m).2, s.tcgData m (s.tcgRun m).2)) ∧
    (∀ st d, c.adm 0x82 = true → wordBits c.sqe.cdw10 31 24 = 1 → wordBits c.sqe.cdw10 23 8 = 0x07FE →
      s.xts.response = some (st, d) → ∃ t, exec (.securityReceive a) s = .next t ∧ t.statusOf a = some St.success ∧
        t.out = .tcg a st d :: s.out ∧ t.xts.response = none) ∧
    (c.adm 0x19 = true → ∃ t, exec (.directiveSend a) s = .next t ∧
      t.statusOf a = some (if 1 < wordBits c.sqe.cdw11 15 8 then St.invalidField else St.success)) ∧
    (c.adm 0x1A = true → wordBits c.sqe.cdw11 15 8 ≤ 1 → ∃ t, exec (.directiveReceive a) s = .next t ∧
      t.statusOf a = some St.success ∧ ∃ l, t.out = .hostData a l :: s.out)


/-- Register Access (R18, R122) and Capture and Injection (R368, R370): the value read, what a write leaves, misaligned and unowned
accesses, and the capture unit's actions.
The model's own choices in it: notes/assumptions/40.md, 60.md. -/
def Obligations.RegisterAccessAndCapture : Prop :=
  ∀ (s : State) (a : Nat) (c : Ctx), s.mayExecute a c →
    (∀ t0 v, c.adm 0xC0 = true → c.sqe.cdw13.getLsbD 0 = false →
      s.busRead c.busMaster c.sqe.cdw12.toNat = (t0, v, .done) → ∃ t, exec (.registerAccessRead a) s = .next t ∧
        t.statusOf a = some St.success ∧ t.dw0Of a = some v.toNat) ∧
    (c.adm 0xC0 = true → c.sqe.cdw13.getLsbD 0 = false → c.sqe.cdw12.toNat % 4 ≠ 0 →
      ∃ t, exec (.registerAccessRead a) s = .next t ∧ t.statusOf a = some St.invalidField) ∧
    (∀ t0, c.adm 0xC0 = true → c.sqe.cdw13.getLsbD 0 = true →
      s.busWrite (if regRwo c.sqe.cdw12.toNat then .core 0 else c.busMaster) c.sqe.cdw12.toNat c.sqe.cdw14 = (t0, .done) →
      t0.host = s.host → t0.recov = s.recov → ∃ t, exec (.registerAccessWrite a) s = .next t ∧
        t.statusOf a = some St.success ∧ t.dw0Of a = some 0 ∧ ∀ r, r ≠ Reg.EVR_DROPQ → t.rd r = t0.rd r) ∧
    (c.adm 0xC0 = true → c.sqe.cdw13.getLsbD 0 = true → c.sqe.cdw12.toNat % 4 ≠ 0 →
      ∃ t, exec (.registerAccessWrite a) s = .next t ∧ t.statusOf a = some St.invalidField ∧
        ∀ r, r ≠ Reg.EVR_DROPQ → t.rd r = s.rd r) ∧
    (∀ u : Fin 2, c.adm 0xC2 = true → c.sqe.action = 0 → c.sqe.cdw12.getLsbD 4 = decide (u = 1) → (s.cap.get u).st = 0 →
      c.sqe.cdw15.getLsbD 0 = false → c.sqe.cdw13.getLsbD 25 = true →
      ∃ t, exec (.captureConfigureAndStart a) s = .next t ∧ t.statusOf a = some St.success ∧ (t.cap.get u).st = 2 ∧
        t.fget (Reg.SVD_CAPn_STAT_RUNNING u) = 1 ∧ (t.rd (Reg.SVD_CAPn_CH u)) = c.sqe.cdw14) ∧
    (∀ u : Fin 2, c.adm 0xC2 = true → c.sqe.action = 0 → c.sqe.cdw12.getLsbD 4 = decide (u = 1) → (s.cap.get u).st ≠ 0 →
      ∃ t, exec (.captureConfigureAndStart a) s = .next t ∧ t.statusOf a = some St.sequenceError ∧ t.cap = s.cap) ∧
    (∀ u : Fin 2, c.adm 0xC2 = true → c.sqe.action = 1 → c.sqe.cdw12.getLsbD 4 = decide (u = 1) → (s.cap.get u).st = 0 →
      s.fbit (Reg.SVD_CAPn_STAT_THROTTLED u) = false → ∃ t, exec (.captureRead a []) s = .next t ∧
        t.statusOf a = some St.success ∧ t.out = .hostData a (listedBytes ((List.range (c.sqe.ndt / 4)).flatMap (fun i =>
          if captureAddr u (c.sqe.cdw13.toNat + i) ∈ s.memp.poison ∨ captureAddr u (c.sqe.cdw13.toNat + i) + 8 ∈ s.memp.poison
          then leBytes (2 ^ 64 - 1) 8 ++ leBytes 0 8
          else s.memBytes 16 (captureAddr u (c.sqe.cdw13.toNat + i))))) :: s.out) ∧
    (∀ (u : Fin 2) (errs : List MemErr), c.adm 0xC2 = true → c.sqe.action = 1 → c.sqe.cdw12.getLsbD 4 = decide (u = 1) →
      (s.cap.get u).st ≠ 0 → ∃ t, exec (.captureRead a errs) s = .next t ∧ t.statusOf a = some St.sequenceError ∧
        t.out = s.out) ∧
    (∀ u : Fin 2, c.adm 0xC2 = true → c.sqe.action = 2 → c.sqe.cdw12.getLsbD 4 = decide (u = 1) →
      (s.cap.get u).injPair = none → s.fbit (Reg.SVD_CAPn_STAT_THROTTLED u) = false → ∃ t, exec (.captureStop a) s = .next t ∧
        t.statusOf a = some St.success ∧ (t.cap.get u).st = 0) ∧
    (∀ u : Fin 2, c.adm 0xC2 = true → c.sqe.action = 3 → c.sqe.cdw12.getLsbD 4 = decide (u = 1) →
      ∃ t, exec (.captureStatus a) s = .next t ∧ t.dw0Of a = some (s.rd (Reg.SVD_CAPn_STAT u)).toNat ∧
        t.statusOf a = some (if s.fbit (Reg.SVD_CAPn_STAT_THROTTLED u) then St.peakThrottled else St.success))

/-- Configuration ownership (R543 to R545, R547, R552): the four actions as commands and at BAR2, the result of one that is refused,
and what the three timeouts leave.
The model's own choices in it: notes/assumptions/24.md, 66.md. -/
def Obligations.OwnershipActions : Prop :=
  (∀ (s : State) (a : Nat) (c : Ctx) (data : List Byte) (target token : Nat), s.mayExecute a c → c.adm 0xC1 = true →
    (ownFields data = (1, target, token, false) → s.ownValid 1 target token false = true → s.ownState = 0 →
      ∃ t, exec (.ownershipClaim a data) s = .next t ∧ t.statusOf a = some St.success ∧ t.dw0Of a = some (c.master + 16) ∧
        t.owner = c.master ∧ t.ownState = 1 ∧ t.own.token = token) ∧
    (ownFields data = (1, target, token, false) → s.ownValid 1 target token false = true → s.ownState ≠ 0 →
      s.owner ≠ c.master → ∃ t, exec (.ownershipClaim a data) s = .next t ∧ t.statusOf a = some St.success ∧
        t.dw0Of a = some (s.owner + 16 * s.ownState + 256) ∧ t.own = s.own ∧ t.owner = s.owner) ∧
    (ownFields data = (2, target, token, false) → s.ownValid 2 target token false = true → s.ownState = 1 →
      s.owner = c.master → token = s.own.token → ∃ t, exec (.ownershipHandover a data) s = .next t ∧
        t.statusOf a = some St.success ∧ t.ownState = 2 ∧ t.owner = s.owner ∧ t.fget Reg.OWN_STATE_TARGET = target) ∧
    (ownFields data = (3, target, token, false) → s.ownValid 3 target token false = true → s.ownState = 2 →
      s.fget Reg.OWN_STATE_TARGET = c.master → ∃ t, exec (.ownershipAccept a data) s = .next t ∧
        t.statusOf a = some St.success ∧ t.ownState = 1 ∧ t.owner = c.master ∧ t.own.token = token) ∧
    (ownFields data = (4, target, token, false) → s.ownValid 4 target token false = true → s.ownState = 1 →
      s.owner = c.master → token = s.own.token → ∃ t, exec (.ownershipRelease a data) s = .next t ∧
        t.statusOf a = some St.success ∧ t.ownState = 0 ∧ t.owner = 0) ∧
    (ownFields data = (4, target, token, false) → s.ownValid 4 target token false = false →
      ∃ t, exec (.ownershipRelease a data) s = .next t ∧ t.statusOf a = some St.invalidField ∧ t.own = s.own)) ∧
  (∀ s : State, s.boot.held = .off →
    (∀ d, s.ownState = 2 → s.own.due = some d → d ≤ s.cycle → ∃ t, exec .handoverTimeout s = .next t ∧ t.ownState = 1 ∧ t.owner = s.owner) ∧
    (∀ d, s.ownState = 3 → s.own.due = some d → d ≤ s.cycle → ∃ t, exec .graceExpiry s = .next t ∧ t.ownState = 0 ∧ t.owner = 0) ∧
    (s.owner = 3 → s.ownState = 1 → s.fget Reg.OWN_CFG_GRACE ≠ 0 →
      s.mctp.lastAt + max 1 (s.fget Reg.OWN_CFG_SMBTMO) * 10 ^ 9 ≤ s.cycle → ∃ t, exec .smbusOwnerTimeout s = .next t ∧ t.ownState = 3 ∧ t.owner = 3) ∧
    (s.owner = 3 → s.ownState = 1 → s.fget Reg.OWN_CFG_GRACE = 0 →
      s.mctp.lastAt + max 1 (s.fget Reg.OWN_CFG_SMBTMO) * 10 ^ 9 ≤ s.cycle → ∃ t, exec .smbusOwnerTimeout s = .next t ∧ t.ownState = 0 ∧ t.owner = 0) ∧
    (∀ m : Fin 2, s.portOn m = true → s.ownState = 0 → s.own.barToken.get m ≠ 0 →
      ∃ t, exec (.bar2OwnAction m 0xC (.write 1)) s = .next t ∧
        t.ownState = 1 ∧ t.owner = 1 + m.val ∧ t.own.token = s.own.barToken.get m ∧ t.own.barResult.get m = 0) ∧
    (∀ (m : Fin 2) (act : Nat), s.portOn m = true → act < 2 ^ 32 → act ≠ 1 → act ≠ 4 →
      ∃ t, exec (.bar2OwnAction m 0xC (.write act)) s = .next t ∧ t.own.barResult.get m = 0xFF ∧ t.ownState = s.ownState) ∧
    (∀ (m : Fin 2) (w : Nat), s.portOn m = true → w < 2 ^ 32 → ∃ t, exec (.bar2OwnAction m 4 (.write w)) s = .next t ∧
      t.own.barToken.get m % 2 ^ 32 = w ∧ t.own.barToken.get m / 2 ^ 32 = s.own.barToken.get m / 2 ^ 32) ∧
    (∀ m : Fin 2, s.portOn m = true → ∃ t, exec (.bar2OwnAction m 0x10 .read) s = .next t ∧
      t.out = .barRead m 0x10 (BitVec.ofNat 32 (256 * s.own.barResult.get m)) :: s.out))

/-- Event Recorder Control (R515, R516).
The model's own choices in it: notes/assumptions/25.md. -/
def Obligations.RecorderCommands : Prop :=
  ∀ (s : State) (a : Nat) (c : Ctx), s.mayExecute a c → c.adm 0xC5 = true →
    (c.sqe.action = 0 → ∃ t, exec (.evrReadConfiguration a) s = .next t ∧ t.statusOf a = some St.success ∧
      t.out = .hostData a (listedBytes (([Reg.EVR_CFG] ++ (List.range 65).map Reg.EVR_LINE_n ++
        (List.range 8).flatMap (fun l => (List.range 48).map (Reg.EVR_LIST_n_i l))).flatMap
          (fun r => leBytes (s.rd r).toNat 4))) :: s.out) ∧
    (∀ k, c.sqe.action = 1 → wordBits c.sqe.cdw13 6 0 = k → k ≤ 64 → ∃ t, exec (.evrSetLine a) s = .next t ∧
      t.statusOf a = some St.success ∧ t.fget (Reg.EVR_LINE_n_EN k) = wordBits c.sqe.cdw14 7 7 ∧
      t.fget (Reg.EVR_LINE_n_MINSEV k) = wordBits c.sqe.cdw14 5 4 ∧ t.fget (Reg.EVR_LINE_n_SNAP k) = wordBits c.sqe.cdw14 3 3 ∧
      t.fget (Reg.EVR_LINE_n_LIST k) = wordBits c.sqe.cdw14 2 0) ∧
    (∀ data, c.sqe.action = 2 → (∀ i, i < 48 → listEntryOk (data.getD i 0#32).toNat = true) →
      ∃ t, exec (.evrWriteList a data) s = .next t ∧ t.statusOf a = some St.success ∧
        ∀ i, i < 48 → t.rd (Reg.EVR_LIST_n_i (wordBits c.sqe.cdw13 2 0) i) = data.getD i 0#32) ∧
    (∀ data i, c.sqe.action = 2 → i < 48 → listEntryOk (data.getD i 0#32).toNat = false →
      ∃ t, exec (.evrWriteList a data) s = .next t ∧ t.statusOf a = some St.invalidField ∧
        ∀ r, r ≠ Reg.EVR_DROPQ → t.rd r = s.rd r) ∧
    (c.sqe.action = 3 → ∃ t, exec (.evrSetConfiguration a) s = .next t ∧ t.statusOf a = some St.success ∧
      t.fget Reg.EVR_CFG_FRZ = wordBits c.sqe.cdw14 31 31 ∧ t.fget Reg.EVR_CFG_MIRSEV = wordBits c.sqe.cdw14 9 8) ∧
    (c.sqe.action = 4 → ∃ t, exec (.evrClear a) s = .next t ∧ t.statusOf a = some St.success ∧ t.validSlots = []) ∧
    (c.sqe.action = 5 → ∃ t, exec (.evrUnfreeze a) s = .next t ∧ t.statusOf a = some St.success ∧
      t.fget Reg.EVR_STATUS_FROZEN = 0) ∧
    (∀ data, c.sqe.action = 6 → s.evr.staged = [] → s.evr.queue.length < 64 → s.fbit (Reg.EVR_LINE_n_EN 0x40) = true →
      s.fget (Reg.EVR_LINE_n_MINSEV 0x40) ≤ 1 → s.fbit Reg.EVR_STATUS_FROZEN = false →
      ∃ t o, exec (.evrPostMarker a data) s = .next t ∧ t.statusOf a = some St.success ∧ t.evr.queue = s.evr.queue ++ [o] ∧
        o.line = 0x40 ∧ o.cause = 0xFFFFFFFE ∧ o.sev = .notice ∧ o.payload = padTo 24 data ∧ o.stamp = s.stamp)

/-- Firmware Image Download and Commit (R594, R595, R598, R600), Customer Microcode Load (R262, R263) and DPI Load (R597, R600): an
update whose turn has come (R601) is stored and named, or ends with the status its checks find.
The model's own choices in it: notes/assumptions/55.md, 56.md, 58.md, 62.md. -/
def Obligations.ImageUpdates : Prop :=
  ∀ (s : State) (a : Nat) (c : Ctx), s.mayExecute a c →
    (∀ data, c.adm 0x11 = true → 4 * (c.sqe.cdw10.toNat + 1) % 4096 = 0 → 4 * c.sqe.cdw11.toNat % 4096 = 0 →
      4 * c.sqe.cdw11.toNat + 4 * (c.sqe.cdw10.toNat + 1) ≤ 6 * 2 ^ 20 → data.length = 4 * (c.sqe.cdw10.toNat + 1) →
      ∃ t, exec (.firmwareImageDownload a data) s = .next t ∧ t.statusOf a = some St.success ∧
        t.host.fwPieces = s.host.fwPieces ++ [(4 * c.sqe.cdw11.toNat, data)]) ∧
    (∀ data, c.adm 0x11 = true → 4 * (c.sqe.cdw10.toNat + 1) % 4096 ≠ 0 → ∃ t, exec (.firmwareImageDownload a data) s = .next t ∧
      t.statusOf a = some St.invalidField ∧ t.host.fwPieces = s.host.fwPieces) ∧
    (∀ k, c.adm 0x10 = true → s.updateWaits a = false → wordBits c.sqe.cdw10 5 3 = 0 →
      s.commitSlot (wordBits c.sqe.cdw10 2 0) = k → s.host.fwPieces ≠ [] → s.fwOk s.fwJoined = true →
      ∃ t, exec (.firmwareCommitStore a true) s = .next t ∧ t.statusOf a = some St.success ∧ t.fwSlot k = some s.fwJoined ∧
        t.settings = s.settings) ∧
    (∀ ok, c.adm 0x10 = true → s.updateWaits a = false → wordBits c.sqe.cdw10 5 3 = 0 → s.fwOk s.fwJoined = false →
      ∃ t, exec (.firmwareCommitStore a ok) s = .next t ∧ t.statusOf a = some St.invalidField ∧ t.boot.fw = s.boot.fw) ∧
    (∀ k, c.adm 0x10 = true → s.updateWaits a = false → wordBits c.sqe.cdw10 5 3 = 1 →
      s.commitSlot (wordBits c.sqe.cdw10 2 0) = k → s.host.fwPieces ≠ [] → s.fwOk s.fwJoined = true →
      ∃ t, exec (.firmwareCommitStoreActivate a true true) s = .next t ∧ t.statusOf a = some St.success ∧
        t.fwSlot k = some s.fwJoined ∧ t.settings.fwNext = k) ∧
    (∀ k, c.adm 0x10 = true → s.updateWaits a = false → wordBits c.sqe.cdw10 5 3 = 2 →
      s.commitSlot (wordBits c.sqe.cdw10 2 0) = k → s.fwSlotOk k = true →
      ∃ t, exec (.firmwareCommitActivate a true) s = .next t ∧ t.statusOf a = some St.success ∧ t.settings.fwNext = k) ∧
    (∀ ok, c.adm 0x10 = true → s.updateWaits a = false → wordBits c.sqe.cdw10 5 3 = 2 →
      s.fwSlotOk (s.commitSlot (wordBits c.sqe.cdw10 2 0)) = false →
      ∃ t, exec (.firmwareCommitActivate a ok) s = .next t ∧ t.statusOf a = some St.invalidField ∧ t.settings = s.settings) ∧
    (∀ img, c.adm 0xC3 = true → s.updateWaits a = false → c.sqe.ndt = imageNdt img.len →
      csCustomerOk img s.dpi.ckeyHash = true → s.customerRuns = false →
      ∃ t, exec (.customerMicrocodeLoad a img [] true) s = .next t ∧ t.statusOf a = some St.success ∧
        t.fget Reg.TRS_CENTRY_LO_VALID = img.entryValid % 2 ^ 32 ∧ t.fget Reg.TRS_CENTRY_HI_VALID = img.entryValid / 2 ^ 32 ∧
        t.fget Reg.TRS_CS_CTRL_COPEN = 0) ∧
    (∀ img wrong ok, c.adm 0xC3 = true → s.updateWaits a = false → csCustomerOk img s.dpi.ckeyHash = false →
      ∃ t, exec (.customerMicrocodeLoad a img wrong ok) s = .next t ∧ t.statusOf a = some St.invalidField ∧ t.cs = s.cs) ∧
    (∀ d, c.adm 0xC6 = true → s.updateWaits a = false → c.sqe.action = 0 → s.settings.dpi ≤ 1 →
      c.sqe.ndt = imageNdt d.len → s.dpiOk d = true → ∃ t, exec (.dpiLoad a d true true) s = .next t ∧
        t.statusOf a = some St.success ∧ t.dpiSlot (1 - s.settings.dpi) = some d ∧ t.settings.dpi = 1 - s.settings.dpi ∧
        t.settings.mode = none ∧ t.heads = []) ∧
    (∀ d ok ok', c.adm 0xC6 = true → s.updateWaits a = false → c.sqe.action = 0 → s.dpiOk d = false →
      ∃ t, exec (.dpiLoad a d ok ok') s = .next t ∧ t.statusOf a = some St.invalidField ∧ t.boot.dpis = s.boot.dpis) ∧
    (∀ d, c.adm 0xC6 = true → s.updateWaits a = false → c.sqe.action = 1 → s.dpiSlot (1 - s.settings.dpi) = some d →
      s.dpiOk d = true → ∃ t, exec (.dpiActivateOther a true) s = .next t ∧ t.statusOf a = some St.success ∧
        t.settings.dpi = 1 - s.settings.dpi) ∧
    (∀ ok, c.adm 0xC6 = true → s.updateWaits a = false → c.sqe.action = 1 → s.dpiSlotOk (1 - s.settings.dpi) = false →
      ∃ t, exec (.dpiActivateOther a ok) s = .next t ∧ t.statusOf a = some St.invalidField ∧ t.settings = s.settings)

/-- OTP Program (R588, R589, R592, R593): what each action programs, and when it is refused.
The model's own choices in it: notes/assumptions/57.md. -/
def Obligations.OtpProgramming : Prop :=
  ∀ (s : State) (a : Nat) (c : Ctx), s.mayExecute a c → c.adm 0xC4 = true → s.updateWaits a = false →
    (∀ data g, c.sqe.action = 1 → g < 4 → (∀ j, j < g → s.crecUsed j = true) → s.crecUsed g = false → s.crecUsed 3 = false →
      (data.getD 0xB 0#8).toNat ≤ s.activeGen.elim 0 (fun j => s.otpByte (0x30B + 64 * j)) →
      ∃ t, exec (.otpProgramConfigRecord a data true) s = .next t ∧ t.statusOf a = some St.success ∧ t.dw0Of a = some 0 ∧
        t.otpBytes 64 (0x300 + 64 * g) = crecBytes data g) ∧
    (∀ data ok, c.sqe.action = 1 → s.crecUsed 3 = true → ∃ t, exec (.otpProgramConfigRecord a data ok) s = .next t ∧
      t.statusOf a = some St.invalidField ∧ t.boot.otp = s.boot.otp) ∧
    (∀ data k, c.sqe.action = 2 → k < 4 → (∀ j, j < k → s.otpBlank 48 (0x200 + 48 * j) = false) →
      s.otpBlank 48 (0x200 + 48 * k) = true → data.length = 48 → ∃ t, exec (.otpProgramDpiKey a data true) s = .next t ∧
        t.statusOf a = some St.success ∧ t.dw0Of a = some 0 ∧ t.otpBytes 48 (0x200 + 48 * k) = data) ∧
    (c.sqe.action = 3 → (∃ j, j < 4 ∧ j ≠ wordBits c.sqe.cdw13 1 0 ∧ s.dkeyUsable j = true) →
      ∃ t, exec (.otpRevokeDpiKey a true) s = .next t ∧ t.statusOf a = some St.success ∧
        t.dkeyUsable (wordBits c.sqe.cdw13 1 0) = false) ∧
    (∀ ok, c.sqe.action = 3 → (∀ j, j < 4 → j ≠ wordBits c.sqe.cdw13 1 0 → s.dkeyUsable j = false) →
      ∃ t, exec (.otpRevokeDpiKey a ok) s = .next t ∧ t.statusOf a = some St.invalidField ∧ t.boot.otp = s.boot.otp) ∧
    (c.sqe.action = 4 → (∃ j, j < 4 ∧ j ≠ wordBits c.sqe.cdw13 1 0 ∧ s.rootUsable j = true) →
      ∃ t, exec (.otpRevokeRootKey a true) s = .next t ∧ t.statusOf a = some St.success ∧
        t.rootUsable (wordBits c.sqe.cdw13 1 0) = false) ∧
    (∀ f, c.sqe.action = 5 → s.boot.fwRun = some f → wordBits c.sqe.cdw13 8 0 ≤ f.svn → s.fwSvn < wordBits c.sqe.cdw13 8 0 →
      wordBits c.sqe.cdw13 8 0 ≤ 256 → ∃ t, exec (.otpRaiseFwSvn a true) s = .next t ∧ t.statusOf a = some St.success ∧
        wordBits c.sqe.cdw13 8 0 ≤ t.fwSvn) ∧
    (∀ ok, c.sqe.action = 6 → s.dpiOn = true → wordBits c.sqe.cdw13 8 0 ≤ s.dpi.svn →
      wordBits c.sqe.cdw13 8 0 ≤ s.dpiSvn → ∃ t, exec (.otpRaiseDpiSvn a ok) s = .next t ∧ t.statusOf a = some St.success ∧
        t.boot.otp = s.boot.otp) ∧
    (c.sqe.action = 6 → s.dpiOn = true → wordBits c.sqe.cdw13 8 0 ≤ s.dpi.svn → s.dpiSvn < wordBits c.sqe.cdw13 8 0 →
      wordBits c.sqe.cdw13 8 0 ≤ 256 → ∃ t, exec (.otpRaiseDpiSvn a true) s = .next t ∧ t.statusOf a = some St.success ∧
        wordBits c.sqe.cdw13 8 0 ≤ t.dpiSvn)

/-! ### I/O commands -/

/-- Writes (R104, R107, R108, R133, R136, R144): a write begins with its data, or waits for the dirty limit, or ends with a transfer
error; a cached one ends when its data is stored, its blocks hold it in media form (R32, R184), and its zone's write pointer has moved; a zone that has become Read Only takes
none of it (R164).
The model's own choices in it: notes/assumptions/17.md, 18.md, 19.md. -/
def Obligations.WritesAndTheCache : Prop :=
  ∀ (s : State) (a : Nat) (c : Ctx) (n : Ns), s.nspace c.sqe.nsid = some n →
    (∀ data pays, s.mayExecute a c → c.io 0x01 = true → c.stallWc = false → n.compressed = false →
      s.cacheRoom c = true → s.slotEmpty n.nsid c.slba (c.slba + c.sqe.nlb) = false →
      ∃ t, exec (.write a (some data) pays []) s = .next t ∧
        t.ctx a = some { c with started := true, data := data, pays := pays }) ∧
    (∀ pays, s.mayExecute a c → c.io 0x01 = true → c.stallWc = false →
      s.cacheRoom c = true → s.slotEmpty n.nsid c.slba (c.slba + c.sqe.nlb) = false →
      ∃ t, exec (.write a none pays []) s = .next t ∧ t.statusOf a = some St.transferError) ∧
    (∀ data pays, s.mayExecute a c → c.io 0x01 = true → c.stallWc = false → s.cacheRoom c = false →
      ∃ t, exec (.write a data pays []) s = .next t ∧ t.ctx a = some { c with stallWc := true } ∧
        (t.rd Reg.HQE_STALL_WC).toNat = min ((s.rd Reg.HQE_STALL_WC).toNat + 1) 0xFFFFFFFF) ∧
    (∀ data pays, s.mayExecute a c → c.io 0x7D = true → c.stallWc = false → n.compressed = false →
      s.cacheRoom c = true → s.slotEmpty n.nsid c.slba (c.slba + c.sqe.nlb) = false →
      ∃ t, exec (.zoneAppend a (some data) pays []) s = .next t ∧
        t.ctx a = some { c with started := true, data := data, pays := pays }) ∧
    (∀ pays, s.mayExecute a c → c.io 0x08 = true → c.stallWc = false → n.compressed = false →
      s.cacheRoom c = true → s.slotEmpty n.nsid c.slba (c.slba + c.sqe.nlb) = false →
      ∃ t, exec (.writeZeroes a pays) s = .next t ∧
        t.ctx a = some { c with started := true, data := [], pays := pays }) ∧
    (s.boot.held = .off → s.ctx a = some c → c.stallWc = true → s.cacheRoom c = true →
      ∃ t, exec (.dirtyLimitResume a) s = .next t ∧ t.ctx a = some { c with stallWc := false }) ∧
    (s.boot.held = .off → s.recov.stopped = false → s.ctx a = some c → c.writes = true → c.started = true →
      c.stored = false → c.status = none → s.cachedWrite c = true → n.zoned = false →
      ∃ t, exec (.dataStored a []) s = .next t ∧ t.statusOf a = some St.success ∧
        ∀ i, i < c.sqe.nlb → ∃ b, t.block c.sqe.nsid (c.slba + i) = some b ∧ b.dirty = true ∧
          b.data = s.mediaForm c.sqe.nsid (c.slba + i) (c.data.getD i []) ∧ b.arr = c.arr ∧ b.failed = false ∧ b.unrec = false) ∧
    (s.boot.held = .off → s.recov.stopped = false → s.ctx a = some c → c.writes = true → c.started = true →
      c.stored = false → c.status = none → s.cachedWrite c = true → n.kind = .zoned →
      (n.zone (c.slba / zoneLbas)).st ≠ .readOnly → (n.zone (c.slba / zoneLbas)).st ≠ .offline →
      ∃ t n', exec (.dataStored a []) s = .next t ∧ t.statusOf a = some St.success ∧ t.nspace c.sqe.nsid = some n' ∧
        (n'.zone (c.slba / zoneLbas)).wp = (n.zone (c.slba / zoneLbas)).wp + c.sqe.nlb ∧
        (zoneLbas ≤ (n.zone (c.slba / zoneLbas)).wp + c.sqe.nlb → (n'.zone (c.slba / zoneLbas)).st = .full)) ∧
    (s.boot.held = .off → s.recov.stopped = false → s.ctx a = some c → c.writes = true → c.started = true →
      c.stored = false → c.status = none → s.cachedWrite c = true → n.kind = .zoned →
      (n.zone (c.slba / zoneLbas)).st = .readOnly → ∃ t, exec (.dataStored a []) s = .next t ∧
        t.statusOf a = some St.zoneReadOnly ∧ t.ns = s.ns)

/-- Reads, flushes and deallocation (R104, R106, R117, R150, R163, R179, R636), and the posting of the write that saves the deferred error
records (R146, R209).
The model's own choices in it: notes/assumptions/17.md, 20.md, 39.md. -/
def Obligations.ReadsFlushesDeallocation : Prop :=
  (∀ (s : State) (a : Nat) (c : Ctx) (n : Ns), s.mayExecute a c → s.nspace c.sqe.nsid = some n →
    (c.io 0x02 = true → s.readStatus (s.readOutcome n c.slba c.sqe.nlb) = none →
      s.slotEmpty n.nsid c.slba (c.slba + c.sqe.nlb) = false → c.media = 0 → n.compressed = false →
      ∃ t, exec (.read a [] [] []) s = .next t ∧
        t.statusOf a = some St.success ∧ t.out = .hostData a (s.readBytes n c.slba c.sqe.nlb) :: s.out) ∧
    (∀ posts seen merr st, c.io 0x02 = true → s.readStatus (s.readOutcome n c.slba c.sqe.nlb) = some st →
      ∃ t, exec (.read a posts seen merr) s = .next t ∧ t.statusOf a = some st ∧ t.out = s.out) ∧
    (∀ seen u l, c.io 0x02 = true → s.readStatus (s.readOutcome n c.slba c.sqe.nlb) = none →
      s.slotEmpty n.nsid c.slba (c.slba + c.sqe.nlb) = false → c.media = 0 → n.compressed = true →
      (s.modCtx a (fun c => { c with started := true })).compRead n c.slba c.sqe.nlb seen = (u, true, l) →
      ∃ t, exec (.read a [] seen []) s = .next t ∧ t.statusOf a = some St.success ∧ .hostData a l ∈ t.out) ∧
    (∀ p rest, c.io 0x02 = true → s.readStatus (s.readOutcome n c.slba c.sqe.nlb) = none →
      s.slotEmpty n.nsid c.slba (c.slba + c.sqe.nlb) = false → s.cmdPostable c 1 (p :: rest) = true → ∃ t, exec (.read a (p :: rest) [] []) s = .next t ∧
        t.ctx a = some { c with started := true, media := (p :: rest).length }) ∧
    (∀ k ∈ c.locks, c.io 0x09 = true → n.zoned = false → ∃ t, exec (.datasetManagement a) s = .next t ∧
      t.statusOf a = some St.success ∧ ∀ lba, k.lo ≤ lba → lba < k.hi → t.block c.sqe.nsid lba = none) ∧
    (c.io 0x09 = true → n.zoned = true → ∃ t, exec (.datasetManagement a) s = .next t ∧
      t.statusOf a = some St.success ∧ t.ns = s.ns)) ∧
  (∀ (s : State) (a : Nat) (c : Ctx), s.mayExecute a c → c.io 0x00 = true → (∀ n ∈ s.ns.list, n.compressed = false) →
    (s.flushed c = true → c.covered = [] → s.carried c.ctrl c.arr c.sqe.nsid c.deAt = none → ∃ t, exec (.flush a) s = .next t ∧
      t.statusOf a = some St.success) ∧
    (∀ r, s.flushed c = true → c.covered = [] → s.carried c.ctrl c.arr c.sqe.nsid c.deAt = some r →
      ∃ t, exec (.flush a) s = .next t ∧ t.statusOf a = some St.deferred) ∧
    (s.flushed c = false → ∃ t, exec (.flush a) s = .next t ∧ t.statusOf a = none)) ∧
  (∀ (s : State) (r : PostReq), s.boot.held = .off → s.pagesFree (s.sysDesc r) = true → s.msc.rings.length = 6 →
    ∃ t, exec (.recordPersist [r]) s = .next t ∧ t.host.de = s.host.de ∧
      t.msc.rings.getD r.ring.val [] = s.msc.rings.getD r.ring.val [] ++
        [⟨{ s.sysDesc r with entry := s.routeEntry (s.sysDesc r) }, false, none, none, deVer (s.host.deSeq - 1)⟩])

/-- Reservations (R114; their layouts and identities are the model's: notes/assumptions/31.md).
The model's own choices in it: notes/assumptions/38.md. -/
def Obligations.Reservations : Prop :=
  ∀ (s : State) (a : Nat) (c : Ctx) (n : Ns), s.mayExecute a c → s.nspace c.sqe.nsid = some n →
    (∀ cr nr, c.io 0x0D = true → wordBits c.sqe.cdw10 2 0 = 0 → n.resv.keyOf (s.hostOf c.ctrl) = none →
      ∃ t n', exec (.reservationRegister a cr nr) s = .next t ∧ t.statusOf a = some St.success ∧
        t.nspace c.sqe.nsid = some n' ∧ n'.resv.keyOf (s.hostOf c.ctrl) = some nr) ∧
    (∀ cr nr k, c.io 0x0D = true → wordBits c.sqe.cdw10 2 0 = 1 → n.resv.keyOf (s.hostOf c.ctrl) = some k → k ≠ cr →
      c.sqe.cdw10.getLsbD 3 = false → ∃ t, exec (.reservationRegister a cr nr) s = .next t ∧
        t.statusOf a = some St.reservation ∧ t.ns = s.ns) ∧
    (∀ cr pr, c.io 0x11 = true → wordBits c.sqe.cdw10 2 0 = 0 → n.resv.keyOf (s.hostOf c.ctrl) = some cr → n.resv.rtype = 0 →
      ∃ t n', exec (.reservationAcquire a cr pr) s = .next t ∧ t.statusOf a = some St.success ∧
        t.nspace c.sqe.nsid = some n' ∧ n'.resv.rtype = wordBits c.sqe.cdw10 15 8 ∧
        n'.resv.holder = some (s.hostOf c.ctrl)) ∧
    (∀ cr pr, c.io 0x11 = true → n.resv.keyOf (s.hostOf c.ctrl) = none →
      ∃ t, exec (.reservationAcquire a cr pr) s = .next t ∧ t.statusOf a = some St.reservation ∧ t.ns = s.ns) ∧
    (∀ cr, c.io 0x15 = true → wordBits c.sqe.cdw10 2 0 = 0 → n.resv.keyOf (s.hostOf c.ctrl) = some cr →
      n.resv.holds (s.hostOf c.ctrl) = true → n.resv.rtype = wordBits c.sqe.cdw10 15 8 →
      ∃ t n', exec (.reservationRelease a cr) s = .next t ∧ t.statusOf a = some St.success ∧
        t.nspace c.sqe.nsid = some n' ∧ n'.resv.rtype = 0 ∧ n'.resv.holder = none ∧ n'.resv.regs = n.resv.regs) ∧
    (c.io 0x0E = true → n.resv.regs = [] → c.sqe.cdw11.getLsbD 0 = false → 5 ≤ c.sqe.cdw10.toNat →
      ∃ t, exec (.reservationReport a) s = .next t ∧ t.statusOf a = some St.success ∧
        t.out = .hostData a (listedBytes (leBytes n.resv.gen 4 ++ leBytes n.resv.rtype 1 ++ leBytes 0 4 ++
          leBytes (if n.resv.ptpl then 1 else 0) 1 ++ leBytes 0 14)) :: s.out)

/-- Zone Management (R162, R164, R165, R168): what each action leaves of a zone of an uncompressed zoned namespace, the report, and
Set Zone Descriptor Extension, which is refused.
The model's own choices in it: notes/assumptions/19.md. -/
def Obligations.ZoneManagement : Prop :=
  (∀ (s : State) (a : Nat) (c : Ctx) (n : Ns), s.mayExecute a c → s.nspace c.sqe.nsid = some n →
    (c.io 0x79 = true → c.sqe.selectAll = false → n.kind = .zoned →
      (c.sqe.zoneAction = 1 → (n.zone (c.sqe.slba / zoneLbas)).open? = true → ∃ t n', exec (.zoneClose a) s = .next t ∧
        t.statusOf a = some St.success ∧ t.nspace c.sqe.nsid = some n' ∧ (n'.zone (c.sqe.slba / zoneLbas)).st = .closed) ∧
      (c.sqe.zoneAction = 2 → ∃ t n', exec (.zoneFinish a) s = .next t ∧
        t.statusOf a = some St.success ∧ t.nspace c.sqe.nsid = some n' ∧ (n'.zone (c.sqe.slba / zoneLbas)).st = .full ∧
        (n'.zone (c.sqe.slba / zoneLbas)).wp = (n.zone (c.sqe.slba / zoneLbas)).wp) ∧
      (c.sqe.zoneAction = 3 → ∃ t n', exec (.zoneOpen a) s = .next t ∧
        t.statusOf a = some St.success ∧ t.nspace c.sqe.nsid = some n' ∧
        (n'.zone (c.sqe.slba / zoneLbas)).st = .explOpen) ∧
      (c.sqe.zoneAction = 4 → ∃ t n', exec (.zoneReset a) s = .next t ∧
        t.statusOf a = some St.success ∧ t.nspace c.sqe.nsid = some n' ∧ (n'.zone (c.sqe.slba / zoneLbas)).st = .empty ∧
        (n'.zone (c.sqe.slba / zoneLbas)).wp = 0 ∧ (n'.zone (c.sqe.slba / zoneLbas)).band = none ∧
        ∀ i, i < zoneLbas → t.block c.sqe.nsid (c.sqe.slba / zoneLbas * zoneLbas + i) = none) ∧
      (c.sqe.zoneAction = 5 → ∃ t n', exec (.zoneOffline a) s = .next t ∧
        t.statusOf a = some St.success ∧ t.nspace c.sqe.nsid = some n' ∧
        (n'.zone (c.sqe.slba / zoneLbas)).st = .offline)) ∧
    (c.io 0x7A = true → ∃ t, exec (.zoneManagementReceive a) s = .next t ∧ t.statusOf a = some St.success ∧
      t.out = .hostData a (listedBytes (s.zoneReport n c.sqe.slba c.sqe.zras ((c.sqe.cdw12.toNat + 1) * 4)
        (decide (c.sqe.zoneAction = 1)) (c.sqe.cdw13.getLsbD 16))) :: s.out)) ∧
  (∀ (s : State) (c : Ctx) (n : Ns), s.boot.held = .off → s.recov.stopped = false → s.fget Reg.SYS_BOOT_MODE ≠ 3 →
    s.nextAdmit = some c → s.ctx c.arr = some c → c.io 0x79 = true → c.sqe.zoneAction = 0x10 →
    s.nspace c.sqe.nsid = some n → n.zoned = true → ∃ t, exec (.setZoneDescriptorExtension c.arr) s = .next t ∧
      t.statusOf c.arr = some St.invalidField)

/-! ### Encryption, media scheduler, sequencers and channels -/

/-- Key operations and the entropy source (R183, R189): generate, load, clear and rewrap, with the AES key wrap under the KEK. The bits a
DRBG draws are a free value (notes/assumptions/4.md).
The model's own choices in it: notes/assumptions/22.md. -/
def Obligations.KeyOperations : Prop :=
  ∀ s : State, s.boot.held = .off →
    (∀ m slot auth, s.xtsMaster m = true → s.fbit Reg.XTS_STATUS_BUSY = false →
      (∃ t, exec (.xtsGenerate m slot auth) s = .next t ∧ t.xts.op = some ⟨1, slot, auth⟩ ∧ t.fget Reg.XTS_STATUS_BUSY = 1) ∧
      (∃ t, exec (.xtsLoad m slot auth) s = .next t ∧ t.xts.op = some ⟨2, slot, auth⟩ ∧ t.fget Reg.XTS_STATUS_BUSY = 1) ∧
      (∃ t, exec (.xtsClear m slot auth) s = .next t ∧ t.xts.op = some ⟨3, slot, auth⟩ ∧ t.fget Reg.XTS_STATUS_BUSY = 1) ∧
      (∃ t, exec (.xtsRewrap m slot auth) s = .next t ∧ t.xts.op = some ⟨4, slot, auth⟩ ∧ t.fget Reg.XTS_STATUS_BUSY = 1)) ∧
    (∀ m slot auth, s.xtsMaster m = true → s.fbit Reg.XTS_STATUS_BUSY = true → ∃ t, exec (.xtsGenerate m slot auth) s = .next t ∧
      t.xts = s.xts ∧ t.fget Reg.XTS_STATUS_ERR = 5) ∧
    (∀ m slot auth, s.xtsMaster m = false → ∃ t, exec (.xtsClear m slot auth) s = .next t ∧ t.xts = s.xts) ∧
    (∀ slot auth, s.xts.op = some ⟨1, slot, auth⟩ → s.drbgOk = true → ∃ t, exec .xtsOperationDone s = .next t ∧
      sparseFind slot t.xts.keys = some (Config.freeNat s.fresh % 2 ^ 512) ∧ t.fget Reg.XTS_STATUS_DONE = 1 ∧
      t.fget Reg.XTS_STATUS_BUSY = 0 ∧ ∀ d, d < 18 → t.rd (Reg.XTS_BLOB_n d) = BitVec.ofNat 32
        (wrapped (s.kek auth slot s.credBytes) (Config.freeNat s.fresh % 2 ^ 512) / 2 ^ (32 * d))) ∧
    (∀ slot auth, s.xts.op = some ⟨1, slot, auth⟩ → s.drbgOk = false → ∃ t, exec .xtsOperationDone s = .next t ∧
      t.xts.keys = s.xts.keys ∧ t.fget Reg.XTS_STATUS_ERR = 2) ∧
    (∀ slot auth k, s.xts.op = some ⟨2, slot, auth⟩ → unwrapped (s.kek auth slot s.credBytes) s.blob = some k →
      ∃ t, exec .xtsOperationDone s = .next t ∧ sparseFind slot t.xts.keys = some k ∧ t.fget Reg.XTS_STATUS_DONE = 1) ∧
    (∀ slot auth, s.xts.op = some ⟨2, slot, auth⟩ → unwrapped (s.kek auth slot s.credBytes) s.blob = none →
      ∃ t, exec .xtsOperationDone s = .next t ∧ t.xts.keys = s.xts.keys ∧ t.fget Reg.XTS_STATUS_ERR = 3 ∧
        t.fget Reg.XTS_EVT_STAT_UNWRAP = 1) ∧
    (∀ slot auth, s.xts.op = some ⟨3, slot, auth⟩ → ∃ t, exec .xtsOperationDone s = .next t ∧
      sparseFind slot t.xts.keys = none ∧ t.fget Reg.XTS_STATUS_DONE = 1) ∧
    (∀ slot auth k, s.xts.op = some ⟨4, slot, auth⟩ → sparseFind slot s.xts.keys = some k → ∃ t, exec .xtsOperationDone s = .next t ∧
      t.xts.keys = s.xts.keys ∧ ∀ d, d < 18 → t.rd (Reg.XTS_BLOB_n d) = BitVec.ofNat 32
        (wrapped (s.kek auth slot s.credBytes) k / 2 ^ (32 * d))) ∧
    (∀ slot auth, s.xts.op = some ⟨4, slot, auth⟩ → sparseFind slot s.xts.keys = none → ∃ t, exec .xtsOperationDone s = .next t ∧
      t.fget Reg.XTS_STATUS_ERR = 4) ∧
    (s.drbgOk = false → ∃ t, exec (.drbgHealthRetest true) s = .next t ∧ t.fget Reg.XTS_STATUS_DRBGOK = 1) ∧
    (∃ t, exec .entropyHealthTestFail s = .next t ∧ t.fget Reg.XTS_STATUS_DRBGOK = 0 ∧ t.fget Reg.XTS_EVT_STAT_HEALTH = 1)

/-- Intake, selection and what ends a wait (R171, R175, R194 to R200, R205 to R209, R215, R216).
The model's own choices in it: notes/assumptions/44.md. -/
def Obligations.MediaIntakeAndSelection : Prop :=
  ∀ s : State, s.boot.held = .off →
    (∀ (r : Fin 6) p rest, r.val < 4 → s.msc.rings[r.val]? = some (p :: rest) → s.slotCount (ringActuators r).1 < 2048 →
      (∀ o ∈ s.msc.moveList, o.act ≠ (ringActuators r).1) → s.badDescriptor (ringActuators r).1 p.d = false →
      s.mayRun (ringActuators r).1 p.d = true → ∃ t o, exec (.intakeAccept r) s = .next t ∧ t.msc.rings[r.val]? = some rest ∧ t.msc.ops = s.msc.ops ++ [o] ∧
        o.acc = s.msc.nextAcc ∧ o.act = (ringActuators r).1 ∧ o.p.d.cyl = p.d.cyl ∧ t.msc.nextAcc = s.msc.nextAcc + 1) ∧
    (∀ (r : Fin 6) p rest, r.val < 4 → s.msc.rings[r.val]? = some (p :: rest) → s.slotCount (ringActuators r).1 < 2048 →
      (∀ o ∈ s.msc.moveList, o.act ≠ (ringActuators r).1) → s.badDescriptor (ringActuators r).1 p.d = true →
      ∃ t k, exec (.intakeAccept r) s = .next t ∧ t.msc.ops = s.msc.ops ∧
        t.msc.outcomes = s.msc.outcomes ++ [⟨k, Outc.rejected, false, 0, 0xFFFF, s.stamp⟩]) ∧
    (∀ (r : Fin 6) p rest, r.val < 4 → s.msc.rings[r.val]? = some (p :: rest) → 2048 ≤ s.slotCount (ringActuators r).1 →
      (∀ x ∈ s.msc.stalls, x.1 ≠ r.val) → ∃ t, exec (.intakeAccept r) s = .next t ∧ t.msc.rings = s.msc.rings ∧
        (t.rd (Reg.MSC_STALLn (ringActuators r).1)).toNat =
          min ((s.rd (Reg.MSC_STALLn (ringActuators r).1)).toNat + 1) 0xFFFFFFFF) ∧
    (∀ n o, s.msc.commit.get n = none → s.selectTime n = true → s.heldBack n = false → s.msc.leases = [] →
      (∀ q ∈ s.msc.ops, s.underCap q.p.d = true) → s.selectChoice n = some (o, false) →
      ∃ t c, exec (.operationSelect n) s = .next t ∧ t.msc.commit.get n = some c ∧ c.op.acc = o.acc ∧ c.op.act = n ∧
        t.msc.ops = s.msc.ops.filter (fun q => decide (q.acc ≠ o.acc)) ∧ t.msc.lastCyl.get n = o.p.d.cyl) ∧
    (∃ t, exec .leaseExpiry s = .next t ∧
      t.msc.leases = s.msc.leases.filter (fun l => decide (s.linStamp < l.expiry))) ∧
    (∀ n, s.msc.avail.get n = .out → (s.trs.get n).st = .idle → (s.trs.get n).wg = false →
      ∃ t, exec (.leaseRevoke n) s = .next t ∧
        t.msc.leases = s.msc.leases.filter (fun (l : Lease) => decide (l.holder ≠ n))) ∧
    (∀ o ∈ s.msc.moveList, s.slotCount o.act < 2048 →
      (∀ q ∈ s.msc.moveList, s.slotCount q.act < 2048 → q ≠ o → o.acc < q.acc) → ∃ t o', exec .moveListEntry s = .next t ∧
      t.msc.ops = s.msc.ops ++ [o'] ∧ o'.acc = o.acc ∧ o'.act = o.act ∧
      t.msc.moveList = s.msc.moveList.filter (fun q => decide (q.acc ≠ o.acc))) ∧
    (∃ t, exec .destageRouteCheck s = .next t ∧
      ∀ o ∈ t.msc.ops, o.noRoute < max 1 (s.fget Reg.MSC_DESTAGE_BOUND) * s.piers) ∧
    (marginCap (s.fget Reg.PMU_VMOT_MV) (s.fget Reg.MSC_WCG_VMOT_T1) (s.fget Reg.MSC_WCG_VMOT_T2) (s.fget Reg.MSC_WCG_VMOT_T3) <
        s.fget Reg.MSC_WCG_STATUS_VMOT_CAP → ∃ t, exec .marginCapEval s = .next t ∧ t.fget Reg.MSC_WCG_STATUS_VMOT_CAP =
          marginCap (s.fget Reg.PMU_VMOT_MV) (s.fget Reg.MSC_WCG_VMOT_T1) (s.fget Reg.MSC_WCG_VMOT_T2)
            (s.fget Reg.MSC_WCG_VMOT_T3)) ∧
    (∃ t, exec (.destageEstimateUpdate []) s = .next t ∧ t.fget Reg.MSC_DESTAGE_EST_MS = 0) ∧
    (∀ (r : Fin 6) d d' nsid lba nlb l, s.msc.rings[r.val]? = some l → d.kind ≠ 4 →
      d' = { d with prio := if 15000 ≤ s.fget Reg.MSC_DESTAGE_EST_MS then 2 else 0, flags := s.postFlags r d nsid, kind := 2 } →
      s.abrupt = false → s.postable d' = true → ∃ t p extra,
      exec (.cacheDestagePost r d nsid lba nlb) s = .next t ∧ t.msc.rings[r.val]? = some (l ++ p :: extra) ∧ p.destage = true ∧
        p.d.kind = 2 ∧ p.ext = some (nsid, lba, nlb) ∧ p.d.entry = s.routeEntry d' ∧ p.d.prio = d'.prio ∧ p.d.flags = d'.flags ∧
        ((∀ g ∈ s.recov.grown, g.spare = none) → extra = [])) ∧
    (∀ (r : Fin 6) d d' nsid lba nlb l, s.msc.rings[r.val]? = some l → d.kind = 4 →
      d' = { d with prio := if 15000 ≤ s.fget Reg.MSC_DESTAGE_EST_MS then 2 else 0, flags := s.postFlags r d nsid, kind := 4 } →
      s.abrupt = false → s.postable d' = true → s.parityOff nsid = false → ∃ t p,
      exec (.cacheDestagePost r d nsid lba nlb) s = .next t ∧ t.msc.rings[r.val]? = some (l ++ [p]) ∧ p.destage = true ∧
        p.d.kind = 4 ∧ p.ext = none) ∧
    (∀ (r : Fin 6) d nsid lba nlb, d.kind = 4 → s.parityOff nsid = true → ∃ t,
      exec (.cacheDestagePost r d nsid lba nlb) s = .next t ∧ t.msc = s.msc)

/-- The sequencers (R213, R214, R222 to R232, R249, R250): hand-over, the release of a word, control writes, timeouts, outcomes.
The model's own choices in it: notes/assumptions/44.md, 66.md. -/
def Obligations.SequencersRun : Prop :=
  ∀ (s : State) (n : Fin 4), s.boot.held = .off → s.unitOff (Reg.TRSn_CTRL n) = false →
    (∀ c x, s.msc.commit.get n = some c → (s.trs.get n).st = .idle → s.fget (Reg.TRSn_CTRL_HOLD n) = 0 →
      s.msc.running.get n = none → s.spt c.op.p.d.surf c.op.p.d.rz ≠ 0 → c.op.p.d.defect = 0xFFFF →
      (s.pa.get n).faultLine = false → c.op.p.d.wrap = false → c.op.p.d.customer = false → s.leaseFor n c.op.p.d = true →
      s.csWord (c.op.p.d.entry % 64) = x + csParity x * 2 ^ 144 → x < 2 ^ 144 → mwWait x = 0 →
      s.issueCheck false c.op.p.d.kind x = none →
      ∃ t, exec (.trsDescriptorAccept n) s = .next t ∧ t.msc.commit.get n = none ∧ t.msc.running.get n = some c ∧
        (t.trs.get n).st = .running ∧ (t.trs.get n).op = c.op.p.d ∧ (t.trs.get n).pc = c.op.p.d.entry % 64 ∧
        (t.trs.get n).stalled = some x ∧ (t.trs.get n).done = 0 ∧ (t.trs.get n).psec = c.op.p.d.first) ∧
    (∀ c, s.msc.commit.get n = some c → s.leaseFor n c.op.p.d = false → ∃ t, exec (.trsDescriptorAccept n) s = .next t ∧
      t.msc = s.msc ∧ t.trs = s.trs) ∧
    (∀ x, (s.trs.get n).stalled = some x → (s.trs.get n).st = .running → (s.trs.get n).rg = false →
      (s.pa.get n).astHeld = false → mwHalt x = true → mwSafe x = false → mwWait x = 0 → mwCond x = 0 → mwFmt x = 0 →
      mwPreamp x = 0 → mwRegsel x = 0 → mwCntop x = 0 → mwEvt x = 0 → mwRg x = false → mwWg x = false → mwAg x = false →
      mwPg x = false → ∃ t r, exec (.wordRelease n) s = .next t ∧ (t.trs.get n).st = .idle ∧
        t.msc.reports = s.msc.reports ++ [r] ∧ r.lane = n ∧ r.code = (s.trs.get n).code ∧ r.op = (s.trs.get n).op) ∧
    (∀ x, (s.trs.get n).stalled = some x → s.waitDone n x = false → ∃ t, exec (.wordRelease n) s = .next t ∧ t.trs = s.trs) ∧
    (∀ m, s.trsRunning n = true → (s.trs.get n).rg = false → ∃ t r, exec (.trsCtrlStop m n) s = .next t ∧
      (t.trs.get n).st = .idle ∧ t.msc.reports = s.msc.reports ++ [r] ∧ r.lane = n ∧ r.code = Outc.aborted) ∧
    (∀ m, s.trsRunning n = true → ∃ t, exec (.trsCtrlAbort m n) s = .next t ∧ (t.trs.get n).abortP = true ∧
      (t.trs.get n).st = (s.trs.get n).st) ∧
    (∀ m, (s.trs.get n).st = .checked → ∃ t, exec (.trsCtrlClr m n) s = .next t ∧ (t.trs.get n).st = .idle ∧
      t.fget (Reg.TRSn_MCHK_VALID n) = 0 ∧ t.recov.depth = 0) ∧
    (∀ m, ∃ t, exec (.trsCtrlHold m n true) s = .next t ∧ t.fget (Reg.TRSn_CTRL_HOLD n) = 1 ∧ t.trs = s.trs) ∧
    (∀ m, (s.trs.get n).st = .held → (s.pa.get n).faultLine = true → (s.trs.get n).rg = false → ∃ t r,
      exec (.trsCtrlHold m n false) s = .next t ∧ (t.trs.get n).st = .idle ∧ t.msc.reports = s.msc.reports ++ [r] ∧ r.lane = n ∧
        r.code = Outc.preampFault) ∧
    (∀ m x, (s.trs.get n).st = .held → (s.trs.get n).stalled = some x → (s.pa.get n).faultLine = false → ∃ t,
      exec (.trsCtrlHold m n false) s = .next t ∧
      t.fget (Reg.TRSn_CTRL_HOLD n) = 0 ∧ (t.trs.get n).st = .running ∧ (t.trs.get n).stalled = some x) ∧
    (∀ m x, (s.trs.get n).st = .held → (s.trs.get n).stalled = none → (s.pa.get n).faultLine = false →
      s.csWord (s.trs.get n).heldNext = x + csParity x * 2 ^ 144 → x < 2 ^ 144 → mwWait x = 0 →
      s.issueCheck (s.trs.get n).op.customer (s.trs.get n).op.kind x = none → ∃ t, exec (.trsCtrlStep m n) s = .next t ∧
        (t.trs.get n).st = .running ∧ (t.trs.get n).stalled = some x ∧ (t.trs.get n).pc = (s.trs.get n).heldNext) ∧
    (s.trsRunning n = true → s.linOf (s.trs.get n).acceptStamp + max 2 (s.fget Reg.MSC_DISPATCH_TMO) * revLen s.piers ≤
      s.linStamp → ∃ t, exec (.abortPendingTimeout n) s = .next t ∧ (t.trs.get n).abortP = true ∧
        t.msc.tmoStage.get n = 1) ∧
    (s.trsRunning n = true → s.linOf (s.trs.get n).acceptStamp + (max 2 (s.fget Reg.MSC_DISPATCH_TMO) + 1) * revLen s.piers ≤
      s.linStamp → (escalate (s.msc.forcedWin.get n) s.stamp (s.revs 64) 3).1 = false → (s.trs.get n).rg = false →
      ∃ t r, exec (.forcedStopTimeout n) s = .next t ∧ (t.trs.get n).st = .idle ∧ t.msc.reports = s.msc.reports ++ [r] ∧
        r.lane = n ∧ r.code = Outc.timeout) ∧
    (∀ r c posts, s.msc.reports.find? (fun r => decide (r.lane = n)) = some r → s.msc.running.get n = some c → r.code = 0 →
      c.op.p.d.isWrite = false → s.ladderOf c.op.p = none → c.op.p.groupRead = false → s.pinLost n c.op r = false → (s.head (laneHead n c.op.p.d.surf)).realloc < s.dpi.retr →
      (s.head (laneHead n c.op.p.d.surf)).wfault < s.dpi.retw →
      ∃ t, exec (.operationOutcome n posts false) s = .next t ∧ t.msc.running.get n = none ∧
        t.msc.reports = s.msc.reports.erase r ∧
        t.msc.outcomes = s.msc.outcomes ++ [⟨c.op.p.d.slot, 0, s.missed c r, r.done, r.fail, r.stamp⟩])

/-- The control store (R256 to R259): who may write which region, the holding registers, the commit of a whole word with its
parity. -/
def Obligations.ControlStoreWrites : Prop :=
  ∀ (s : State) (m : Master) (w : Fin 16384) (v : Word), s.boot.held = .off →
    (∀ part : Fin 4, s.csWritable m w = true → ∃ t, exec (.controlStoreHoldingWrite m w part v) s = .next t ∧
      sparseGet (fun _ => 0) t.cs.hold m.number =
        putBits (sparseGet (fun _ => 0) s.cs.hold m.number) (32 * part + 31) (32 * part) v.toNat ∧ t.cs.words = s.cs.words) ∧
    (∀ part : Fin 4, s.csWritable m w = false → ∃ t, exec (.controlStoreHoldingWrite m w part v) s = .next t ∧ t.cs = s.cs ∧
      t.fget Reg.TRS_EVT_STAT_REFUSED = 1) ∧
    (s.csWritable m w = true → s.fget Reg.TRS_CS_CTRL_INJ = 0 → ∃ t, exec (.controlStoreCommit m w v) s = .next t ∧
      t.csWord w % 2 ^ 144 =
        sparseGet (fun _ => 0) s.cs.hold m.number % 2 ^ 128 + v.toNat % 65536 * 2 ^ 128 ∧
      t.csWord w / 2 ^ 144 = csParity (t.csWord w % 2 ^ 144) ∧ sparseGet (fun _ => 0) t.cs.hold m.number = 0 ∧
      ∀ k, k ≠ w.val → t.csWord k = s.csWord k) ∧
    (s.csWritable m w = false → ∃ t, exec (.controlStoreCommit m w v) s = .next t ∧ t.cs = s.cs ∧
      t.fget Reg.TRS_EVT_STAT_REFUSED = 1)

/-- The read/write channels (R272, R278 to R281, R285 to R291, R297, R300).
The model's own choices in it: notes/assumptions/43.md. -/
def Obligations.ChannelsReadAndWrite : Prop :=
  ∀ (s : State) (n : Fin 4), s.boot.held = .off →
    (∀ (e : Int) bits y, (s.rwc.get n).sync.getD SyncSt.empty = y → s.markSeen n y 2 (96 + e) (s.rd (Reg.RWCn_SM1 n)) bits = true →
      e.natAbs ≤ s.syncW n → y.sm1 = none → y.sm2 = none → y.closed = false →
      ∃ t, exec (.sm1Accept n e bits) s = .next t ∧ (t.rwc.get n).sync = some { y with sm1 := some e } ∧
        (t.trs.get n).syncFound = true) ∧
    (∀ (e : Int) bits y, (s.rwc.get n).sync.getD SyncSt.empty = y →
      (s.markSeen n y 2 (96 + e) (s.rd (Reg.RWCn_SM1 n)) bits = false ∨ s.syncW n < e.natAbs ∨ y.found = true ∨ y.closed = true) →
      ∃ t, exec (.sm1Accept n e bits) s = .next t ∧ t.rwc = s.rwc ∧ t.trs = s.trs) ∧
    (∀ (e e1 : Int) bits y, (s.rwc.get n).sync = some y → y.sm1 = some e1 → y.checked = false → s.samplesUsed n = true →
      ((s.rwc.get n).elems.head?.map (·.fmt)) = some 3 → s.reached n (176 + e1 + e) = true →
      ∃ t, exec (.sm2Check n (some (e, bits))) s = .next t ∧ (t.rwc.get n).sync = some { y with
        checked := true, sm2ok := decide (e.natAbs ≤ s.syncConf n) && s.markMatch n (s.rd (Reg.RWCn_SM2 n)) bits }) ∧
    (∀ (e : Int) bits y, (s.rwc.get n).sync.getD SyncSt.empty = y → s.markSeen n y 3 (144 + e) (s.rd (Reg.RWCn_SM2 n)) bits = true →
      e.natAbs ≤ s.syncW n → y.sm1 = none → y.sm2 = none → y.closed = false →
      ∃ t, exec (.sm2Check n (some (e, bits))) s = .next t ∧ (t.rwc.get n).sync = some { y with sm2 := some e } ∧
        (t.trs.get n).syncFound = true ∧
        (t.rd (Reg.RWCn_SM1MISS n)).toNat = min ((s.rd (Reg.RWCn_SM1MISS n)).toNat + 1) 0xFFFFFFFF) ∧
    (∀ y vals, (s.rwc.get n).sync = some y → s.reached n (176 + s.syncW n) = true → (s.trs.get n).winClosed = false →
      y.closed = false → y.found = false → ∃ t, exec (.syncWindowClose n vals) s = .next t ∧ (t.trs.get n).winClosed = true ∧
        (t.trs.get n).syncMissed = true ∧
        (t.rd (Reg.RWCn_SM1MISS n)).toNat = min ((s.rd (Reg.RWCn_SM1MISS n)).toNat + 1) 0xFFFFFFFF ∧
        (t.rd (Reg.RWCn_SYNCMISS n)).toNat = min ((s.rd (Reg.RWCn_SYNCMISS n)).toNat + 1) 0xFFFFFFFF) ∧
    (∀ y vals, (s.rwc.get n).sync = some y → s.reached n (176 + s.syncW n) = true → (s.trs.get n).winClosed = false →
      y.closed = false → y.found = true → ∃ t, exec (.syncWindowClose n vals) s = .next t ∧ (t.trs.get n).winClosed = true ∧
        (t.trs.get n).syncMissed = false ∧ (t.rwc.get n).elems = (s.rwc.get n).elems) ∧
    (∀ vals, s.reached n (176 + s.syncW n) = false → ∃ t, exec (.syncWindowClose n vals) s = .next t ∧ t.rwc = s.rwc ∧
      t.trs = s.trs) ∧
    (∀ y p vals, (s.rwc.get n).sync = some y → y.found = true → nextPayload (s.rwc.get n).elems = some p →
      s.samplesUsed n = true → s.reached n (y.payloadBit + 36544) = true →
      (s.rwc.get n).inbuf = [] → (s.rwc.get n).units.length < 3 → ∃ t w, exec (.codewordArrival n vals) s = .next t ∧
        (dropThrough 5 (s.rwc.get n).elems = [] → (t.rwc.get n).sync = none) ∧ (t.rwc.get n).inbuf = [] ∧
        (t.rwc.get n).units = (s.rwc.get n).units ++ [w] ∧ w.idx = p.idx ∧ w.page = p.page ∧ w.seq = p.seq ∧ w.redec = false) ∧
    (∀ y p vals, (s.rwc.get n).sync = some y → y.found = true → nextPayload (s.rwc.get n).elems = some p →
      s.samplesUsed n = true → s.reached n (y.payloadBit + 36544) = true →
      2 ≤ (s.rwc.get n).inbuf.length → ∃ t, exec (.codewordArrival n vals) s = .next t ∧
        (t.rwc.get n).units = (s.rwc.get n).units ∧ t.fget (Reg.RWCn_EVT_STAT_OVERRUN n) = 1 ∧
        (t.rd (Reg.RWCn_OVERRUN n)).toNat = min ((s.rd (Reg.RWCn_OVERRUN n)).toNat + 1) 0xFFFFFFFF) ∧
    (∀ u w iters payload parity, (s.rwc.get n).units[u]? = some w → w.redec = false → w.dpath / 32 % 2 = 0 → w.sound = true →
      checksHold (s.codeRam n) payload parity = true → (s.rwc.get n).results.length < 3 → (s.rwc.get n).held = [] →
      (s.rwc.get n).ready = [] → (s.rwc.get n).owed.head? = some w.seq → w.seq ∉ (s.rwc.get n).owed.drop 1 →
      ∃ t r, exec (.decodeComplete n u iters payload parity) s = .next t ∧
        (t.rwc.get n).results = (s.rwc.get n).results ++ [r] ∧ r.cause = 0 ∧ r.idx = w.idx ∧
        r.iter = if w.ldpc.getLsbD 8 then max 1 (min iters (s.iterLimit n w)) else s.iterLimit n w) ∧
    (∀ u w iters payload parity, (s.rwc.get n).units[u]? = some w → w.redec = false →
      (w.sound = false ∨ checksHold (s.codeRam n) payload parity = false) → (s.rwc.get n).results.length < 3 →
      (s.rwc.get n).held = [] → (s.rwc.get n).ready = [] → (s.rwc.get n).owed.head? = some w.seq →
      w.seq ∉ (s.rwc.get n).owed.drop 1 → ∃ t r, exec (.decodeComplete n u iters payload parity) s = .next t ∧
        (t.rwc.get n).results = (s.rwc.get n).results ++ [r] ∧ r.cause = 1 ∧ t.mem = s.mem ∧
        (t.rd (Reg.RWCn_LDPCFAIL n)).toNat = min ((s.rd (Reg.RWCn_LDPCFAIL n)).toNat + 1) 0xFFFFFFFF) ∧
    (∀ u w q iters payload parity, (s.rwc.get n).units[u]? = some w → w.redec = false → (s.rwc.get n).held = [] →
      (s.rwc.get n).owed.head? = some q → q ≠ w.seq → (∀ x ∈ (s.rwc.get n).ready, x.1 ≠ q) → ∃ t,
      exec (.decodeComplete n u iters payload parity) s = .next t ∧ (t.rwc.get n).results = (s.rwc.get n).results) ∧
    (∀ p r k x, frontPayload (s.rwc.get n).elems = some p → p.dpath / 8 % 2 = 1 → (s.rwc.get n).units.length < 3 →
      (s.rwc.get n).inbuf = [] → (s.rwc.get n).results.length < 4 → (s.trs.get n).popped = some r → r.slot = some k →
      sparseFind k (s.rwc.get n).slots = some x → ∃ t w, exec (.redecodeStart n) s = .next t ∧
        (t.rwc.get n).units = (s.rwc.get n).units ++ [w] ∧ w.redec = true ∧ w.slot = some k ∧ w.idx = x.idx ∧ w.page = x.page ∧
        (t.rwc.get n).elems = (s.rwc.get n).elems.drop 1) ∧
    (∀ p, frontPayload (s.rwc.get n).elems = some p → p.dpath / 8 % 2 = 1 → (s.rwc.get n).units.length < 3 →
      (s.rwc.get n).inbuf = [] → (s.rwc.get n).results.length < 4 → (s.rwc.get n).held = [] → (s.trs.get n).popped = none →
      ∃ t r, exec (.redecodeStart n) s = .next t ∧ (t.rwc.get n).results = r :: (s.rwc.get n).results ∧ r.cause = 5 ∧
        r.redec = true ∧ (t.rwc.get n).elems = (s.rwc.get n).elems.drop 1) ∧
    (s.inServoWindow n = true → ∃ t, exec (.servoWindowBegin n) s = .next t ∧ (t.rwc.get n).svw = true ∧
      t.gatesOpen n = false) ∧
    (s.inServoWindow n = false → ∃ t, exec (.servoWindowEnd n) s = .next t ∧ (t.rwc.get n).svw = false) ∧
    (∀ p, (s.trs.get n).wg = true → frontPayload (s.rwc.get n).elems = some p → (s.trs.get n).underrun = false →
      ∃ t, exec (.bufferUnderrun n) s = .next t ∧ (t.trs.get n).underrun = true ∧ (t.rwc.get n).wmask = true ∧
        t.fget (Reg.RWCn_EVT_STAT_UNDERRUN n) = 1) ∧
    (∀ m (w : Word), s.unitOff (Reg.RWCn_SVWIN n) = false → s.fget (Reg.RWCn_LOCK_LOCK n) = 0 →
      16 * (w.toNat / 65536 + w.toNat % 65536) ≤ 0x80000 → ∃ t, exec (.rwcSvwinWrite m n w) s = .next t ∧
        t.rd (Reg.RWCn_SVWIN n) = w) ∧
    (∀ m (w : Word), 0x80000 < 16 * (w.toNat / 65536 + w.toNat % 65536) → ∃ t, exec (.rwcSvwinWrite m n w) s = .next t ∧
      t.rd (Reg.RWCn_SVWIN n) = s.rd (Reg.RWCn_SVWIN n))

/-! ### Preamp ports, laser, shock inputs and write inhibit -/

/-- The preamp ports (R313 to R316, R321, R327, R328) and the laser guard (R319): frames out and acknowledged, the fault line,
forced inhibit, an escape, a laser that stays on. Shock inputs (R322 to R326) and writes that an inhibit ended (R330).
The model's own choices in it: notes/assumptions/42.md. -/
def Obligations.PreampShockAndInhibit : Prop :=
  (∀ (s : State) (n : Fin 4), s.boot.held = .off →
    (∀ c rest, (s.pa.get n).flight = none → (s.pa.get n).queue = c :: rest → s.paEntryOk c.entry = true →
      ∃ t frame, exec (.preampCommandSend n) s = .next t ∧ (t.pa.get n).flight = some (c, frame) ∧
        (t.pa.get n).queue = rest ∧ t.out = .paFrame n frame :: s.out ∧
        frame / 2 ^ 23 = s.fget (Reg.PIF_CMD_n_LO_RW c.entry) ∧
        frame / 2 ^ 16 % 2 ^ 7 = s.fget (Reg.PIF_CMD_n_LO_ADDR c.entry) ∧
        (s.fget (Reg.PIF_CMD_n_LO_RW c.entry) = 1 → frame % 2 ^ 16 = 0)) ∧
    (∀ c rest, (s.pa.get n).flight = none → (s.pa.get n).queue = c :: rest → s.paEntryOk c.entry = false →
      ∃ t, exec (.preampCommandSend n) s = .next t ∧ t.fget (Reg.PAn_STATUS_CMDERR n) = 1 ∧
        t.fget (Reg.PAn_STATUS_FAULT n) = 1) ∧
    (∀ c frame (x : BitVec 16), (s.pa.get n).flight = some (c, frame) → c.origin = .trs → frame / 2 ^ 23 = 1 →
      Nat.land x.toNat (s.fget (Reg.PIF_CMD_n_HI_MASK c.entry)) =
        Nat.land (s.fget (Reg.PIF_CMD_n_HI_EXPECT c.entry)) (s.fget (Reg.PIF_CMD_n_HI_MASK c.entry)) →
      ∃ t, exec (.preampFrameAck n x) s = .next t ∧ (t.pa.get n).flight = none ∧
        t.fget (Reg.PAn_RDATA_DATA n) = x.toNat) ∧
    (∀ c frame (x : BitVec 16), (s.pa.get n).flight = some (c, frame) → c.origin = .trs → frame / 2 ^ 23 = 1 →
      Nat.land x.toNat (s.fget (Reg.PIF_CMD_n_HI_MASK c.entry)) ≠
        Nat.land (s.fget (Reg.PIF_CMD_n_HI_EXPECT c.entry)) (s.fget (Reg.PIF_CMD_n_HI_MASK c.entry)) →
      ∃ t, exec (.preampFrameAck n x) s = .next t ∧ t.fget (Reg.PAn_STATUS_CHKERR n) = 1) ∧
    (∀ c, (s.pa.get n).inhSince = some c → s.winh n ≠ 0 → c + 8 ≤ s.cycle →
      (s.winh n).testBit 8 = false → ∃ t, exec (.escapeDetect n) s = .next t ∧
      t.msc.avail.get n = .out ∧ t.msc.outCause.get n = some .escape) ∧
    (∀ held, (s.pa.get n).faultLine = false → s.faultDwell n ≤ held → ∃ t, exec (.preampFaultLine n held) s = .next t ∧ (t.pa.get n).faultLine = true ∧
      t.fget (Reg.PAn_STATUS_FAULT n) = 1) ∧
    (∀ held, held < s.faultDwell n → ∃ t, exec (.preampFaultLine n held) s = .next t ∧ t.pa = s.pa) ∧
    (∀ held, s.fget (Reg.PAn_STATUS_FAULT n) = 0 → s.faultDwell n ≤ held → ∃ t, exec (.preampFaultLineInactive n held) s = .next t ∧
      (t.pa.get n).faultLine = false ∧ (t.winh n).testBit 6 = false) ∧
    (∀ m, s.unitOff (Reg.PAn_CTRL n) = false → ∃ t, exec (.paForceWrite m n true) s = .next t ∧
      t.fget (Reg.PAn_CTRL_FORCE n) = 1 ∧ (t.winh n).testBit 9 = true) ∧
    (∀ m, s.unitOff (Reg.PAn_CTRL n) = false → s.recov.stopped = false → ∃ t, exec (.paForceWrite m n false) s = .next t ∧
      t.fget (Reg.PAn_CTRL_FORCE n) = 0 ∧ (t.winh n).testBit 9 = false) ∧
    (∀ a, (s.pa.get n).writeSince = some a → a + max 1 (s.fget Reg.AST_GUARD_MAXON) < (s.atb.lanes.get n).spans →
      ∃ t, exec (.assistOveron n) s = .next t ∧ (t.pa.get n).window = false ∧ (t.winh n).testBit 7 = true)) ∧
  (∀ s : State, s.boot.held = .off →
    (∀ level held, max 1 (s.fget Reg.PIF_SHK_CFG_MINDWELL) ≤ held → 4 * s.fget Reg.PIF_SHK_CFG_LIN_THR < level →
      s.fget Reg.PIF_SHK_STAT_LIN_ACT = 0 → s.fget Reg.PIF_SHK_STAT_ANA_MASKED = 0 → (s.winh 0).testBit 1 = false →
      ∃ t, exec (.shockComparatorChange false level held) s = .next t ∧ t.fget Reg.PIF_SHK_STAT_LIN_ACT = 1 ∧
        (t.rd Reg.PIF_SHK_LINCNT).toNat = min ((s.rd Reg.PIF_SHK_LINCNT).toNat + 1) 0xFFFFFFFF ∧
        ∀ n : Fin 4, (t.winh n).testBit 1 = true) ∧
    (∀ level held, max 1 (s.fget Reg.PIF_SHK_CFG_MINDWELL) ≤ held → level ≤ 4 * s.fget Reg.PIF_SHK_CFG_ROT_THR →
      s.fget Reg.PIF_SHK_STAT_ROT_ACT = 1 → ∃ t, exec (.shockComparatorChange true level held) s = .next t ∧
      t.fget Reg.PIF_SHK_STAT_ROT_ACT = 0) ∧
    (∀ q, s.pif.quietSince = some q → s.shockInput = false → s.shockForced = false →
      q + s.fget Reg.PIF_SHK_CFG_HOLD ≤ s.atb.spansG → ∃ t, exec .shockHoldExpiry s = .next t ∧
        ∀ n : Fin 4, (t.winh n).testBit 1 = false) ∧
    (∀ x0 x1 y0 y1 z0 z1 : Byte, s.atb.spansG ≤ s.pif.memsAt → ∃ t, exec (.memsRead x0 x1 y0 y1 z0 z1) s = .next t ∧ t.pif = s.pif) ∧
    (∀ x0 x1 y0 y1 z0 z1 : Byte, s.pif.memsAt < s.atb.spansG → s.fget Reg.PIF_SHK_STAT_MEMS_ACT = 0 →
      s.fget Reg.PIF_MEMS_CFG_THR < (leInt16 z0 z1).natAbs → ∃ t, exec (.memsRead x0 x1 y0 y1 z0 z1) s = .next t ∧
        t.fget Reg.PIF_SHK_STAT_MEMS_ACT = 1 ∧
        (t.rd Reg.PIF_SHK_MEMSCNT).toNat = min ((s.rd Reg.PIF_SHK_MEMSCNT).toNat + 1) 0xFFFFFFFF) ∧
    (stuckSince s.atb.spansG s.pif.linSince = true → s.fget Reg.PIF_SHK_STAT_ANA_MASKED = 0 →
      s.fget Reg.PIF_SHK_STAT_LIN_STUCK = 0 → ∃ t, exec (.shockInputStuck 0) s = .next t ∧
        t.fget Reg.PIF_SHK_STAT_LIN_STUCK = 1 ∧ t.fget Reg.PIF_EVT_STAT_STUCK = 1) ∧
    (∀ m, s.isOwner m = true → s.fget Reg.PIF_SHK_STAT_LIN_STUCK = 1 → ∃ t, exec (.pifShkAckWrite m 1#2) s = .next t ∧
      t.fget Reg.PIF_SHK_STAT_ANA_MASKED = 1 ∧ t.fget Reg.PIF_SHK_STAT_LIN_STUCK = 0) ∧
    (∀ m ack, s.isOwner m = false → ∃ t, exec (.pifShkAckWrite m ack) s = .next t ∧
      ∀ r, r ≠ Reg.EVR_DROPQ → t.rd r = s.rd r) ∧
    (∀ k p (r : Fin 6) l, s.recov.inhibited[k]? = some p → (∀ n : Fin 4, s.winh n = 0) → s.surfWritable p.d.surf = true →
      s.msc.rings[r.val]? = some l → ∃ t p', exec (.inhibitClearRepost k r) s = .next t ∧
        t.recov.inhibited = s.recov.inhibited.eraseIdx k ∧ t.msc.rings[r.val]? = some (l ++ [p']) ∧ p'.cmd = p.cmd ∧
        p'.ext = p.ext) ∧
    (∀ a c t0, s.recov.stopped = false → s.ctx a = some c → c.status = none → c.inhStart = some t0 →
      t0 + 120 * revLen s.piers ≤ s.linStamp → ∃ t, exec (.writeInhibitedTimeout a) s = .next t ∧
        t.statusOf a = some St.writeInhibited))


/-! ### Servo pairs: samples, laws, the referee, the drives, capture -/

/-- The sample of a lane (R337 to R340): a SAM is taken with at most one bit wrong, a published sample is valid or not, and lock
follows the runs of samples.
The model's own choices in it: notes/assumptions/11.md, 29.md. -/
def Obligations.ServoSamplesAndLock : Prop :=
  ∀ (s : State) (n : Fin 4), s.boot.held = .off →
    (∀ instant bits bn bq idx gray, popCount (Nat.xor bits.toNat 0xE9B2) 16 ≤ 1 → (s.pair.get n).sam = none →
      s.svdLock n = false → ∃ t m, exec (.samDetect n instant bits bn bq idx gray) s = .next t ∧
        (t.pair.get n).sam = some m ∧ m.theta = burstTheta bn bq ∧ m.amp = min (bn.natAbs + bq.natAbs) 65535 ∧ m.idx = idx.toNat / 4 ∧
        m.cyl = grayDecode gray.toNat ∧ ∀ r, r ≠ Reg.EVR_DROPQ → t.rd r = s.rd r) ∧
    (s.publishDue n = false → ∃ t, exec (.samplePublish n) s = .next t ∧ t.pair = s.pair) ∧
    (∀ instant bits bn bq idx gray, 1 < popCount (Nat.xor bits.toNat 0xE9B2) 16 →
      ∃ t, exec (.samDetect n instant bits bn bq idx gray) s = .next t ∧ t.pair = s.pair) ∧
    ((s.pair.get n).flight = none → (s.pair.get n).sam = none → s.publishDue n = true → ∃ t, exec (.samplePublish n) s = .next t ∧
      (t.pair.get n).sampValid = false ∧ t.fget (Reg.SVDn_STATUS_VALID n) = 0 ∧
      (t.rd (Reg.SVDn_SAMMISS n)).toNat = min ((s.rd (Reg.SVDn_SAMMISS n)).toNat + 1) 0xFFFFFFFF) ∧
    (∀ m, (s.pair.get n).flight = none → (s.pair.get n).sam = some m → s.sampleFaults n m = (false, false, false) →
      s.publishDue n = true → ∃ t, exec (.samplePublish n) s = .next t ∧ (t.pair.get n).sam = none ∧ (t.pair.get n).sampValid = true ∧
        (t.pair.get n).sampX = s.headPos n m ∧ t.fget (Reg.SVDn_STATUS_VALID n) = 1 ∧
        (t.rd (Reg.SVDn_SAMPLES n)).toNat = min ((s.rd (Reg.SVDn_SAMPLES n)).toNat + 1) 0xFFFFFFFF) ∧
    (∀ m, (s.pair.get n).flight = none → (s.pair.get n).sam = some m → m.amp < s.fget (Reg.SVDn_CFG0_AMIN n) →
      s.publishDue n = true → ∃ t, exec (.samplePublish n) s = .next t ∧ (t.pair.get n).sampValid = false ∧
        (t.rd (Reg.SVDn_LOWAMP n)).toNat = min ((s.rd (Reg.SVDn_LOWAMP n)).toNat + 1) 0xFFFFFFFF) ∧
    (∀ m j, (s.pair.get n).flight = none → (s.pair.get n).sam = some m → s.sampleFaults n m = (false, false, false) →
      s.svdLock n = false → (s.pair.get n).lastIdx = some j → (j + 1) % s.piers = m.idx →
      max 1 (s.fget (Reg.SVDn_CFG1_LOCKN n)) ≤ (s.pair.get n).lockRun + 1 →
      s.publishDue n = true → ∃ t, exec (.samplePublish n) s = .next t ∧ t.svdLock n = true) ∧
    ((s.pair.get n).flight = none → (s.pair.get n).sam = none → s.svdLock n = true →
      max 1 (s.fget (Reg.SVDn_CFG1_MISSN n)) ≤ (s.pair.get n).missRun + 1 →
      s.publishDue n = true → ∃ t, exec (.samplePublish n) s = .next t ∧ t.svdLock n = false ∧
        (t.rd (Reg.SVDn_LOCKLOSS n)).toNat = min ((s.rd (Reg.SVDn_LOCKLOSS n)).toNat + 1) 0xFFFFFFFF)

/-- The laws change at a publish (R353), and by the two bounds on lock; a retract ends in Idle (R424).
The model's own choices in it: notes/assumptions/29.md. -/
def Obligations.ServoLawTransitions : Prop :=
  ∀ (s : State) (n : Fin 4), s.boot.held = .off →
    ((s.pair.get n).flight = none → (s.pair.get n).law = 0 → (s.pair.get n).loadReq = true →
      s.publishDue n = true → ∃ t, exec (.samplePublish n) s = .next t ∧ (t.pair.get n).law = 6 ∧ (t.pair.get n).rampIn = true ∧
        (t.pair.get n).loadReq = false) ∧
    ((s.pair.get n).flight = none → 1 ≤ (s.pair.get n).law → (s.pair.get n).law ≤ 4 → (s.pair.get n).sam = none →
      s.svdLock n = false → s.publishDue n = true → ∃ t, exec (.samplePublish n) s = .next t ∧ (t.pair.get n).law = 5 ∧
        t.fget (Reg.SCE_PAIRn_STATUS_LAW n) = 5) ∧
    (∀ m, (s.pair.get n).flight = none → (s.pair.get n).law = 5 → (s.pair.get n).sam = some m →
      s.sampleFaults n m = (false, false, false) → s.svdLock n = true →
      s.publishDue n = true → ∃ t, exec (.samplePublish n) s = .next t ∧ (t.pair.get n).law = 2) ∧
    (∀ m, (s.pair.get n).flight = none → 1 ≤ (s.pair.get n).law → (s.pair.get n).law ≤ 3 →
      (s.pair.get n).sam = some m → s.sampleFaults n m = (false, false, false) → s.svdLock n = true →
      (s.pair.get n).redReq = true → s.publishDue n = true → ∃ t, exec (.samplePublish n) s = .next t ∧ (t.pair.get n).law = 4 ∧
        t.msc.avail.get n ≠ .available) ∧
    (∀ m, (s.pair.get n).flight = none → (s.pair.get n).law = 3 → (s.pair.get n).sam = some m →
      s.sampleFaults n m = (false, false, false) → s.svdLock n = true → (s.pair.get n).redReq = false →
      (s.pair.get n).unloadReq = true → s.publishDue n = true → ∃ t, exec (.samplePublish n) s = .next t ∧ (t.pair.get n).law = 6 ∧
        (t.pair.get n).rampIn = false) ∧
    ((s.pair.get n).law = 6 → (s.pair.get n).rampIn = true → s.svdLock n = false →
      (s.pair.get n).since + s.revs 2 ≤ s.stamp → ∃ t, exec (.rampLoadTimeout n) s = .next t ∧ (t.pair.get n).law = 6 ∧
        (t.pair.get n).rampIn = false) ∧
    ((s.pair.get n).law = 5 → s.svdLock n = false → s.actEnabled n = true →
      (s.pair.get n).since + max 1 (s.fget (Reg.SCEn_TBL_RELOCK (engX n))) ≤ (s.atb.lanes.get n).spans →
      ∃ t, exec (.holdRelockTimeout n) s = .next t ∧ (t.pair.get n).law = 7 ∧ t.fget (Reg.VCDn_STATUS_BRIDGE n) = 4) ∧
    ((s.pair.get n).retract = 1 → (s.pair.get n).retractAt + max 1 (s.fget Reg.SMC_RETRACT1_RET1) ≤ s.atb.spansG →
      s.boot.resetCause = none → ∃ t, exec (.retractPhaseEnd n) s = .next t ∧ (t.pair.get n).retract = 2 ∧
        (t.pair.get n).law = (s.pair.get n).law) ∧
    ((s.pair.get n).retract = 2 → (s.pair.get n).retractAt + max 1 (s.fget Reg.SMC_RETRACT1_RET2) ≤ s.atb.spansG →
      s.boot.resetCause = none → ∃ t, exec (.retractPhaseEnd n) s = .next t ∧ (t.pair.get n).retract = 0 ∧
        (t.pair.get n).law = 0 ∧ t.fget (Reg.VCDn_STATUS_BRIDGE n) = 0)

/-- The requests of SCEe_CTRL and writes of a pair's expert registers (R343, R344, R353, R376): both engines of a pair are addressed
through either.
The model's own choices in it: notes/assumptions/10.md, 48.md. -/
def Obligations.ServoPairCommands : Prop :=
  ∀ (s : State) (m : Master) (e : Fin 8) (n : Fin 4), s.boot.held = .off → n = enginePair e →
    s.unitOff (Reg.SCEn_CTRL e) = false →
    ((s.pair.get n).law = 0 → s.engState n 0 = 2 → ∃ t, exec (.sceCtrlLoad m e) s = .next t ∧
      (t.pair.get n).loadReq = true ∧ t.holder n = 0 ∧ t.engState n 0 = 1) ∧
    ((s.pair.get n).law = 0 → s.engState n 0 = 3 → s.engState n 1 = 2 → ∃ t, exec (.sceCtrlLoad m e) s = .next t ∧
      (t.pair.get n).loadReq = true ∧ t.holder n = 1 ∧ t.engState n 1 = 1) ∧
    (s.engState n 0 = 3 → s.engState n 1 = 3 → ∃ t, exec (.sceCtrlLoad m e) s = .next t ∧ t.pair = s.pair) ∧
    (∃ t, exec (.sceCtrlUnload m e) s = .next t ∧ t.pair = s.pair.modify n (fun p => { p with unloadReq := true })) ∧
    (∃ t, exec (.sceCtrlForceRed m e) s = .next t ∧ t.pair = s.pair.modify n (fun p => { p with redReq := true })) ∧
    (∃ t, exec (.sceCtrlResume m e) s = .next t ∧ t.pair = s.pair.modify n (fun p => { p with resumeReq := true })) ∧
    (∃ t, exec (.sceCtrlApply m e) s = .next t ∧ t.pair = s.pair.modify n (fun p => { p with applyReq := true })) ∧
    (∀ w, ∃ t, exec (.scePairRegisterWrite m (Reg.SCEn_SETTLE0 e) w) s = .next t ∧
      (Reg.SCEn_SETTLE0 (engX n), w) ∈ (t.pair.get n).shadow ∧
      t.fget (Reg.SCEn_STATUS_SHADOW e) = 1 ∧ ∀ k : Fin 8, t.rd (Reg.SCEn_SETTLE0 k) = s.rd (Reg.SCEn_SETTLE0 k))

/-- What the referee decides at a delivery and at the deadline (R358, R379 to R382, R391).
The model's own choices in it: notes/assumptions/8.md, 30.md. -/
def Obligations.RefereeDecidesSamples : Prop :=
  ∀ (s : State) (n : Fin 4) (k : Nat), s.boot.held = .off → (s.pair.get n).flight = some k →
    (∀ e, e = s.holder n → s.checking n = none → s.engState n e = 1 → s.pastPier n k ≤ s.deadline →
      (s.pair.get n).recs.get e = none → (s.pair.get n).corrupt.get e = false → ((s.pair.get n).outs.get e).cyc ≤ 4096 →
      s.refOk n (satBits 16 ((s.pair.get n).outs.get e).uv) = true →
      ∃ t, exec (.engineDelivery n e 0 0 0#32 false 0) s = .next t ∧ (t.pair.get n).flight = none ∧
        (t.pair.get n).uv = limitTo (s.currentLimit n).1 (satBits 16 ((s.pair.get n).outs.get e).uv) ∧
        (t.pair.get n).um = limitTo (s.fget (Reg.MADn_CFG_MALIM n)) (satBits 16 ((s.pair.get n).outs.get e).um)) ∧
    (∀ c rh, c = otherEng (s.holder n) → s.engState n c = 2 → s.engState n (s.holder n) = 1 →
      s.pastPier n k ≤ s.deadline → (s.pair.get n).recs.get c = none → (s.pair.get n).recs.get (s.holder n) = some rh →
      rh.selfChk = false → (s.pair.get n).swapReq = false → (s.pair.get n).corrupt.get c = false →
      ((s.pair.get n).outs.get c).cyc ≤ 4096 → satBits 16 ((s.pair.get n).outs.get c).uv = rh.uv →
      satBits 16 ((s.pair.get n).outs.get c).um = rh.um → ((s.pair.get n).outs.get c).sig = rh.sig →
      (s.pair.get n).resync.get c = .none →
      ∃ t, exec (.engineDelivery n c 0 0 0#32 false 0) s = .next t ∧ (t.pair.get n).flight = none ∧
        (t.pair.get n).uv = limitTo (s.currentLimit n).1 rh.uv ∧ t.engState n c = 2 ∧
        (t.rd (Reg.SRFn_CMP n)).toNat = min ((s.rd (Reg.SRFn_CMP n)).toNat + 1) 0xFFFFFFFF) ∧
    (∀ c rh dv dm dsig ecc, c = otherEng (s.holder n) → s.engState n c = 2 → s.engState n (s.holder n) = 1 →
      s.pastPier n k ≤ s.deadline → (s.pair.get n).recs.get c = none → (s.pair.get n).recs.get (s.holder n) = some rh →
      rh.selfChk = false → (s.pair.get n).corrupt.get c = false → ((s.pair.get n).outs.get c).cyc + 4 * ecc ≤ 4096 →
      satBits 16 (((s.pair.get n).outs.get c).uv + dv) ≠ rh.uv → (s.pair.get n).uref = none →
      ∃ t, exec (.engineDelivery n c dv dm dsig false ecc) s = .next t ∧
        t.engState n c = (if (escalate ((s.pair.get n).judged.get c) s.stamp (s.revs 64)
          (max 1 (s.fget (Reg.SRFn_CFG_RTRY n)))).1 then 5 else 3) ∧
        t.fget (Reg.SRFn_JUDGE_CAUSE n) = 5 ∧ t.fget (Reg.SRFn_JUDGE_ENGINE n) = c.val ∧
        (t.pair.get n).uv = limitTo (s.currentLimit n).1 rh.uv) ∧
    (∀ c rh dv dm dsig ecc, c = otherEng (s.holder n) → s.engState n c = 2 → s.engState n (s.holder n) = 1 →
      s.pastPier n k ≤ s.deadline → (s.pair.get n).recs.get c = none → (s.pair.get n).recs.get (s.holder n) = some rh →
      rh.selfChk = true → ∃ t, exec (.engineDelivery n c dv dm dsig true ecc) s = .next t ∧ t.msc.avail.get n = .out ∧
        t.msc.outCause.get n = some .fenced) ∧
    (∀ e dv dm dsig flag ecc, s.deadline < s.pastPier n k → ∃ t, exec (.engineDelivery n e dv dm dsig flag ecc) s = .next t ∧
      t.pair = s.pair ∧ t.fget (Reg.SCEn_STATUS_LATE (engNo n e)) = 1) ∧
    (s.checking n = none → s.deadline ≤ s.pastPier n k → ((s.pair.get n).lates.filter (fun b => b)).length < 7 →
      ∃ t, exec (.outputDeadline n) s = .next t ∧ (t.pair.get n).flight = none ∧ (t.pair.get n).uv = (s.pair.get n).uv ∧
        (t.pair.get n).um = (s.pair.get n).um ∧ (t.pair.get n).lates.headD false = true ∧
        (t.rd (Reg.SCE_PAIRn_OVR n)).toNat = min ((s.rd (Reg.SCE_PAIRn_OVR n)).toNat + 1) 0xFFFFFFFF) ∧
    (s.checking n = none → s.deadline ≤ s.pastPier n k → 7 ≤ ((s.pair.get n).lates.take 63 |>.filter (fun b => b)).length →
      (s.pair.get n).law = 4 → s.actEnabled n = true → ∃ t, exec (.outputDeadline n) s = .next t ∧ (t.pair.get n).law = 7 ∧
        t.msc.avail.get n = .out) ∧
    (s.pastPier n k < s.deadline → ∃ t, exec (.outputDeadline n) s = .next t ∧ t.pair = s.pair)

/-- The keystone: its lease, planned and written swaps, fencing, re-synchronisation and test corruption (R380, R384 to R393).
The model's own choices in it: notes/assumptions/10.md, 30.md. -/
def Obligations.RefereeKeystone : Prop :=
  ∀ (s : State) (n : Fin 4), s.boot.held = .off →
    (∀ h, h = s.holder n → (s.pair.get n).law ≠ 0 → (s.pair.get n).law ≠ 7 → s.engState n h = 1 →
      s.engState n (otherEng h) = 2 → s.laneAngle n / 2 ^ 22 = s.fget (Reg.SRFn_STATUS_EXPIRY n) →
      (s.pair.get n).leased = true →
      ∃ t, exec (.keystoneExpiry n) s = .next t ∧ t.holder n = otherEng h ∧ t.engState n (otherEng h) = 1 ∧
        (t.engState n h = 3 ∨ t.engState n h = 5) ∧ t.fget (Reg.SRFn_JUDGE_CAUSE n) = 6 ∧
        (t.rd (Reg.SRFn_SWITCH n)).toNat = min ((s.rd (Reg.SRFn_SWITCH n)).toNat + 1) 0xFFFFFFFF) ∧
    (∀ c, (s.pair.get n).relAt = some c → c ≤ s.cycle → ∃ t, exec (.switchoverInhibitRelease n) s = .next t ∧
      t.fget (Reg.SRFn_STATUS_WINH n) = 0 ∧ (t.pair.get n).relAt = none) ∧
    (∀ e c, (s.pair.get n).resync.get e = .copying c → (s.pair.get n).law = 0 →
      ∃ t, exec (.resyncParameterCopyDone n e) s = .next t ∧ t.engState n e = 4) ∧
    (∀ e c, (s.pair.get n).resync.get e = .copying c → (s.pair.get n).law ≠ 0 →
      ∃ t, exec (.resyncParameterCopyDone n e) s = .next t ∧ (t.pair.get n).resync.get e = .waiting ∧
        t.engState n e = s.engState n e) ∧
    ((s.pair.get n).law ≠ 0 → (s.pair.get n).law ≠ 7 → s.msc.commit.get n = none → s.msc.running.get n = none →
      s.engState n (s.holder n) = 1 → s.engState n (otherEng (s.holder n)) = 2 →
      (s.pair.get n).swapAt + 86400 * 10 ^ 9 ≤ s.cycle → ∃ t, exec (.plannedSwapSchedule n) s = .next t ∧ (t.pair.get n).swapReq = true) ∧
    (∀ m e, s.unitOff (Reg.SRFn_CTRL n) = false → s.isOwner m = true →
      (s.engState n (s.holder n) = 1 → s.engState n (otherEng (s.holder n)) = 2 →
        ∃ t, exec (.srfCtrlSwap m n) s = .next t ∧ (t.pair.get n).swapReq = true) ∧
      (s.engState n e = 1 → s.holder n = e → s.engState n (otherEng e) = 2 →
        ∃ t, exec (.srfCtrlFence m n e) s = .next t ∧ t.holder n = otherEng e ∧
          (t.engState n e = 3 ∨ t.engState n e = 5) ∧ t.fget (Reg.SRFn_JUDGE_CAUSE n) = 7) ∧
      (s.engState n e = 3 ∨ s.engState n e = 5 → ∃ t, exec (.srfCtrlResync m n e) s = .next t ∧ t.engState n e = 3 ∧
        (t.pair.get n).judged.get e = [] ∧ (t.pair.get n).resync.get e = .copying (s.atb.lanes.get n).spans) ∧
      (s.engState n e = 2 → ∃ t, exec (.srfCtrlCorrupt m n e) s = .next t ∧ (t.pair.get n).corrupt.get e = true ∧
        t.fget (Reg.SRFn_CTRL_ESEL n) = e.val)) ∧
    (∀ m e, s.isOwner m = false → (∃ t, exec (.srfCtrlFence m n e) s = .next t ∧ t.pair = s.pair ∧
      ∀ r, r ≠ Reg.EVR_DROPQ → t.rd r = s.rd r))

/-- The coil drive (R361, R362, R365), the end of an injection (R367), capture (R368), and reads that latch (R155, R372).
The model's own choices in it: notes/assumptions/29.md, 60.md. -/
def Obligations.DriveAndCapture : Prop :=
  ∀ (s : State) (n : Fin 4), s.boot.held = .off →
    (∀ i, (s.pair.get n).law ≠ 0 → (s.pair.get n).law ≠ 7 → (s.pair.get n).ocOff = false →
      s.fbit (Reg.VCDn_BASIC_ENABLE n) = true → i < (s.pair.get n).uv - (s.fget (Reg.VCDn_LOOP_HB n) : Int) →
      s.fbit (Reg.VCDn_LOOP_SW n) = false → s.fget (Reg.VCDn_STATUS_BRIDGE n) ≠ 1 →
      (s.pair.get n).changedAt + max 250 (s.fget (Reg.VCDn_LOOP_DWELL n)) ≤ s.cycle →
      ∃ t, exec (.bridgeSwitch n i) s = .next t ∧ t.fget (Reg.VCDn_STATUS_BRIDGE n) = 1) ∧
    (∀ i, (s.pair.get n).law = 0 → ∃ t, exec (.bridgeSwitch n i) s = .next t ∧
      ∀ r, r ≠ Reg.EVR_DROPQ → t.rd r = s.rd r) ∧
    (∀ i : Int, s.fget (Reg.VCDn_ILIM_CFG_IOC n) < i.natAbs → (s.pair.get n).law ≠ 7 →
      (escalate (s.pair.get n).trips (s.atb.lanes.get n).spans 64 8).1 = false →
      ∃ t, exec (.vcmOvercurrentTrip n i) s = .next t ∧ t.fget (Reg.VCDn_STATUS_BRIDGE n) = 0 ∧
        (t.pair.get n).ocOff = true ∧
        (t.rd (Reg.VCDn_OCTRIPS n)).toNat = min ((s.rd (Reg.VCDn_OCTRIPS n)).toNat + 1) 0xFFFFFFFF) ∧
    (∀ i : Int, s.fget (Reg.VCDn_ILIM_CFG_IOC n) < i.natAbs → (s.pair.get n).law ≠ 7 → s.actEnabled n = true →
      (escalate (s.pair.get n).trips (s.atb.lanes.get n).spans 64 8).1 = true →
      ∃ t, exec (.vcmOvercurrentTrip n i) s = .next t ∧ (t.pair.get n).law = 7 ∧ t.msc.avail.get n = .out ∧
        t.msc.outCause.get n = some .overcurrent) ∧
    (∀ mean rms mv, ∃ t, exec (.coilThermalUpdate n mean rms mv) s = .next t ∧
      t.fget (Reg.VCDn_IMEAS_MEAN n) = sat16 mean ∧ t.fget (Reg.VCDn_IMEAS_RMS n) = min rms 65535 ∧
      t.fget (Reg.VCDn_VCOIL_MV n) = sat16 mv) ∧
    (∀ mean mv, ∃ t, exec (.coilThermalUpdate n mean 0 mv) s = .next t ∧ (t.pair.get n).tcoil =
      some (s.coilTemp n + (s.tempOf (s.fget (Reg.VCDn_TSEN_SEL n)) s.dpi.tref * 2 ^ 36 - s.coilTemp n).tdiv
        ((max 1 (s.fget (Reg.VCDn_TAU_SPANS n)) : Nat) : Int))) ∧
    (s.injOn n = true → s.fget (Reg.SCE_PAIRn_INJ2_SAMPLES n) ≠ 0 →
      s.fget (Reg.SCE_PAIRn_INJ2_SAMPLES n) ≤ (s.pair.get n).injCount →
      ∃ t, exec (.injectionEnd n) s = .next t ∧ t.injOn n = false) ∧
    (∀ m (u : Fin 2), s.isOwner m = true → s.fbit (Reg.SVD_CAPn_CFG_MODE u) = false →
      s.fbit (Reg.SVD_CAPn_CFG_TRIG u) = false → ∃ t, exec (.captureArm m u) s = .next t ∧ (t.cap.get u).st = 2 ∧
        (t.cap.get u).left = some (s.capCount u) ∧ t.rd (Reg.SVD_CAPn_STAT u) = 0x10000#32) ∧
    (∀ m (u : Fin 2), s.isOwner m = true → s.fbit (Reg.SVD_CAPn_CFG_MODE u) = false →
      s.fbit (Reg.SVD_CAPn_CFG_TRIG u) = true → ∃ t, exec (.captureArm m u) s = .next t ∧ (t.cap.get u).st = 1) ∧
    (∀ m (u : Fin 2), s.isOwner m = true → (s.cap.get u).st = 2 → s.fbit (Reg.SVD_CAPn_CFG_MODE u) = true →
      s.fbit (Reg.SVD_CAPn_CFG_TRIG u) = false → (s.cap.get u).left = none →
      ∃ t, exec (.captureCtrlStop m u) s = .next t ∧ (t.cap.get u).left = some (s.capCount u)) ∧
    (∀ m, s.unitOff (Reg.SVDn_POS_LO n) = false → ∃ t, exec (.svdPosRead m n) s = .next t ∧
      t.out = .regRead (s.rd (Reg.SVDn_POS_LO n)) :: s.out ∧
      t.fget (Reg.SVDn_POS_HI_X n) = ((s.pair.get n).sampX / 2 ^ 32 % 16).toNat) ∧
    (∀ m, ∃ t, exec (.hqeArrivalRead m) s = .next t ∧
      t.rd Reg.HQE_ARRIVAL_HI = BitVec.ofNat 32 ((s.host.nextArr - 1) / 2 ^ 32))


/-! ### The spindle motor -/

/-- Starts, crossings and stops of the spindle (R398, R399, R403 to R407, R409, R416, R419).
The model's own choices in it: notes/assumptions/28.md. -/
def Obligations.SpindleStarts : Prop :=
  ∀ (s : State) (m : Master), s.boot.held = .off →
    (s.unitOff Reg.SMC_CTRL = false → s.smcLatched = false → s.smcState = 0 → ∃ t, exec (.smcCtrlStart m) s = .next t ∧
      t.smcState = 1 ∧ t.fget Reg.SMC_STATUS_ATTEMPT = 1 ∧ t.smc.starting = true ∧
      (t.rd Reg.SMC_STARTS).toNat = min ((s.rd Reg.SMC_STARTS).toNat + 1) 0xFFFFFFFF ∧
      ∀ n : Fin 4, (t.winh n).testBit 5 = true) ∧
    (s.smcLatched = true → s.smcState = 0 → ∃ t, exec (.smcCtrlStart m) s = .next t ∧ t.smc = s.smc ∧
      ∀ r, r ≠ Reg.EVR_DROPQ → t.rd r = s.rd r) ∧
    (s.unitOff Reg.SMC_CTRL = false → s.fget Reg.SMC_BRAKE_MODE = 1 → 1 ≤ s.smcState → s.smcState ≤ 7 →
      ∃ t, exec (.smcCtrlStop m) s = .next t ∧ t.smcState = 8 ∧ t.smc.starting = false) ∧
    (s.unitOff Reg.SMC_CTRL = false → s.fget Reg.SMC_BRAKE_MODE = 0 → s.smcState = 6 →
      ∃ t, exec (.smcCtrlStop m) s = .next t ∧ t.smcState = 6 ∧ t.smc.stopping = true) ∧
    (∀ w : Word, s.unitOff Reg.SMC_SETPT = false → 5400 ≤ w.toNat % 65536 → w.toNat % 65536 ≤ 7200 →
      w.toNat / 65536 % 4 = 0 → ∃ t, exec (.smcSetptWrite m w) s = .next t ∧
        t.fget Reg.SMC_SETPT_RPM = w.toNat % 65536 ∧ t.fget Reg.SMC_SETPT_SRC = 0 ∧ t.fget Reg.SMC_STATUS_SYNC = 0 ∧
        t.fget Reg.SMC_TRIM_TRIM = 0) ∧
    (∀ w : Word, w.toNat % 65536 < 5400 ∨ 7200 < w.toNat % 65536 ∨ w.toNat / 65536 % 4 = 3 →
      ∃ t, exec (.smcSetptWrite m w) s = .next t ∧ ∀ r, r ≠ Reg.EVR_DROPQ → t.rd r = s.rd r) ∧
    (∀ p, s.smcState = 1 → s.smc.detAt + 48000 ≤ s.cycle → 0 < p → s.fget Reg.SMC_START_DETMIN * p ≤ p * 256 →
      ∃ t, exec (.detectComplete 0 p 0 0 0 0) s = .next t ∧ t.smcState = 3 ∧
        t.smc.step = (1 + s.fget Reg.SMC_MOTOR1_DETOFF) % 6) ∧
    (∀ p, s.smcState = 1 → s.smc.detAt + 48000 ≤ s.cycle → 0 < s.fget Reg.SMC_START_DETMIN * p →
      ∃ t, exec (.detectComplete p p p p p p) s = .next t ∧ t.smcState = 2) ∧
    (s.smcState = 2 → s.smc.alignAt + max 1 (s.fget Reg.SMC_START_ALIGNT) ≤ s.atb.spansG →
      ∃ t, exec .alignEnd s = .next t ∧ t.smcState = 3 ∧ t.smc.step = 2) ∧
    (s.smcState = 3 → s.smc.olAt + s.smc.olInt ≤ s.atb.spansG → ∃ t, exec .openLoopStep s = .next t ∧
      t.smc.step = (s.smc.step + 1) % 6 ∧
      t.smc.olInt = max (max 1 (s.fget Reg.SMC_START2_OLMIN)) (s.smc.olInt * 15 / 16)) ∧
    (s.smcState = 3 → s.smc.olSpan + s.fget Reg.SMC_START1_OLMAX * 16 ≤ s.atb.spansG →
      s.fget Reg.SMC_STATUS_ATTEMPT < 4 → ∃ t, exec .openLoopBoundExpiry s = .next t ∧ t.smcState = 8 ∧
        (t.rd Reg.SMC_ABORTS).toNat = min ((s.rd Reg.SMC_ABORTS).toNat + 1) 0xFFFFFFFF) ∧
    (s.smcState = 3 → s.smc.olSpan + s.fget Reg.SMC_START1_OLMAX * 16 ≤ s.atb.spansG →
      4 ≤ s.fget Reg.SMC_STATUS_ATTEMPT → ∃ t, exec .openLoopBoundExpiry s = .next t ∧ t.smcState = 0 ∧
        t.fget Reg.SMC_FAULT_SPINFAIL = 1) ∧
    (s.smc.starting = true → s.smc.startSpan + s.fget Reg.SMC_HOVER_SPINMAX * 1024 ≤ s.atb.spansG →
      ∃ t, exec .startBoundExpiry s = .next t ∧ t.smcState = 0 ∧ t.fget Reg.SMC_FAULT_SPINFAIL = 1 ∧
        t.smc.starting = false) ∧
    (∀ (kind : Fin 6) edge held, edge < s.fget Reg.SMC_MOTOR1_BLANK ∨ held < 100 →
      ∃ t, exec (.bemfCrossing kind edge held) s = .next t ∧ t.smc = s.smc) ∧
    (∀ (k : Nat) (kind : Fin 6) edge held, s.fget Reg.SMC_MOTOR1_BLANK ≤ edge → 100 ≤ held → s.smcState = 3 → s.smc.lastKind = some k → kind.val = (k + 1) % 6 → s.smc.fwdRun = 5 →
      ∃ t, exec (.bemfCrossing kind edge held) s = .next t ∧ t.smcState = 4 ∧ t.smc.lastKind = some kind.val) ∧
    (∀ (k : Nat) (kind : Fin 6) edge held, s.fget Reg.SMC_MOTOR1_BLANK ≤ edge → 100 ≤ held → s.smcState = 3 → s.smc.lastKind = some k → kind.val = (k + 5) % 6 →
      s.smc.revCount + 1 ≤ s.fget Reg.SMC_START_BACKMAX → ∃ t, exec (.bemfCrossing kind edge held) s = .next t ∧ t.smcState = 3 ∧
        t.smc.revCount = s.smc.revCount + 1 ∧
        (t.rd Reg.SMC_BACKJ).toNat = min ((s.rd Reg.SMC_BACKJ).toNat + 1) 0xFFFFFFFF) ∧
    (∀ (k : Nat) (kind : Fin 6) edge held, s.fget Reg.SMC_MOTOR1_BLANK ≤ edge → 100 ≤ held → s.smcState = 7 → s.smc.lastKind = some k → kind.val = (k + 5) % 6 →
      ∃ t, exec (.bemfCrossing kind edge held) s = .next t ∧ t.smcState = 8 ∧ t.fget Reg.SMC_FAULT_CATCHFAIL = 1) ∧
    (∀ c, s.smcState = 4 → s.smc.commAt = some c → c ≤ s.cycle → ∃ t, exec .commutation s = .next t ∧
      t.smc.step = (s.smc.step + 1) % 6 ∧ t.smc.commAt = none) ∧
    (s.smcStopped = true → s.smcState = 9 → ∃ t, exec .standstillDetect s = .next t ∧ t.smcState = 0) ∧
    (s.smcStopped = true → s.smcState = 8 → s.smcLatched = false → s.smc.between = true →
      s.fget Reg.SMC_STATUS_ATTEMPT < 4 → ∃ t, exec .standstillDetect s = .next t ∧
        t.fget Reg.SMC_STATUS_ATTEMPT = s.fget Reg.SMC_STATUS_ATTEMPT + 1) ∧
    (s.smcState = 7 → s.smc.catchAt + s.fget Reg.SMC_CATCH_CATCHMAX ≤ s.atb.spansG →
      ∃ t, exec .catchTimeout s = .next t ∧ t.smcState = 8 ∧ t.fget Reg.SMC_FAULT_CATCHFAIL = 1)

/-- The speed loop (R408, R409), trips (R418), the speed reference (R410), the chopper and the motor supply (R420 to R423, R426,
R568).
The model's own choices in it: notes/assumptions/28.md. -/
def Obligations.SpindleLoopAndSupply : Prop :=
  ∀ s : State, s.boot.held = .off →
    (∀ th sp emf ibr, s.smc.loopBlock = some (s.atb.rev * 64 + s.angleG / 2 ^ 26) →
      ∃ t, exec (.speedLoopRun th sp emf ibr) s = .next t ∧ t.smc = s.smc) ∧
    (∀ th sp emf ibr, s.smc.loopBlock ≠ some (s.atb.rev * 64 + s.angleG / 2 ^ 26) → s.smcState = 5 →
      ∃ t, exec (.speedLoopRun th sp emf ibr) s = .next t ∧ t.fget Reg.SMC_SPEED_SPEED = min sp 65535 ∧
        t.fget Reg.SMC_SPEED_TARGET = (s.nextTarget / 64).toNat % 65536 ∧
        t.smc.loopBlock = some (s.atb.rev * 64 + s.angleG / 2 ^ 26) ∧ t.fget Reg.SMC_IBR_I = ibr.toNat ∧
        ∀ n : Fin 4, (t.winh n).testBit 5 = true) ∧
    (∀ th sp emf ibr, s.smc.loopBlock ≠ some (s.atb.rev * 64 + s.angleG / 2 ^ 26) → s.smcState = 5 → s.smc.stopping = false →
      s.fbit Reg.SMC_STATUS_OBSLOCK = true → s.smc.obsBad + 1 < s.fget Reg.SMC_OBS_OBSN →
      s.fbit Reg.ATB_STATUS_QUAL = true → 63 ≤ s.smc.learn.length → ∃ t, exec (.speedLoopRun th sp emf ibr) s = .next t ∧
        t.smcState = 6 ∧ t.fget Reg.SMC_STATUS_ROTOK = 1) ∧
    (∀ i, s.fget Reg.SMC_ILIM_IOC < i → (escalate s.smc.trips s.atb.spansG 1024 64).1 = false →
      ∃ t, exec (.spindleOvercurrentTrip i) s = .next t ∧ t.smcState = s.smcState ∧
        (t.rd Reg.SMC_OCTRIPS).toNat = min ((s.rd Reg.SMC_OCTRIPS).toNat + 1) 0xFFFFFFFF) ∧
    (∀ i, s.fget Reg.SMC_ILIM_IOC < i → (escalate s.smc.trips s.atb.spansG 1024 64).1 = true → s.smcState = 6 →
      ∃ t, exec (.spindleOvercurrentTrip i) s = .next t ∧ t.smcState = 7 ∧ t.fget Reg.SMC_FAULT_OCESC = 1) ∧
    (∀ code : BitVec 12, s.atb.spansG ≤ s.smc.sprefAt → ∃ t, exec (.sprefSample code) s = .next t ∧ t.smc = s.smc) ∧
    (∀ code : BitVec 12, s.smc.sprefAt < s.atb.spansG → ∃ t, exec (.sprefSample code) s = .next t ∧ t.smc.spref = (code.toNat :: s.smc.spref).take 64 ∧
      t.fget Reg.SMC_SPREF_IN_CODE = (t.smc.spref.sum / t.smc.spref.length) % 4096) ∧
    (∀ mv held, 16500 ≤ mv → vmotDwell ≤ held → s.fbit Reg.SMC_STATUS_CHOPG = false → s.fbit Reg.SMC_FAULT_CHOP = false →
      ∃ t, exec (.chopperGateOn mv held) s = .next t ∧ t.fget Reg.SMC_STATUS_CHOPG = 1 ∧ t.smc.chopAt = some s.cycle) ∧
    (∀ mv held, s.fbit Reg.SMC_FAULT_CHOP = true → ∃ t, exec (.chopperGateOn mv held) s = .next t ∧ t.smc = s.smc) ∧
    (∀ mv held, mv ≤ 16000 → vmotDwell ≤ held → ∃ t, exec (.chopperGateOff mv held) s = .next t ∧ t.fget Reg.SMC_STATUS_CHOPG = 0 ∧
      t.fget Reg.SMC_VMOT_MV = mv) ∧
    (∀ c mv brki, s.smc.chopAt = some c → c + 2000000 ≤ s.cycle → 16500 ≤ mv → mv < 17500 →
      ∃ t, exec (.chopperFault mv brki) s = .next t ∧ t.smcState = 8 ∧ t.fget Reg.SMC_STATUS_CHOPG = 0 ∧
        t.fget Reg.SMC_FAULT_CHOP = 1 ∧ t.recov.stopped = true) ∧
    (∀ mv held, 17500 ≤ mv → vmotDwell ≤ held → ∃ t, exec (.vmotOvervoltage mv held) s = .next t ∧ t.smcState = 9 ∧ t.fget Reg.SMC_FAULT_OVP = 1 ∧
      t.recov.stopped = true ∧ ∀ n, s.actEnabled n = true → (t.pair.get n).law = 7) ∧
    (∀ mv held, mv < 14000 → vmotDwell ≤ held → s.smcLatched = true → s.smcState = 9 → ∃ t, exec (.ovpShortBrakeRetry mv held) s = .next t ∧
      t.smcState = 8) ∧
    (∀ mv held, mv < 8000 → vmotDwell ≤ held → s.fbit Reg.PMU_PSTATE_VLOSS = false → s.eps < 3 → ∃ t, exec (.vmotPowerLoss mv held) s = .next t ∧
      t.smcState = 10 ∧ t.fget Reg.PMU_PSTATE_VLOSS = 1 ∧ t.fget Reg.SMC_FAULT_PLOSS = 1 ∧ t.smc.iso = false ∧
      t.recov.faultRanges = s.dirtyRanges ∧ (∀ n, s.actEnabled n = true → (t.pair.get n).law = 7) ∧
      ∀ n : Fin 4, (t.winh n).testBit 3 = true) ∧
    (∀ mv held, mv < 8000 → vmotDwell ≤ held → s.fbit Reg.PMU_PSTATE_VLOSS = false → 3 ≤ s.eps → ∃ t, exec (.vmotPowerLoss mv held) s = .next t ∧
      t.fget Reg.PMU_PSTATE_VLOSS = 1 ∧ t.smc = s.smc ∧ t.pair = s.pair) ∧
    (∀ mv held, held < vmotDwell → ∃ t, exec (.vmotPowerLoss mv held) s = .next t ∧
      t.fget Reg.PMU_PSTATE_VLOSS = s.fget Reg.PMU_PSTATE_VLOSS ∧ t.smc = s.smc ∧ t.pair = s.pair) ∧
    (∀ mv, 9000 ≤ mv → s.fbit Reg.PMU_PSTATE_VLOSS = true → ∃ t, exec (.vmotRestore mv) s = .next t ∧
      t.fget Reg.PMU_PSTATE_VLOSS = 0 ∧ ∀ n : Fin 4, (t.winh n).testBit 3 = false) ∧
    (s.pow.lossTick.isSome = true → 1000 ≤ s.pow.vmotRun → s.pow.coolStart = none → s.eps < 3 → s.recov.stopped = false →
      s.smcLatched = false → s.smcState = 10 → 9000 ≤ s.fget Reg.PMU_VMOT_MV → s.smcStopped = true →
      ∃ t, exec .vmotRestartCount s = .next t ∧ t.smcState = 1 ∧ t.pow.lossTick = none) ∧
    (∀ a c t0, s.recov.stopped = false → s.pow.lossAt = some t0 → t0 + 60000 ≤ s.pow.ticks → s.smcState ≠ 6 →
      c ∈ s.mediaWaiters → c.arr = a →
      s.ctx a = some c → (∀ x ∈ s.host.ctxs, x.arr = a → x = c) → ∃ t, exec .vmotLossRunTimeout s = .next t ∧
        t.statusOf a = some St.notReady)


/-! ### Memory, recovery and the event recorder -/

/-- Memory keeps its canonical form in every step: addresses rise, and no byte of 0 is listed.
The model's own choices in it: notes/assumptions/14.md. -/
def Obligations.MemoryStaysCanonical : Prop :=
  ∀ s t : State, Memory.wf s.mem = true → step s = .next t → Memory.wf t.mem = true

/-- Scrub reads, refresh, the remap tables and the flip mask (R459, R464, R465, R468, R470, R473, R476).
The model's own choices in it: notes/assumptions/23.md. -/
def Obligations.MemoryProtection : Prop :=
  ∀ s : State, s.boot.held = .off →
    (∀ content cl, s.passCycles true ≠ 0 → s.eps ≠ 4 → s.memp.flaws = [] → s.memp.poison = [] →
      s.fget Reg.SCB_DPOS_LINE + 1 < s.scrubUnits true → s.fget Reg.SCB_DPOS_LINE + 1 < 2 ^ 29 →
      ∃ t, exec (.scrubRead true 0 content cl) s = .next t ∧ t.fget Reg.SCB_DPOS_LINE = s.fget Reg.SCB_DPOS_LINE + 1 ∧
        t.rd Reg.MEM_DRAM_CE = s.rd Reg.MEM_DRAM_CE ∧ t.rd Reg.MEM_DRAM_UE = s.rd Reg.MEM_DRAM_UE ∧ t.mem = s.mem) ∧
    (∀ (nsym : Fin 256) content cl, s.passCycles true ≠ 0 → s.eps ≠ 4 → s.memp.flaws = [] → s.memp.poison = [] →
      0 < nsym.val → nsym.val < 255 → ∃ t, exec (.scrubRead true nsym content cl) s = .next t ∧
        t.fget Reg.MEM_EVT_STAT_DCE = 1 ∧ t.mem = s.mem ∧
        (t.rd Reg.MEM_DRAM_CE).toNat = min ((s.rd Reg.MEM_DRAM_CE).toNat + 1) 0xFFFFFFFF) ∧
    (∀ cl, cl ≠ some true → s.passCycles true ≠ 0 → s.eps ≠ 4 → s.memp.flaws = [] → s.memp.poison = [] →
      ∃ t, exec (.scrubRead true 255 .clean cl) s = .next t ∧ t.fget Reg.MEM_EVT_STAT_DUE = 1 ∧
        eccBase (scrubAddr true (s.fget Reg.SCB_DPOS_LINE)) ∈ t.memp.poison ∧
        (t.rd Reg.MEM_DRAM_UE).toNat = min ((s.rd Reg.MEM_DRAM_UE).toNat + 1) 0xFFFFFFFF) ∧
    (s.passCycles true ≠ 0 → s.eps ≠ 4 → s.memp.flaws = [] → s.memp.poison = [] →
      ∃ t, exec (.scrubRead true 255 .clean (some true)) s = .next t ∧ t.memp.poison = [] ∧
        (t.rd Reg.MEM_SCBCANCEL).toNat = min ((s.rd Reg.MEM_SCBCANCEL).toNat + 1) 0xFFFFFFFF) ∧
    (∀ (sub : Fin 4) (deg : Int), s.pow.selfRef = false → (s.fget Reg.MEM_CFG_SUBCH).testBit sub.val = true →
      ∃ t, exec (.dramRefresh sub deg) s = .next t ∧ (t.fget Reg.MEM_STATUS_HOTREF).testBit sub.val = decide (85 < deg) ∧
        ∀ k : Fin 4, k ≠ sub → (t.fget Reg.MEM_STATUS_HOTREF).testBit k.val = (s.fget Reg.MEM_STATUS_HOTREF).testBit k.val) ∧
    (∀ c dram (i : Fin 32) (w : Word), i.val < rmtCount dram → s.fbit (rmtBusy dram i.val) = false → w.getLsbD 31 = true →
      ∃ t, exec (.rmtEntryWrite (.core c) dram i w) s = .next t ∧ t.fget (rmtBusy dram i.val) = 1 ∧
        t.fget (rmtV dram i.val) = 1 ∧ t.fget (rmtUnit dram i.val) = w.toNat % 2 ^ (if dram then 23 else 15)) ∧
    (∀ m dram (i : Fin 32) w, s.fbit (rmtBusy dram i.val) = true → ∃ t, exec (.rmtEntryWrite m dram i w) s = .next t ∧
      t.memp = s.memp ∧ ∀ r, r ≠ Reg.EVR_DROPQ → t.rd r = s.rd r) ∧
    (∀ m dram (i : Fin 32) w, s.fbit Reg.MEM_LOCK_LOCK = true → (∀ c, m ≠ .core c) → m ≠ .jtag →
      ∃ t, exec (.rmtEntryWrite m dram i w) s = .next t ∧ t.memp = s.memp ∧ ∀ r, r ≠ Reg.EVR_DROPQ → t.rd r = s.rd r) ∧
    (∀ dram (i : Fin 32) base, Memory.wf s.mem = true → i.val < rmtCount dram → s.fbit (rmtBusy dram i.val) = true →
      base = rmtBase dram (s.fget (rmtUnit dram i.val)) → ∃ t, exec (.rmtCopyDone dram i) s = .next t ∧
        t.fget (rmtBusy dram i.val) = 0 ∧ ∀ a, base ≤ a → a < base + rmtLen dram →
          t.memByte a = s.memByte a ∧ remapped t.memp.remap a = rmtSpare dram i.val + (a - base)) ∧
    (∀ c w, ∃ t, exec (.fmrArm (.core c) w) s = .next t ∧ t.fget Reg.MEM_FMR_CTRL_ARM = 1) ∧
    (∀ m w, (∀ c, m ≠ .core c) → m ≠ .jtag → ∃ t, exec (.fmrArm m w) s = .next t ∧
      ∀ r, r ≠ Reg.EVR_DROPQ → t.rd r = s.rd r)

/-- Idle seals (R438), the recovery bound (R481), background scans (R487), the handler's time limit (R489) and the reset that follows
Fault Stop (R492).
The model's own choices in it: notes/assumptions/41.md. -/
def Obligations.RecoveryAndFaultStop : Prop :=
  ∀ s : State, s.boot.held = .off →
    (∀ nsid z n, s.nspace nsid = some n → n.compressed = true → s.host.ctxs = [] → (n.zone z).unsealed = true →
      s.fget Reg.CXE_CFG_IDLE ≠ 0 → (n.zone z).comp.lastRev + s.fget Reg.CXE_CFG_IDLE ≤ s.atb.rev →
      ∃ t n', exec (.idleSeal nsid z) s = .next t ∧ t.nspace nsid = some n' ∧ (n'.zone z).comp.b % 4096 = 0 ∧
        (t.rd Reg.CXE_SEALS).toNat = min ((s.rd Reg.CXE_SEALS).toNat + 1) 0xFFFFFFFF) ∧
    (∀ nsid z, s.fget Reg.CXE_CFG_IDLE = 0 → ∃ t, exec (.idleSeal nsid z) s = .next t ∧ t.ns = s.ns) ∧
    (∀ k l n c, s.recov.ladders[k]? = some l → l.write = false → l.step < 8 → l.p.groupRead = false → s.boundReached l = true →
      s.msc.running.get n = some c → l.p.same c.op.p = true → (∀ j, j ≠ n → s.msc.running.get j = none) →
      s.trsRunning n = true → ∃ t, exec (.recoveryBoundReached k) s = .next t ∧ (t.trs.get n).abortP = true) ∧
    (∀ k l, s.recov.ladders[k]? = some l → s.boundReached l = false → ∃ t, exec (.recoveryBoundReached k) s = .next t ∧
      t.recov = s.recov ∧ t.trs = s.trs) ∧
    (∀ (r : Fin 6) d ext l, s.recov.scanQueue = [] → s.msc.rings[r.val]? = some l → s.postable { d with kind := 3, prio := 0 } = true →
      (s.dpi.actEn (surfActuators d.surf).1 = false ∨ s.dpi.actEn (surfActuators d.surf).2 = false ∨ 4 ≤ r.val) →
      max s.eps (s.pow.moving.getD 0) < 2 →
      ∃ t p, exec (.backgroundScanPost r d ext) s = .next t ∧ t.msc.rings[r.val]? = some (l ++ [p]) ∧ p.cmd = none ∧
        p.ext = ext ∧ p.d.kind = 3 ∧ p.d.prio = 0 ∧ t.recov.scanPos = (d.surf, d.cyl, d.first + d.count)) ∧
    (∀ (r : Fin 6) d ext, 2 ≤ max s.eps (s.pow.moving.getD 0) → ∃ t, exec (.backgroundScanPost r d ext) s = .next t ∧
      t.msc = s.msc ∧ t.recov = s.recov) ∧
    (s.recov.depth ≠ 0 → s.recov.handlerAt + 10 ^ 8 ≤ s.cycle → ∃ t, exec .faultHandlerTimeout s = .next t ∧ t.recov.stopped = true) ∧
    (s.recov.depth = 0 ∨ s.cycle < s.recov.handlerAt + 10 ^ 8 → ∃ t, exec .faultHandlerTimeout s = .next t ∧ t.recov = s.recov) ∧
    (∀ n, s.recov.stopped = true → (∀ m, (s.ctrl m).en = false) → s.boot.resetCause = none → s.actEnabled n = true →
      (s.pair.get n).law ≠ 7 → ∃ t, exec .faultStopResetRequest s = .next t ∧ t.boot.resetCause = some 3 ∧
        (t.pair.get n).law = 7) ∧
    (∀ m, s.recov.stopped = true → m ∈ s.controllers → (s.ctrl m).en = true →
      ∃ t, exec .faultStopResetRequest s = .next t ∧ t.boot = s.boot ∧ t.pair = s.pair)

/-- What the recorder takes (R498 to R501) and how its queue drops: a firmware post is the offer.
The model's own choices in it: notes/assumptions/6.md, 16.md. -/
def Obligations.RecorderTakesOffers : Prop :=
  ∀ (s : State) (c : Fin 8) (w : Word) (o : Offer), s.boot.held = .off → s.evr.staged = [] → w.getLsbD 4 = false →
    o = ⟨(s.rd Reg.EVR_BOOT).toNat * 2 ^ 32 + (s.evr.seq + 1) % 2 ^ 32, s.stamp, 0x40, 0xFFFF,
      0xFFFF0000 + wordBits w 31 16, sevOf (wordBits w 1 0), none,
      (List.range 6).flatMap (fun d => leBytes (s.rd (Reg.EVR_POST_Dn d)).toNat 4), s.cycle⟩ →
    (s.recorded o = true → s.evr.queue.length < 64 → ∃ t, exec (.evrPost (.core c) w) s = .next t ∧
      t.evr.queue = s.evr.queue ++ [o] ∧ t.evr.seq = s.evr.seq + 1) ∧
    (s.recorded o = true → 64 ≤ s.evr.queue.length → (∀ q ∈ s.evr.queue, o.sev.code ≤ q.sev.code) →
      ∃ t, exec (.evrPost (.core c) w) s = .next t ∧ t.evr.queue = s.evr.queue ∧ t.evr.seq = s.evr.seq + 1 ∧
        t.evr.dropped = min (s.evr.dropped + 1) 0xFFFF ∧
        (t.rd Reg.EVR_DROPQ).toNat = min ((s.rd Reg.EVR_DROPQ).toNat + 1) 0xFFFFFFFF) ∧
    (∀ q, s.recorded o = true → 64 ≤ s.evr.queue.length → q ∈ s.evr.queue → q.sev.code < o.sev.code →
      (∀ x ∈ s.evr.queue, q.sev.code ≤ x.sev.code ∧ (x.sev.code = q.sev.code → x.seq ≤ q.seq)) →
      ∃ t, exec (.evrPost (.core c) w) s = .next t ∧ t.evr.seq = s.evr.seq + 1 ∧
        t.evr.queue = s.evr.queue.filter (fun x => decide (x.seq ≠ q.seq)) ++ [o] ∧
        t.evr.dropped = min (s.evr.dropped + 1) 0xFFFF ∧
        (t.rd Reg.EVR_DROPQ).toNat = min ((s.rd Reg.EVR_DROPQ).toNat + 1) 0xFFFFFFFF) ∧
    (s.recorded o = false → ∃ t, exec (.evrPost (.core c) w) s = .next t ∧ t.evr = s.evr) ∧
    (s.fbit Reg.EVR_STATUS_FROZEN = true → o.sev.code < 2 → s.recorded o = false)

/-- Records, freeze, the mirror and the lists (R502 to R504, R507 to R511, R515).
The model's own choices in it: notes/assumptions/25.md. -/
def Obligations.RecorderWritesRecords : Prop :=
  ∀ s : State, s.boot.held = .off →
    (∀ o rest k, s.evr.queue = o :: rest → s.fbit Reg.EVR_LOCK_LOCK = true → s.evr.staged = [] → o.sev ≠ .fatal →
      pickSlot 1024 s.evr.lastSlot s.validSlots o.sev.code = some k → ∃ t r, exec .evrRecordWrite s = .next t ∧
        t.evr.queue = rest ∧ sparseFind k t.evr.ring = some (.valid r) ∧ r.offer = o ∧ r.dropped = s.evr.dropped ∧
        t.evr.dropped = 0 ∧ t.evr.lastSlot = k ∧ r.bytes.length = 256 ∧
        (s.fbit (Reg.EVR_LINE_n_SNAP o.line) = false → r.snap = [] ∧ r.list = none) ∧
        (t.rd Reg.EVR_WRITTEN).toNat = min ((s.rd Reg.EVR_WRITTEN).toNat + 1) 0xFFFFFFFF) ∧
    (∀ o rest, s.evr.queue = o :: rest → s.fbit Reg.EVR_LOCK_LOCK = true → s.evr.staged = [] →
      pickSlot 1024 s.evr.lastSlot s.validSlots o.sev.code = none → ∃ t, exec .evrRecordWrite s = .next t ∧
        t.evr.queue = rest ∧ t.evr.ring = s.evr.ring ∧
        (t.rd Reg.EVR_DROPRING).toNat = min ((s.rd Reg.EVR_DROPRING).toNat + 1) 0xFFFFFFFF) ∧
    (∀ o rest, s.evr.queue = o :: rest → s.fbit Reg.EVR_LOCK_LOCK = true → o.sev = .fatal → s.fbit Reg.EVR_CFG_FRZ = true →
      (pickSlot 1024 s.evr.lastSlot s.validSlots 3).isSome = true →
      ∃ t, exec .evrRecordWrite s = .next t ∧ t.fget Reg.EVR_STATUS_FROZEN = 1 ∧ t.fget Reg.EVR_EVT_STAT_FATAL = 1) ∧
    (s.fbit Reg.EVR_LOCK_LOCK = false → s.evr.staged = [] → ∃ t, exec .evrRecordWrite s = .next t ∧ t.evr = s.evr) ∧
    (∀ k r posts, s.validSlots.find? (fun kr => decide (kr.1 = k)) = some (k, r) → s.evr.mirror = [] →
      s.fget Reg.EVR_CFG_MIRSEV ≤ r.offer.sev.code → r.offer.seq ∉ s.evr.mirrored →
      ∃ t, exec (.evrMirrorCopy k posts) s = .next t ∧ t.evr.mirror.map (·.2) = [r] ∧ r.offer.seq ∈ t.evr.mirrored) ∧
    (∀ m w, w.getLsbD 0 = true → ∃ t, exec (.evrCtrlClear m w) s = .next t ∧ t.validSlots = []) ∧
    (∀ m w, w.getLsbD 1 = true → ∃ t, exec (.evrCtrlUnfreeze m w) s = .next t ∧ t.fget Reg.EVR_STATUS_FROZEN = 0) ∧
    (∀ m (l : Fin 8) (k : Fin 48) w, s.isOwner m = true → listEntryOk w.toNat = true →
      ∃ t, exec (.evrListWrite m l k w) s = .next t ∧ t.rd (Reg.EVR_LIST_n_i l k) = w) ∧
    (∀ m (l : Fin 8) (k : Fin 48) w, s.isOwner m = false ∨ listEntryOk w.toNat = false →
      ∃ t, exec (.evrListWrite m l k w) s = .next t ∧ ∀ r, r ≠ Reg.EVR_DROPQ → t.rd r = s.rd r)


/-! ### The Viaduct chain -/

/-- Links, the head and what a unit sends of itself (R521, R523, R528 to R531).
The model's own choices in it: notes/assumptions/50.md. -/
def Obligations.ChainLinksAndHead : Prop :=
  ∀ s : State, s.boot.held = .off →
    (∀ idles present, 64 ≤ idles → s.linkUp true = false → ∃ t f, exec (.chainLinkUp true idles present) s = .next t ∧
      t.fget Reg.VCH_STATUS_UPPRES = (if present then 1 else 0) ∧ t.linkUp true = true ∧ t.isHead = false ∧
      t.chain.probeAt = some s.cycle ∧ t.out = .chainUp f :: s.out ∧ f.ty = 3 ∧ t.fget Reg.VCH_EVT_STAT_LINK = 1) ∧
    (∀ up idles present, idles < 64 → ∃ t, exec (.chainLinkUp up idles present) s = .next t ∧ t.linkUp up = s.linkUp up ∧
      t.chain = s.chain ∧ t.out = s.out) ∧
    (∀ idles present, 64 ≤ idles → s.linkUp false = false → ∃ t, exec (.chainLinkUp false idles present) s = .next t ∧
      t.fget Reg.VCH_STATUS_DNPRES = (if present then 1 else 0) ∧ t.linkUp false = true ∧
      t.chain.dnEchoed = false ∧ t.out = s.out ∧ t.fget Reg.VCH_EVT_STAT_LINK = 1) ∧
    (∀ v silent present, (16 ≤ v ∨ 1000 ≤ silent) → s.linkUp true = true → ∃ t, exec (.chainLinkDown true v silent present) s = .next t ∧ t.linkUp true = false ∧
      t.chain.probeAt = none ∧ (t.rd Reg.VCH_CODEERR).toNat = min ((s.rd Reg.VCH_CODEERR).toNat + v) 0xFFFFFFFF) ∧
    (∀ up v silent present, v < 16 → silent < 1000 → ∃ t, exec (.chainLinkDown up v silent present) s = .next t ∧
      t.linkUp up = s.linkUp up ∧ t.out = s.out ∧ (t.rd Reg.VCH_CODEERR).toNat = min ((s.rd Reg.VCH_CODEERR).toNat + v) 0xFFFFFFFF) ∧
    (∀ v silent present, (16 ≤ v ∨ 1000 ≤ silent) → s.linkUp false = true → s.linkUp true = true → s.isHead = false →
      s.chainAddr ≠ 0 → ∃ t f, exec (.chainLinkDown false v silent present) s = .next t ∧ t.linkUp false = false ∧ t.out = .chainUp f :: s.out ∧ f.ty = 7 ∧
        f.dst = 0 ∧ f.src = s.chainAddr ∧ f.payload = leBytes s.chainAddr 4) ∧
    (s.fbit Reg.VCH_CFG_HEADEN = true → s.linkUp true = false → s.isHead = false →
      s.chain.downAt + 10 ^ 9 ≤ s.cycle → ∃ t, exec .headTimerExpiry s = .next t ∧
      t.isHead = true ∧ t.chainAddr = 1 ∧ t.chain.enumDue = true ∧
      (s.fbit Reg.VCH_CFG_MASTER = true → t.vchSync = 4)) ∧
    (s.fbit Reg.VCH_CFG_HEADEN = false ∨ s.linkUp true = true → ∃ t, exec .headTimerExpiry s = .next t ∧
      t.chain = s.chain ∧ t.isHead = s.isHead) ∧
    (s.linkUp true = true → s.chain.probedAt + 10 ^ 10 ≤ s.cycle → ∃ t f, exec .probeTimer s = .next t ∧ t.chain.probeAt = some s.cycle ∧
      t.out = .chainUp f :: s.out ∧ f.ty = 3 ∧ f.dst = 0) ∧
    (∀ c, s.chain.probeAt = some c → c + 2000 < s.cycle → ∃ t, exec .echoTimeout s = .next t ∧ t.chain.probeAt = none ∧
      t.fget Reg.VCH_UPDLY_DLY = s.fget Reg.VCH_UPDLY_DLY) ∧
    (s.chain.enumDue = true → s.isHead = true → s.linkUp false = true → ∃ t, exec .enumSend s = .next t ∧
      t.chain.enumDue = false ∧ t.out = .chainDn (Frame.sealed ⟨127, 0, 1, 0, 0, 8, leBytes 2 4 ++ leBytes 0 4, 0⟩) :: s.out) ∧
    (s.chain.attachDue = true → s.linkUp false = true → s.linkUp true = true → ∃ t f, exec .attachSend s = .next t ∧
      t.chain.attachDue = false ∧ t.out = .chainUp f :: s.out ∧ f.ty = 6 ∧ f.payload = leBytes s.chainAddr 4 ∧
      (t.rd Reg.VCH_ATTACHES).toNat = min ((s.rd Reg.VCH_ATTACHES).toNat + 1) 0xFFFFFFFF) ∧
    (∀ m, s.isHead = true → ∃ t, exec (.vchCtrlEnum m) s = .next t ∧ t.chain.enumDue = true) ∧
    (∀ m, s.isHead = false → ∃ t, exec (.vchCtrlEnum m) s = .next t ∧ t.chain = s.chain) ∧
    (∀ m, s.linkUp true = true → ∃ t f, exec (.vchCtrlProbe m) s = .next t ∧ t.chain.probeAt = some s.cycle ∧
      t.out = .chainUp f :: s.out ∧ f.ty = 3)

/-- Frames that a unit handles itself (R526 to R531, R537): one with a wrong CRC, a reserved TYPE or another LEN is dropped
and counted, and nothing is sent.
The model's own choices in it: notes/assumptions/50.md. -/
def Obligations.ChainFrames : Prop :=
  ∀ (s : State) (f : Frame), s.boot.held = .off →
    (∀ up, ∀ g ∈ ([Instr.enumFrame, Instr.enumEndFrame, Instr.probeFrame, Instr.echoFrame, Instr.timeFrame, Instr.attachFrame,
        Instr.detachFrame, Instr.regReadFrame, Instr.regWriteFrame, Instr.ownFrame, Instr.responseFrame] :
        List (Bool → Frame → Instr)),
      (s.linkUp up = true → f.crcOk = false → ∃ t, exec (g up f) s = .next t ∧ t.out = s.out ∧ t.chain = s.chain ∧
        (t.rd Reg.VCH_CRCERR).toNat = min ((s.rd Reg.VCH_CRCERR).toNat + 1) 0xFFFFFFFF) ∧
      (s.linkUp up = true → f.crcOk = true → (frameLen f.ty ≠ some f.len ∨ f.payload.length ≠ f.len) →
        ∃ t, exec (g up f) s = .next t ∧ t.out = s.out ∧ t.chain = s.chain ∧
          (t.rd Reg.VCH_RXDROP).toNat = min ((s.rd Reg.VCH_RXDROP).toNat + 1) 0xFFFFFFFF) ∧
      (s.linkUp up = false → exec (g up f) s = .next s.settle)) ∧
    (f.crcOk = true → f.payload.length = f.len →
      (∀ b, s.linkUp true = true → f.ty = 1 → f.payload.length = 8 → f.dst = 127 → s.isHead = false →
        f.payload.getD 0 0#8 = b → 1 ≤ b.toNat → b.toNat < 127 → s.linkUp false = true →
        ∃ t g, exec (.enumFrame true f) s = .next t ∧ t.chainAddr = b.toNat ∧ t.out = .chainDn g :: s.out ∧ g.ty = 1 ∧
          g.payload.getD 0 0#8 = b + 1#8) ∧
      (∀ b, s.linkUp false = true → f.ty = 2 → f.payload.length = 4 → f.dst = 0 → s.isHead = true →
        f.payload.getD 0 0#8 = b → b.toNat < 128 → ∃ t, exec (.enumEndFrame false f) s = .next t ∧
          t.fget Reg.VCH_ADDR_COUNT = b.toNat ∧ t.out = s.out) ∧
      (s.linkUp false = true → f.ty = 3 → f.payload = [] → ∃ t g, exec (.probeFrame false f) s = .next t ∧
        t.out = .chainEcho (s.cycle + 200) g :: s.out ∧ g.ty = 4 ∧ g.payload = [] ∧ t.chain.dnEchoed = true) ∧
      (∀ c, s.linkUp true = true → f.ty = 4 → f.payload = [] → s.chain.probeAt = some c → s.cycle - c ≤ 2000 →
        ∃ t, exec (.echoFrame true f) s = .next t ∧ t.chain.probeAt = none ∧
          t.fget Reg.VCH_UPDLY_DLY = 8 * (s.cycle - c - 200) ∧
          t.fget Reg.VCH_ACCDLY_DLY = (s.chain.accIn + t.fget Reg.VCH_UPDLY_DLY) % 2 ^ 24) ∧
      (s.linkUp true = true → f.ty = 5 → f.payload.length = 24 → f.dst = 127 → s.chain.timeOk = true →
        ∃ t, exec (.timeFrame true f) s = .next t ∧ t.chain.timeOk = false ∧
          t.chain.tref = (leNat (f.payload.take 8), leNat ((f.payload.drop 8).take 8), s.chain.ownVsync)) ∧
      (s.linkUp false = true → f.ty = 6 → f.payload.length = 4 → f.dst = 0 → s.isHead = true →
        ∃ t, exec (.attachFrame false f) s = .next t ∧ t.chain.enumDue = true ∧
          (t.rd Reg.VCH_ATTACHES).toNat = min ((s.rd Reg.VCH_ATTACHES).toNat + 1) 0xFFFFFFFF) ∧
      (s.linkUp false = true → f.ty = 7 → f.payload.length = 4 → f.dst = 0 → s.isHead = true →
        ∃ t, exec (.detachFrame false f) s = .next t ∧ t.chain.enumDue = true ∧ t.fget Reg.VCH_EVT_STAT_DETACH = 1) ∧
      (s.linkUp false = true → s.linkUp true = true → f.ty = 7 → f.payload.length = 4 → f.dst = 0 → s.isHead = false →
        ∃ t, exec (.detachFrame false f) s = .next t ∧ t.out = .chainUp f :: s.out ∧ t.chain = s.chain) ∧
      (s.linkUp false = true → s.linkUp true = true → f.ty = 0x13 → f.payload.length = 8 → f.dst = 0 → s.isHead = false →
        ∃ t, exec (.responseFrame false f) s = .next t ∧ t.out = .chainUp f :: s.out ∧ t.chain = s.chain) ∧
      (s.linkUp false = true → f.ty = 0x13 → f.payload.length = 8 → f.dst = 0 → s.isHead = true →
        ∃ t, exec (.responseFrame false f) s = .next t ∧ t.out = s.out ∧ t.chain = s.chain))

/-- Requests of the head (R538, R546): a register read, a register write, an ownership action, each answered by a RESPONSE with the
request's TAG.
The model's own choices in it: notes/assumptions/51.md. -/
def Obligations.ChainRequests : Prop :=
  ∀ (s : State) (f : Frame), s.boot.held = .off → s.linkUp true = true → f.crcOk = true → f.payload.length = f.len →
    f.dst = s.chainAddr →
    s.chainAddr ≠ 0 → f.dst ≠ 127 →
    (∀ t0 v, f.ty = 0x10 → f.payload.length = 4 → inRegSpace (leNat f.payload) = true →
      s.busRead .chain (leNat f.payload) = (t0, v, .done) → t0.out = s.out → t0.linkUp true = true →
      ∃ t g, exec (.regReadFrame true f) s = .next t ∧ t.out = .chainUp g :: s.out ∧ g.ty = 0x13 ∧ g.tag = f.tag ∧
        g.dst = 0 ∧ g.payload = leBytes 0 4 ++ leBytes v.toNat 4) ∧
    (f.ty = 0x10 → f.payload.length = 4 → inRegSpace (leNat f.payload) = false →
      ∃ t g, exec (.regReadFrame true f) s = .next t ∧ t.out = .chainUp g :: s.out ∧ g.ty = 0x13 ∧ g.tag = f.tag ∧
        g.payload = leBytes 1 4 ++ leBytes 0 4 ∧
        (t.rd Reg.VCH_REFUSED).toNat = min ((s.rd Reg.VCH_REFUSED).toNat + 1) 0xFFFFFFFF) ∧
    (∀ t0, f.ty = 0x11 → f.payload.length = 8 → inRegSpace (leNat (f.payload.take 4)) = true →
      s.busWrite .chain (leNat (f.payload.take 4)) (BitVec.ofNat 32 (leNat (f.payload.drop 4))) = (t0, .done) →
      t0.out = s.out → t0.linkUp true = true → ∃ t g, exec (.regWriteFrame true f) s = .next t ∧
        t.out = .chainUp g :: s.out ∧ g.ty = 0x13 ∧ g.tag = f.tag ∧ g.payload = leBytes 0 4 ++ leBytes 0 4 ∧
        ∀ r, r ≠ Reg.EVR_DROPQ → t.rd r = t0.rd r) ∧
    (f.ty = 0x11 → f.payload.length = 8 → inRegSpace (leNat (f.payload.take 4)) = true →
      s.busWrite .chain (leNat (f.payload.take 4)) (BitVec.ofNat 32 (leNat (f.payload.drop 4))) = (s, .notOwner) →
      ∃ t g, exec (.regWriteFrame true f) s = .next t ∧ t.out = .chainUp g :: s.out ∧ g.ty = 0x13 ∧
        g.payload = leBytes 2 4 ++ leBytes 0 4 ∧ t.own.last = (4, 2, 0x11, leNat (f.payload.take 4)) ∧
        (t.rd Reg.OWN_REFUSED).toNat = min ((s.rd Reg.OWN_REFUSED).toNat + 1) 0xFFFFFFFF) ∧
    (∀ target token, f.ty = 0x12 → f.payload.length = 16 → ownFields f.payload = (1, target, token, false) →
      s.ownValid 1 target token false = true → s.ownState = 0 → ∃ t g, exec (.ownFrame true f) s = .next t ∧
        t.out = .chainUp g :: s.out ∧ g.ty = 0x13 ∧ g.tag = f.tag ∧ g.payload = leBytes 0 4 ++ leBytes (4 + 16) 4 ∧
        t.owner = 4 ∧ t.ownState = 1 ∧ t.own.token = token)

/-- VSYNC and TIME at a unit of the chain (R532 to R537, R551).
The model's own choices in it: notes/assumptions/50.md. -/
def Obligations.ChainSynchronisation : Prop :=
  ∀ s : State, s.boot.held = .off →
    (s.linkUp true = true → s.vchSync = 0 → ∃ t, exec .vsyncReceive s = .next t ∧ t.vchSync = 1 ∧
      t.chain.tLast = s.vsyncArrival ∧ t.chain.fwd = s.chain.fwd ++ [s.cycle]) ∧
    (s.linkUp true = true → s.vchSync = 1 → 8166667 ≤ s.vsyncArrival - s.chain.tLast →
      s.vsyncArrival - s.chain.tLast ≤ 11333333 → ∃ t, exec .vsyncReceive s = .next t ∧ t.vchSync = 2 ∧
        (t.rd Reg.VCH_PERIOD).toNat = s.vsyncArrival - s.chain.tLast ∧ t.chain.timeOk = true ∧ t.chain.rejRun = 0 ∧
        (t.rd Reg.VCH_SYNCACC).toNat = min ((s.rd Reg.VCH_SYNCACC).toNat + 1) 0xFFFFFFFF) ∧
    (∀ p, s.linkUp true = true → s.vchSync = 2 → (s.rd Reg.VCH_PERIOD).toNat = p →
      s.chain.tLast + s.chain.winK * p + p / 50 < s.vsyncArrival → s.chain.rejRun < 7 →
      ∃ t, exec .vsyncReceive s = .next t ∧ t.vchSync = 2 ∧ t.chain.rejRun = s.chain.rejRun + 1 ∧
        t.chain.tLast = s.chain.tLast ∧
        (t.rd Reg.VCH_SYNCREJ).toNat = min ((s.rd Reg.VCH_SYNCREJ).toNat + 1) 0xFFFFFFFF) ∧
    (s.linkUp true = false → exec .vsyncReceive s = .next s.settle) ∧
    (∀ c rest, s.chain.fwd = c :: rest → c + 48 ≤ s.cycle → s.linkUp false = true → ∃ t, exec .vsyncForward s = .next t ∧
      t.out = .vsyncDn :: s.out ∧ t.chain.fwd = rest) ∧
    (∀ p, s.vchSync = 2 → (s.rd Reg.VCH_PERIOD).toNat = p →
      s.chain.tLast + s.chain.winK * p + p / 50 < s.vsyncArrival → s.chain.rejRun < 7 →
      ∃ t, exec .vsyncWindowClose s = .next t ∧ t.vchSync = 2 ∧ t.chain.winK = s.chain.winK + 1 ∧
        t.chain.rejRun = s.chain.rejRun + 1) ∧
    (∀ p, s.vchSync = 2 → (s.rd Reg.VCH_PERIOD).toNat = p →
      s.chain.tLast + s.chain.winK * p + p / 50 < s.vsyncArrival → s.chain.rejRun = 7 →
      ∃ t, exec .vsyncWindowClose s = .next t ∧ t.vchSync = 3 ∧ t.fget Reg.VCH_EVT_STAT_HOLD = 1 ∧
        (t.rd Reg.VCH_HOLDS).toNat = min ((s.rd Reg.VCH_HOLDS).toNat + 1) 0xFFFFFFFF) ∧
    (∀ stamp ms, s.chain.timeDue = some (stamp, ms) → s.vchSync = 4 → s.linkUp false = true →
      ∃ t g, exec .timeSend s = .next t ∧ t.chain.timeDue = none ∧ t.out = .chainDn g :: s.out ∧ g.ty = 5 ∧ g.dst = 127 ∧
        g.payload = leBytes stamp 8 ++ leBytes ms 8 ++ leBytes s.chain.emitted 4 ++ leBytes 0 4) ∧
    (∀ m, ∃ t, exec (.vchTrefRead m) s = .next t ∧ t.out = .regRead (BitVec.ofNat 32 s.chain.tref.1) :: s.out ∧
      t.rd Reg.VCH_TREF_MLO = BitVec.ofNat 32 s.chain.tref.1 ∧
      t.rd Reg.VCH_TREF_MHI = BitVec.ofNat 32 (s.chain.tref.1 / 2 ^ 32) ∧
      t.rd Reg.VCH_TREF_TLO = BitVec.ofNat 32 s.chain.tref.2.1 ∧ t.rd Reg.VCH_TREF_OLO = BitVec.ofNat 32 s.chain.tref.2.2)


/-! ### Power, temperature, loading and restoring -/

/-- The PMU's tick (R559 to R566) and diode conversions (R564).
The model's own choices in it: notes/assumptions/33.md. -/
def Obligations.PowerTickAndTemperatures : Prop :=
  ∀ s : State, s.boot.held = .off →
    (∀ rails d0 d1 d2 d3 d4 d5 vmot vdda, ∃ t, exec (.pmuTick rails d0 d1 d2 d3 d4 d5 vmot vdda) s = .next t ∧
      t.pow.ticks = s.pow.ticks + 1 ∧ t.fget Reg.PMU_VMOT_MV = min vmot 65535 ∧ t.fget Reg.PMU_VDDA_MV = min 65535 vdda ∧
      t.fget Reg.PMU_POWER_P = min 65535 (devicePower rails) ∧
      t.pow.vmotRun = (if 9000 ≤ vmot then s.pow.vmotRun + 1 else 0)) ∧
    (∀ rails vmot vdda, (s.tthr : Int) * 16 ≤ s.composite → 3 ≤ s.pow.hot → s.fbit Reg.PMU_PSTATE_THROT = false →
      ∃ t, exec (.pmuTick rails none none none none none none vmot vdda) s = .next t ∧ t.fget Reg.PMU_PSTATE_THROT = 1 ∧
        t.fget Reg.PMU_TCOMP_VALID = 0 ∧
        (t.rd Reg.PMU_THROTS).toNat = min ((s.rd Reg.PMU_THROTS).toNat + 1) 0xFFFFFFFF) ∧
    (∀ rails d0 d1 d2 d3 d4 d5 vmot vdda, s.fget Reg.PMU_PSTATE_PEAK = 0 → s.psus * 100 < devicePower rails →
      devicePower rails ≤ s.ppeak * 100 →
      ∃ t, exec (.pmuTick rails d0 d1 d2 d3 d4 d5 vmot vdda) s = .next t ∧ t.fget Reg.PMU_PSTATE_PEAK = 1 ∧
        (t.rd Reg.PMU_PEAKS).toNat = min ((s.rd Reg.PMU_PEAKS).toNat + 1) 0xFFFFFFFF) ∧
    (∀ rails d0 d1 d2 d3 d4 d5 vmot vdda, s.fget Reg.PMU_PSTATE_PEAK ≤ 1 → s.ppeak * 100 < devicePower rails →
      ∃ t, exec (.pmuTick rails d0 d1 d2 d3 d4 d5 vmot vdda) s = .next t ∧ t.fget Reg.PMU_PSTATE_PEAK = 2 ∧
        t.fget Reg.PMU_CAPS_PCT = min s.pctMax s.rpct ∧ t.fget Reg.PMU_EVT_STAT_RECOV = 1 ∧
        ∀ n : Fin 4, t.fget (Reg.RWCn_PEAK_GRANT n) = 0) ∧
    (∀ (k : Fin 4) (x : Int), -880 ≤ x → x ≤ 2400 → sparseFind k.val s.pow.diode = none →
      ∃ t, exec (.diodeConversion k (some x)) s = .next t ∧ t.fget (Reg.PMU_TDn_T k) = (BitVec.ofInt 16 x).toNat ∧
        t.fget (Reg.PMU_TDn_VALID k) = 1) ∧
    (∀ k : Fin 4, ∃ t, exec (.diodeConversion k none) s = .next t ∧ t.fget (Reg.PMU_TDn_T k) = s.fget (Reg.PMU_TDn_T k) ∧
      (t.rd Reg.PMU_TDINV).toNat = min ((s.rd Reg.PMU_TDINV).toNat + 1) 0xFFFFFFFF) ∧
    (∀ k : Fin 4, sparseFind k.val s.pow.diodeBad = some 7 → ∃ t, exec (.diodeConversion k none) s = .next t ∧
      t.fget (Reg.PMU_TDn_FAIL k) = 1)

/-- Power states (R553 to R558): the transitions, self-refresh, requests and the choice of PS1.
The model's own choices in it: notes/assumptions/33.md, 44.md. -/
def Obligations.PowerStates : Prop :=
  ∀ s : State, s.boot.held = .off →
    (s.pow.moving = none → s.eps = 4 → s.psGoal < 4 → ∃ t, exec .powerStateTransition s = .next t ∧ t.eps = 3 ∧
      t.pow.selfRef = false) ∧
    (s.pow.moving = none → s.eps = 3 → s.psGoal = 4 → ∃ t, exec .powerStateTransition s = .next t ∧ t.eps = 4 ∧
      t.pow.selfRef = true) ∧
    (s.pow.moving = none → s.eps = 1 → s.psGoal = 0 → ∃ t, exec .powerStateTransition s = .next t ∧ t.eps = 0) ∧
    (s.pow.moving = some 3 → s.smcState = 0 → ∃ t, exec .powerStateTransition s = .next t ∧ t.eps = 3 ∧ t.pow.moving = none) ∧
    (s.pow.moving = some 3 → s.smcState ≠ 0 → ∃ t, exec .powerStateTransition s = .next t ∧ t.eps = s.eps ∧ t.pow = s.pow) ∧
    (s.pow.moving = some 2 → s.eps = 3 → s.smcState = 6 → ∃ t, exec .powerStateTransition s = .next t ∧ t.eps = 2) ∧
    (∀ a c ps, s.recov.stopped = false → s.pow.moving = none → s.eps = s.psGoal → s.pow.reqs = [(ps, some a)] →
      s.ctx a = some c → c.status = none → ∃ t, exec .powerStateTransition s = .next t ∧ t.statusOf a = some St.success ∧
        t.pow.reqs = []) ∧
    (s.eps = 4 → ∃ t, exec .ps4Wake s = .next t ∧ t.pow.selfRef = false ∧ t.eps = 4) ∧
    (s.eps ≠ 4 → exec .ps4Wake s = .next s.settle) ∧
    (s.eps = 4 → s.pow.selfRef = false → s.pow.refTick + 1000 ≤ s.pow.ticks → ∃ t, exec .selfRefreshReturn s = .next t ∧
      t.pow.selfRef = true) ∧
    (∀ c w, wordBits w 2 0 ≤ 4 → ∃ t, exec (.pmuPstateReqWrite (.core c) w) s = .next t ∧ t.psReq = wordBits w 2 0 ∧
      t.eps = s.eps) ∧
    (∀ m w, (∀ c, m ≠ .core c) → m ≠ .jtag → ∃ t, exec (.pmuPstateReqWrite m w) s = .next t ∧
      ∀ r, r ≠ Reg.EVR_DROPQ → t.rd r = s.rd r) ∧
    (∀ k c, s.pow.choiceDue.get k = true → s.pow.choiceAt.get k = some c → c + 64 * 2 ^ 32 ≤ s.stamp → s.inPs1 = true →
      (∀ a, s.pow.choice.get k = some a → s.fbit (Reg.SCE_PAIRn_INJ0_EN a) = false) →
      ∃ t, exec (.ps1ChoiceHoldoffEnd k) s = .next t ∧ t.pow.choice.get k = s.ps1Best k ∧ t.pow.choiceDue.get k = false)

/-- Loading and restoring actuators, and a medium that does not become ready (R570 to R572, R583, R585, R586).
The model's own choices in it: notes/assumptions/20.md, 59.md, 60.md. -/
def Obligations.ActuatorsLoadAndRestore : Prop :=
  ∀ (s : State) (n : Fin 4), s.boot.held = .off →
    (s.msc.avail.get n = .degraded → (s.pair.get n).law = 3 → s.pairImpaired n = false →
      s.msc.escStamp.get n + s.dpi.restore * 2 ^ 32 ≤ s.stamp → ∃ t, exec (.actuatorRestore n) s = .next t ∧
        t.msc.avail.get n = .available) ∧
    (s.msc.avail.get n = .degraded → (s.pair.get n).law = 3 → s.pairImpaired n = true →
      ∃ t, exec (.actuatorRestore n) s = .next t ∧ t.msc.avail.get n = .degraded) ∧
    (s.msc.avail.get n = .degraded → (s.pair.get n).law = 4 → (s.pair.get n).lateAt = none →
      (s.pair.get n).since + s.dpi.restore * 2 ^ 32 ≤ s.stamp → ∃ t, exec (.actuatorRestore n) s = .next t ∧
        (t.pair.get n).resumeReq = true) ∧
    (s.msc.avail.get n = .out → s.msc.trial.get n = none → s.msc.outCause.get n = some .overrun →
      s.msc.escStamp.get n + s.dpi.restore * 2 ^ 32 ≤ s.stamp → s.msc.restoreTries.get n < s.dpi.outRetry →
      s.recov.stopped = false → s.eps = 0 → s.pow.moving = none → s.smcState = 6 → s.retracting n = false →
      (s.pair.get n).law = 0 → s.engState n 0 = 2 → ∃ t, exec (.outRestoreAttempt n) s = .next t ∧
        t.msc.trial.get n = some s.stamp ∧ t.msc.restoreTries.get n = s.msc.restoreTries.get n + 1 ∧
        (t.pair.get n).loadReq = true ∧ t.msc.avail.get n = .out) ∧
    (s.msc.avail.get n = .out → s.msc.trial.get n = none → s.msc.outCause.get n = some .escape →
      ∃ t, exec (.outRestoreAttempt n) s = .next t ∧ t.msc = s.msc ∧ t.pair = s.pair) ∧
    (∀ c, s.msc.avail.get n = .out → s.msc.trial.get n = some c → (s.pair.get n).badAt = none → (s.pair.get n).law = 3 →
      c + 64 * 2 ^ 32 ≤ s.stamp → ∃ t, exec (.outRestoreAttempt n) s = .next t ∧ t.msc.avail.get n = .degraded ∧
        t.msc.trial.get n = none ∧ t.msc.outCause.get n = none) ∧
    (s.msc.avail.get n = .parked → (s.pair.get n).law = 0 → s.eps = 0 → s.pow.moving = none → s.smcState = 6 →
      s.fbit Reg.ATB_STATUS_QUAL = true → s.retracting n = false → s.recov.stopped = false → s.actEnabled n = true →
      s.engState n 0 = 2 → ∃ t, exec (.actuatorLoad n) s = .next t ∧ (t.pair.get n).loadReq = true) ∧
    (s.msc.avail.get n = .out ∨ s.recov.stopped = true ∨ s.smcState ≠ 6 → ∃ t, exec (.actuatorLoad n) s = .next t ∧
      t.pair = s.pair) ∧
    (s.recov.stopped = false → s.smc.spun = true → s.pow.firstAct = Duo.all none → s.actEnabled 0 = true →
      s.msc.avail.get 0 ≠ .out → (s.pair.get 0).law = 0 → s.engState 0 0 = 2 → ∃ t, exec .firstLoads s = .next t ∧
        t.smc.spun = false ∧ t.pow.firstAct.get 0 = some 0 ∧ (t.pair.get 0).loadReq = true) ∧
    (∀ a c, s.recov.stopped = false → s.mediaReady = false → s.ctx a = some c → 0 < c.media → c.status = none →
      c.admitCycle + 60 * 10 ^ 9 ≤ s.cycle →
      ∃ t, exec (.mediaNotReadyTimeout a) s = .next t ∧ t.statusOf a = some St.notReady) ∧
    (s.firstBegun = true → (∀ k, s.loadFailed k = true) → s.firstNext 0 = none → s.firstNext 1 = none → ∃ t, exec .startUpMediaFailure s = .next t ∧
      t.eps = 3 ∧ t.pow.spinFail = true) ∧
    (s.fget Reg.SYS_BOOT_MODE = 1 → s.fget Reg.SYS_BOOT_STEP = 11 → s.recov.sysTry = none → ∃ t,
      exec (.systemAreaReadRetry true) s = .next t ∧
      t.fget Reg.SYS_BOOT_STEP = 12 ∧ t.recov.sysDe = [] ∧ t.recov.faultRecs = [] ∧ t.recov.sysRmt = []) ∧
    (∀ c, s.fget Reg.SYS_BOOT_MODE = 1 → s.fget Reg.SYS_BOOT_STEP = 11 → s.recov.sysTry = some c → c + 60 * 10 ^ 9 ≤ s.cycle → ∃ t,
      exec (.systemAreaReadRetry true) s = .next t ∧
      t.fget Reg.SYS_BOOT_STEP = 12 ∧ t.recov.sysDe = [] ∧ t.recov.faultRecs = [] ∧ t.recov.sysRmt = []) ∧
    (s.fget Reg.SYS_BOOT_MODE = 1 → s.fget Reg.SYS_BOOT_STEP = 11 → s.recov.sysTry = none → ∃ t,
      exec (.systemAreaReadRetry false) s = .next t ∧
      t.fget Reg.SYS_BOOT_STEP = 11 ∧ t.recov = { s.recov with sysTry := some s.cycle }) ∧
    (∀ c ok, s.recov.sysTry = some c → s.cycle < c + 60 * 10 ^ 9 → ∃ t, exec (.systemAreaReadRetry ok) s = .next t ∧
      t.recov = s.recov ∧ t.fget Reg.SYS_BOOT_STEP = s.fget Reg.SYS_BOOT_STEP)


/-! ### SMBus, pins and JTAG -/

/-- Messages over SMBus (R539, R540) and what the pins bring (R609, R610, R626, R628). The layouts and the codes of MCTP, NVMe-MI and
IEEE 1149.1 are the model's (PRESUMED, notes/assumptions/32.md).
The model's own choices in it: notes/assumptions/64.md, 65.md. -/
def Obligations.ManagementAndPins : Prop :=
  ∀ s : State,
    (s.boot.held = .off →
      (∃ t l, exec .smbusBasicManagementRead s = .next t ∧ t.out = .mi none 0 l :: s.out ∧ l.length = 32 ∧
        l.getD 3 0#8 = BitVec.ofNat 8 s.tempByte) ∧
      (∀ eid : Fin 256, 8 ≤ eid.val → eid.val ≤ 254 → ∃ t l, exec (.mctpSetEndpointId eid) s = .next t ∧
        t.mctp.eid = eid.val ∧ t.out = .mi none 0 l :: s.out) ∧
      (∀ eid : Fin 256, eid.val < 8 → ∃ t, exec (.mctpSetEndpointId eid) s = .next t ∧ t.mctp.eid = s.mctp.eid) ∧
      (∃ t l, exec .mctpGetEndpointId s = .next t ∧ t.out = .mi none 0 l :: s.out ∧
        l.getD 1 0#8 = BitVec.ofNat 8 s.mctp.eid) ∧
      (∃ t l, exec .mctpGetVersionSupport s = .next t ∧ t.out = .mi none 0 l :: s.out ∧ l.getD 0 0#8 = 0#8) ∧
      (∃ t, exec .mctpGetMessageTypeSupport s = .next t ∧ t.out = .mi none 0 [0#8, 1#8, 4#8] :: s.out) ∧
      (∀ len, ∃ t l, exec (.miReadDataStructure len) s = .next t ∧ t.out = .mi none 0 l :: s.out ∧ l.length = len) ∧
      (∃ t l, exec .miSubsystemHealthPoll s = .next t ∧ t.out = .mi none 0 l :: s.out ∧
        l.getD 2 0#8 = BitVec.ofNat 8 s.tempByte) ∧
      (∃ t l, exec .miControllerHealthPoll s = .next t ∧ t.out = .mi none 0 l :: s.out ∧
        l.length = 16 * s.controllers.length) ∧
      (∃ t, exec (.miConfigurationGet 1) s = .next t ∧ t.out = .mi none 0 (leBytes s.mctp.freq 3) :: s.out) ∧
      (∀ id : Fin 256, id ≠ 1 → id ≠ 3 → ∃ t, exec (.miConfigurationGet id) s = .next t ∧
        t.out = .mi none miInvalid [] :: s.out) ∧
      (∀ v, v = 1 ∨ v = 2 → ∃ t, exec (.miConfigurationSet 1 v) s = .next t ∧ t.mctp.freq = v ∧
        t.out = .mi none 0 [] :: s.out) ∧
      (∀ len, ∃ t l, exec (.miVpdRead len) s = .next t ∧ t.out = .mi none 0 l :: s.out ∧ l.length = len) ∧
      (∃ t l, exec .miGetState s = .next t ∧ t.out = .mi none 0 l :: s.out ∧ l.length = 2) ∧
      (∃ t l, exec .miAbort s = .next t ∧ t.out = .mi none 0 l :: s.out ∧ t.host = s.host) ∧
      (∀ e : Sqe, e.opc ∈ tunnelled → (e.opc = 0x09 → wordBits e.cdw10 7 0 ∈ [0x0E, 0xC0]) → ∃ t, exec (.miTunnelledAdmin e) s = .next t ∧
        t.host.nextArr = s.host.nextArr + 1 ∧
        ∃ c ∈ t.host.ctxs, c.arr = s.host.nextArr ∧ c.smbus = true ∧ c.sqe = e ∧ c.ctrl = 0 ∧ c.status = none) ∧
      (∀ e : Sqe, e.opc ∉ tunnelled → s.recov.stopped = false → (∀ x ∈ s.host.ctxs, x.arr ≠ s.host.nextArr) →
        ∃ t, exec (.miTunnelledAdmin e) s = .next t ∧ t.statusOf s.host.nextArr = some St.invalidOpcode) ∧
      (∀ e : Sqe, e.opc = 0x09 → wordBits e.cdw10 7 0 ∉ [0x0E, 0xC0] → s.recov.stopped = false →
        (∀ x ∈ s.host.ctxs, x.arr ≠ s.host.nextArr) → ∃ t, exec (.miTunnelledAdmin e) s = .next t ∧
        t.statusOf s.host.nextArr = some St.invalidField) ∧
      exec .smbusBusTimeout s = .next s.settle ∧
      (∀ (k : Fin 32) level held, 64 ≤ held → ∃ t, exec (.gpioInputChange k level held) s = .next t ∧
        t.fget (Reg.SYS_GPIO_CFGn_IN k) = if level then 1 else 0) ∧
      (∀ (k : Fin 32) level held, held < 64 → exec (.gpioInputChange k level held) s = .next s.settle) ∧
      (∀ ch framed, s.jtagPermitted = false ∨ framed = true → exec (.uartRxCharacter ch framed) s = .next s.settle) ∧
      (∀ ch, s.jtagPermitted = true → ∃ t, exec (.uartRxCharacter ch false) s = .next t ∧
        t.pow = { s.pow with uartErr := s.pow.uartErr + 1 })) ∧
    (∃ t, exec .jtagBypass s = .next t ∧ t.boot.jtag = .bypass ∧ t.out = .tdo 0 :: s.out) ∧
    (∃ t v, exec .jtagIdcode s = .next t ∧ t.boot.jtag = .idcode ∧ t.out = .tdo v :: s.out ∧ v % 2 = 1) ∧
    (∀ pins shift, ∃ t, exec (.jtagSamplePreload pins shift) s = .next t ∧ t.boot.jtag = .sample ∧ t.boot.bsr = shift ∧
      t.out = .tdo pins :: s.out) ∧
    (∀ pins shift, ∃ t, exec (.jtagExtest pins shift) s = .next t ∧ t.boot.jtag = .extest ∧ t.boot.bsr = shift ∧
      t.out = .tdo pins :: s.out) ∧
    (∃ t, exec .jtagHighz s = .next t ∧ t.boot.jtag = .highz ∧ t.out = .tdo 0 :: s.out) ∧
    (∃ t, exec .jtagClamp s = .next t ∧ t.boot.jtag = .clamp ∧ t.boot.bsr = s.boot.bsr ∧ t.out = .tdo 0 :: s.out)


/-! ### Frames of the whole machine -/

/-- No command changes the queue of waiting commands. -/
def Obligations.QueueBelongsToStep : Prop := ∀ (c : Instr) (s t : State), exec c s = .next t → t.pending = s.pending

/-- What the commands leave unchanged, unit by unit. Only resets, accesses to an address the command names, and the commands of the
unit's own list change memory, the keys, the control store, OTP and flash, or the SMBus endpoint; the DPI in force changes with
a reset only, and no other command moves a held expert value but the choice of a mode profile (R22).
The model's own choices in it: notes/assumptions/48.md. -/
def Obligations.UnitFrames : Prop :=
  ∀ (c : Instr) (s t : State), exec c s = .next t → reachesAll c = false →
    (storesMemory c = false → t.mem = s.mem) ∧ (changesKeys c = false → t.xts = s.xts) ∧
    (changesControlStore c = false → t.cs = s.cs) ∧ (changesChip c = false → t.boot = s.boot) ∧
    (changesMctp c = false → t.mctp = s.mctp) ∧ t.dpi = s.dpi ∧ t.dpiOn = s.dpiOn ∧
    ((∀ a, c ≠ .setFeaturesModeProfile a) → t.held = s.held)

/-- The commands of the list write no register; EVR_DROPQ counts the offers that any command's events lose (R501). Others
leave every register but the few of the rule they follow. -/
def Obligations.RegistersLeftAlone : Prop :=
  (∀ (c : Instr) (s t : State), exec c s = .next t → writesNoRegister c = true → ∀ r, r ≠ Reg.EVR_DROPQ → t.rd r = s.rd r) ∧
  ∀ (s t : State) (r : Nat), r ≠ Reg.EVR_DROPQ →
    (∀ m w, exec (.smcSetptWrite m w) s = .next t → r ≠ Reg.SMC_SETPT → r ≠ Reg.SMC_STATUS → r ≠ Reg.SMC_TRIM →
      t.rd r = s.rd r) ∧
    (∀ m (u : Fin 2), exec (.captureArm m u) s = .next t → r ≠ Reg.SVD_CAPn_STAT u → r ≠ Reg.SVD_CAPn_NEXT u →
      t.rd r = s.rd r) ∧
    (∀ m (l : Fin 8) (k : Fin 48) w, exec (.evrListWrite m l k w) s = .next t → r ≠ Reg.EVR_LIST_n_i l k → t.rd r = s.rd r) ∧
    (∀ m w, exec (.evrCtrlClear m w) s = .next t → r ≠ Reg.EVR_STATUS → t.rd r = s.rd r) ∧
    (∀ m w, exec (.evrCtrlUnfreeze m w) s = .next t → r ≠ Reg.EVR_STATUS → t.rd r = s.rd r) ∧
    (∀ (k : Fin 4) v, exec (.diodeConversion k v) s = .next t → r ≠ Reg.PMU_TDn k → r ≠ Reg.PMU_TDINV →
      r ≠ Reg.PMU_EVT_STAT → t.rd r = s.rd r) ∧
    (∀ sub deg, exec (.dramRefresh sub deg) s = .next t → r ≠ Reg.MEM_STATUS → t.rd r = s.rd r) ∧
    (∀ m w, exec (.fmrArm m w) s = .next t → r ≠ Reg.MEM_FMR_CTRL → t.rd r = s.rd r) ∧
    (∀ m dram (i : Fin 32) w, exec (.rmtEntryWrite m dram i w) s = .next t → r ≠ rmtReg dram i.val → t.rd r = s.rd r) ∧
    (∀ (k : Fin 32) level held, exec (.gpioInputChange k level held) s = .next t → r ≠ Reg.SYS_GPIO_CFGn k → t.rd r = s.rd r) ∧
    (∀ e, exec (.miTunnelledAdmin e) s = .next t → r ≠ Reg.HQE_ARRIVAL_LO → r ≠ Reg.HQE_CTX_FREE → r ≠ Reg.HQE_CTX_LOW →
      r ≠ Reg.HQE_STALL_CTX → r ≠ Reg.HQE_STALL_CQ → t.rd r = s.rd r) ∧
    (∀ m w, exec (.pmuPstateReqWrite m w) s = .next t → r ≠ Reg.PMU_PSTATE → t.rd r = s.rd r) ∧
    (∀ m n, exec (.svdPosRead m n) s = .next t → r ≠ Reg.SVDn_POS_HI n → t.rd r = s.rd r) ∧
    (∀ m, exec (.hqeArrivalRead m) s = .next t → r ≠ Reg.HQE_ARRIVAL_HI → t.rd r = s.rd r)
end

