-- ==== Sys2Proof/Laws/Sparse.lean ====
section
/-!
SUPPORT. Sys2Proof/Laws/Sparse.lean: a sparse store reads back what was set, keeps every other key, and stays in its canonical
form.
-/
namespace Sys2Proof.Machine

variable {V : Type}

@[simp] theorem sparseFind_insert_same (k : Nat) (v : V) (l : List (Nat × V)) :
    sparseFind k (sparseInsert k v l) = some v := by
  induction l with
  | nil => simp [sparseInsert, sparseFind]
  | cons p t ih =>
    obtain ⟨j, w⟩ := p
    simp only [sparseInsert]
    split_ifs <;> simp_all [sparseFind]

theorem sparseFind_insert_ne {k k' : Nat} (h : k' ≠ k) (v : V) (l : List (Nat × V)) :
    sparseFind k' (sparseInsert k v l) = sparseFind k' l := by
  induction l with
  | nil => simp [sparseInsert, sparseFind, h.symm]
  | cons p t ih =>
    obtain ⟨j, w⟩ := p
    simp only [sparseInsert]
    split_ifs with h1 h2
    · simp [sparseFind, h.symm]
    · subst h2; simp [sparseFind, h.symm]
    · simp [sparseFind, ih]

@[simp] theorem sparseFind_erase_same (k : Nat) (l : List (Nat × V)) : sparseFind k (sparseErase k l) = none := by
  induction l with
  | nil => rfl
  | cons p t ih =>
    obtain ⟨j, w⟩ := p
    simp only [sparseErase]
    split_ifs with h <;> simp_all [sparseFind]

theorem sparseFind_erase_ne {k k' : Nat} (h : k' ≠ k) (l : List (Nat × V)) :
    sparseFind k' (sparseErase k l) = sparseFind k' l := by
  induction l with
  | nil => rfl
  | cons p t ih =>
    obtain ⟨j, w⟩ := p
    simp only [sparseErase]
    split_ifs with h1
    · subst h1; simp [sparseFind, h.symm, ih]
    · simp [sparseFind, ih]

@[simp] theorem sparseGet_set_same [DecidableEq V] (d : Nat → V) (l : List (Nat × V)) (k : Nat) (v : V) :
    sparseGet d (sparseSet d l k v) k = v := by
  unfold sparseGet sparseSet
  split_ifs with h <;> simp [h]

theorem sparseGet_set_ne [DecidableEq V] (d : Nat → V) (l : List (Nat × V)) {k k' : Nat} (h : k' ≠ k) (v : V) :
    sparseGet d (sparseSet d l k v) k' = sparseGet d l k' := by
  unfold sparseGet sparseSet
  split_ifs <;> simp [sparseFind_insert_ne h, sparseFind_erase_ne h]

theorem sparseRises_weaken {b c : Nat} (hbc : b ≤ c) (l : List (Nat × V)) (h : sparseRises (some c) l = true) :
    sparseRises (some b) l = true := by
  cases l with
  | nil => rfl
  | cons p t =>
    obtain ⟨j, w⟩ := p
    simp only [sparseRises, Bool.and_eq_true, decide_eq_true_eq] at h ⊢
    exact ⟨by omega, h.2⟩

theorem sparseRises_none_of_some {b : Nat} (l : List (Nat × V)) (h : sparseRises (some b) l = true) :
    sparseRises none l = true := by
  cases l with
  | nil => rfl
  | cons p t => obtain ⟨j, w⟩ := p; simp only [sparseRises, Bool.and_eq_true] at h ⊢; exact h.2

theorem sparseRises_insert_some (b k : Nat) (v : V) (l : List (Nat × V)) (hb : b < k) (h : sparseRises (some b) l = true) :
    sparseRises (some b) (sparseInsert k v l) = true := by
  induction l generalizing b with
  | nil => simp [sparseInsert, sparseRises, hb]
  | cons p t ih =>
    obtain ⟨j, w⟩ := p
    simp only [sparseRises, Bool.and_eq_true, decide_eq_true_eq] at h
    simp only [sparseInsert]
    split_ifs with h1 h2
    · simp [sparseRises, hb, h1, h.2]
    · subst h2; simp [sparseRises, h.1, h.2]
    · simp only [sparseRises, Bool.and_eq_true, decide_eq_true_eq]
      exact ⟨h.1, ih j (by omega) h.2⟩

theorem sparseRises_insert (k : Nat) (v : V) (l : List (Nat × V)) (h : sparseRises none l = true) :
    sparseRises none (sparseInsert k v l) = true := by
  cases l with
  | nil => rfl
  | cons p t =>
    obtain ⟨j, w⟩ := p
    simp only [sparseRises] at h
    simp only [sparseInsert]
    split_ifs with h1 h2
    · simp [sparseRises, h1, h]
    · subst h2; simp [sparseRises, h]
    · simp only [sparseRises]
      exact sparseRises_insert_some j k v t (by omega) h

theorem sparseRises_erase_some (b k : Nat) (l : List (Nat × V)) (h : sparseRises (some b) l = true) :
    sparseRises (some b) (sparseErase k l) = true := by
  induction l generalizing b with
  | nil => rfl
  | cons p t ih =>
    obtain ⟨j, w⟩ := p
    simp only [sparseRises, Bool.and_eq_true, decide_eq_true_eq] at h
    simp only [sparseErase]
    split_ifs with h1
    · exact ih b (sparseRises_weaken (by omega) t h.2)
    · simp only [sparseRises, Bool.and_eq_true, decide_eq_true_eq]
      exact ⟨h.1, ih j h.2⟩

theorem sparseRises_erase (k : Nat) (l : List (Nat × V)) (h : sparseRises none l = true) :
    sparseRises none (sparseErase k l) = true := by
  cases l with
  | nil => rfl
  | cons p t =>
    obtain ⟨j, w⟩ := p
    simp only [sparseRises] at h
    simp only [sparseErase]
    split_ifs with h1
    · exact sparseRises_none_of_some _ (sparseRises_erase_some j k t h)
    · simp only [sparseRises]; exact sparseRises_erase_some j k t h

theorem sparseLean_insert [DecidableEq V] (d : Nat → V) (k : Nat) (v : V) (l : List (Nat × V)) (hv : v ≠ d k)
    (h : sparseLean d l = true) : sparseLean d (sparseInsert k v l) = true := by
  induction l with
  | nil => simp [sparseInsert, sparseLean, hv]
  | cons p t ih =>
    obtain ⟨j, w⟩ := p
    simp only [sparseLean, Bool.and_eq_true, decide_eq_true_eq] at h
    simp only [sparseInsert]
    split_ifs with h1 h2
    · simp [sparseLean, hv, h.1, h.2]
    · simp [sparseLean, hv, h.2]
    · simp [sparseLean, h.1, ih h.2]

theorem sparseLean_erase [DecidableEq V] (d : Nat → V) (k : Nat) (l : List (Nat × V)) (h : sparseLean d l = true) :
    sparseLean d (sparseErase k l) = true := by
  induction l with
  | nil => rfl
  | cons p t ih =>
    obtain ⟨j, w⟩ := p
    simp only [sparseLean, Bool.and_eq_true, decide_eq_true_eq] at h
    simp only [sparseErase]
    split_ifs
    · exact ih h.2
    · simp [sparseLean, h.1, ih h.2]

/-- Setting a key keeps the canonical form. -/
theorem sparseWf_set [DecidableEq V] (d : Nat → V) (l : List (Nat × V)) (k : Nat) (v : V) (h : sparseWf d l = true) :
    sparseWf d (sparseSet d l k v) = true := by
  simp only [sparseWf, Bool.and_eq_true] at h ⊢
  unfold sparseSet
  split_ifs with hv
  · exact ⟨sparseRises_erase k l h.1, sparseLean_erase d k l h.2⟩
  · exact ⟨sparseRises_insert k v l h.1, sparseLean_insert d k v l hv h.2⟩

theorem sparseRises_filter_some (b : Nat) (f : Nat × V → Bool) (l : List (Nat × V)) (h : sparseRises (some b) l = true) :
    sparseRises (some b) (l.filter f) = true := by
  induction l generalizing b with
  | nil => rfl
  | cons p t ih =>
    obtain ⟨j, w⟩ := p
    simp only [sparseRises, Bool.and_eq_true, decide_eq_true_eq] at h
    simp only [List.filter]
    split
    · simp only [sparseRises, Bool.and_eq_true, decide_eq_true_eq]; exact ⟨h.1, ih j h.2⟩
    · exact ih b (sparseRises_weaken (by omega) t h.2)

theorem sparseRises_filter (f : Nat × V → Bool) (l : List (Nat × V)) (h : sparseRises none l = true) :
    sparseRises none (l.filter f) = true := by
  cases l with
  | nil => rfl
  | cons p t =>
    obtain ⟨j, w⟩ := p
    simp only [sparseRises] at h
    simp only [List.filter]
    split
    · simp only [sparseRises]; exact sparseRises_filter_some j f t h
    · exact sparseRises_none_of_some _ (sparseRises_filter_some j f t h)

theorem sparseLean_filter [DecidableEq V] (d : Nat → V) (f : Nat × V → Bool) (l : List (Nat × V)) (h : sparseLean d l = true) :
    sparseLean d (l.filter f) = true := by
  induction l with
  | nil => rfl
  | cons p t ih =>
    obtain ⟨j, w⟩ := p
    simp only [sparseLean, Bool.and_eq_true, decide_eq_true_eq] at h
    simp only [List.filter]
    split
    · simp [sparseLean, h.1, ih h.2]
    · exact ih h.2

/-- Dropping entries keeps the canonical form. -/
theorem sparseWf_filter [DecidableEq V] (d : Nat → V) (f : Nat × V → Bool) (l : List (Nat × V)) (h : sparseWf d l = true) :
    sparseWf d (l.filter f) = true := by
  simp only [sparseWf, Bool.and_eq_true] at h ⊢
  exact ⟨sparseRises_filter f l h.1, sparseLean_filter d f l h.2⟩

end Sys2Proof.Machine
end

