-- ==== Sys2Proof/Laws/Registers.lean ====
section
/-!
SUPPORT. Sys2Proof/Laws/Registers.lean: registers and their fields read back what was put, and no other register or field
changes.
-/
namespace Sys2Proof.Machine

theorem putBits_lt {x hi lo v : Nat} (hx : x < 2 ^ 32) (hl : lo ≤ hi) (hh : hi ≤ 31) : putBits x hi lo v < 2 ^ 32 := by
  unfold putBits
  have e : 2 ^ 32 = 2 ^ (31 - hi) * 2 ^ (hi + 1) := by rw [← pow_add]; congr 1; omega
  have e2 : 2 ^ (hi + 1) = 2 ^ (hi + 1 - lo) * 2 ^ lo := by rw [← pow_add]; congr 1; omega
  have hq : x / 2 ^ (hi + 1) < 2 ^ (31 - hi) := by
    rw [Nat.div_lt_iff_lt_mul (by positivity)]; omega
  have hv : v % 2 ^ (hi + 1 - lo) < 2 ^ (hi + 1 - lo) := Nat.mod_lt _ (by positivity)
  have hm : x % 2 ^ lo < 2 ^ lo := Nat.mod_lt _ (by positivity)
  have h1 : v % 2 ^ (hi + 1 - lo) * 2 ^ lo + x % 2 ^ lo < 2 ^ (hi + 1) := by
    rw [e2]
    calc _ < v % 2 ^ (hi + 1 - lo) * 2 ^ lo + 2 ^ lo := by omega
      _ = (v % 2 ^ (hi + 1 - lo) + 1) * 2 ^ lo := by ring
      _ ≤ _ := Nat.mul_le_mul_right _ hv
  calc _ < x / 2 ^ (hi + 1) * 2 ^ (hi + 1) + 2 ^ (hi + 1) := by omega
    _ = (x / 2 ^ (hi + 1) + 1) * 2 ^ (hi + 1) := by ring
    _ ≤ 2 ^ (31 - hi) * 2 ^ (hi + 1) := Nat.mul_le_mul_right _ hq
    _ = 2 ^ 32 := e.symm

theorem bitsOf_putBits_same {x hi lo v : Nat} (hl : lo ≤ hi) : bitsOf (putBits x hi lo v) hi lo = v % 2 ^ (hi + 1 - lo) := by
  unfold bitsOf putBits
  have e2 : 2 ^ (hi + 1) = 2 ^ (hi + 1 - lo) * 2 ^ lo := by rw [← pow_add]; congr 1; omega
  have hm : x % 2 ^ lo < 2 ^ lo := Nat.mod_lt _ (by positivity)
  rw [e2, ← mul_assoc, ← add_mul, Nat.add_comm, Nat.add_mul_div_right _ _ (by positivity : 0 < 2 ^ lo),
    Nat.div_eq_of_lt hm, zero_add, Nat.mul_add_mod_self_right]
  exact Nat.mod_mod _ _

theorem bitsOf_putBits_above {x hi lo v h2 l2 : Nat} (hl : lo ≤ hi) (ha : hi < l2) :
    bitsOf (putBits x hi lo v) h2 l2 = bitsOf x h2 l2 := by
  unfold bitsOf putBits
  congr 1
  have e2 : 2 ^ (hi + 1) = 2 ^ (hi + 1 - lo) * 2 ^ lo := by rw [← pow_add]; congr 1; omega
  have e3 : 2 ^ l2 = 2 ^ (hi + 1) * 2 ^ (l2 - (hi + 1)) := by rw [← pow_add]; congr 1; omega
  have hv : v % 2 ^ (hi + 1 - lo) < 2 ^ (hi + 1 - lo) := Nat.mod_lt _ (by positivity)
  have hm : x % 2 ^ lo < 2 ^ lo := Nat.mod_lt _ (by positivity)
  have h1 : v % 2 ^ (hi + 1 - lo) * 2 ^ lo + x % 2 ^ lo < 2 ^ (hi + 1) := by
    rw [e2]
    calc _ < v % 2 ^ (hi + 1 - lo) * 2 ^ lo + 2 ^ lo := by omega
      _ = (v % 2 ^ (hi + 1 - lo) + 1) * 2 ^ lo := by ring
      _ ≤ _ := Nat.mul_le_mul_right _ hv
  rw [e3, ← Nat.div_div_eq_div_mul, ← Nat.div_div_eq_div_mul, add_assoc, Nat.add_comm,
    Nat.add_mul_div_right _ _ (by positivity : 0 < 2 ^ (hi + 1)), Nat.div_eq_of_lt h1, zero_add]

theorem bitsOf_putBits_below {x hi lo v h2 l2 : Nat} (hl : lo ≤ hi) (hb : h2 < lo) (h22 : l2 ≤ h2) :
    bitsOf (putBits x hi lo v) h2 l2 = bitsOf x h2 l2 := by
  have key : ∀ y : Nat, bitsOf y h2 l2 = y % 2 ^ (h2 + 1) / 2 ^ l2 := by
    intro y
    unfold bitsOf
    have e : 2 ^ (h2 + 1) = 2 ^ l2 * 2 ^ (h2 + 1 - l2) := by rw [← pow_add]; congr 1; omega
    rw [e, Nat.mod_mul_right_div_self]
  rw [key, key]
  congr 1
  unfold putBits
  have e2 : 2 ^ (hi + 1) = 2 ^ (h2 + 1) * 2 ^ (hi - h2) := by rw [← pow_add]; congr 1; omega
  have e3 : 2 ^ lo = 2 ^ (h2 + 1) * 2 ^ (lo - (h2 + 1)) := by rw [← pow_add]; congr 1; omega
  have a1 : x / 2 ^ (hi + 1) * 2 ^ (hi + 1) % 2 ^ (h2 + 1) = 0 := by
    rw [e2]; rw [show x / (2 ^ (h2 + 1) * 2 ^ (hi - h2)) * (2 ^ (h2 + 1) * 2 ^ (hi - h2)) =
      2 ^ (h2 + 1) * (x / (2 ^ (h2 + 1) * 2 ^ (hi - h2)) * 2 ^ (hi - h2)) by ring]
    exact Nat.mul_mod_right _ _
  have a2 : v % 2 ^ (hi + 1 - lo) * 2 ^ lo % 2 ^ (h2 + 1) = 0 := by
    rw [e3]; rw [show v % 2 ^ (hi + 1 - lo) * (2 ^ (h2 + 1) * 2 ^ (lo - (h2 + 1))) =
      2 ^ (h2 + 1) * (v % 2 ^ (hi + 1 - lo) * 2 ^ (lo - (h2 + 1))) by ring]
    exact Nat.mul_mod_right _ _
  rw [Nat.add_mod, Nat.add_mod (x / 2 ^ (hi + 1) * 2 ^ (hi + 1)), a1, a2]
  simp only [Nat.zero_add, Nat.zero_mod]
  rw [Nat.mod_mod, e3, Nat.mod_mul_right_mod]

@[simp] theorem regRead_write_same (rf : RegFile) (a : Nat) (w : Word) : regRead (regWrite rf a w) a = w := by
  simp [regRead, regWrite]

theorem regRead_write_ne (rf : RegFile) {a b : Nat} (h : b ≠ a) (w : Word) : regRead (regWrite rf a w) b = regRead rf b := by
  simp [regRead, regWrite, sparseGet_set_ne _ _ h]

@[simp] theorem State.rd_wr_same (s : State) (a : Nat) (w : Word) : (s.wr a w).rd a = w := by simp [State.rd, State.wr]

theorem State.rd_wr_ne (s : State) {a b : Nat} (h : b ≠ a) (w : Word) : (s.wr a w).rd b = s.rd b := by
  simp [State.rd, State.wr, regRead_write_ne _ h]

theorem State.rd_fput_ne (s : State) (f : Fld) (v : Nat) {b : Nat} (h : b ≠ f.addr) : (s.fput f v).rd b = s.rd b := by
  simp [State.rd, State.fput, fldWrite, regRead_write_ne _ h]

/-- A field reads back what was put into it, within its size. -/
theorem State.fget_fput_same (s : State) (f : Fld) (v : Nat) (hl : f.lo ≤ f.hi) (hh : f.hi ≤ 31) :
    (s.fput f v).fget f = v % 2 ^ (f.hi + 1 - f.lo) := by
  simp only [State.fget, State.fput, fldRead, fldWrite, regRead_write_same, BitVec.toNat_ofNat]
  rw [Nat.mod_eq_of_lt (putBits_lt (regRead s.regs f.addr).isLt hl hh), bitsOf_putBits_same hl]

/-- A field of another register does not change. -/
theorem State.fget_fput_addr (s : State) (f g : Fld) (v : Nat) (h : g.addr ≠ f.addr) : (s.fput f v).fget g = s.fget g := by
  simp [State.fget, State.fput, fldRead, fldWrite, regRead_write_ne _ h]

/-- Another field of the same register does not change. -/
theorem State.fget_fput_fld (s : State) (f g : Fld) (v : Nat) (hl : f.lo ≤ f.hi) (hh : f.hi ≤ 31) (hg : g.lo ≤ g.hi)
    (h : f.hi < g.lo ∨ g.hi < f.lo) : (s.fput f v).fget g = s.fget g := by
  by_cases ha : g.addr = f.addr
  · simp only [State.fget, State.fput, fldRead, fldWrite, ha, regRead_write_same, BitVec.toNat_ofNat]
    rw [Nat.mod_eq_of_lt (putBits_lt (regRead s.regs f.addr).isLt hl hh)]
    rcases h with h | h
    · exact bitsOf_putBits_above hl h
    · exact bitsOf_putBits_below hl h hg
  · exact State.fget_fput_addr s f g v ha

theorem State.fget_wr_ne (s : State) (a : Nat) (g : Fld) (w : Word) (h : g.addr ≠ a) : (s.wr a w).fget g = s.fget g := by
  simp [State.fget, State.wr, fldRead, regRead_write_ne _ h]

theorem State.fget_wr_same (s : State) (g : Fld) (w : Word) : (s.wr g.addr w).fget g = bitsOf w.toNat g.hi g.lo := by
  simp [State.fget, State.wr, fldRead]

/-- A saturating counter after k more counts. -/
theorem State.rd_addc_same (s : State) (a k : Nat) :
    ((s.addc a k).rd a).toNat = min ((s.rd a).toNat + k) 0xFFFFFFFF := by
  simp only [State.addc, State.rd_wr_same, BitVec.toNat_ofNat]
  exact Nat.mod_eq_of_lt (by omega)

theorem State.rd_addc_ne (s : State) {a b : Nat} (h : b ≠ a) (k : Nat) : (s.addc a k).rd b = s.rd b := by
  simp [State.addc, State.rd_wr_ne _ h]

end Sys2Proof.Machine
end

