-- ==== Sys2Proof/Laws/State.lean ====
section
/-!
SUPPORT. Sys2Proof/Laws/State.lean: what each named update leaves as it was: one lemma for each field of the state; and what
the numbering of offers at the end of a command leaves.
-/
namespace Sys2Proof.Machine

/-! ### wr -/

@[simp] theorem State.wr_cycle (s : State) (a : Nat) (w : Word) : (s.wr a w).cycle = s.cycle := rfl
@[simp] theorem State.wr_fresh (s : State) (a : Nat) (w : Word) : (s.wr a w).fresh = s.fresh := rfl
@[simp] theorem State.wr_held (s : State) (a : Nat) (w : Word) : (s.wr a w).held = s.held := rfl
@[simp] theorem State.wr_mem (s : State) (a : Nat) (w : Word) : (s.wr a w).mem = s.mem := rfl
@[simp] theorem State.wr_dpi (s : State) (a : Nat) (w : Word) : (s.wr a w).dpi = s.dpi := rfl
@[simp] theorem State.wr_dpiOn (s : State) (a : Nat) (w : Word) : (s.wr a w).dpiOn = s.dpiOn := rfl
@[simp] theorem State.wr_evr (s : State) (a : Nat) (w : Word) : (s.wr a w).evr = s.evr := rfl
@[simp] theorem State.wr_atb (s : State) (a : Nat) (w : Word) : (s.wr a w).atb = s.atb := rfl
@[simp] theorem State.wr_host (s : State) (a : Nat) (w : Word) : (s.wr a w).host = s.host := rfl
@[simp] theorem State.wr_ns (s : State) (a : Nat) (w : Word) : (s.wr a w).ns = s.ns := rfl
@[simp] theorem State.wr_xts (s : State) (a : Nat) (w : Word) : (s.wr a w).xts = s.xts := rfl
@[simp] theorem State.wr_msc (s : State) (a : Nat) (w : Word) : (s.wr a w).msc = s.msc := rfl
@[simp] theorem State.wr_trs (s : State) (a : Nat) (w : Word) : (s.wr a w).trs = s.trs := rfl
@[simp] theorem State.wr_cs (s : State) (a : Nat) (w : Word) : (s.wr a w).cs = s.cs := rfl
@[simp] theorem State.wr_rwc (s : State) (a : Nat) (w : Word) : (s.wr a w).rwc = s.rwc := rfl
@[simp] theorem State.wr_pa (s : State) (a : Nat) (w : Word) : (s.wr a w).pa = s.pa := rfl
@[simp] theorem State.wr_pif (s : State) (a : Nat) (w : Word) : (s.wr a w).pif = s.pif := rfl
@[simp] theorem State.wr_pair (s : State) (a : Nat) (w : Word) : (s.wr a w).pair = s.pair := rfl
@[simp] theorem State.wr_cap (s : State) (a : Nat) (w : Word) : (s.wr a w).cap = s.cap := rfl
@[simp] theorem State.wr_smc (s : State) (a : Nat) (w : Word) : (s.wr a w).smc = s.smc := rfl
@[simp] theorem State.wr_pow (s : State) (a : Nat) (w : Word) : (s.wr a w).pow = s.pow := rfl
@[simp] theorem State.wr_heads (s : State) (a : Nat) (w : Word) : (s.wr a w).heads = s.heads := rfl
@[simp] theorem State.wr_acts (s : State) (a : Nat) (w : Word) : (s.wr a w).acts = s.acts := rfl
@[simp] theorem State.wr_recov (s : State) (a : Nat) (w : Word) : (s.wr a w).recov = s.recov := rfl
@[simp] theorem State.wr_memp (s : State) (a : Nat) (w : Word) : (s.wr a w).memp = s.memp := rfl
@[simp] theorem State.wr_own (s : State) (a : Nat) (w : Word) : (s.wr a w).own = s.own := rfl
@[simp] theorem State.wr_chain (s : State) (a : Nat) (w : Word) : (s.wr a w).chain = s.chain := rfl
@[simp] theorem State.wr_mctp (s : State) (a : Nat) (w : Word) : (s.wr a w).mctp = s.mctp := rfl
@[simp] theorem State.wr_boot (s : State) (a : Nat) (w : Word) : (s.wr a w).boot = s.boot := rfl
@[simp] theorem State.wr_out (s : State) (a : Nat) (w : Word) : (s.wr a w).out = s.out := rfl
@[simp] theorem State.wr_pending (s : State) (a : Nat) (w : Word) : (s.wr a w).pending = s.pending := rfl

/-! ### fput -/

@[simp] theorem State.fput_cycle (s : State) (f : Fld) (v : Nat) : (s.fput f v).cycle = s.cycle := rfl
@[simp] theorem State.fput_fresh (s : State) (f : Fld) (v : Nat) : (s.fput f v).fresh = s.fresh := rfl
@[simp] theorem State.fput_held (s : State) (f : Fld) (v : Nat) : (s.fput f v).held = s.held := rfl
@[simp] theorem State.fput_mem (s : State) (f : Fld) (v : Nat) : (s.fput f v).mem = s.mem := rfl
@[simp] theorem State.fput_dpi (s : State) (f : Fld) (v : Nat) : (s.fput f v).dpi = s.dpi := rfl
@[simp] theorem State.fput_dpiOn (s : State) (f : Fld) (v : Nat) : (s.fput f v).dpiOn = s.dpiOn := rfl
@[simp] theorem State.fput_evr (s : State) (f : Fld) (v : Nat) : (s.fput f v).evr = s.evr := rfl
@[simp] theorem State.fput_atb (s : State) (f : Fld) (v : Nat) : (s.fput f v).atb = s.atb := rfl
@[simp] theorem State.fput_host (s : State) (f : Fld) (v : Nat) : (s.fput f v).host = s.host := rfl
@[simp] theorem State.fput_ns (s : State) (f : Fld) (v : Nat) : (s.fput f v).ns = s.ns := rfl
@[simp] theorem State.fput_xts (s : State) (f : Fld) (v : Nat) : (s.fput f v).xts = s.xts := rfl
@[simp] theorem State.fput_msc (s : State) (f : Fld) (v : Nat) : (s.fput f v).msc = s.msc := rfl
@[simp] theorem State.fput_trs (s : State) (f : Fld) (v : Nat) : (s.fput f v).trs = s.trs := rfl
@[simp] theorem State.fput_cs (s : State) (f : Fld) (v : Nat) : (s.fput f v).cs = s.cs := rfl
@[simp] theorem State.fput_rwc (s : State) (f : Fld) (v : Nat) : (s.fput f v).rwc = s.rwc := rfl
@[simp] theorem State.fput_pa (s : State) (f : Fld) (v : Nat) : (s.fput f v).pa = s.pa := rfl
@[simp] theorem State.fput_pif (s : State) (f : Fld) (v : Nat) : (s.fput f v).pif = s.pif := rfl
@[simp] theorem State.fput_pair (s : State) (f : Fld) (v : Nat) : (s.fput f v).pair = s.pair := rfl
@[simp] theorem State.fput_cap (s : State) (f : Fld) (v : Nat) : (s.fput f v).cap = s.cap := rfl
@[simp] theorem State.fput_smc (s : State) (f : Fld) (v : Nat) : (s.fput f v).smc = s.smc := rfl
@[simp] theorem State.fput_pow (s : State) (f : Fld) (v : Nat) : (s.fput f v).pow = s.pow := rfl
@[simp] theorem State.fput_heads (s : State) (f : Fld) (v : Nat) : (s.fput f v).heads = s.heads := rfl
@[simp] theorem State.fput_acts (s : State) (f : Fld) (v : Nat) : (s.fput f v).acts = s.acts := rfl
@[simp] theorem State.fput_recov (s : State) (f : Fld) (v : Nat) : (s.fput f v).recov = s.recov := rfl
@[simp] theorem State.fput_memp (s : State) (f : Fld) (v : Nat) : (s.fput f v).memp = s.memp := rfl
@[simp] theorem State.fput_own (s : State) (f : Fld) (v : Nat) : (s.fput f v).own = s.own := rfl
@[simp] theorem State.fput_chain (s : State) (f : Fld) (v : Nat) : (s.fput f v).chain = s.chain := rfl
@[simp] theorem State.fput_mctp (s : State) (f : Fld) (v : Nat) : (s.fput f v).mctp = s.mctp := rfl
@[simp] theorem State.fput_boot (s : State) (f : Fld) (v : Nat) : (s.fput f v).boot = s.boot := rfl
@[simp] theorem State.fput_out (s : State) (f : Fld) (v : Nat) : (s.fput f v).out = s.out := rfl
@[simp] theorem State.fput_pending (s : State) (f : Fld) (v : Nat) : (s.fput f v).pending = s.pending := rfl

/-! ### addc -/

@[simp] theorem State.addc_cycle (s : State) (a k : Nat) : (s.addc a k).cycle = s.cycle := rfl
@[simp] theorem State.addc_fresh (s : State) (a k : Nat) : (s.addc a k).fresh = s.fresh := rfl
@[simp] theorem State.addc_held (s : State) (a k : Nat) : (s.addc a k).held = s.held := rfl
@[simp] theorem State.addc_mem (s : State) (a k : Nat) : (s.addc a k).mem = s.mem := rfl
@[simp] theorem State.addc_dpi (s : State) (a k : Nat) : (s.addc a k).dpi = s.dpi := rfl
@[simp] theorem State.addc_dpiOn (s : State) (a k : Nat) : (s.addc a k).dpiOn = s.dpiOn := rfl
@[simp] theorem State.addc_evr (s : State) (a k : Nat) : (s.addc a k).evr = s.evr := rfl
@[simp] theorem State.addc_atb (s : State) (a k : Nat) : (s.addc a k).atb = s.atb := rfl
@[simp] theorem State.addc_host (s : State) (a k : Nat) : (s.addc a k).host = s.host := rfl
@[simp] theorem State.addc_ns (s : State) (a k : Nat) : (s.addc a k).ns = s.ns := rfl
@[simp] theorem State.addc_xts (s : State) (a k : Nat) : (s.addc a k).xts = s.xts := rfl
@[simp] theorem State.addc_msc (s : State) (a k : Nat) : (s.addc a k).msc = s.msc := rfl
@[simp] theorem State.addc_trs (s : State) (a k : Nat) : (s.addc a k).trs = s.trs := rfl
@[simp] theorem State.addc_cs (s : State) (a k : Nat) : (s.addc a k).cs = s.cs := rfl
@[simp] theorem State.addc_rwc (s : State) (a k : Nat) : (s.addc a k).rwc = s.rwc := rfl
@[simp] theorem State.addc_pa (s : State) (a k : Nat) : (s.addc a k).pa = s.pa := rfl
@[simp] theorem State.addc_pif (s : State) (a k : Nat) : (s.addc a k).pif = s.pif := rfl
@[simp] theorem State.addc_pair (s : State) (a k : Nat) : (s.addc a k).pair = s.pair := rfl
@[simp] theorem State.addc_cap (s : State) (a k : Nat) : (s.addc a k).cap = s.cap := rfl
@[simp] theorem State.addc_smc (s : State) (a k : Nat) : (s.addc a k).smc = s.smc := rfl
@[simp] theorem State.addc_pow (s : State) (a k : Nat) : (s.addc a k).pow = s.pow := rfl
@[simp] theorem State.addc_heads (s : State) (a k : Nat) : (s.addc a k).heads = s.heads := rfl
@[simp] theorem State.addc_acts (s : State) (a k : Nat) : (s.addc a k).acts = s.acts := rfl
@[simp] theorem State.addc_recov (s : State) (a k : Nat) : (s.addc a k).recov = s.recov := rfl
@[simp] theorem State.addc_memp (s : State) (a k : Nat) : (s.addc a k).memp = s.memp := rfl
@[simp] theorem State.addc_own (s : State) (a k : Nat) : (s.addc a k).own = s.own := rfl
@[simp] theorem State.addc_chain (s : State) (a k : Nat) : (s.addc a k).chain = s.chain := rfl
@[simp] theorem State.addc_mctp (s : State) (a k : Nat) : (s.addc a k).mctp = s.mctp := rfl
@[simp] theorem State.addc_boot (s : State) (a k : Nat) : (s.addc a k).boot = s.boot := rfl
@[simp] theorem State.addc_out (s : State) (a k : Nat) : (s.addc a k).out = s.out := rfl
@[simp] theorem State.addc_pending (s : State) (a k : Nat) : (s.addc a k).pending = s.pending := rfl

/-! ### bump -/

@[simp] theorem State.bump_cycle (s : State) (a : Nat) : (s.bump a).cycle = s.cycle := rfl
@[simp] theorem State.bump_fresh (s : State) (a : Nat) : (s.bump a).fresh = s.fresh := rfl
@[simp] theorem State.bump_held (s : State) (a : Nat) : (s.bump a).held = s.held := rfl
@[simp] theorem State.bump_mem (s : State) (a : Nat) : (s.bump a).mem = s.mem := rfl
@[simp] theorem State.bump_dpi (s : State) (a : Nat) : (s.bump a).dpi = s.dpi := rfl
@[simp] theorem State.bump_dpiOn (s : State) (a : Nat) : (s.bump a).dpiOn = s.dpiOn := rfl
@[simp] theorem State.bump_evr (s : State) (a : Nat) : (s.bump a).evr = s.evr := rfl
@[simp] theorem State.bump_atb (s : State) (a : Nat) : (s.bump a).atb = s.atb := rfl
@[simp] theorem State.bump_host (s : State) (a : Nat) : (s.bump a).host = s.host := rfl
@[simp] theorem State.bump_ns (s : State) (a : Nat) : (s.bump a).ns = s.ns := rfl
@[simp] theorem State.bump_xts (s : State) (a : Nat) : (s.bump a).xts = s.xts := rfl
@[simp] theorem State.bump_msc (s : State) (a : Nat) : (s.bump a).msc = s.msc := rfl
@[simp] theorem State.bump_trs (s : State) (a : Nat) : (s.bump a).trs = s.trs := rfl
@[simp] theorem State.bump_cs (s : State) (a : Nat) : (s.bump a).cs = s.cs := rfl
@[simp] theorem State.bump_rwc (s : State) (a : Nat) : (s.bump a).rwc = s.rwc := rfl
@[simp] theorem State.bump_pa (s : State) (a : Nat) : (s.bump a).pa = s.pa := rfl
@[simp] theorem State.bump_pif (s : State) (a : Nat) : (s.bump a).pif = s.pif := rfl
@[simp] theorem State.bump_pair (s : State) (a : Nat) : (s.bump a).pair = s.pair := rfl
@[simp] theorem State.bump_cap (s : State) (a : Nat) : (s.bump a).cap = s.cap := rfl
@[simp] theorem State.bump_smc (s : State) (a : Nat) : (s.bump a).smc = s.smc := rfl
@[simp] theorem State.bump_pow (s : State) (a : Nat) : (s.bump a).pow = s.pow := rfl
@[simp] theorem State.bump_heads (s : State) (a : Nat) : (s.bump a).heads = s.heads := rfl
@[simp] theorem State.bump_acts (s : State) (a : Nat) : (s.bump a).acts = s.acts := rfl
@[simp] theorem State.bump_recov (s : State) (a : Nat) : (s.bump a).recov = s.recov := rfl
@[simp] theorem State.bump_memp (s : State) (a : Nat) : (s.bump a).memp = s.memp := rfl
@[simp] theorem State.bump_own (s : State) (a : Nat) : (s.bump a).own = s.own := rfl
@[simp] theorem State.bump_chain (s : State) (a : Nat) : (s.bump a).chain = s.chain := rfl
@[simp] theorem State.bump_mctp (s : State) (a : Nat) : (s.bump a).mctp = s.mctp := rfl
@[simp] theorem State.bump_boot (s : State) (a : Nat) : (s.bump a).boot = s.boot := rfl
@[simp] theorem State.bump_out (s : State) (a : Nat) : (s.bump a).out = s.out := rfl
@[simp] theorem State.bump_pending (s : State) (a : Nat) : (s.bump a).pending = s.pending := rfl

/-! ### memPut -/

@[simp] theorem State.memPut_cycle (s : State) (a : Nat) (b : Byte) : (s.memPut a b).cycle = s.cycle := rfl
@[simp] theorem State.memPut_fresh (s : State) (a : Nat) (b : Byte) : (s.memPut a b).fresh = s.fresh := rfl
@[simp] theorem State.memPut_regs (s : State) (a : Nat) (b : Byte) : (s.memPut a b).regs = s.regs := rfl
@[simp] theorem State.memPut_held (s : State) (a : Nat) (b : Byte) : (s.memPut a b).held = s.held := rfl
@[simp] theorem State.memPut_dpi (s : State) (a : Nat) (b : Byte) : (s.memPut a b).dpi = s.dpi := rfl
@[simp] theorem State.memPut_dpiOn (s : State) (a : Nat) (b : Byte) : (s.memPut a b).dpiOn = s.dpiOn := rfl
@[simp] theorem State.memPut_evr (s : State) (a : Nat) (b : Byte) : (s.memPut a b).evr = s.evr := rfl
@[simp] theorem State.memPut_atb (s : State) (a : Nat) (b : Byte) : (s.memPut a b).atb = s.atb := rfl
@[simp] theorem State.memPut_host (s : State) (a : Nat) (b : Byte) : (s.memPut a b).host = s.host := rfl
@[simp] theorem State.memPut_ns (s : State) (a : Nat) (b : Byte) : (s.memPut a b).ns = s.ns := rfl
@[simp] theorem State.memPut_xts (s : State) (a : Nat) (b : Byte) : (s.memPut a b).xts = s.xts := rfl
@[simp] theorem State.memPut_msc (s : State) (a : Nat) (b : Byte) : (s.memPut a b).msc = s.msc := rfl
@[simp] theorem State.memPut_trs (s : State) (a : Nat) (b : Byte) : (s.memPut a b).trs = s.trs := rfl
@[simp] theorem State.memPut_cs (s : State) (a : Nat) (b : Byte) : (s.memPut a b).cs = s.cs := rfl
@[simp] theorem State.memPut_rwc (s : State) (a : Nat) (b : Byte) : (s.memPut a b).rwc = s.rwc := rfl
@[simp] theorem State.memPut_pa (s : State) (a : Nat) (b : Byte) : (s.memPut a b).pa = s.pa := rfl
@[simp] theorem State.memPut_pif (s : State) (a : Nat) (b : Byte) : (s.memPut a b).pif = s.pif := rfl
@[simp] theorem State.memPut_pair (s : State) (a : Nat) (b : Byte) : (s.memPut a b).pair = s.pair := rfl
@[simp] theorem State.memPut_cap (s : State) (a : Nat) (b : Byte) : (s.memPut a b).cap = s.cap := rfl
@[simp] theorem State.memPut_smc (s : State) (a : Nat) (b : Byte) : (s.memPut a b).smc = s.smc := rfl
@[simp] theorem State.memPut_pow (s : State) (a : Nat) (b : Byte) : (s.memPut a b).pow = s.pow := rfl
@[simp] theorem State.memPut_heads (s : State) (a : Nat) (b : Byte) : (s.memPut a b).heads = s.heads := rfl
@[simp] theorem State.memPut_acts (s : State) (a : Nat) (b : Byte) : (s.memPut a b).acts = s.acts := rfl
@[simp] theorem State.memPut_recov (s : State) (a : Nat) (b : Byte) : (s.memPut a b).recov = s.recov := rfl
@[simp] theorem State.memPut_memp (s : State) (a : Nat) (b : Byte) : (s.memPut a b).memp = s.memp := rfl
@[simp] theorem State.memPut_own (s : State) (a : Nat) (b : Byte) : (s.memPut a b).own = s.own := rfl
@[simp] theorem State.memPut_chain (s : State) (a : Nat) (b : Byte) : (s.memPut a b).chain = s.chain := rfl
@[simp] theorem State.memPut_mctp (s : State) (a : Nat) (b : Byte) : (s.memPut a b).mctp = s.mctp := rfl
@[simp] theorem State.memPut_boot (s : State) (a : Nat) (b : Byte) : (s.memPut a b).boot = s.boot := rfl
@[simp] theorem State.memPut_out (s : State) (a : Nat) (b : Byte) : (s.memPut a b).out = s.out := rfl
@[simp] theorem State.memPut_pending (s : State) (a : Nat) (b : Byte) : (s.memPut a b).pending = s.pending := rfl

/-! ### emit -/

@[simp] theorem State.emit_cycle (s : State) (o : Out) : (s.emit o).cycle = s.cycle := rfl
@[simp] theorem State.emit_fresh (s : State) (o : Out) : (s.emit o).fresh = s.fresh := rfl
@[simp] theorem State.emit_regs (s : State) (o : Out) : (s.emit o).regs = s.regs := rfl
@[simp] theorem State.emit_held (s : State) (o : Out) : (s.emit o).held = s.held := rfl
@[simp] theorem State.emit_mem (s : State) (o : Out) : (s.emit o).mem = s.mem := rfl
@[simp] theorem State.emit_dpi (s : State) (o : Out) : (s.emit o).dpi = s.dpi := rfl
@[simp] theorem State.emit_dpiOn (s : State) (o : Out) : (s.emit o).dpiOn = s.dpiOn := rfl
@[simp] theorem State.emit_evr (s : State) (o : Out) : (s.emit o).evr = s.evr := rfl
@[simp] theorem State.emit_atb (s : State) (o : Out) : (s.emit o).atb = s.atb := rfl
@[simp] theorem State.emit_host (s : State) (o : Out) : (s.emit o).host = s.host := rfl
@[simp] theorem State.emit_ns (s : State) (o : Out) : (s.emit o).ns = s.ns := rfl
@[simp] theorem State.emit_xts (s : State) (o : Out) : (s.emit o).xts = s.xts := rfl
@[simp] theorem State.emit_msc (s : State) (o : Out) : (s.emit o).msc = s.msc := rfl
@[simp] theorem State.emit_trs (s : State) (o : Out) : (s.emit o).trs = s.trs := rfl
@[simp] theorem State.emit_cs (s : State) (o : Out) : (s.emit o).cs = s.cs := rfl
@[simp] theorem State.emit_rwc (s : State) (o : Out) : (s.emit o).rwc = s.rwc := rfl
@[simp] theorem State.emit_pa (s : State) (o : Out) : (s.emit o).pa = s.pa := rfl
@[simp] theorem State.emit_pif (s : State) (o : Out) : (s.emit o).pif = s.pif := rfl
@[simp] theorem State.emit_pair (s : State) (o : Out) : (s.emit o).pair = s.pair := rfl
@[simp] theorem State.emit_cap (s : State) (o : Out) : (s.emit o).cap = s.cap := rfl
@[simp] theorem State.emit_smc (s : State) (o : Out) : (s.emit o).smc = s.smc := rfl
@[simp] theorem State.emit_pow (s : State) (o : Out) : (s.emit o).pow = s.pow := rfl
@[simp] theorem State.emit_heads (s : State) (o : Out) : (s.emit o).heads = s.heads := rfl
@[simp] theorem State.emit_acts (s : State) (o : Out) : (s.emit o).acts = s.acts := rfl
@[simp] theorem State.emit_recov (s : State) (o : Out) : (s.emit o).recov = s.recov := rfl
@[simp] theorem State.emit_memp (s : State) (o : Out) : (s.emit o).memp = s.memp := rfl
@[simp] theorem State.emit_own (s : State) (o : Out) : (s.emit o).own = s.own := rfl
@[simp] theorem State.emit_chain (s : State) (o : Out) : (s.emit o).chain = s.chain := rfl
@[simp] theorem State.emit_mctp (s : State) (o : Out) : (s.emit o).mctp = s.mctp := rfl
@[simp] theorem State.emit_boot (s : State) (o : Out) : (s.emit o).boot = s.boot := rfl
@[simp] theorem State.emit_pending (s : State) (o : Out) : (s.emit o).pending = s.pending := rfl

/-! ### modTrs -/

@[simp] theorem State.modTrs_cycle (s : State) (n : Fin 4) (f : TrsSt → TrsSt) : (s.modTrs n f).cycle = s.cycle := rfl
@[simp] theorem State.modTrs_fresh (s : State) (n : Fin 4) (f : TrsSt → TrsSt) : (s.modTrs n f).fresh = s.fresh := rfl
@[simp] theorem State.modTrs_regs (s : State) (n : Fin 4) (f : TrsSt → TrsSt) : (s.modTrs n f).regs = s.regs := rfl
@[simp] theorem State.modTrs_held (s : State) (n : Fin 4) (f : TrsSt → TrsSt) : (s.modTrs n f).held = s.held := rfl
@[simp] theorem State.modTrs_mem (s : State) (n : Fin 4) (f : TrsSt → TrsSt) : (s.modTrs n f).mem = s.mem := rfl
@[simp] theorem State.modTrs_dpi (s : State) (n : Fin 4) (f : TrsSt → TrsSt) : (s.modTrs n f).dpi = s.dpi := rfl
@[simp] theorem State.modTrs_dpiOn (s : State) (n : Fin 4) (f : TrsSt → TrsSt) : (s.modTrs n f).dpiOn = s.dpiOn := rfl
@[simp] theorem State.modTrs_evr (s : State) (n : Fin 4) (f : TrsSt → TrsSt) : (s.modTrs n f).evr = s.evr := rfl
@[simp] theorem State.modTrs_atb (s : State) (n : Fin 4) (f : TrsSt → TrsSt) : (s.modTrs n f).atb = s.atb := rfl
@[simp] theorem State.modTrs_host (s : State) (n : Fin 4) (f : TrsSt → TrsSt) : (s.modTrs n f).host = s.host := rfl
@[simp] theorem State.modTrs_ns (s : State) (n : Fin 4) (f : TrsSt → TrsSt) : (s.modTrs n f).ns = s.ns := rfl
@[simp] theorem State.modTrs_xts (s : State) (n : Fin 4) (f : TrsSt → TrsSt) : (s.modTrs n f).xts = s.xts := rfl
@[simp] theorem State.modTrs_msc (s : State) (n : Fin 4) (f : TrsSt → TrsSt) : (s.modTrs n f).msc = s.msc := rfl
@[simp] theorem State.modTrs_cs (s : State) (n : Fin 4) (f : TrsSt → TrsSt) : (s.modTrs n f).cs = s.cs := rfl
@[simp] theorem State.modTrs_rwc (s : State) (n : Fin 4) (f : TrsSt → TrsSt) : (s.modTrs n f).rwc = s.rwc := rfl
@[simp] theorem State.modTrs_pa (s : State) (n : Fin 4) (f : TrsSt → TrsSt) : (s.modTrs n f).pa = s.pa := rfl
@[simp] theorem State.modTrs_pif (s : State) (n : Fin 4) (f : TrsSt → TrsSt) : (s.modTrs n f).pif = s.pif := rfl
@[simp] theorem State.modTrs_pair (s : State) (n : Fin 4) (f : TrsSt → TrsSt) : (s.modTrs n f).pair = s.pair := rfl
@[simp] theorem State.modTrs_cap (s : State) (n : Fin 4) (f : TrsSt → TrsSt) : (s.modTrs n f).cap = s.cap := rfl
@[simp] theorem State.modTrs_smc (s : State) (n : Fin 4) (f : TrsSt → TrsSt) : (s.modTrs n f).smc = s.smc := rfl
@[simp] theorem State.modTrs_pow (s : State) (n : Fin 4) (f : TrsSt → TrsSt) : (s.modTrs n f).pow = s.pow := rfl
@[simp] theorem State.modTrs_heads (s : State) (n : Fin 4) (f : TrsSt → TrsSt) : (s.modTrs n f).heads = s.heads := rfl
@[simp] theorem State.modTrs_acts (s : State) (n : Fin 4) (f : TrsSt → TrsSt) : (s.modTrs n f).acts = s.acts := rfl
@[simp] theorem State.modTrs_recov (s : State) (n : Fin 4) (f : TrsSt → TrsSt) : (s.modTrs n f).recov = s.recov := rfl
@[simp] theorem State.modTrs_memp (s : State) (n : Fin 4) (f : TrsSt → TrsSt) : (s.modTrs n f).memp = s.memp := rfl
@[simp] theorem State.modTrs_own (s : State) (n : Fin 4) (f : TrsSt → TrsSt) : (s.modTrs n f).own = s.own := rfl
@[simp] theorem State.modTrs_chain (s : State) (n : Fin 4) (f : TrsSt → TrsSt) : (s.modTrs n f).chain = s.chain := rfl
@[simp] theorem State.modTrs_mctp (s : State) (n : Fin 4) (f : TrsSt → TrsSt) : (s.modTrs n f).mctp = s.mctp := rfl
@[simp] theorem State.modTrs_boot (s : State) (n : Fin 4) (f : TrsSt → TrsSt) : (s.modTrs n f).boot = s.boot := rfl
@[simp] theorem State.modTrs_out (s : State) (n : Fin 4) (f : TrsSt → TrsSt) : (s.modTrs n f).out = s.out := rfl
@[simp] theorem State.modTrs_pending (s : State) (n : Fin 4) (f : TrsSt → TrsSt) : (s.modTrs n f).pending = s.pending := rfl

/-! ### modRwc -/

@[simp] theorem State.modRwc_cycle (s : State) (n : Fin 4) (f : RwcSt → RwcSt) : (s.modRwc n f).cycle = s.cycle := rfl
@[simp] theorem State.modRwc_fresh (s : State) (n : Fin 4) (f : RwcSt → RwcSt) : (s.modRwc n f).fresh = s.fresh := rfl
@[simp] theorem State.modRwc_regs (s : State) (n : Fin 4) (f : RwcSt → RwcSt) : (s.modRwc n f).regs = s.regs := rfl
@[simp] theorem State.modRwc_held (s : State) (n : Fin 4) (f : RwcSt → RwcSt) : (s.modRwc n f).held = s.held := rfl
@[simp] theorem State.modRwc_mem (s : State) (n : Fin 4) (f : RwcSt → RwcSt) : (s.modRwc n f).mem = s.mem := rfl
@[simp] theorem State.modRwc_dpi (s : State) (n : Fin 4) (f : RwcSt → RwcSt) : (s.modRwc n f).dpi = s.dpi := rfl
@[simp] theorem State.modRwc_dpiOn (s : State) (n : Fin 4) (f : RwcSt → RwcSt) : (s.modRwc n f).dpiOn = s.dpiOn := rfl
@[simp] theorem State.modRwc_evr (s : State) (n : Fin 4) (f : RwcSt → RwcSt) : (s.modRwc n f).evr = s.evr := rfl
@[simp] theorem State.modRwc_atb (s : State) (n : Fin 4) (f : RwcSt → RwcSt) : (s.modRwc n f).atb = s.atb := rfl
@[simp] theorem State.modRwc_host (s : State) (n : Fin 4) (f : RwcSt → RwcSt) : (s.modRwc n f).host = s.host := rfl
@[simp] theorem State.modRwc_ns (s : State) (n : Fin 4) (f : RwcSt → RwcSt) : (s.modRwc n f).ns = s.ns := rfl
@[simp] theorem State.modRwc_xts (s : State) (n : Fin 4) (f : RwcSt → RwcSt) : (s.modRwc n f).xts = s.xts := rfl
@[simp] theorem State.modRwc_msc (s : State) (n : Fin 4) (f : RwcSt → RwcSt) : (s.modRwc n f).msc = s.msc := rfl
@[simp] theorem State.modRwc_trs (s : State) (n : Fin 4) (f : RwcSt → RwcSt) : (s.modRwc n f).trs = s.trs := rfl
@[simp] theorem State.modRwc_cs (s : State) (n : Fin 4) (f : RwcSt → RwcSt) : (s.modRwc n f).cs = s.cs := rfl
@[simp] theorem State.modRwc_pa (s : State) (n : Fin 4) (f : RwcSt → RwcSt) : (s.modRwc n f).pa = s.pa := rfl
@[simp] theorem State.modRwc_pif (s : State) (n : Fin 4) (f : RwcSt → RwcSt) : (s.modRwc n f).pif = s.pif := rfl
@[simp] theorem State.modRwc_pair (s : State) (n : Fin 4) (f : RwcSt → RwcSt) : (s.modRwc n f).pair = s.pair := rfl
@[simp] theorem State.modRwc_cap (s : State) (n : Fin 4) (f : RwcSt → RwcSt) : (s.modRwc n f).cap = s.cap := rfl
@[simp] theorem State.modRwc_smc (s : State) (n : Fin 4) (f : RwcSt → RwcSt) : (s.modRwc n f).smc = s.smc := rfl
@[simp] theorem State.modRwc_pow (s : State) (n : Fin 4) (f : RwcSt → RwcSt) : (s.modRwc n f).pow = s.pow := rfl
@[simp] theorem State.modRwc_heads (s : State) (n : Fin 4) (f : RwcSt → RwcSt) : (s.modRwc n f).heads = s.heads := rfl
@[simp] theorem State.modRwc_acts (s : State) (n : Fin 4) (f : RwcSt → RwcSt) : (s.modRwc n f).acts = s.acts := rfl
@[simp] theorem State.modRwc_recov (s : State) (n : Fin 4) (f : RwcSt → RwcSt) : (s.modRwc n f).recov = s.recov := rfl
@[simp] theorem State.modRwc_memp (s : State) (n : Fin 4) (f : RwcSt → RwcSt) : (s.modRwc n f).memp = s.memp := rfl
@[simp] theorem State.modRwc_own (s : State) (n : Fin 4) (f : RwcSt → RwcSt) : (s.modRwc n f).own = s.own := rfl
@[simp] theorem State.modRwc_chain (s : State) (n : Fin 4) (f : RwcSt → RwcSt) : (s.modRwc n f).chain = s.chain := rfl
@[simp] theorem State.modRwc_mctp (s : State) (n : Fin 4) (f : RwcSt → RwcSt) : (s.modRwc n f).mctp = s.mctp := rfl
@[simp] theorem State.modRwc_boot (s : State) (n : Fin 4) (f : RwcSt → RwcSt) : (s.modRwc n f).boot = s.boot := rfl
@[simp] theorem State.modRwc_out (s : State) (n : Fin 4) (f : RwcSt → RwcSt) : (s.modRwc n f).out = s.out := rfl
@[simp] theorem State.modRwc_pending (s : State) (n : Fin 4) (f : RwcSt → RwcSt) : (s.modRwc n f).pending = s.pending := rfl

/-! ### modPa -/

@[simp] theorem State.modPa_cycle (s : State) (n : Fin 4) (f : PaSt → PaSt) : (s.modPa n f).cycle = s.cycle := rfl
@[simp] theorem State.modPa_fresh (s : State) (n : Fin 4) (f : PaSt → PaSt) : (s.modPa n f).fresh = s.fresh := rfl
@[simp] theorem State.modPa_regs (s : State) (n : Fin 4) (f : PaSt → PaSt) : (s.modPa n f).regs = s.regs := rfl
@[simp] theorem State.modPa_held (s : State) (n : Fin 4) (f : PaSt → PaSt) : (s.modPa n f).held = s.held := rfl
@[simp] theorem State.modPa_mem (s : State) (n : Fin 4) (f : PaSt → PaSt) : (s.modPa n f).mem = s.mem := rfl
@[simp] theorem State.modPa_dpi (s : State) (n : Fin 4) (f : PaSt → PaSt) : (s.modPa n f).dpi = s.dpi := rfl
@[simp] theorem State.modPa_dpiOn (s : State) (n : Fin 4) (f : PaSt → PaSt) : (s.modPa n f).dpiOn = s.dpiOn := rfl
@[simp] theorem State.modPa_evr (s : State) (n : Fin 4) (f : PaSt → PaSt) : (s.modPa n f).evr = s.evr := rfl
@[simp] theorem State.modPa_atb (s : State) (n : Fin 4) (f : PaSt → PaSt) : (s.modPa n f).atb = s.atb := rfl
@[simp] theorem State.modPa_host (s : State) (n : Fin 4) (f : PaSt → PaSt) : (s.modPa n f).host = s.host := rfl
@[simp] theorem State.modPa_ns (s : State) (n : Fin 4) (f : PaSt → PaSt) : (s.modPa n f).ns = s.ns := rfl
@[simp] theorem State.modPa_xts (s : State) (n : Fin 4) (f : PaSt → PaSt) : (s.modPa n f).xts = s.xts := rfl
@[simp] theorem State.modPa_msc (s : State) (n : Fin 4) (f : PaSt → PaSt) : (s.modPa n f).msc = s.msc := rfl
@[simp] theorem State.modPa_trs (s : State) (n : Fin 4) (f : PaSt → PaSt) : (s.modPa n f).trs = s.trs := rfl
@[simp] theorem State.modPa_cs (s : State) (n : Fin 4) (f : PaSt → PaSt) : (s.modPa n f).cs = s.cs := rfl
@[simp] theorem State.modPa_rwc (s : State) (n : Fin 4) (f : PaSt → PaSt) : (s.modPa n f).rwc = s.rwc := rfl
@[simp] theorem State.modPa_pif (s : State) (n : Fin 4) (f : PaSt → PaSt) : (s.modPa n f).pif = s.pif := rfl
@[simp] theorem State.modPa_pair (s : State) (n : Fin 4) (f : PaSt → PaSt) : (s.modPa n f).pair = s.pair := rfl
@[simp] theorem State.modPa_cap (s : State) (n : Fin 4) (f : PaSt → PaSt) : (s.modPa n f).cap = s.cap := rfl
@[simp] theorem State.modPa_smc (s : State) (n : Fin 4) (f : PaSt → PaSt) : (s.modPa n f).smc = s.smc := rfl
@[simp] theorem State.modPa_pow (s : State) (n : Fin 4) (f : PaSt → PaSt) : (s.modPa n f).pow = s.pow := rfl
@[simp] theorem State.modPa_heads (s : State) (n : Fin 4) (f : PaSt → PaSt) : (s.modPa n f).heads = s.heads := rfl
@[simp] theorem State.modPa_acts (s : State) (n : Fin 4) (f : PaSt → PaSt) : (s.modPa n f).acts = s.acts := rfl
@[simp] theorem State.modPa_recov (s : State) (n : Fin 4) (f : PaSt → PaSt) : (s.modPa n f).recov = s.recov := rfl
@[simp] theorem State.modPa_memp (s : State) (n : Fin 4) (f : PaSt → PaSt) : (s.modPa n f).memp = s.memp := rfl
@[simp] theorem State.modPa_own (s : State) (n : Fin 4) (f : PaSt → PaSt) : (s.modPa n f).own = s.own := rfl
@[simp] theorem State.modPa_chain (s : State) (n : Fin 4) (f : PaSt → PaSt) : (s.modPa n f).chain = s.chain := rfl
@[simp] theorem State.modPa_mctp (s : State) (n : Fin 4) (f : PaSt → PaSt) : (s.modPa n f).mctp = s.mctp := rfl
@[simp] theorem State.modPa_boot (s : State) (n : Fin 4) (f : PaSt → PaSt) : (s.modPa n f).boot = s.boot := rfl
@[simp] theorem State.modPa_out (s : State) (n : Fin 4) (f : PaSt → PaSt) : (s.modPa n f).out = s.out := rfl
@[simp] theorem State.modPa_pending (s : State) (n : Fin 4) (f : PaSt → PaSt) : (s.modPa n f).pending = s.pending := rfl

/-! ### modMsc -/

@[simp] theorem State.modMsc_cycle (s : State) (f : MscSt → MscSt) : (s.modMsc f).cycle = s.cycle := rfl
@[simp] theorem State.modMsc_fresh (s : State) (f : MscSt → MscSt) : (s.modMsc f).fresh = s.fresh := rfl
@[simp] theorem State.modMsc_regs (s : State) (f : MscSt → MscSt) : (s.modMsc f).regs = s.regs := rfl
@[simp] theorem State.modMsc_held (s : State) (f : MscSt → MscSt) : (s.modMsc f).held = s.held := rfl
@[simp] theorem State.modMsc_mem (s : State) (f : MscSt → MscSt) : (s.modMsc f).mem = s.mem := rfl
@[simp] theorem State.modMsc_dpi (s : State) (f : MscSt → MscSt) : (s.modMsc f).dpi = s.dpi := rfl
@[simp] theorem State.modMsc_dpiOn (s : State) (f : MscSt → MscSt) : (s.modMsc f).dpiOn = s.dpiOn := rfl
@[simp] theorem State.modMsc_evr (s : State) (f : MscSt → MscSt) : (s.modMsc f).evr = s.evr := rfl
@[simp] theorem State.modMsc_atb (s : State) (f : MscSt → MscSt) : (s.modMsc f).atb = s.atb := rfl
@[simp] theorem State.modMsc_host (s : State) (f : MscSt → MscSt) : (s.modMsc f).host = s.host := rfl
@[simp] theorem State.modMsc_ns (s : State) (f : MscSt → MscSt) : (s.modMsc f).ns = s.ns := rfl
@[simp] theorem State.modMsc_xts (s : State) (f : MscSt → MscSt) : (s.modMsc f).xts = s.xts := rfl
@[simp] theorem State.modMsc_trs (s : State) (f : MscSt → MscSt) : (s.modMsc f).trs = s.trs := rfl
@[simp] theorem State.modMsc_cs (s : State) (f : MscSt → MscSt) : (s.modMsc f).cs = s.cs := rfl
@[simp] theorem State.modMsc_rwc (s : State) (f : MscSt → MscSt) : (s.modMsc f).rwc = s.rwc := rfl
@[simp] theorem State.modMsc_pa (s : State) (f : MscSt → MscSt) : (s.modMsc f).pa = s.pa := rfl
@[simp] theorem State.modMsc_pif (s : State) (f : MscSt → MscSt) : (s.modMsc f).pif = s.pif := rfl
@[simp] theorem State.modMsc_pair (s : State) (f : MscSt → MscSt) : (s.modMsc f).pair = s.pair := rfl
@[simp] theorem State.modMsc_cap (s : State) (f : MscSt → MscSt) : (s.modMsc f).cap = s.cap := rfl
@[simp] theorem State.modMsc_smc (s : State) (f : MscSt → MscSt) : (s.modMsc f).smc = s.smc := rfl
@[simp] theorem State.modMsc_pow (s : State) (f : MscSt → MscSt) : (s.modMsc f).pow = s.pow := rfl
@[simp] theorem State.modMsc_heads (s : State) (f : MscSt → MscSt) : (s.modMsc f).heads = s.heads := rfl
@[simp] theorem State.modMsc_acts (s : State) (f : MscSt → MscSt) : (s.modMsc f).acts = s.acts := rfl
@[simp] theorem State.modMsc_recov (s : State) (f : MscSt → MscSt) : (s.modMsc f).recov = s.recov := rfl
@[simp] theorem State.modMsc_memp (s : State) (f : MscSt → MscSt) : (s.modMsc f).memp = s.memp := rfl
@[simp] theorem State.modMsc_own (s : State) (f : MscSt → MscSt) : (s.modMsc f).own = s.own := rfl
@[simp] theorem State.modMsc_chain (s : State) (f : MscSt → MscSt) : (s.modMsc f).chain = s.chain := rfl
@[simp] theorem State.modMsc_mctp (s : State) (f : MscSt → MscSt) : (s.modMsc f).mctp = s.mctp := rfl
@[simp] theorem State.modMsc_boot (s : State) (f : MscSt → MscSt) : (s.modMsc f).boot = s.boot := rfl
@[simp] theorem State.modMsc_out (s : State) (f : MscSt → MscSt) : (s.modMsc f).out = s.out := rfl
@[simp] theorem State.modMsc_pending (s : State) (f : MscSt → MscSt) : (s.modMsc f).pending = s.pending := rfl

/-! ### modHost -/

@[simp] theorem State.modHost_cycle (s : State) (f : HostSt → HostSt) : (s.modHost f).cycle = s.cycle := rfl
@[simp] theorem State.modHost_fresh (s : State) (f : HostSt → HostSt) : (s.modHost f).fresh = s.fresh := rfl
@[simp] theorem State.modHost_regs (s : State) (f : HostSt → HostSt) : (s.modHost f).regs = s.regs := rfl
@[simp] theorem State.modHost_held (s : State) (f : HostSt → HostSt) : (s.modHost f).held = s.held := rfl
@[simp] theorem State.modHost_mem (s : State) (f : HostSt → HostSt) : (s.modHost f).mem = s.mem := rfl
@[simp] theorem State.modHost_dpi (s : State) (f : HostSt → HostSt) : (s.modHost f).dpi = s.dpi := rfl
@[simp] theorem State.modHost_dpiOn (s : State) (f : HostSt → HostSt) : (s.modHost f).dpiOn = s.dpiOn := rfl
@[simp] theorem State.modHost_evr (s : State) (f : HostSt → HostSt) : (s.modHost f).evr = s.evr := rfl
@[simp] theorem State.modHost_atb (s : State) (f : HostSt → HostSt) : (s.modHost f).atb = s.atb := rfl
@[simp] theorem State.modHost_ns (s : State) (f : HostSt → HostSt) : (s.modHost f).ns = s.ns := rfl
@[simp] theorem State.modHost_xts (s : State) (f : HostSt → HostSt) : (s.modHost f).xts = s.xts := rfl
@[simp] theorem State.modHost_msc (s : State) (f : HostSt → HostSt) : (s.modHost f).msc = s.msc := rfl
@[simp] theorem State.modHost_trs (s : State) (f : HostSt → HostSt) : (s.modHost f).trs = s.trs := rfl
@[simp] theorem State.modHost_cs (s : State) (f : HostSt → HostSt) : (s.modHost f).cs = s.cs := rfl
@[simp] theorem State.modHost_rwc (s : State) (f : HostSt → HostSt) : (s.modHost f).rwc = s.rwc := rfl
@[simp] theorem State.modHost_pa (s : State) (f : HostSt → HostSt) : (s.modHost f).pa = s.pa := rfl
@[simp] theorem State.modHost_pif (s : State) (f : HostSt → HostSt) : (s.modHost f).pif = s.pif := rfl
@[simp] theorem State.modHost_pair (s : State) (f : HostSt → HostSt) : (s.modHost f).pair = s.pair := rfl
@[simp] theorem State.modHost_cap (s : State) (f : HostSt → HostSt) : (s.modHost f).cap = s.cap := rfl
@[simp] theorem State.modHost_smc (s : State) (f : HostSt → HostSt) : (s.modHost f).smc = s.smc := rfl
@[simp] theorem State.modHost_pow (s : State) (f : HostSt → HostSt) : (s.modHost f).pow = s.pow := rfl
@[simp] theorem State.modHost_heads (s : State) (f : HostSt → HostSt) : (s.modHost f).heads = s.heads := rfl
@[simp] theorem State.modHost_acts (s : State) (f : HostSt → HostSt) : (s.modHost f).acts = s.acts := rfl
@[simp] theorem State.modHost_recov (s : State) (f : HostSt → HostSt) : (s.modHost f).recov = s.recov := rfl
@[simp] theorem State.modHost_memp (s : State) (f : HostSt → HostSt) : (s.modHost f).memp = s.memp := rfl
@[simp] theorem State.modHost_own (s : State) (f : HostSt → HostSt) : (s.modHost f).own = s.own := rfl
@[simp] theorem State.modHost_chain (s : State) (f : HostSt → HostSt) : (s.modHost f).chain = s.chain := rfl
@[simp] theorem State.modHost_mctp (s : State) (f : HostSt → HostSt) : (s.modHost f).mctp = s.mctp := rfl
@[simp] theorem State.modHost_boot (s : State) (f : HostSt → HostSt) : (s.modHost f).boot = s.boot := rfl
@[simp] theorem State.modHost_out (s : State) (f : HostSt → HostSt) : (s.modHost f).out = s.out := rfl
@[simp] theorem State.modHost_pending (s : State) (f : HostSt → HostSt) : (s.modHost f).pending = s.pending := rfl

/-! ### modAtb -/

@[simp] theorem State.modAtb_cycle (s : State) (f : AtbSt → AtbSt) : (s.modAtb f).cycle = s.cycle := rfl
@[simp] theorem State.modAtb_fresh (s : State) (f : AtbSt → AtbSt) : (s.modAtb f).fresh = s.fresh := rfl
@[simp] theorem State.modAtb_regs (s : State) (f : AtbSt → AtbSt) : (s.modAtb f).regs = s.regs := rfl
@[simp] theorem State.modAtb_held (s : State) (f : AtbSt → AtbSt) : (s.modAtb f).held = s.held := rfl
@[simp] theorem State.modAtb_mem (s : State) (f : AtbSt → AtbSt) : (s.modAtb f).mem = s.mem := rfl
@[simp] theorem State.modAtb_dpi (s : State) (f : AtbSt → AtbSt) : (s.modAtb f).dpi = s.dpi := rfl
@[simp] theorem State.modAtb_dpiOn (s : State) (f : AtbSt → AtbSt) : (s.modAtb f).dpiOn = s.dpiOn := rfl
@[simp] theorem State.modAtb_evr (s : State) (f : AtbSt → AtbSt) : (s.modAtb f).evr = s.evr := rfl
@[simp] theorem State.modAtb_host (s : State) (f : AtbSt → AtbSt) : (s.modAtb f).host = s.host := rfl
@[simp] theorem State.modAtb_ns (s : State) (f : AtbSt → AtbSt) : (s.modAtb f).ns = s.ns := rfl
@[simp] theorem State.modAtb_xts (s : State) (f : AtbSt → AtbSt) : (s.modAtb f).xts = s.xts := rfl
@[simp] theorem State.modAtb_msc (s : State) (f : AtbSt → AtbSt) : (s.modAtb f).msc = s.msc := rfl
@[simp] theorem State.modAtb_trs (s : State) (f : AtbSt → AtbSt) : (s.modAtb f).trs = s.trs := rfl
@[simp] theorem State.modAtb_cs (s : State) (f : AtbSt → AtbSt) : (s.modAtb f).cs = s.cs := rfl
@[simp] theorem State.modAtb_rwc (s : State) (f : AtbSt → AtbSt) : (s.modAtb f).rwc = s.rwc := rfl
@[simp] theorem State.modAtb_pa (s : State) (f : AtbSt → AtbSt) : (s.modAtb f).pa = s.pa := rfl
@[simp] theorem State.modAtb_pif (s : State) (f : AtbSt → AtbSt) : (s.modAtb f).pif = s.pif := rfl
@[simp] theorem State.modAtb_pair (s : State) (f : AtbSt → AtbSt) : (s.modAtb f).pair = s.pair := rfl
@[simp] theorem State.modAtb_cap (s : State) (f : AtbSt → AtbSt) : (s.modAtb f).cap = s.cap := rfl
@[simp] theorem State.modAtb_smc (s : State) (f : AtbSt → AtbSt) : (s.modAtb f).smc = s.smc := rfl
@[simp] theorem State.modAtb_pow (s : State) (f : AtbSt → AtbSt) : (s.modAtb f).pow = s.pow := rfl
@[simp] theorem State.modAtb_heads (s : State) (f : AtbSt → AtbSt) : (s.modAtb f).heads = s.heads := rfl
@[simp] theorem State.modAtb_acts (s : State) (f : AtbSt → AtbSt) : (s.modAtb f).acts = s.acts := rfl
@[simp] theorem State.modAtb_recov (s : State) (f : AtbSt → AtbSt) : (s.modAtb f).recov = s.recov := rfl
@[simp] theorem State.modAtb_memp (s : State) (f : AtbSt → AtbSt) : (s.modAtb f).memp = s.memp := rfl
@[simp] theorem State.modAtb_own (s : State) (f : AtbSt → AtbSt) : (s.modAtb f).own = s.own := rfl
@[simp] theorem State.modAtb_chain (s : State) (f : AtbSt → AtbSt) : (s.modAtb f).chain = s.chain := rfl
@[simp] theorem State.modAtb_mctp (s : State) (f : AtbSt → AtbSt) : (s.modAtb f).mctp = s.mctp := rfl
@[simp] theorem State.modAtb_boot (s : State) (f : AtbSt → AtbSt) : (s.modAtb f).boot = s.boot := rfl
@[simp] theorem State.modAtb_out (s : State) (f : AtbSt → AtbSt) : (s.modAtb f).out = s.out := rfl
@[simp] theorem State.modAtb_pending (s : State) (f : AtbSt → AtbSt) : (s.modAtb f).pending = s.pending := rfl

/-! ### modAtbLane -/

@[simp] theorem State.modAtbLane_cycle (s : State) (n : Fin 4) (f : AtbLane → AtbLane) : (s.modAtbLane n f).cycle = s.cycle := rfl
@[simp] theorem State.modAtbLane_fresh (s : State) (n : Fin 4) (f : AtbLane → AtbLane) : (s.modAtbLane n f).fresh = s.fresh := rfl
@[simp] theorem State.modAtbLane_regs (s : State) (n : Fin 4) (f : AtbLane → AtbLane) : (s.modAtbLane n f).regs = s.regs := rfl
@[simp] theorem State.modAtbLane_held (s : State) (n : Fin 4) (f : AtbLane → AtbLane) : (s.modAtbLane n f).held = s.held := rfl
@[simp] theorem State.modAtbLane_mem (s : State) (n : Fin 4) (f : AtbLane → AtbLane) : (s.modAtbLane n f).mem = s.mem := rfl
@[simp] theorem State.modAtbLane_dpi (s : State) (n : Fin 4) (f : AtbLane → AtbLane) : (s.modAtbLane n f).dpi = s.dpi := rfl
@[simp] theorem State.modAtbLane_dpiOn (s : State) (n : Fin 4) (f : AtbLane → AtbLane) : (s.modAtbLane n f).dpiOn = s.dpiOn := rfl
@[simp] theorem State.modAtbLane_evr (s : State) (n : Fin 4) (f : AtbLane → AtbLane) : (s.modAtbLane n f).evr = s.evr := rfl
@[simp] theorem State.modAtbLane_host (s : State) (n : Fin 4) (f : AtbLane → AtbLane) : (s.modAtbLane n f).host = s.host := rfl
@[simp] theorem State.modAtbLane_ns (s : State) (n : Fin 4) (f : AtbLane → AtbLane) : (s.modAtbLane n f).ns = s.ns := rfl
@[simp] theorem State.modAtbLane_xts (s : State) (n : Fin 4) (f : AtbLane → AtbLane) : (s.modAtbLane n f).xts = s.xts := rfl
@[simp] theorem State.modAtbLane_msc (s : State) (n : Fin 4) (f : AtbLane → AtbLane) : (s.modAtbLane n f).msc = s.msc := rfl
@[simp] theorem State.modAtbLane_trs (s : State) (n : Fin 4) (f : AtbLane → AtbLane) : (s.modAtbLane n f).trs = s.trs := rfl
@[simp] theorem State.modAtbLane_cs (s : State) (n : Fin 4) (f : AtbLane → AtbLane) : (s.modAtbLane n f).cs = s.cs := rfl
@[simp] theorem State.modAtbLane_rwc (s : State) (n : Fin 4) (f : AtbLane → AtbLane) : (s.modAtbLane n f).rwc = s.rwc := rfl
@[simp] theorem State.modAtbLane_pa (s : State) (n : Fin 4) (f : AtbLane → AtbLane) : (s.modAtbLane n f).pa = s.pa := rfl
@[simp] theorem State.modAtbLane_pif (s : State) (n : Fin 4) (f : AtbLane → AtbLane) : (s.modAtbLane n f).pif = s.pif := rfl
@[simp] theorem State.modAtbLane_pair (s : State) (n : Fin 4) (f : AtbLane → AtbLane) : (s.modAtbLane n f).pair = s.pair := rfl
@[simp] theorem State.modAtbLane_cap (s : State) (n : Fin 4) (f : AtbLane → AtbLane) : (s.modAtbLane n f).cap = s.cap := rfl
@[simp] theorem State.modAtbLane_smc (s : State) (n : Fin 4) (f : AtbLane → AtbLane) : (s.modAtbLane n f).smc = s.smc := rfl
@[simp] theorem State.modAtbLane_pow (s : State) (n : Fin 4) (f : AtbLane → AtbLane) : (s.modAtbLane n f).pow = s.pow := rfl
@[simp] theorem State.modAtbLane_heads (s : State) (n : Fin 4) (f : AtbLane → AtbLane) : (s.modAtbLane n f).heads = s.heads := rfl
@[simp] theorem State.modAtbLane_acts (s : State) (n : Fin 4) (f : AtbLane → AtbLane) : (s.modAtbLane n f).acts = s.acts := rfl
@[simp] theorem State.modAtbLane_recov (s : State) (n : Fin 4) (f : AtbLane → AtbLane) : (s.modAtbLane n f).recov = s.recov := rfl
@[simp] theorem State.modAtbLane_memp (s : State) (n : Fin 4) (f : AtbLane → AtbLane) : (s.modAtbLane n f).memp = s.memp := rfl
@[simp] theorem State.modAtbLane_own (s : State) (n : Fin 4) (f : AtbLane → AtbLane) : (s.modAtbLane n f).own = s.own := rfl
@[simp] theorem State.modAtbLane_chain (s : State) (n : Fin 4) (f : AtbLane → AtbLane) : (s.modAtbLane n f).chain = s.chain := rfl
@[simp] theorem State.modAtbLane_mctp (s : State) (n : Fin 4) (f : AtbLane → AtbLane) : (s.modAtbLane n f).mctp = s.mctp := rfl
@[simp] theorem State.modAtbLane_boot (s : State) (n : Fin 4) (f : AtbLane → AtbLane) : (s.modAtbLane n f).boot = s.boot := rfl
@[simp] theorem State.modAtbLane_out (s : State) (n : Fin 4) (f : AtbLane → AtbLane) : (s.modAtbLane n f).out = s.out := rfl
@[simp] theorem State.modAtbLane_pending (s : State) (n : Fin 4) (f : AtbLane → AtbLane) : (s.modAtbLane n f).pending = s.pending := rfl

/-! ### modCap -/

@[simp] theorem State.modCap_cycle (s : State) (u : Fin 2) (f : CapSt → CapSt) : (s.modCap u f).cycle = s.cycle := rfl
@[simp] theorem State.modCap_fresh (s : State) (u : Fin 2) (f : CapSt → CapSt) : (s.modCap u f).fresh = s.fresh := rfl
@[simp] theorem State.modCap_regs (s : State) (u : Fin 2) (f : CapSt → CapSt) : (s.modCap u f).regs = s.regs := rfl
@[simp] theorem State.modCap_held (s : State) (u : Fin 2) (f : CapSt → CapSt) : (s.modCap u f).held = s.held := rfl
@[simp] theorem State.modCap_mem (s : State) (u : Fin 2) (f : CapSt → CapSt) : (s.modCap u f).mem = s.mem := rfl
@[simp] theorem State.modCap_dpi (s : State) (u : Fin 2) (f : CapSt → CapSt) : (s.modCap u f).dpi = s.dpi := rfl
@[simp] theorem State.modCap_dpiOn (s : State) (u : Fin 2) (f : CapSt → CapSt) : (s.modCap u f).dpiOn = s.dpiOn := rfl
@[simp] theorem State.modCap_evr (s : State) (u : Fin 2) (f : CapSt → CapSt) : (s.modCap u f).evr = s.evr := rfl
@[simp] theorem State.modCap_atb (s : State) (u : Fin 2) (f : CapSt → CapSt) : (s.modCap u f).atb = s.atb := rfl
@[simp] theorem State.modCap_host (s : State) (u : Fin 2) (f : CapSt → CapSt) : (s.modCap u f).host = s.host := rfl
@[simp] theorem State.modCap_ns (s : State) (u : Fin 2) (f : CapSt → CapSt) : (s.modCap u f).ns = s.ns := rfl
@[simp] theorem State.modCap_xts (s : State) (u : Fin 2) (f : CapSt → CapSt) : (s.modCap u f).xts = s.xts := rfl
@[simp] theorem State.modCap_msc (s : State) (u : Fin 2) (f : CapSt → CapSt) : (s.modCap u f).msc = s.msc := rfl
@[simp] theorem State.modCap_trs (s : State) (u : Fin 2) (f : CapSt → CapSt) : (s.modCap u f).trs = s.trs := rfl
@[simp] theorem State.modCap_cs (s : State) (u : Fin 2) (f : CapSt → CapSt) : (s.modCap u f).cs = s.cs := rfl
@[simp] theorem State.modCap_rwc (s : State) (u : Fin 2) (f : CapSt → CapSt) : (s.modCap u f).rwc = s.rwc := rfl
@[simp] theorem State.modCap_pa (s : State) (u : Fin 2) (f : CapSt → CapSt) : (s.modCap u f).pa = s.pa := rfl
@[simp] theorem State.modCap_pif (s : State) (u : Fin 2) (f : CapSt → CapSt) : (s.modCap u f).pif = s.pif := rfl
@[simp] theorem State.modCap_pair (s : State) (u : Fin 2) (f : CapSt → CapSt) : (s.modCap u f).pair = s.pair := rfl
@[simp] theorem State.modCap_smc (s : State) (u : Fin 2) (f : CapSt → CapSt) : (s.modCap u f).smc = s.smc := rfl
@[simp] theorem State.modCap_pow (s : State) (u : Fin 2) (f : CapSt → CapSt) : (s.modCap u f).pow = s.pow := rfl
@[simp] theorem State.modCap_heads (s : State) (u : Fin 2) (f : CapSt → CapSt) : (s.modCap u f).heads = s.heads := rfl
@[simp] theorem State.modCap_acts (s : State) (u : Fin 2) (f : CapSt → CapSt) : (s.modCap u f).acts = s.acts := rfl
@[simp] theorem State.modCap_recov (s : State) (u : Fin 2) (f : CapSt → CapSt) : (s.modCap u f).recov = s.recov := rfl
@[simp] theorem State.modCap_memp (s : State) (u : Fin 2) (f : CapSt → CapSt) : (s.modCap u f).memp = s.memp := rfl
@[simp] theorem State.modCap_own (s : State) (u : Fin 2) (f : CapSt → CapSt) : (s.modCap u f).own = s.own := rfl
@[simp] theorem State.modCap_chain (s : State) (u : Fin 2) (f : CapSt → CapSt) : (s.modCap u f).chain = s.chain := rfl
@[simp] theorem State.modCap_mctp (s : State) (u : Fin 2) (f : CapSt → CapSt) : (s.modCap u f).mctp = s.mctp := rfl
@[simp] theorem State.modCap_boot (s : State) (u : Fin 2) (f : CapSt → CapSt) : (s.modCap u f).boot = s.boot := rfl
@[simp] theorem State.modCap_out (s : State) (u : Fin 2) (f : CapSt → CapSt) : (s.modCap u f).out = s.out := rfl
@[simp] theorem State.modCap_pending (s : State) (u : Fin 2) (f : CapSt → CapSt) : (s.modCap u f).pending = s.pending := rfl

/-! ### modChain -/

@[simp] theorem State.modChain_cycle (s : State) (f : ChainSt → ChainSt) : (s.modChain f).cycle = s.cycle := rfl
@[simp] theorem State.modChain_fresh (s : State) (f : ChainSt → ChainSt) : (s.modChain f).fresh = s.fresh := rfl
@[simp] theorem State.modChain_regs (s : State) (f : ChainSt → ChainSt) : (s.modChain f).regs = s.regs := rfl
@[simp] theorem State.modChain_held (s : State) (f : ChainSt → ChainSt) : (s.modChain f).held = s.held := rfl
@[simp] theorem State.modChain_mem (s : State) (f : ChainSt → ChainSt) : (s.modChain f).mem = s.mem := rfl
@[simp] theorem State.modChain_dpi (s : State) (f : ChainSt → ChainSt) : (s.modChain f).dpi = s.dpi := rfl
@[simp] theorem State.modChain_dpiOn (s : State) (f : ChainSt → ChainSt) : (s.modChain f).dpiOn = s.dpiOn := rfl
@[simp] theorem State.modChain_evr (s : State) (f : ChainSt → ChainSt) : (s.modChain f).evr = s.evr := rfl
@[simp] theorem State.modChain_atb (s : State) (f : ChainSt → ChainSt) : (s.modChain f).atb = s.atb := rfl
@[simp] theorem State.modChain_host (s : State) (f : ChainSt → ChainSt) : (s.modChain f).host = s.host := rfl
@[simp] theorem State.modChain_ns (s : State) (f : ChainSt → ChainSt) : (s.modChain f).ns = s.ns := rfl
@[simp] theorem State.modChain_xts (s : State) (f : ChainSt → ChainSt) : (s.modChain f).xts = s.xts := rfl
@[simp] theorem State.modChain_msc (s : State) (f : ChainSt → ChainSt) : (s.modChain f).msc = s.msc := rfl
@[simp] theorem State.modChain_trs (s : State) (f : ChainSt → ChainSt) : (s.modChain f).trs = s.trs := rfl
@[simp] theorem State.modChain_cs (s : State) (f : ChainSt → ChainSt) : (s.modChain f).cs = s.cs := rfl
@[simp] theorem State.modChain_rwc (s : State) (f : ChainSt → ChainSt) : (s.modChain f).rwc = s.rwc := rfl
@[simp] theorem State.modChain_pa (s : State) (f : ChainSt → ChainSt) : (s.modChain f).pa = s.pa := rfl
@[simp] theorem State.modChain_pif (s : State) (f : ChainSt → ChainSt) : (s.modChain f).pif = s.pif := rfl
@[simp] theorem State.modChain_pair (s : State) (f : ChainSt → ChainSt) : (s.modChain f).pair = s.pair := rfl
@[simp] theorem State.modChain_cap (s : State) (f : ChainSt → ChainSt) : (s.modChain f).cap = s.cap := rfl
@[simp] theorem State.modChain_smc (s : State) (f : ChainSt → ChainSt) : (s.modChain f).smc = s.smc := rfl
@[simp] theorem State.modChain_pow (s : State) (f : ChainSt → ChainSt) : (s.modChain f).pow = s.pow := rfl
@[simp] theorem State.modChain_heads (s : State) (f : ChainSt → ChainSt) : (s.modChain f).heads = s.heads := rfl
@[simp] theorem State.modChain_acts (s : State) (f : ChainSt → ChainSt) : (s.modChain f).acts = s.acts := rfl
@[simp] theorem State.modChain_recov (s : State) (f : ChainSt → ChainSt) : (s.modChain f).recov = s.recov := rfl
@[simp] theorem State.modChain_memp (s : State) (f : ChainSt → ChainSt) : (s.modChain f).memp = s.memp := rfl
@[simp] theorem State.modChain_own (s : State) (f : ChainSt → ChainSt) : (s.modChain f).own = s.own := rfl
@[simp] theorem State.modChain_mctp (s : State) (f : ChainSt → ChainSt) : (s.modChain f).mctp = s.mctp := rfl
@[simp] theorem State.modChain_boot (s : State) (f : ChainSt → ChainSt) : (s.modChain f).boot = s.boot := rfl
@[simp] theorem State.modChain_out (s : State) (f : ChainSt → ChainSt) : (s.modChain f).out = s.out := rfl
@[simp] theorem State.modChain_pending (s : State) (f : ChainSt → ChainSt) : (s.modChain f).pending = s.pending := rfl

/-! ### modEvr -/

@[simp] theorem State.modEvr_cycle (s : State) (f : EvrSt → EvrSt) : (s.modEvr f).cycle = s.cycle := rfl
@[simp] theorem State.modEvr_fresh (s : State) (f : EvrSt → EvrSt) : (s.modEvr f).fresh = s.fresh := rfl
@[simp] theorem State.modEvr_regs (s : State) (f : EvrSt → EvrSt) : (s.modEvr f).regs = s.regs := rfl
@[simp] theorem State.modEvr_held (s : State) (f : EvrSt → EvrSt) : (s.modEvr f).held = s.held := rfl
@[simp] theorem State.modEvr_mem (s : State) (f : EvrSt → EvrSt) : (s.modEvr f).mem = s.mem := rfl
@[simp] theorem State.modEvr_dpi (s : State) (f : EvrSt → EvrSt) : (s.modEvr f).dpi = s.dpi := rfl
@[simp] theorem State.modEvr_dpiOn (s : State) (f : EvrSt → EvrSt) : (s.modEvr f).dpiOn = s.dpiOn := rfl
@[simp] theorem State.modEvr_atb (s : State) (f : EvrSt → EvrSt) : (s.modEvr f).atb = s.atb := rfl
@[simp] theorem State.modEvr_host (s : State) (f : EvrSt → EvrSt) : (s.modEvr f).host = s.host := rfl
@[simp] theorem State.modEvr_ns (s : State) (f : EvrSt → EvrSt) : (s.modEvr f).ns = s.ns := rfl
@[simp] theorem State.modEvr_xts (s : State) (f : EvrSt → EvrSt) : (s.modEvr f).xts = s.xts := rfl
@[simp] theorem State.modEvr_msc (s : State) (f : EvrSt → EvrSt) : (s.modEvr f).msc = s.msc := rfl
@[simp] theorem State.modEvr_trs (s : State) (f : EvrSt → EvrSt) : (s.modEvr f).trs = s.trs := rfl
@[simp] theorem State.modEvr_cs (s : State) (f : EvrSt → EvrSt) : (s.modEvr f).cs = s.cs := rfl
@[simp] theorem State.modEvr_rwc (s : State) (f : EvrSt → EvrSt) : (s.modEvr f).rwc = s.rwc := rfl
@[simp] theorem State.modEvr_pa (s : State) (f : EvrSt → EvrSt) : (s.modEvr f).pa = s.pa := rfl
@[simp] theorem State.modEvr_pif (s : State) (f : EvrSt → EvrSt) : (s.modEvr f).pif = s.pif := rfl
@[simp] theorem State.modEvr_pair (s : State) (f : EvrSt → EvrSt) : (s.modEvr f).pair = s.pair := rfl
@[simp] theorem State.modEvr_cap (s : State) (f : EvrSt → EvrSt) : (s.modEvr f).cap = s.cap := rfl
@[simp] theorem State.modEvr_smc (s : State) (f : EvrSt → EvrSt) : (s.modEvr f).smc = s.smc := rfl
@[simp] theorem State.modEvr_pow (s : State) (f : EvrSt → EvrSt) : (s.modEvr f).pow = s.pow := rfl
@[simp] theorem State.modEvr_heads (s : State) (f : EvrSt → EvrSt) : (s.modEvr f).heads = s.heads := rfl
@[simp] theorem State.modEvr_acts (s : State) (f : EvrSt → EvrSt) : (s.modEvr f).acts = s.acts := rfl
@[simp] theorem State.modEvr_recov (s : State) (f : EvrSt → EvrSt) : (s.modEvr f).recov = s.recov := rfl
@[simp] theorem State.modEvr_memp (s : State) (f : EvrSt → EvrSt) : (s.modEvr f).memp = s.memp := rfl
@[simp] theorem State.modEvr_own (s : State) (f : EvrSt → EvrSt) : (s.modEvr f).own = s.own := rfl
@[simp] theorem State.modEvr_chain (s : State) (f : EvrSt → EvrSt) : (s.modEvr f).chain = s.chain := rfl
@[simp] theorem State.modEvr_mctp (s : State) (f : EvrSt → EvrSt) : (s.modEvr f).mctp = s.mctp := rfl
@[simp] theorem State.modEvr_boot (s : State) (f : EvrSt → EvrSt) : (s.modEvr f).boot = s.boot := rfl
@[simp] theorem State.modEvr_out (s : State) (f : EvrSt → EvrSt) : (s.modEvr f).out = s.out := rfl
@[simp] theorem State.modEvr_pending (s : State) (f : EvrSt → EvrSt) : (s.modEvr f).pending = s.pending := rfl

/-! ### modPair -/

@[simp] theorem State.modPair_cycle (s : State) (n : Fin 4) (f : PairSt → PairSt) : (s.modPair n f).cycle = s.cycle := rfl
@[simp] theorem State.modPair_fresh (s : State) (n : Fin 4) (f : PairSt → PairSt) : (s.modPair n f).fresh = s.fresh := rfl
@[simp] theorem State.modPair_regs (s : State) (n : Fin 4) (f : PairSt → PairSt) : (s.modPair n f).regs = s.regs := rfl
@[simp] theorem State.modPair_held (s : State) (n : Fin 4) (f : PairSt → PairSt) : (s.modPair n f).held = s.held := rfl
@[simp] theorem State.modPair_mem (s : State) (n : Fin 4) (f : PairSt → PairSt) : (s.modPair n f).mem = s.mem := rfl
@[simp] theorem State.modPair_dpi (s : State) (n : Fin 4) (f : PairSt → PairSt) : (s.modPair n f).dpi = s.dpi := rfl
@[simp] theorem State.modPair_dpiOn (s : State) (n : Fin 4) (f : PairSt → PairSt) : (s.modPair n f).dpiOn = s.dpiOn := rfl
@[simp] theorem State.modPair_evr (s : State) (n : Fin 4) (f : PairSt → PairSt) : (s.modPair n f).evr = s.evr := rfl
@[simp] theorem State.modPair_atb (s : State) (n : Fin 4) (f : PairSt → PairSt) : (s.modPair n f).atb = s.atb := rfl
@[simp] theorem State.modPair_host (s : State) (n : Fin 4) (f : PairSt → PairSt) : (s.modPair n f).host = s.host := rfl
@[simp] theorem State.modPair_ns (s : State) (n : Fin 4) (f : PairSt → PairSt) : (s.modPair n f).ns = s.ns := rfl
@[simp] theorem State.modPair_xts (s : State) (n : Fin 4) (f : PairSt → PairSt) : (s.modPair n f).xts = s.xts := rfl
@[simp] theorem State.modPair_msc (s : State) (n : Fin 4) (f : PairSt → PairSt) : (s.modPair n f).msc = s.msc := rfl
@[simp] theorem State.modPair_trs (s : State) (n : Fin 4) (f : PairSt → PairSt) : (s.modPair n f).trs = s.trs := rfl
@[simp] theorem State.modPair_cs (s : State) (n : Fin 4) (f : PairSt → PairSt) : (s.modPair n f).cs = s.cs := rfl
@[simp] theorem State.modPair_rwc (s : State) (n : Fin 4) (f : PairSt → PairSt) : (s.modPair n f).rwc = s.rwc := rfl
@[simp] theorem State.modPair_pa (s : State) (n : Fin 4) (f : PairSt → PairSt) : (s.modPair n f).pa = s.pa := rfl
@[simp] theorem State.modPair_pif (s : State) (n : Fin 4) (f : PairSt → PairSt) : (s.modPair n f).pif = s.pif := rfl
@[simp] theorem State.modPair_cap (s : State) (n : Fin 4) (f : PairSt → PairSt) : (s.modPair n f).cap = s.cap := rfl
@[simp] theorem State.modPair_smc (s : State) (n : Fin 4) (f : PairSt → PairSt) : (s.modPair n f).smc = s.smc := rfl
@[simp] theorem State.modPair_pow (s : State) (n : Fin 4) (f : PairSt → PairSt) : (s.modPair n f).pow = s.pow := rfl
@[simp] theorem State.modPair_heads (s : State) (n : Fin 4) (f : PairSt → PairSt) : (s.modPair n f).heads = s.heads := rfl
@[simp] theorem State.modPair_acts (s : State) (n : Fin 4) (f : PairSt → PairSt) : (s.modPair n f).acts = s.acts := rfl
@[simp] theorem State.modPair_recov (s : State) (n : Fin 4) (f : PairSt → PairSt) : (s.modPair n f).recov = s.recov := rfl
@[simp] theorem State.modPair_memp (s : State) (n : Fin 4) (f : PairSt → PairSt) : (s.modPair n f).memp = s.memp := rfl
@[simp] theorem State.modPair_own (s : State) (n : Fin 4) (f : PairSt → PairSt) : (s.modPair n f).own = s.own := rfl
@[simp] theorem State.modPair_chain (s : State) (n : Fin 4) (f : PairSt → PairSt) : (s.modPair n f).chain = s.chain := rfl
@[simp] theorem State.modPair_mctp (s : State) (n : Fin 4) (f : PairSt → PairSt) : (s.modPair n f).mctp = s.mctp := rfl
@[simp] theorem State.modPair_boot (s : State) (n : Fin 4) (f : PairSt → PairSt) : (s.modPair n f).boot = s.boot := rfl
@[simp] theorem State.modPair_out (s : State) (n : Fin 4) (f : PairSt → PairSt) : (s.modPair n f).out = s.out := rfl
@[simp] theorem State.modPair_pending (s : State) (n : Fin 4) (f : PairSt → PairSt) : (s.modPair n f).pending = s.pending := rfl

/-! ### modBoot -/

@[simp] theorem State.modBoot_cycle (s : State) (f : BootSt → BootSt) : (s.modBoot f).cycle = s.cycle := rfl
@[simp] theorem State.modBoot_fresh (s : State) (f : BootSt → BootSt) : (s.modBoot f).fresh = s.fresh := rfl
@[simp] theorem State.modBoot_regs (s : State) (f : BootSt → BootSt) : (s.modBoot f).regs = s.regs := rfl
@[simp] theorem State.modBoot_held (s : State) (f : BootSt → BootSt) : (s.modBoot f).held = s.held := rfl
@[simp] theorem State.modBoot_mem (s : State) (f : BootSt → BootSt) : (s.modBoot f).mem = s.mem := rfl
@[simp] theorem State.modBoot_dpi (s : State) (f : BootSt → BootSt) : (s.modBoot f).dpi = s.dpi := rfl
@[simp] theorem State.modBoot_dpiOn (s : State) (f : BootSt → BootSt) : (s.modBoot f).dpiOn = s.dpiOn := rfl
@[simp] theorem State.modBoot_evr (s : State) (f : BootSt → BootSt) : (s.modBoot f).evr = s.evr := rfl
@[simp] theorem State.modBoot_atb (s : State) (f : BootSt → BootSt) : (s.modBoot f).atb = s.atb := rfl
@[simp] theorem State.modBoot_host (s : State) (f : BootSt → BootSt) : (s.modBoot f).host = s.host := rfl
@[simp] theorem State.modBoot_ns (s : State) (f : BootSt → BootSt) : (s.modBoot f).ns = s.ns := rfl
@[simp] theorem State.modBoot_xts (s : State) (f : BootSt → BootSt) : (s.modBoot f).xts = s.xts := rfl
@[simp] theorem State.modBoot_msc (s : State) (f : BootSt → BootSt) : (s.modBoot f).msc = s.msc := rfl
@[simp] theorem State.modBoot_trs (s : State) (f : BootSt → BootSt) : (s.modBoot f).trs = s.trs := rfl
@[simp] theorem State.modBoot_cs (s : State) (f : BootSt → BootSt) : (s.modBoot f).cs = s.cs := rfl
@[simp] theorem State.modBoot_rwc (s : State) (f : BootSt → BootSt) : (s.modBoot f).rwc = s.rwc := rfl
@[simp] theorem State.modBoot_pa (s : State) (f : BootSt → BootSt) : (s.modBoot f).pa = s.pa := rfl
@[simp] theorem State.modBoot_pif (s : State) (f : BootSt → BootSt) : (s.modBoot f).pif = s.pif := rfl
@[simp] theorem State.modBoot_pair (s : State) (f : BootSt → BootSt) : (s.modBoot f).pair = s.pair := rfl
@[simp] theorem State.modBoot_cap (s : State) (f : BootSt → BootSt) : (s.modBoot f).cap = s.cap := rfl
@[simp] theorem State.modBoot_smc (s : State) (f : BootSt → BootSt) : (s.modBoot f).smc = s.smc := rfl
@[simp] theorem State.modBoot_pow (s : State) (f : BootSt → BootSt) : (s.modBoot f).pow = s.pow := rfl
@[simp] theorem State.modBoot_heads (s : State) (f : BootSt → BootSt) : (s.modBoot f).heads = s.heads := rfl
@[simp] theorem State.modBoot_acts (s : State) (f : BootSt → BootSt) : (s.modBoot f).acts = s.acts := rfl
@[simp] theorem State.modBoot_recov (s : State) (f : BootSt → BootSt) : (s.modBoot f).recov = s.recov := rfl
@[simp] theorem State.modBoot_memp (s : State) (f : BootSt → BootSt) : (s.modBoot f).memp = s.memp := rfl
@[simp] theorem State.modBoot_own (s : State) (f : BootSt → BootSt) : (s.modBoot f).own = s.own := rfl
@[simp] theorem State.modBoot_chain (s : State) (f : BootSt → BootSt) : (s.modBoot f).chain = s.chain := rfl
@[simp] theorem State.modBoot_mctp (s : State) (f : BootSt → BootSt) : (s.modBoot f).mctp = s.mctp := rfl
@[simp] theorem State.modBoot_out (s : State) (f : BootSt → BootSt) : (s.modBoot f).out = s.out := rfl
@[simp] theorem State.modBoot_pending (s : State) (f : BootSt → BootSt) : (s.modBoot f).pending = s.pending := rfl

/-! ### modCtx -/

@[simp] theorem State.modCtx_cycle (s : State) (a : Nat) (f : Ctx → Ctx) : (s.modCtx a f).cycle = s.cycle := rfl
@[simp] theorem State.modCtx_fresh (s : State) (a : Nat) (f : Ctx → Ctx) : (s.modCtx a f).fresh = s.fresh := rfl
@[simp] theorem State.modCtx_regs (s : State) (a : Nat) (f : Ctx → Ctx) : (s.modCtx a f).regs = s.regs := rfl
@[simp] theorem State.modCtx_held (s : State) (a : Nat) (f : Ctx → Ctx) : (s.modCtx a f).held = s.held := rfl
@[simp] theorem State.modCtx_mem (s : State) (a : Nat) (f : Ctx → Ctx) : (s.modCtx a f).mem = s.mem := rfl
@[simp] theorem State.modCtx_dpi (s : State) (a : Nat) (f : Ctx → Ctx) : (s.modCtx a f).dpi = s.dpi := rfl
@[simp] theorem State.modCtx_dpiOn (s : State) (a : Nat) (f : Ctx → Ctx) : (s.modCtx a f).dpiOn = s.dpiOn := rfl
@[simp] theorem State.modCtx_evr (s : State) (a : Nat) (f : Ctx → Ctx) : (s.modCtx a f).evr = s.evr := rfl
@[simp] theorem State.modCtx_atb (s : State) (a : Nat) (f : Ctx → Ctx) : (s.modCtx a f).atb = s.atb := rfl
@[simp] theorem State.modCtx_ns (s : State) (a : Nat) (f : Ctx → Ctx) : (s.modCtx a f).ns = s.ns := rfl
@[simp] theorem State.modCtx_xts (s : State) (a : Nat) (f : Ctx → Ctx) : (s.modCtx a f).xts = s.xts := rfl
@[simp] theorem State.modCtx_msc (s : State) (a : Nat) (f : Ctx → Ctx) : (s.modCtx a f).msc = s.msc := rfl
@[simp] theorem State.modCtx_trs (s : State) (a : Nat) (f : Ctx → Ctx) : (s.modCtx a f).trs = s.trs := rfl
@[simp] theorem State.modCtx_cs (s : State) (a : Nat) (f : Ctx → Ctx) : (s.modCtx a f).cs = s.cs := rfl
@[simp] theorem State.modCtx_rwc (s : State) (a : Nat) (f : Ctx → Ctx) : (s.modCtx a f).rwc = s.rwc := rfl
@[simp] theorem State.modCtx_pa (s : State) (a : Nat) (f : Ctx → Ctx) : (s.modCtx a f).pa = s.pa := rfl
@[simp] theorem State.modCtx_pif (s : State) (a : Nat) (f : Ctx → Ctx) : (s.modCtx a f).pif = s.pif := rfl
@[simp] theorem State.modCtx_pair (s : State) (a : Nat) (f : Ctx → Ctx) : (s.modCtx a f).pair = s.pair := rfl
@[simp] theorem State.modCtx_cap (s : State) (a : Nat) (f : Ctx → Ctx) : (s.modCtx a f).cap = s.cap := rfl
@[simp] theorem State.modCtx_smc (s : State) (a : Nat) (f : Ctx → Ctx) : (s.modCtx a f).smc = s.smc := rfl
@[simp] theorem State.modCtx_pow (s : State) (a : Nat) (f : Ctx → Ctx) : (s.modCtx a f).pow = s.pow := rfl
@[simp] theorem State.modCtx_heads (s : State) (a : Nat) (f : Ctx → Ctx) : (s.modCtx a f).heads = s.heads := rfl
@[simp] theorem State.modCtx_acts (s : State) (a : Nat) (f : Ctx → Ctx) : (s.modCtx a f).acts = s.acts := rfl
@[simp] theorem State.modCtx_recov (s : State) (a : Nat) (f : Ctx → Ctx) : (s.modCtx a f).recov = s.recov := rfl
@[simp] theorem State.modCtx_memp (s : State) (a : Nat) (f : Ctx → Ctx) : (s.modCtx a f).memp = s.memp := rfl
@[simp] theorem State.modCtx_own (s : State) (a : Nat) (f : Ctx → Ctx) : (s.modCtx a f).own = s.own := rfl
@[simp] theorem State.modCtx_chain (s : State) (a : Nat) (f : Ctx → Ctx) : (s.modCtx a f).chain = s.chain := rfl
@[simp] theorem State.modCtx_mctp (s : State) (a : Nat) (f : Ctx → Ctx) : (s.modCtx a f).mctp = s.mctp := rfl
@[simp] theorem State.modCtx_boot (s : State) (a : Nat) (f : Ctx → Ctx) : (s.modCtx a f).boot = s.boot := rfl
@[simp] theorem State.modCtx_out (s : State) (a : Nat) (f : Ctx → Ctx) : (s.modCtx a f).out = s.out := rfl
@[simp] theorem State.modCtx_pending (s : State) (a : Nat) (f : Ctx → Ctx) : (s.modCtx a f).pending = s.pending := rfl

/-! ### modNsSt -/

@[simp] theorem State.modNsSt_cycle (s : State) (f : NsSt → NsSt) : (s.modNsSt f).cycle = s.cycle := rfl
@[simp] theorem State.modNsSt_fresh (s : State) (f : NsSt → NsSt) : (s.modNsSt f).fresh = s.fresh := rfl
@[simp] theorem State.modNsSt_regs (s : State) (f : NsSt → NsSt) : (s.modNsSt f).regs = s.regs := rfl
@[simp] theorem State.modNsSt_held (s : State) (f : NsSt → NsSt) : (s.modNsSt f).held = s.held := rfl
@[simp] theorem State.modNsSt_mem (s : State) (f : NsSt → NsSt) : (s.modNsSt f).mem = s.mem := rfl
@[simp] theorem State.modNsSt_dpi (s : State) (f : NsSt → NsSt) : (s.modNsSt f).dpi = s.dpi := rfl
@[simp] theorem State.modNsSt_dpiOn (s : State) (f : NsSt → NsSt) : (s.modNsSt f).dpiOn = s.dpiOn := rfl
@[simp] theorem State.modNsSt_evr (s : State) (f : NsSt → NsSt) : (s.modNsSt f).evr = s.evr := rfl
@[simp] theorem State.modNsSt_atb (s : State) (f : NsSt → NsSt) : (s.modNsSt f).atb = s.atb := rfl
@[simp] theorem State.modNsSt_host (s : State) (f : NsSt → NsSt) : (s.modNsSt f).host = s.host := rfl
@[simp] theorem State.modNsSt_xts (s : State) (f : NsSt → NsSt) : (s.modNsSt f).xts = s.xts := rfl
@[simp] theorem State.modNsSt_msc (s : State) (f : NsSt → NsSt) : (s.modNsSt f).msc = s.msc := rfl
@[simp] theorem State.modNsSt_trs (s : State) (f : NsSt → NsSt) : (s.modNsSt f).trs = s.trs := rfl
@[simp] theorem State.modNsSt_cs (s : State) (f : NsSt → NsSt) : (s.modNsSt f).cs = s.cs := rfl
@[simp] theorem State.modNsSt_rwc (s : State) (f : NsSt → NsSt) : (s.modNsSt f).rwc = s.rwc := rfl
@[simp] theorem State.modNsSt_pa (s : State) (f : NsSt → NsSt) : (s.modNsSt f).pa = s.pa := rfl
@[simp] theorem State.modNsSt_pif (s : State) (f : NsSt → NsSt) : (s.modNsSt f).pif = s.pif := rfl
@[simp] theorem State.modNsSt_pair (s : State) (f : NsSt → NsSt) : (s.modNsSt f).pair = s.pair := rfl
@[simp] theorem State.modNsSt_cap (s : State) (f : NsSt → NsSt) : (s.modNsSt f).cap = s.cap := rfl
@[simp] theorem State.modNsSt_smc (s : State) (f : NsSt → NsSt) : (s.modNsSt f).smc = s.smc := rfl
@[simp] theorem State.modNsSt_pow (s : State) (f : NsSt → NsSt) : (s.modNsSt f).pow = s.pow := rfl
@[simp] theorem State.modNsSt_heads (s : State) (f : NsSt → NsSt) : (s.modNsSt f).heads = s.heads := rfl
@[simp] theorem State.modNsSt_acts (s : State) (f : NsSt → NsSt) : (s.modNsSt f).acts = s.acts := rfl
@[simp] theorem State.modNsSt_recov (s : State) (f : NsSt → NsSt) : (s.modNsSt f).recov = s.recov := rfl
@[simp] theorem State.modNsSt_memp (s : State) (f : NsSt → NsSt) : (s.modNsSt f).memp = s.memp := rfl
@[simp] theorem State.modNsSt_own (s : State) (f : NsSt → NsSt) : (s.modNsSt f).own = s.own := rfl
@[simp] theorem State.modNsSt_chain (s : State) (f : NsSt → NsSt) : (s.modNsSt f).chain = s.chain := rfl
@[simp] theorem State.modNsSt_mctp (s : State) (f : NsSt → NsSt) : (s.modNsSt f).mctp = s.mctp := rfl
@[simp] theorem State.modNsSt_boot (s : State) (f : NsSt → NsSt) : (s.modNsSt f).boot = s.boot := rfl
@[simp] theorem State.modNsSt_out (s : State) (f : NsSt → NsSt) : (s.modNsSt f).out = s.out := rfl
@[simp] theorem State.modNsSt_pending (s : State) (f : NsSt → NsSt) : (s.modNsSt f).pending = s.pending := rfl

/-! ### modNs -/

@[simp] theorem State.modNs_cycle (s : State) (k : Nat) (f : Ns → Ns) : (s.modNs k f).cycle = s.cycle := rfl
@[simp] theorem State.modNs_fresh (s : State) (k : Nat) (f : Ns → Ns) : (s.modNs k f).fresh = s.fresh := rfl
@[simp] theorem State.modNs_regs (s : State) (k : Nat) (f : Ns → Ns) : (s.modNs k f).regs = s.regs := rfl
@[simp] theorem State.modNs_held (s : State) (k : Nat) (f : Ns → Ns) : (s.modNs k f).held = s.held := rfl
@[simp] theorem State.modNs_mem (s : State) (k : Nat) (f : Ns → Ns) : (s.modNs k f).mem = s.mem := rfl
@[simp] theorem State.modNs_dpi (s : State) (k : Nat) (f : Ns → Ns) : (s.modNs k f).dpi = s.dpi := rfl
@[simp] theorem State.modNs_dpiOn (s : State) (k : Nat) (f : Ns → Ns) : (s.modNs k f).dpiOn = s.dpiOn := rfl
@[simp] theorem State.modNs_evr (s : State) (k : Nat) (f : Ns → Ns) : (s.modNs k f).evr = s.evr := rfl
@[simp] theorem State.modNs_atb (s : State) (k : Nat) (f : Ns → Ns) : (s.modNs k f).atb = s.atb := rfl
@[simp] theorem State.modNs_host (s : State) (k : Nat) (f : Ns → Ns) : (s.modNs k f).host = s.host := rfl
@[simp] theorem State.modNs_xts (s : State) (k : Nat) (f : Ns → Ns) : (s.modNs k f).xts = s.xts := rfl
@[simp] theorem State.modNs_msc (s : State) (k : Nat) (f : Ns → Ns) : (s.modNs k f).msc = s.msc := rfl
@[simp] theorem State.modNs_trs (s : State) (k : Nat) (f : Ns → Ns) : (s.modNs k f).trs = s.trs := rfl
@[simp] theorem State.modNs_cs (s : State) (k : Nat) (f : Ns → Ns) : (s.modNs k f).cs = s.cs := rfl
@[simp] theorem State.modNs_rwc (s : State) (k : Nat) (f : Ns → Ns) : (s.modNs k f).rwc = s.rwc := rfl
@[simp] theorem State.modNs_pa (s : State) (k : Nat) (f : Ns → Ns) : (s.modNs k f).pa = s.pa := rfl
@[simp] theorem State.modNs_pif (s : State) (k : Nat) (f : Ns → Ns) : (s.modNs k f).pif = s.pif := rfl
@[simp] theorem State.modNs_pair (s : State) (k : Nat) (f : Ns → Ns) : (s.modNs k f).pair = s.pair := rfl
@[simp] theorem State.modNs_cap (s : State) (k : Nat) (f : Ns → Ns) : (s.modNs k f).cap = s.cap := rfl
@[simp] theorem State.modNs_smc (s : State) (k : Nat) (f : Ns → Ns) : (s.modNs k f).smc = s.smc := rfl
@[simp] theorem State.modNs_pow (s : State) (k : Nat) (f : Ns → Ns) : (s.modNs k f).pow = s.pow := rfl
@[simp] theorem State.modNs_heads (s : State) (k : Nat) (f : Ns → Ns) : (s.modNs k f).heads = s.heads := rfl
@[simp] theorem State.modNs_acts (s : State) (k : Nat) (f : Ns → Ns) : (s.modNs k f).acts = s.acts := rfl
@[simp] theorem State.modNs_recov (s : State) (k : Nat) (f : Ns → Ns) : (s.modNs k f).recov = s.recov := rfl
@[simp] theorem State.modNs_memp (s : State) (k : Nat) (f : Ns → Ns) : (s.modNs k f).memp = s.memp := rfl
@[simp] theorem State.modNs_own (s : State) (k : Nat) (f : Ns → Ns) : (s.modNs k f).own = s.own := rfl
@[simp] theorem State.modNs_chain (s : State) (k : Nat) (f : Ns → Ns) : (s.modNs k f).chain = s.chain := rfl
@[simp] theorem State.modNs_mctp (s : State) (k : Nat) (f : Ns → Ns) : (s.modNs k f).mctp = s.mctp := rfl
@[simp] theorem State.modNs_boot (s : State) (k : Nat) (f : Ns → Ns) : (s.modNs k f).boot = s.boot := rfl
@[simp] theorem State.modNs_out (s : State) (k : Nat) (f : Ns → Ns) : (s.modNs k f).out = s.out := rfl
@[simp] theorem State.modNs_pending (s : State) (k : Nat) (f : Ns → Ns) : (s.modNs k f).pending = s.pending := rfl

/-! ### modHead -/

@[simp] theorem State.modHead_cycle (s : State) (h : Nat) (f : HeadHealth → HeadHealth) : (s.modHead h f).cycle = s.cycle := rfl
@[simp] theorem State.modHead_fresh (s : State) (h : Nat) (f : HeadHealth → HeadHealth) : (s.modHead h f).fresh = s.fresh := rfl
@[simp] theorem State.modHead_regs (s : State) (h : Nat) (f : HeadHealth → HeadHealth) : (s.modHead h f).regs = s.regs := rfl
@[simp] theorem State.modHead_held (s : State) (h : Nat) (f : HeadHealth → HeadHealth) : (s.modHead h f).held = s.held := rfl
@[simp] theorem State.modHead_mem (s : State) (h : Nat) (f : HeadHealth → HeadHealth) : (s.modHead h f).mem = s.mem := rfl
@[simp] theorem State.modHead_dpi (s : State) (h : Nat) (f : HeadHealth → HeadHealth) : (s.modHead h f).dpi = s.dpi := rfl
@[simp] theorem State.modHead_dpiOn (s : State) (h : Nat) (f : HeadHealth → HeadHealth) : (s.modHead h f).dpiOn = s.dpiOn := rfl
@[simp] theorem State.modHead_evr (s : State) (h : Nat) (f : HeadHealth → HeadHealth) : (s.modHead h f).evr = s.evr := rfl
@[simp] theorem State.modHead_atb (s : State) (h : Nat) (f : HeadHealth → HeadHealth) : (s.modHead h f).atb = s.atb := rfl
@[simp] theorem State.modHead_host (s : State) (h : Nat) (f : HeadHealth → HeadHealth) : (s.modHead h f).host = s.host := rfl
@[simp] theorem State.modHead_ns (s : State) (h : Nat) (f : HeadHealth → HeadHealth) : (s.modHead h f).ns = s.ns := rfl
@[simp] theorem State.modHead_xts (s : State) (h : Nat) (f : HeadHealth → HeadHealth) : (s.modHead h f).xts = s.xts := rfl
@[simp] theorem State.modHead_msc (s : State) (h : Nat) (f : HeadHealth → HeadHealth) : (s.modHead h f).msc = s.msc := rfl
@[simp] theorem State.modHead_trs (s : State) (h : Nat) (f : HeadHealth → HeadHealth) : (s.modHead h f).trs = s.trs := rfl
@[simp] theorem State.modHead_cs (s : State) (h : Nat) (f : HeadHealth → HeadHealth) : (s.modHead h f).cs = s.cs := rfl
@[simp] theorem State.modHead_rwc (s : State) (h : Nat) (f : HeadHealth → HeadHealth) : (s.modHead h f).rwc = s.rwc := rfl
@[simp] theorem State.modHead_pa (s : State) (h : Nat) (f : HeadHealth → HeadHealth) : (s.modHead h f).pa = s.pa := rfl
@[simp] theorem State.modHead_pif (s : State) (h : Nat) (f : HeadHealth → HeadHealth) : (s.modHead h f).pif = s.pif := rfl
@[simp] theorem State.modHead_pair (s : State) (h : Nat) (f : HeadHealth → HeadHealth) : (s.modHead h f).pair = s.pair := rfl
@[simp] theorem State.modHead_cap (s : State) (h : Nat) (f : HeadHealth → HeadHealth) : (s.modHead h f).cap = s.cap := rfl
@[simp] theorem State.modHead_smc (s : State) (h : Nat) (f : HeadHealth → HeadHealth) : (s.modHead h f).smc = s.smc := rfl
@[simp] theorem State.modHead_pow (s : State) (h : Nat) (f : HeadHealth → HeadHealth) : (s.modHead h f).pow = s.pow := rfl
@[simp] theorem State.modHead_acts (s : State) (h : Nat) (f : HeadHealth → HeadHealth) : (s.modHead h f).acts = s.acts := rfl
@[simp] theorem State.modHead_recov (s : State) (h : Nat) (f : HeadHealth → HeadHealth) : (s.modHead h f).recov = s.recov := rfl
@[simp] theorem State.modHead_memp (s : State) (h : Nat) (f : HeadHealth → HeadHealth) : (s.modHead h f).memp = s.memp := rfl
@[simp] theorem State.modHead_own (s : State) (h : Nat) (f : HeadHealth → HeadHealth) : (s.modHead h f).own = s.own := rfl
@[simp] theorem State.modHead_chain (s : State) (h : Nat) (f : HeadHealth → HeadHealth) : (s.modHead h f).chain = s.chain := rfl
@[simp] theorem State.modHead_mctp (s : State) (h : Nat) (f : HeadHealth → HeadHealth) : (s.modHead h f).mctp = s.mctp := rfl
@[simp] theorem State.modHead_boot (s : State) (h : Nat) (f : HeadHealth → HeadHealth) : (s.modHead h f).boot = s.boot := rfl
@[simp] theorem State.modHead_out (s : State) (h : Nat) (f : HeadHealth → HeadHealth) : (s.modHead h f).out = s.out := rfl
@[simp] theorem State.modHead_pending (s : State) (h : Nat) (f : HeadHealth → HeadHealth) : (s.modHead h f).pending = s.pending := rfl

/-! ### modMem -/

@[simp] theorem State.modMem_cycle (s : State) (f : MemSt → MemSt) : (s.modMem f).cycle = s.cycle := rfl
@[simp] theorem State.modMem_fresh (s : State) (f : MemSt → MemSt) : (s.modMem f).fresh = s.fresh := rfl
@[simp] theorem State.modMem_regs (s : State) (f : MemSt → MemSt) : (s.modMem f).regs = s.regs := rfl
@[simp] theorem State.modMem_held (s : State) (f : MemSt → MemSt) : (s.modMem f).held = s.held := rfl
@[simp] theorem State.modMem_mem (s : State) (f : MemSt → MemSt) : (s.modMem f).mem = s.mem := rfl
@[simp] theorem State.modMem_dpi (s : State) (f : MemSt → MemSt) : (s.modMem f).dpi = s.dpi := rfl
@[simp] theorem State.modMem_dpiOn (s : State) (f : MemSt → MemSt) : (s.modMem f).dpiOn = s.dpiOn := rfl
@[simp] theorem State.modMem_evr (s : State) (f : MemSt → MemSt) : (s.modMem f).evr = s.evr := rfl
@[simp] theorem State.modMem_atb (s : State) (f : MemSt → MemSt) : (s.modMem f).atb = s.atb := rfl
@[simp] theorem State.modMem_host (s : State) (f : MemSt → MemSt) : (s.modMem f).host = s.host := rfl
@[simp] theorem State.modMem_ns (s : State) (f : MemSt → MemSt) : (s.modMem f).ns = s.ns := rfl
@[simp] theorem State.modMem_xts (s : State) (f : MemSt → MemSt) : (s.modMem f).xts = s.xts := rfl
@[simp] theorem State.modMem_msc (s : State) (f : MemSt → MemSt) : (s.modMem f).msc = s.msc := rfl
@[simp] theorem State.modMem_trs (s : State) (f : MemSt → MemSt) : (s.modMem f).trs = s.trs := rfl
@[simp] theorem State.modMem_cs (s : State) (f : MemSt → MemSt) : (s.modMem f).cs = s.cs := rfl
@[simp] theorem State.modMem_rwc (s : State) (f : MemSt → MemSt) : (s.modMem f).rwc = s.rwc := rfl
@[simp] theorem State.modMem_pa (s : State) (f : MemSt → MemSt) : (s.modMem f).pa = s.pa := rfl
@[simp] theorem State.modMem_pif (s : State) (f : MemSt → MemSt) : (s.modMem f).pif = s.pif := rfl
@[simp] theorem State.modMem_pair (s : State) (f : MemSt → MemSt) : (s.modMem f).pair = s.pair := rfl
@[simp] theorem State.modMem_cap (s : State) (f : MemSt → MemSt) : (s.modMem f).cap = s.cap := rfl
@[simp] theorem State.modMem_smc (s : State) (f : MemSt → MemSt) : (s.modMem f).smc = s.smc := rfl
@[simp] theorem State.modMem_pow (s : State) (f : MemSt → MemSt) : (s.modMem f).pow = s.pow := rfl
@[simp] theorem State.modMem_heads (s : State) (f : MemSt → MemSt) : (s.modMem f).heads = s.heads := rfl
@[simp] theorem State.modMem_acts (s : State) (f : MemSt → MemSt) : (s.modMem f).acts = s.acts := rfl
@[simp] theorem State.modMem_recov (s : State) (f : MemSt → MemSt) : (s.modMem f).recov = s.recov := rfl
@[simp] theorem State.modMem_own (s : State) (f : MemSt → MemSt) : (s.modMem f).own = s.own := rfl
@[simp] theorem State.modMem_chain (s : State) (f : MemSt → MemSt) : (s.modMem f).chain = s.chain := rfl
@[simp] theorem State.modMem_mctp (s : State) (f : MemSt → MemSt) : (s.modMem f).mctp = s.mctp := rfl
@[simp] theorem State.modMem_boot (s : State) (f : MemSt → MemSt) : (s.modMem f).boot = s.boot := rfl
@[simp] theorem State.modMem_out (s : State) (f : MemSt → MemSt) : (s.modMem f).out = s.out := rfl
@[simp] theorem State.modMem_pending (s : State) (f : MemSt → MemSt) : (s.modMem f).pending = s.pending := rfl

/-! ### modOwn -/

@[simp] theorem State.modOwn_cycle (s : State) (f : OwnSt → OwnSt) : (s.modOwn f).cycle = s.cycle := rfl
@[simp] theorem State.modOwn_fresh (s : State) (f : OwnSt → OwnSt) : (s.modOwn f).fresh = s.fresh := rfl
@[simp] theorem State.modOwn_regs (s : State) (f : OwnSt → OwnSt) : (s.modOwn f).regs = s.regs := rfl
@[simp] theorem State.modOwn_held (s : State) (f : OwnSt → OwnSt) : (s.modOwn f).held = s.held := rfl
@[simp] theorem State.modOwn_mem (s : State) (f : OwnSt → OwnSt) : (s.modOwn f).mem = s.mem := rfl
@[simp] theorem State.modOwn_dpi (s : State) (f : OwnSt → OwnSt) : (s.modOwn f).dpi = s.dpi := rfl
@[simp] theorem State.modOwn_dpiOn (s : State) (f : OwnSt → OwnSt) : (s.modOwn f).dpiOn = s.dpiOn := rfl
@[simp] theorem State.modOwn_evr (s : State) (f : OwnSt → OwnSt) : (s.modOwn f).evr = s.evr := rfl
@[simp] theorem State.modOwn_atb (s : State) (f : OwnSt → OwnSt) : (s.modOwn f).atb = s.atb := rfl
@[simp] theorem State.modOwn_host (s : State) (f : OwnSt → OwnSt) : (s.modOwn f).host = s.host := rfl
@[simp] theorem State.modOwn_ns (s : State) (f : OwnSt → OwnSt) : (s.modOwn f).ns = s.ns := rfl
@[simp] theorem State.modOwn_xts (s : State) (f : OwnSt → OwnSt) : (s.modOwn f).xts = s.xts := rfl
@[simp] theorem State.modOwn_msc (s : State) (f : OwnSt → OwnSt) : (s.modOwn f).msc = s.msc := rfl
@[simp] theorem State.modOwn_trs (s : State) (f : OwnSt → OwnSt) : (s.modOwn f).trs = s.trs := rfl
@[simp] theorem State.modOwn_cs (s : State) (f : OwnSt → OwnSt) : (s.modOwn f).cs = s.cs := rfl
@[simp] theorem State.modOwn_rwc (s : State) (f : OwnSt → OwnSt) : (s.modOwn f).rwc = s.rwc := rfl
@[simp] theorem State.modOwn_pa (s : State) (f : OwnSt → OwnSt) : (s.modOwn f).pa = s.pa := rfl
@[simp] theorem State.modOwn_pif (s : State) (f : OwnSt → OwnSt) : (s.modOwn f).pif = s.pif := rfl
@[simp] theorem State.modOwn_pair (s : State) (f : OwnSt → OwnSt) : (s.modOwn f).pair = s.pair := rfl
@[simp] theorem State.modOwn_cap (s : State) (f : OwnSt → OwnSt) : (s.modOwn f).cap = s.cap := rfl
@[simp] theorem State.modOwn_smc (s : State) (f : OwnSt → OwnSt) : (s.modOwn f).smc = s.smc := rfl
@[simp] theorem State.modOwn_pow (s : State) (f : OwnSt → OwnSt) : (s.modOwn f).pow = s.pow := rfl
@[simp] theorem State.modOwn_heads (s : State) (f : OwnSt → OwnSt) : (s.modOwn f).heads = s.heads := rfl
@[simp] theorem State.modOwn_acts (s : State) (f : OwnSt → OwnSt) : (s.modOwn f).acts = s.acts := rfl
@[simp] theorem State.modOwn_recov (s : State) (f : OwnSt → OwnSt) : (s.modOwn f).recov = s.recov := rfl
@[simp] theorem State.modOwn_memp (s : State) (f : OwnSt → OwnSt) : (s.modOwn f).memp = s.memp := rfl
@[simp] theorem State.modOwn_chain (s : State) (f : OwnSt → OwnSt) : (s.modOwn f).chain = s.chain := rfl
@[simp] theorem State.modOwn_mctp (s : State) (f : OwnSt → OwnSt) : (s.modOwn f).mctp = s.mctp := rfl
@[simp] theorem State.modOwn_boot (s : State) (f : OwnSt → OwnSt) : (s.modOwn f).boot = s.boot := rfl
@[simp] theorem State.modOwn_out (s : State) (f : OwnSt → OwnSt) : (s.modOwn f).out = s.out := rfl
@[simp] theorem State.modOwn_pending (s : State) (f : OwnSt → OwnSt) : (s.modOwn f).pending = s.pending := rfl

/-! ### modPow -/

@[simp] theorem State.modPow_cycle (s : State) (f : PowSt → PowSt) : (s.modPow f).cycle = s.cycle := rfl
@[simp] theorem State.modPow_fresh (s : State) (f : PowSt → PowSt) : (s.modPow f).fresh = s.fresh := rfl
@[simp] theorem State.modPow_regs (s : State) (f : PowSt → PowSt) : (s.modPow f).regs = s.regs := rfl
@[simp] theorem State.modPow_held (s : State) (f : PowSt → PowSt) : (s.modPow f).held = s.held := rfl
@[simp] theorem State.modPow_mem (s : State) (f : PowSt → PowSt) : (s.modPow f).mem = s.mem := rfl
@[simp] theorem State.modPow_dpi (s : State) (f : PowSt → PowSt) : (s.modPow f).dpi = s.dpi := rfl
@[simp] theorem State.modPow_dpiOn (s : State) (f : PowSt → PowSt) : (s.modPow f).dpiOn = s.dpiOn := rfl
@[simp] theorem State.modPow_evr (s : State) (f : PowSt → PowSt) : (s.modPow f).evr = s.evr := rfl
@[simp] theorem State.modPow_atb (s : State) (f : PowSt → PowSt) : (s.modPow f).atb = s.atb := rfl
@[simp] theorem State.modPow_host (s : State) (f : PowSt → PowSt) : (s.modPow f).host = s.host := rfl
@[simp] theorem State.modPow_ns (s : State) (f : PowSt → PowSt) : (s.modPow f).ns = s.ns := rfl
@[simp] theorem State.modPow_xts (s : State) (f : PowSt → PowSt) : (s.modPow f).xts = s.xts := rfl
@[simp] theorem State.modPow_msc (s : State) (f : PowSt → PowSt) : (s.modPow f).msc = s.msc := rfl
@[simp] theorem State.modPow_trs (s : State) (f : PowSt → PowSt) : (s.modPow f).trs = s.trs := rfl
@[simp] theorem State.modPow_cs (s : State) (f : PowSt → PowSt) : (s.modPow f).cs = s.cs := rfl
@[simp] theorem State.modPow_rwc (s : State) (f : PowSt → PowSt) : (s.modPow f).rwc = s.rwc := rfl
@[simp] theorem State.modPow_pa (s : State) (f : PowSt → PowSt) : (s.modPow f).pa = s.pa := rfl
@[simp] theorem State.modPow_pif (s : State) (f : PowSt → PowSt) : (s.modPow f).pif = s.pif := rfl
@[simp] theorem State.modPow_pair (s : State) (f : PowSt → PowSt) : (s.modPow f).pair = s.pair := rfl
@[simp] theorem State.modPow_cap (s : State) (f : PowSt → PowSt) : (s.modPow f).cap = s.cap := rfl
@[simp] theorem State.modPow_smc (s : State) (f : PowSt → PowSt) : (s.modPow f).smc = s.smc := rfl
@[simp] theorem State.modPow_heads (s : State) (f : PowSt → PowSt) : (s.modPow f).heads = s.heads := rfl
@[simp] theorem State.modPow_acts (s : State) (f : PowSt → PowSt) : (s.modPow f).acts = s.acts := rfl
@[simp] theorem State.modPow_recov (s : State) (f : PowSt → PowSt) : (s.modPow f).recov = s.recov := rfl
@[simp] theorem State.modPow_memp (s : State) (f : PowSt → PowSt) : (s.modPow f).memp = s.memp := rfl
@[simp] theorem State.modPow_own (s : State) (f : PowSt → PowSt) : (s.modPow f).own = s.own := rfl
@[simp] theorem State.modPow_chain (s : State) (f : PowSt → PowSt) : (s.modPow f).chain = s.chain := rfl
@[simp] theorem State.modPow_mctp (s : State) (f : PowSt → PowSt) : (s.modPow f).mctp = s.mctp := rfl
@[simp] theorem State.modPow_boot (s : State) (f : PowSt → PowSt) : (s.modPow f).boot = s.boot := rfl
@[simp] theorem State.modPow_out (s : State) (f : PowSt → PowSt) : (s.modPow f).out = s.out := rfl
@[simp] theorem State.modPow_pending (s : State) (f : PowSt → PowSt) : (s.modPow f).pending = s.pending := rfl

/-! ### modCtrl -/

@[simp] theorem State.modCtrl_cycle (s : State) (m : Fin 2) (f : Ctrl → Ctrl) : (s.modCtrl m f).cycle = s.cycle := rfl
@[simp] theorem State.modCtrl_fresh (s : State) (m : Fin 2) (f : Ctrl → Ctrl) : (s.modCtrl m f).fresh = s.fresh := rfl
@[simp] theorem State.modCtrl_regs (s : State) (m : Fin 2) (f : Ctrl → Ctrl) : (s.modCtrl m f).regs = s.regs := rfl
@[simp] theorem State.modCtrl_held (s : State) (m : Fin 2) (f : Ctrl → Ctrl) : (s.modCtrl m f).held = s.held := rfl
@[simp] theorem State.modCtrl_mem (s : State) (m : Fin 2) (f : Ctrl → Ctrl) : (s.modCtrl m f).mem = s.mem := rfl
@[simp] theorem State.modCtrl_dpi (s : State) (m : Fin 2) (f : Ctrl → Ctrl) : (s.modCtrl m f).dpi = s.dpi := rfl
@[simp] theorem State.modCtrl_dpiOn (s : State) (m : Fin 2) (f : Ctrl → Ctrl) : (s.modCtrl m f).dpiOn = s.dpiOn := rfl
@[simp] theorem State.modCtrl_evr (s : State) (m : Fin 2) (f : Ctrl → Ctrl) : (s.modCtrl m f).evr = s.evr := rfl
@[simp] theorem State.modCtrl_atb (s : State) (m : Fin 2) (f : Ctrl → Ctrl) : (s.modCtrl m f).atb = s.atb := rfl
@[simp] theorem State.modCtrl_ns (s : State) (m : Fin 2) (f : Ctrl → Ctrl) : (s.modCtrl m f).ns = s.ns := rfl
@[simp] theorem State.modCtrl_xts (s : State) (m : Fin 2) (f : Ctrl → Ctrl) : (s.modCtrl m f).xts = s.xts := rfl
@[simp] theorem State.modCtrl_msc (s : State) (m : Fin 2) (f : Ctrl → Ctrl) : (s.modCtrl m f).msc = s.msc := rfl
@[simp] theorem State.modCtrl_trs (s : State) (m : Fin 2) (f : Ctrl → Ctrl) : (s.modCtrl m f).trs = s.trs := rfl
@[simp] theorem State.modCtrl_cs (s : State) (m : Fin 2) (f : Ctrl → Ctrl) : (s.modCtrl m f).cs = s.cs := rfl
@[simp] theorem State.modCtrl_rwc (s : State) (m : Fin 2) (f : Ctrl → Ctrl) : (s.modCtrl m f).rwc = s.rwc := rfl
@[simp] theorem State.modCtrl_pa (s : State) (m : Fin 2) (f : Ctrl → Ctrl) : (s.modCtrl m f).pa = s.pa := rfl
@[simp] theorem State.modCtrl_pif (s : State) (m : Fin 2) (f : Ctrl → Ctrl) : (s.modCtrl m f).pif = s.pif := rfl
@[simp] theorem State.modCtrl_pair (s : State) (m : Fin 2) (f : Ctrl → Ctrl) : (s.modCtrl m f).pair = s.pair := rfl
@[simp] theorem State.modCtrl_cap (s : State) (m : Fin 2) (f : Ctrl → Ctrl) : (s.modCtrl m f).cap = s.cap := rfl
@[simp] theorem State.modCtrl_smc (s : State) (m : Fin 2) (f : Ctrl → Ctrl) : (s.modCtrl m f).smc = s.smc := rfl
@[simp] theorem State.modCtrl_pow (s : State) (m : Fin 2) (f : Ctrl → Ctrl) : (s.modCtrl m f).pow = s.pow := rfl
@[simp] theorem State.modCtrl_heads (s : State) (m : Fin 2) (f : Ctrl → Ctrl) : (s.modCtrl m f).heads = s.heads := rfl
@[simp] theorem State.modCtrl_acts (s : State) (m : Fin 2) (f : Ctrl → Ctrl) : (s.modCtrl m f).acts = s.acts := rfl
@[simp] theorem State.modCtrl_recov (s : State) (m : Fin 2) (f : Ctrl → Ctrl) : (s.modCtrl m f).recov = s.recov := rfl
@[simp] theorem State.modCtrl_memp (s : State) (m : Fin 2) (f : Ctrl → Ctrl) : (s.modCtrl m f).memp = s.memp := rfl
@[simp] theorem State.modCtrl_own (s : State) (m : Fin 2) (f : Ctrl → Ctrl) : (s.modCtrl m f).own = s.own := rfl
@[simp] theorem State.modCtrl_chain (s : State) (m : Fin 2) (f : Ctrl → Ctrl) : (s.modCtrl m f).chain = s.chain := rfl
@[simp] theorem State.modCtrl_mctp (s : State) (m : Fin 2) (f : Ctrl → Ctrl) : (s.modCtrl m f).mctp = s.mctp := rfl
@[simp] theorem State.modCtrl_boot (s : State) (m : Fin 2) (f : Ctrl → Ctrl) : (s.modCtrl m f).boot = s.boot := rfl
@[simp] theorem State.modCtrl_out (s : State) (m : Fin 2) (f : Ctrl → Ctrl) : (s.modCtrl m f).out = s.out := rfl
@[simp] theorem State.modCtrl_pending (s : State) (m : Fin 2) (f : Ctrl → Ctrl) : (s.modCtrl m f).pending = s.pending := rfl

/-! ### modSq -/

@[simp] theorem State.modSq_cycle (s : State) (m : Fin 2) (q : Nat) (f : Sq → Sq) : (s.modSq m q f).cycle = s.cycle := rfl
@[simp] theorem State.modSq_fresh (s : State) (m : Fin 2) (q : Nat) (f : Sq → Sq) : (s.modSq m q f).fresh = s.fresh := rfl
@[simp] theorem State.modSq_regs (s : State) (m : Fin 2) (q : Nat) (f : Sq → Sq) : (s.modSq m q f).regs = s.regs := rfl
@[simp] theorem State.modSq_held (s : State) (m : Fin 2) (q : Nat) (f : Sq → Sq) : (s.modSq m q f).held = s.held := rfl
@[simp] theorem State.modSq_mem (s : State) (m : Fin 2) (q : Nat) (f : Sq → Sq) : (s.modSq m q f).mem = s.mem := rfl
@[simp] theorem State.modSq_dpi (s : State) (m : Fin 2) (q : Nat) (f : Sq → Sq) : (s.modSq m q f).dpi = s.dpi := rfl
@[simp] theorem State.modSq_dpiOn (s : State) (m : Fin 2) (q : Nat) (f : Sq → Sq) : (s.modSq m q f).dpiOn = s.dpiOn := rfl
@[simp] theorem State.modSq_evr (s : State) (m : Fin 2) (q : Nat) (f : Sq → Sq) : (s.modSq m q f).evr = s.evr := rfl
@[simp] theorem State.modSq_atb (s : State) (m : Fin 2) (q : Nat) (f : Sq → Sq) : (s.modSq m q f).atb = s.atb := rfl
@[simp] theorem State.modSq_ns (s : State) (m : Fin 2) (q : Nat) (f : Sq → Sq) : (s.modSq m q f).ns = s.ns := rfl
@[simp] theorem State.modSq_xts (s : State) (m : Fin 2) (q : Nat) (f : Sq → Sq) : (s.modSq m q f).xts = s.xts := rfl
@[simp] theorem State.modSq_msc (s : State) (m : Fin 2) (q : Nat) (f : Sq → Sq) : (s.modSq m q f).msc = s.msc := rfl
@[simp] theorem State.modSq_trs (s : State) (m : Fin 2) (q : Nat) (f : Sq → Sq) : (s.modSq m q f).trs = s.trs := rfl
@[simp] theorem State.modSq_cs (s : State) (m : Fin 2) (q : Nat) (f : Sq → Sq) : (s.modSq m q f).cs = s.cs := rfl
@[simp] theorem State.modSq_rwc (s : State) (m : Fin 2) (q : Nat) (f : Sq → Sq) : (s.modSq m q f).rwc = s.rwc := rfl
@[simp] theorem State.modSq_pa (s : State) (m : Fin 2) (q : Nat) (f : Sq → Sq) : (s.modSq m q f).pa = s.pa := rfl
@[simp] theorem State.modSq_pif (s : State) (m : Fin 2) (q : Nat) (f : Sq → Sq) : (s.modSq m q f).pif = s.pif := rfl
@[simp] theorem State.modSq_pair (s : State) (m : Fin 2) (q : Nat) (f : Sq → Sq) : (s.modSq m q f).pair = s.pair := rfl
@[simp] theorem State.modSq_cap (s : State) (m : Fin 2) (q : Nat) (f : Sq → Sq) : (s.modSq m q f).cap = s.cap := rfl
@[simp] theorem State.modSq_smc (s : State) (m : Fin 2) (q : Nat) (f : Sq → Sq) : (s.modSq m q f).smc = s.smc := rfl
@[simp] theorem State.modSq_pow (s : State) (m : Fin 2) (q : Nat) (f : Sq → Sq) : (s.modSq m q f).pow = s.pow := rfl
@[simp] theorem State.modSq_heads (s : State) (m : Fin 2) (q : Nat) (f : Sq → Sq) : (s.modSq m q f).heads = s.heads := rfl
@[simp] theorem State.modSq_acts (s : State) (m : Fin 2) (q : Nat) (f : Sq → Sq) : (s.modSq m q f).acts = s.acts := rfl
@[simp] theorem State.modSq_recov (s : State) (m : Fin 2) (q : Nat) (f : Sq → Sq) : (s.modSq m q f).recov = s.recov := rfl
@[simp] theorem State.modSq_memp (s : State) (m : Fin 2) (q : Nat) (f : Sq → Sq) : (s.modSq m q f).memp = s.memp := rfl
@[simp] theorem State.modSq_own (s : State) (m : Fin 2) (q : Nat) (f : Sq → Sq) : (s.modSq m q f).own = s.own := rfl
@[simp] theorem State.modSq_chain (s : State) (m : Fin 2) (q : Nat) (f : Sq → Sq) : (s.modSq m q f).chain = s.chain := rfl
@[simp] theorem State.modSq_mctp (s : State) (m : Fin 2) (q : Nat) (f : Sq → Sq) : (s.modSq m q f).mctp = s.mctp := rfl
@[simp] theorem State.modSq_boot (s : State) (m : Fin 2) (q : Nat) (f : Sq → Sq) : (s.modSq m q f).boot = s.boot := rfl
@[simp] theorem State.modSq_out (s : State) (m : Fin 2) (q : Nat) (f : Sq → Sq) : (s.modSq m q f).out = s.out := rfl
@[simp] theorem State.modSq_pending (s : State) (m : Fin 2) (q : Nat) (f : Sq → Sq) : (s.modSq m q f).pending = s.pending := rfl

/-! ### modCq -/

@[simp] theorem State.modCq_cycle (s : State) (m : Fin 2) (q : Nat) (f : Cq → Cq) : (s.modCq m q f).cycle = s.cycle := rfl
@[simp] theorem State.modCq_fresh (s : State) (m : Fin 2) (q : Nat) (f : Cq → Cq) : (s.modCq m q f).fresh = s.fresh := rfl
@[simp] theorem State.modCq_regs (s : State) (m : Fin 2) (q : Nat) (f : Cq → Cq) : (s.modCq m q f).regs = s.regs := rfl
@[simp] theorem State.modCq_held (s : State) (m : Fin 2) (q : Nat) (f : Cq → Cq) : (s.modCq m q f).held = s.held := rfl
@[simp] theorem State.modCq_mem (s : State) (m : Fin 2) (q : Nat) (f : Cq → Cq) : (s.modCq m q f).mem = s.mem := rfl
@[simp] theorem State.modCq_dpi (s : State) (m : Fin 2) (q : Nat) (f : Cq → Cq) : (s.modCq m q f).dpi = s.dpi := rfl
@[simp] theorem State.modCq_dpiOn (s : State) (m : Fin 2) (q : Nat) (f : Cq → Cq) : (s.modCq m q f).dpiOn = s.dpiOn := rfl
@[simp] theorem State.modCq_evr (s : State) (m : Fin 2) (q : Nat) (f : Cq → Cq) : (s.modCq m q f).evr = s.evr := rfl
@[simp] theorem State.modCq_atb (s : State) (m : Fin 2) (q : Nat) (f : Cq → Cq) : (s.modCq m q f).atb = s.atb := rfl
@[simp] theorem State.modCq_ns (s : State) (m : Fin 2) (q : Nat) (f : Cq → Cq) : (s.modCq m q f).ns = s.ns := rfl
@[simp] theorem State.modCq_xts (s : State) (m : Fin 2) (q : Nat) (f : Cq → Cq) : (s.modCq m q f).xts = s.xts := rfl
@[simp] theorem State.modCq_msc (s : State) (m : Fin 2) (q : Nat) (f : Cq → Cq) : (s.modCq m q f).msc = s.msc := rfl
@[simp] theorem State.modCq_trs (s : State) (m : Fin 2) (q : Nat) (f : Cq → Cq) : (s.modCq m q f).trs = s.trs := rfl
@[simp] theorem State.modCq_cs (s : State) (m : Fin 2) (q : Nat) (f : Cq → Cq) : (s.modCq m q f).cs = s.cs := rfl
@[simp] theorem State.modCq_rwc (s : State) (m : Fin 2) (q : Nat) (f : Cq → Cq) : (s.modCq m q f).rwc = s.rwc := rfl
@[simp] theorem State.modCq_pa (s : State) (m : Fin 2) (q : Nat) (f : Cq → Cq) : (s.modCq m q f).pa = s.pa := rfl
@[simp] theorem State.modCq_pif (s : State) (m : Fin 2) (q : Nat) (f : Cq → Cq) : (s.modCq m q f).pif = s.pif := rfl
@[simp] theorem State.modCq_pair (s : State) (m : Fin 2) (q : Nat) (f : Cq → Cq) : (s.modCq m q f).pair = s.pair := rfl
@[simp] theorem State.modCq_cap (s : State) (m : Fin 2) (q : Nat) (f : Cq → Cq) : (s.modCq m q f).cap = s.cap := rfl
@[simp] theorem State.modCq_smc (s : State) (m : Fin 2) (q : Nat) (f : Cq → Cq) : (s.modCq m q f).smc = s.smc := rfl
@[simp] theorem State.modCq_pow (s : State) (m : Fin 2) (q : Nat) (f : Cq → Cq) : (s.modCq m q f).pow = s.pow := rfl
@[simp] theorem State.modCq_heads (s : State) (m : Fin 2) (q : Nat) (f : Cq → Cq) : (s.modCq m q f).heads = s.heads := rfl
@[simp] theorem State.modCq_acts (s : State) (m : Fin 2) (q : Nat) (f : Cq → Cq) : (s.modCq m q f).acts = s.acts := rfl
@[simp] theorem State.modCq_recov (s : State) (m : Fin 2) (q : Nat) (f : Cq → Cq) : (s.modCq m q f).recov = s.recov := rfl
@[simp] theorem State.modCq_memp (s : State) (m : Fin 2) (q : Nat) (f : Cq → Cq) : (s.modCq m q f).memp = s.memp := rfl
@[simp] theorem State.modCq_own (s : State) (m : Fin 2) (q : Nat) (f : Cq → Cq) : (s.modCq m q f).own = s.own := rfl
@[simp] theorem State.modCq_chain (s : State) (m : Fin 2) (q : Nat) (f : Cq → Cq) : (s.modCq m q f).chain = s.chain := rfl
@[simp] theorem State.modCq_mctp (s : State) (m : Fin 2) (q : Nat) (f : Cq → Cq) : (s.modCq m q f).mctp = s.mctp := rfl
@[simp] theorem State.modCq_boot (s : State) (m : Fin 2) (q : Nat) (f : Cq → Cq) : (s.modCq m q f).boot = s.boot := rfl
@[simp] theorem State.modCq_out (s : State) (m : Fin 2) (q : Nat) (f : Cq → Cq) : (s.modCq m q f).out = s.out := rfl
@[simp] theorem State.modCq_pending (s : State) (m : Fin 2) (q : Nat) (f : Cq → Cq) : (s.modCq m q f).pending = s.pending := rfl

/-! ### modRec -/

@[simp] theorem State.modRec_cycle (s : State) (f : RecSt → RecSt) : (s.modRec f).cycle = s.cycle := rfl
@[simp] theorem State.modRec_fresh (s : State) (f : RecSt → RecSt) : (s.modRec f).fresh = s.fresh := rfl
@[simp] theorem State.modRec_regs (s : State) (f : RecSt → RecSt) : (s.modRec f).regs = s.regs := rfl
@[simp] theorem State.modRec_held (s : State) (f : RecSt → RecSt) : (s.modRec f).held = s.held := rfl
@[simp] theorem State.modRec_mem (s : State) (f : RecSt → RecSt) : (s.modRec f).mem = s.mem := rfl
@[simp] theorem State.modRec_dpi (s : State) (f : RecSt → RecSt) : (s.modRec f).dpi = s.dpi := rfl
@[simp] theorem State.modRec_dpiOn (s : State) (f : RecSt → RecSt) : (s.modRec f).dpiOn = s.dpiOn := rfl
@[simp] theorem State.modRec_evr (s : State) (f : RecSt → RecSt) : (s.modRec f).evr = s.evr := rfl
@[simp] theorem State.modRec_atb (s : State) (f : RecSt → RecSt) : (s.modRec f).atb = s.atb := rfl
@[simp] theorem State.modRec_host (s : State) (f : RecSt → RecSt) : (s.modRec f).host = s.host := rfl
@[simp] theorem State.modRec_ns (s : State) (f : RecSt → RecSt) : (s.modRec f).ns = s.ns := rfl
@[simp] theorem State.modRec_xts (s : State) (f : RecSt → RecSt) : (s.modRec f).xts = s.xts := rfl
@[simp] theorem State.modRec_msc (s : State) (f : RecSt → RecSt) : (s.modRec f).msc = s.msc := rfl
@[simp] theorem State.modRec_trs (s : State) (f : RecSt → RecSt) : (s.modRec f).trs = s.trs := rfl
@[simp] theorem State.modRec_cs (s : State) (f : RecSt → RecSt) : (s.modRec f).cs = s.cs := rfl
@[simp] theorem State.modRec_rwc (s : State) (f : RecSt → RecSt) : (s.modRec f).rwc = s.rwc := rfl
@[simp] theorem State.modRec_pa (s : State) (f : RecSt → RecSt) : (s.modRec f).pa = s.pa := rfl
@[simp] theorem State.modRec_pif (s : State) (f : RecSt → RecSt) : (s.modRec f).pif = s.pif := rfl
@[simp] theorem State.modRec_pair (s : State) (f : RecSt → RecSt) : (s.modRec f).pair = s.pair := rfl
@[simp] theorem State.modRec_cap (s : State) (f : RecSt → RecSt) : (s.modRec f).cap = s.cap := rfl
@[simp] theorem State.modRec_smc (s : State) (f : RecSt → RecSt) : (s.modRec f).smc = s.smc := rfl
@[simp] theorem State.modRec_pow (s : State) (f : RecSt → RecSt) : (s.modRec f).pow = s.pow := rfl
@[simp] theorem State.modRec_heads (s : State) (f : RecSt → RecSt) : (s.modRec f).heads = s.heads := rfl
@[simp] theorem State.modRec_acts (s : State) (f : RecSt → RecSt) : (s.modRec f).acts = s.acts := rfl
@[simp] theorem State.modRec_memp (s : State) (f : RecSt → RecSt) : (s.modRec f).memp = s.memp := rfl
@[simp] theorem State.modRec_own (s : State) (f : RecSt → RecSt) : (s.modRec f).own = s.own := rfl
@[simp] theorem State.modRec_chain (s : State) (f : RecSt → RecSt) : (s.modRec f).chain = s.chain := rfl
@[simp] theorem State.modRec_mctp (s : State) (f : RecSt → RecSt) : (s.modRec f).mctp = s.mctp := rfl
@[simp] theorem State.modRec_boot (s : State) (f : RecSt → RecSt) : (s.modRec f).boot = s.boot := rfl
@[simp] theorem State.modRec_out (s : State) (f : RecSt → RecSt) : (s.modRec f).out = s.out := rfl
@[simp] theorem State.modRec_pending (s : State) (f : RecSt → RecSt) : (s.modRec f).pending = s.pending := rfl

/-! ### modSmc -/

@[simp] theorem State.modSmc_cycle (s : State) (f : SmcSt → SmcSt) : (s.modSmc f).cycle = s.cycle := rfl
@[simp] theorem State.modSmc_fresh (s : State) (f : SmcSt → SmcSt) : (s.modSmc f).fresh = s.fresh := rfl
@[simp] theorem State.modSmc_regs (s : State) (f : SmcSt → SmcSt) : (s.modSmc f).regs = s.regs := rfl
@[simp] theorem State.modSmc_held (s : State) (f : SmcSt → SmcSt) : (s.modSmc f).held = s.held := rfl
@[simp] theorem State.modSmc_mem (s : State) (f : SmcSt → SmcSt) : (s.modSmc f).mem = s.mem := rfl
@[simp] theorem State.modSmc_dpi (s : State) (f : SmcSt → SmcSt) : (s.modSmc f).dpi = s.dpi := rfl
@[simp] theorem State.modSmc_dpiOn (s : State) (f : SmcSt → SmcSt) : (s.modSmc f).dpiOn = s.dpiOn := rfl
@[simp] theorem State.modSmc_evr (s : State) (f : SmcSt → SmcSt) : (s.modSmc f).evr = s.evr := rfl
@[simp] theorem State.modSmc_atb (s : State) (f : SmcSt → SmcSt) : (s.modSmc f).atb = s.atb := rfl
@[simp] theorem State.modSmc_host (s : State) (f : SmcSt → SmcSt) : (s.modSmc f).host = s.host := rfl
@[simp] theorem State.modSmc_ns (s : State) (f : SmcSt → SmcSt) : (s.modSmc f).ns = s.ns := rfl
@[simp] theorem State.modSmc_xts (s : State) (f : SmcSt → SmcSt) : (s.modSmc f).xts = s.xts := rfl
@[simp] theorem State.modSmc_msc (s : State) (f : SmcSt → SmcSt) : (s.modSmc f).msc = s.msc := rfl
@[simp] theorem State.modSmc_trs (s : State) (f : SmcSt → SmcSt) : (s.modSmc f).trs = s.trs := rfl
@[simp] theorem State.modSmc_cs (s : State) (f : SmcSt → SmcSt) : (s.modSmc f).cs = s.cs := rfl
@[simp] theorem State.modSmc_rwc (s : State) (f : SmcSt → SmcSt) : (s.modSmc f).rwc = s.rwc := rfl
@[simp] theorem State.modSmc_pa (s : State) (f : SmcSt → SmcSt) : (s.modSmc f).pa = s.pa := rfl
@[simp] theorem State.modSmc_pif (s : State) (f : SmcSt → SmcSt) : (s.modSmc f).pif = s.pif := rfl
@[simp] theorem State.modSmc_pair (s : State) (f : SmcSt → SmcSt) : (s.modSmc f).pair = s.pair := rfl
@[simp] theorem State.modSmc_cap (s : State) (f : SmcSt → SmcSt) : (s.modSmc f).cap = s.cap := rfl
@[simp] theorem State.modSmc_pow (s : State) (f : SmcSt → SmcSt) : (s.modSmc f).pow = s.pow := rfl
@[simp] theorem State.modSmc_heads (s : State) (f : SmcSt → SmcSt) : (s.modSmc f).heads = s.heads := rfl
@[simp] theorem State.modSmc_acts (s : State) (f : SmcSt → SmcSt) : (s.modSmc f).acts = s.acts := rfl
@[simp] theorem State.modSmc_recov (s : State) (f : SmcSt → SmcSt) : (s.modSmc f).recov = s.recov := rfl
@[simp] theorem State.modSmc_memp (s : State) (f : SmcSt → SmcSt) : (s.modSmc f).memp = s.memp := rfl
@[simp] theorem State.modSmc_own (s : State) (f : SmcSt → SmcSt) : (s.modSmc f).own = s.own := rfl
@[simp] theorem State.modSmc_chain (s : State) (f : SmcSt → SmcSt) : (s.modSmc f).chain = s.chain := rfl
@[simp] theorem State.modSmc_mctp (s : State) (f : SmcSt → SmcSt) : (s.modSmc f).mctp = s.mctp := rfl
@[simp] theorem State.modSmc_boot (s : State) (f : SmcSt → SmcSt) : (s.modSmc f).boot = s.boot := rfl
@[simp] theorem State.modSmc_out (s : State) (f : SmcSt → SmcSt) : (s.modSmc f).out = s.out := rfl
@[simp] theorem State.modSmc_pending (s : State) (f : SmcSt → SmcSt) : (s.modSmc f).pending = s.pending := rfl

/-! ### modXts -/

@[simp] theorem State.modXts_cycle (s : State) (f : XtsSt → XtsSt) : (s.modXts f).cycle = s.cycle := rfl
@[simp] theorem State.modXts_fresh (s : State) (f : XtsSt → XtsSt) : (s.modXts f).fresh = s.fresh := rfl
@[simp] theorem State.modXts_regs (s : State) (f : XtsSt → XtsSt) : (s.modXts f).regs = s.regs := rfl
@[simp] theorem State.modXts_held (s : State) (f : XtsSt → XtsSt) : (s.modXts f).held = s.held := rfl
@[simp] theorem State.modXts_mem (s : State) (f : XtsSt → XtsSt) : (s.modXts f).mem = s.mem := rfl
@[simp] theorem State.modXts_dpi (s : State) (f : XtsSt → XtsSt) : (s.modXts f).dpi = s.dpi := rfl
@[simp] theorem State.modXts_dpiOn (s : State) (f : XtsSt → XtsSt) : (s.modXts f).dpiOn = s.dpiOn := rfl
@[simp] theorem State.modXts_evr (s : State) (f : XtsSt → XtsSt) : (s.modXts f).evr = s.evr := rfl
@[simp] theorem State.modXts_atb (s : State) (f : XtsSt → XtsSt) : (s.modXts f).atb = s.atb := rfl
@[simp] theorem State.modXts_host (s : State) (f : XtsSt → XtsSt) : (s.modXts f).host = s.host := rfl
@[simp] theorem State.modXts_ns (s : State) (f : XtsSt → XtsSt) : (s.modXts f).ns = s.ns := rfl
@[simp] theorem State.modXts_msc (s : State) (f : XtsSt → XtsSt) : (s.modXts f).msc = s.msc := rfl
@[simp] theorem State.modXts_trs (s : State) (f : XtsSt → XtsSt) : (s.modXts f).trs = s.trs := rfl
@[simp] theorem State.modXts_cs (s : State) (f : XtsSt → XtsSt) : (s.modXts f).cs = s.cs := rfl
@[simp] theorem State.modXts_rwc (s : State) (f : XtsSt → XtsSt) : (s.modXts f).rwc = s.rwc := rfl
@[simp] theorem State.modXts_pa (s : State) (f : XtsSt → XtsSt) : (s.modXts f).pa = s.pa := rfl
@[simp] theorem State.modXts_pif (s : State) (f : XtsSt → XtsSt) : (s.modXts f).pif = s.pif := rfl
@[simp] theorem State.modXts_pair (s : State) (f : XtsSt → XtsSt) : (s.modXts f).pair = s.pair := rfl
@[simp] theorem State.modXts_cap (s : State) (f : XtsSt → XtsSt) : (s.modXts f).cap = s.cap := rfl
@[simp] theorem State.modXts_smc (s : State) (f : XtsSt → XtsSt) : (s.modXts f).smc = s.smc := rfl
@[simp] theorem State.modXts_pow (s : State) (f : XtsSt → XtsSt) : (s.modXts f).pow = s.pow := rfl
@[simp] theorem State.modXts_heads (s : State) (f : XtsSt → XtsSt) : (s.modXts f).heads = s.heads := rfl
@[simp] theorem State.modXts_acts (s : State) (f : XtsSt → XtsSt) : (s.modXts f).acts = s.acts := rfl
@[simp] theorem State.modXts_recov (s : State) (f : XtsSt → XtsSt) : (s.modXts f).recov = s.recov := rfl
@[simp] theorem State.modXts_memp (s : State) (f : XtsSt → XtsSt) : (s.modXts f).memp = s.memp := rfl
@[simp] theorem State.modXts_own (s : State) (f : XtsSt → XtsSt) : (s.modXts f).own = s.own := rfl
@[simp] theorem State.modXts_chain (s : State) (f : XtsSt → XtsSt) : (s.modXts f).chain = s.chain := rfl
@[simp] theorem State.modXts_mctp (s : State) (f : XtsSt → XtsSt) : (s.modXts f).mctp = s.mctp := rfl
@[simp] theorem State.modXts_boot (s : State) (f : XtsSt → XtsSt) : (s.modXts f).boot = s.boot := rfl
@[simp] theorem State.modXts_out (s : State) (f : XtsSt → XtsSt) : (s.modXts f).out = s.out := rfl
@[simp] theorem State.modXts_pending (s : State) (f : XtsSt → XtsSt) : (s.modXts f).pending = s.pending := rfl

/-! ### offer -/

@[simp] theorem State.offer_cycle (s : State) (l i c : Nat) (v : Sev) (k : Option ErrClass) (p : List Byte) : (s.offer l i c v k p).cycle = s.cycle := rfl
@[simp] theorem State.offer_fresh (s : State) (l i c : Nat) (v : Sev) (k : Option ErrClass) (p : List Byte) : (s.offer l i c v k p).fresh = s.fresh := rfl
@[simp] theorem State.offer_regs (s : State) (l i c : Nat) (v : Sev) (k : Option ErrClass) (p : List Byte) : (s.offer l i c v k p).regs = s.regs := rfl
@[simp] theorem State.offer_held (s : State) (l i c : Nat) (v : Sev) (k : Option ErrClass) (p : List Byte) : (s.offer l i c v k p).held = s.held := rfl
@[simp] theorem State.offer_mem (s : State) (l i c : Nat) (v : Sev) (k : Option ErrClass) (p : List Byte) : (s.offer l i c v k p).mem = s.mem := rfl
@[simp] theorem State.offer_dpi (s : State) (l i c : Nat) (v : Sev) (k : Option ErrClass) (p : List Byte) : (s.offer l i c v k p).dpi = s.dpi := rfl
@[simp] theorem State.offer_dpiOn (s : State) (l i c : Nat) (v : Sev) (k : Option ErrClass) (p : List Byte) : (s.offer l i c v k p).dpiOn = s.dpiOn := rfl
@[simp] theorem State.offer_atb (s : State) (l i c : Nat) (v : Sev) (k : Option ErrClass) (p : List Byte) : (s.offer l i c v k p).atb = s.atb := rfl
@[simp] theorem State.offer_host (s : State) (l i c : Nat) (v : Sev) (k : Option ErrClass) (p : List Byte) : (s.offer l i c v k p).host = s.host := rfl
@[simp] theorem State.offer_ns (s : State) (l i c : Nat) (v : Sev) (k : Option ErrClass) (p : List Byte) : (s.offer l i c v k p).ns = s.ns := rfl
@[simp] theorem State.offer_xts (s : State) (l i c : Nat) (v : Sev) (k : Option ErrClass) (p : List Byte) : (s.offer l i c v k p).xts = s.xts := rfl
@[simp] theorem State.offer_msc (s : State) (l i c : Nat) (v : Sev) (k : Option ErrClass) (p : List Byte) : (s.offer l i c v k p).msc = s.msc := rfl
@[simp] theorem State.offer_trs (s : State) (l i c : Nat) (v : Sev) (k : Option ErrClass) (p : List Byte) : (s.offer l i c v k p).trs = s.trs := rfl
@[simp] theorem State.offer_cs (s : State) (l i c : Nat) (v : Sev) (k : Option ErrClass) (p : List Byte) : (s.offer l i c v k p).cs = s.cs := rfl
@[simp] theorem State.offer_rwc (s : State) (l i c : Nat) (v : Sev) (k : Option ErrClass) (p : List Byte) : (s.offer l i c v k p).rwc = s.rwc := rfl
@[simp] theorem State.offer_pa (s : State) (l i c : Nat) (v : Sev) (k : Option ErrClass) (p : List Byte) : (s.offer l i c v k p).pa = s.pa := rfl
@[simp] theorem State.offer_pif (s : State) (l i c : Nat) (v : Sev) (k : Option ErrClass) (p : List Byte) : (s.offer l i c v k p).pif = s.pif := rfl
@[simp] theorem State.offer_pair (s : State) (l i c : Nat) (v : Sev) (k : Option ErrClass) (p : List Byte) : (s.offer l i c v k p).pair = s.pair := rfl
@[simp] theorem State.offer_cap (s : State) (l i c : Nat) (v : Sev) (k : Option ErrClass) (p : List Byte) : (s.offer l i c v k p).cap = s.cap := rfl
@[simp] theorem State.offer_smc (s : State) (l i c : Nat) (v : Sev) (k : Option ErrClass) (p : List Byte) : (s.offer l i c v k p).smc = s.smc := rfl
@[simp] theorem State.offer_pow (s : State) (l i c : Nat) (v : Sev) (k : Option ErrClass) (p : List Byte) : (s.offer l i c v k p).pow = s.pow := rfl
@[simp] theorem State.offer_heads (s : State) (l i c : Nat) (v : Sev) (k : Option ErrClass) (p : List Byte) : (s.offer l i c v k p).heads = s.heads := rfl
@[simp] theorem State.offer_acts (s : State) (l i c : Nat) (v : Sev) (k : Option ErrClass) (p : List Byte) : (s.offer l i c v k p).acts = s.acts := rfl
@[simp] theorem State.offer_recov (s : State) (l i c : Nat) (v : Sev) (k : Option ErrClass) (p : List Byte) : (s.offer l i c v k p).recov = s.recov := rfl
@[simp] theorem State.offer_memp (s : State) (l i c : Nat) (v : Sev) (k : Option ErrClass) (p : List Byte) : (s.offer l i c v k p).memp = s.memp := rfl
@[simp] theorem State.offer_own (s : State) (l i c : Nat) (v : Sev) (k : Option ErrClass) (p : List Byte) : (s.offer l i c v k p).own = s.own := rfl
@[simp] theorem State.offer_chain (s : State) (l i c : Nat) (v : Sev) (k : Option ErrClass) (p : List Byte) : (s.offer l i c v k p).chain = s.chain := rfl
@[simp] theorem State.offer_mctp (s : State) (l i c : Nat) (v : Sev) (k : Option ErrClass) (p : List Byte) : (s.offer l i c v k p).mctp = s.mctp := rfl
@[simp] theorem State.offer_boot (s : State) (l i c : Nat) (v : Sev) (k : Option ErrClass) (p : List Byte) : (s.offer l i c v k p).boot = s.boot := rfl
@[simp] theorem State.offer_out (s : State) (l i c : Nat) (v : Sev) (k : Option ErrClass) (p : List Byte) : (s.offer l i c v k p).out = s.out := rfl
@[simp] theorem State.offer_pending (s : State) (l i c : Nat) (v : Sev) (k : Option ErrClass) (p : List Byte) : (s.offer l i c v k p).pending = s.pending := rfl

/-! ### evtC -/

@[simp] theorem State.evtC_cycle (s : State) (f : Fld) (v : Sev) (k : Option ErrClass) (p : List Byte) : (s.evtC f v k p).cycle = s.cycle := by
  unfold State.evtC; generalize srcOf f.addr = p; rfl
@[simp] theorem State.evtC_fresh (s : State) (f : Fld) (v : Sev) (k : Option ErrClass) (p : List Byte) : (s.evtC f v k p).fresh = s.fresh := by
  unfold State.evtC; generalize srcOf f.addr = p; rfl
@[simp] theorem State.evtC_held (s : State) (f : Fld) (v : Sev) (k : Option ErrClass) (p : List Byte) : (s.evtC f v k p).held = s.held := by
  unfold State.evtC; generalize srcOf f.addr = p; rfl
@[simp] theorem State.evtC_mem (s : State) (f : Fld) (v : Sev) (k : Option ErrClass) (p : List Byte) : (s.evtC f v k p).mem = s.mem := by
  unfold State.evtC; generalize srcOf f.addr = p; rfl
@[simp] theorem State.evtC_dpi (s : State) (f : Fld) (v : Sev) (k : Option ErrClass) (p : List Byte) : (s.evtC f v k p).dpi = s.dpi := by
  unfold State.evtC; generalize srcOf f.addr = p; rfl
@[simp] theorem State.evtC_dpiOn (s : State) (f : Fld) (v : Sev) (k : Option ErrClass) (p : List Byte) : (s.evtC f v k p).dpiOn = s.dpiOn := by
  unfold State.evtC; generalize srcOf f.addr = p; rfl
@[simp] theorem State.evtC_atb (s : State) (f : Fld) (v : Sev) (k : Option ErrClass) (p : List Byte) : (s.evtC f v k p).atb = s.atb := by
  unfold State.evtC; generalize srcOf f.addr = p; rfl
@[simp] theorem State.evtC_host (s : State) (f : Fld) (v : Sev) (k : Option ErrClass) (p : List Byte) : (s.evtC f v k p).host = s.host := by
  unfold State.evtC; generalize srcOf f.addr = p; rfl
@[simp] theorem State.evtC_ns (s : State) (f : Fld) (v : Sev) (k : Option ErrClass) (p : List Byte) : (s.evtC f v k p).ns = s.ns := by
  unfold State.evtC; generalize srcOf f.addr = p; rfl
@[simp] theorem State.evtC_xts (s : State) (f : Fld) (v : Sev) (k : Option ErrClass) (p : List Byte) : (s.evtC f v k p).xts = s.xts := by
  unfold State.evtC; generalize srcOf f.addr = p; rfl
@[simp] theorem State.evtC_msc (s : State) (f : Fld) (v : Sev) (k : Option ErrClass) (p : List Byte) : (s.evtC f v k p).msc = s.msc := by
  unfold State.evtC; generalize srcOf f.addr = p; rfl
@[simp] theorem State.evtC_trs (s : State) (f : Fld) (v : Sev) (k : Option ErrClass) (p : List Byte) : (s.evtC f v k p).trs = s.trs := by
  unfold State.evtC; generalize srcOf f.addr = p; rfl
@[simp] theorem State.evtC_cs (s : State) (f : Fld) (v : Sev) (k : Option ErrClass) (p : List Byte) : (s.evtC f v k p).cs = s.cs := by
  unfold State.evtC; generalize srcOf f.addr = p; rfl
@[simp] theorem State.evtC_rwc (s : State) (f : Fld) (v : Sev) (k : Option ErrClass) (p : List Byte) : (s.evtC f v k p).rwc = s.rwc := by
  unfold State.evtC; generalize srcOf f.addr = p; rfl
@[simp] theorem State.evtC_pa (s : State) (f : Fld) (v : Sev) (k : Option ErrClass) (p : List Byte) : (s.evtC f v k p).pa = s.pa := by
  unfold State.evtC; generalize srcOf f.addr = p; rfl
@[simp] theorem State.evtC_pif (s : State) (f : Fld) (v : Sev) (k : Option ErrClass) (p : List Byte) : (s.evtC f v k p).pif = s.pif := by
  unfold State.evtC; generalize srcOf f.addr = p; rfl
@[simp] theorem State.evtC_pair (s : State) (f : Fld) (v : Sev) (k : Option ErrClass) (p : List Byte) : (s.evtC f v k p).pair = s.pair := by
  unfold State.evtC; generalize srcOf f.addr = p; rfl
@[simp] theorem State.evtC_cap (s : State) (f : Fld) (v : Sev) (k : Option ErrClass) (p : List Byte) : (s.evtC f v k p).cap = s.cap := by
  unfold State.evtC; generalize srcOf f.addr = p; rfl
@[simp] theorem State.evtC_smc (s : State) (f : Fld) (v : Sev) (k : Option ErrClass) (p : List Byte) : (s.evtC f v k p).smc = s.smc := by
  unfold State.evtC; generalize srcOf f.addr = p; rfl
@[simp] theorem State.evtC_pow (s : State) (f : Fld) (v : Sev) (k : Option ErrClass) (p : List Byte) : (s.evtC f v k p).pow = s.pow := by
  unfold State.evtC; generalize srcOf f.addr = p; rfl
@[simp] theorem State.evtC_heads (s : State) (f : Fld) (v : Sev) (k : Option ErrClass) (p : List Byte) : (s.evtC f v k p).heads = s.heads := by
  unfold State.evtC; generalize srcOf f.addr = p; rfl
@[simp] theorem State.evtC_acts (s : State) (f : Fld) (v : Sev) (k : Option ErrClass) (p : List Byte) : (s.evtC f v k p).acts = s.acts := by
  unfold State.evtC; generalize srcOf f.addr = p; rfl
@[simp] theorem State.evtC_recov (s : State) (f : Fld) (v : Sev) (k : Option ErrClass) (p : List Byte) : (s.evtC f v k p).recov = s.recov := by
  unfold State.evtC; generalize srcOf f.addr = p; rfl
@[simp] theorem State.evtC_memp (s : State) (f : Fld) (v : Sev) (k : Option ErrClass) (p : List Byte) : (s.evtC f v k p).memp = s.memp := by
  unfold State.evtC; generalize srcOf f.addr = p; rfl
@[simp] theorem State.evtC_own (s : State) (f : Fld) (v : Sev) (k : Option ErrClass) (p : List Byte) : (s.evtC f v k p).own = s.own := by
  unfold State.evtC; generalize srcOf f.addr = p; rfl
@[simp] theorem State.evtC_chain (s : State) (f : Fld) (v : Sev) (k : Option ErrClass) (p : List Byte) : (s.evtC f v k p).chain = s.chain := by
  unfold State.evtC; generalize srcOf f.addr = p; rfl
@[simp] theorem State.evtC_mctp (s : State) (f : Fld) (v : Sev) (k : Option ErrClass) (p : List Byte) : (s.evtC f v k p).mctp = s.mctp := by
  unfold State.evtC; generalize srcOf f.addr = p; rfl
@[simp] theorem State.evtC_boot (s : State) (f : Fld) (v : Sev) (k : Option ErrClass) (p : List Byte) : (s.evtC f v k p).boot = s.boot := by
  unfold State.evtC; generalize srcOf f.addr = p; rfl
@[simp] theorem State.evtC_out (s : State) (f : Fld) (v : Sev) (k : Option ErrClass) (p : List Byte) : (s.evtC f v k p).out = s.out := by
  unfold State.evtC; generalize srcOf f.addr = p; rfl
@[simp] theorem State.evtC_pending (s : State) (f : Fld) (v : Sev) (k : Option ErrClass) (p : List Byte) : (s.evtC f v k p).pending = s.pending := by
  unfold State.evtC; generalize srcOf f.addr = p; rfl

/-! ### evt -/

@[simp] theorem State.evt_cycle (s : State) (f : Fld) (v : Sev) : (s.evt f v).cycle = s.cycle := by simp [State.evt]
@[simp] theorem State.evt_fresh (s : State) (f : Fld) (v : Sev) : (s.evt f v).fresh = s.fresh := by simp [State.evt]
@[simp] theorem State.evt_held (s : State) (f : Fld) (v : Sev) : (s.evt f v).held = s.held := by simp [State.evt]
@[simp] theorem State.evt_mem (s : State) (f : Fld) (v : Sev) : (s.evt f v).mem = s.mem := by simp [State.evt]
@[simp] theorem State.evt_dpi (s : State) (f : Fld) (v : Sev) : (s.evt f v).dpi = s.dpi := by simp [State.evt]
@[simp] theorem State.evt_dpiOn (s : State) (f : Fld) (v : Sev) : (s.evt f v).dpiOn = s.dpiOn := by simp [State.evt]
@[simp] theorem State.evt_atb (s : State) (f : Fld) (v : Sev) : (s.evt f v).atb = s.atb := by simp [State.evt]
@[simp] theorem State.evt_host (s : State) (f : Fld) (v : Sev) : (s.evt f v).host = s.host := by simp [State.evt]
@[simp] theorem State.evt_ns (s : State) (f : Fld) (v : Sev) : (s.evt f v).ns = s.ns := by simp [State.evt]
@[simp] theorem State.evt_xts (s : State) (f : Fld) (v : Sev) : (s.evt f v).xts = s.xts := by simp [State.evt]
@[simp] theorem State.evt_msc (s : State) (f : Fld) (v : Sev) : (s.evt f v).msc = s.msc := by simp [State.evt]
@[simp] theorem State.evt_trs (s : State) (f : Fld) (v : Sev) : (s.evt f v).trs = s.trs := by simp [State.evt]
@[simp] theorem State.evt_cs (s : State) (f : Fld) (v : Sev) : (s.evt f v).cs = s.cs := by simp [State.evt]
@[simp] theorem State.evt_rwc (s : State) (f : Fld) (v : Sev) : (s.evt f v).rwc = s.rwc := by simp [State.evt]
@[simp] theorem State.evt_pa (s : State) (f : Fld) (v : Sev) : (s.evt f v).pa = s.pa := by simp [State.evt]
@[simp] theorem State.evt_pif (s : State) (f : Fld) (v : Sev) : (s.evt f v).pif = s.pif := by simp [State.evt]
@[simp] theorem State.evt_pair (s : State) (f : Fld) (v : Sev) : (s.evt f v).pair = s.pair := by simp [State.evt]
@[simp] theorem State.evt_cap (s : State) (f : Fld) (v : Sev) : (s.evt f v).cap = s.cap := by simp [State.evt]
@[simp] theorem State.evt_smc (s : State) (f : Fld) (v : Sev) : (s.evt f v).smc = s.smc := by simp [State.evt]
@[simp] theorem State.evt_pow (s : State) (f : Fld) (v : Sev) : (s.evt f v).pow = s.pow := by simp [State.evt]
@[simp] theorem State.evt_heads (s : State) (f : Fld) (v : Sev) : (s.evt f v).heads = s.heads := by simp [State.evt]
@[simp] theorem State.evt_acts (s : State) (f : Fld) (v : Sev) : (s.evt f v).acts = s.acts := by simp [State.evt]
@[simp] theorem State.evt_recov (s : State) (f : Fld) (v : Sev) : (s.evt f v).recov = s.recov := by simp [State.evt]
@[simp] theorem State.evt_memp (s : State) (f : Fld) (v : Sev) : (s.evt f v).memp = s.memp := by simp [State.evt]
@[simp] theorem State.evt_own (s : State) (f : Fld) (v : Sev) : (s.evt f v).own = s.own := by simp [State.evt]
@[simp] theorem State.evt_chain (s : State) (f : Fld) (v : Sev) : (s.evt f v).chain = s.chain := by simp [State.evt]
@[simp] theorem State.evt_mctp (s : State) (f : Fld) (v : Sev) : (s.evt f v).mctp = s.mctp := by simp [State.evt]
@[simp] theorem State.evt_boot (s : State) (f : Fld) (v : Sev) : (s.evt f v).boot = s.boot := by simp [State.evt]
@[simp] theorem State.evt_out (s : State) (f : Fld) (v : Sev) : (s.evt f v).out = s.out := by simp [State.evt]
@[simp] theorem State.evt_pending (s : State) (f : Fld) (v : Sev) : (s.evt f v).pending = s.pending := by simp [State.evt]

/-! ### notePay -/

@[simp] theorem State.notePay_cycle (s : State) (a : Nat) (v : Sev) (p : List Byte) : (s.notePay a v p).cycle = s.cycle := by
  unfold State.notePay; generalize srcOf a = p; rfl
@[simp] theorem State.notePay_fresh (s : State) (a : Nat) (v : Sev) (p : List Byte) : (s.notePay a v p).fresh = s.fresh := by
  unfold State.notePay; generalize srcOf a = p; rfl
@[simp] theorem State.notePay_regs (s : State) (a : Nat) (v : Sev) (p : List Byte) : (s.notePay a v p).regs = s.regs := by
  unfold State.notePay; generalize srcOf a = p; rfl
@[simp] theorem State.notePay_held (s : State) (a : Nat) (v : Sev) (p : List Byte) : (s.notePay a v p).held = s.held := by
  unfold State.notePay; generalize srcOf a = p; rfl
@[simp] theorem State.notePay_mem (s : State) (a : Nat) (v : Sev) (p : List Byte) : (s.notePay a v p).mem = s.mem := by
  unfold State.notePay; generalize srcOf a = p; rfl
@[simp] theorem State.notePay_dpi (s : State) (a : Nat) (v : Sev) (p : List Byte) : (s.notePay a v p).dpi = s.dpi := by
  unfold State.notePay; generalize srcOf a = p; rfl
@[simp] theorem State.notePay_dpiOn (s : State) (a : Nat) (v : Sev) (p : List Byte) : (s.notePay a v p).dpiOn = s.dpiOn := by
  unfold State.notePay; generalize srcOf a = p; rfl
@[simp] theorem State.notePay_atb (s : State) (a : Nat) (v : Sev) (p : List Byte) : (s.notePay a v p).atb = s.atb := by
  unfold State.notePay; generalize srcOf a = p; rfl
@[simp] theorem State.notePay_host (s : State) (a : Nat) (v : Sev) (p : List Byte) : (s.notePay a v p).host = s.host := by
  unfold State.notePay; generalize srcOf a = p; rfl
@[simp] theorem State.notePay_ns (s : State) (a : Nat) (v : Sev) (p : List Byte) : (s.notePay a v p).ns = s.ns := by
  unfold State.notePay; generalize srcOf a = p; rfl
@[simp] theorem State.notePay_xts (s : State) (a : Nat) (v : Sev) (p : List Byte) : (s.notePay a v p).xts = s.xts := by
  unfold State.notePay; generalize srcOf a = p; rfl
@[simp] theorem State.notePay_msc (s : State) (a : Nat) (v : Sev) (p : List Byte) : (s.notePay a v p).msc = s.msc := by
  unfold State.notePay; generalize srcOf a = p; rfl
@[simp] theorem State.notePay_trs (s : State) (a : Nat) (v : Sev) (p : List Byte) : (s.notePay a v p).trs = s.trs := by
  unfold State.notePay; generalize srcOf a = p; rfl
@[simp] theorem State.notePay_cs (s : State) (a : Nat) (v : Sev) (p : List Byte) : (s.notePay a v p).cs = s.cs := by
  unfold State.notePay; generalize srcOf a = p; rfl
@[simp] theorem State.notePay_rwc (s : State) (a : Nat) (v : Sev) (p : List Byte) : (s.notePay a v p).rwc = s.rwc := by
  unfold State.notePay; generalize srcOf a = p; rfl
@[simp] theorem State.notePay_pa (s : State) (a : Nat) (v : Sev) (p : List Byte) : (s.notePay a v p).pa = s.pa := by
  unfold State.notePay; generalize srcOf a = p; rfl
@[simp] theorem State.notePay_pif (s : State) (a : Nat) (v : Sev) (p : List Byte) : (s.notePay a v p).pif = s.pif := by
  unfold State.notePay; generalize srcOf a = p; rfl
@[simp] theorem State.notePay_pair (s : State) (a : Nat) (v : Sev) (p : List Byte) : (s.notePay a v p).pair = s.pair := by
  unfold State.notePay; generalize srcOf a = p; rfl
@[simp] theorem State.notePay_cap (s : State) (a : Nat) (v : Sev) (p : List Byte) : (s.notePay a v p).cap = s.cap := by
  unfold State.notePay; generalize srcOf a = p; rfl
@[simp] theorem State.notePay_smc (s : State) (a : Nat) (v : Sev) (p : List Byte) : (s.notePay a v p).smc = s.smc := by
  unfold State.notePay; generalize srcOf a = p; rfl
@[simp] theorem State.notePay_pow (s : State) (a : Nat) (v : Sev) (p : List Byte) : (s.notePay a v p).pow = s.pow := by
  unfold State.notePay; generalize srcOf a = p; rfl
@[simp] theorem State.notePay_heads (s : State) (a : Nat) (v : Sev) (p : List Byte) : (s.notePay a v p).heads = s.heads := by
  unfold State.notePay; generalize srcOf a = p; rfl
@[simp] theorem State.notePay_acts (s : State) (a : Nat) (v : Sev) (p : List Byte) : (s.notePay a v p).acts = s.acts := by
  unfold State.notePay; generalize srcOf a = p; rfl
@[simp] theorem State.notePay_recov (s : State) (a : Nat) (v : Sev) (p : List Byte) : (s.notePay a v p).recov = s.recov := by
  unfold State.notePay; generalize srcOf a = p; rfl
@[simp] theorem State.notePay_memp (s : State) (a : Nat) (v : Sev) (p : List Byte) : (s.notePay a v p).memp = s.memp := by
  unfold State.notePay; generalize srcOf a = p; rfl
@[simp] theorem State.notePay_own (s : State) (a : Nat) (v : Sev) (p : List Byte) : (s.notePay a v p).own = s.own := by
  unfold State.notePay; generalize srcOf a = p; rfl
@[simp] theorem State.notePay_chain (s : State) (a : Nat) (v : Sev) (p : List Byte) : (s.notePay a v p).chain = s.chain := by
  unfold State.notePay; generalize srcOf a = p; rfl
@[simp] theorem State.notePay_mctp (s : State) (a : Nat) (v : Sev) (p : List Byte) : (s.notePay a v p).mctp = s.mctp := by
  unfold State.notePay; generalize srcOf a = p; rfl
@[simp] theorem State.notePay_boot (s : State) (a : Nat) (v : Sev) (p : List Byte) : (s.notePay a v p).boot = s.boot := by
  unfold State.notePay; generalize srcOf a = p; rfl
@[simp] theorem State.notePay_out (s : State) (a : Nat) (v : Sev) (p : List Byte) : (s.notePay a v p).out = s.out := by
  unfold State.notePay; generalize srcOf a = p; rfl
@[simp] theorem State.notePay_pending (s : State) (a : Nat) (v : Sev) (p : List Byte) : (s.notePay a v p).pending = s.pending := by
  unfold State.notePay; generalize srcOf a = p; rfl

/-! ### note -/

@[simp] theorem State.note_cycle (s : State) (a : Nat) (v : Sev) : (s.note a v).cycle = s.cycle := by simp [State.note]
@[simp] theorem State.note_fresh (s : State) (a : Nat) (v : Sev) : (s.note a v).fresh = s.fresh := by simp [State.note]
@[simp] theorem State.note_regs (s : State) (a : Nat) (v : Sev) : (s.note a v).regs = s.regs := by simp [State.note]
@[simp] theorem State.note_held (s : State) (a : Nat) (v : Sev) : (s.note a v).held = s.held := by simp [State.note]
@[simp] theorem State.note_mem (s : State) (a : Nat) (v : Sev) : (s.note a v).mem = s.mem := by simp [State.note]
@[simp] theorem State.note_dpi (s : State) (a : Nat) (v : Sev) : (s.note a v).dpi = s.dpi := by simp [State.note]
@[simp] theorem State.note_dpiOn (s : State) (a : Nat) (v : Sev) : (s.note a v).dpiOn = s.dpiOn := by simp [State.note]
@[simp] theorem State.note_atb (s : State) (a : Nat) (v : Sev) : (s.note a v).atb = s.atb := by simp [State.note]
@[simp] theorem State.note_host (s : State) (a : Nat) (v : Sev) : (s.note a v).host = s.host := by simp [State.note]
@[simp] theorem State.note_ns (s : State) (a : Nat) (v : Sev) : (s.note a v).ns = s.ns := by simp [State.note]
@[simp] theorem State.note_xts (s : State) (a : Nat) (v : Sev) : (s.note a v).xts = s.xts := by simp [State.note]
@[simp] theorem State.note_msc (s : State) (a : Nat) (v : Sev) : (s.note a v).msc = s.msc := by simp [State.note]
@[simp] theorem State.note_trs (s : State) (a : Nat) (v : Sev) : (s.note a v).trs = s.trs := by simp [State.note]
@[simp] theorem State.note_cs (s : State) (a : Nat) (v : Sev) : (s.note a v).cs = s.cs := by simp [State.note]
@[simp] theorem State.note_rwc (s : State) (a : Nat) (v : Sev) : (s.note a v).rwc = s.rwc := by simp [State.note]
@[simp] theorem State.note_pa (s : State) (a : Nat) (v : Sev) : (s.note a v).pa = s.pa := by simp [State.note]
@[simp] theorem State.note_pif (s : State) (a : Nat) (v : Sev) : (s.note a v).pif = s.pif := by simp [State.note]
@[simp] theorem State.note_pair (s : State) (a : Nat) (v : Sev) : (s.note a v).pair = s.pair := by simp [State.note]
@[simp] theorem State.note_cap (s : State) (a : Nat) (v : Sev) : (s.note a v).cap = s.cap := by simp [State.note]
@[simp] theorem State.note_smc (s : State) (a : Nat) (v : Sev) : (s.note a v).smc = s.smc := by simp [State.note]
@[simp] theorem State.note_pow (s : State) (a : Nat) (v : Sev) : (s.note a v).pow = s.pow := by simp [State.note]
@[simp] theorem State.note_heads (s : State) (a : Nat) (v : Sev) : (s.note a v).heads = s.heads := by simp [State.note]
@[simp] theorem State.note_acts (s : State) (a : Nat) (v : Sev) : (s.note a v).acts = s.acts := by simp [State.note]
@[simp] theorem State.note_recov (s : State) (a : Nat) (v : Sev) : (s.note a v).recov = s.recov := by simp [State.note]
@[simp] theorem State.note_memp (s : State) (a : Nat) (v : Sev) : (s.note a v).memp = s.memp := by simp [State.note]
@[simp] theorem State.note_own (s : State) (a : Nat) (v : Sev) : (s.note a v).own = s.own := by simp [State.note]
@[simp] theorem State.note_chain (s : State) (a : Nat) (v : Sev) : (s.note a v).chain = s.chain := by simp [State.note]
@[simp] theorem State.note_mctp (s : State) (a : Nat) (v : Sev) : (s.note a v).mctp = s.mctp := by simp [State.note]
@[simp] theorem State.note_boot (s : State) (a : Nat) (v : Sev) : (s.note a v).boot = s.boot := by simp [State.note]
@[simp] theorem State.note_out (s : State) (a : Nat) (v : Sev) : (s.note a v).out = s.out := by simp [State.note]
@[simp] theorem State.note_pending (s : State) (a : Nat) (v : Sev) : (s.note a v).pending = s.pending := by simp [State.note]

/-! ### noteInst -/

@[simp] theorem State.noteInst_cycle (s : State) (a : Nat) (v : Sev) (n : Fin 4) : (s.noteInst a v n).cycle = s.cycle := by
  unfold State.noteInst; generalize srcOf a = p; rfl
@[simp] theorem State.noteInst_fresh (s : State) (a : Nat) (v : Sev) (n : Fin 4) : (s.noteInst a v n).fresh = s.fresh := by
  unfold State.noteInst; generalize srcOf a = p; rfl
@[simp] theorem State.noteInst_regs (s : State) (a : Nat) (v : Sev) (n : Fin 4) : (s.noteInst a v n).regs = s.regs := by
  unfold State.noteInst; generalize srcOf a = p; rfl
@[simp] theorem State.noteInst_held (s : State) (a : Nat) (v : Sev) (n : Fin 4) : (s.noteInst a v n).held = s.held := by
  unfold State.noteInst; generalize srcOf a = p; rfl
@[simp] theorem State.noteInst_mem (s : State) (a : Nat) (v : Sev) (n : Fin 4) : (s.noteInst a v n).mem = s.mem := by
  unfold State.noteInst; generalize srcOf a = p; rfl
@[simp] theorem State.noteInst_dpi (s : State) (a : Nat) (v : Sev) (n : Fin 4) : (s.noteInst a v n).dpi = s.dpi := by
  unfold State.noteInst; generalize srcOf a = p; rfl
@[simp] theorem State.noteInst_dpiOn (s : State) (a : Nat) (v : Sev) (n : Fin 4) : (s.noteInst a v n).dpiOn = s.dpiOn := by
  unfold State.noteInst; generalize srcOf a = p; rfl
@[simp] theorem State.noteInst_atb (s : State) (a : Nat) (v : Sev) (n : Fin 4) : (s.noteInst a v n).atb = s.atb := by
  unfold State.noteInst; generalize srcOf a = p; rfl
@[simp] theorem State.noteInst_host (s : State) (a : Nat) (v : Sev) (n : Fin 4) : (s.noteInst a v n).host = s.host := by
  unfold State.noteInst; generalize srcOf a = p; rfl
@[simp] theorem State.noteInst_ns (s : State) (a : Nat) (v : Sev) (n : Fin 4) : (s.noteInst a v n).ns = s.ns := by
  unfold State.noteInst; generalize srcOf a = p; rfl
@[simp] theorem State.noteInst_xts (s : State) (a : Nat) (v : Sev) (n : Fin 4) : (s.noteInst a v n).xts = s.xts := by
  unfold State.noteInst; generalize srcOf a = p; rfl
@[simp] theorem State.noteInst_msc (s : State) (a : Nat) (v : Sev) (n : Fin 4) : (s.noteInst a v n).msc = s.msc := by
  unfold State.noteInst; generalize srcOf a = p; rfl
@[simp] theorem State.noteInst_trs (s : State) (a : Nat) (v : Sev) (n : Fin 4) : (s.noteInst a v n).trs = s.trs := by
  unfold State.noteInst; generalize srcOf a = p; rfl
@[simp] theorem State.noteInst_cs (s : State) (a : Nat) (v : Sev) (n : Fin 4) : (s.noteInst a v n).cs = s.cs := by
  unfold State.noteInst; generalize srcOf a = p; rfl
@[simp] theorem State.noteInst_rwc (s : State) (a : Nat) (v : Sev) (n : Fin 4) : (s.noteInst a v n).rwc = s.rwc := by
  unfold State.noteInst; generalize srcOf a = p; rfl
@[simp] theorem State.noteInst_pa (s : State) (a : Nat) (v : Sev) (n : Fin 4) : (s.noteInst a v n).pa = s.pa := by
  unfold State.noteInst; generalize srcOf a = p; rfl
@[simp] theorem State.noteInst_pif (s : State) (a : Nat) (v : Sev) (n : Fin 4) : (s.noteInst a v n).pif = s.pif := by
  unfold State.noteInst; generalize srcOf a = p; rfl
@[simp] theorem State.noteInst_pair (s : State) (a : Nat) (v : Sev) (n : Fin 4) : (s.noteInst a v n).pair = s.pair := by
  unfold State.noteInst; generalize srcOf a = p; rfl
@[simp] theorem State.noteInst_cap (s : State) (a : Nat) (v : Sev) (n : Fin 4) : (s.noteInst a v n).cap = s.cap := by
  unfold State.noteInst; generalize srcOf a = p; rfl
@[simp] theorem State.noteInst_smc (s : State) (a : Nat) (v : Sev) (n : Fin 4) : (s.noteInst a v n).smc = s.smc := by
  unfold State.noteInst; generalize srcOf a = p; rfl
@[simp] theorem State.noteInst_pow (s : State) (a : Nat) (v : Sev) (n : Fin 4) : (s.noteInst a v n).pow = s.pow := by
  unfold State.noteInst; generalize srcOf a = p; rfl
@[simp] theorem State.noteInst_heads (s : State) (a : Nat) (v : Sev) (n : Fin 4) : (s.noteInst a v n).heads = s.heads := by
  unfold State.noteInst; generalize srcOf a = p; rfl
@[simp] theorem State.noteInst_acts (s : State) (a : Nat) (v : Sev) (n : Fin 4) : (s.noteInst a v n).acts = s.acts := by
  unfold State.noteInst; generalize srcOf a = p; rfl
@[simp] theorem State.noteInst_recov (s : State) (a : Nat) (v : Sev) (n : Fin 4) : (s.noteInst a v n).recov = s.recov := by
  unfold State.noteInst; generalize srcOf a = p; rfl
@[simp] theorem State.noteInst_memp (s : State) (a : Nat) (v : Sev) (n : Fin 4) : (s.noteInst a v n).memp = s.memp := by
  unfold State.noteInst; generalize srcOf a = p; rfl
@[simp] theorem State.noteInst_own (s : State) (a : Nat) (v : Sev) (n : Fin 4) : (s.noteInst a v n).own = s.own := by
  unfold State.noteInst; generalize srcOf a = p; rfl
@[simp] theorem State.noteInst_chain (s : State) (a : Nat) (v : Sev) (n : Fin 4) : (s.noteInst a v n).chain = s.chain := by
  unfold State.noteInst; generalize srcOf a = p; rfl
@[simp] theorem State.noteInst_mctp (s : State) (a : Nat) (v : Sev) (n : Fin 4) : (s.noteInst a v n).mctp = s.mctp := by
  unfold State.noteInst; generalize srcOf a = p; rfl
@[simp] theorem State.noteInst_boot (s : State) (a : Nat) (v : Sev) (n : Fin 4) : (s.noteInst a v n).boot = s.boot := by
  unfold State.noteInst; generalize srcOf a = p; rfl
@[simp] theorem State.noteInst_out (s : State) (a : Nat) (v : Sev) (n : Fin 4) : (s.noteInst a v n).out = s.out := by
  unfold State.noteInst; generalize srcOf a = p; rfl
@[simp] theorem State.noteInst_pending (s : State) (a : Nat) (v : Sev) (n : Fin 4) : (s.noteInst a v n).pending = s.pending := by
  unfold State.noteInst; generalize srcOf a = p; rfl

/-! ### refusedAccess -/

@[simp] theorem State.refusedAccess_cycle (s : State) (m : Master) (a : Nat) (u w : Bool) : (s.refusedAccess m a u w).cycle = s.cycle := rfl
@[simp] theorem State.refusedAccess_fresh (s : State) (m : Master) (a : Nat) (u w : Bool) : (s.refusedAccess m a u w).fresh = s.fresh := rfl
@[simp] theorem State.refusedAccess_regs (s : State) (m : Master) (a : Nat) (u w : Bool) : (s.refusedAccess m a u w).regs = s.regs := rfl
@[simp] theorem State.refusedAccess_held (s : State) (m : Master) (a : Nat) (u w : Bool) : (s.refusedAccess m a u w).held = s.held := rfl
@[simp] theorem State.refusedAccess_mem (s : State) (m : Master) (a : Nat) (u w : Bool) : (s.refusedAccess m a u w).mem = s.mem := rfl
@[simp] theorem State.refusedAccess_dpi (s : State) (m : Master) (a : Nat) (u w : Bool) : (s.refusedAccess m a u w).dpi = s.dpi := rfl
@[simp] theorem State.refusedAccess_dpiOn (s : State) (m : Master) (a : Nat) (u w : Bool) : (s.refusedAccess m a u w).dpiOn = s.dpiOn := rfl
@[simp] theorem State.refusedAccess_atb (s : State) (m : Master) (a : Nat) (u w : Bool) : (s.refusedAccess m a u w).atb = s.atb := rfl
@[simp] theorem State.refusedAccess_host (s : State) (m : Master) (a : Nat) (u w : Bool) : (s.refusedAccess m a u w).host = s.host := rfl
@[simp] theorem State.refusedAccess_ns (s : State) (m : Master) (a : Nat) (u w : Bool) : (s.refusedAccess m a u w).ns = s.ns := rfl
@[simp] theorem State.refusedAccess_xts (s : State) (m : Master) (a : Nat) (u w : Bool) : (s.refusedAccess m a u w).xts = s.xts := rfl
@[simp] theorem State.refusedAccess_msc (s : State) (m : Master) (a : Nat) (u w : Bool) : (s.refusedAccess m a u w).msc = s.msc := rfl
@[simp] theorem State.refusedAccess_trs (s : State) (m : Master) (a : Nat) (u w : Bool) : (s.refusedAccess m a u w).trs = s.trs := rfl
@[simp] theorem State.refusedAccess_cs (s : State) (m : Master) (a : Nat) (u w : Bool) : (s.refusedAccess m a u w).cs = s.cs := rfl
@[simp] theorem State.refusedAccess_rwc (s : State) (m : Master) (a : Nat) (u w : Bool) : (s.refusedAccess m a u w).rwc = s.rwc := rfl
@[simp] theorem State.refusedAccess_pa (s : State) (m : Master) (a : Nat) (u w : Bool) : (s.refusedAccess m a u w).pa = s.pa := rfl
@[simp] theorem State.refusedAccess_pif (s : State) (m : Master) (a : Nat) (u w : Bool) : (s.refusedAccess m a u w).pif = s.pif := rfl
@[simp] theorem State.refusedAccess_pair (s : State) (m : Master) (a : Nat) (u w : Bool) : (s.refusedAccess m a u w).pair = s.pair := rfl
@[simp] theorem State.refusedAccess_cap (s : State) (m : Master) (a : Nat) (u w : Bool) : (s.refusedAccess m a u w).cap = s.cap := rfl
@[simp] theorem State.refusedAccess_smc (s : State) (m : Master) (a : Nat) (u w : Bool) : (s.refusedAccess m a u w).smc = s.smc := rfl
@[simp] theorem State.refusedAccess_pow (s : State) (m : Master) (a : Nat) (u w : Bool) : (s.refusedAccess m a u w).pow = s.pow := rfl
@[simp] theorem State.refusedAccess_heads (s : State) (m : Master) (a : Nat) (u w : Bool) : (s.refusedAccess m a u w).heads = s.heads := rfl
@[simp] theorem State.refusedAccess_acts (s : State) (m : Master) (a : Nat) (u w : Bool) : (s.refusedAccess m a u w).acts = s.acts := rfl
@[simp] theorem State.refusedAccess_recov (s : State) (m : Master) (a : Nat) (u w : Bool) : (s.refusedAccess m a u w).recov = s.recov := rfl
@[simp] theorem State.refusedAccess_memp (s : State) (m : Master) (a : Nat) (u w : Bool) : (s.refusedAccess m a u w).memp = s.memp := rfl
@[simp] theorem State.refusedAccess_own (s : State) (m : Master) (a : Nat) (u w : Bool) : (s.refusedAccess m a u w).own = s.own := rfl
@[simp] theorem State.refusedAccess_chain (s : State) (m : Master) (a : Nat) (u w : Bool) : (s.refusedAccess m a u w).chain = s.chain := rfl
@[simp] theorem State.refusedAccess_mctp (s : State) (m : Master) (a : Nat) (u w : Bool) : (s.refusedAccess m a u w).mctp = s.mctp := rfl
@[simp] theorem State.refusedAccess_boot (s : State) (m : Master) (a : Nat) (u w : Bool) : (s.refusedAccess m a u w).boot = s.boot := rfl
@[simp] theorem State.refusedAccess_out (s : State) (m : Master) (a : Nat) (u w : Bool) : (s.refusedAccess m a u w).out = s.out := rfl
@[simp] theorem State.refusedAccess_pending (s : State) (m : Master) (a : Nat) (u w : Bool) : (s.refusedAccess m a u w).pending = s.pending := rfl

/-! ### Lists of bytes -/

@[simp] theorem State.memPuts_cycle (s : State) (a : Nat) (l : List Byte) : (s.memPuts a l).cycle = s.cycle := rfl
@[simp] theorem State.memPuts_fresh (s : State) (a : Nat) (l : List Byte) : (s.memPuts a l).fresh = s.fresh := rfl
@[simp] theorem State.memPuts_regs (s : State) (a : Nat) (l : List Byte) : (s.memPuts a l).regs = s.regs := rfl
@[simp] theorem State.memPuts_held (s : State) (a : Nat) (l : List Byte) : (s.memPuts a l).held = s.held := rfl
@[simp] theorem State.memPuts_dpi (s : State) (a : Nat) (l : List Byte) : (s.memPuts a l).dpi = s.dpi := rfl
@[simp] theorem State.memPuts_dpiOn (s : State) (a : Nat) (l : List Byte) : (s.memPuts a l).dpiOn = s.dpiOn := rfl
@[simp] theorem State.memPuts_evr (s : State) (a : Nat) (l : List Byte) : (s.memPuts a l).evr = s.evr := rfl
@[simp] theorem State.memPuts_atb (s : State) (a : Nat) (l : List Byte) : (s.memPuts a l).atb = s.atb := rfl
@[simp] theorem State.memPuts_host (s : State) (a : Nat) (l : List Byte) : (s.memPuts a l).host = s.host := rfl
@[simp] theorem State.memPuts_ns (s : State) (a : Nat) (l : List Byte) : (s.memPuts a l).ns = s.ns := rfl
@[simp] theorem State.memPuts_xts (s : State) (a : Nat) (l : List Byte) : (s.memPuts a l).xts = s.xts := rfl
@[simp] theorem State.memPuts_msc (s : State) (a : Nat) (l : List Byte) : (s.memPuts a l).msc = s.msc := rfl
@[simp] theorem State.memPuts_trs (s : State) (a : Nat) (l : List Byte) : (s.memPuts a l).trs = s.trs := rfl
@[simp] theorem State.memPuts_cs (s : State) (a : Nat) (l : List Byte) : (s.memPuts a l).cs = s.cs := rfl
@[simp] theorem State.memPuts_rwc (s : State) (a : Nat) (l : List Byte) : (s.memPuts a l).rwc = s.rwc := rfl
@[simp] theorem State.memPuts_pa (s : State) (a : Nat) (l : List Byte) : (s.memPuts a l).pa = s.pa := rfl
@[simp] theorem State.memPuts_pif (s : State) (a : Nat) (l : List Byte) : (s.memPuts a l).pif = s.pif := rfl
@[simp] theorem State.memPuts_pair (s : State) (a : Nat) (l : List Byte) : (s.memPuts a l).pair = s.pair := rfl
@[simp] theorem State.memPuts_cap (s : State) (a : Nat) (l : List Byte) : (s.memPuts a l).cap = s.cap := rfl
@[simp] theorem State.memPuts_smc (s : State) (a : Nat) (l : List Byte) : (s.memPuts a l).smc = s.smc := rfl
@[simp] theorem State.memPuts_pow (s : State) (a : Nat) (l : List Byte) : (s.memPuts a l).pow = s.pow := rfl
@[simp] theorem State.memPuts_heads (s : State) (a : Nat) (l : List Byte) : (s.memPuts a l).heads = s.heads := rfl
@[simp] theorem State.memPuts_acts (s : State) (a : Nat) (l : List Byte) : (s.memPuts a l).acts = s.acts := rfl
@[simp] theorem State.memPuts_recov (s : State) (a : Nat) (l : List Byte) : (s.memPuts a l).recov = s.recov := rfl
@[simp] theorem State.memPuts_memp (s : State) (a : Nat) (l : List Byte) : (s.memPuts a l).memp = s.memp := rfl
@[simp] theorem State.memPuts_own (s : State) (a : Nat) (l : List Byte) : (s.memPuts a l).own = s.own := rfl
@[simp] theorem State.memPuts_chain (s : State) (a : Nat) (l : List Byte) : (s.memPuts a l).chain = s.chain := rfl
@[simp] theorem State.memPuts_mctp (s : State) (a : Nat) (l : List Byte) : (s.memPuts a l).mctp = s.mctp := rfl
@[simp] theorem State.memPuts_boot (s : State) (a : Nat) (l : List Byte) : (s.memPuts a l).boot = s.boot := rfl
@[simp] theorem State.memPuts_out (s : State) (a : Nat) (l : List Byte) : (s.memPuts a l).out = s.out := rfl
@[simp] theorem State.memPuts_pending (s : State) (a : Nat) (l : List Byte) : (s.memPuts a l).pending = s.pending := rfl

theorem State.memPuts_nil (s : State) (a : Nat) : s.memPuts a [] = s := rfl

/-- Bytes are put one after another. -/
theorem State.memPuts_cons (s : State) (a : Nat) (b : Byte) (t : List Byte) : s.memPuts a (b :: t) = (s.memPut a b).memPuts (a + 1) t := rfl

/-! ### The end of a command -/

@[simp] theorem State.enqueueOffer_cycle (s : State) (o : Offer) : (s.enqueueOffer o).cycle = s.cycle := by
  simp only [State.enqueueOffer]; split_ifs <;> rfl
@[simp] theorem State.enqueueOffer_fresh (s : State) (o : Offer) : (s.enqueueOffer o).fresh = s.fresh := by
  simp only [State.enqueueOffer]; split_ifs <;> rfl
@[simp] theorem State.enqueueOffer_held (s : State) (o : Offer) : (s.enqueueOffer o).held = s.held := by
  simp only [State.enqueueOffer]; split_ifs <;> rfl
@[simp] theorem State.enqueueOffer_mem (s : State) (o : Offer) : (s.enqueueOffer o).mem = s.mem := by
  simp only [State.enqueueOffer]; split_ifs <;> rfl
@[simp] theorem State.enqueueOffer_dpi (s : State) (o : Offer) : (s.enqueueOffer o).dpi = s.dpi := by
  simp only [State.enqueueOffer]; split_ifs <;> rfl
@[simp] theorem State.enqueueOffer_dpiOn (s : State) (o : Offer) : (s.enqueueOffer o).dpiOn = s.dpiOn := by
  simp only [State.enqueueOffer]; split_ifs <;> rfl
@[simp] theorem State.enqueueOffer_atb (s : State) (o : Offer) : (s.enqueueOffer o).atb = s.atb := by
  simp only [State.enqueueOffer]; split_ifs <;> rfl
@[simp] theorem State.enqueueOffer_host (s : State) (o : Offer) : (s.enqueueOffer o).host = s.host := by
  simp only [State.enqueueOffer]; split_ifs <;> rfl
@[simp] theorem State.enqueueOffer_ns (s : State) (o : Offer) : (s.enqueueOffer o).ns = s.ns := by
  simp only [State.enqueueOffer]; split_ifs <;> rfl
@[simp] theorem State.enqueueOffer_xts (s : State) (o : Offer) : (s.enqueueOffer o).xts = s.xts := by
  simp only [State.enqueueOffer]; split_ifs <;> rfl
@[simp] theorem State.enqueueOffer_msc (s : State) (o : Offer) : (s.enqueueOffer o).msc = s.msc := by
  simp only [State.enqueueOffer]; split_ifs <;> rfl
@[simp] theorem State.enqueueOffer_trs (s : State) (o : Offer) : (s.enqueueOffer o).trs = s.trs := by
  simp only [State.enqueueOffer]; split_ifs <;> rfl
@[simp] theorem State.enqueueOffer_cs (s : State) (o : Offer) : (s.enqueueOffer o).cs = s.cs := by
  simp only [State.enqueueOffer]; split_ifs <;> rfl
@[simp] theorem State.enqueueOffer_rwc (s : State) (o : Offer) : (s.enqueueOffer o).rwc = s.rwc := by
  simp only [State.enqueueOffer]; split_ifs <;> rfl
@[simp] theorem State.enqueueOffer_pa (s : State) (o : Offer) : (s.enqueueOffer o).pa = s.pa := by
  simp only [State.enqueueOffer]; split_ifs <;> rfl
@[simp] theorem State.enqueueOffer_pif (s : State) (o : Offer) : (s.enqueueOffer o).pif = s.pif := by
  simp only [State.enqueueOffer]; split_ifs <;> rfl
@[simp] theorem State.enqueueOffer_pair (s : State) (o : Offer) : (s.enqueueOffer o).pair = s.pair := by
  simp only [State.enqueueOffer]; split_ifs <;> rfl
@[simp] theorem State.enqueueOffer_cap (s : State) (o : Offer) : (s.enqueueOffer o).cap = s.cap := by
  simp only [State.enqueueOffer]; split_ifs <;> rfl
@[simp] theorem State.enqueueOffer_smc (s : State) (o : Offer) : (s.enqueueOffer o).smc = s.smc := by
  simp only [State.enqueueOffer]; split_ifs <;> rfl
@[simp] theorem State.enqueueOffer_pow (s : State) (o : Offer) : (s.enqueueOffer o).pow = s.pow := by
  simp only [State.enqueueOffer]; split_ifs <;> rfl
@[simp] theorem State.enqueueOffer_heads (s : State) (o : Offer) : (s.enqueueOffer o).heads = s.heads := by
  simp only [State.enqueueOffer]; split_ifs <;> rfl
@[simp] theorem State.enqueueOffer_acts (s : State) (o : Offer) : (s.enqueueOffer o).acts = s.acts := by
  simp only [State.enqueueOffer]; split_ifs <;> rfl
@[simp] theorem State.enqueueOffer_recov (s : State) (o : Offer) : (s.enqueueOffer o).recov = s.recov := by
  simp only [State.enqueueOffer]; split_ifs <;> rfl
@[simp] theorem State.enqueueOffer_memp (s : State) (o : Offer) : (s.enqueueOffer o).memp = s.memp := by
  simp only [State.enqueueOffer]; split_ifs <;> rfl
@[simp] theorem State.enqueueOffer_own (s : State) (o : Offer) : (s.enqueueOffer o).own = s.own := by
  simp only [State.enqueueOffer]; split_ifs <;> rfl
@[simp] theorem State.enqueueOffer_chain (s : State) (o : Offer) : (s.enqueueOffer o).chain = s.chain := by
  simp only [State.enqueueOffer]; split_ifs <;> rfl
@[simp] theorem State.enqueueOffer_mctp (s : State) (o : Offer) : (s.enqueueOffer o).mctp = s.mctp := by
  simp only [State.enqueueOffer]; split_ifs <;> rfl
@[simp] theorem State.enqueueOffer_boot (s : State) (o : Offer) : (s.enqueueOffer o).boot = s.boot := by
  simp only [State.enqueueOffer]; split_ifs <;> rfl
@[simp] theorem State.enqueueOffer_out (s : State) (o : Offer) : (s.enqueueOffer o).out = s.out := by
  simp only [State.enqueueOffer]; split_ifs <;> rfl
@[simp] theorem State.enqueueOffer_pending (s : State) (o : Offer) : (s.enqueueOffer o).pending = s.pending := by
  simp only [State.enqueueOffer]; split_ifs <;> rfl

theorem State.enqueueOffer_rd (s : State) (o : Offer) {a : Nat} (h : a ≠ Reg.EVR_DROPQ) : (s.enqueueOffer o).rd a = s.rd a := by
  simp only [State.enqueueOffer]
  split_ifs <;> simp [State.rd, State.bump, State.addc, State.wr, regRead_write_ne _ h]

theorem State.foldEnqueue_rd (l : List Offer) (s : State) {a : Nat} (h : a ≠ Reg.EVR_DROPQ) :
    (l.foldl (fun s o => s.enqueueOffer o) s).rd a = s.rd a := by
  induction l generalizing s with
  | nil => rfl
  | cons o t ih => rw [List.foldl_cons, ih, State.enqueueOffer_rd _ _ h]

theorem State.foldEnqueue_cycle (l : List Offer) (s : State) :
    (l.foldl (fun s o => s.enqueueOffer o) s).cycle = s.cycle := by
  induction l generalizing s with
  | nil => rfl
  | cons o t ih => rw [List.foldl_cons, ih, State.enqueueOffer_cycle]
@[simp] theorem State.settle_cycle (s : State) : s.settle.cycle = s.cycle := by simp [State.settle, State.foldEnqueue_cycle]
theorem State.foldEnqueue_fresh (l : List Offer) (s : State) :
    (l.foldl (fun s o => s.enqueueOffer o) s).fresh = s.fresh := by
  induction l generalizing s with
  | nil => rfl
  | cons o t ih => rw [List.foldl_cons, ih, State.enqueueOffer_fresh]
@[simp] theorem State.settle_fresh (s : State) : s.settle.fresh = s.fresh := by simp [State.settle, State.foldEnqueue_fresh]
theorem State.foldEnqueue_held (l : List Offer) (s : State) :
    (l.foldl (fun s o => s.enqueueOffer o) s).held = s.held := by
  induction l generalizing s with
  | nil => rfl
  | cons o t ih => rw [List.foldl_cons, ih, State.enqueueOffer_held]
@[simp] theorem State.settle_held (s : State) : s.settle.held = s.held := by simp [State.settle, State.foldEnqueue_held]
theorem State.foldEnqueue_mem (l : List Offer) (s : State) :
    (l.foldl (fun s o => s.enqueueOffer o) s).mem = s.mem := by
  induction l generalizing s with
  | nil => rfl
  | cons o t ih => rw [List.foldl_cons, ih, State.enqueueOffer_mem]
@[simp] theorem State.settle_mem (s : State) : s.settle.mem = s.mem := by simp [State.settle, State.foldEnqueue_mem]
theorem State.foldEnqueue_dpi (l : List Offer) (s : State) :
    (l.foldl (fun s o => s.enqueueOffer o) s).dpi = s.dpi := by
  induction l generalizing s with
  | nil => rfl
  | cons o t ih => rw [List.foldl_cons, ih, State.enqueueOffer_dpi]
@[simp] theorem State.settle_dpi (s : State) : s.settle.dpi = s.dpi := by simp [State.settle, State.foldEnqueue_dpi]
theorem State.foldEnqueue_dpiOn (l : List Offer) (s : State) :
    (l.foldl (fun s o => s.enqueueOffer o) s).dpiOn = s.dpiOn := by
  induction l generalizing s with
  | nil => rfl
  | cons o t ih => rw [List.foldl_cons, ih, State.enqueueOffer_dpiOn]
@[simp] theorem State.settle_dpiOn (s : State) : s.settle.dpiOn = s.dpiOn := by simp [State.settle, State.foldEnqueue_dpiOn]
theorem State.foldEnqueue_atb (l : List Offer) (s : State) :
    (l.foldl (fun s o => s.enqueueOffer o) s).atb = s.atb := by
  induction l generalizing s with
  | nil => rfl
  | cons o t ih => rw [List.foldl_cons, ih, State.enqueueOffer_atb]
@[simp] theorem State.settle_atb (s : State) : s.settle.atb = s.atb := by simp [State.settle, State.foldEnqueue_atb]
theorem State.foldEnqueue_host (l : List Offer) (s : State) :
    (l.foldl (fun s o => s.enqueueOffer o) s).host = s.host := by
  induction l generalizing s with
  | nil => rfl
  | cons o t ih => rw [List.foldl_cons, ih, State.enqueueOffer_host]
@[simp] theorem State.settle_host (s : State) : s.settle.host = s.host := by simp [State.settle, State.foldEnqueue_host]
theorem State.foldEnqueue_ns (l : List Offer) (s : State) :
    (l.foldl (fun s o => s.enqueueOffer o) s).ns = s.ns := by
  induction l generalizing s with
  | nil => rfl
  | cons o t ih => rw [List.foldl_cons, ih, State.enqueueOffer_ns]
@[simp] theorem State.settle_ns (s : State) : s.settle.ns = s.ns := by simp [State.settle, State.foldEnqueue_ns]
theorem State.foldEnqueue_xts (l : List Offer) (s : State) :
    (l.foldl (fun s o => s.enqueueOffer o) s).xts = s.xts := by
  induction l generalizing s with
  | nil => rfl
  | cons o t ih => rw [List.foldl_cons, ih, State.enqueueOffer_xts]
@[simp] theorem State.settle_xts (s : State) : s.settle.xts = s.xts := by simp [State.settle, State.foldEnqueue_xts]
theorem State.foldEnqueue_msc (l : List Offer) (s : State) :
    (l.foldl (fun s o => s.enqueueOffer o) s).msc = s.msc := by
  induction l generalizing s with
  | nil => rfl
  | cons o t ih => rw [List.foldl_cons, ih, State.enqueueOffer_msc]
@[simp] theorem State.settle_msc (s : State) : s.settle.msc = s.msc := by simp [State.settle, State.foldEnqueue_msc]
theorem State.foldEnqueue_trs (l : List Offer) (s : State) :
    (l.foldl (fun s o => s.enqueueOffer o) s).trs = s.trs := by
  induction l generalizing s with
  | nil => rfl
  | cons o t ih => rw [List.foldl_cons, ih, State.enqueueOffer_trs]
@[simp] theorem State.settle_trs (s : State) : s.settle.trs = s.trs := by simp [State.settle, State.foldEnqueue_trs]
theorem State.foldEnqueue_cs (l : List Offer) (s : State) :
    (l.foldl (fun s o => s.enqueueOffer o) s).cs = s.cs := by
  induction l generalizing s with
  | nil => rfl
  | cons o t ih => rw [List.foldl_cons, ih, State.enqueueOffer_cs]
@[simp] theorem State.settle_cs (s : State) : s.settle.cs = s.cs := by simp [State.settle, State.foldEnqueue_cs]
theorem State.foldEnqueue_rwc (l : List Offer) (s : State) :
    (l.foldl (fun s o => s.enqueueOffer o) s).rwc = s.rwc := by
  induction l generalizing s with
  | nil => rfl
  | cons o t ih => rw [List.foldl_cons, ih, State.enqueueOffer_rwc]
@[simp] theorem State.settle_rwc (s : State) : s.settle.rwc = s.rwc := by simp [State.settle, State.foldEnqueue_rwc]
theorem State.foldEnqueue_pa (l : List Offer) (s : State) :
    (l.foldl (fun s o => s.enqueueOffer o) s).pa = s.pa := by
  induction l generalizing s with
  | nil => rfl
  | cons o t ih => rw [List.foldl_cons, ih, State.enqueueOffer_pa]
@[simp] theorem State.settle_pa (s : State) : s.settle.pa = s.pa := by simp [State.settle, State.foldEnqueue_pa]
theorem State.foldEnqueue_pif (l : List Offer) (s : State) :
    (l.foldl (fun s o => s.enqueueOffer o) s).pif = s.pif := by
  induction l generalizing s with
  | nil => rfl
  | cons o t ih => rw [List.foldl_cons, ih, State.enqueueOffer_pif]
@[simp] theorem State.settle_pif (s : State) : s.settle.pif = s.pif := by simp [State.settle, State.foldEnqueue_pif]
theorem State.foldEnqueue_pair (l : List Offer) (s : State) :
    (l.foldl (fun s o => s.enqueueOffer o) s).pair = s.pair := by
  induction l generalizing s with
  | nil => rfl
  | cons o t ih => rw [List.foldl_cons, ih, State.enqueueOffer_pair]
@[simp] theorem State.settle_pair (s : State) : s.settle.pair = s.pair := by simp [State.settle, State.foldEnqueue_pair]
theorem State.foldEnqueue_cap (l : List Offer) (s : State) :
    (l.foldl (fun s o => s.enqueueOffer o) s).cap = s.cap := by
  induction l generalizing s with
  | nil => rfl
  | cons o t ih => rw [List.foldl_cons, ih, State.enqueueOffer_cap]
@[simp] theorem State.settle_cap (s : State) : s.settle.cap = s.cap := by simp [State.settle, State.foldEnqueue_cap]
theorem State.foldEnqueue_smc (l : List Offer) (s : State) :
    (l.foldl (fun s o => s.enqueueOffer o) s).smc = s.smc := by
  induction l generalizing s with
  | nil => rfl
  | cons o t ih => rw [List.foldl_cons, ih, State.enqueueOffer_smc]
@[simp] theorem State.settle_smc (s : State) : s.settle.smc = s.smc := by simp [State.settle, State.foldEnqueue_smc]
theorem State.foldEnqueue_pow (l : List Offer) (s : State) :
    (l.foldl (fun s o => s.enqueueOffer o) s).pow = s.pow := by
  induction l generalizing s with
  | nil => rfl
  | cons o t ih => rw [List.foldl_cons, ih, State.enqueueOffer_pow]
@[simp] theorem State.settle_pow (s : State) : s.settle.pow = s.pow := by simp [State.settle, State.foldEnqueue_pow]
theorem State.foldEnqueue_heads (l : List Offer) (s : State) :
    (l.foldl (fun s o => s.enqueueOffer o) s).heads = s.heads := by
  induction l generalizing s with
  | nil => rfl
  | cons o t ih => rw [List.foldl_cons, ih, State.enqueueOffer_heads]
@[simp] theorem State.settle_heads (s : State) : s.settle.heads = s.heads := by simp [State.settle, State.foldEnqueue_heads]
theorem State.foldEnqueue_acts (l : List Offer) (s : State) :
    (l.foldl (fun s o => s.enqueueOffer o) s).acts = s.acts := by
  induction l generalizing s with
  | nil => rfl
  | cons o t ih => rw [List.foldl_cons, ih, State.enqueueOffer_acts]
@[simp] theorem State.settle_acts (s : State) : s.settle.acts = s.acts := by simp [State.settle, State.foldEnqueue_acts]
theorem State.foldEnqueue_recov (l : List Offer) (s : State) :
    (l.foldl (fun s o => s.enqueueOffer o) s).recov = s.recov := by
  induction l generalizing s with
  | nil => rfl
  | cons o t ih => rw [List.foldl_cons, ih, State.enqueueOffer_recov]
@[simp] theorem State.settle_recov (s : State) : s.settle.recov = s.recov := by simp [State.settle, State.foldEnqueue_recov]
theorem State.foldEnqueue_memp (l : List Offer) (s : State) :
    (l.foldl (fun s o => s.enqueueOffer o) s).memp = s.memp := by
  induction l generalizing s with
  | nil => rfl
  | cons o t ih => rw [List.foldl_cons, ih, State.enqueueOffer_memp]
@[simp] theorem State.settle_memp (s : State) : s.settle.memp = s.memp := by simp [State.settle, State.foldEnqueue_memp]
theorem State.foldEnqueue_own (l : List Offer) (s : State) :
    (l.foldl (fun s o => s.enqueueOffer o) s).own = s.own := by
  induction l generalizing s with
  | nil => rfl
  | cons o t ih => rw [List.foldl_cons, ih, State.enqueueOffer_own]
@[simp] theorem State.settle_own (s : State) : s.settle.own = s.own := by simp [State.settle, State.foldEnqueue_own]
theorem State.foldEnqueue_chain (l : List Offer) (s : State) :
    (l.foldl (fun s o => s.enqueueOffer o) s).chain = s.chain := by
  induction l generalizing s with
  | nil => rfl
  | cons o t ih => rw [List.foldl_cons, ih, State.enqueueOffer_chain]
@[simp] theorem State.settle_chain (s : State) : s.settle.chain = s.chain := by simp [State.settle, State.foldEnqueue_chain]
theorem State.foldEnqueue_mctp (l : List Offer) (s : State) :
    (l.foldl (fun s o => s.enqueueOffer o) s).mctp = s.mctp := by
  induction l generalizing s with
  | nil => rfl
  | cons o t ih => rw [List.foldl_cons, ih, State.enqueueOffer_mctp]
@[simp] theorem State.settle_mctp (s : State) : s.settle.mctp = s.mctp := by simp [State.settle, State.foldEnqueue_mctp]
theorem State.foldEnqueue_boot (l : List Offer) (s : State) :
    (l.foldl (fun s o => s.enqueueOffer o) s).boot = s.boot := by
  induction l generalizing s with
  | nil => rfl
  | cons o t ih => rw [List.foldl_cons, ih, State.enqueueOffer_boot]
@[simp] theorem State.settle_boot (s : State) : s.settle.boot = s.boot := by simp [State.settle, State.foldEnqueue_boot]
theorem State.foldEnqueue_out (l : List Offer) (s : State) :
    (l.foldl (fun s o => s.enqueueOffer o) s).out = s.out := by
  induction l generalizing s with
  | nil => rfl
  | cons o t ih => rw [List.foldl_cons, ih, State.enqueueOffer_out]
@[simp] theorem State.settle_out (s : State) : s.settle.out = s.out := by simp [State.settle, State.foldEnqueue_out]
theorem State.foldEnqueue_pending (l : List Offer) (s : State) :
    (l.foldl (fun s o => s.enqueueOffer o) s).pending = s.pending := by
  induction l generalizing s with
  | nil => rfl
  | cons o t ih => rw [List.foldl_cons, ih, State.enqueueOffer_pending]
@[simp] theorem State.settle_pending (s : State) : s.settle.pending = s.pending := by simp [State.settle, State.foldEnqueue_pending]

/-- The end of a command changes no register but the count of dropped offers. -/
theorem State.settle_rd (s : State) {a : Nat} (h : a ≠ Reg.EVR_DROPQ) : s.settle.rd a = s.rd a := by
  unfold State.settle; rw [State.foldEnqueue_rd _ _ h]; rfl

theorem State.settle_fget (s : State) (f : Fld) (h : f.addr ≠ Reg.EVR_DROPQ) : s.settle.fget f = s.fget f := by
  have e := s.settle_rd h
  simp only [State.rd] at e
  simp only [State.fget, fldRead, e]

theorem State.settle_fbit (s : State) (f : Fld) (h : f.addr ≠ Reg.EVR_DROPQ) : s.settle.fbit f = s.fbit f := by
  simp [State.fbit, State.settle_fget s f h]

/-- A command that a part not held in reset takes answers a next state. -/
theorem State.run_off (s : State) (f : State → State) (h : s.boot.held = .off) : s.run f = .next (f s).settle := by
  simp [State.run, State.done, h]

/-- Of a part held in reset nothing changes. -/
theorem State.run_held (s : State) (f : State → State) (h : s.boot.held ≠ .off) : s.run f = .next s := by
  simp [State.run, h]

end Sys2Proof.Machine
end

