-- ==== Sys2Proof/Laws/Contexts.lean ====
section
/-!
SUPPORT. Sys2Proof/Laws/Contexts.lean: what the table of contexts answers after a context is changed, after its locks are released
and after its outcome is fixed (R132, R153).
-/
namespace Sys2Proof.Machine

theorem find_map_arr (a : Nat) (f : Ctx → Ctx) (hf : ∀ c, (f c).arr = c.arr) (b : Nat) (l : List Ctx) :
    (l.map (fun c => if c.arr = a then f c else c)).find? (fun c => decide (c.arr = b)) =
      (l.find? (fun c => decide (c.arr = b))).map (fun c => if c.arr = a then f c else c) := by
  induction l with
  | nil => rfl
  | cons c t ih =>
    have hc : (if c.arr = a then f c else c).arr = c.arr := by split <;> simp [hf]
    rw [List.map_cons, List.find?_cons, List.find?_cons, hc]
    split
    · rfl
    · exact ih

/-- A changed context, for a change that keeps arrival numbers. -/
theorem State.ctx_modCtx (s : State) (a b : Nat) (f : Ctx → Ctx) (hf : ∀ c, (f c).arr = c.arr) :
    (s.modCtx a f).ctx b = (s.ctx b).map (fun c => if c.arr = a then f c else c) :=
  find_map_arr a f hf b s.host.ctxs

/-- The context found has the arrival number asked for. -/
theorem State.ctx_arr {s : State} {a : Nat} {c : Ctx} (h : s.ctx a = some c) : c.arr = a := by
  have := List.find?_some h
  simpa using this

theorem State.ctx_modCtx_same {s : State} {a : Nat} {c : Ctx} (f : Ctx → Ctx) (hf : ∀ c, (f c).arr = c.arr) (h : s.ctx a = some c) :
    (s.modCtx a f).ctx a = some (f c) := by
  rw [State.ctx_modCtx s a a f hf, h]
  simp [State.ctx_arr h]

theorem State.ctx_modCtx_ne {s : State} {a b : Nat} (f : Ctx → Ctx) (hf : ∀ c, (f c).arr = c.arr) (h : b ≠ a) :
    (s.modCtx a f).ctx b = s.ctx b := by
  rw [State.ctx_modCtx s a b f hf]
  cases hc : s.ctx b with
  | none => rfl
  | some c =>
    have : c.arr ≠ a := by rw [State.ctx_arr hc]; exact h
    simp [this]

/-- A state whose contexts are another's answers as it does. -/
theorem State.ctx_congr {s t : State} (h : t.host.ctxs = s.host.ctxs) (a : Nat) : t.ctx a = s.ctx a := by
  unfold State.ctx
  rw [h]

@[simp] theorem State.ctx_refreshRlt (s : State) (a : Nat) : s.refreshRlt.ctx a = s.ctx a := State.ctx_congr rfl a
@[simp] theorem State.ctx_logError (s : State) (m : Fin 2) (e : ErrInfo) (a : Nat) : (s.logError m e).ctx a = s.ctx a := State.ctx_congr rfl a
@[simp] theorem State.ctx_fput (s : State) (f : Fld) (v a : Nat) : (s.fput f v).ctx a = s.ctx a := State.ctx_congr rfl a
@[simp] theorem State.ctx_wr (s : State) (r : Nat) (w : Word) (a : Nat) : (s.wr r w).ctx a = s.ctx a := State.ctx_congr rfl a

@[simp] theorem State.ctx_settle (s : State) (a : Nat) : s.settle.ctx a = s.ctx a := State.ctx_congr (by rw [State.settle_host]) a

theorem State.statusOf_settle (s : State) (a : Nat) : s.settle.statusOf a = s.statusOf a := by
  unfold State.statusOf
  rw [State.ctx_settle]

/-- Locks are released with the context kept otherwise. -/
theorem State.ctx_releaseLocks {s : State} {a : Nat} {c : Ctx} (h : s.ctx a = some c) :
    (s.releaseLocks a).ctx a = some { c with locks := [], rlt := 0 } := by
  unfold State.releaseLocks
  rw [State.ctx_refreshRlt]
  exact State.ctx_modCtx_same (fun c => { c with locks := [], rlt := 0 }) (fun _ => rfl) h

/-- Fixing an outcome gives a command without one its status and dword 0; Internal Error in Fault Stop (R153). -/
theorem State.finishNs_ctx {s : State} {a : Nat} {c : Ctx} (st : Status) (dw0 dw1 nsid lba vendor : Nat) (h : s.ctx a = some c)
    (hs : c.status = none) : ∃ c', (s.finishNs a st dw0 dw1 nsid lba vendor).ctx a = some c' ∧
      c'.status = some (if s.recov.stopped then St.internalError else st) ∧ c'.dw0 = dw0 ∧ c'.sqe = c.sqe ∧ c'.tail = false := by
  unfold State.finishNs
  rw [h]
  simp only [hs, Option.isSome_none, Bool.false_eq_true, if_false]
  have h1 := State.ctx_modCtx_same (s := s) (a := a) (c := c)
    (fun c => { c with status := some (if s.recov.stopped then St.internalError else st), dw0 := dw0, dw1 := dw1, committed := true,
                       tail := false, zone := none, stallWc := false, media := 0 }) (fun _ => rfl) h
  by_cases hm : (if s.recov.stopped = true then St.internalError else st).more = true <;> by_cases hadm : c.isAdmin = true
  · rw [if_pos hm, if_pos hadm, State.ctx_logError, h1]; exact ⟨_, rfl, rfl, rfl, rfl, rfl⟩
  · rw [if_pos hm, if_neg hadm, State.ctx_logError, State.ctx_releaseLocks h1]; exact ⟨_, rfl, rfl, rfl, rfl, rfl⟩
  · rw [if_neg hm, if_pos hadm, h1]; exact ⟨_, rfl, rfl, rfl, rfl, rfl⟩
  · rw [if_neg hm, if_neg hadm, State.ctx_releaseLocks h1]; exact ⟨_, rfl, rfl, rfl, rfl, rfl⟩

/-- A command that ends with a status has it, outside Fault Stop. -/
theorem State.finish_statusOf {s : State} {a : Nat} {c : Ctx} (st : Status) (dw0 dw1 lba vendor : Nat) (h : s.ctx a = some c)
    (hs : c.status = none) (hr : s.recov.stopped = false) : (s.finish a st dw0 dw1 lba vendor).statusOf a = some st := by
  have key : ∀ n, (s.finishNs a st dw0 dw1 n lba vendor).statusOf a = some st := by
    intro n
    obtain ⟨c', hc, hst, -⟩ := State.finishNs_ctx st dw0 dw1 n lba vendor h hs
    unfold State.statusOf
    rw [hc]
    simpa [hr] using hst
  exact key _

theorem State.endWith_statusOf {s : State} {a : Nat} {c : Ctx} (st : Status) (h : s.ctx a = some c) (hs : c.status = none)
    (hr : s.recov.stopped = false) : (s.endWith a st).statusOf a = some st :=
  State.finish_statusOf st 0 0 _ 0 h hs hr

theorem State.endOk_statusOf {s : State} {a : Nat} {c : Ctx} (dw0 : Nat) (h : s.ctx a = some c) (hs : c.status = none)
    (hr : s.recov.stopped = false) : (s.endOk a dw0).statusOf a = some St.success :=
  State.finish_statusOf St.success dw0 0 0 0 h hs hr

/-- The first outcome fixed stands (R153). -/
theorem State.finishNs_once {s : State} {a : Nat} {c : Ctx} (st : Status) (dw0 dw1 nsid lba vendor : Nat) (h : s.ctx a = some c)
    (hs : c.status.isSome = true) : s.finishNs a st dw0 dw1 nsid lba vendor = s := by
  unfold State.finishNs
  rw [h]
  simp [hs]

end Sys2Proof.Machine
end

