-- ==== Sys2Proof/Laws/Dispatch.lean ====
section
/-!
SUPPORT. Sys2Proof/Laws/Dispatch.lean: what each command comes down to: the operation of its block, then the numbering of the
offers it made. Of a part held in reset every command but the events of its supplies, clock, reset pin, retracts and boundary
scan leaves everything as it was.
-/
namespace Sys2Proof.Machine

theorem exec_powerOnReset (s : State) (env : StartUp) (vddio : Bool) :
    exec (.powerOnReset env vddio) s = .next (State.settle (s.powerOnReset env vddio)) := rfl

theorem exec_chipResetPin (s : State) (env : StartUp) (low : Nat) :
    exec (.chipResetPin env low) s = .next (State.settle (s.resetPin env low)) := rfl

theorem exec_sysRstChip (s : State) (m : Master) (w : Word) (h : s.boot.held = .off) :
    exec (.sysRstChip m w) s = .next (State.settle (s.sysRst m w)) := State.run_off s (fun s => s.sysRst m w) h

theorem exec_clockLoss (s : State) :
    exec .clockLoss s = .next (State.settle (s.clockLoss)) := rfl

theorem exec_railSequenceViolation (s : State) (rail : Fin 7) :
    exec (.railSequenceViolation rail) s = .next (State.settle (s.railViolation rail)) := rfl

theorem exec_vddaBelowRetractMin (s : State) :
    exec .vddaBelowRetractMin s = .next (State.settle (s.retractLost)) := rfl

theorem exec_registerWrite (s : State) (m : Master) (a : Nat) (w : Word) (h : s.boot.held = .off) :
    exec (.registerWrite m a w) s = .next (State.settle (s.registerWrite m a w)) := State.run_off s (fun s => s.registerWrite m a w) h

theorem exec_misalignedAccess (s : State) (m : Master) (a bytes : Nat) (write : Bool) (v : Nat) (h : s.boot.held = .off) :
    exec (.misalignedAccess m a bytes write v) s = .next (State.settle (s.oddAccess m a bytes write v)) := State.run_off s (fun s => s.oddAccess m a bytes write v) h

theorem exec_unassignedAccess (s : State) (m : Master) (a : Nat) (write : Bool) (h : s.boot.held = .off) :
    exec (.unassignedAccess m a write) s = .next (State.settle (s.badAccess m a write (unassigned a))) := State.run_off s (fun s => s.badAccess m a write (unassigned a)) h

theorem exec_blockBasicWrite (s : State) (m : Master) (a : Nat) (w : Word) (h : s.boot.held = .off) :
    exec (.blockBasicWrite m a w) s = .next (State.settle (s.busRow m a w (decide (regKind a = 2) && ! w.getLsbD 9))) := State.run_off s (fun s => s.busRow m a w (decide (regKind a = 2) && ! w.getLsbD 9)) h

theorem exec_blockBasicKeepWrite (s : State) (m : Master) (a : Nat) (w : Word) (h : s.boot.held = .off) :
    exec (.blockBasicKeepWrite m a w) s = .next (State.settle (s.busRow m a w (decide (regKind a = 2) && w.getLsbD 9))) := State.run_off s (fun s => s.busRow m a w (decide (regKind a = 2) && w.getLsbD 9)) h

theorem exec_expertRegisterWrite (s : State) (m : Master) (a : Nat) (w : Word) (h : s.boot.held = .off) :
    exec (.expertRegisterWrite m a w) s = .next (State.settle (s.busRow m a w (decide (regKind a = 3)))) := State.run_off s (fun s => s.busRow m a w (decide (regKind a = 3))) h

theorem exec_lockSet (s : State) (m : Master) (a : Nat) (w : Word) (h : s.boot.held = .off) :
    exec (.lockSet m a w) s = .next (State.settle (s.busRow m a w (decide (regKind a = 4)))) := State.run_off s (fun s => s.busRow m a w (decide (regKind a = 4))) h

theorem exec_counterClear (s : State) (m : Master) (a : Nat) (w : Word) (h : s.boot.held = .off) :
    exec (.counterClear m a w) s = .next (State.settle (s.busRow m a w (decide (regKind a = 5)))) := State.run_off s (fun s => s.busRow m a w (decide (regKind a = 5))) h

theorem exec_fabricCycleAdvance (s : State) (h : s.boot.held = .off) :
    exec .fabricCycleAdvance s = .next (State.settle (s.fabricCycle)) := State.run_off s (fun s => s.fabricCycle) h

theorem exec_atbSpanEnd (s : State) (h : s.boot.held = .off) :
    exec .atbSpanEnd s = .next (State.settle (s.atbSpanEnd)) := State.run_off s (fun s => s.atbSpanEnd) h

theorem exec_holdoverExpiry (s : State) (h : s.boot.held = .off) :
    exec .holdoverExpiry s = .next (State.settle (s.holdoverExpiry)) := State.run_off s (fun s => s.holdoverExpiry) h

theorem exec_pierDetection (s : State) (n : Fin 4) (instant : Nat) (idx : Option Nat) (head cyl : Nat) (h : s.boot.held = .off) :
    exec (.pierDetection n instant idx head cyl) s = .next (State.settle (s.pierDetection n instant idx head cyl)) := State.run_off s (fun s => s.pierDetection n instant idx head cyl) h

theorem exec_atbCtrlFree (s : State) (m : Master) (h : s.boot.held = .off) :
    exec (.atbCtrlFree m) s = .next (State.settle (s.atbFree)) := State.run_off s (fun s => s.atbFree) h

theorem exec_atbCtrlAcq (s : State) (m : Master) (h : s.boot.held = .off) :
    exec (.atbCtrlAcq m) s = .next (State.settle (s.atbAcq)) := State.run_off s (fun s => s.atbAcq) h

theorem exec_disagreeClear (s : State) (m : Master) (mask : BitVec 4) (h : s.boot.held = .off) :
    exec (.disagreeClear m mask) s = .next (State.settle (s.disagreeClear mask.toNat)) := State.run_off s (fun s => s.disagreeClear mask.toNat) h

theorem exec_atbPiersWrite (s : State) (m : Master) (w : Word) (h : s.boot.held = .off) :
    exec (.atbPiersWrite m w) s = .next (State.settle (s.atbPiersWrite w.toNat)) := State.run_off s (fun s => s.atbPiersWrite w.toNat) h

theorem exec_atbOffsetTableWrite (s : State) (m : Master) (a : Nat) (w : Word) (h : s.boot.held = .off) :
    exec (.atbOffsetTableWrite m a w) s = .next (State.settle (s.atbOffsetWrite a w)) := State.run_off s (fun s => s.atbOffsetWrite a w) h

theorem exec_atbSyncOffWrite (s : State) (m : Master) (w : Word) (h : s.boot.held = .off) :
    exec (.atbSyncOffWrite m w) s = .next (State.settle (s.atbSyncOffWrite m w)) := State.run_off s (fun s => s.atbSyncOffWrite m w) h

theorem exec_atbAngleRead (s : State) (m : Master) (h : s.boot.held = .off) :
    exec (.atbAngleRead m) s = .next (State.settle (s.atbAngleRead)) := State.run_off s (fun s => s.atbAngleRead) h

theorem exec_triggerCtrlWrite (s : State) (m : Master) (n : Fin 5) (i : Nat) (w : Word) (h : s.boot.held = .off) :
    exec (.triggerCtrlWrite m n i w) s = .next (State.settle (s.trigWrite m true n.val i w)) := State.run_off s (fun s => s.trigWrite m true n.val i w) h

theorem exec_triggerAngleWrite (s : State) (m : Master) (n : Fin 5) (i : Nat) (w : Word) (h : s.boot.held = .off) :
    exec (.triggerAngleWrite m n i w) s = .next (State.settle (s.trigWrite m false n.val i w)) := State.run_off s (fun s => s.trigWrite m false n.val i w) h

theorem exec_triggerFire (s : State) (n : Fin 5) (i : Nat) (h : s.boot.held = .off) :
    exec (.triggerFire n i) s = .next (State.settle (s.triggerFire n.val i)) := State.run_off s (fun s => s.triggerFire n.val i) h

theorem exec_gpioPulseEnd (s : State) (pin : Nat) (h : s.boot.held = .off) :
    exec (.gpioPulseEnd pin) s = .next (State.settle (s.gpioPulseEnd pin)) := State.run_off s (fun s => s.gpioPulseEnd pin) h

theorem exec_vsyncEmit (s : State) (h : s.boot.held = .off) :
    exec .vsyncEmit s = .next (State.settle (s.vsyncEmit)) := State.run_off s (fun s => s.vsyncEmit) h

theorem exec_sqTailDoorbell (s : State) (m : Fin 2) (off : Nat) (acc : BarAccess) (h : s.boot.held = .off) :
    exec (.sqTailDoorbell m off acc) s = .next (State.settle (s.bar0 m off acc)) := State.run_off s (fun s => s.bar0 m off acc) h

theorem exec_cqHeadDoorbell (s : State) (m : Fin 2) (off : Nat) (acc : BarAccess) (h : s.boot.held = .off) :
    exec (.cqHeadDoorbell m off acc) s = .next (State.settle (s.bar0 m off acc)) := State.run_off s (fun s => s.bar0 m off acc) h

theorem exec_commandFetch (s : State) (m : Fin 2) (qid : Nat) (e : Sqe) (h : s.boot.held = .off) :
    exec (.commandFetch m qid e) s = .next (State.settle (s.commandFetch m qid e)) := State.run_off s (fun s => s.commandFetch m qid e) h

theorem exec_rltAdmission (s : State) (ranges : List (Nat × Nat)) (h : s.boot.held = .off) :
    exec (.rltAdmission ranges) s = .next (State.settle (s.rltAdmission ranges)) := State.run_off s (fun s => s.rltAdmission ranges) h

theorem exec_lockGrant (s : State) (arr : Nat) (h : s.boot.held = .off) :
    exec (.lockGrant arr) s = .next (State.settle (s.lockGrant arr)) := State.run_off s (fun s => s.lockGrant arr) h

theorem exec_zoneTailGrant (s : State) (arr : Nat) (band : Option (Nat × Nat × Nat)) (h : s.boot.held = .off) :
    exec (.zoneTailGrant arr band) s = .next (State.settle (s.tailGrant arr band)) := State.run_off s (fun s => s.tailGrant arr band) h

theorem exec_dataStored (s : State) (arr : Nat) (posts : List PostReq) (h : s.boot.held = .off) :
    exec (.dataStored arr posts) s = .next (State.settle (s.dataStored arr posts)) := State.run_off s (fun s => s.dataStored arr posts) h

theorem exec_dirtyLimitResume (s : State) (arr : Nat) (h : s.boot.held = .off) :
    exec (.dirtyLimitResume arr) s = .next (State.settle (s.dirtyResume arr)) := State.run_off s (fun s => s.dirtyResume arr) h

theorem exec_completionPost (s : State) (arr : Nat) (h : s.boot.held = .off) :
    exec (.completionPost arr) s = .next (State.settle (s.completionPost arr)) := State.run_off s (fun s => s.completionPost arr) h

theorem exec_msixUnmask (s : State) (m : Fin 2) (off : Nat) (acc : BarAccess) (h : s.boot.held = .off) :
    exec (.msixUnmask m off acc) s = .next (State.settle (s.bar0 m off acc)) := State.run_off s (fun s => s.bar0 m off acc) h

theorem exec_coalesceTimerExpiry (s : State) (m : Fin 2) (v : Nat) (h : s.boot.held = .off) :
    exec (.coalesceTimerExpiry m v) s = .next (State.settle (s.coalesceExpiry m v)) := State.run_off s (fun s => s.coalesceExpiry m v) h

theorem exec_ccEnable (s : State) (m : Fin 2) (css mps ams iosqes iocqes asqs acqs asq acq : Nat) (h : s.boot.held = .off) :
    exec (.ccEnable m css mps ams iosqes iocqes asqs acqs asq acq) s = .next (State.settle (s.ccEnable m css mps ams iosqes iocqes asqs acqs asq acq)) := State.run_off s (fun s => s.ccEnable m css mps ams iosqes iocqes asqs acqs asq acq) h

theorem exec_controllerReset (s : State) (m : Fin 2) (h : s.boot.held = .off) :
    exec (.controllerReset m) s = .next (State.settle (s.controllerReset m)) := State.run_off s (fun s => s.controllerReset m) h

theorem exec_normalShutdown (s : State) (m : Fin 2) (h : s.boot.held = .off) :
    exec (.normalShutdown m) s = .next (State.settle (s.normalShutdown m)) := State.run_off s (fun s => s.normalShutdown m) h

theorem exec_shutdownComplete (s : State) (m : Fin 2) (h : s.boot.held = .off) :
    exec (.shutdownComplete m) s = .next (State.settle (s.shutdownComplete m)) := State.run_off s (fun s => s.shutdownComplete m) h

theorem exec_abruptShutdown (s : State) (m : Fin 2) (h : s.boot.held = .off) :
    exec (.abruptShutdown m) s = .next (State.settle (s.abruptShutdown m)) := State.run_off s (fun s => s.abruptShutdown m) h

theorem exec_functionLevelReset (s : State) (m : Fin 2) (h : s.boot.held = .off) :
    exec (.functionLevelReset m) s = .next (State.settle (s.flr m)) := State.run_off s (fun s => s.flr m) h

theorem exec_perstAssert (s : State) (m : Fin 2) (held : Nat) (h : s.boot.held = .off) :
    exec (.perstAssert m held) s = .next (State.settle (s.perstAssert m held)) := State.run_off s (fun s => s.perstAssert m held) h

theorem exec_pcieLinkDown (s : State) (m : Fin 2) (h : s.boot.held = .off) :
    exec (.pcieLinkDown m) s = .next (State.settle (s.linkDown m)) := State.run_off s (fun s => s.linkDown m) h

theorem exec_pcieLinkChange (s : State) (m : Fin 2) (pstate rate width : Nat) (reversed recov : Bool) (h : s.boot.held = .off) :
    exec (.pcieLinkChange m pstate rate width reversed recov) s = .next (State.settle (s.linkChange m pstate rate width reversed recov)) := State.run_off s (fun s => s.linkChange m pstate rate width reversed recov) h

theorem exec_pcieErrorLogged (s : State) (m : Fin 2) (kind : Fin 3) (header : Nat) (arr : Option Nat) (h : s.boot.held = .off) :
    exec (.pcieErrorLogged m kind header arr) s = .next (State.settle (s.aerError m kind header arr)) := State.run_off s (fun s => s.aerError m kind header arr) h

theorem exec_dStateChange (s : State) (m : Fin 2) (d3 : Bool) (h : s.boot.held = .off) :
    exec (.dStateChange m d3) s = .next (State.settle (s.dState m d3)) := State.run_off s (fun s => s.dState m d3) h

theorem exec_createIoSq (s : State) (arr : Nat) (h : s.boot.held = .off) :
    exec (.createIoSq arr) s = .next (State.settle (s.createSq arr)) := State.run_off s (fun s => s.createSq arr) h

theorem exec_createIoCq (s : State) (arr : Nat) (h : s.boot.held = .off) :
    exec (.createIoCq arr) s = .next (State.settle (s.createCq arr)) := State.run_off s (fun s => s.createCq arr) h

theorem exec_deleteIoSq (s : State) (arr : Nat) (h : s.boot.held = .off) :
    exec (.deleteIoSq arr) s = .next (State.settle (s.deleteSq arr)) := State.run_off s (fun s => s.deleteSq arr) h

theorem exec_deleteIoCq (s : State) (arr : Nat) (h : s.boot.held = .off) :
    exec (.deleteIoCq arr) s = .next (State.settle (s.deleteCq arr)) := State.run_off s (fun s => s.deleteCq arr) h

theorem exec_identify (s : State) (arr : Nat) (h : s.boot.held = .off) :
    exec (.identify arr) s = .next (State.settle (s.identify arr)) := State.run_off s (fun s => s.identify arr) h

theorem exec_abort (s : State) (arr : Nat) (h : s.boot.held = .off) :
    exec (.abort arr) s = .next (State.settle (s.abortCmd arr)) := State.run_off s (fun s => s.abortCmd arr) h

theorem exec_getLogPage (s : State) (arr : Nat) (h : s.boot.held = .off) :
    exec (.getLogPage arr) s = .next (State.settle (s.getLogPage arr)) := State.run_off s (fun s => s.getLogPage arr) h

theorem exec_getFeatures (s : State) (arr : Nat) (h : s.boot.held = .off) :
    exec (.getFeatures arr) s = .next (State.settle (s.getFeatures arr)) := State.run_off s (fun s => s.getFeatures arr) h

theorem exec_setFeatures (s : State) (arr : Nat) (data : List Byte) (h : s.boot.held = .off) :
    exec (.setFeatures arr data) s = .next (State.settle (s.setFeatures arr data)) := State.run_off s (fun s => s.setFeatures arr data) h

theorem exec_setFeaturesArbitration (s : State) (arr : Nat) (h : s.boot.held = .off) :
    exec (.setFeaturesArbitration arr) s = .next (State.settle (s.setArbitration arr)) := State.run_off s (fun s => s.setArbitration arr) h

theorem exec_setFeaturesPowerManagement (s : State) (arr : Nat) (h : s.boot.held = .off) :
    exec (.setFeaturesPowerManagement arr) s = .next (State.settle (s.setPower arr)) := State.run_off s (fun s => s.setPower arr) h

theorem exec_setFeaturesErrorRecovery (s : State) (arr : Nat) (h : s.boot.held = .off) :
    exec (.setFeaturesErrorRecovery arr) s = .next (State.settle (s.setRecovery arr)) := State.run_off s (fun s => s.setRecovery arr) h

theorem exec_setFeaturesVolatileWriteCache (s : State) (arr : Nat) (h : s.boot.held = .off) :
    exec (.setFeaturesVolatileWriteCache arr) s = .next (State.settle (s.setWce arr)) := State.run_off s (fun s => s.setWce arr) h

theorem exec_setFeaturesNumberOfQueues (s : State) (arr : Nat) (h : s.boot.held = .off) :
    exec (.setFeaturesNumberOfQueues arr) s = .next (State.settle (s.setQueues arr)) := State.run_off s (fun s => s.setQueues arr) h

theorem exec_setFeaturesInterruptCoalescing (s : State) (arr : Nat) (h : s.boot.held = .off) :
    exec (.setFeaturesInterruptCoalescing arr) s = .next (State.settle (s.setCoalescing arr)) := State.run_off s (fun s => s.setCoalescing arr) h

theorem exec_setFeaturesModeProfile (s : State) (arr : Nat) (h : s.boot.held = .off) :
    exec (.setFeaturesModeProfile arr) s = .next (State.settle (s.setMode arr)) := State.run_off s (fun s => s.setMode arr) h

theorem exec_asyncEventRequest (s : State) (arr : Nat) (h : s.boot.held = .off) :
    exec (.asyncEventRequest arr) s = .next (State.settle (s.eventRequest arr)) := State.run_off s (fun s => s.eventRequest arr) h

theorem exec_namespaceCreate (s : State) (arr : Nat) (data : List (Nat × Byte)) (h : s.boot.held = .off) :
    exec (.namespaceCreate arr data) s = .next (State.settle (s.nsCreate arr data)) := State.run_off s (fun s => s.nsCreate arr data) h

theorem exec_namespaceDelete (s : State) (arr : Nat) (h : s.boot.held = .off) :
    exec (.namespaceDelete arr) s = .next (State.settle (s.nsDeleteCmd arr)) := State.run_off s (fun s => s.nsDeleteCmd arr) h

theorem exec_namespaceAttach (s : State) (arr : Nat) (l : List Nat) (h : s.boot.held = .off) :
    exec (.namespaceAttach arr l) s = .next (State.settle (s.nsAttach arr l)) := State.run_off s (fun s => s.nsAttach arr l) h

theorem exec_namespaceDetach (s : State) (arr : Nat) (l : List Nat) (h : s.boot.held = .off) :
    exec (.namespaceDetach arr l) s = .next (State.settle (s.nsDetach arr l)) := State.run_off s (fun s => s.nsDetach arr l) h

theorem exec_firmwareImageDownload (s : State) (arr : Nat) (data : List Byte) (h : s.boot.held = .off) :
    exec (.firmwareImageDownload arr data) s = .next (State.settle (s.fwDownload arr data)) := State.run_off s (fun s => s.fwDownload arr data) h

theorem exec_firmwareCommitStore (s : State) (arr : Nat) (slotOk : Bool) (h : s.boot.held = .off) :
    exec (.firmwareCommitStore arr slotOk) s = .next (State.settle (s.fwStore arr slotOk)) := State.run_off s (fun s => s.fwStore arr slotOk) h

theorem exec_firmwareCommitStoreActivate (s : State) (arr : Nat) (slotOk recOk : Bool) (h : s.boot.held = .off) :
    exec (.firmwareCommitStoreActivate arr slotOk recOk) s = .next (State.settle (s.fwStoreActivate arr slotOk recOk)) := State.run_off s (fun s => s.fwStoreActivate arr slotOk recOk) h

theorem exec_firmwareCommitActivate (s : State) (arr : Nat) (recOk : Bool) (h : s.boot.held = .off) :
    exec (.firmwareCommitActivate arr recOk) s = .next (State.settle (s.fwActivate arr recOk)) := State.run_off s (fun s => s.fwActivate arr recOk) h

theorem exec_directiveSend (s : State) (arr : Nat) (h : s.boot.held = .off) :
    exec (.directiveSend arr) s = .next (State.settle (s.directiveSend arr)) := State.run_off s (fun s => s.directiveSend arr) h

theorem exec_directiveReceive (s : State) (arr : Nat) (h : s.boot.held = .off) :
    exec (.directiveReceive arr) s = .next (State.settle (s.directiveReceive arr)) := State.run_off s (fun s => s.directiveReceive arr) h

theorem exec_formatNvm (s : State) (arr : Nat) (h : s.boot.held = .off) :
    exec (.formatNvm arr) s = .next (State.settle (s.formatNvm arr)) := State.run_off s (fun s => s.formatNvm arr) h

theorem exec_securitySend (s : State) (arr : Nat) (m : TcgMethod) (h : s.boot.held = .off) :
    exec (.securitySend arr m) s = .next (State.settle (s.securitySend arr m)) := State.run_off s (fun s => s.securitySend arr m) h

theorem exec_securityReceive (s : State) (arr : Nat) (h : s.boot.held = .off) :
    exec (.securityReceive arr) s = .next (State.settle (s.securityReceive arr)) := State.run_off s (fun s => s.securityReceive arr) h

theorem exec_sanitize (s : State) (arr : Nat) (h : s.boot.held = .off) :
    exec (.sanitize arr) s = .next (State.settle (s.sanitizeCmd arr)) := State.run_off s (fun s => s.sanitizeCmd arr) h

theorem exec_registerAccessRead (s : State) (arr : Nat) (h : s.boot.held = .off) :
    exec (.registerAccessRead arr) s = .next (State.settle (s.accessRead arr)) := State.run_off s (fun s => s.accessRead arr) h

theorem exec_registerAccessWrite (s : State) (arr : Nat) (h : s.boot.held = .off) :
    exec (.registerAccessWrite arr) s = .next (State.settle (s.accessWrite arr)) := State.run_off s (fun s => s.accessWrite arr) h

theorem exec_ownershipClaim (s : State) (arr : Nat) (data : List Byte) (h : s.boot.held = .off) :
    exec (.ownershipClaim arr data) s = .next (State.settle (s.ownCmd arr 1 data)) := State.run_off s (fun s => s.ownCmd arr 1 data) h

theorem exec_ownershipHandover (s : State) (arr : Nat) (data : List Byte) (h : s.boot.held = .off) :
    exec (.ownershipHandover arr data) s = .next (State.settle (s.ownCmd arr 2 data)) := State.run_off s (fun s => s.ownCmd arr 2 data) h

theorem exec_ownershipAccept (s : State) (arr : Nat) (data : List Byte) (h : s.boot.held = .off) :
    exec (.ownershipAccept arr data) s = .next (State.settle (s.ownCmd arr 3 data)) := State.run_off s (fun s => s.ownCmd arr 3 data) h

theorem exec_ownershipRelease (s : State) (arr : Nat) (data : List Byte) (h : s.boot.held = .off) :
    exec (.ownershipRelease arr data) s = .next (State.settle (s.ownCmd arr 4 data)) := State.run_off s (fun s => s.ownCmd arr 4 data) h

theorem exec_captureConfigureAndStart (s : State) (arr : Nat) (h : s.boot.held = .off) :
    exec (.captureConfigureAndStart arr) s = .next (State.settle (s.captureConfigure arr)) := State.run_off s (fun s => s.captureConfigure arr) h

theorem exec_captureRead (s : State) (arr : Nat) (errs : List MemErr) (h : s.boot.held = .off) :
    exec (.captureRead arr errs) s = .next (State.settle (s.captureRead arr errs)) := State.run_off s (fun s => s.captureRead arr errs) h

theorem exec_captureStop (s : State) (arr : Nat) (h : s.boot.held = .off) :
    exec (.captureStop arr) s = .next (State.settle (s.captureStop arr)) := State.run_off s (fun s => s.captureStop arr) h

theorem exec_captureStatus (s : State) (arr : Nat) (h : s.boot.held = .off) :
    exec (.captureStatus arr) s = .next (State.settle (s.captureStatus arr)) := State.run_off s (fun s => s.captureStatus arr) h

theorem exec_customerMicrocodeLoad (s : State) (arr : Nat) (img : CsImage) (wrong : List (Nat × Nat)) (flashOk : Bool) (h : s.boot.held = .off) :
    exec (.customerMicrocodeLoad arr img wrong flashOk) s = .next (State.settle (s.customerLoad arr img wrong flashOk)) := State.run_off s (fun s => s.customerLoad arr img wrong flashOk) h

theorem exec_otpProgramConfigRecord (s : State) (arr : Nat) (data : List Byte) (ok : Bool) (h : s.boot.held = .off) :
    exec (.otpProgramConfigRecord arr data ok) s = .next (State.settle (s.otpRecord arr data ok)) := State.run_off s (fun s => s.otpRecord arr data ok) h

theorem exec_otpProgramDpiKey (s : State) (arr : Nat) (data : List Byte) (ok : Bool) (h : s.boot.held = .off) :
    exec (.otpProgramDpiKey arr data ok) s = .next (State.settle (s.otpDpiKey arr data ok)) := State.run_off s (fun s => s.otpDpiKey arr data ok) h

theorem exec_otpRevokeDpiKey (s : State) (arr : Nat) (ok : Bool) (h : s.boot.held = .off) :
    exec (.otpRevokeDpiKey arr ok) s = .next (State.settle (s.otpRevokeDpi arr ok)) := State.run_off s (fun s => s.otpRevokeDpi arr ok) h

theorem exec_otpRevokeRootKey (s : State) (arr : Nat) (ok : Bool) (h : s.boot.held = .off) :
    exec (.otpRevokeRootKey arr ok) s = .next (State.settle (s.otpRevokeRoot arr ok)) := State.run_off s (fun s => s.otpRevokeRoot arr ok) h

theorem exec_otpRaiseFwSvn (s : State) (arr : Nat) (ok : Bool) (h : s.boot.held = .off) :
    exec (.otpRaiseFwSvn arr ok) s = .next (State.settle (s.otpRaiseFw arr ok)) := State.run_off s (fun s => s.otpRaiseFw arr ok) h

theorem exec_otpRaiseDpiSvn (s : State) (arr : Nat) (ok : Bool) (h : s.boot.held = .off) :
    exec (.otpRaiseDpiSvn arr ok) s = .next (State.settle (s.otpRaiseDpi arr ok)) := State.run_off s (fun s => s.otpRaiseDpi arr ok) h

theorem exec_evrReadConfiguration (s : State) (arr : Nat) (h : s.boot.held = .off) :
    exec (.evrReadConfiguration arr) s = .next (State.settle (s.evrReadConfig arr)) := State.run_off s (fun s => s.evrReadConfig arr) h

theorem exec_evrSetLine (s : State) (arr : Nat) (h : s.boot.held = .off) :
    exec (.evrSetLine arr) s = .next (State.settle (s.evrSetLine arr)) := State.run_off s (fun s => s.evrSetLine arr) h

theorem exec_evrWriteList (s : State) (arr : Nat) (data : List Word) (h : s.boot.held = .off) :
    exec (.evrWriteList arr data) s = .next (State.settle (s.evrWriteList arr data)) := State.run_off s (fun s => s.evrWriteList arr data) h

theorem exec_evrSetConfiguration (s : State) (arr : Nat) (h : s.boot.held = .off) :
    exec (.evrSetConfiguration arr) s = .next (State.settle (s.evrSetConfig arr)) := State.run_off s (fun s => s.evrSetConfig arr) h

theorem exec_evrClear (s : State) (arr : Nat) (h : s.boot.held = .off) :
    exec (.evrClear arr) s = .next (State.settle (s.evrClearCmd arr)) := State.run_off s (fun s => s.evrClearCmd arr) h

theorem exec_evrUnfreeze (s : State) (arr : Nat) (h : s.boot.held = .off) :
    exec (.evrUnfreeze arr) s = .next (State.settle (s.evrUnfreezeCmd arr)) := State.run_off s (fun s => s.evrUnfreezeCmd arr) h

theorem exec_evrPostMarker (s : State) (arr : Nat) (data : List Byte) (h : s.boot.held = .off) :
    exec (.evrPostMarker arr data) s = .next (State.settle (s.evrMarker arr data)) := State.run_off s (fun s => s.evrMarker arr data) h

theorem exec_dpiLoad (s : State) (arr : Nat) (d : DpiImage) (slotOk recOk : Bool) (h : s.boot.held = .off) :
    exec (.dpiLoad arr d slotOk recOk) s = .next (State.settle (s.dpiLoad arr d slotOk recOk)) := State.run_off s (fun s => s.dpiLoad arr d slotOk recOk) h

theorem exec_dpiActivateOther (s : State) (arr : Nat) (recOk : Bool) (h : s.boot.held = .off) :
    exec (.dpiActivateOther arr recOk) s = .next (State.settle (s.dpiActivate arr recOk)) := State.run_off s (fun s => s.dpiActivate arr recOk) h

theorem exec_flush (s : State) (arr : Nat) (h : s.boot.held = .off) :
    exec (.flush arr) s = .next (State.settle (s.flush arr)) := State.run_off s (fun s => s.flush arr) h

theorem exec_write (s : State) (arr : Nat) (data : Option (List (List Byte))) (pays : List (List Byte)) (merr : List MemErr) (h : s.boot.held = .off) :
    exec (.write arr data pays merr) s = .next (State.settle (s.write 0x01 arr data pays merr)) := State.run_off s (fun s => s.write 0x01 arr data pays merr) h

theorem exec_read (s : State) (arr : Nat) (posts : List PostReq) (seen : List (Nat × Nat × List Byte)) (merr : List MemErr) (h : s.boot.held = .off) :
    exec (.read arr posts seen merr) s = .next (State.settle (s.read arr posts seen merr)) := State.run_off s (fun s => s.read arr posts seen merr) h

theorem exec_datasetManagement (s : State) (arr : Nat) (h : s.boot.held = .off) :
    exec (.datasetManagement arr) s = .next (State.settle (s.dsm arr)) := State.run_off s (fun s => s.dsm arr) h

theorem exec_writeZeroes (s : State) (arr : Nat) (pays : List (List Byte)) (h : s.boot.held = .off) :
    exec (.writeZeroes arr pays) s = .next (State.settle (s.writeZeroes arr pays)) := State.run_off s (fun s => s.writeZeroes arr pays) h

theorem exec_reservationRegister (s : State) (arr crkey nrkey : Nat) (h : s.boot.held = .off) :
    exec (.reservationRegister arr crkey nrkey) s = .next (State.settle (s.resvRegister arr crkey nrkey)) := State.run_off s (fun s => s.resvRegister arr crkey nrkey) h

theorem exec_reservationReport (s : State) (arr : Nat) (h : s.boot.held = .off) :
    exec (.reservationReport arr) s = .next (State.settle (s.resvReport arr)) := State.run_off s (fun s => s.resvReport arr) h

theorem exec_reservationAcquire (s : State) (arr crkey prkey : Nat) (h : s.boot.held = .off) :
    exec (.reservationAcquire arr crkey prkey) s = .next (State.settle (s.resvAcquire arr crkey prkey)) := State.run_off s (fun s => s.resvAcquire arr crkey prkey) h

theorem exec_reservationRelease (s : State) (arr crkey : Nat) (h : s.boot.held = .off) :
    exec (.reservationRelease arr crkey) s = .next (State.settle (s.resvRelease arr crkey)) := State.run_off s (fun s => s.resvRelease arr crkey) h

theorem exec_zoneAppend (s : State) (arr : Nat) (data : Option (List (List Byte))) (pays : List (List Byte)) (merr : List MemErr) (h : s.boot.held = .off) :
    exec (.zoneAppend arr data pays merr) s = .next (State.settle (s.write 0x7D arr data pays merr)) := State.run_off s (fun s => s.write 0x7D arr data pays merr) h

theorem exec_zoneManagementReceive (s : State) (arr : Nat) (h : s.boot.held = .off) :
    exec (.zoneManagementReceive arr) s = .next (State.settle (s.zoneReceive arr)) := State.run_off s (fun s => s.zoneReceive arr) h

theorem exec_zoneClose (s : State) (arr : Nat) (h : s.boot.held = .off) :
    exec (.zoneClose arr) s = .next (State.settle (s.zoneSend .close arr)) := State.run_off s (fun s => s.zoneSend .close arr) h

theorem exec_zoneFinish (s : State) (arr : Nat) (h : s.boot.held = .off) :
    exec (.zoneFinish arr) s = .next (State.settle (s.zoneSend .finish arr)) := State.run_off s (fun s => s.zoneSend .finish arr) h

theorem exec_zoneOpen (s : State) (arr : Nat) (h : s.boot.held = .off) :
    exec (.zoneOpen arr) s = .next (State.settle (s.zoneSend .open_ arr)) := State.run_off s (fun s => s.zoneSend .open_ arr) h

theorem exec_zoneReset (s : State) (arr : Nat) (h : s.boot.held = .off) :
    exec (.zoneReset arr) s = .next (State.settle (s.zoneSend .reset arr)) := State.run_off s (fun s => s.zoneSend .reset arr) h

theorem exec_zoneOffline (s : State) (arr : Nat) (h : s.boot.held = .off) :
    exec (.zoneOffline arr) s = .next (State.settle (s.zoneSend .offline arr)) := State.run_off s (fun s => s.zoneSend .offline arr) h

theorem exec_setZoneDescriptorExtension (s : State) (arr : Nat) (h : s.boot.held = .off) :
    exec (.setZoneDescriptorExtension arr) s = .next (State.settle (s.zoneSetExt arr)) := State.run_off s (fun s => s.zoneSetExt arr) h

theorem exec_recordPersist (s : State) (posts : List PostReq) (h : s.boot.held = .off) :
    exec (.recordPersist posts) s = .next (State.settle (s.recordPersist posts)) := State.run_off s (fun s => s.recordPersist posts) h

theorem exec_xtsGenerate (s : State) (m : Master) (slot : Fin 128) (auth : Fin 128) (h : s.boot.held = .off) :
    exec (.xtsGenerate m slot auth) s = .next (State.settle (s.xtsKctrl m 1 slot.val auth.val)) := State.run_off s (fun s => s.xtsKctrl m 1 slot.val auth.val) h

theorem exec_xtsLoad (s : State) (m : Master) (slot : Fin 128) (auth : Fin 128) (h : s.boot.held = .off) :
    exec (.xtsLoad m slot auth) s = .next (State.settle (s.xtsKctrl m 2 slot.val auth.val)) := State.run_off s (fun s => s.xtsKctrl m 2 slot.val auth.val) h

theorem exec_xtsClear (s : State) (m : Master) (slot : Fin 128) (auth : Fin 128) (h : s.boot.held = .off) :
    exec (.xtsClear m slot auth) s = .next (State.settle (s.xtsKctrl m 3 slot.val auth.val)) := State.run_off s (fun s => s.xtsKctrl m 3 slot.val auth.val) h

theorem exec_xtsRewrap (s : State) (m : Master) (slot : Fin 128) (auth : Fin 128) (h : s.boot.held = .off) :
    exec (.xtsRewrap m slot auth) s = .next (State.settle (s.xtsKctrl m 4 slot.val auth.val)) := State.run_off s (fun s => s.xtsKctrl m 4 slot.val auth.val) h

theorem exec_xtsOperationDone (s : State) (h : s.boot.held = .off) :
    exec .xtsOperationDone s = .next (State.settle (s.xtsDone)) := State.run_off s (fun s => s.xtsDone) h

theorem exec_drbgHealthRetest (s : State) (ok : Bool) (h : s.boot.held = .off) :
    exec (.drbgHealthRetest ok) s = .next (State.settle (s.drbgRetest ok)) := State.run_off s (fun s => s.drbgRetest ok) h

theorem exec_intakeAccept (s : State) (r : Fin 6) (h : s.boot.held = .off) :
    exec (.intakeAccept r) s = .next (State.settle (s.intakeAccept r)) := State.run_off s (fun s => s.intakeAccept r) h

theorem exec_operationSelect (s : State) (n : Fin 4) (h : s.boot.held = .off) :
    exec (.operationSelect n) s = .next (State.settle (s.operationSelect n)) := State.run_off s (fun s => s.operationSelect n) h

theorem exec_leaseExpiry (s : State) (h : s.boot.held = .off) :
    exec .leaseExpiry s = .next (State.settle (s.leaseExpiry)) := State.run_off s (fun s => s.leaseExpiry) h

theorem exec_leaseRevoke (s : State) (n : Fin 4) (h : s.boot.held = .off) :
    exec (.leaseRevoke n) s = .next (State.settle (s.leaseRevoke n)) := State.run_off s (fun s => s.leaseRevoke n) h

theorem exec_trsDescriptorAccept (s : State) (n : Fin 4) (h : s.boot.held = .off) :
    exec (.trsDescriptorAccept n) s = .next (State.settle (s.descriptorAccept n)) := State.run_off s (fun s => s.descriptorAccept n) h

theorem exec_operationOutcome (s : State) (n : Fin 4) (posts : List PostReq) (rdBad : Bool) (h : s.boot.held = .off) :
    exec (.operationOutcome n posts rdBad) s = .next (State.settle (s.operationOutcome n posts rdBad)) := State.run_off s (fun s => s.operationOutcome n posts rdBad) h

theorem exec_abortPendingTimeout (s : State) (n : Fin 4) (h : s.boot.held = .off) :
    exec (.abortPendingTimeout n) s = .next (State.settle (s.abortTimeout n)) := State.run_off s (fun s => s.abortTimeout n) h

theorem exec_forcedStopTimeout (s : State) (n : Fin 4) (h : s.boot.held = .off) :
    exec (.forcedStopTimeout n) s = .next (State.settle (s.forcedTimeout n)) := State.run_off s (fun s => s.forcedTimeout n) h

theorem exec_moveListEntry (s : State) (h : s.boot.held = .off) :
    exec .moveListEntry s = .next (State.settle (s.moveListEntry)) := State.run_off s (fun s => s.moveListEntry) h

theorem exec_destageRouteCheck (s : State) (h : s.boot.held = .off) :
    exec .destageRouteCheck s = .next (State.settle (s.destageRouteCheck)) := State.run_off s (fun s => s.destageRouteCheck) h

theorem exec_marginCapEval (s : State) (h : s.boot.held = .off) :
    exec .marginCapEval s = .next (State.settle (s.marginEval)) := State.run_off s (fun s => s.marginEval) h

theorem exec_destageEstimateUpdate (s : State) (exts : List (Nat × Nat × Nat)) (h : s.boot.held = .off) :
    exec (.destageEstimateUpdate exts) s = .next (State.settle (s.destageEstimate exts)) := State.run_off s (fun s => s.destageEstimate exts) h

theorem exec_wordRelease (s : State) (n : Fin 4) (h : s.boot.held = .off) :
    exec (.wordRelease n) s = .next (State.settle (s.wordRelease n)) := State.run_off s (fun s => s.wordRelease n) h

theorem exec_trsCtrlStop (s : State) (m : Master) (n : Fin 4) (h : s.boot.held = .off) :
    exec (.trsCtrlStop m n) s = .next (State.settle (s.onUnit (Reg.TRSn_CTRL n) (fun s => s.trsStop n))) := State.run_off s (fun s => s.onUnit (Reg.TRSn_CTRL n) (fun s => s.trsStop n)) h

theorem exec_trsCtrlAbort (s : State) (m : Master) (n : Fin 4) (h : s.boot.held = .off) :
    exec (.trsCtrlAbort m n) s = .next (State.settle (s.onUnit (Reg.TRSn_CTRL n) (fun s => s.trsAbort n))) := State.run_off s (fun s => s.onUnit (Reg.TRSn_CTRL n) (fun s => s.trsAbort n)) h

theorem exec_trsCtrlClr (s : State) (m : Master) (n : Fin 4) (h : s.boot.held = .off) :
    exec (.trsCtrlClr m n) s = .next (State.settle (s.onUnit (Reg.TRSn_CTRL n) (fun s => s.trsClr n))) := State.run_off s (fun s => s.onUnit (Reg.TRSn_CTRL n) (fun s => s.trsClr n)) h

theorem exec_trsCtrlHold (s : State) (m : Master) (n : Fin 4) (v : Bool) (h : s.boot.held = .off) :
    exec (.trsCtrlHold m n v) s = .next (State.settle (s.onUnit (Reg.TRSn_CTRL n) (fun s => s.trsHold n v))) := State.run_off s (fun s => s.onUnit (Reg.TRSn_CTRL n) (fun s => s.trsHold n v)) h

theorem exec_trsCtrlStep (s : State) (m : Master) (n : Fin 4) (h : s.boot.held = .off) :
    exec (.trsCtrlStep m n) s = .next (State.settle (s.onUnit (Reg.TRSn_CTRL n) (fun s => s.trsStep n))) := State.run_off s (fun s => s.onUnit (Reg.TRSn_CTRL n) (fun s => s.trsStep n)) h

theorem exec_controlStoreHoldingWrite (s : State) (m : Master) (w : Fin 16384) (part : Fin 4) (v : Word) (h : s.boot.held = .off) :
    exec (.controlStoreHoldingWrite m w part v) s = .next (State.settle (s.csHold m w.val part.val v)) := State.run_off s (fun s => s.csHold m w.val part.val v) h

theorem exec_controlStoreCommit (s : State) (m : Master) (w : Fin 16384) (v : Word) (h : s.boot.held = .off) :
    exec (.controlStoreCommit m w v) s = .next (State.settle (s.csCommitWrite m w.val v)) := State.run_off s (fun s => s.csCommitWrite m w.val v) h

theorem exec_sm1Accept (s : State) (n : Fin 4) (e : Int) (bits : Word) (h : s.boot.held = .off) :
    exec (.sm1Accept n e bits) s = .next (State.settle (s.sm1Accept n e bits)) := State.run_off s (fun s => s.sm1Accept n e bits) h

theorem exec_sm2Check (s : State) (n : Fin 4) (found : Option (Int × Word)) (h : s.boot.held = .off) :
    exec (.sm2Check n found) s = .next (State.settle (s.sm2Check n found)) := State.run_off s (fun s => s.sm2Check n found) h

theorem exec_syncWindowClose (s : State) (n : Fin 4) (vals : Samples) (h : s.boot.held = .off) :
    exec (.syncWindowClose n vals) s = .next (State.settle (s.syncClose n vals)) := State.run_off s (fun s => s.syncClose n vals) h

theorem exec_codewordArrival (s : State) (n : Fin 4) (vals : Samples) (h : s.boot.held = .off) :
    exec (.codewordArrival n vals) s = .next (State.settle (s.codewordArrival n vals)) := State.run_off s (fun s => s.codewordArrival n vals) h

theorem exec_decodeComplete (s : State) (n : Fin 4) (u iters : Nat) (payload parity : List Byte) (h : s.boot.held = .off) :
    exec (.decodeComplete n u iters payload parity) s = .next (State.settle (s.decodeComplete n u iters payload parity)) := State.run_off s (fun s => s.decodeComplete n u iters payload parity) h

theorem exec_redecodeStart (s : State) (n : Fin 4) (h : s.boot.held = .off) :
    exec (.redecodeStart n) s = .next (State.settle (s.redecodeStart n)) := State.run_off s (fun s => s.redecodeStart n) h

theorem exec_servoWindowBegin (s : State) (n : Fin 4) (h : s.boot.held = .off) :
    exec (.servoWindowBegin n) s = .next (State.settle (s.servoWindowBegin n)) := State.run_off s (fun s => s.servoWindowBegin n) h

theorem exec_servoWindowEnd (s : State) (n : Fin 4) (h : s.boot.held = .off) :
    exec (.servoWindowEnd n) s = .next (State.settle (s.servoWindowEnd n)) := State.run_off s (fun s => s.servoWindowEnd n) h

theorem exec_bufferUnderrun (s : State) (n : Fin 4) (h : s.boot.held = .off) :
    exec (.bufferUnderrun n) s = .next (State.settle (s.bufferUnderrun n)) := State.run_off s (fun s => s.bufferUnderrun n) h

theorem exec_rwcSvwinWrite (s : State) (m : Master) (n : Fin 4) (w : Word) (h : s.boot.held = .off) :
    exec (.rwcSvwinWrite m n w) s = .next (State.settle (s.onUnit (Reg.RWCn_SVWIN n) (fun s => s.svwinWrite n w))) := State.run_off s (fun s => s.onUnit (Reg.RWCn_SVWIN n) (fun s => s.svwinWrite n w)) h

theorem exec_preampCommandSend (s : State) (n : Fin 4) (h : s.boot.held = .off) :
    exec (.preampCommandSend n) s = .next (State.settle (s.preampSend n)) := State.run_off s (fun s => s.preampSend n) h

theorem exec_preampFrameAck (s : State) (n : Fin 4) (rdata : BitVec 16) (h : s.boot.held = .off) :
    exec (.preampFrameAck n rdata) s = .next (State.settle (s.preampAck n rdata)) := State.run_off s (fun s => s.preampAck n rdata) h

theorem exec_escapeDetect (s : State) (n : Fin 4) (h : s.boot.held = .off) :
    exec (.escapeDetect n) s = .next (State.settle (s.escapeDetect n)) := State.run_off s (fun s => s.escapeDetect n) h

theorem exec_shockComparatorChange (s : State) (rot : Bool) (level held : Nat) (h : s.boot.held = .off) :
    exec (.shockComparatorChange rot level held) s = .next (State.settle (s.shockChange rot level held)) := State.run_off s (fun s => s.shockChange rot level held) h

theorem exec_shockHoldExpiry (s : State) (h : s.boot.held = .off) :
    exec .shockHoldExpiry s = .next (State.settle (s.shockHoldExpiry)) := State.run_off s (fun s => s.shockHoldExpiry) h

theorem exec_memsRead (s : State) (x0 x1 y0 y1 z0 z1 : Byte) (h : s.boot.held = .off) :
    exec (.memsRead x0 x1 y0 y1 z0 z1) s = .next (State.settle (s.memsRead x0 x1 y0 y1 z0 z1)) := State.run_off s (fun s => s.memsRead x0 x1 y0 y1 z0 z1) h

theorem exec_shockInputStuck (s : State) (which : Fin 3) (h : s.boot.held = .off) :
    exec (.shockInputStuck which) s = .next (State.settle (s.shockStuck which)) := State.run_off s (fun s => s.shockStuck which) h

theorem exec_pifShkAckWrite (s : State) (m : Master) (ack : BitVec 2) (h : s.boot.held = .off) :
    exec (.pifShkAckWrite m ack) s = .next (State.settle (s.shkAckWrite m ack)) := State.run_off s (fun s => s.shkAckWrite m ack) h

theorem exec_preampFaultLine (s : State) (n : Fin 4) (held : Nat) (h : s.boot.held = .off) :
    exec (.preampFaultLine n held) s = .next (State.settle (s.faultLineOn n held)) := State.run_off s (fun s => s.faultLineOn n held) h

theorem exec_paForceWrite (s : State) (m : Master) (n : Fin 4) (v : Bool) (h : s.boot.held = .off) :
    exec (.paForceWrite m n v) s = .next (State.settle (s.onUnit (Reg.PAn_CTRL n) (fun s => s.forceWrites n v))) := State.run_off s (fun s => s.onUnit (Reg.PAn_CTRL n) (fun s => s.forceWrites n v)) h

theorem exec_assistOveron (s : State) (n : Fin 4) (h : s.boot.held = .off) :
    exec (.assistOveron n) s = .next (State.settle (s.assistOveron n)) := State.run_off s (fun s => s.assistOveron n) h

theorem exec_inhibitClearRepost (s : State) (k : Nat) (ring : Fin 6) (h : s.boot.held = .off) :
    exec (.inhibitClearRepost k ring) s = .next (State.settle (s.inhibitRepost k ring)) := State.run_off s (fun s => s.inhibitRepost k ring) h

theorem exec_writeInhibitedTimeout (s : State) (k : Nat) (h : s.boot.held = .off) :
    exec (.writeInhibitedTimeout k) s = .next (State.settle (s.inhibitTimeout k)) := State.run_off s (fun s => s.inhibitTimeout k) h

theorem exec_samDetect (s : State) (n : Fin 4) (instant : Nat) (bits : BitVec 16) (bn bq : Int) (idxWord : BitVec 12) (gray : BitVec 24) (h : s.boot.held = .off) :
    exec (.samDetect n instant bits bn bq idxWord gray) s = .next (State.settle (s.samDetect n instant bits bn bq idxWord gray)) := State.run_off s (fun s => s.samDetect n instant bits bn bq idxWord gray) h

theorem exec_samplePublish (s : State) (n : Fin 4) (h : s.boot.held = .off) :
    exec (.samplePublish n) s = .next (State.settle (s.samplePublish n)) := State.run_off s (fun s => s.samplePublish n) h

theorem exec_engineDelivery (s : State) (n : Fin 4) (e : Fin 2) (dv dm : Int) (dsig : Word) (flag : Bool) (ecc : Nat) (h : s.boot.held = .off) :
    exec (.engineDelivery n e dv dm dsig flag ecc) s = .next (State.settle (s.engineDelivery n e dv dm dsig flag ecc)) := State.run_off s (fun s => s.engineDelivery n e dv dm dsig flag ecc) h

theorem exec_outputDeadline (s : State) (n : Fin 4) (h : s.boot.held = .off) :
    exec (.outputDeadline n) s = .next (State.settle (s.outputDeadline n)) := State.run_off s (fun s => s.outputDeadline n) h

theorem exec_keystoneExpiry (s : State) (n : Fin 4) (h : s.boot.held = .off) :
    exec (.keystoneExpiry n) s = .next (State.settle (s.keystoneExpiry n)) := State.run_off s (fun s => s.keystoneExpiry n) h

theorem exec_switchoverInhibitRelease (s : State) (n : Fin 4) (h : s.boot.held = .off) :
    exec (.switchoverInhibitRelease n) s = .next (State.settle (s.swnRelease n)) := State.run_off s (fun s => s.swnRelease n) h

theorem exec_resyncParameterCopyDone (s : State) (n : Fin 4) (e : Fin 2) (h : s.boot.held = .off) :
    exec (.resyncParameterCopyDone n e) s = .next (State.settle (s.resyncCopied n e)) := State.run_off s (fun s => s.resyncCopied n e) h

theorem exec_plannedSwapSchedule (s : State) (n : Fin 4) (h : s.boot.held = .off) :
    exec (.plannedSwapSchedule n) s = .next (State.settle (s.plannedSwap n)) := State.run_off s (fun s => s.plannedSwap n) h

theorem exec_srfCtrlSwap (s : State) (m : Master) (n : Fin 4) (h : s.boot.held = .off) :
    exec (.srfCtrlSwap m n) s = .next (State.settle (s.onUnit (Reg.SRFn_CTRL n) (fun s => s.srfSwap m n))) := State.run_off s (fun s => s.onUnit (Reg.SRFn_CTRL n) (fun s => s.srfSwap m n)) h

theorem exec_srfCtrlFence (s : State) (m : Master) (n : Fin 4) (e : Fin 2) (h : s.boot.held = .off) :
    exec (.srfCtrlFence m n e) s = .next (State.settle (s.onUnit (Reg.SRFn_CTRL n) (fun s => s.srfFence m n e))) := State.run_off s (fun s => s.onUnit (Reg.SRFn_CTRL n) (fun s => s.srfFence m n e)) h

theorem exec_srfCtrlResync (s : State) (m : Master) (n : Fin 4) (e : Fin 2) (h : s.boot.held = .off) :
    exec (.srfCtrlResync m n e) s = .next (State.settle (s.onUnit (Reg.SRFn_CTRL n) (fun s => s.srfResync m n e))) := State.run_off s (fun s => s.onUnit (Reg.SRFn_CTRL n) (fun s => s.srfResync m n e)) h

theorem exec_srfCtrlCorrupt (s : State) (m : Master) (n : Fin 4) (e : Fin 2) (h : s.boot.held = .off) :
    exec (.srfCtrlCorrupt m n e) s = .next (State.settle (s.onUnit (Reg.SRFn_CTRL n) (fun s => s.srfCorrupt m n e))) := State.run_off s (fun s => s.onUnit (Reg.SRFn_CTRL n) (fun s => s.srfCorrupt m n e)) h

theorem exec_sceCtrlLoad (s : State) (m : Master) (e : Fin 8) (h : s.boot.held = .off) :
    exec (.sceCtrlLoad m e) s = .next (State.settle (s.onUnit (Reg.SCEn_CTRL e) (fun s => s.sceLoad (enginePair e)))) := State.run_off s (fun s => s.onUnit (Reg.SCEn_CTRL e) (fun s => s.sceLoad (enginePair e))) h

theorem exec_sceCtrlUnload (s : State) (m : Master) (e : Fin 8) (h : s.boot.held = .off) :
    exec (.sceCtrlUnload m e) s = .next (State.settle (s.onUnit (Reg.SCEn_CTRL e) (fun s => s.sceUnload (enginePair e)))) := State.run_off s (fun s => s.onUnit (Reg.SCEn_CTRL e) (fun s => s.sceUnload (enginePair e))) h

theorem exec_sceCtrlForceRed (s : State) (m : Master) (e : Fin 8) (h : s.boot.held = .off) :
    exec (.sceCtrlForceRed m e) s = .next (State.settle (s.onUnit (Reg.SCEn_CTRL e) (fun s => s.sceForceRed (enginePair e)))) := State.run_off s (fun s => s.onUnit (Reg.SCEn_CTRL e) (fun s => s.sceForceRed (enginePair e))) h

theorem exec_sceCtrlResume (s : State) (m : Master) (e : Fin 8) (h : s.boot.held = .off) :
    exec (.sceCtrlResume m e) s = .next (State.settle (s.onUnit (Reg.SCEn_CTRL e) (fun s => s.sceResume (enginePair e)))) := State.run_off s (fun s => s.onUnit (Reg.SCEn_CTRL e) (fun s => s.sceResume (enginePair e))) h

theorem exec_sceCtrlApply (s : State) (m : Master) (e : Fin 8) (h : s.boot.held = .off) :
    exec (.sceCtrlApply m e) s = .next (State.settle (s.onUnit (Reg.SCEn_CTRL e) (fun s => s.sceApply (enginePair e)))) := State.run_off s (fun s => s.onUnit (Reg.SCEn_CTRL e) (fun s => s.sceApply (enginePair e))) h

theorem exec_scePairRegisterWrite (s : State) (m : Master) (a : Nat) (w : Word) (h : s.boot.held = .off) :
    exec (.scePairRegisterWrite m a w) s = .next (State.settle (s.busRow m a w (decide (a % 4 = 0) && (scePair a).isSome))) := State.run_off s (fun s => s.busRow m a w (decide (a % 4 = 0) && (scePair a).isSome)) h

theorem exec_rampLoadTimeout (s : State) (n : Fin 4) (h : s.boot.held = .off) :
    exec (.rampLoadTimeout n) s = .next (State.settle (s.rampTimeout n)) := State.run_off s (fun s => s.rampTimeout n) h

theorem exec_holdRelockTimeout (s : State) (n : Fin 4) (h : s.boot.held = .off) :
    exec (.holdRelockTimeout n) s = .next (State.settle (s.relockTimeout n)) := State.run_off s (fun s => s.relockTimeout n) h

theorem exec_injectionEnd (s : State) (n : Fin 4) (h : s.boot.held = .off) :
    exec (.injectionEnd n) s = .next (State.settle (s.injectionEnd n)) := State.run_off s (fun s => s.injectionEnd n) h

theorem exec_captureArm (s : State) (m : Master) (u : Fin 2) (h : s.boot.held = .off) :
    exec (.captureArm m u) s = .next (State.settle (if s.isOwner m then s.captureArm u else s)) := State.run_off s (fun s => if s.isOwner m then s.captureArm u else s) h

theorem exec_captureCtrlStop (s : State) (m : Master) (u : Fin 2) (h : s.boot.held = .off) :
    exec (.captureCtrlStop m u) s = .next (State.settle (if s.isOwner m then s.captureCtrlStop u else s)) := State.run_off s (fun s => if s.isOwner m then s.captureCtrlStop u else s) h

theorem exec_bridgeSwitch (s : State) (n : Fin 4) (i : Int) (h : s.boot.held = .off) :
    exec (.bridgeSwitch n i) s = .next (State.settle (s.bridgeSwitch n i)) := State.run_off s (fun s => s.bridgeSwitch n i) h

theorem exec_vcmOvercurrentTrip (s : State) (n : Fin 4) (i : Int) (h : s.boot.held = .off) :
    exec (.vcmOvercurrentTrip n i) s = .next (State.settle (s.vcmTrip n i)) := State.run_off s (fun s => s.vcmTrip n i) h

theorem exec_coilThermalUpdate (s : State) (n : Fin 4) (mean : Int) (rms : Nat) (mv : Int) (h : s.boot.held = .off) :
    exec (.coilThermalUpdate n mean rms mv) s = .next (State.settle (s.coilUpdate n mean rms mv)) := State.run_off s (fun s => s.coilUpdate n mean rms mv) h

theorem exec_retractPhaseEnd (s : State) (n : Fin 4) :
    exec (.retractPhaseEnd n) s = .next (State.settle (s.retractEnd n)) := rfl

theorem exec_smcCtrlStart (s : State) (m : Master) (h : s.boot.held = .off) :
    exec (.smcCtrlStart m) s = .next (State.settle (s.onUnit (Reg.SMC_CTRL) (fun s => s.smcStart))) := State.run_off s (fun s => s.onUnit (Reg.SMC_CTRL) (fun s => s.smcStart)) h

theorem exec_smcCtrlStop (s : State) (m : Master) (h : s.boot.held = .off) :
    exec (.smcCtrlStop m) s = .next (State.settle (s.onUnit (Reg.SMC_CTRL) (fun s => s.smcStop))) := State.run_off s (fun s => s.onUnit (Reg.SMC_CTRL) (fun s => s.smcStop)) h

theorem exec_smcSetptWrite (s : State) (m : Master) (w : Word) (h : s.boot.held = .off) :
    exec (.smcSetptWrite m w) s = .next (State.settle (s.onUnit (Reg.SMC_SETPT) (fun s => s.smcSetpt w.toNat))) := State.run_off s (fun s => s.onUnit (Reg.SMC_SETPT) (fun s => s.smcSetpt w.toNat)) h

theorem exec_detectComplete (s : State) (p0 p1 p2 p3 p4 p5 : Nat) (h : s.boot.held = .off) :
    exec (.detectComplete p0 p1 p2 p3 p4 p5) s = .next (State.settle (s.detectComplete (peaks p0 p1 p2 p3 p4 p5))) := State.run_off s (fun s => s.detectComplete (peaks p0 p1 p2 p3 p4 p5)) h

theorem exec_alignEnd (s : State) (h : s.boot.held = .off) :
    exec .alignEnd s = .next (State.settle (s.alignEnd)) := State.run_off s (fun s => s.alignEnd) h

theorem exec_openLoopStep (s : State) (h : s.boot.held = .off) :
    exec .openLoopStep s = .next (State.settle (s.openLoopStep)) := State.run_off s (fun s => s.openLoopStep) h

theorem exec_bemfCrossing (s : State) (kind : Fin 6) (edge held : Nat) (h : s.boot.held = .off) :
    exec (.bemfCrossing kind edge held) s = .next (State.settle (s.bemfCrossing kind edge held)) := State.run_off s (fun s => s.bemfCrossing kind edge held) h

theorem exec_commutation (s : State) (h : s.boot.held = .off) :
    exec .commutation s = .next (State.settle (s.commutation)) := State.run_off s (fun s => s.commutation) h

theorem exec_startBoundExpiry (s : State) (h : s.boot.held = .off) :
    exec .startBoundExpiry s = .next (State.settle (s.startBound)) := State.run_off s (fun s => s.startBound) h

theorem exec_standstillDetect (s : State) (h : s.boot.held = .off) :
    exec .standstillDetect s = .next (State.settle (s.standstill)) := State.run_off s (fun s => s.standstill) h

theorem exec_catchTimeout (s : State) (h : s.boot.held = .off) :
    exec .catchTimeout s = .next (State.settle (s.catchTimeout)) := State.run_off s (fun s => s.catchTimeout) h

theorem exec_speedLoopRun (s : State) (obsTheta : BitVec 32) (obsSpeed obsEmf : Nat) (ibr : BitVec 16) (h : s.boot.held = .off) :
    exec (.speedLoopRun obsTheta obsSpeed obsEmf ibr) s = .next (State.settle (s.speedLoop obsTheta obsSpeed obsEmf ibr)) := State.run_off s (fun s => s.speedLoop obsTheta obsSpeed obsEmf ibr) h

theorem exec_spindleOvercurrentTrip (s : State) (i : Nat) (h : s.boot.held = .off) :
    exec (.spindleOvercurrentTrip i) s = .next (State.settle (s.spindleTrip i)) := State.run_off s (fun s => s.spindleTrip i) h

theorem exec_sprefSample (s : State) (code : BitVec 12) (h : s.boot.held = .off) :
    exec (.sprefSample code) s = .next (State.settle (s.sprefSample code)) := State.run_off s (fun s => s.sprefSample code) h

theorem exec_chopperGateOn (s : State) (mv held : Nat) (h : s.boot.held = .off) :
    exec (.chopperGateOn mv held) s = .next (State.settle (s.chopperOn mv held)) := State.run_off s (fun s => s.chopperOn mv held) h

theorem exec_chopperGateOff (s : State) (mv held : Nat) (h : s.boot.held = .off) :
    exec (.chopperGateOff mv held) s = .next (State.settle (s.chopperOff mv held)) := State.run_off s (fun s => s.chopperOff mv held) h

theorem exec_chopperFault (s : State) (mv brki : Nat) (h : s.boot.held = .off) :
    exec (.chopperFault mv brki) s = .next (State.settle (s.chopperFault mv brki)) := State.run_off s (fun s => s.chopperFault mv brki) h

theorem exec_vmotOvervoltage (s : State) (mv held : Nat) (h : s.boot.held = .off) :
    exec (.vmotOvervoltage mv held) s = .next (State.settle (s.vmotOver mv held)) := State.run_off s (fun s => s.vmotOver mv held) h

theorem exec_ovpShortBrakeRetry (s : State) (mv held : Nat) (h : s.boot.held = .off) :
    exec (.ovpShortBrakeRetry mv held) s = .next (State.settle (s.ovpRetry mv held)) := State.run_off s (fun s => s.ovpRetry mv held) h

theorem exec_vmotPowerLoss (s : State) (mv held : Nat) (h : s.boot.held = .off) :
    exec (.vmotPowerLoss mv held) s = .next (State.settle (s.vmotLoss mv held)) := State.run_off s (fun s => s.vmotLoss mv held) h

theorem exec_vmotRestore (s : State) (mv : Nat) (h : s.boot.held = .off) :
    exec (.vmotRestore mv) s = .next (State.settle (s.vmotRestore mv)) := State.run_off s (fun s => s.vmotRestore mv) h

theorem exec_vmotRestartCount (s : State) (h : s.boot.held = .off) :
    exec .vmotRestartCount s = .next (State.settle (s.vmotRestart)) := State.run_off s (fun s => s.vmotRestart) h

theorem exec_idleSeal (s : State) (nsid zone : Nat) (h : s.boot.held = .off) :
    exec (.idleSeal nsid zone) s = .next (State.settle (s.idleSeal nsid zone)) := State.run_off s (fun s => s.idleSeal nsid zone) h

theorem exec_scrubRead (s : State) (dram : Bool) (nsym : Fin 256) (content : MemContent) (client : Option Bool) (h : s.boot.held = .off) :
    exec (.scrubRead dram nsym content client) s = .next (State.settle (s.scrubRead dram nsym.val content client)) := State.run_off s (fun s => s.scrubRead dram nsym.val content client) h

theorem exec_dramRefresh (s : State) (sub : Fin 4) (deg : Int) (h : s.boot.held = .off) :
    exec (.dramRefresh sub deg) s = .next (State.settle (s.dramRefresh sub deg)) := State.run_off s (fun s => s.dramRefresh sub deg) h

theorem exec_rmtEntryWrite (s : State) (m : Master) (dram : Bool) (i : Fin 32) (w : Word) (h : s.boot.held = .off) :
    exec (.rmtEntryWrite m dram i w) s = .next (State.settle (s.rmtWrite m dram i.val w)) := State.run_off s (fun s => s.rmtWrite m dram i.val w) h

theorem exec_rmtCopyDone (s : State) (dram : Bool) (i : Fin 32) (h : s.boot.held = .off) :
    exec (.rmtCopyDone dram i) s = .next (State.settle (s.rmtDone dram i.val)) := State.run_off s (fun s => s.rmtDone dram i.val) h

theorem exec_fmrArm (s : State) (m : Master) (w : Word) (h : s.boot.held = .off) :
    exec (.fmrArm m w) s = .next (State.settle (s.fmrArm m w)) := State.run_off s (fun s => s.fmrArm m w) h

theorem exec_recoveryBoundReached (s : State) (k : Nat) (h : s.boot.held = .off) :
    exec (.recoveryBoundReached k) s = .next (State.settle (s.boundStep k)) := State.run_off s (fun s => s.boundStep k) h

theorem exec_backgroundScanPost (s : State) (ring : Fin 6) (d : OpDesc) (ext : Option (Nat × Nat × Nat)) (h : s.boot.held = .off) :
    exec (.backgroundScanPost ring d ext) s = .next (State.settle (s.scanPost ring d ext)) := State.run_off s (fun s => s.scanPost ring d ext) h

theorem exec_faultHandlerTimeout (s : State) (h : s.boot.held = .off) :
    exec .faultHandlerTimeout s = .next (State.settle (s.handlerTimeout)) := State.run_off s (fun s => s.handlerTimeout) h

theorem exec_faultStopResetRequest (s : State) (h : s.boot.held = .off) :
    exec .faultStopResetRequest s = .next (State.settle (s.faultStopReset)) := State.run_off s (fun s => s.faultStopReset) h

theorem exec_evrRecordWrite (s : State) (h : s.boot.held = .off) :
    exec .evrRecordWrite s = .next (State.settle (s.recordWrite)) := State.run_off s (fun s => s.recordWrite) h

theorem exec_evrMirrorCopy (s : State) (slot : Nat) (posts : List PostReq) (h : s.boot.held = .off) :
    exec (.evrMirrorCopy slot posts) s = .next (State.settle (s.mirrorWrite slot posts)) := State.run_off s (fun s => s.mirrorWrite slot posts) h

theorem exec_evrPost (s : State) (m : Master) (w : Word) (h : s.boot.held = .off) :
    exec (.evrPost m w) s = .next (State.settle (s.evrPost m w)) := State.run_off s (fun s => s.evrPost m w) h

theorem exec_evrCtrlClear (s : State) (m : Master) (w : Word) (h : s.boot.held = .off) :
    exec (.evrCtrlClear m w) s = .next (State.settle (if w.getLsbD 0 then s.evrCtrl w else s)) := State.run_off s (fun s => if w.getLsbD 0 then s.evrCtrl w else s) h

theorem exec_evrCtrlUnfreeze (s : State) (m : Master) (w : Word) (h : s.boot.held = .off) :
    exec (.evrCtrlUnfreeze m w) s = .next (State.settle (if w.getLsbD 1 then s.evrCtrl w else s)) := State.run_off s (fun s => if w.getLsbD 1 then s.evrCtrl w else s) h

theorem exec_evrListWrite (s : State) (m : Master) (l : Fin 8) (k : Fin 48) (w : Word) (h : s.boot.held = .off) :
    exec (.evrListWrite m l k w) s = .next (State.settle (s.evrListWrite m l k w)) := State.run_off s (fun s => s.evrListWrite m l k w) h

theorem exec_chainLinkUp (s : State) (up : Bool) (idles : Nat) (present : Bool) (h : s.boot.held = .off) :
    exec (.chainLinkUp up idles present) s = .next (State.settle (s.chainLinkUp up idles present)) := State.run_off s (fun s => s.chainLinkUp up idles present) h

theorem exec_chainLinkDown (s : State) (up : Bool) (violations silent : Nat) (present : Bool) (h : s.boot.held = .off) :
    exec (.chainLinkDown up violations silent present) s = .next (State.settle (s.chainLinkDown up violations silent present)) := State.run_off s (fun s => s.chainLinkDown up violations silent present) h

theorem exec_headTimerExpiry (s : State) (h : s.boot.held = .off) :
    exec .headTimerExpiry s = .next (State.settle (s.headTimer)) := State.run_off s (fun s => s.headTimer) h

theorem exec_enumFrame (s : State) (up : Bool) (f : Frame) (h : s.boot.held = .off) :
    exec (.enumFrame up f) s = .next (State.settle (s.rx up f)) := State.run_off s (fun s => s.rx up f) h

theorem exec_enumEndFrame (s : State) (up : Bool) (f : Frame) (h : s.boot.held = .off) :
    exec (.enumEndFrame up f) s = .next (State.settle (s.rx up f)) := State.run_off s (fun s => s.rx up f) h

theorem exec_probeFrame (s : State) (up : Bool) (f : Frame) (h : s.boot.held = .off) :
    exec (.probeFrame up f) s = .next (State.settle (s.rx up f)) := State.run_off s (fun s => s.rx up f) h

theorem exec_echoFrame (s : State) (up : Bool) (f : Frame) (h : s.boot.held = .off) :
    exec (.echoFrame up f) s = .next (State.settle (s.rx up f)) := State.run_off s (fun s => s.rx up f) h

theorem exec_timeFrame (s : State) (up : Bool) (f : Frame) (h : s.boot.held = .off) :
    exec (.timeFrame up f) s = .next (State.settle (s.rx up f)) := State.run_off s (fun s => s.rx up f) h

theorem exec_attachFrame (s : State) (up : Bool) (f : Frame) (h : s.boot.held = .off) :
    exec (.attachFrame up f) s = .next (State.settle (s.rx up f)) := State.run_off s (fun s => s.rx up f) h

theorem exec_detachFrame (s : State) (up : Bool) (f : Frame) (h : s.boot.held = .off) :
    exec (.detachFrame up f) s = .next (State.settle (s.rx up f)) := State.run_off s (fun s => s.rx up f) h

theorem exec_regReadFrame (s : State) (up : Bool) (f : Frame) (h : s.boot.held = .off) :
    exec (.regReadFrame up f) s = .next (State.settle (s.rx up f)) := State.run_off s (fun s => s.rx up f) h

theorem exec_regWriteFrame (s : State) (up : Bool) (f : Frame) (h : s.boot.held = .off) :
    exec (.regWriteFrame up f) s = .next (State.settle (s.rx up f)) := State.run_off s (fun s => s.rx up f) h

theorem exec_ownFrame (s : State) (up : Bool) (f : Frame) (h : s.boot.held = .off) :
    exec (.ownFrame up f) s = .next (State.settle (s.rx up f)) := State.run_off s (fun s => s.rx up f) h

theorem exec_responseFrame (s : State) (up : Bool) (f : Frame) (h : s.boot.held = .off) :
    exec (.responseFrame up f) s = .next (State.settle (s.rx up f)) := State.run_off s (fun s => s.rx up f) h

theorem exec_probeTimer (s : State) (h : s.boot.held = .off) :
    exec .probeTimer s = .next (State.settle (s.probeTimer)) := State.run_off s (fun s => s.probeTimer) h

theorem exec_echoTimeout (s : State) (h : s.boot.held = .off) :
    exec .echoTimeout s = .next (State.settle (s.echoTimeout)) := State.run_off s (fun s => s.echoTimeout) h

theorem exec_enumSend (s : State) (h : s.boot.held = .off) :
    exec .enumSend s = .next (State.settle (s.enumSend)) := State.run_off s (fun s => s.enumSend) h

theorem exec_attachSend (s : State) (h : s.boot.held = .off) :
    exec .attachSend s = .next (State.settle (s.attachSend)) := State.run_off s (fun s => s.attachSend) h

theorem exec_vchCtrlEnum (s : State) (m : Master) (h : s.boot.held = .off) :
    exec (.vchCtrlEnum m) s = .next (State.settle (s.vchEnum)) := State.run_off s (fun s => s.vchEnum) h

theorem exec_vchCtrlProbe (s : State) (m : Master) (h : s.boot.held = .off) :
    exec (.vchCtrlProbe m) s = .next (State.settle (s.sendProbe)) := State.run_off s (fun s => s.sendProbe) h

theorem exec_vsyncReceive (s : State) (h : s.boot.held = .off) :
    exec .vsyncReceive s = .next (State.settle (s.vsyncReceive)) := State.run_off s (fun s => s.vsyncReceive) h

theorem exec_vsyncForward (s : State) (h : s.boot.held = .off) :
    exec .vsyncForward s = .next (State.settle (s.vsyncForward)) := State.run_off s (fun s => s.vsyncForward) h

theorem exec_vsyncWindowClose (s : State) (h : s.boot.held = .off) :
    exec .vsyncWindowClose s = .next (State.settle (s.vsyncWindowClose)) := State.run_off s (fun s => s.vsyncWindowClose) h

theorem exec_timeSend (s : State) (h : s.boot.held = .off) :
    exec .timeSend s = .next (State.settle (s.timeSend)) := State.run_off s (fun s => s.timeSend) h

theorem exec_handoverTimeout (s : State) (h : s.boot.held = .off) :
    exec .handoverTimeout s = .next (State.settle (s.handoverTimeout)) := State.run_off s (fun s => s.handoverTimeout) h

theorem exec_graceExpiry (s : State) (h : s.boot.held = .off) :
    exec .graceExpiry s = .next (State.settle (s.graceExpiry)) := State.run_off s (fun s => s.graceExpiry) h

theorem exec_smbusOwnerTimeout (s : State) (h : s.boot.held = .off) :
    exec .smbusOwnerTimeout s = .next (State.settle (s.smbusOwnerTimeout)) := State.run_off s (fun s => s.smbusOwnerTimeout) h

theorem exec_bar2OwnAction (s : State) (m : Fin 2) (off : Nat) (acc : BarAccess) (h : s.boot.held = .off) :
    exec (.bar2OwnAction m off acc) s = .next (State.settle (s.bar2 m off acc)) := State.run_off s (fun s => s.bar2 m off acc) h

theorem exec_smbusBasicManagementRead (s : State) (h : s.boot.held = .off) :
    exec .smbusBasicManagementRead s = .next (State.settle (s.basicRead)) := State.run_off s (fun s => s.basicRead) h

theorem exec_mctpSetEndpointId (s : State) (eid : Fin 256) (h : s.boot.held = .off) :
    exec (.mctpSetEndpointId eid) s = .next (State.settle (s.mctpMsg.setEid eid.val)) := State.run_off s (fun s => s.mctpMsg.setEid eid.val) h

theorem exec_mctpGetEndpointId (s : State) (h : s.boot.held = .off) :
    exec .mctpGetEndpointId s = .next (State.settle (s.mctpMsg.getEid)) := State.run_off s (fun s => s.mctpMsg.getEid) h

theorem exec_mctpGetVersionSupport (s : State) (h : s.boot.held = .off) :
    exec .mctpGetVersionSupport s = .next (State.settle (s.mctpMsg.getMctpVersion)) := State.run_off s (fun s => s.mctpMsg.getMctpVersion) h

theorem exec_mctpGetMessageTypeSupport (s : State) (h : s.boot.held = .off) :
    exec .mctpGetMessageTypeSupport s = .next (State.settle (s.mctpMsg.getMsgTypes)) := State.run_off s (fun s => s.mctpMsg.getMsgTypes) h

theorem exec_miReadDataStructure (s : State) (len : Nat) (h : s.boot.held = .off) :
    exec (.miReadDataStructure len) s = .next (State.settle (s.mctpMsg.miRead len)) := State.run_off s (fun s => s.mctpMsg.miRead len) h

theorem exec_miSubsystemHealthPoll (s : State) (h : s.boot.held = .off) :
    exec .miSubsystemHealthPoll s = .next (State.settle (s.mctpMsg.miSubsystem)) := State.run_off s (fun s => s.mctpMsg.miSubsystem) h

theorem exec_miControllerHealthPoll (s : State) (h : s.boot.held = .off) :
    exec .miControllerHealthPoll s = .next (State.settle (s.mctpMsg.miController)) := State.run_off s (fun s => s.mctpMsg.miController) h

theorem exec_miConfigurationGet (s : State) (id : Fin 256) (h : s.boot.held = .off) :
    exec (.miConfigurationGet id) s = .next (State.settle (s.mctpMsg.miGet id.val)) := State.run_off s (fun s => s.mctpMsg.miGet id.val) h

theorem exec_miConfigurationSet (s : State) (id : Fin 256) (v : Nat) (h : s.boot.held = .off) :
    exec (.miConfigurationSet id v) s = .next (State.settle (s.mctpMsg.miSet id.val v)) := State.run_off s (fun s => s.mctpMsg.miSet id.val v) h

theorem exec_miVpdRead (s : State) (len : Nat) (h : s.boot.held = .off) :
    exec (.miVpdRead len) s = .next (State.settle (s.mctpMsg.miVpd len)) := State.run_off s (fun s => s.mctpMsg.miVpd len) h

theorem exec_miGetState (s : State) (h : s.boot.held = .off) :
    exec .miGetState s = .next (State.settle (s.mctpMsg.miState)) := State.run_off s (fun s => s.mctpMsg.miState) h

theorem exec_miAbort (s : State) (h : s.boot.held = .off) :
    exec .miAbort s = .next (State.settle (s.mctpMsg.miAbort)) := State.run_off s (fun s => s.mctpMsg.miAbort) h

theorem exec_miTunnelledAdmin (s : State) (e : Sqe) (h : s.boot.held = .off) :
    exec (.miTunnelledAdmin e) s = .next (State.settle (s.mctpMsg.miTunnel e)) := State.run_off s (fun s => s.mctpMsg.miTunnel e) h

theorem exec_smbusBusTimeout (s : State) (h : s.boot.held = .off) :
    exec .smbusBusTimeout s = .next (State.settle (s.smbusTimeout)) := State.run_off s (fun s => s.smbusTimeout) h

theorem exec_pmuTick (s : State) (rails : List (Nat × Nat)) (d0 d1 d2 d3 d4 d5 : Option Int) (vmot vdda : Nat) (h : s.boot.held = .off) :
    exec (.pmuTick rails d0 d1 d2 d3 d4 d5 vmot vdda) s = .next (State.settle (s.pmuTick rails [d0, d1, d2, d3, d4, d5] vmot vdda)) := State.run_off s (fun s => s.pmuTick rails [d0, d1, d2, d3, d4, d5] vmot vdda) h

theorem exec_diodeConversion (s : State) (k : Fin 4) (v : Option Int) (h : s.boot.held = .off) :
    exec (.diodeConversion k v) s = .next (State.settle (s.diodeConversion k v)) := State.run_off s (fun s => s.diodeConversion k v) h

theorem exec_powerStateTransition (s : State) (h : s.boot.held = .off) :
    exec .powerStateTransition s = .next (State.settle (s.powerTransition)) := State.run_off s (fun s => s.powerTransition) h

theorem exec_ps4Wake (s : State) (h : s.boot.held = .off) :
    exec .ps4Wake s = .next (State.settle (s.ps4Wake)) := State.run_off s (fun s => s.ps4Wake) h

theorem exec_selfRefreshReturn (s : State) (h : s.boot.held = .off) :
    exec .selfRefreshReturn s = .next (State.settle (s.selfRefreshReturn)) := State.run_off s (fun s => s.selfRefreshReturn) h

theorem exec_actuatorRestore (s : State) (n : Fin 4) (h : s.boot.held = .off) :
    exec (.actuatorRestore n) s = .next (State.settle (s.actuatorRestore n)) := State.run_off s (fun s => s.actuatorRestore n) h

theorem exec_outRestoreAttempt (s : State) (n : Fin 4) (h : s.boot.held = .off) :
    exec (.outRestoreAttempt n) s = .next (State.settle (s.outRestore n)) := State.run_off s (fun s => s.outRestore n) h

theorem exec_actuatorLoad (s : State) (n : Fin 4) (h : s.boot.held = .off) :
    exec (.actuatorLoad n) s = .next (State.settle (s.actuatorLoad n)) := State.run_off s (fun s => s.actuatorLoad n) h

theorem exec_firstLoads (s : State) (h : s.boot.held = .off) :
    exec .firstLoads s = .next (State.settle (s.firstLoads)) := State.run_off s (fun s => s.firstLoads) h

theorem exec_mediaNotReadyTimeout (s : State) (arr : Nat) (h : s.boot.held = .off) :
    exec (.mediaNotReadyTimeout arr) s = .next (State.settle (s.notReadyTimeout arr)) := State.run_off s (fun s => s.notReadyTimeout arr) h

theorem exec_startUpMediaFailure (s : State) (h : s.boot.held = .off) :
    exec .startUpMediaFailure s = .next (State.settle (s.mediaFailure)) := State.run_off s (fun s => s.mediaFailure) h

theorem exec_systemAreaReadRetry (s : State) (ok : Bool) (h : s.boot.held = .off) :
    exec (.systemAreaReadRetry ok) s = .next (State.settle (s.systemArea ok)) := State.run_off s (fun s => s.systemArea ok) h

theorem exec_pmuPstateReqWrite (s : State) (m : Master) (w : Word) (h : s.boot.held = .off) :
    exec (.pmuPstateReqWrite m w) s = .next (State.settle (s.pstateReqWrite m w)) := State.run_off s (fun s => s.pstateReqWrite m w) h

theorem exec_gpioInputChange (s : State) (pin : Fin 32) (level : Bool) (held : Nat) (h : s.boot.held = .off) :
    exec (.gpioInputChange pin level held) s = .next (State.settle (s.gpioInput pin level held)) := State.run_off s (fun s => s.gpioInput pin level held) h

theorem exec_uartRxCharacter (s : State) (ch : Byte) (framed : Bool) (h : s.boot.held = .off) :
    exec (.uartRxCharacter ch framed) s = .next (State.settle (s.uartRx ch framed)) := State.run_off s (fun s => s.uartRx ch framed) h

theorem exec_jtagBypass (s : State) :
    exec .jtagBypass s = .next (State.settle (s.jtagBypass)) := rfl

theorem exec_jtagIdcode (s : State) :
    exec .jtagIdcode s = .next (State.settle (s.jtagIdcode)) := rfl

theorem exec_jtagSamplePreload (s : State) (pins shift : Nat) :
    exec (.jtagSamplePreload pins shift) s = .next (State.settle (s.jtagSample pins shift)) := rfl

theorem exec_jtagExtest (s : State) (pins shift : Nat) :
    exec (.jtagExtest pins shift) s = .next (State.settle (s.jtagExtest pins shift)) := rfl

theorem exec_jtagHighz (s : State) :
    exec .jtagHighz s = .next (State.settle (s.jtagHighz)) := rfl

theorem exec_jtagClamp (s : State) :
    exec .jtagClamp s = .next (State.settle (s.jtagClamp)) := rfl

theorem exec_hqeArrivalRead (s : State) (m : Master) (h : s.boot.held = .off) :
    exec (.hqeArrivalRead m) s = .next (State.settle (s.readRow m Reg.HQE_ARRIVAL_LO)) := State.run_off s (fun s => s.readRow m Reg.HQE_ARRIVAL_LO) h

theorem exec_svdPosRead (s : State) (m : Master) (n : Fin 4) (h : s.boot.held = .off) :
    exec (.svdPosRead m n) s = .next (State.settle (s.readRow m (Reg.SVDn_POS_LO n))) := State.run_off s (fun s => s.readRow m (Reg.SVDn_POS_LO n)) h

theorem exec_vchTrefRead (s : State) (m : Master) (h : s.boot.held = .off) :
    exec (.vchTrefRead m) s = .next (State.settle (s.readRow m Reg.VCH_TREF_MLO)) := State.run_off s (fun s => s.readRow m Reg.VCH_TREF_MLO) h

theorem exec_perstDeassert (s : State) (m : Fin 2) (held : Nat) (h : s.boot.held = .off) :
    exec (.perstDeassert m held) s = .next (State.settle (s.perstDeassert m held)) := State.run_off s (fun s => s.perstDeassert m held) h

theorem exec_referenceClockRestore (s : State) (env : StartUp) :
    exec (.referenceClockRestore env) s = .next (State.settle (s.clockRestore env)) := rfl

theorem exec_openLoopBoundExpiry (s : State) (h : s.boot.held = .off) :
    exec .openLoopBoundExpiry s = .next (State.settle (s.openLoopBound)) := State.run_off s (fun s => s.openLoopBound) h

theorem exec_preampFaultLineInactive (s : State) (n : Fin 4) (held : Nat) (h : s.boot.held = .off) :
    exec (.preampFaultLineInactive n held) s = .next (State.settle (s.faultLineOff n held)) := State.run_off s (fun s => s.faultLineOff n held) h

theorem exec_vmotLossRunTimeout (s : State) (h : s.boot.held = .off) :
    exec .vmotLossRunTimeout s = .next (State.settle (s.vmotLossTimeout)) := State.run_off s (fun s => s.vmotLossTimeout) h

theorem exec_cacheDestagePost (s : State) (r : Fin 6) (d : OpDesc) (nsid slba nlb : Nat) (h : s.boot.held = .off) :
    exec (.cacheDestagePost r d nsid slba nlb) s = .next (State.settle (s.destagePost r d (nsid, slba, nlb))) := State.run_off s (fun s => s.destagePost r d (nsid, slba, nlb)) h

theorem exec_entropyHealthTestFail (s : State) (h : s.boot.held = .off) :
    exec .entropyHealthTestFail s = .next (State.settle (s.entropyFail)) := State.run_off s (fun s => s.entropyFail) h

theorem exec_ps1ChoiceHoldoffEnd (s : State) (k : Fin 2) (h : s.boot.held = .off) :
    exec (.ps1ChoiceHoldoffEnd k) s = .next (State.settle (s.choiceHoldoff k)) := State.run_off s (fun s => s.choiceHoldoff k) h

theorem exec_pcieConfigWrite (s : State) (m : Fin 2) (acc : CfgAccess) (h : s.boot.held = .off) :
    exec (.pcieConfigWrite m acc) s = .next (State.settle (s.configAccess m acc)) := State.run_off s (fun s => s.configAccess m acc) h

end Sys2Proof.Machine
end

