-- ==== Sys2Proof/Laws/Memory.lean ====
section
/-!
SUPPORT. Sys2Proof/Laws/Memory.lean: reset memory has its canonical form and every operation that stores to memory keeps it; a
byte reads back as it was written, and a write leaves every other byte alone.
-/
namespace Sys2Proof.Machine

theorem reset_mem_wf : Memory.wf State.reset.mem = true := rfl

/-! ### The canonical form -/

theorem State.memPut_wf (s : State) (a : Nat) (b : Byte) (h : Memory.wf s.mem = true) : Memory.wf (s.memPut a b).mem = true :=
  sparseWf_set memDefault s.mem _ b h

theorem State.memPuts_wf (s : State) (a : Nat) (l : List Byte) (h : Memory.wf s.mem = true) : Memory.wf (s.memPuts a l).mem = true := by
  induction l generalizing s a with
  | nil => exact h
  | cons b t ih => exact ih (s.memPut a b) (a + 1) (s.memPut_wf a b h)

theorem State.memClear_wf (s : State) (a len : Nat) (h : Memory.wf s.mem = true) : Memory.wf (s.memClear a len).mem = true := by
  unfold State.memClear
  split
  · exact sparseWf_filter memDefault _ s.mem h
  · exact s.memPuts_wf a _ h

theorem State.with_memp_mem (s : State) (m : MemSt) : ({ s with memp := m } : State).mem = s.mem := rfl

@[simp] theorem State.flipMask_mem (s : State) (a len : Nat) : (s.flipMask a len).mem = s.mem := by
  unfold State.flipMask
  extract_lets dram u t
  clear_value t
  split
  · rfl
  · exact (State.with_memp_mem _ _).trans ((State.wr_mem _ _ _).trans (State.fput_mem _ _ _))

@[simp] theorem State.memTouch_mem (s : State) (a len : Nat) : (s.memTouch a len).mem = s.mem := by
  unfold State.memTouch
  exact (State.flipMask_mem _ _ _).trans (State.with_memp_mem _ _)

theorem State.memStore_mem (s : State) (a : Nat) (l : List Byte) : (s.memStore a l).mem = (s.memPuts a l).mem := by
  unfold State.memStore
  simp only [State.memTouch_mem]

theorem State.memStore_wf (s : State) (a : Nat) (l : List Byte) (h : Memory.wf s.mem = true) : Memory.wf (s.memStore a l).mem = true := by
  rw [State.memStore_mem]
  exact s.memPuts_wf a l h

/-- A fold of steps that each keep the canonical form keeps it. -/
theorem foldl_mem_wf {α : Type} (f : State → α → State) (hf : ∀ s x, Memory.wf s.mem = true → Memory.wf (f s x).mem = true) (l : List α)
    (s : State) (h : Memory.wf s.mem = true) : Memory.wf (l.foldl f s).mem = true := by
  induction l generalizing s with
  | nil => exact h
  | cons x t ih => exact ih (f s x) (hf s x h)

/-- A fold of sets keeps the canonical form. -/
theorem foldl_set_wf {α : Type} (k : α → Nat) (v : α → Byte) (l : List α) (m : List (Nat × Byte)) (h : Memory.wf m = true) :
    Memory.wf (l.foldl (fun m x => sparseSet memDefault m (k x) (v x)) m) = true := by
  induction l generalizing m with
  | nil => exact h
  | cons x t ih => exact ih _ (sparseWf_set memDefault m (k x) (v x) h)

theorem State.storePage_wf (s : State) (p : Nat) (bytes : List Byte) (tag : Nat) (h : Memory.wf s.mem = true) :
    Memory.wf (s.storePage p bytes tag).mem = true := by
  unfold State.storePage
  apply State.memStore_wf
  rw [State.memTouch_mem]
  exact State.memPuts_wf _ _ _ (s.memClear_wf _ _ h)

theorem State.storeParity_wf (s : State) (n : Fin 4) (p : Nat) (h : Memory.wf s.mem = true) : Memory.wf (s.storeParity n p).mem = true := by
  unfold State.storeParity
  simp only [State.memTouch_mem]
  apply foldl_mem_wf
  · intro s kb hs
    split <;> exact s.memPut_wf _ _ hs
  · exact State.memClear_wf _ _ _ (s.memClear_wf _ _ h)

theorem State.loadArea_wf (s : State) (ty off len dst : Nat) (h : Memory.wf s.mem = true) :
    Memory.wf (s.loadArea ty off len dst).mem = true := by
  unfold State.loadArea
  split
  · exact h
  · apply foldl_mem_wf _ _ _ _ h
    intro s kb hs
    split
    · exact s.memPut_wf _ _ hs
    · exact hs

theorem State.rmtDone_wf (s : State) (dram : Bool) (i : Nat) (h : Memory.wf s.mem = true) : Memory.wf (s.rmtDone dram i).mem = true := by
  unfold State.rmtDone
  split
  · exact h
  · simp only [State.evt_mem, State.fput_mem, State.modMem_mem]
    exact foldl_set_wf (fun bi : Byte × Nat => rmtSpare dram i + bi.2) (fun bi => bi.1) _ _ (sparseWf_filter memDefault _ s.mem h)

/-! ### Reading back -/

theorem State.memByte_memPut_same (s : State) (a : Nat) (b : Byte) : (s.memPut a b).memByte a = b := by
  unfold State.memByte State.memPut
  exact sparseGet_set_same memDefault s.mem _ b

theorem State.memByte_memPut_ne (s : State) {a k : Nat} (b : Byte) (h : remapped s.memp.remap k ≠ remapped s.memp.remap a) :
    (s.memPut a b).memByte k = s.memByte k := by
  unfold State.memByte State.memPut
  exact sparseGet_set_ne memDefault s.mem h b

/-- A byte at which no byte of the range is stored reads as before. -/
theorem State.memByte_memPuts_ne (s : State) (a : Nat) (l : List Byte) (k : Nat)
    (h : ∀ i < l.length, remapped s.memp.remap k ≠ remapped s.memp.remap (a + i)) : (s.memPuts a l).memByte k = s.memByte k := by
  induction l generalizing s a with
  | nil => rfl
  | cons b t ih =>
    have h0 := h 0 (by simp)
    have ht := ih (s.memPut a b) (a + 1) (fun i hi => by
      have := h (i + 1) (by simpa using hi)
      rwa [show a + (i + 1) = a + 1 + i by omega] at this)
    simp only [State.memPuts_cons]
    rw [ht]
    exact s.memByte_memPut_ne b h0

/-- Without redirected pages, a range reads back as it was stored. -/
theorem State.memBytes_memPuts (s : State) (a : Nat) (l : List Byte) (h : s.memp.remap = []) :
    (s.memPuts a l).memBytes l.length a = l := by
  induction l generalizing s a with
  | nil => rfl
  | cons b t ih =>
    have hb : (s.memPuts a (b :: t)).memByte a = b := by
      simp only [State.memPuts_cons]
      rw [State.memByte_memPuts_ne]
      · exact s.memByte_memPut_same a b
      · intro i _
        simp only [State.memPut_memp, h, remapped]
        omega
    have ht := ih (s.memPut a b) (a + 1) h
    simp only [List.length_cons, State.memBytes]
    rw [hb]
    exact congrArg (b :: ·) ht

end Sys2Proof.Machine
end

