-- ==== Sys2Proof/Laws/Settle.lean ====
section
/-!
SUPPORT. Sys2Proof/Laws/Settle.lean: how every command ends: its offers get their numbers, none stays without, and the machine
goes on; and what the recorder's queue does with one offer.
-/
namespace Sys2Proof.Machine

/-- A command ends in a next state: as it was while a reset is held, else with what the command does, settled. -/
theorem State.run_eq (s : State) (f : State → State) : s.run f = .next (if s.boot.held = .off then (f s).settle else s) := by
  unfold State.run State.done
  split <;> rfl

/-- What a next state of a command is. -/
theorem State.run_next {s t : State} {f : State → State} (h : s.run f = .next t) :
    (s.boot.held = .off ∧ t = (f s).settle) ∨ (s.boot.held ≠ .off ∧ t = s) := by
  rw [State.run_eq] at h
  split at h
  · next hh => exact .inl ⟨hh, by injection h with h; exact h.symm⟩
  · next hh => exact .inr ⟨hh, by injection h with h; exact h.symm⟩

/-- The operation of a command keeps what a command keeps. -/
theorem State.run_keeps {α : Type} (p : State → α) (hp : ∀ s : State, p s.settle = p s) {s t : State} {f : State → State}
    (hf : p (f s) = p s) (h : s.run f = .next t) : p t = p s := by
  rcases State.run_next h with ⟨-, rfl⟩ | ⟨-, rfl⟩
  · rw [hp, hf]
  · rfl

@[simp] theorem State.enqueueOffer_staged (s : State) (o : Offer) : (s.enqueueOffer o).evr.staged = s.evr.staged := by
  unfold State.enqueueOffer
  dsimp only
  split
  · rfl
  · split
    · rfl
    · split <;> rfl

@[simp] theorem State.foldEnqueue_staged (l : List Offer) (s : State) :
    (l.foldl (fun s o => s.enqueueOffer o) s).evr.staged = s.evr.staged := by
  induction l generalizing s with
  | nil => rfl
  | cons o t ih => rw [List.foldl_cons, ih, State.enqueueOffer_staged]

/-- No offer stays without a number (R500). -/
@[simp] theorem State.settle_staged (s : State) : s.settle.evr.staged = [] := by
  simp [State.settle]

/-- A command that ends leaves no offer without a number. -/
theorem State.run_staged {s t : State} {f : State → State} (hs : s.evr.staged = []) (h : s.run f = .next t) : t.evr.staged = [] := by
  rcases State.run_next h with ⟨-, rfl⟩ | ⟨-, rfl⟩
  · exact State.settle_staged _
  · exact hs

/-- A command that offers nothing settles to itself but for the list of offers. -/
theorem State.settle_of_nothing (s : State) (h : s.evr.staged = []) : s.settle = s := by
  have he : { s.evr with staged := [] } = s.evr := by
    cases he : s.evr
    simp_all
  unfold State.settle
  rw [h]
  simp only [List.reverse_nil, sortOffers, List.foldl_nil, he]

end Sys2Proof.Machine
end

