-- ==== Sys2Proof/Tests/Slice0.lean ====
section
/-!
SUPPORT. Sys2Proof/Tests/Slice0.lean: for every statement with hypotheses a concrete state and operands that meet them, clause by
clause, where what the clause concludes is evaluated as well; ill-formed operands, refused; a step.
-/
set_option Elab.async false

open Sys2Proof Sys2Proof.Machine

namespace Sys2Proof.Tests

/-- Whether an outcome is a next state of which `p` holds. -/
def ends (o : Host.Outcome State Fault Refusal) (p : State → Bool) : Bool :=
  match o with
  | .next t => p t
  | _ => false

/-- The registers that two states list. -/
def keys (s t : State) : List Nat := (s.regs ++ t.regs).map (·.1)

/-- A state with fields of registers replaced. -/
def puts (s : State) (l : List (Fld × Nat)) : State := l.foldl (fun s x => s.fput x.1 x.2) s

/-- A part that runs, some time after reset. -/
def run : State := puts { State.reset with cycle := 5000000 } [(Reg.SYS_BOOT_MODE, 1)]

/-- The same with fields replaced. -/
def at_ (l : List (Fld × Nat)) : State := puts run l

/-- The register at an address. -/
def hit (a : Nat) : RegHit := (findReg a).getD ⟨⟨0, 0, 0, none, none, []⟩, 0, ⟨0, [], false, []⟩⟩

/-- A part whose XTS_BLOB holds the key 12345 of slot 3, wrapped under the key of authority 1 with no credential set. -/
def blobbed : State :=
  (List.range 18).foldl (fun s d => s.wr (Reg.XTS_BLOB_n d) (BitVec.ofNat 32 (
    0xA14B3C1BCA3BE681034E634284E5E1801517829CF3ACFA0CF09D2CEA94379CEDE52BDD410487FE4EE201E959DD3A4D93960E43D406CBE2F956591BE7647CD7DE1D57EA0BC20542F / 2 ^ (32 * d)))) run

/-! A Drive Parameter Image that passes every check of R597, written table by table as (offset, width, value). -/

/-- The bytes that are not 0 of a little-endian value. -/
def le (off k v : Nat) : List (Nat × Byte) :=
  (List.range k).filterMap (fun i => if v / 256 ^ i % 256 = 0 then none else some (off + i, BitVec.ofNat 8 (v / 256 ^ i)))

/-- A table of the image from its values. -/
def table (ty size : Nat) (l : List (Nat × Nat × Nat)) : DpiTable := ⟨ty, size, true, l.flatMap (fun x => le x.1 x.2.1 x.2.2)⟩

/-- The SHA-384 of the key that signs the test images. -/
def keyHash : List Byte := leBytes 0x5D36C059548032C168D9BD7C98DB8E7405A520C01539EE4074C110131C2A89AD3160BA28A154494D9AF9B0DDA475D505 48

/-- Tables 1 to 5. -/
def tables1 : List DpiTable :=
  [table 1 2488 [(0, 2, 896), (2, 2, 3), (4, 4, 0x28A0000), (8, 4, 0x19000000), (12, 4, 0x32000000), (0x8B8, 4, 0x04000040),
      (0x8BC, 4, 0x1000), (0x8C0, 4, 0x40), (0x8C4, 4, 100), (0x8C8, 4, 0x04000080), (0x8CC, 4, 0x2000)],
    table 2 168 [(0, 1, 1), (4, 4, 1), (8, 1, 5)],
    table 3 20576 ([(0, 1, 8), (1, 1, 64)] ++ (List.range 20).flatMap (fun s =>
      [(4 + 4 * s, 3, 200000), (7 + 4 * s, 1, 1), (0x64 + 0x400 * s, 2, 512), (0x66 + 0x400 * s, 2, 3000),
        (0x68 + 0x400 * s, 4, if s = 0 then 1000 else 0), (0x6C + 0x400 * s, 2, 138)])),
    table 4 2576 ([(0, 2, 10), (2, 2, 20), (4, 2, 1), (0x810, 4, 0x10)] ++ (List.range 64).flatMap (fun k =>
      [(0x10 + 8 * k, 4, k), (0x16 + 8 * k, 2, 20)])),
    table 5 128 (keyHash.zipIdx.map (fun bi => (0x40 + bi.2, 1, bi.1.toNat)) ++ (List.range 64).map (fun i => (i, 1, 0xFF)))]

/-- Tables 6 and 7; `codes` is the code of table 6 (R304), which only its own check reads. -/
def tables2 (codes : List (Nat × Byte)) : List DpiTable :=
  [⟨6, 90112, true, le 0 2 1 ++ le 4 4 0x40000400 ++ le 8 4 0x0F0F0F0F ++ le 12 4 0xF0F0F0FF ++
      le 0x2008 2 1 ++ le 0x200E 1 20 ++ le 0x200F 1 30 ++ codes⟩,
    table 7 23040 ([(0, 2, 1), (2, 1, 4), (3, 1, 25), (4, 1, 4), (5, 1, 10), (6, 2, 100), (8, 1, 1), (9, 1, 2), (10, 1, 3),
      (11, 1, 4), (12, 1, 200), (0x34, 2, 100)] ++ (List.range 4).map (fun i => (0x208 + 8 * i, 4, 2 ^ 31 + (i + 1) * 2 ^ 27)) ++
      [(0xA00, 1, 50), (0xA01, 1, 100), (0xA02, 1, 30)])]

/-- Tables 8 to 14. -/
def tables3 : List DpiTable :=
  [table 8 33024 ([(0, 2, 1), (2, 2, 600), (4, 4, 0xCCCCD), (0x100, 2, 20000), (0x102, 2, 30000), (0x104, 2, 10000), (0x106, 1, 1),
      (0x107, 1, 20), (0x108, 2, 8000), (0x10E, 1, 80), (0x10F, 1, 110), (0x110, 4, 5000), (0x114, 2, 1000), (0x11A, 1, 11),
      (0x11B, 1, 64), (0x11C, 1, 4), (0x500, 4, 0x22), (0x1900, 4, 300)] ++
      (List.range 65).map (fun k => (0x140 + 2 * k, 2, 100 * k))),
    table 9 272 [(0, 2, 1), (0x10, 4, 0x08041420), (0x14, 4, 0x10), (0x18, 4, 100)],
    table 10 1856 [(0, 2, 1), (2, 1, 4), (4, 2, 7200), (8, 4, 20), (12, 4, 30000 * 2 ^ 16 + 20000), (16, 4, 15000 * 2 ^ 16 + 5000),
      (20, 4, 7200 * 2 ^ 16 + 5400), (28, 4, 100), (32, 4, 0x10001), (36, 4, 0xA000A), (40, 4, 1), (0x48, 4, 0xA0001),
      (0x50, 4, 0x10064), (0x60, 4, 4000 * 2 ^ 16), (0x64, 4, 1500 * 2 ^ 16 + 100), (0x68, 4, 1000)],
    table 11 72 [(0, 2, 1)],
    table 12 136 [(0, 2, 1)],
    table 13 528 ([(0, 2, 64), (2, 1, 4), (3, 1, 8), (4, 1, 30), (5, 1, 10), (6, 2, 100), (0x12, 2, 100), (0x14, 3, 150000)] ++
      (List.range 63).map (fun i => (0x18 + 8 * i, 1, 0xFF))),
    table 14 544 ([(0, 2, 1), (2, 2, 3), (5, 1, 3), (6, 2, 100), (8, 2, 1200), (10, 2, 900), (12, 2, 500), (14, 2, 300), (16, 2, 100),
      (0x20, 4, 1000 * 2 ^ 16 + 120 * 256 + 90), (0x24, 4, 15000 * 2 ^ 16 + 513), (0x28, 4, 80 * 2 ^ 16 + 1280), (0x12C, 1, 100),
      (0x12D, 1, 4)] ++ (List.range 12).map (fun j => (0x130 + j, 1, 0xFF)) ++ [(0x13C, 1, 50), (0x13D, 1, 2)])]

/-- The image with a code, signed with the key whose hash is `keyHash`. -/
def imageOf (codes : List (Nat × Byte)) : DpiImage :=
  ⟨1, 14, 400000, 7, 1, 0, true, keyHash, true, tables1 ++ tables2 codes ++ tables3⟩

/-- The image without its code. -/
def dpi : DpiImage := imageOf []

/-- A part with that image in force. -/
def driven (l : List (Fld × Nat)) : State := puts { run with dpi := dpi, dpiOn := true } l

/-- A submission queue entry: opcode, namespace, command dwords 10 to 15. -/
def sqe (opc nsid : Nat) (w : List Nat) : Sqe :=
  let d (i : Nat) : Word := BitVec.ofNat 32 (w.getD i 0)
  ⟨opc, 17, nsid, d 0, d 1, d 2, d 3, d 4, d 5⟩

/-- The context of a command of queue `sqid` of controller 0, arrival number 5, fetched and not yet admitted. -/
def fetched (sqid : Nat) (e : Sqe) : Ctx :=
  { arr := 5, ctrl := 0, sqid := sqid, cqid := sqid, prio := 1, sqe := e, smbus := false, admitted := false, rlt := 0,
    locks := [], granted := false, zone := none, tail := false, tailDone := false, slba := e.slba, started := false,
    stored := false, committed := false, media := 0, bad := none, badLba := 0, status := none, dw0 := 0, dw1 := 0,
    admitCycle := 0, stallWc := false, covered := [], readStart := none, inhStart := none, data := [], pays := [], deAt := 0 }

/-- A conventional namespace of 4,096 blocks attached to both controllers. -/
def nsc : Ns := ⟨1, .conventional, 4096, 0, false, 1, Duo.all true, [], ⟨0, none, [], 0, false⟩⟩

/-- A state with port 0 up, controller 0 ready with its admin queues and a pair of I/O queues, a namespace. -/
def hosted (l : List (Fld × Nat)) : State :=
  ({ driven ([(Reg.HPXn_LINK_UP 0, 1), (Reg.HPXn_FUNC_BME 0, 1), (Reg.HPXn_FUNC_MSIXEN 0, 1)] ++ l) with
      ns := ⟨[nsc], false, [], [], [], 0⟩, xts := { XtsSt.reset with keys := [(0, 12345)] } }).modHost (fun h => { h with
    nextArr := 6, ctrls := h.ctrls.modify 0 (fun k => { k with en := true, rdy := true, css := 6, iosqes := 6, iocqes := 4 }),
    sqs := [⟨0, 0, 16, 2, 5, 0, 0⟩, ⟨0, 3, 16, 2, 5, 3, 0⟩],
    cqs := [⟨0, 0, 16, 2, 5, true, 0, true⟩, ⟨0, 3, 16, 2, 5, true, 4, true⟩] })

/-- The same with a command. -/
def hostedWith (c : Ctx) (l : List (Fld × Nat)) : State := (hosted l).modHost (fun h => { h with ctxs := [c] })

/-- A fetched I/O command. -/
def waiting (opc : Nat) : Ctx := fetched 3 (sqe opc 1 [])
/-- A state in which it is next to be admitted. -/
def admitting (opc : Nat) : State := hostedWith (waiting opc) []
/-- A state that may fetch. -/
def fetching : State := hosted []

/-- A command admitted, with its locks, that has not begun. -/
def ready (sqid : Nat) (e : Sqe) : Ctx := { fetched sqid e with admitted := true, granted := true }

/-- A zone of 65,536 blocks in a state, with 100 of them written. -/
def zoneIn (st : ZoneState) : Zone :=
  { Zone.fresh with st := st, wp := 100, written := 100, band := some (0, 0, 0) }
/-- A zoned namespace whose zone 2 is in a state. -/
def nsz (st : ZoneState) : Ns := { nsc with kind := .zoned, nsze := 2 ^ 20, bands := 16, zones := [(2, zoneIn st)] }
/-- A Zone Append of zone 2. -/
def appending : Ctx := { fetched 3 (sqe 0x7D 1 [2 * 65536]) with admitted := true, zone := some 2 }
/-- A state with that namespace and a command. -/
def zoned (c : Ctx) (st : ZoneState) : State := { hostedWith c [] with ns := ⟨[nsz st], false, [], [], [], 0⟩ }

/-- A Write whose outcome waits to be posted. -/
def finished : Ctx := { ready 3 (sqe 0x01 1 []) with started := true, status := some St.success }

/-- The 16 bytes of an ownership request (R543). -/
def ownData (act target token : Nat) : List Byte := leBytes act 1 ++ leBytes target 1 ++ leBytes 0 6 ++ leBytes token 8

/-- The head of the configuration record of generation 0. -/
def crecData : List Byte := leBytes 0x9400 2 ++ leBytes 0 2 ++ leBytes 0x56781234 4 ++ leBytes 0x9ABC 2 ++ [0xF1#8, 0#8, 0x10#8]
/-- A customer image of two words at 0x3000, with entries 0 and 1, signed with that key. -/
def csImage : CsImage := ⟨leBytes 0xD9C5E73780E4116185BFB7F3EFED22126A8B940771132FCA00E776962D6E9B4AC471F6241B5CB1106270B2873C51F1FC54796AF8FC670ADB05714428E2CF4E3E77A90C291CD4F3B1F4A8BA10786BDC9EF67CF7A9FF6698585B4EF25F602289D80000004D12F5BECA01FD358051A07805F0F883F601B2E966BC6032BE2995F42FEC3FB0ECDD361ECFF28C73C468AB660B0EB00857F031F21496DAB451299ED8AE464934D3012776D97B7A9C1BA92F8913D6CB5819B821F95687E402B6FC70E5F55DFA160400000000000000000000000000000000000000000000000000000000000000000000000000000000000000000000000000000000000000000000000000000000FA2626D20000006400000003000000000000000300000000000230000001000151535254 296⟩
/-- A firmware image of SVN 9 whose control store image has two words, signed with that key. -/
def fwImage : FwImage := ⟨leBytes 0xBFF37B8F40E59CF3761A624B8AD1274FA6113800463A678D0E095A1B925CB7FC7E343F86763D7958FDF1A2B18270935A1FAC709924A8E59F99341332F48265E40E5ED6AA2A42E4860EEC7AD112844673E2AD618283E9508D151E20D2CB5289130000004D12F5BECA01FD358051A07805F0F883F601B2E966BC6032BE2995F42FEC3FB0ECDD361ECFF28C73C468AB660B0EB00857F031F21496DAB451299ED8AE464934D3012776D97B7A9C1BA92F8913D6CB5819B821F95687E402B6FC70E5F55DFA160400000000000000000000000000000000000000000000000000000000000000000000000000000000000000000000000000000000000000000000000000000000FA2626D20000006400000001000000000000000000000000000200000000000151535254000000000000000000000000000000000000000000000000000000000000000000000000CAD6E4C300000040000000A431313131313131310009000157464D53 360⟩
/-- The Customer Microcode Load of that image. -/
def custLoad : Ctx := ready 0 (sqe 0xC3 0 [imageNdt csImage.len])

/-- A Write of 2 blocks at the write pointer of zone 2, whose data has come. -/
def storing : Ctx :=
  { ready 3 (sqe 0x01 1 [131172, 0, 1]) with zone := some 2, tail := true, started := true, data := [[1#8], [2#8]] }

/-- A read operation to post. -/
def read0 : PostReq := ⟨0, ⟨0, 1, 0, 0, 0, 0, 0, 10, 0, 0, 2, 0, 0, 0, 0xFFFF⟩, 8, 2⟩
/-- A read of 2 sectors of head 0. -/
def rdOp : OpDesc := ⟨0, 1, 0, 0, 0, 0, 0, 10, 0, 0, 2, 0, 0, 0, 0xFFFF⟩
/-- That read as posted, in a slot of actuator 0, and committed. -/
def posted : PostedOp := ⟨rdOp, false, none, none, 0⟩
/-- In a slot. -/
def slotted : MscOp := ⟨posted, 0, 0, 1, 0, false, 0, false, false⟩
/-- Committed. -/
def committed : Commit := ⟨slotted, 0, false⟩
/-- A state whose sequencer 0 is enabled and idle. -/
def idleTrs (l : List (Fld × Nat)) : State := { driven l with cs := ⟨[(0, 0)], [], none, none⟩ }.modTrs 0 (fun t => { t with st := .idle })
/-- A state whose sequencer 0 runs the committed read. -/
def runTrs (l : List (Fld × Nat)) : State :=
  ({ driven l with cs := ⟨[(0, 0)], [], none, none⟩ }.modTrs 0 (fun t => { t with st := .running, op := rdOp })).modMsc (fun m => { m with
    running := m.running.set 0 (some committed) })

/-- A report of sequencer 0: the read has ended well. -/
def noReport : TrsReport := ⟨0, rdOp, 0, 2, 0xFFFF, 0, none, 0, 0, false⟩

/-- The elements of a sector to read. -/
def sectorElems : List Elem :=
  [⟨2, 0, 32, 0, 0, 0, none, 0, none, none⟩, ⟨6, 0, 16, 0, 0, 0, none, 0, none, none⟩, ⟨3, 0, 32, 0, 0, 0, none, 0, none, none⟩,
   ⟨4, 0, 32832, 3, 1, 0, none, 1, none, none⟩, ⟨5, 0, 3712, 0, 0, 0, none, 0, none, none⟩]
/-- Channel 0 with those elements queued. -/
def rwcReading : RwcSt := { RwcSt.reset with elems := sectorElems, tb := 2 ^ 16, owed := [1], nextSeq := 2 }
/-- A state whose channel 0 reads a sector: the gate is open, its format elements wait. -/
def reading (f : RwcSt → RwcSt) : State :=
  { (runTrs []).modTrs 0 (fun t => { t with rg := true }) with rwc := (Quad.all RwcSt.reset).set 0 (f rwcReading) }
/-- A state 40,000 decks on. -/
def far (s : State) : State := s.modAtb (fun a => { a with g := 40000 * 2 ^ 20 })
/-- A sync search that has found SM1. -/
def sm1At (e : Int) : SyncSt := ⟨some 0, some e, none, false, false, false, false, []⟩
/-- A codeword in a decoder. -/
def word0 : Codeword := ⟨1, 3, 0, 4, SyncSt.empty, none, false, none, 0, 5, true, 1, []⟩
/-- A result. -/
def result0 : RdResult := ⟨0, 0, false, false, false, false, false, none, 0, 0, 0⟩
/-- A valid servo field of pier 7. -/
def field : SamData := ⟨1000, 500, 7, true, 0, 7, 0, 4999000⟩

/-- A read ladder at its third step. -/
def ladder0 : Ladder := ⟨posted, false, 3, 0, 0, 0, 0, 1000, 8, 0, none, false, 0, []⟩
/-- The record of a ring slot. -/
def recAt (t : State) (k : Nat) : EvRecord :=
  match sparseFind k t.evr.ring with
  | some (.valid r) => r
  | _ => ⟨⟨0, 0, 0, 0, 0, .trace, none, [], 0⟩, none, [], 0, 0⟩

/-- The frame that left last on the chain. -/
def frameOf (t : State) : Frame :=
  match t.out with
  | .chainUp f :: _ => f
  | .chainDn f :: _ => f
  | .chainEcho _ f :: _ => f
  | _ => ⟨0, 0, 0, 0, 0, 0, [], 0⟩
/-- A state of a unit on the chain, with both links Up. -/
def chained (l : List (Fld × Nat)) : State := at_ ([(Reg.VCH_STATUS_UPLINK, 1), (Reg.VCH_STATUS_DNLINK, 1), (Reg.VCH_ADDR_ADDR, 3)] ++ l)
/-- A good frame. -/
def frame (dst ty : Nat) (p : List Byte) : Frame := Frame.sealed ⟨dst, 9, ty, 0, 77, p.length, p, 0⟩

/-- The bytes of the management response that left last. -/
def miBytes (t : State) : List Byte :=
  match t.out with
  | .mi _ _ l :: _ => l
  | _ => []
/-- Witness for Obligations.IdleAndTableWords, clause by clause. -/
theorem witness_IdleAndTableWords :
    (∃ (s : State), s.pending = []) :=
  ⟨run, by decide +kernel⟩

/-- Witness for Obligations.HeldPartTakesNoCommand, clause by clause. -/
theorem witness_HeldPartTakesNoCommand :
    (∃ (c : Instr) (s : State), s.boot.held ≠ .off ∧ reachesHeldPart c = false ∧ ends (exec c s) (fun t => decide (t = s)) =
      true) :=
  ⟨.flush 1, run.modBoot (fun b => { b with held := .clock }), by decide +kernel⟩

/-- Witness for Obligations.RefusedRegisterAccesses, clause by clause. -/
theorem witness_RefusedRegisterAccesses :
    (∃ (s : State) (m : Master) (a : Nat) (bytes : Nat) (v : Nat) (write : Bool), s.boot.held = .off ∧ a % 4 ≠ 0 ∨ bytes ≠ 4
      ∧ inMemory a = true ∧ s.coreOrJtag m = true ∧ ends (exec (.misalignedAccess m a bytes write v) s) (fun t => decide (t =
      (if write then s.seenStore a (leBytes v bytes) else s.emit (.memRead a ((List.range bytes).map (fun i => s.seenByte (a
      + i))))).settle)) = true) ∧
    (∃ (s : State) (m : Master) (a : Nat) (bytes : Nat) (v : Nat) (write : Bool), s.boot.held = .off ∧ a % 4 ≠ 0 ∨ bytes ≠ 4
      ∧ inMemory a = true ∧ s.coreOrJtag m = false ∧ ends (exec (.misalignedAccess m a bytes write v) s) (fun t => decide (t
      = (if write then s else s.emit (.regRead 0#32)).settle)) = true) ∧
    (∃ (s : State) (m : Master) (a : Nat) (bytes : Nat) (v : Nat) (write : Bool), s.boot.held = .off ∧ a % 4 ≠ 0 ∨ bytes ≠ 4
      ∧ inMemory a = false ∧ ends (exec (.misalignedAccess m a bytes write v) s) (fun t => decide (t = (if write then
      s.refusedAccess m a false true else (s.refusedAccess m a false false).emit (.regRead 0#32)).settle ∧ (∀ b ∈ keys s t, b
      ≠ Reg.EVR_DROPQ → t.rd b = s.rd b) ∧ t.mem = s.mem ∧ t.out = (if write then s.out else .regRead 0#32 :: s.out))) = true) ∧
    (∃ (s : State) (m : Master) (a : Nat) (write : Bool), s.boot.held = .off ∧ unassigned a = true ∧ ends (exec
      (.unassignedAccess m a write) s) (fun t => decide (t = (if write then s.refusedAccess m a true true else
      (s.refusedAccess m a true false).emit (.regRead 0#32)).settle ∧ (∀ b ∈ keys s t, b ≠ Reg.EVR_DROPQ → t.rd b = s.rd b) ∧
      t.mem = s.mem ∧ t.out = (if write then s.out else .regRead 0#32 :: s.out))) = true) :=
  ⟨⟨run, .core 0, 0x10000002, 2, 0x1234, true, by decide +kernel⟩,
   ⟨run, .host 0, 0x10000002, 2, 0x1234, false, by decide +kernel⟩,
   ⟨run, .host 0, 0x40000001, 4, 0x1234, true, by decide +kernel⟩,
   ⟨run, .host 0, 0x40000FF0, false, by decide +kernel⟩⟩

/-- Witness for Obligations.PlainRegisterWrites, clause by clause. -/
theorem witness_PlainRegisterWrites :
    (∃ (s : State) (m : Master) (a : Nat) (w : Word) (h : RegHit), s.boot.held = .off ∧ a % 4 = 0 ∧ inMemory a = false ∧
      inCs a = false ∧ findReg a = some h ∧ regKind a = 1 ∧ scePair a = none ∧ s.portAbsent a = false ∧ s.unitOff a = false ∧
      (coreOnly a = true → s.coreOrJtag m = true) ∧ (ownerOnly a h.row = true → s.isOwner m = true) ∧ s.ownWrite m a w = none
      ∧ a ≠ Reg.EVR_DROPQ ∧ ends (exec (.registerWrite m a w) s) (fun t => decide (t.rd a = BitVec.ofNat 32 (h.row.written
      (s.isOwner m) (s.locked h) (s.rd a).toNat w.toNat) ∧ (∀ b ∈ keys s t, b ≠ a → b ≠ Reg.EVR_DROPQ → t.rd b = s.rd b) ∧
      t.mem = s.mem ∧ t.host = s.host ∧ t.msc = s.msc ∧ t.pair = s.pair ∧ t.smc = s.smc ∧ t.held = s.held ∧ t.out = s.out)) =
      true) ∧
    (∃ (f : FieldSpec), f.acc = .ro) ∧
    (∃ (f : FieldSpec), f.acc = .rw) ∧
    (∃ (f : FieldSpec), f.acc = .rwo) ∧
    (∃ (f : FieldSpec), f.acc = .rwl) ∧
    (∃ (f : FieldSpec), f.acc = .w1s) ∧
    (∃ (f : FieldSpec), f.acc = .w1c ∧ f.hi = f.lo) ∧
    (∃ (f : FieldSpec), f.acc = .wo) :=
  ⟨⟨at_ [(Reg.EVR_LINE_n_EN 0, 1)], .core 0, 0x400B0020, 0x1234, hit 0x400B0020, by decide +kernel⟩,
   ⟨⟨7, 0, .ro, 0, false⟩, by decide +kernel⟩,
   ⟨⟨7, 0, .rw, 0, false⟩, by decide +kernel⟩,
   ⟨⟨7, 0, .rwo, 0, false⟩, by decide +kernel⟩,
   ⟨⟨7, 0, .rwl, 0, false⟩, by decide +kernel⟩,
   ⟨⟨7, 0, .w1s, 0, false⟩, by decide +kernel⟩,
   ⟨⟨7, 7, .w1c, 0, false⟩, by decide +kernel⟩,
   ⟨⟨7, 0, .wo, 0, false⟩, by decide +kernel⟩⟩

/-- Witness for Obligations.BlockRegisterRows, clause by clause. -/
theorem witness_BlockRegisterRows :
    (∃ (s : State) (m : Master) (a : Nat) (w : Word) (h : RegHit), s.boot.held = .off ∧ a % 4 = 0 ∧ inMemory a = false ∧
      inCs a = false ∧ findReg a = some h ∧ scePair a = none ∧ s.portAbsent a = false ∧ s.unitOff a = false ∧ coreOnly a =
      false ∧ ownerOnly a h.row = false ∧ regKind a = 4 ∧ s.ownWrite m a w = none ∧ ends (exec (.lockSet m a w) s) (fun t =>
      decide (t.rd a = BitVec.ofNat 32 (h.row.written (s.isOwner m) (s.locked h) (s.rd a).toNat w.toNat))) = true) ∧
    (∃ (s : State) (m : Master) (a : Nat) (w : Word) (h : RegHit) (l : List Nat), s.boot.held = .off ∧ a % 4 = 0 ∧ inMemory
      a = false ∧ inCs a = false ∧ findReg a = some h ∧ scePair a = none ∧ s.portAbsent a = false ∧ s.unitOff a = false ∧
      coreOnly a = false ∧ ownerOnly a h.row = false ∧ regKind a = 5 ∧ countersOf a = some l ∧ w.getLsbD 0 = true ∧ ends
      (exec (.counterClear m a w) s) (fun t => decide (∀ r ∈ l, r ≠ Reg.EVR_DROPQ → t.rd r = 0#32)) = true) ∧
    (∃ (s : State) (m : Master) (a : Nat) (w : Word) (h : RegHit), s.boot.held = .off ∧ a % 4 = 0 ∧ inMemory a = false ∧
      inCs a = false ∧ findReg a = some h ∧ scePair a = none ∧ s.portAbsent a = false ∧ s.unitOff a = false ∧ coreOnly a =
      false ∧ ownerOnly a h.row = false ∧ regKind a = 2 ∧ w.getLsbD 9 = true ∧ w.getLsbD 0 = false ∧ (∀ n : Fin 4, a ≠
      Reg.VCDn_BASIC n) ∧ ends (exec (.blockBasicKeepWrite m a w) s) (fun t => decide (t.fget ⟨a, 0, 0⟩ = 0 ∧ t.fget ⟨a, 7,
      4⟩ = s.fget ⟨a, 7, 4⟩ ∧ t.held = s.held)) = true) ∧
    (∃ (s : State) (m : Master) (a : Nat) (w : Word) (h : RegHit), s.boot.held = .off ∧ a % 4 = 0 ∧ inMemory a = false ∧
      inCs a = false ∧ findReg a = some h ∧ scePair a = none ∧ s.portAbsent a = false ∧ s.unitOff a = false ∧ coreOnly a =
      false ∧ ownerOnly a h.row = false ∧ regKind a = 2 ∧ w.getLsbD 9 = false ∧ s.profile a (w.toNat / 16 % 16) = none ∧ ends
      (exec (.blockBasicWrite m a w) s) (fun t => decide (t = (s.note a .notice).settle ∧ t.rd a = s.rd a)) = true) ∧
    (∃ (s : State) (m : Master) (a : Nat) (w : Word) (h : RegHit) (l : List (Nat × Nat)), s.boot.held = .off ∧ a % 4 = 0 ∧
      inMemory a = false ∧ inCs a = false ∧ findReg a = some h ∧ scePair a = none ∧ s.portAbsent a = false ∧ s.unitOff a =
      false ∧ coreOnly a = false ∧ ownerOnly a h.row = false ∧ regKind a = 2 ∧ w.getLsbD 9 = false ∧ s.profile a (w.toNat /
      16 % 16) = some l ∧ (∀ x ∈ l, x.1 ≠ a) ∧ (∀ n : Fin 4, a ≠ Reg.VCDn_BASIC n) ∧ a ≠ Reg.AST_BASIC ∧ ends (exec
      (.blockBasicWrite m a w) s) (fun t => decide (t.rd a = BitVec.ofNat 32 (16 * (w.toNat / 16 % 16) + w.toNat % 2))) =
      true) ∧
    (∃ (s : State) (m : Master) (a : Nat) (w : Word) (h : RegHit) (b : _), s.boot.held = .off ∧ a % 4 = 0 ∧ inMemory a =
      false ∧ inCs a = false ∧ findReg a = some h ∧ scePair a = none ∧ s.portAbsent a = false ∧ s.unitOff a = false ∧
      coreOnly a = false ∧ ownerOnly a h.row = false ∧ regKind a = 3 ∧ basicOf a = some b ∧ scePair b = none ∧ b ≠ a ∧ ends
      (exec (.expertRegisterWrite m a w) s) (fun t => decide (t.fget ⟨b, 8, 8⟩ = 1 ∧ (s.fget ⟨b, 0, 0⟩ = 1 → t.rd a =
      imageWord a w.toNat) ∧ (s.fget ⟨b, 0, 0⟩ ≠ 1 → t.rd a = s.rd a ∧ t.held = sparseInsert a (imageWord a w.toNat)
      s.held))) = true) :=
  ⟨⟨run, .core 0, 0x400B0004, 1, hit 0x400B0004, by decide +kernel⟩,
   ⟨run.wr (Reg.ATB_MISSn 0) 9#32, .core 0, 0x400B0080, 1, hit 0x400B0080, (countersOf 0x400B0080).getD [], by decide +kernel⟩,
   ⟨at_ [(⟨Reg.CXE_BASIC, 0, 0⟩, 1), (⟨Reg.CXE_BASIC, 7, 4⟩, 5)], .core 0, Reg.CXE_BASIC, 0x200, hit Reg.CXE_BASIC, by decide +kernel⟩,
   ⟨run, .core 0, Reg.CXE_BASIC, 0x31, hit Reg.CXE_BASIC, by decide +kernel⟩,
   ⟨driven [], .core 0, Reg.CXE_BASIC, 1, hit Reg.CXE_BASIC, ((driven []).profile Reg.CXE_BASIC 0).getD [], by decide +kernel⟩,
   ⟨at_ [(⟨Reg.CXE_BASIC, 0, 0⟩, 1)], .core 0, Reg.CXE_BASIC + 4, 0x31, hit (Reg.CXE_BASIC + 4), Reg.CXE_BASIC, by decide +kernel⟩⟩

/-- Witness for Obligations.ResetSources, clause by clause. -/
theorem witness_ResetSources :
    (∃ (s : State) (env : StartUp) (vddio : _), s.activeGen = none ∧ ends (exec (.powerOnReset env vddio) s) (fun t =>
      decide (t.boot.held = .off ∧ t.fget Reg.SYS_BOOT_CAUSE = 1 ∧ t.fget Reg.SYS_BOOT_MODE = 3 ∧ t.fget Reg.SYS_BOOT_FAIL =
      1 ∧ t.cycle = 0)) = true) ∧
    (∃ (s : State) (env : StartUp) (low : _), 1000 ≤ low ∧ s.boot.held = .off ∧ s.boot.resetCause = none ∧ s.activeGen =
      none ∧ (∀ n, s.actEnabled n = false) ∧ s.retractRuns = false ∧ ends (exec (.chipResetPin env low) s) (fun t => decide
      (t.fget Reg.SYS_BOOT_CAUSE = 2 ∧ t.fget Reg.SYS_BOOT_MODE = 3)) = true) ∧
    (∃ (s : State) (env : StartUp) (low : _) (c : _), s.boot.held = .off ∧ s.boot.resetCause = some c ∧ ends (exec
      (.chipResetPin env low) s) (fun t => decide (t.boot.resetCause = some c)) = true) ∧
    (∃ (s : State) (env : StartUp) (low : _), low < 1000 ∧ ends (exec (.chipResetPin env low) s) (fun t => decide (t =
      s.settle)) = true) ∧
    (∃ (s : State) (m : _) (w : Word), s.boot.held = .off ∧ s.boot.resetCause = none ∧ s.activeGen = none ∧ (∀ n,
      s.actEnabled n = false) ∧ s.retractRuns = false ∧ s.isOwner m = true ∧ w.getLsbD 0 = true ∧ wordBits w 31 16 = 0xC41F ∧
      ends (exec (.sysRstChip m w) s) (fun t => decide (t.fget Reg.SYS_BOOT_CAUSE = 3 ∧ t.fget Reg.SYS_BOOT_MODE = 3)) = true) ∧
    (∃ (s : State), s.boot.held = .off ∧ s.boot.resetCause = none ∧ (∀ n, s.actEnabled n = false) ∧ s.retractRuns = false ∧
      ends (exec .clockLoss s) (fun t => decide (t.boot.held = .clock ∧ t.fget Reg.SYS_BOOT_CAUSE = 4)) = true) ∧
    (∃ (s : State) (env : StartUp), s.boot.held = .clock ∧ s.boot.resetCause = none ∧ s.activeGen = none ∧ ends (exec
      (.referenceClockRestore env) s) (fun t => decide (t.boot.held = .off ∧ t.fget Reg.SYS_BOOT_MODE = 3)) = true) ∧
    (∃ (s : State) (rail : Fin 7), ends (exec (.railSequenceViolation rail) s) (fun t => decide (t.boot.held = .rails ∧
      t.fget ⟨Reg.PMU_SEQERR, if rail.val = 6 then 8 else rail.val, if rail.val = 6 then 8 else rail.val⟩ = 1)) = true) ∧
    (∃ (s : State), s.boot.resetCause = none ∧ ends (exec .vddaBelowRetractMin s) (fun t => decide (t.retractRuns = false))
      = true) :=
  ⟨⟨run, ⟨0, true, 12000, []⟩, false, by decide +kernel⟩,
   ⟨run, ⟨0, true, 12000, []⟩, 1000, by decide +kernel⟩,
   ⟨run.modBoot (fun b => { b with resetCause := some 3 }), ⟨0, true, 12000, []⟩, 2000, 3, by decide +kernel⟩,
   ⟨run, ⟨0, true, 12000, []⟩, 999, by decide +kernel⟩,
   ⟨at_ [(Reg.OWN_STATE_STATE, 1), (Reg.OWN_STATE_OWNER, 0)], .core 0, 0xC41F0001, by decide +kernel⟩,
   ⟨run, by decide +kernel⟩,
   ⟨run.modBoot (fun b => { b with held := .clock }), ⟨0, true, 12000, []⟩, by decide +kernel⟩,
   ⟨run, 6, by decide +kernel⟩,
   ⟨run.modPair 0 (fun p => { p with retract := 1, law := 7 }), by decide +kernel⟩⟩

/-- Witness for Obligations.AngleTimeBaseRuns, clause by clause. -/
theorem witness_AngleTimeBaseRuns :
    (∃ (s : State), s.boot.held = .off ∧ ends (exec .fabricCycleAdvance s) (fun t => decide (t.cycle = s.cycle + 1 ∧
      (s.atbState ≠ 1 → t.atb.gPrev = s.atb.g) ∧ (s.atbState = 0 → t.atb.g = (s.atb.g + s.freeRate) % s.revUnits) ∧
      (s.atbState = 2 ∨ s.atbState = 3 → ∃ d ∈ ([40000] : List Nat), t.atb.g = (s.atb.g + d) % s.revUnits ∧ (s.rd
      Reg.ATB_RATE).toNat ≤ d + (s.rd Reg.ATB_RATE).toNat / 4 ∧ d ≤ (s.rd Reg.ATB_RATE).toNat + (s.rd Reg.ATB_RATE).toNat /
      4))) = true) ∧
    (∃ (s : State), s.boot.held = .off ∧ s.atb.wrapped = true ∧ ends (exec .atbSpanEnd s) (fun t => decide (t.atb.wrapped =
      false ∧ t.atb.spanValid = false ∧ (s.atbState = 2 → s.atb.spanValid = false → s.atb.moved = false → t.atbState = 3 ∧
      t.fget Reg.ATB_EVT_STAT_HOLD = 1) ∧ (s.atbState = 3 → s.atb.spanValid = false → t.atbState = 3 ∧ t.atb.holdSpans =
      s.atb.holdSpans + 1))) = true) ∧
    (∃ (s : State), s.boot.held = .off ∧ s.atbState = 3 ∧ s.holdMax ≤ s.atb.holdSpans ∧ s.atb.moved = false ∧ ends (exec
      .holdoverExpiry s) (fun t => decide (t.atbState = 1 ∧ t.fget Reg.ATB_STATUS_VALID = 0 ∧ t.fget Reg.ATB_EVT_STAT_LOSS =
      1 ∧ t.atb.corrs = [] ∧ t.atb.backlog = 0)) = true) ∧
    (∃ (s : State) (n : _) (instant : _) (idx : _) (head : _) (cyl : _), s.boot.held = .off ∧ ends (exec (.pierDetection n
      instant idx head cyl) s) (fun t => decide ((t.atb.lanes.get n).head = some head ∧ (t.atb.lanes.get n).cyl = cyl ∧
      (t.atb.lanes.get n).detInSpan = true)) = true) :=
  ⟨⟨(at_ [(Reg.ATB_STATUS_STATE, 2)]).wr Reg.ATB_RATE 40000#32, by decide +kernel⟩,
   ⟨(at_ [(Reg.ATB_STATUS_STATE, 2)]).modAtb (fun a => { a with wrapped := true }), by decide +kernel⟩,
   ⟨(at_ [(Reg.ATB_STATUS_STATE, 3), (Reg.ATB_STATUS_VALID, 1)]).modAtb (fun a => { a with holdSpans := 5000 }), by decide +kernel⟩,
   ⟨run, 2, 70000, some 5, 25, 777, by decide +kernel⟩⟩

/-- Witness for Obligations.AngleTimeBaseRegisters, clause by clause. -/
theorem witness_AngleTimeBaseRegisters :
    (∃ (s : State) (m : Master), s.boot.held = .off ∧ ends (exec (.atbCtrlFree m) s) (fun t => decide (t.atbState = 0 ∧
      t.fget Reg.ATB_STATUS_VALID = 0 ∧ t.atb.corrs = [] ∧ t.atb.backlog = 0 ∧ t.rd Reg.ATB_RATE = BitVec.ofNat 32 s.freeRate
      ∧ t.atb.g = s.atb.g)) = true) ∧
    (∃ (s : State) (m : Master), s.boot.held = .off ∧ s.atbState = 0 ∧ s.atb.moved = false ∧ ends (exec (.atbCtrlAcq m) s)
      (fun t => decide (t.atbState = 1 ∧ t.fget Reg.ATB_STATUS_VALID = 0 ∧ t.rd Reg.ATB_RATE = s.rd Reg.ATB_RATE ∧ t.atb.g =
      s.atb.g)) = true) ∧
    (∃ (s : State) (m : Master), s.boot.held = .off ∧ s.atbState ≠ 0 ∧ ends (exec (.atbCtrlAcq m) s) (fun t => decide (t =
      s.settle)) = true) ∧
    (∃ (s : State) (m : Master) (mask : BitVec 4), s.boot.held = .off ∧ ends (exec (.disagreeClear m mask) s) (fun t =>
      decide (t.fget Reg.ATB_STATUS_DISAGREE = Nat.land (s.fget Reg.ATB_STATUS_DISAGREE) (15 - mask.toNat) ∧ (∀ n : Fin 4,
      mask.toNat.testBit n.val = true → (t.atb.lanes.get n).rejRow = 0) ∧ (∀ r ∈ keys s t, r ≠ Reg.ATB_STATUS → r ≠
      Reg.EVR_DROPQ → t.rd r = s.rd r))) = true) ∧
    (∃ (s : State) (m : Master) (w : Word), s.boot.held = .off ∧ s.fget Reg.ATB_LOCK_LOCK = 0 ∧ s.atbState = 0 ∧ 256 ≤
      w.toNat % 2048 ∧ w.toNat % 2048 ≤ 1024 ∧ ends (exec (.atbPiersWrite m w) s) (fun t => decide (t.piers = w.toNat % 2048
      ∧ (w.toNat % 2048 ≤ s.atb.g / 2 ^ 42 → t.atb.g = 0 ∧ t.atb.rev = s.atb.rev + 1) ∧ (s.atb.g / 2 ^ 42 < w.toNat % 2048 →
      t.atb.g = s.atb.g ∧ t.atb.rev = s.atb.rev) ∧ (∀ n : Fin 4, w.toNat % 2048 ≤ (s.rd (Reg.ATB_NOMn n)).toNat / 2 ^ 22 →
      t.rd (Reg.ATB_NOMn n) = 0#32) ∧ (∀ lane ∈ List.range 5, ∀ i ∈ List.range 2, w.toNat % 2048 ≤ (s.rd (trigBase lane
      i)).toNat / 2 ^ 22 → t.fget (trigArm lane i) = 0 ∧ t.fget (trigErr lane i) = 1))) = true) ∧
    (∃ (s : State) (m : Master) (w : Word), s.boot.held = .off ∧ s.fget Reg.ATB_LOCK_LOCK = 0 ∧ s.atbState ≠ 0 ∨ w.toNat %
      2048 < 256 ∨ 1024 < w.toNat % 2048 ∧ ends (exec (.atbPiersWrite m w) s) (fun t => decide (t = (s.note Reg.ATB_PIERS
      .notice).settle ∧ t.piers = s.piers)) = true) ∧
    (∃ (s : State) (m : Master) (w : Word), s.boot.held = .off ∧ s.fget Reg.ATB_LOCK_LOCK = 1 ∧ ends (exec (.atbPiersWrite m
      w) s) (fun t => decide (t = s.settle)) = true) ∧
    (∃ (s : State) (m : Master) (n : Fin 4) (w : Word), s.boot.held = .off ∧ s.fget Reg.ATB_LOCK_LOCK = 0 ∧ ends (exec
      (.atbOffsetTableWrite m (Reg.ATB_NOMn n) w) s) (fun t => decide (t.rd (Reg.ATB_NOMn n) = (if s.piers ≤ w.toNat / 2 ^ 22
      then s.rd (Reg.ATB_NOMn n) else w) ∧ (s.piers ≤ w.toNat / 2 ^ 22 → t = (s.note (Reg.ATB_NOMn n) .notice).settle))) =
      true) ∧
    (∃ (s : State) (m : Master) (h : Fin 40) (w : Word), s.boot.held = .off ∧ s.fget Reg.ATB_LOCK_LOCK = 0 ∧ ends (exec
      (.atbOffsetTableWrite m (Reg.ATB_HEADn h) w) s) (fun t => decide (t.rd (Reg.ATB_HEADn h) = (if offsetInRange w then w
      else s.rd (Reg.ATB_HEADn h)) ∧ (offsetInRange w = false → t = (s.note (Reg.ATB_HEADn h) .notice).settle))) = true) ∧
    (∃ (s : State) (m : Master) (k : Fin 2) (i : Fin 256) (w : Word), s.boot.held = .off ∧ s.fget Reg.ATB_LOCK_LOCK = 0 ∧
      ends (exec (.atbOffsetTableWrite m (Reg.ATB_SKEWn_i k i) w) s) (fun t => decide (t.rd (Reg.ATB_SKEWn_i k i) = (if
      offsetInRange w then w else s.rd (Reg.ATB_SKEWn_i k i)) ∧ (offsetInRange w = false → t = (s.note (Reg.ATB_SKEWn_i k i)
      .notice).settle))) = true) ∧
    (∃ (s : State) (m : Master) (a : Nat) (w : Word), s.boot.held = .off ∧ s.fget Reg.ATB_LOCK_LOCK = 1 ∧ ends (exec
      (.atbOffsetTableWrite m a w) s) (fun t => decide (t = s.settle)) = true) ∧
    (∃ (s : State) (m : Master) (w : Word), s.boot.held = .off ∧ s.isOwner m = true ∧ ends (exec (.atbSyncOffWrite m w) s)
      (fun t => decide (t.rd Reg.ATB_SYNC_OFF = (if s.piers ≤ w.toNat / 2 ^ 22 then s.rd Reg.ATB_SYNC_OFF else w) ∧ (s.piers
      ≤ w.toNat / 2 ^ 22 → t = (s.note Reg.ATB_SYNC_OFF .notice).settle))) = true) ∧
    (∃ (s : State) (m : Master) (w : Word), s.boot.held = .off ∧ s.isOwner m = false ∧ ends (exec (.atbSyncOffWrite m w) s)
      (fun t => decide (t = s.settle)) = true) ∧
    (∃ (s : State) (m : Master), s.boot.held = .off ∧ ends (exec (.atbAngleRead m) s) (fun t => decide (t.rd Reg.ATB_REV =
      BitVec.ofNat 32 s.atb.rev ∧ t.out = .regRead (BitVec.ofNat 32 s.angleG) :: s.out)) = true) :=
  ⟨⟨(at_ [(Reg.ATB_STATUS_STATE, 2)]).modAtb (fun a => { a with backlog := 7 }), .core 0, by decide +kernel⟩,
   ⟨run, .core 0, by decide +kernel⟩,
   ⟨at_ [(Reg.ATB_STATUS_STATE, 2)], .core 0, by decide +kernel⟩,
   ⟨(at_ [(Reg.ATB_STATUS_DISAGREE, 15)]).modAtbLane 1 (fun l => { l with rejRow := 8 }), .core 0, 2, by decide +kernel⟩,
   ⟨(run.wr (Reg.ATB_NOMn 2) 0xA0000000#32).modAtb (fun a => { a with g := 600 * 2 ^ 42, rev := 7 }), .core 0, 512, by decide +kernel⟩,
   ⟨at_ [(Reg.ATB_STATUS_STATE, 2)], .core 0, 512, by decide +kernel⟩,
   ⟨at_ [(Reg.ATB_LOCK_LOCK, 1)], .core 0, 512, by decide +kernel⟩,
   ⟨run, .core 0, 1, 0x12345, by decide +kernel⟩,
   ⟨run, .core 0, 39, 0xFF800000, by decide +kernel⟩,
   ⟨run, .core 0, 1, 255, 0x00800000, by decide +kernel⟩,
   ⟨at_ [(Reg.ATB_LOCK_LOCK, 1)], .core 0, Reg.ATB_HEADn 3, 5, by decide +kernel⟩,
   ⟨at_ [(Reg.OWN_STATE_STATE, 1), (Reg.OWN_STATE_OWNER, 0)], .core 0, 0x00C00005, by decide +kernel⟩,
   ⟨at_ [(Reg.OWN_STATE_STATE, 1), (Reg.OWN_STATE_OWNER, 3)], .host 0, 0x00C00005, by decide +kernel⟩,
   ⟨run.modAtb (fun a => { a with g := 600 * 2 ^ 42 + 12345678, rev := 7 }), .core 0, by decide +kernel⟩⟩

/-- Witness for Obligations.AngleTriggers, clause by clause. -/
theorem witness_AngleTriggers :
    (∃ (s : State) (m : Master) (n : Fin 5) (i : Nat) (w : Word), s.boot.held = .off ∧ i < trigCount n.val ∧ s.fbit (trigArm
      n.val i) = false ∧ w.toNat / 2 ^ 22 < s.piers ∧ ends (exec (.triggerAngleWrite m n i w) s) (fun t => decide (t.rd
      (trigBase n.val i) = w)) = true) ∧
    (∃ (s : State) (m : Master) (n : Fin 5) (i : Nat) (w : Word), s.boot.held = .off ∧ i < trigCount n.val ∧ s.fbit (trigArm
      n.val i) = true ∧ ends (exec (.triggerAngleWrite m n i w) s) (fun t => decide (t.rd (trigBase n.val i) = s.rd (trigBase
      n.val i) ∧ t.fget (trigErr n.val i) = 1 ∧ t.fget Reg.ATB_EVT_STAT_TRIG_ERR = 1)) = true) ∧
    (∃ (s : State) (m : Master) (n : Fin 5) (i : Nat) (w : Word), s.boot.held = .off ∧ i < trigCount n.val ∧ bitsOf w.toNat
      2 1 = 3 ∧ ends (exec (.triggerCtrlWrite m n i w) s) (fun t => decide (t.rd (trigBase n.val i + 4) = s.rd (trigBase
      n.val i + 4) ∧ t.fget (trigErr n.val i) = 1)) = true) ∧
    (∃ (s : State) (m : Master) (n : Fin 5) (i : Nat) (w : Word), s.boot.held = .off ∧ i < trigCount n.val ∧ bitsOf w.toNat
      2 1 ≠ 3 ∧ bitsOf w.toNat 7 4 ≤ 3 ∧ w.getLsbD 0 = true ∧ ends (exec (.triggerCtrlWrite m n i w) s) (fun t => decide
      (t.fget (trigArm n.val i) = 1 ∧ t.fget (trigFired n.val i) = 0 ∧ t.fget (trigLate n.val i) = 0 ∧ t.fget (trigRemain
      n.val i) = bitsOf w.toNat 23 16)) = true) ∧
    (∃ (s : State) (n : Fin 5) (i : Nat), s.boot.held = .off ∧ i < trigCount n.val ∧ s.atb.lateDue = [] ∧ s.atb.written = []
      ∧ s.fbit (trigArm n.val i) = true ∧ 2 * angleFwd s.piers (s.crossOf n.val).1 (s.crossOf n.val).2 ≤ revLen s.piers ∧
      s.trigReached n.val i (s.crossOf n.val).1 (angleFwd s.piers (s.crossOf n.val).1 (s.crossOf n.val).2) = true ∧ (n.val,
      i) ∉ s.atb.hit ∧ s.fget (trigMode n.val i) < 2 ∧ s.fget (trigRemain n.val i) ≠ 0 ∧ ends (exec (.triggerFire n i) s)
      (fun t => decide (t.fget (trigRemain n.val i) = s.fget (trigRemain n.val i) - 1 ∧ t.fget (trigArm n.val i) = 1)) = true) ∧
    (∃ (s : State) (n : Fin 5) (i : Nat), s.boot.held = .off ∧ i < trigCount n.val ∧ s.atb.written = [] ∧ s.fbit (trigArm
      n.val i) = true ∧ s.atb.lateDue.any (fun x => decide (x.1 = n.val) && decide (x.2.1 = i) && decide (x.2.2 < s.cycle)) =
      true ∧ s.fget (trigMode n.val i) = 0 ∧ s.fget (trigRemain n.val i) = 0 ∧ ends (exec (.triggerFire n i) s) (fun t =>
      decide (t.fget (trigArm n.val i) = 0 ∧ t.fget (trigFired n.val i) = 1 ∧ t.fget (trigLate n.val i) = 1)) = true) ∧
    (∃ (s : State) (pin : _), s.boot.held = .off ∧ ends (exec (.gpioPulseEnd pin) s) (fun t => decide (∀ x ∈
      t.atb.gpioPulse, x.1 = pin → s.cycle < x.2 + 64)) = true) ∧
    (∃ (s : State), s.boot.held = .off ∧ s.vchSync = 4 ∧ s.syncCrossed = true ∧ (5, 0) ∉ s.atb.hit ∧ ends (exec .vsyncEmit
      s) (fun t => decide (t.chain.emitted = s.chain.emitted + 1 ∧ (s.linkUp false = true → t.out = .vsyncDn :: s.out))) =
      true) :=
  ⟨⟨run, .core 0, 4, 1, 0x00C00005, by decide +kernel⟩,
   ⟨at_ [(trigArm 4 1, 1)], .core 0, 4, 1, 0x00C00005, by decide +kernel⟩,
   ⟨run, .core 0, 4, 1, 7, by decide +kernel⟩,
   ⟨run, .core 0, 4, 1, 0x00070013, by decide +kernel⟩,
   ⟨((at_ [(trigArm 4 1, 1), (trigRemain 4 1, 3)]).wr (trigBase 4 1) 0x400E70).modAtb (fun a => { a with cross := [(0, 0), (0, 0), (0, 0), (0, 0), (0x400E60, 0x400E80)] }), 4, 1, by decide +kernel⟩,
   ⟨(at_ [(trigArm 4 1, 1)]).modAtb (fun a => { a with lateDue := [(4, 1, 17)] }), 4, 1, by decide +kernel⟩,
   ⟨run.modAtb (fun a => { a with gpioPulse := [(3, 17), (5, 4999990)] }), 3, by decide +kernel⟩,
   ⟨(at_ [(Reg.VCH_STATUS_SYNC, 4), (Reg.VCH_STATUS_DNLINK, 1), (Reg.ATB_STATUS_STATE, 2)]).modAtb (fun a => { a with g := 2 ^ 30, gPrev := 896 * 2 ^ 42 - 2 ^ 30 }), by decide +kernel⟩⟩

/-- Witness for Obligations.DoorbellsFetchAdmission, clause by clause. -/
theorem witness_DoorbellsFetchAdmission :
    (∃ (s : State) (m : Fin 2) (qid : _) (v : _) (q : Sq), s.boot.held = .off ∧ s.sq m qid = some q ∧ qid ≤ 1024 ∧ v < 65536
      ∧ v < q.size ∧ ends (exec (.sqTailDoorbell m (0x1000 + 8 * qid) (.write v)) s) (fun t => decide (t.sq m qid = some
      { q with tail := v })) = true) ∧
    (∃ (s : State) (m : Fin 2) (qid : _) (v : _) (q : Sq), s.boot.held = .off ∧ s.sq m qid = some q ∧ qid ≤ 1024 ∧ v < 65536
      ∧ q.size ≤ v ∧ ends (exec (.sqTailDoorbell m (0x1000 + 8 * qid) (.write v)) s) (fun t => decide (t = (s.asyncEvent m 0
      1 1).settle)) = true) ∧
    (∃ (s : State) (m : Fin 2) (qid : _) (v : _), s.boot.held = .off ∧ s.sq m qid = none ∧ qid ≤ 1024 ∧ ends (exec
      (.sqTailDoorbell m (0x1000 + 8 * qid) (.write v)) s) (fun t => decide (t = (s.asyncEvent m 0 0 1).settle)) = true) ∧
    (∃ (s : State) (m : Fin 2) (qid : _) (v : _) (q : Cq), s.boot.held = .off ∧ s.cq m qid = some q ∧ qid ≤ 1024 ∧ v < 65536
      ∧ v < q.size ∧ (v + q.size - q.head) % q.size ≤ q.used ∧ ends (exec (.cqHeadDoorbell m (0x1004 + 8 * qid) (.write v))
      s) (fun t => decide (t.cq m qid = some { q with head := v })) = true) ∧
    (∃ (s : State) (m : Fin 2) (qid : _) (v : _) (q : Cq), s.boot.held = .off ∧ s.cq m qid = some q ∧ qid ≤ 1024 ∧ v < 65536
      ∧ q.size ≤ v ∨ q.used < (v + q.size - q.head) % q.size ∧ ends (exec (.cqHeadDoorbell m (0x1004 + 8 * qid) (.write v))
      s) (fun t => decide (t = (s.asyncEvent m 0 1 1).settle)) = true) ∧
    (∃ (s : State) (m : Fin 2) (qid : _) (v : _), s.boot.held = .off ∧ s.cq m qid = none ∧ qid ≤ 1024 ∧ ends (exec
      (.cqHeadDoorbell m (0x1004 + 8 * qid) (.write v)) s) (fun t => decide (t = (s.asyncEvent m 0 0 1).settle)) = true) ∧
    (∃ (s : State) (m : Fin 2) (qid : _), s.boot.held = .off ∧ qid ≤ 1024 ∧ ends (exec (.sqTailDoorbell m (0x1000 + 8 * qid)
      .read) s) (fun t => decide (t.out = .barRead m (0x1000 + 8 * qid) 0#32 :: s.out)) = true) ∧
    (∃ (s : State) (m : Fin 2) (qid : _), s.boot.held = .off ∧ qid ≤ 1024 ∧ ends (exec (.cqHeadDoorbell m (0x1004 + 8 * qid)
      .read) s) (fun t => decide (t.out = .barRead m (0x1004 + 8 * qid) 0#32 :: s.out)) = true) ∧
    (∃ (s : State) (m : Fin 2) (off : _) (v : _), s.boot.held = .off ∧ 0x3008 ≤ off ∧ off < 0x20000 ∧ ends (exec
      (.msixUnmask m off (.write v)) s) (fun t => decide (t = s.settle)) = true) ∧
    (∃ (s : State) (m : Fin 2) (off : _), s.boot.held = .off ∧ 0x3008 ≤ off ∧ off < 0x20000 ∧ ends (exec (.msixUnmask m off
      .read) s) (fun t => decide (t.out = .barRead m off 0#32 :: s.out)) = true) ∧
    (∃ (s : State) (m : Fin 2) (qid : _) (e : _) (q : Sq), s.boot.held = .off ∧ s.sq m qid = some q ∧ s.mayFetch q = true ∧
      s.turnOk q = true ∧ ends (exec (.commandFetch m qid e) s) (fun t => decide (t.host.nextArr = s.host.nextArr + 1 ∧ t.sq
      m qid = some { q with head := (q.head + 1) % q.size } ∧ ∃ c ∈ t.host.ctxs, c.arr = s.host.nextArr ∧ c.ctrl = m ∧ c.sqid
      = qid ∧ c.sqe = e ∧ c.prio = s.mediaPrio q)) = true) ∧
    (∃ (s : State) (c : Ctx) (ranges : _), s.boot.held = .off ∧ s.nextAdmit = some c ∧ s.ctx c.arr = some c ∧ s.admitCheck c
      ranges = none ∧ c.writes = false ∧ s.rltUsed + (s.locksOf c ranges).length ≤ 8192 ∧ ends (exec (.rltAdmission ranges)
      s) (fun t => decide (t.ctx c.arr = some ((t.ctx c.arr).getD (waiting 0)) ∧ ((t.ctx c.arr).getD (waiting 0)).admitted =
      true ∧ ((t.ctx c.arr).getD (waiting 0)).locks = s.locksOf c ranges ∧ ((t.ctx c.arr).getD (waiting 0)).status = none)) =
      true) ∧
    (∃ (s : State) (c : Ctx) (ranges : _), s.boot.held = .off ∧ s.nextAdmit = some c ∧ s.ctx c.arr = some c ∧ s.admitCheck c
      ranges = none ∧ c.writes = false ∧ 8192 < s.rltUsed + (s.locksOf c ranges).length ∧ s.host.stallRlt = false ∧ ends
      (exec (.rltAdmission ranges) s) (fun t => decide (t.host.stallRlt = true ∧ t.ctx c.arr = some c)) = true) ∧
    (∃ (s : State) (c : Ctx) (ranges : _) (st : _), s.boot.held = .off ∧ s.nextAdmit = some c ∧ s.ctx c.arr = some c ∧
      s.admitCheck c ranges = some st ∧ s.recov.stopped = false ∧ ends (exec (.rltAdmission ranges) s) (fun t => decide
      (t.statusOf c.arr = some st)) = true) :=
  ⟨⟨hosted [], 0, 3, 9, ⟨0, 3, 16, 2, 5, 3, 0⟩, by decide +kernel⟩,
   ⟨hosted [], 0, 3, 16, ⟨0, 3, 16, 2, 5, 3, 0⟩, by decide +kernel⟩,
   ⟨hosted [], 0, 1024, 4, by decide +kernel⟩,
   ⟨hosted [], 0, 3, 4, ⟨0, 3, 16, 2, 5, true, 4, true⟩, by decide +kernel⟩,
   ⟨hosted [], 0, 3, 16, ⟨0, 3, 16, 2, 5, true, 4, true⟩, by decide +kernel⟩,
   ⟨hosted [], 0, 4, 4, by decide +kernel⟩,
   ⟨hosted [], 0, 1024, by decide +kernel⟩,
   ⟨hosted [], 0, 1024, by decide +kernel⟩,
   ⟨hosted [], 0, 0x3008, 77, by decide +kernel⟩,
   ⟨hosted [], 0, 0x1FFFC, by decide +kernel⟩,
   ⟨fetching, 0, 0, sqe 0x06 0 [], ⟨0, 0, 16, 2, 5, 0, 0⟩, by decide +kernel⟩,
   ⟨admitting 0x02, waiting 0x02, [], by decide +kernel⟩,
   ⟨(admitting 0x02).modHost (fun h => { h with ctxs := h.ctxs ++ [{ waiting 0x02 with arr := 4, sqid := 2, admitted := true, rlt := 8192 }] }), waiting 0x02, [], by decide +kernel⟩,
   ⟨admitting 0x33, waiting 0x33, [], St.invalidOpcode, by decide +kernel⟩⟩

/-- Witness for Obligations.LockAndTailGrants, clause by clause. -/
theorem witness_LockAndTailGrants :
    (∃ (s : State) (a : Nat) (c : Ctx), s.boot.held = .off ∧ s.recov.stopped = false ∧ s.ctx a = some c ∧ c.admitted = true
      ∧ c.granted = false ∧ c.locks ≠ [] ∧ c.status = none ∧ s.lockWaits c = false ∧ s.awaitsTcg c = false ∧ (c.isAdmin =
      false → (s.nsFor c).isSome = true) ∧ s.deniedBy c = false ∧ ends (exec (.lockGrant a) s) (fun t => decide (t.ctx a =
      some { c with granted := true })) = true) ∧
    (∃ (s : State) (a : Nat) (c : Ctx), s.boot.held = .off ∧ s.recov.stopped = false ∧ s.ctx a = some c ∧ c.admitted = true
      ∧ c.granted = false ∧ c.locks ≠ [] ∧ c.status = none ∧ s.lockWaits c = false ∧ s.awaitsTcg c = false ∧ (c.isAdmin =
      false → (s.nsFor c).isSome = true) ∧ s.deniedBy c = true ∧ ends (exec (.lockGrant a) s) (fun t => decide (t.statusOf a
      = some St.accessDenied)) = true) ∧
    (∃ (s : State) (a : Nat) (c : Ctx), s.boot.held = .off ∧ s.recov.stopped = false ∧ s.ctx a = some c ∧ s.lockWaits c =
      true ∧ ends (exec (.lockGrant a) s) (fun t => decide (t.ctx a = some c)) = true) ∧
    (∃ (s : State) (a : Nat) (c : Ctx) (z : _) (n : Ns) (band : _) (b : _), s.boot.held = .off ∧ s.recov.stopped = false ∧
      s.ctx a = some c ∧ c.zone = some z ∧ s.nspace c.sqe.nsid = some n ∧ c.tail = false ∧ c.status = none ∧ s.tailBusy c =
      false ∧ (s.nsFor c).isSome = true ∧ c.io 0x7D = true ∧ s.writeCheck n z c.sqe.slba c.sqe.nlb true = none ∧ (n.zone
      z).band = some b ∧ (n.zone z).open? = true ∧ ends (exec (.zoneTailGrant a band) s) (fun t => decide (t.ctx a = some
      (((t.ctx a).getD appending)) ∧ (((t.ctx a).getD appending)).tail = true ∧ (((t.ctx a).getD appending)).slba = z *
      zoneLbas + (n.zone z).wp ∧ (((t.ctx a).getD appending)).locks = [⟨n.nsid, z * zoneLbas + (n.zone z).wp, z * zoneLbas +
      (n.zone z).wp + c.sqe.nlb, true, false⟩])) = true) ∧
    (∃ (s : State) (a : Nat) (c : Ctx) (z : _) (n : Ns) (band : _) (st : _), s.boot.held = .off ∧ s.recov.stopped = false ∧
      s.ctx a = some c ∧ c.zone = some z ∧ s.nspace c.sqe.nsid = some n ∧ c.tail = false ∧ c.status = none ∧ s.tailBusy c =
      false ∧ (s.nsFor c).isSome = true ∧ c.io 0x01 = true ∧ s.writeCheck n z c.sqe.slba c.sqe.nlb false = some st ∧ ends
      (exec (.zoneTailGrant a band) s) (fun t => decide (t.statusOf a = some st)) = true) :=
  ⟨⟨hostedWith { fetched 3 (sqe 0x02 1 []) with admitted := true, locks := [⟨1, 0, 1, false, false⟩] } [], 5, { fetched 3 (sqe 0x02 1 []) with admitted := true, locks := [⟨1, 0, 1, false, false⟩] }, by decide +kernel⟩,
   ⟨{ hostedWith { fetched 3 (sqe 0x02 1 []) with admitted := true, locks := [⟨1, 0, 1, false, false⟩] } [] with xts := { XtsSt.reset with rows := [(0, ⟨1, 0, 8, true, true, true, true⟩)] } }, 5, { fetched 3 (sqe 0x02 1 []) with admitted := true, locks := [⟨1, 0, 1, false, false⟩] }, by decide +kernel⟩,
   ⟨(hostedWith { fetched 3 (sqe 0x02 1 []) with admitted := true, locks := [⟨1, 0, 1, false, false⟩] } []).modHost (fun h => { h with ctxs := { waiting 0x01 with arr := 4, admitted := true, locks := [⟨1, 0, 1, true, false⟩] } :: h.ctxs }), 5, { fetched 3 (sqe 0x02 1 []) with admitted := true, locks := [⟨1, 0, 1, false, false⟩] }, by decide +kernel⟩,
   ⟨zoned appending .explOpen, 5, appending, 2, nsz .explOpen, none, (0, 0, 0), by decide +kernel⟩,
   ⟨zoned { appending with sqe := sqe 0x01 1 [3 * 65536 + 6] } .full, 5, { appending with sqe := sqe 0x01 1 [3 * 65536 + 6] }, 2, nsz .full, none, St.zoneFull, by decide +kernel⟩⟩

/-- Witness for Obligations.CompletionsAndMessages, clause by clause. -/
theorem witness_CompletionsAndMessages :
    (∃ (s : State) (a : _) (c : Ctx) (st : _) (q : Cq), s.boot.held = .off ∧ s.ctx a = some c ∧ c.status = some st ∧
      s.deleteWaits c = false ∧ c.smbus = false ∧ s.cq c.ctrl c.cqid = some q ∧ s.hostReach c.ctrl = true ∧ ends (exec
      (.completionPost a) s) (fun t => decide (t.ctx a = none ∧ .cqe c.ctrl c.cqid q.tail q.phase c.sqid 2 c.sqe.cid st c.dw0
      c.dw1 ∈ t.out)) = true) ∧
    (∃ (s : State) (a : _) (c : Ctx) (st : _) (q : Cq), s.boot.held = .off ∧ s.ctx a = some c ∧ c.status = some st ∧
      s.deleteWaits c = false ∧ c.smbus = false ∧ s.cq c.ctrl c.cqid = some q ∧ s.hostReach c.ctrl = false ∧ ends (exec
      (.completionPost a) s) (fun t => decide (t.ctx a = none ∧ t.out = s.out ∧ (t.rd Reg.HQE_CQ_LOST).toNat = min ((s.rd
      Reg.HQE_CQ_LOST).toNat + 1) 0xFFFFFFFF)) = true) ∧
    (∃ (s : State) (m : Fin 2) (v : _), s.boot.held = .off ∧ v < s.vectors ∧ ends (exec (.msixUnmask m (0x20000 + 16 * v +
      12) (.write 1)) s) (fun t => decide (v ∉ (t.ctrl m).unmasked)) = true) ∧
    (∃ (s : State) (m : Fin 2) (v : _), s.boot.held = .off ∧ v < s.vectors ∧ (s.ctrl m).pendVec.contains v = true ∧ s.fbit
      (Reg.HPXn_FUNC_MSIXEN m) = true ∧ s.fbit (Reg.HPXn_FUNC_MSIXMASK m) = false ∧ s.hostReach m = true ∧ ends (exec
      (.msixUnmask m (0x20000 + 16 * v + 12) (.write 0)) s) (fun t => decide (v ∈ (t.ctrl m).unmasked ∧ v ∉ (t.ctrl
      m).pendVec ∧ t.out = .msix m v (s.msixWord m (4 * v) + s.msixWord m (4 * v + 1) * 2 ^ 32) (s.msixWord m (4 * v + 2)) ::
      s.out)) = true) ∧
    (∃ (s : State) (m : Fin 2) (v : _) (k : _) (w : Nat), s.boot.held = .off ∧ v < s.vectors ∧ k < 3 ∧ ends (exec
      (.msixUnmask m (0x20000 + 16 * v + 4 * k) (.write w)) s) (fun t => decide (t.msixWord m (4 * v + k) = w % 2 ^ 32)) =
      true) ∧
    (∃ (s : State) (m : Fin 2) (v : _), s.boot.held = .off ∧ (s.ctrl m).unsig.any (fun u => decide (u.1 = v) && decide
      (u.2.2 + (s.ctrl m).coalTime * 10 ^ 5 ≤ s.cycle)) = true ∧ s.fbit (Reg.HPXn_FUNC_MSIXEN m) = true ∧ s.fbit
      (Reg.HPXn_FUNC_MSIXMASK m) = false ∧ (s.ctrl m).unmasked.contains v = true ∧ s.hostReach m = true ∧ ends (exec
      (.coalesceTimerExpiry m v) s) (fun t => decide (t.out = .msix m v (s.msixWord m (4 * v) + s.msixWord m (4 * v + 1) * 2
      ^ 32) (s.msixWord m (4 * v + 2)) :: s.out ∧ ∀ u ∈ (t.ctrl m).unsig, u.1 ≠ v)) = true) :=
  ⟨⟨hostedWith finished [], 5, finished, St.success, ⟨0, 3, 16, 2, 5, true, 4, true⟩, by decide +kernel⟩,
   ⟨hostedWith finished [(Reg.HPXn_LINK_UP 0, 0)], 5, finished, St.success, ⟨0, 3, 16, 2, 5, true, 4, true⟩, by decide +kernel⟩,
   ⟨(hosted []).modHost (fun h => { h with ctrls := h.ctrls.modify 0 (fun k => { k with unmasked := [4] }) }), 0, 4, by decide +kernel⟩,
   ⟨(hosted []).modHost (fun h => { h with ctrls := h.ctrls.modify 0 (fun k => { k with pendVec := [4] }) }), 0, 4, by decide +kernel⟩,
   ⟨hosted [], 0, 4, 2, 0x100000005, by decide +kernel⟩,
   ⟨(hosted []).modHost (fun h => { h with ctrls := h.ctrls.modify 0 (fun k => { k with unmasked := [4], unsig := [(4, 2, 17)] }) }), 0, 4, by decide +kernel⟩⟩

/-- Witness for Obligations.ControllerLife, clause by clause. -/
theorem witness_ControllerLife :
    (∃ (s : State) (m : Fin 2) (css : _) (mps : _) (ams : _) (iosqes : _) (iocqes : _) (asqs : _) (acqs : _) (asq : _) (acq
      : _), s.boot.held = .off ∧ s.hpxOn = true ∧ s.portOn m = true ∧ (s.ctrl m).en = false ∧ (s.ctrl m).resetWait = false ∧
      (css = 0 ∨ css = 6) ∧ mps ≤ 4 ∧ ams ≤ 1 ∧ ends (exec (.ccEnable m css mps ams iosqes iocqes asqs acqs asq acq) s) (fun
      t => decide ((t.ctrl m).en = true ∧ (t.ctrl m).rdy = true ∧ (t.ctrl m).css = css ∧ ⟨m, 0, asqs + 1, 0, 0, 0, 0⟩ ∈
      t.host.sqs ∧ ⟨m, 0, acqs + 1, 0, 0, true, 0, true⟩ ∈ t.host.cqs)) = true) ∧
    (∃ (s : State) (m : Fin 2) (css : _) (mps : _) (ams : _) (iosqes : _) (iocqes : _) (asqs : _) (acqs : _) (asq : _) (acq
      : _), s.boot.held = .off ∧ s.hpxOn = true ∧ s.portOn m = true ∧ (s.ctrl m).en = false ∧ (s.ctrl m).resetWait = false ∧
      4 < mps ∧ ends (exec (.ccEnable m css mps ams iosqes iocqes asqs acqs asq acq) s) (fun t => decide ((t.ctrl m).rdy =
      false ∧ t.host.sqs = s.host.sqs)) = true) ∧
    (∃ (s : State) (m : Fin 2), s.boot.held = .off ∧ (s.ctrl m).en = true ∧ ends (exec (.controllerReset m) s) (fun t =>
      decide ((t.ctrl m).en = false)) = true) ∧
    (∃ (s : State) (m : Fin 2), s.boot.held = .off ∧ (s.ctrl m).en = true ∧ s.host.ctxs = [] ∧ ends (exec (.controllerReset
      m) s) (fun t => decide ((t.ctrl m).rdy = false ∧ (∀ q ∈ t.host.sqs, q.ctrl ≠ m) ∧ (∀ q ∈ t.host.cqs, q.ctrl ≠ m))) =
      true) ∧
    (∃ (s : State) (m : Fin 2), s.boot.held = .off ∧ (s.ctrl m).en = true ∧ ends (exec (.normalShutdown m) s) (fun t =>
      decide ((t.ctrl m).shn = 1 ∧ (t.ctrl m).shst = 1)) = true) ∧
    (∃ (s : State) (m : Fin 2), s.boot.held = .off ∧ (s.ctrl m).en = true ∧ ends (exec (.abruptShutdown m) s) (fun t =>
      decide ((t.ctrl m).shn = 2 ∧ (t.ctrl m).shst = 1)) = true) ∧
    (∃ (s : State) (m : Fin 2), s.boot.held = .off ∧ (s.ctrl m).shst = 1 ∧ s.busyCmds m = false ∧ ((s.ctrl m).shn = 1 →
      s.dirtyCount = 0 ∧ (s.otherDown m = true → s.allUnloaded = true)) ∧ ((s.ctrl m).shn = 2 → s.destaging = []) ∧ ends
      (exec (.shutdownComplete m) s) (fun t => decide ((t.ctrl m).shst = 2 ∧ (∀ q ∈ t.host.sqs, q.ctrl = m → q.qid = 0))) =
      true) :=
  ⟨⟨at_ [], 0, 6, 0, 1, 6, 4, 15, 15, 0x1000, 0x2000, by decide +kernel⟩,
   ⟨at_ [], 0, 6, 5, 1, 6, 4, 15, 15, 0x1000, 0x2000, by decide +kernel⟩,
   ⟨hostedWith finished [], 0, by decide +kernel⟩,
   ⟨hosted [], 0, by decide +kernel⟩,
   ⟨hosted [], 0, by decide +kernel⟩,
   ⟨hosted [], 0, by decide +kernel⟩,
   ⟨(hosted []).modHost (fun h => { h with ctrls := h.ctrls.modify 0 (fun k => { k with shn := 1, shst := 1 }) }), 0, by decide +kernel⟩⟩

/-- Witness for Obligations.PortEvents, clause by clause. -/
theorem witness_PortEvents :
    (∃ (s : State) (m : Fin 2), s.boot.held = .off ∧ s.portOn m = true ∧ ends (exec (.functionLevelReset m) s) (fun t =>
      decide ((t.ctrl m).en = false ∧ t.rd (Reg.HPXn_FUNC m) = 0#32 ∧ t.fget (Reg.HPXn_EVT_STAT_FLR m) = 1)) = true) ∧
    (∃ (s : State) (m : Fin 2) (held : _), s.boot.held = .off ∧ s.portOn m = true ∧ 1000 ≤ held ∧ ends (exec (.perstAssert m
      held) s) (fun t => decide ((t.ctrl m).en = false ∧ t.fget (Reg.HPXn_LINK_PERST m) = 1 ∧ t.fget (Reg.HPXn_LINK_UP m) =
      0)) = true) ∧
    (∃ (s : State) (m : Fin 2) (held : _), s.boot.held = .off ∧ s.portOn m = true ∧ 1000 ≤ held ∧ ends (exec (.perstDeassert
      m held) s) (fun t => decide (t.fget (Reg.HPXn_LINK_PERST m) = 0)) = true) ∧
    (∃ (s : State) (m : Fin 2) (held : _), s.boot.held = .off ∧ s.portOn m = true ∧ held < 1000 ∧ ends (exec (.perstAssert m
      held) s) (fun t => decide (t = s.settle)) = true) ∧
    (∃ (s : State) (m : Fin 2) (held : _), s.boot.held = .off ∧ s.portOn m = true ∧ held < 1000 ∧ ends (exec (.perstDeassert
      m held) s) (fun t => decide (t = s.settle)) = true) ∧
    (∃ (s : State) (m : Fin 2), s.boot.held = .off ∧ s.portOn m = true ∧ s.fbit (Reg.HPXn_LINK_UP m) = true ∧ ends (exec
      (.pcieLinkDown m) s) (fun t => decide (t.fget (Reg.HPXn_LINK_UP m) = 0 ∧ (t.ctrl m).en = false)) = true) ∧
    (∃ (s : State) (m : Fin 2) (pstate : _) (rate : _) (width : _) (reversed : _) (recov : _), s.boot.held = .off ∧ s.portOn
      m = true ∧ s.hpxOn = true ∧ s.fbit (Reg.HPXn_LINK_PERST m) = false ∧ s.linkOk rate width = true ∧ ends (exec
      (.pcieLinkChange m pstate rate width reversed recov) s) (fun t => decide (t.fget (Reg.HPXn_LINK_UP m) = 1 ∧ t.fget
      (Reg.HPXn_LINK_RATE m) = rate ∧ t.fget (Reg.HPXn_LINK_WIDTH m) = width)) = true) ∧
    (∃ (s : State) (m : Fin 2) (header : _) (arr : _), s.boot.held = .off ∧ s.portOn m = true ∧ ends (exec (.pcieErrorLogged
      m 0 header arr) s) (fun t => decide (t.fget (Reg.HPXn_EVT_STAT_CE m) = 1 ∧ (t.rd (Reg.HPXn_CE m)).toNat = min ((s.rd
      (Reg.HPXn_CE m)).toNat + 1) 0xFFFFFFFF)) = true) ∧
    (∃ (s : State) (m : Fin 2) (header : _) (arr : _), s.boot.held = .off ∧ s.portOn m = true ∧ ends (exec (.pcieErrorLogged
      m 1 header arr) s) (fun t => decide (t.fget (Reg.HPXn_EVT_STAT_NFE m) = 1 ∧ (t.rd (Reg.HPXn_NFE m)).toNat = min ((s.rd
      (Reg.HPXn_NFE m)).toNat + 1) 0xFFFFFFFF)) = true) ∧
    (∃ (s : State) (m : Fin 2) (header : _) (arr : _), s.boot.held = .off ∧ s.portOn m = true ∧ ends (exec (.pcieErrorLogged
      m 2 header arr) s) (fun t => decide (t.fget (Reg.HPXn_EVT_STAT_FE m) = 1 ∧ (t.rd (Reg.HPXn_FE m)).toNat = min ((s.rd
      (Reg.HPXn_FE m)).toNat + 1) 0xFFFFFFFF)) = true) ∧
    (∃ (s : State) (m : Fin 2) (d3 : _), s.boot.held = .off ∧ s.portOn m = true ∧ ends (exec (.dStateChange m d3) s) (fun t
      => decide (t.fget (Reg.HPXn_FUNC_DSTATE m) = if d3 then 3 else 0)) = true) ∧
    (∃ (s : State) (m : Fin 2) (msixen : _) (fmask : _) (bme : _), s.boot.held = .off ∧ s.portOn m = true ∧ ends (exec
      (.pcieConfigWrite m (.control msixen fmask bme)) s) (fun t => decide (t.fbit (Reg.HPXn_FUNC_MSIXEN m) = msixen ∧ t.fbit
      (Reg.HPXn_FUNC_MSIXMASK m) = fmask ∧ t.fbit (Reg.HPXn_FUNC_BME m) = bme)) = true) ∧
    (∃ (s : State) (m : Fin 2) (mps : _) (mrrs : _), s.boot.held = .off ∧ s.portOn m = true ∧ mps ≤ 2 ∧ mrrs ≤ 5 ∧ ends
      (exec (.pcieConfigWrite m (.device mps mrrs)) s) (fun t => decide ((t.host.cfg.get m).mps = mps ∧ (t.host.cfg.get
      m).mrrs = mrrs)) = true) ∧
    (∃ (s : State) (m : Fin 2) (off : _), s.boot.held = .off ∧ s.portOn m = true ∧ ends (exec (.pcieConfigWrite m (.read
      off)) s) (fun t => decide (t.out = .configRead m off (BitVec.ofNat 32 (s.configWord off)) :: s.out)) = true) :=
  ⟨⟨hosted [(Reg.HPXn_CE 0 |> fun a => (⟨a, 31, 0⟩ : Fld), 9)], 0, by decide +kernel⟩,
   ⟨hosted [(Reg.HPXn_CE 0 |> fun a => (⟨a, 31, 0⟩ : Fld), 9)], 0, 1000, by decide +kernel⟩,
   ⟨hosted [(Reg.HPXn_LINK_PERST 0, 1)], 0, 1000, by decide +kernel⟩,
   ⟨hosted [(Reg.HPXn_CE 0 |> fun a => (⟨a, 31, 0⟩ : Fld), 9)], 0, 999, by decide +kernel⟩,
   ⟨hosted [(Reg.HPXn_CE 0 |> fun a => (⟨a, 31, 0⟩ : Fld), 9)], 0, 999, by decide +kernel⟩,
   ⟨hosted [(Reg.HPXn_CE 0 |> fun a => (⟨a, 31, 0⟩ : Fld), 9)], 0, by decide +kernel⟩,
   ⟨hosted [(Reg.HPXn_CE 0 |> fun a => (⟨a, 31, 0⟩ : Fld), 9)], 0, 0, 4, 2, false, true, by decide +kernel⟩,
   ⟨hosted [(Reg.HPXn_CE 0 |> fun a => (⟨a, 31, 0⟩ : Fld), 9)], 0, 7, none, by decide +kernel⟩,
   ⟨hosted [(Reg.HPXn_CE 0 |> fun a => (⟨a, 31, 0⟩ : Fld), 9)], 0, 7, none, by decide +kernel⟩,
   ⟨hosted [(Reg.HPXn_CE 0 |> fun a => (⟨a, 31, 0⟩ : Fld), 9)], 0, 7, none, by decide +kernel⟩,
   ⟨hosted [(Reg.HPXn_CE 0 |> fun a => (⟨a, 31, 0⟩ : Fld), 9)], 0, true, by decide +kernel⟩,
   ⟨hosted [(Reg.HPXn_CE 0 |> fun a => (⟨a, 31, 0⟩ : Fld), 9)], 0, false, true, false, by decide +kernel⟩,
   ⟨hosted [(Reg.HPXn_CE 0 |> fun a => (⟨a, 31, 0⟩ : Fld), 9)], 0, 2, 5, by decide +kernel⟩,
   ⟨hosted [(Reg.HPXn_CE 0 |> fun a => (⟨a, 31, 0⟩ : Fld), 9)], 0, 4, by decide +kernel⟩⟩

/-- Witness for Obligations.QueueCommands, clause by clause. -/
theorem witness_QueueCommands :
    (∃ (s : State) (a : Nat) (c : Ctx), s.mayExecute a c ∧ c.adm 0x01 = true ∧ s.queueCheck c false (s.sq c.ctrl (wordBits
      c.sqe.cdw10 15 0)).isSome = none ∧ wordBits c.sqe.cdw11 31 16 ≠ 0 ∧ (s.cq c.ctrl (wordBits c.sqe.cdw11 31 16)).isSome =
      true ∧ ends (exec (.createIoSq a) s) (fun t => decide (t.statusOf a = some St.success ∧ ⟨c.ctrl, wordBits c.sqe.cdw10
      15 0, wordBits c.sqe.cdw10 31 16 + 1, 0, 0, wordBits c.sqe.cdw11 31 16, wordBits c.sqe.cdw11 2 1⟩ ∈ t.host.sqs)) = true) ∧
    (∃ (s : State) (a : Nat) (c : Ctx) (st : _), s.mayExecute a c ∧ c.adm 0x01 = true ∧ s.queueCheck c false (s.sq c.ctrl
      (wordBits c.sqe.cdw10 15 0)).isSome = some st ∧ ends (exec (.createIoSq a) s) (fun t => decide (t.statusOf a = some st
      ∧ t.host.sqs = s.host.sqs)) = true) ∧
    (∃ (s : State) (a : Nat) (c : Ctx), s.mayExecute a c ∧ c.adm 0x05 = true ∧ s.queueCheck c true (s.cq c.ctrl (wordBits
      c.sqe.cdw10 15 0)).isSome = none ∧ wordBits c.sqe.cdw11 31 16 < s.vectors ∧ ends (exec (.createIoCq a) s) (fun t =>
      decide (t.statusOf a = some St.success ∧ ⟨c.ctrl, wordBits c.sqe.cdw10 15 0, wordBits c.sqe.cdw10 31 16 + 1, 0, 0,
      true, wordBits c.sqe.cdw11 31 16, c.sqe.cdw11.getLsbD 1⟩ ∈ t.host.cqs)) = true) ∧
    (∃ (s : State) (a : Nat) (c : Ctx), s.mayExecute a c ∧ c.adm 0x00 = true ∧ wordBits c.sqe.cdw10 15 0 ≠ 0 ∧ (s.sq c.ctrl
      (wordBits c.sqe.cdw10 15 0)).isSome = true ∧ ends (exec (.deleteIoSq a) s) (fun t => decide (t.statusOf a = some
      St.success ∧ t.sq c.ctrl (wordBits c.sqe.cdw10 15 0) = none)) = true) ∧
    (∃ (s : State) (a : Nat) (c : Ctx), s.mayExecute a c ∧ c.adm 0x04 = true ∧ wordBits c.sqe.cdw10 15 0 ≠ 0 ∧ (s.cq c.ctrl
      (wordBits c.sqe.cdw10 15 0)).isSome = true ∧ (∀ q ∈ s.host.sqs, q.ctrl = c.ctrl → q.cqid ≠ wordBits c.sqe.cdw10 15 0) ∧
      (∀ x ∈ s.host.ctxs, x.ctrl = c.ctrl → x.cqid = wordBits c.sqe.cdw10 15 0 → x.isAdmin = true) ∧ ends (exec (.deleteIoCq
      a) s) (fun t => decide (t.statusOf a = some St.success ∧ t.cq c.ctrl (wordBits c.sqe.cdw10 15 0) = none)) = true) ∧
    (∃ (s : State) (a : Nat) (c : Ctx), s.mayExecute a c ∧ c.adm 0x08 = true ∧ ends (exec (.abort a) s) (fun t => decide
      (t.statusOf a = some St.success ∧ t.dw0Of a = some 1 ∧ ∀ x ∈ List.range 9, x ≠ a → t.ctx x = s.ctx x)) = true) ∧
    (∃ (s : State) (a : Nat) (c : Ctx) (dw : _) (l : _) (rest : _), s.mayExecute a c ∧ c.adm 0x0C = true ∧ (s.ctrl
      c.ctrl).events = (dw, l) :: rest ∧ ends (exec (.asyncEventRequest a) s) (fun t => decide (t.statusOf a = some
      St.success ∧ t.dw0Of a = some dw ∧ (t.ctrl c.ctrl).events = rest)) = true) ∧
    (∃ (s : State) (a : Nat) (c : Ctx), s.mayExecute a c ∧ c.adm 0x0C = true ∧ (s.ctrl c.ctrl).events = [] ∧ (s.ctrl
      c.ctrl).aers.length < 8 ∧ ends (exec (.asyncEventRequest a) s) (fun t => decide (t.statusOf a = none ∧ (t.ctrl
      c.ctrl).aers = (s.ctrl c.ctrl).aers ++ [a])) = true) :=
  ⟨⟨(hostedWith (ready 0 (sqe 0x01 0 [0xf0004, 0x30005])) []).modHost (fun h => { h with ctrls := h.ctrls.modify 0 (fun k => { k with nq := some (8, 8) }) }), 5, ready 0 (sqe 0x01 0 [0xf0004, 0x30005]), by unfold State.mayExecute; decide +kernel⟩,
   ⟨(hostedWith (ready 0 (sqe 0x01 0 [0xf0003, 0x30005])) []).modHost (fun h => { h with ctrls := h.ctrls.modify 0 (fun k => { k with nq := some (8, 8) }) }), 5, ready 0 (sqe 0x01 0 [0xf0003, 0x30005]), St.qidInvalid, by unfold State.mayExecute; decide +kernel⟩,
   ⟨(hostedWith (ready 0 (sqe 0x05 0 [0xf0004, 0x70003])) []).modHost (fun h => { h with ctrls := h.ctrls.modify 0 (fun k => { k with nq := some (8, 8) }) }), 5, ready 0 (sqe 0x05 0 [0xf0004, 0x70003]), by unfold State.mayExecute; decide +kernel⟩,
   ⟨(hostedWith (ready 0 (sqe 0x00 0 [0x3])) []), 5, ready 0 (sqe 0x00 0 [0x3]), by unfold State.mayExecute; decide +kernel⟩,
   ⟨(hostedWith (ready 0 (sqe 0x04 0 [0x4])) []).modHost (fun h => { h with cqs := ⟨0, 4, 16, 0, 0, true, 1, true⟩ :: h.cqs }), 5, ready 0 (sqe 0x04 0 [0x4]), by unfold State.mayExecute; decide +kernel⟩,
   ⟨(hostedWith (ready 0 (sqe 0x08 0 [0x110003])) []), 5, ready 0 (sqe 0x08 0 [0x110003]), by unfold State.mayExecute; decide +kernel⟩,
   ⟨(hostedWith (ready 0 (sqe 0x0C 0 [])) []).modHost (fun h => { h with ctrls := h.ctrls.modify 0 (fun k => { k with events := [(0x10100, 1), (0x20200, 2)] }) }), 5, ready 0 (sqe 0x0C 0 []), 0x10100, 1, [(0x20200, 2)], by unfold State.mayExecute; decide +kernel⟩,
   ⟨(hostedWith (ready 0 (sqe 0x0C 0 [])) []), 5, ready 0 (sqe 0x0C 0 []), by unfold State.mayExecute; decide +kernel⟩⟩

/-- Witness for Obligations.ReadingAndFeatures, clause by clause. -/
theorem witness_ReadingAndFeatures :
    (∃ (s : State) (a : Nat) (c : Ctx) (l : _), s.mayExecute a c ∧ c.adm 0x06 = true ∧ s.identifyData c = .ok l) ∧
    (∃ (s : State) (a : Nat) (c : Ctx) (st : _), s.mayExecute a c ∧ c.adm 0x06 = true ∧ s.identifyData c = .error st ∧ ends
      (exec (.identify a) s) (fun t => decide (t.statusOf a = some st ∧ t.out = s.out)) = true) ∧
    (∃ (s : State) (a : Nat) (c : Ctx), s.mayExecute a c ∧ c.adm 0x02 = true ∧ wordBits c.sqe.cdw10 7 0 ∉ logPages ∧ ends
      (exec (.getLogPage a) s) (fun t => decide (t.statusOf a = some St.logInvalid)) = true) ∧
    (∃ (s : State) (a : Nat) (c : Ctx), s.mayExecute a c ∧ c.adm 0x02 = true ∧ wordBits c.sqe.cdw10 7 0 = 0xC2 ∧ logOff
      c.sqe % 4 = 0 ∧ logLen c.sqe ≤ 2 ^ 21 ∧ logOff c.sqe + logLen c.sqe ≤ s.healthPage.length ∧ ends (exec (.getLogPage a)
      s) (fun t => decide (t.statusOf a = some St.success ∧ t.out = .hostData a (listedBytes ((s.healthPage.drop (logOff
      c.sqe)).take (logLen c.sqe))) :: s.out)) = true) ∧
    (∃ (s : State) (a : Nat) (c : Ctx), s.mayExecute a c ∧ c.adm 0x0A = true ∧ s.featureField c = none ∧ wordBits
      c.sqe.cdw10 10 8 = 0 ∧ wordBits c.sqe.cdw10 7 0 ∉ [0x0E, 0x81, 0xC0] ∧ ends (exec (.getFeatures a) s) (fun t => decide
      (t.statusOf a = some St.success ∧ t.dw0Of a = some (s.featureDw c false))) = true) ∧
    (∃ (s : State) (a : Nat) (c : Ctx) (st : _), s.mayExecute a c ∧ c.adm 0x0A = true ∧ s.featureField c = some st ∧ ends
      (exec (.getFeatures a) s) (fun t => decide (t.statusOf a = some st)) = true) ∧
    (∃ (s : State) (a : Nat) (c : Ctx) (data : List Byte), s.mayExecute a c ∧ c.adm 0x09 = true ∧ s.setFeatureCheck c = none
      ∧ wordBits c.sqe.cdw10 7 0 = 0x0B ∧ ends (exec (.setFeatures a data) s) (fun t => decide (t.statusOf a = some
      St.success ∧ (t.ctrl c.ctrl).aec = c.sqe.cdw11.toNat)) = true) ∧
    (∃ (s : State) (a : Nat) (c : Ctx) (data : List Byte), s.mayExecute a c ∧ c.adm 0x09 = true ∧ s.setFeatureCheck c = none
      ∧ wordBits c.sqe.cdw10 7 0 = 0x0E ∧ ends (exec (.setFeatures a data) s) (fun t => decide (t.statusOf a = some
      St.success ∧ t.host.timestamp = some (leNat (data.take 6), s.cycle))) = true) ∧
    (∃ (s : State) (a : Nat) (c : Ctx) (data : List Byte) (st : _), s.mayExecute a c ∧ c.adm 0x09 = true ∧ s.setFeatureCheck
      c = some st ∧ ownFeature (wordBits c.sqe.cdw10 7 0) = false ∧ ends (exec (.setFeatures a data) s) (fun t => decide
      (t.statusOf a = some st)) = true) :=
  ⟨⟨(hostedWith (ready 0 (sqe 0x06 0 [0x1c])) []), 5, ready 0 (sqe 0x06 0 [0x1c]), padTo 4096 (leBytes 5 8), ⟨by unfold State.mayExecute; decide +kernel, by decide +kernel, rfl⟩⟩,
   ⟨(hostedWith (ready 0 (sqe 0x06 0 [0x77])) []), 5, ready 0 (sqe 0x06 0 [0x77]), St.invalidField, by unfold State.mayExecute; decide +kernel⟩,
   ⟨(hostedWith (ready 0 (sqe 0x02 0 [0x55])) []), 5, ready 0 (sqe 0x02 0 [0x55]), by unfold State.mayExecute; decide +kernel⟩,
   ⟨(hostedWith (ready 0 (sqe 0x02 0 [0xff00c2])) []), 5, ready 0 (sqe 0x02 0 [0xff00c2]), by unfold State.mayExecute; decide +kernel⟩,
   ⟨(hostedWith (ready 0 (sqe 0x0A 0 [0x4])) []), 5, ready 0 (sqe 0x0A 0 [0x4]), by unfold State.mayExecute; decide +kernel⟩,
   ⟨(hostedWith (ready 0 (sqe 0x0A 0 [0x55])) []), 5, ready 0 (sqe 0x0A 0 [0x55]), St.invalidField, by unfold State.mayExecute; decide +kernel⟩,
   ⟨(hostedWith (ready 0 (sqe 0x09 0 [0xb, 0x300])) []), 5, ready 0 (sqe 0x09 0 [0xb, 0x300]), [], by unfold State.mayExecute; decide +kernel⟩,
   ⟨(hostedWith (ready 0 (sqe 0x09 0 [0xe])) []), 5, ready 0 (sqe 0x09 0 [0xe]), [1#8, 2#8, 3#8, 4#8, 5#8, 6#8], by unfold State.mayExecute; decide +kernel⟩,
   ⟨(hostedWith (ready 0 (sqe 0x09 0 [0x55])) []), 5, ready 0 (sqe 0x09 0 [0x55]), [], St.invalidField, by unfold State.mayExecute; decide +kernel⟩⟩

/-- Witness for Obligations.SettingFeatures, clause by clause. -/
theorem witness_SettingFeatures :
    (∃ (s : State) (a : Nat) (c : Ctx), s.mayExecute a c ∧ c.adm 0x09 = true ∧ s.setFeatureCheck c = none ∧ wordBits
      c.sqe.cdw10 7 0 = 0x01 ∧ ends (exec (.setFeaturesArbitration a) s) (fun t => decide (t.statusOf a = some St.success ∧
      (t.ctrl c.ctrl).ab = wordBits c.sqe.cdw11 2 0 ∧ (t.ctrl c.ctrl).lpw = wordBits c.sqe.cdw11 15 8 ∧ (t.ctrl c.ctrl).mpw =
      wordBits c.sqe.cdw11 23 16 ∧ (t.ctrl c.ctrl).hpw = wordBits c.sqe.cdw11 31 24)) = true) ∧
    (∃ (s : State) (a : Nat) (c : Ctx), s.mayExecute a c ∧ c.adm 0x09 = true ∧ s.setFeatureCheck c = none ∧ wordBits
      c.sqe.cdw10 7 0 = 0x02 ∧ wordBits c.sqe.cdw11 4 0 ≤ 4 ∧ s.pow.reqs = [] ∧ ends (exec (.setFeaturesPowerManagement a) s)
      (fun t => decide (t.psReq = wordBits c.sqe.cdw11 4 0)) = true) ∧
    (∃ (s : State) (a : Nat) (c : Ctx), s.mayExecute a c ∧ c.adm 0x09 = true ∧ s.setFeatureCheck c = none ∧ wordBits
      c.sqe.cdw10 7 0 = 0x02 ∧ wordBits c.sqe.cdw11 4 0 ≤ 4 ∧ s.pow.reqs ≠ [] ∧ ends (exec (.setFeaturesPowerManagement a) s)
      (fun t => decide (t.statusOf a = none ∧ t.pow.reqs = s.pow.reqs ++ [(wordBits c.sqe.cdw11 4 0, some a)])) = true) ∧
    (∃ (s : State) (a : Nat) (c : Ctx), s.mayExecute a c ∧ c.adm 0x09 = true ∧ s.setFeatureCheck c = none ∧ wordBits
      c.sqe.cdw10 7 0 = 0x02 ∧ 4 < wordBits c.sqe.cdw11 4 0 ∧ ends (exec (.setFeaturesPowerManagement a) s) (fun t => decide
      (t.statusOf a = some St.invalidField)) = true) ∧
    (∃ (s : State) (a : Nat) (c : Ctx), s.mayExecute a c ∧ c.adm 0x09 = true ∧ s.setFeatureCheck c = none ∧ wordBits
      c.sqe.cdw10 7 0 = 0x05 ∧ ends (exec (.setFeaturesErrorRecovery a) s) (fun t => decide (t.statusOf a = some St.success ∧
      t.host.tler = wordBits c.sqe.cdw11 15 0 ∧ t.host.dulbe = c.sqe.cdw11.getLsbD 16)) = true) ∧
    (∃ (s : State) (a : Nat) (c : Ctx), s.mayExecute a c ∧ c.adm 0x09 = true ∧ s.setFeatureCheck c = none ∧ wordBits
      c.sqe.cdw10 7 0 = 0x06 ∧ c.sqe.cdw11.getLsbD 0 = true ∧ ends (exec (.setFeaturesVolatileWriteCache a) s) (fun t =>
      decide (t.statusOf a = some St.success ∧ t.host.wce = true)) = true) ∧
    (∃ (s : State) (a : Nat) (c : Ctx), s.mayExecute a c ∧ c.adm 0x09 = true ∧ s.setFeatureCheck c = none ∧ wordBits
      c.sqe.cdw10 7 0 = 0x06 ∧ c.sqe.cdw11.getLsbD 0 = false ∧ s.dirtyCount = 0 ∧ ends (exec (.setFeaturesVolatileWriteCache
      a) s) (fun t => decide (t.statusOf a = some St.success ∧ t.host.wce = false)) = true) ∧
    (∃ (s : State) (a : Nat) (c : Ctx), s.mayExecute a c ∧ c.adm 0x09 = true ∧ s.setFeatureCheck c = none ∧ wordBits
      c.sqe.cdw10 7 0 = 0x06 ∧ c.sqe.cdw11.getLsbD 0 = false ∧ s.host.wce = true ∧ 0 < s.dirtyCount ∧ ends (exec
      (.setFeaturesVolatileWriteCache a) s) (fun t => decide (t.statusOf a = none ∧ t.host.wce = true)) = true) ∧
    (∃ (s : State) (a : Nat) (c : Ctx), s.mayExecute a c ∧ c.adm 0x09 = true ∧ s.setFeatureCheck c = none ∧ wordBits
      c.sqe.cdw10 7 0 = 0x07 ∧ wordBits c.sqe.cdw11 15 0 ≠ 0xFFFF ∧ wordBits c.sqe.cdw11 31 16 ≠ 0xFFFF ∧ (s.ctrl c.ctrl).nq
      = none ∧ s.singleX4 = true ∧ ends (exec (.setFeaturesNumberOfQueues a) s) (fun t => decide (t.statusOf a = some
      St.success ∧ (t.ctrl c.ctrl).nq = some (min (wordBits c.sqe.cdw11 15 0 + 1) 1024, min (wordBits c.sqe.cdw11 31 16 + 1)
      1024))) = true) ∧
    (∃ (s : State) (a : Nat) (c : Ctx), s.mayExecute a c ∧ c.adm 0x09 = true ∧ s.setFeatureCheck c = none ∧ wordBits
      c.sqe.cdw10 7 0 = 0x07 ∧ wordBits c.sqe.cdw11 15 0 ≠ 0xFFFF ∧ wordBits c.sqe.cdw11 31 16 ≠ 0xFFFF ∧ (s.ctrl
      c.ctrl).nq.isSome = true ∧ ends (exec (.setFeaturesNumberOfQueues a) s) (fun t => decide (t.statusOf a = some
      St.sequenceError)) = true) ∧
    (∃ (s : State) (a : Nat) (c : Ctx), s.mayExecute a c ∧ c.adm 0x09 = true ∧ s.setFeatureCheck c = none ∧ wordBits
      c.sqe.cdw10 7 0 = 0x08 ∧ ends (exec (.setFeaturesInterruptCoalescing a) s) (fun t => decide (t.statusOf a = some
      St.success ∧ (t.ctrl c.ctrl).coalThr = wordBits c.sqe.cdw11 7 0 ∧ (t.ctrl c.ctrl).coalTime = wordBits c.sqe.cdw11 15
      8)) = true) ∧
    (∃ (s : State) (a : Nat) (c : Ctx), s.mayExecute a c ∧ c.adm 0x09 = true ∧ s.setFeatureCheck c = none ∧ wordBits
      c.sqe.cdw10 7 0 = 0xC0 ∧ c.sqe.cdw11.toNat ≤ 15 ∧ s.dpiOn = true ∧ s.dpi.modeValid c.sqe.cdw11.toNat = true ∧ ends
      (exec (.setFeaturesModeProfile a) s) (fun t => decide (t.statusOf a = some St.success ∧ t.pow.mode =
      c.sqe.cdw11.toNat)) = true) ∧
    (∃ (s : State) (a : Nat) (c : Ctx), s.mayExecute a c ∧ c.adm 0x09 = true ∧ s.setFeatureCheck c = none ∧ wordBits
      c.sqe.cdw10 7 0 = 0xC0 ∧ s.dpiOn = false ∧ ends (exec (.setFeaturesModeProfile a) s) (fun t => decide (t.statusOf a =
      some St.invalidField)) = true) :=
  ⟨⟨(hostedWith (ready 0 (sqe 0x09 0 [0x1, 0x4030205])) []), 5, ready 0 (sqe 0x09 0 [0x1, 0x4030205]), by unfold State.mayExecute; decide +kernel⟩,
   ⟨(hostedWith (ready 0 (sqe 0x09 0 [0x2, 0x3])) []), 5, ready 0 (sqe 0x09 0 [0x2, 0x3]), by unfold State.mayExecute; decide +kernel⟩,
   ⟨(hostedWith (ready 0 (sqe 0x09 0 [0x2, 0x3])) []).modPow (fun p => { p with reqs := [(2, none)] }), 5, ready 0 (sqe 0x09 0 [0x2, 0x3]), by unfold State.mayExecute; decide +kernel⟩,
   ⟨(hostedWith (ready 0 (sqe 0x09 0 [0x2, 0x7])) []), 5, ready 0 (sqe 0x09 0 [0x2, 0x7]), by unfold State.mayExecute; decide +kernel⟩,
   ⟨(hostedWith (ready 0 (sqe 0x09 0 [0x5, 0x10064])) []), 5, ready 0 (sqe 0x09 0 [0x5, 0x10064]), by unfold State.mayExecute; decide +kernel⟩,
   ⟨(hostedWith (ready 0 (sqe 0x09 0 [0x6, 0x1])) []), 5, ready 0 (sqe 0x09 0 [0x6, 0x1]), by unfold State.mayExecute; decide +kernel⟩,
   ⟨(hostedWith (ready 0 (sqe 0x09 0 [0x6, 0x0])) []), 5, ready 0 (sqe 0x09 0 [0x6, 0x0]), by unfold State.mayExecute; decide +kernel⟩,
   ⟨(hostedWith (ready 0 (sqe 0x09 0 [0x6, 0x0])) []).modNsSt (fun x => { x with blocks := [(2 ^ 40 + 3, ⟨[1#8], true, 3, 0, 3, 9, false, false, 1, none, none, false⟩)] }), 5, ready 0 (sqe 0x09 0 [0x6, 0x0]), by unfold State.mayExecute; decide +kernel⟩,
   ⟨(hostedWith (ready 0 (sqe 0x09 0 [0x7, 0x70007])) [(Reg.HQE_PORTCFG_MODE, 1)]), 5, ready 0 (sqe 0x09 0 [0x7, 0x70007]), by unfold State.mayExecute; decide +kernel⟩,
   ⟨(hostedWith (ready 0 (sqe 0x09 0 [0x7, 0x70007])) []).modHost (fun h => { h with ctrls := h.ctrls.modify 0 (fun k => { k with nq := some (8, 8) }) }), 5, ready 0 (sqe 0x09 0 [0x7, 0x70007]), by unfold State.mayExecute; decide +kernel⟩,
   ⟨(hostedWith (ready 0 (sqe 0x09 0 [0x8, 0xa05])) []), 5, ready 0 (sqe 0x09 0 [0x8, 0xa05]), by unfold State.mayExecute; decide +kernel⟩,
   ⟨(hostedWith (ready 0 (sqe 0x09 0 [0xc0, 0x0])) []), 5, ready 0 (sqe 0x09 0 [0xc0, 0x0]), by unfold State.mayExecute; decide +kernel⟩,
   ⟨{ (hostedWith (ready 0 (sqe 0x09 0 [0xc0, 0x0])) []) with dpiOn := false }, 5, ready 0 (sqe 0x09 0 [0xc0, 0x0]), by unfold State.mayExecute; decide +kernel⟩⟩

/-- Witness for Obligations.NamespaceCommands, clause by clause. -/
theorem witness_NamespaceCommands :
    (∃ (s : State) (a : Nat) (c : Ctx) (data : List (Nat × Byte)) (n : _), s.mayExecute a c ∧ c.adm 0x0D = true ∧ wordBits
      c.sqe.cdw10 3 0 = 0 ∧ s.drbgOk = true ∧ s.nsToCreate (sparseLe data 0 8) (sparseLe data 8 8) (byteAt data 26) (byteAt
      data 29) (wordBits c.sqe.cdw11 31 24) (byteAt data 3072) (byteAt data 3073) = some n ∧ ends (exec (.namespaceCreate a
      data) s) (fun t => decide (t.statusOf a = some St.success ∧ t.dw0Of a = some n.nsid ∧ n ∈ t.ns.list)) = true) ∧
    (∃ (s : State) (a : Nat) (c : Ctx) (data : List (Nat × Byte)), s.mayExecute a c ∧ c.adm 0x0D = true ∧ wordBits
      c.sqe.cdw10 3 0 = 0 ∧ s.nsToCreate (sparseLe data 0 8) (sparseLe data 8 8) (byteAt data 26) (byteAt data 29) (wordBits
      c.sqe.cdw11 31 24) (byteAt data 3072) (byteAt data 3073) = none ∧ ends (exec (.namespaceCreate a data) s) (fun t =>
      decide (t.statusOf a = some St.invalidField ∧ t.ns = s.ns)) = true) ∧
    (∃ (s : State) (a : Nat) (c : Ctx) (k : _), s.mayExecute a c ∧ c.adm 0x0D = true ∧ wordBits c.sqe.cdw10 3 0 = 1 ∧
      s.adminLocks c.sqe = some [k] ∧ ends (exec (.namespaceDelete a) s) (fun t => decide (t.statusOf a = some St.success ∧
      t.nspace k = none)) = true) ∧
    (∃ (s : State) (a : Nat) (c : Ctx) (l : _) (n : Ns) (ms : List (Fin 2)), s.mayExecute a c ∧ c.adm 0x15 = true ∧ wordBits
      c.sqe.cdw10 3 0 = 0 ∧ s.nspace c.sqe.nsid = some n ∧ s.listedCtrls l = some ms ∧ (∀ m ∈ ms, n.att.get m = false) ∧ ends
      (exec (.namespaceAttach a l) s) (fun t => decide (t.statusOf a = some St.success ∧ t.nspace c.sqe.nsid = some
      ((t.nspace 1).getD nsc) ∧ ∀ m ∈ ms, ((t.nspace 1).getD nsc).att.get m = true)) = true) ∧
    (∃ (s : State) (a : Nat) (c : Ctx) (l : _) (n : Ns) (ms : List (Fin 2)), s.mayExecute a c ∧ c.adm 0x15 = true ∧ wordBits
      c.sqe.cdw10 3 0 = 1 ∧ s.nspace c.sqe.nsid = some n ∧ s.listedCtrls l = some ms ∧ (∀ m ∈ ms, n.att.get m = true) ∧ ends
      (exec (.namespaceDetach a l) s) (fun t => decide (t.statusOf a = some St.success ∧ t.nspace c.sqe.nsid = some
      ((t.nspace 1).getD nsc) ∧ ∀ m ∈ ms, ((t.nspace 1).getD nsc).att.get m = false)) = true) ∧
    (∃ (s : State) (a : Nat) (c : Ctx) (k : _) (n : Ns), s.mayExecute a c ∧ c.adm 0x80 = true ∧ wordBits c.sqe.cdw10 11 9 =
      0 ∧ s.adminLocks c.sqe = some [k] ∧ s.nspace k = some n ∧ ends (exec (.formatNvm a) s) (fun t => decide (t.statusOf a =
      some St.success ∧ ∀ lba ∈ ([0, 3, 4095] : List Nat), lba < n.nsze → t.block k lba = none)) = true) ∧
    (∃ (s : State) (a : Nat) (c : Ctx), s.mayExecute a c ∧ c.adm 0x84 = true ∧ s.drbgOk = true ∧ ends (exec (.sanitize a) s)
      (fun t => decide (t.statusOf a = some St.success ∧ t.xts.sanitize = some c.sqe.cdw10.toNat)) = true) ∧
    (∃ (s : State) (a : Nat) (c : Ctx) (m : _), s.mayExecute a c ∧ c.adm 0x81 = true ∧ wordBits c.sqe.cdw10 31 24 = 1 ∧
      wordBits c.sqe.cdw10 23 8 = 0x07FE ∧ s.keyWaits m = false ∧ s.grantsWait c = false ∧ ends (exec (.securitySend a m) s)
      (fun t => decide (t.statusOf a = some St.success ∧ t.xts.response = some ((s.tcgRun m).2, s.tcgData m (s.tcgRun m).2)))
      = true) ∧
    (∃ (s : State) (a : Nat) (c : Ctx) (st : _) (d : TcgData), s.mayExecute a c ∧ c.adm 0x82 = true ∧ wordBits c.sqe.cdw10
      31 24 = 1 ∧ wordBits c.sqe.cdw10 23 8 = 0x07FE ∧ s.xts.response = some (st, d) ∧ ends (exec (.securityReceive a) s)
      (fun t => decide (t.statusOf a = some St.success ∧ t.out = .tcg a st d :: s.out ∧ t.xts.response = none)) = true) ∧
    (∃ (s : State) (a : Nat) (c : Ctx), s.mayExecute a c ∧ c.adm 0x19 = true ∧ ends (exec (.directiveSend a) s) (fun t =>
      decide (t.statusOf a = some (if 1 < wordBits c.sqe.cdw11 15 8 then St.invalidField else St.success))) = true) ∧
    (∃ (s : State) (a : Nat) (c : Ctx), s.mayExecute a c ∧ c.adm 0x1A = true ∧ wordBits c.sqe.cdw11 15 8 ≤ 1 ∧ ends (exec
      (.directiveReceive a) s) (fun t => decide (t.statusOf a = some St.success ∧ t.out.length = s.out.length + 1)) = true) :=
  ⟨⟨(hostedWith (ready 0 (sqe 0x0D 0 [0x0])) [(Reg.XTS_STATUS_DRBGOK, 1)]), 5, ready 0 (sqe 0x0D 0 [0x0]), [(2, 2#8), (10, 2#8)], ⟨2, .conventional, 131072, 0, false, reserveBands .conventional 2 0, Duo.all false, [], ⟨0, none, [], 0, false⟩⟩, by unfold State.mayExecute; decide +kernel⟩,
   ⟨(hostedWith (ready 0 (sqe 0x0D 0 [0x0])) [(Reg.XTS_STATUS_DRBGOK, 1)]), 5, ready 0 (sqe 0x0D 0 [0x0]), [(0, 1#8), (2, 2#8), (10, 2#8)], by unfold State.mayExecute; decide +kernel⟩,
   ⟨(hostedWith (ready 0 (sqe 0x0D 1 [0x1])) []), 5, ready 0 (sqe 0x0D 1 [0x1]), 1, by unfold State.mayExecute; decide +kernel⟩,
   ⟨(hostedWith (ready 0 (sqe 0x15 1 [0x0])) []).modNs 1 (fun n => { n with att := Duo.all false }), 5, ready 0 (sqe 0x15 1 [0x0]), [0], { nsc with att := Duo.all false }, [0], by unfold State.mayExecute; decide +kernel⟩,
   ⟨(hostedWith (ready 0 (sqe 0x15 1 [0x1])) []), 5, ready 0 (sqe 0x15 1 [0x1]), [1], nsc, [1], by unfold State.mayExecute; decide +kernel⟩,
   ⟨(hostedWith (ready 0 (sqe 0x80 1 [0x0])) []).modNsSt (fun x => { x with blocks := [(2 ^ 40 + 3, ⟨[1#8], false, 3, 0, 3, 9, false, false, 1, none, none, false⟩)] }), 5, ready 0 (sqe 0x80 1 [0x0]), 1, nsc, by unfold State.mayExecute; decide +kernel⟩,
   ⟨(hostedWith (ready 0 (sqe 0x84 0 [0x2])) [(Reg.XTS_STATUS_DRBGOK, 1)]), 5, ready 0 (sqe 0x84 0 [0x2]), by unfold State.mayExecute; decide +kernel⟩,
   ⟨(hostedWith (ready 0 (sqe 0x81 0 [0x107fe00])) []), 5, ready 0 (sqe 0x81 0 [0x107fe00]), .startSession 1, by unfold State.mayExecute; decide +kernel⟩,
   ⟨{ hostedWith (ready 0 (sqe 0x82 0 [0x107fe00])) [] with xts := { XtsSt.reset with response := some (7, .nothing) } }, 5, ready 0 (sqe 0x82 0 [0x107fe00]), 7, TcgData.nothing, by unfold State.mayExecute; decide +kernel⟩,
   ⟨(hostedWith (ready 0 (sqe 0x19 0 [0x0, 0x100])) []), 5, ready 0 (sqe 0x19 0 [0x0, 0x100]), by unfold State.mayExecute; decide +kernel⟩,
   ⟨(hostedWith (ready 0 (sqe 0x1A 0 [0x0, 0x100])) []), 5, ready 0 (sqe 0x1A 0 [0x0, 0x100]), by unfold State.mayExecute; decide +kernel⟩⟩

/-- Witness for Obligations.RegisterAccessAndCapture, clause by clause. -/
theorem witness_RegisterAccessAndCapture :
    (∃ (s : State) (a : Nat) (c : Ctx) (t0 : State) (v : Word), s.mayExecute a c ∧ c.adm 0xC0 = true ∧ c.sqe.cdw13.getLsbD 0
      = false ∧ s.busRead c.busMaster c.sqe.cdw12.toNat = (t0, v, .done) ∧ ends (exec (.registerAccessRead a) s) (fun t =>
      decide (t.statusOf a = some St.success ∧ t.dw0Of a = some v.toNat)) = true) ∧
    (∃ (s : State) (a : Nat) (c : Ctx), s.mayExecute a c ∧ c.adm 0xC0 = true ∧ c.sqe.cdw13.getLsbD 0 = false ∧
      c.sqe.cdw12.toNat % 4 ≠ 0 ∧ ends (exec (.registerAccessRead a) s) (fun t => decide (t.statusOf a = some
      St.invalidField)) = true) ∧
    (∃ (s : State) (a : Nat) (c : Ctx) (t0 : State), s.mayExecute a c ∧ c.adm 0xC0 = true ∧ c.sqe.cdw13.getLsbD 0 = true ∧
      s.busWrite (if regRwo c.sqe.cdw12.toNat then .core 0 else c.busMaster) c.sqe.cdw12.toNat c.sqe.cdw14 = (t0, .done) ∧
      t0.host = s.host ∧ t0.recov = s.recov ∧ ends (exec (.registerAccessWrite a) s) (fun t => decide (t.statusOf a = some
      St.success ∧ t.dw0Of a = some 0 ∧ ∀ r ∈ keys s t, r ≠ Reg.EVR_DROPQ → t.rd r = t0.rd r)) = true) ∧
    (∃ (s : State) (a : Nat) (c : Ctx), s.mayExecute a c ∧ c.adm 0xC0 = true ∧ c.sqe.cdw13.getLsbD 0 = true ∧
      c.sqe.cdw12.toNat % 4 ≠ 0 ∧ ends (exec (.registerAccessWrite a) s) (fun t => decide (t.statusOf a = some
      St.invalidField ∧ ∀ r ∈ keys s t, r ≠ Reg.EVR_DROPQ → t.rd r = s.rd r)) = true) ∧
    (∃ (s : State) (a : Nat) (c : Ctx) (u : Fin 2), s.mayExecute a c ∧ c.adm 0xC2 = true ∧ c.sqe.action = 0 ∧
      c.sqe.cdw12.getLsbD 4 = decide (u = 1) ∧ (s.cap.get u).st = 0 ∧ c.sqe.cdw15.getLsbD 0 = false ∧ c.sqe.cdw13.getLsbD 25
      = true ∧ ends (exec (.captureConfigureAndStart a) s) (fun t => decide (t.statusOf a = some St.success ∧ (t.cap.get
      u).st = 2 ∧ t.fget (Reg.SVD_CAPn_STAT_RUNNING u) = 1 ∧ (t.rd (Reg.SVD_CAPn_CH u)) = c.sqe.cdw14)) = true) ∧
    (∃ (s : State) (a : Nat) (c : Ctx) (u : Fin 2), s.mayExecute a c ∧ c.adm 0xC2 = true ∧ c.sqe.action = 0 ∧
      c.sqe.cdw12.getLsbD 4 = decide (u = 1) ∧ (s.cap.get u).st ≠ 0 ∧ ends (exec (.captureConfigureAndStart a) s) (fun t =>
      decide (t.statusOf a = some St.sequenceError ∧ t.cap = s.cap)) = true) ∧
    (∃ (s : State) (a : Nat) (c : Ctx) (u : Fin 2), s.mayExecute a c ∧ c.adm 0xC2 = true ∧ c.sqe.action = 1 ∧
      c.sqe.cdw12.getLsbD 4 = decide (u = 1) ∧ (s.cap.get u).st = 0 ∧ s.fbit (Reg.SVD_CAPn_STAT_THROTTLED u) = false ∧ ends
      (exec (.captureRead a []) s) (fun t => decide (t.statusOf a = some St.success ∧ t.out = .hostData a (listedBytes
      ((List.range (c.sqe.ndt / 4)).flatMap (fun i => if captureAddr u (c.sqe.cdw13.toNat + i) ∈ s.memp.poison ∨ captureAddr
      u (c.sqe.cdw13.toNat + i) + 8 ∈ s.memp.poison then leBytes (2 ^ 64 - 1) 8 ++ leBytes 0 8 else s.memBytes 16
      (captureAddr u (c.sqe.cdw13.toNat + i))))) :: s.out)) = true) ∧
    (∃ (s : State) (a : Nat) (c : Ctx) (u : Fin 2) (errs : List MemErr), s.mayExecute a c ∧ c.adm 0xC2 = true ∧ c.sqe.action
      = 1 ∧ c.sqe.cdw12.getLsbD 4 = decide (u = 1) ∧ (s.cap.get u).st ≠ 0 ∧ ends (exec (.captureRead a errs) s) (fun t =>
      decide (t.statusOf a = some St.sequenceError ∧ t.out = s.out)) = true) ∧
    (∃ (s : State) (a : Nat) (c : Ctx) (u : Fin 2), s.mayExecute a c ∧ c.adm 0xC2 = true ∧ c.sqe.action = 2 ∧
      c.sqe.cdw12.getLsbD 4 = decide (u = 1) ∧ (s.cap.get u).injPair = none ∧ s.fbit (Reg.SVD_CAPn_STAT_THROTTLED u) = false
      ∧ ends (exec (.captureStop a) s) (fun t => decide (t.statusOf a = some St.success ∧ (t.cap.get u).st = 0)) = true) ∧
    (∃ (s : State) (a : Nat) (c : Ctx) (u : Fin 2), s.mayExecute a c ∧ c.adm 0xC2 = true ∧ c.sqe.action = 3 ∧
      c.sqe.cdw12.getLsbD 4 = decide (u = 1) ∧ ends (exec (.captureStatus a) s) (fun t => decide (t.dw0Of a = some (s.rd
      (Reg.SVD_CAPn_STAT u)).toNat ∧ t.statusOf a = some (if s.fbit (Reg.SVD_CAPn_STAT_THROTTLED u) then St.peakThrottled
      else St.success))) = true) :=
  ⟨⟨(hostedWith (ready 0 (sqe 0xC0 0 [0x0, 0x0, 0x40000000, 0x0])) []), 5, ready 0 (sqe 0xC0 0 [0x0, 0x0, 0x40000000, 0x0]), ((hostedWith (ready 0 (sqe 0xC0 0 [0x0, 0x0, 0x40000000, 0x0])) [])), (((hostedWith (ready 0 (sqe 0xC0 0 [0x0, 0x0, 0x40000000, 0x0])) []))).rd 0x40000000, by unfold State.mayExecute; decide +kernel⟩,
   ⟨(hostedWith (ready 0 (sqe 0xC0 0 [0x0, 0x0, 0x40000001, 0x0])) []), 5, ready 0 (sqe 0xC0 0 [0x0, 0x0, 0x40000001, 0x0]), by unfold State.mayExecute; decide +kernel⟩,
   ⟨(hostedWith (ready 0 (sqe 0xC0 0 [0x0, 0x0, 0x400b0020, 0x1, 0x1234])) []), 5, ready 0 (sqe 0xC0 0 [0x0, 0x0, 0x400b0020, 0x1, 0x1234]), (((hostedWith (ready 0 (sqe 0xC0 0 [0x0, 0x0, 0x400b0020, 0x1, 0x1234])) [])).busWrite (.host 0) 0x400B0020 0x1234).1, by unfold State.mayExecute; decide +kernel⟩,
   ⟨(hostedWith (ready 0 (sqe 0xC0 0 [0x0, 0x0, 0x400b0022, 0x1, 0x1234])) []), 5, ready 0 (sqe 0xC0 0 [0x0, 0x0, 0x400b0022, 0x1, 0x1234]), by unfold State.mayExecute; decide +kernel⟩,
   ⟨(hostedWith (ready 0 (sqe 0xC2 0 [0x0, 0x0, 0x0, 0x2000000, 0xabcd, 0x0])) []), 5, ready 0 (sqe 0xC2 0 [0x0, 0x0, 0x0, 0x2000000, 0xabcd, 0x0]), 0, by unfold State.mayExecute; decide +kernel⟩,
   ⟨(hostedWith (ready 0 (sqe 0xC2 0 [0x0, 0x0, 0x0, 0x2000000, 0xabcd, 0x0])) []).modCap 0 (fun c => { c with st := 2 }), 5, ready 0 (sqe 0xC2 0 [0x0, 0x0, 0x0, 0x2000000, 0xabcd, 0x0]), 0, by unfold State.mayExecute; decide +kernel⟩,
   ⟨(hostedWith (ready 0 (sqe 0xC2 0 [0x3, 0x0, 0x1, 0x0])) []), 5, ready 0 (sqe 0xC2 0 [0x3, 0x0, 0x1, 0x0]), 0, by unfold State.mayExecute; decide +kernel⟩,
   ⟨(hostedWith (ready 0 (sqe 0xC2 0 [0x3, 0x0, 0x1, 0x0])) []).modCap 0 (fun c => { c with st := 2 }), 5, ready 0 (sqe 0xC2 0 [0x3, 0x0, 0x1, 0x0]), 0, [], by unfold State.mayExecute; decide +kernel⟩,
   ⟨(hostedWith (ready 0 (sqe 0xC2 0 [0x0, 0x0, 0x2, 0x0])) []), 5, ready 0 (sqe 0xC2 0 [0x0, 0x0, 0x2, 0x0]), 0, by unfold State.mayExecute; decide +kernel⟩,
   ⟨(hostedWith (ready 0 (sqe 0xC2 0 [0x0, 0x0, 0x3, 0x0])) [(Reg.SVD_CAPn_STAT_RUNNING 0, 1)]), 5, ready 0 (sqe 0xC2 0 [0x0, 0x0, 0x3, 0x0]), 0, by unfold State.mayExecute; decide +kernel⟩⟩

/-- Witness for Obligations.OwnershipActions, clause by clause. -/
theorem witness_OwnershipActions :
    (∃ (s : State) (a : Nat) (c : Ctx) (data : List Byte) (target : Nat) (token : Nat), s.mayExecute a c ∧ c.adm 0xC1 = true
      ∧ ownFields data = (1, target, token, false) ∧ s.ownValid 1 target token false = true ∧ s.ownState = 0 ∧ ends (exec
      (.ownershipClaim a data) s) (fun t => decide (t.statusOf a = some St.success ∧ t.dw0Of a = some (c.master + 16) ∧
      t.owner = c.master ∧ t.ownState = 1 ∧ t.own.token = token)) = true) ∧
    (∃ (s : State) (a : Nat) (c : Ctx) (data : List Byte) (target : Nat) (token : Nat), s.mayExecute a c ∧ c.adm 0xC1 = true
      ∧ ownFields data = (1, target, token, false) ∧ s.ownValid 1 target token false = true ∧ s.ownState ≠ 0 ∧ s.owner ≠
      c.master ∧ ends (exec (.ownershipClaim a data) s) (fun t => decide (t.statusOf a = some St.success ∧ t.dw0Of a = some
      (s.owner + 16 * s.ownState + 256) ∧ t.own = s.own ∧ t.owner = s.owner)) = true) ∧
    (∃ (s : State) (a : Nat) (c : Ctx) (data : List Byte) (target : Nat) (token : Nat), s.mayExecute a c ∧ c.adm 0xC1 = true
      ∧ ownFields data = (2, target, token, false) ∧ s.ownValid 2 target token false = true ∧ s.ownState = 1 ∧ s.owner =
      c.master ∧ token = s.own.token ∧ ends (exec (.ownershipHandover a data) s) (fun t => decide (t.statusOf a = some
      St.success ∧ t.ownState = 2 ∧ t.owner = s.owner ∧ t.fget Reg.OWN_STATE_TARGET = target)) = true) ∧
    (∃ (s : State) (a : Nat) (c : Ctx) (data : List Byte) (target : Nat) (token : Nat), s.mayExecute a c ∧ c.adm 0xC1 = true
      ∧ ownFields data = (3, target, token, false) ∧ s.ownValid 3 target token false = true ∧ s.ownState = 2 ∧ s.fget
      Reg.OWN_STATE_TARGET = c.master ∧ ends (exec (.ownershipAccept a data) s) (fun t => decide (t.statusOf a = some
      St.success ∧ t.ownState = 1 ∧ t.owner = c.master ∧ t.own.token = token)) = true) ∧
    (∃ (s : State) (a : Nat) (c : Ctx) (data : List Byte) (target : Nat) (token : Nat), s.mayExecute a c ∧ c.adm 0xC1 = true
      ∧ ownFields data = (4, target, token, false) ∧ s.ownValid 4 target token false = true ∧ s.ownState = 1 ∧ s.owner =
      c.master ∧ token = s.own.token ∧ ends (exec (.ownershipRelease a data) s) (fun t => decide (t.statusOf a = some
      St.success ∧ t.ownState = 0 ∧ t.owner = 0)) = true) ∧
    (∃ (s : State) (a : Nat) (c : Ctx) (data : List Byte) (target : Nat) (token : Nat), s.mayExecute a c ∧ c.adm 0xC1 = true
      ∧ ownFields data = (4, target, token, false) ∧ s.ownValid 4 target token false = false ∧ ends (exec (.ownershipRelease
      a data) s) (fun t => decide (t.statusOf a = some St.invalidField ∧ t.own = s.own)) = true) ∧
    (∃ (s : State) (d : Nat), s.boot.held = .off ∧ s.ownState = 2 ∧ s.own.due = some d ∧ d ≤ s.cycle ∧ ends (exec
      .handoverTimeout s) (fun t => decide (t.ownState = 1 ∧ t.owner = s.owner)) = true) ∧
    (∃ (s : State) (d : Nat), s.boot.held = .off ∧ s.ownState = 3 ∧ s.own.due = some d ∧ d ≤ s.cycle ∧ ends (exec
      .graceExpiry s) (fun t => decide (t.ownState = 0 ∧ t.owner = 0)) = true) ∧
    (∃ (s : State), s.boot.held = .off ∧ s.owner = 3 ∧ s.ownState = 1 ∧ s.fget Reg.OWN_CFG_GRACE ≠ 0 ∧ s.mctp.lastAt + max 1
      (s.fget Reg.OWN_CFG_SMBTMO) * 10 ^ 9 ≤ s.cycle ∧ ends (exec .smbusOwnerTimeout s) (fun t => decide (t.ownState = 3 ∧
      t.owner = 3)) = true) ∧
    (∃ (s : State), s.boot.held = .off ∧ s.owner = 3 ∧ s.ownState = 1 ∧ s.fget Reg.OWN_CFG_GRACE = 0 ∧ s.mctp.lastAt + max 1
      (s.fget Reg.OWN_CFG_SMBTMO) * 10 ^ 9 ≤ s.cycle ∧ ends (exec .smbusOwnerTimeout s) (fun t => decide (t.ownState = 0 ∧
      t.owner = 0)) = true) ∧
    (∃ (s : State) (m : Fin 2), s.boot.held = .off ∧ s.portOn m = true ∧ s.ownState = 0 ∧ s.own.barToken.get m ≠ 0 ∧ ends
      (exec (.bar2OwnAction m 0xC (.write 1)) s) (fun t => decide (t.ownState = 1 ∧ t.owner = 1 + m.val ∧ t.own.token =
      s.own.barToken.get m ∧ t.own.barResult.get m = 0)) = true) ∧
    (∃ (s : State) (m : Fin 2) (act : Nat), s.boot.held = .off ∧ s.portOn m = true ∧ act < 2 ^ 32 ∧ act ≠ 1 ∧ act ≠ 4 ∧ ends
      (exec (.bar2OwnAction m 0xC (.write act)) s) (fun t => decide (t.own.barResult.get m = 0xFF ∧ t.ownState = s.ownState))
      = true) ∧
    (∃ (s : State) (m : Fin 2) (w : Nat), s.boot.held = .off ∧ s.portOn m = true ∧ w < 2 ^ 32 ∧ ends (exec (.bar2OwnAction m
      4 (.write w)) s) (fun t => decide (t.own.barToken.get m % 2 ^ 32 = w ∧ t.own.barToken.get m / 2 ^ 32 =
      s.own.barToken.get m / 2 ^ 32)) = true) ∧
    (∃ (s : State) (m : Fin 2), s.boot.held = .off ∧ s.portOn m = true ∧ ends (exec (.bar2OwnAction m 0x10 .read) s) (fun t
      => decide (t.out = .barRead m 0x10 (BitVec.ofNat 32 (256 * s.own.barResult.get m)) :: s.out)) = true) :=
  ⟨⟨(hostedWith (ready 0 (sqe 0xC1 0 [])) [(Reg.OWN_STATE_STATE, 0), (Reg.OWN_STATE_OWNER, 0), (Reg.OWN_STATE_TARGET, 0)]), 5, ready 0 (sqe 0xC1 0 []), ownData 1 0 99, 0, 99, by unfold State.mayExecute; decide +kernel⟩,
   ⟨(hostedWith (ready 0 (sqe 0xC1 0 [])) [(Reg.OWN_STATE_STATE, 1), (Reg.OWN_STATE_OWNER, 3), (Reg.OWN_STATE_TARGET, 0)]).modOwn (fun o => { o with token := 77 }), 5, ready 0 (sqe 0xC1 0 []), ownData 1 0 99, 0, 99, by unfold State.mayExecute; decide +kernel⟩,
   ⟨(hostedWith (ready 0 (sqe 0xC1 0 [])) [(Reg.OWN_STATE_STATE, 1), (Reg.OWN_STATE_OWNER, 1), (Reg.OWN_STATE_TARGET, 0)]).modOwn (fun o => { o with token := 77 }), 5, ready 0 (sqe 0xC1 0 []), ownData 2 3 77, 3, 77, by unfold State.mayExecute; decide +kernel⟩,
   ⟨(hostedWith (ready 0 (sqe 0xC1 0 [])) [(Reg.OWN_STATE_STATE, 2), (Reg.OWN_STATE_OWNER, 3), (Reg.OWN_STATE_TARGET, 1)]).modOwn (fun o => { o with token := 77 }), 5, ready 0 (sqe 0xC1 0 []), ownData 3 0 99, 0, 99, by unfold State.mayExecute; decide +kernel⟩,
   ⟨(hostedWith (ready 0 (sqe 0xC1 0 [])) [(Reg.OWN_STATE_STATE, 1), (Reg.OWN_STATE_OWNER, 1), (Reg.OWN_STATE_TARGET, 0)]).modOwn (fun o => { o with token := 77 }), 5, ready 0 (sqe 0xC1 0 []), ownData 4 0 77, 0, 77, by unfold State.mayExecute; decide +kernel⟩,
   ⟨(hostedWith (ready 0 (sqe 0xC1 0 [])) [(Reg.OWN_STATE_STATE, 1), (Reg.OWN_STATE_OWNER, 1), (Reg.OWN_STATE_TARGET, 0)]).modOwn (fun o => { o with token := 77 }), 5, ready 0 (sqe 0xC1 0 []), ownData 4 3 77, 3, 77, by unfold State.mayExecute; decide +kernel⟩,
   ⟨(at_ [(Reg.OWN_STATE_STATE, 2), (Reg.OWN_STATE_OWNER, 3), (Reg.OWN_STATE_TARGET, 1)]).modOwn (fun o => { o with due := some 17 }), 17, by decide +kernel⟩,
   ⟨(at_ [(Reg.OWN_STATE_STATE, 3), (Reg.OWN_STATE_OWNER, 3), (Reg.OWN_STATE_TARGET, 0)]).modOwn (fun o => { o with due := some 17 }), 17, by decide +kernel⟩,
   ⟨{ at_ [(Reg.OWN_STATE_STATE, 1), (Reg.OWN_STATE_OWNER, 3), (Reg.OWN_STATE_TARGET, 0), (Reg.OWN_CFG_GRACE, 5)] with cycle := 10 ^ 12 }, by decide +kernel⟩,
   ⟨{ at_ [(Reg.OWN_STATE_STATE, 1), (Reg.OWN_STATE_OWNER, 3), (Reg.OWN_STATE_TARGET, 0), (Reg.OWN_CFG_GRACE, 0)] with cycle := 10 ^ 12 }, by decide +kernel⟩,
   ⟨(hosted [(Reg.OWN_STATE_STATE, 0), (Reg.OWN_STATE_OWNER, 0), (Reg.OWN_STATE_TARGET, 0)]).modOwn (fun o => { o with barToken := o.barToken.set 0 77 }), 0, by decide +kernel⟩,
   ⟨hosted [(Reg.OWN_STATE_STATE, 1), (Reg.OWN_STATE_OWNER, 1), (Reg.OWN_STATE_TARGET, 0)], 0, 2, by decide +kernel⟩,
   ⟨hosted [], 0, 0x89ABCDEF, by decide +kernel⟩,
   ⟨(hosted []).modOwn (fun o => { o with barResult := o.barResult.set 0 3 }), 0, by decide +kernel⟩⟩

/-- Witness for Obligations.RecorderCommands, clause by clause. -/
theorem witness_RecorderCommands :
    (∃ (s : State) (a : Nat) (c : Ctx), s.mayExecute a c ∧ c.adm 0xC5 = true ∧ c.sqe.action = 0 ∧ ends (exec
      (.evrReadConfiguration a) s) (fun t => decide (t.statusOf a = some St.success ∧ t.out = .hostData a (listedBytes
      (([Reg.EVR_CFG] ++ (List.range 65).map Reg.EVR_LINE_n ++ (List.range 8).flatMap (fun l => (List.range 48).map
      (Reg.EVR_LIST_n_i l))).flatMap (fun r => leBytes (s.rd r).toNat 4))) :: s.out)) = true) ∧
    (∃ (s : State) (a : Nat) (c : Ctx) (k : _), s.mayExecute a c ∧ c.adm 0xC5 = true ∧ c.sqe.action = 1 ∧ wordBits
      c.sqe.cdw13 6 0 = k ∧ k ≤ 64 ∧ ends (exec (.evrSetLine a) s) (fun t => decide (t.statusOf a = some St.success ∧ t.fget
      (Reg.EVR_LINE_n_EN k) = wordBits c.sqe.cdw14 7 7 ∧ t.fget (Reg.EVR_LINE_n_MINSEV k) = wordBits c.sqe.cdw14 5 4 ∧ t.fget
      (Reg.EVR_LINE_n_SNAP k) = wordBits c.sqe.cdw14 3 3 ∧ t.fget (Reg.EVR_LINE_n_LIST k) = wordBits c.sqe.cdw14 2 0)) = true) ∧
    (∃ (s : State) (a : Nat) (c : Ctx) (data : List Word), s.mayExecute a c ∧ c.adm 0xC5 = true ∧ c.sqe.action = 2 ∧ (∀ i, i
      < 48 → listEntryOk (data.getD i 0#32).toNat = true) ∧ ends (exec (.evrWriteList a data) s) (fun t => decide (t.statusOf
      a = some St.success ∧ ∀ i ∈ List.range 48, i < 48 → t.rd (Reg.EVR_LIST_n_i (wordBits c.sqe.cdw13 2 0) i) = data.getD i
      0#32)) = true) ∧
    (∃ (s : State) (a : Nat) (c : Ctx) (data : List Word) (i : _), s.mayExecute a c ∧ c.adm 0xC5 = true ∧ c.sqe.action = 2 ∧
      i < 48 ∧ listEntryOk (data.getD i 0#32).toNat = false ∧ ends (exec (.evrWriteList a data) s) (fun t => decide
      (t.statusOf a = some St.invalidField ∧ ∀ r ∈ keys s t, r ≠ Reg.EVR_DROPQ → t.rd r = s.rd r)) = true) ∧
    (∃ (s : State) (a : Nat) (c : Ctx), s.mayExecute a c ∧ c.adm 0xC5 = true ∧ c.sqe.action = 3 ∧ ends (exec
      (.evrSetConfiguration a) s) (fun t => decide (t.statusOf a = some St.success ∧ t.fget Reg.EVR_CFG_FRZ = wordBits
      c.sqe.cdw14 31 31 ∧ t.fget Reg.EVR_CFG_MIRSEV = wordBits c.sqe.cdw14 9 8)) = true) ∧
    (∃ (s : State) (a : Nat) (c : Ctx), s.mayExecute a c ∧ c.adm 0xC5 = true ∧ c.sqe.action = 4 ∧ ends (exec (.evrClear a)
      s) (fun t => decide (t.statusOf a = some St.success ∧ t.validSlots = [])) = true) ∧
    (∃ (s : State) (a : Nat) (c : Ctx), s.mayExecute a c ∧ c.adm 0xC5 = true ∧ c.sqe.action = 5 ∧ ends (exec (.evrUnfreeze
      a) s) (fun t => decide (t.statusOf a = some St.success ∧ t.fget Reg.EVR_STATUS_FROZEN = 0)) = true) ∧
    (∃ (s : State) (a : Nat) (c : Ctx) (data : List Byte), s.mayExecute a c ∧ c.adm 0xC5 = true ∧ c.sqe.action = 6 ∧
      s.evr.staged = [] ∧ s.evr.queue.length < 64 ∧ s.fbit (Reg.EVR_LINE_n_EN 0x40) = true ∧ s.fget (Reg.EVR_LINE_n_MINSEV
      0x40) ≤ 1 ∧ s.fbit Reg.EVR_STATUS_FROZEN = false ∧ ends (exec (.evrPostMarker a data) s) (fun t => decide (t.statusOf a
      = some St.success ∧ t.evr.queue = s.evr.queue ++ [((t.evr.queue.headD ⟨0, 0, 0, 0, 0, .trace, none, [], 0⟩))] ∧
      ((t.evr.queue.headD ⟨0, 0, 0, 0, 0, .trace, none, [], 0⟩)).line = 0x40 ∧ ((t.evr.queue.headD ⟨0, 0, 0, 0, 0, .trace,
      none, [], 0⟩)).cause = 0xFFFFFFFE ∧ ((t.evr.queue.headD ⟨0, 0, 0, 0, 0, .trace, none, [], 0⟩)).sev = .notice ∧
      ((t.evr.queue.headD ⟨0, 0, 0, 0, 0, .trace, none, [], 0⟩)).payload = padTo 24 data ∧ ((t.evr.queue.headD ⟨0, 0, 0, 0,
      0, .trace, none, [], 0⟩)).stamp = s.stamp)) = true) :=
  ⟨⟨(hostedWith (ready 0 (sqe 0xC5 0 [0x0, 0x0, 0x0])) []), 5, ready 0 (sqe 0xC5 0 [0x0, 0x0, 0x0]), by unfold State.mayExecute; decide +kernel⟩,
   ⟨(hostedWith (ready 0 (sqe 0xC5 0 [0x0, 0x0, 0x1, 0x7, 0xad])) []), 5, ready 0 (sqe 0xC5 0 [0x0, 0x0, 0x1, 0x7, 0xad]), 7, by unfold State.mayExecute; decide +kernel⟩,
   ⟨(hostedWith (ready 0 (sqe 0xC5 0 [0x0, 0x0, 0x2, 0x3])) []), 5, ready 0 (sqe 0xC5 0 [0x0, 0x0, 0x2, 0x3]), List.replicate 48 0#32, by unfold State.mayExecute; decide +kernel⟩,
   ⟨(hostedWith (ready 0 (sqe 0xC5 0 [0x0, 0x0, 0x2, 0x3])) []), 5, ready 0 (sqe 0xC5 0 [0x0, 0x0, 0x2, 0x3]), [3#32], 0, by unfold State.mayExecute; decide +kernel⟩,
   ⟨(hostedWith (ready 0 (sqe 0xC5 0 [0x0, 0x0, 0x3, 0x0, 0x80000200])) []), 5, ready 0 (sqe 0xC5 0 [0x0, 0x0, 0x3, 0x0, 0x80000200]), by unfold State.mayExecute; decide +kernel⟩,
   ⟨(hostedWith (ready 0 (sqe 0xC5 0 [0x0, 0x0, 0x4])) [(Reg.EVR_STATUS_FROZEN, 1)]), 5, ready 0 (sqe 0xC5 0 [0x0, 0x0, 0x4]), by unfold State.mayExecute; decide +kernel⟩,
   ⟨(hostedWith (ready 0 (sqe 0xC5 0 [0x0, 0x0, 0x5])) [(Reg.EVR_STATUS_FROZEN, 1)]), 5, ready 0 (sqe 0xC5 0 [0x0, 0x0, 0x5]), by unfold State.mayExecute; decide +kernel⟩,
   ⟨(hostedWith (ready 0 (sqe 0xC5 0 [0x0, 0x0, 0x6])) [(Reg.EVR_LINE_n_EN 0x40, 1), (Reg.EVR_LINE_n_MINSEV 0x40, 1)]), 5, ready 0 (sqe 0xC5 0 [0x0, 0x0, 0x6]), [1#8, 2#8], by unfold State.mayExecute; decide +kernel⟩⟩

/-- Witness for Obligations.ImageUpdates, clause by clause. -/
theorem witness_ImageUpdates :
    (∃ (s : State) (a : Nat) (c : Ctx) (data : List Byte), s.mayExecute a c ∧ c.adm 0x11 = true ∧ 4 * (c.sqe.cdw10.toNat +
      1) % 4096 = 0 ∧ 4 * c.sqe.cdw11.toNat % 4096 = 0 ∧ 4 * c.sqe.cdw11.toNat + 4 * (c.sqe.cdw10.toNat + 1) ≤ 6 * 2 ^ 20 ∧
      data.length = 4 * (c.sqe.cdw10.toNat + 1)) ∧
    (∃ (s : State) (a : Nat) (c : Ctx) (data : List Byte), s.mayExecute a c ∧ c.adm 0x11 = true ∧ 4 * (c.sqe.cdw10.toNat +
      1) % 4096 ≠ 0 ∧ ends (exec (.firmwareImageDownload a data) s) (fun t => decide (t.statusOf a = some St.invalidField ∧
      t.host.fwPieces = s.host.fwPieces)) = true) ∧
    (∃ (s : State) (a : Nat) (c : Ctx) (k : _), s.mayExecute a c ∧ c.adm 0x10 = true ∧ s.updateWaits a = false ∧ wordBits
      c.sqe.cdw10 5 3 = 0 ∧ s.commitSlot (wordBits c.sqe.cdw10 2 0) = k ∧ s.host.fwPieces ≠ [] ∧ s.fwOk s.fwJoined = true ∧
      ends (exec (.firmwareCommitStore a true) s) (fun t => decide (t.statusOf a = some St.success ∧ t.fwSlot k = some
      s.fwJoined ∧ t.settings = s.settings)) = true) ∧
    (∃ (s : State) (a : Nat) (c : Ctx) (ok : _), s.mayExecute a c ∧ c.adm 0x10 = true ∧ s.updateWaits a = false ∧ wordBits
      c.sqe.cdw10 5 3 = 0 ∧ s.fwOk s.fwJoined = false ∧ ends (exec (.firmwareCommitStore a ok) s) (fun t => decide
      (t.statusOf a = some St.invalidField ∧ t.boot.fw = s.boot.fw)) = true) ∧
    (∃ (s : State) (a : Nat) (c : Ctx) (k : _), s.mayExecute a c ∧ c.adm 0x10 = true ∧ s.updateWaits a = false ∧ wordBits
      c.sqe.cdw10 5 3 = 1 ∧ s.commitSlot (wordBits c.sqe.cdw10 2 0) = k ∧ s.host.fwPieces ≠ [] ∧ s.fwOk s.fwJoined = true ∧
      ends (exec (.firmwareCommitStoreActivate a true true) s) (fun t => decide (t.statusOf a = some St.success ∧ t.fwSlot k
      = some s.fwJoined ∧ t.settings.fwNext = k)) = true) ∧
    (∃ (s : State) (a : Nat) (c : Ctx) (k : _), s.mayExecute a c ∧ c.adm 0x10 = true ∧ s.updateWaits a = false ∧ wordBits
      c.sqe.cdw10 5 3 = 2 ∧ s.commitSlot (wordBits c.sqe.cdw10 2 0) = k ∧ s.fwSlotOk k = true ∧ ends (exec
      (.firmwareCommitActivate a true) s) (fun t => decide (t.statusOf a = some St.success ∧ t.settings.fwNext = k)) = true) ∧
    (∃ (s : State) (a : Nat) (c : Ctx) (ok : _), s.mayExecute a c ∧ c.adm 0x10 = true ∧ s.updateWaits a = false ∧ wordBits
      c.sqe.cdw10 5 3 = 2 ∧ s.fwSlotOk (s.commitSlot (wordBits c.sqe.cdw10 2 0)) = false ∧ ends (exec
      (.firmwareCommitActivate a ok) s) (fun t => decide (t.statusOf a = some St.invalidField ∧ t.settings = s.settings)) =
      true) ∧
    (∃ (s : State) (a : Nat) (c : Ctx) (img : CsImage), s.mayExecute a c ∧ c.adm 0xC3 = true ∧ s.updateWaits a = false ∧
      c.sqe.ndt = imageNdt img.len ∧ csCustomerOk img s.dpi.ckeyHash = true ∧ s.customerRuns = false ∧ ends (exec
      (.customerMicrocodeLoad a img [] true) s) (fun t => decide (t.statusOf a = some St.success ∧ t.fget
      Reg.TRS_CENTRY_LO_VALID = img.entryValid % 2 ^ 32 ∧ t.fget Reg.TRS_CENTRY_HI_VALID = img.entryValid / 2 ^ 32 ∧ t.fget
      Reg.TRS_CS_CTRL_COPEN = 0)) = true) ∧
    (∃ (s : State) (a : Nat) (c : Ctx) (img : CsImage) (wrong : _) (ok : _), s.mayExecute a c ∧ c.adm 0xC3 = true ∧
      s.updateWaits a = false ∧ csCustomerOk img s.dpi.ckeyHash = false ∧ ends (exec (.customerMicrocodeLoad a img wrong ok)
      s) (fun t => decide (t.statusOf a = some St.invalidField ∧ t.cs = s.cs)) = true) ∧
    (∃ (s : State) (a : Nat) (c : Ctx) (d : _) (ok : _) (ok' : _), s.mayExecute a c ∧ c.adm 0xC6 = true ∧ s.updateWaits a =
      false ∧ c.sqe.action = 0 ∧ s.dpiOk d = false ∧ ends (exec (.dpiLoad a d ok ok') s) (fun t => decide (t.statusOf a =
      some St.invalidField ∧ t.boot.dpis = s.boot.dpis)) = true) ∧
    (∃ (s : State) (a : Nat) (c : Ctx) (ok : _), s.mayExecute a c ∧ c.adm 0xC6 = true ∧ s.updateWaits a = false ∧
      c.sqe.action = 1 ∧ s.dpiSlotOk (1 - s.settings.dpi) = false ∧ ends (exec (.dpiActivateOther a ok) s) (fun t => decide
      (t.statusOf a = some St.invalidField ∧ t.settings = s.settings)) = true) :=
  ⟨⟨(hostedWith (ready 0 (sqe 0x11 0 [0x3ff, 0x800])) []), 5, ready 0 (sqe 0x11 0 [0x3ff, 0x800]), List.replicate 4096 0#8, ⟨by unfold State.mayExecute; decide +kernel, by decide +kernel, by decide +kernel, by decide +kernel, by decide +kernel, List.length_replicate⟩⟩,
   ⟨(hostedWith (ready 0 (sqe 0x11 0 [0x3e8, 0x800])) []), 5, ready 0 (sqe 0x11 0 [0x3e8, 0x800]), [], by unfold State.mayExecute; decide +kernel⟩,
   ⟨(hostedWith (ready 0 (sqe 0x10 0 [0x2])) []).otpProgram 0x100 keyHash |>.modHost (fun h => { h with fwPieces := [(0, fwImage.bytes)] }), 5, ready 0 (sqe 0x10 0 [0x2]), 2, by unfold State.mayExecute; decide +kernel⟩,
   ⟨(hostedWith (ready 0 (sqe 0x10 0 [0x2])) []).modHost (fun h => { h with fwPieces := [(0, fwImage.bytes)] }), 5, ready 0 (sqe 0x10 0 [0x2]), true, by unfold State.mayExecute; decide +kernel⟩,
   ⟨(hostedWith (ready 0 (sqe 0x10 0 [0xa])) []).otpProgram 0x100 keyHash |>.modHost (fun h => { h with fwPieces := [(0, fwImage.bytes)] }), 5, ready 0 (sqe 0x10 0 [0xa]), 2, by unfold State.mayExecute; decide +kernel⟩,
   ⟨(hostedWith (ready 0 (sqe 0x10 0 [0x12])) []).otpProgram 0x100 keyHash |>.modBoot (fun b => { b with fw := ⟨none, some fwImage⟩ }), 5, ready 0 (sqe 0x10 0 [0x12]), 2, by unfold State.mayExecute; decide +kernel⟩,
   ⟨(hostedWith (ready 0 (sqe 0x10 0 [0x12])) []), 5, ready 0 (sqe 0x10 0 [0x12]), true, by unfold State.mayExecute; decide +kernel⟩,
   ⟨hostedWith custLoad [], 5, custLoad, csImage, by unfold State.mayExecute; decide +kernel⟩,
   ⟨(hostedWith (ready 0 (sqe 0xC3 0 [0x0])) []), 5, ready 0 (sqe 0xC3 0 [0x0]), ⟨[]⟩, [], true, by unfold State.mayExecute; decide +kernel⟩,
   ⟨(hostedWith (ready 0 (sqe 0xC6 0 [0x19, 0x0, 0x0])) []), 5, ready 0 (sqe 0xC6 0 [0x19, 0x0, 0x0]), dpi, true, true, by unfold State.mayExecute; decide +kernel⟩,
   ⟨(hostedWith (ready 0 (sqe 0xC6 0 [0x0, 0x0, 0x1])) []), 5, ready 0 (sqe 0xC6 0 [0x0, 0x0, 0x1]), true, by unfold State.mayExecute; decide +kernel⟩⟩

/-- Witness for Obligations.OtpProgramming, clause by clause. -/
theorem witness_OtpProgramming :
    (∃ (s : State) (a : Nat) (c : Ctx) (data : List Byte) (g : _), s.mayExecute a c ∧ c.adm 0xC4 = true ∧ s.updateWaits a =
      false ∧ c.sqe.action = 1 ∧ g < 4 ∧ (∀ j, j < g → s.crecUsed j = true) ∧ s.crecUsed g = false ∧ s.crecUsed 3 = false ∧
      (data.getD 0xB 0#8).toNat ≤ s.activeGen.elim 0 (fun j => s.otpByte (0x30B + 64 * j)) ∧ ends (exec
      (.otpProgramConfigRecord a data true) s) (fun t => decide (t.statusOf a = some St.success ∧ t.dw0Of a = some 0 ∧
      t.otpBytes 64 (0x300 + 64 * g) = crecBytes data g)) = true) ∧
    (∃ (s : State) (a : Nat) (c : Ctx) (data : List Byte) (ok : _), s.mayExecute a c ∧ c.adm 0xC4 = true ∧ s.updateWaits a =
      false ∧ c.sqe.action = 1 ∧ s.crecUsed 3 = true ∧ ends (exec (.otpProgramConfigRecord a data ok) s) (fun t => decide
      (t.statusOf a = some St.invalidField ∧ t.boot.otp = s.boot.otp)) = true) ∧
    (∃ (s : State) (a : Nat) (c : Ctx) (data : List Byte) (k : _), s.mayExecute a c ∧ c.adm 0xC4 = true ∧ s.updateWaits a =
      false ∧ c.sqe.action = 2 ∧ k < 4 ∧ (∀ j, j < k → s.otpBlank 48 (0x200 + 48 * j) = false) ∧ s.otpBlank 48 (0x200 + 48 *
      k) = true ∧ data.length = 48 ∧ ends (exec (.otpProgramDpiKey a data true) s) (fun t => decide (t.statusOf a = some
      St.success ∧ t.dw0Of a = some 0 ∧ t.otpBytes 48 (0x200 + 48 * k) = data)) = true) ∧
    (∃ (s : State) (a : Nat) (c : Ctx), s.mayExecute a c ∧ c.adm 0xC4 = true ∧ s.updateWaits a = false ∧ c.sqe.action = 3 ∧
      (∃ j, j < 4 ∧ j ≠ wordBits c.sqe.cdw13 1 0 ∧ s.dkeyUsable j = true) ∧ ends (exec (.otpRevokeDpiKey a true) s) (fun t =>
      decide (t.statusOf a = some St.success ∧ t.dkeyUsable (wordBits c.sqe.cdw13 1 0) = false)) = true) ∧
    (∃ (s : State) (a : Nat) (c : Ctx) (ok : _), s.mayExecute a c ∧ c.adm 0xC4 = true ∧ s.updateWaits a = false ∧
      c.sqe.action = 3 ∧ (∀ j, j < 4 → j ≠ wordBits c.sqe.cdw13 1 0 → s.dkeyUsable j = false) ∧ ends (exec (.otpRevokeDpiKey
      a ok) s) (fun t => decide (t.statusOf a = some St.invalidField ∧ t.boot.otp = s.boot.otp)) = true) ∧
    (∃ (s : State) (a : Nat) (c : Ctx), s.mayExecute a c ∧ c.adm 0xC4 = true ∧ s.updateWaits a = false ∧ c.sqe.action = 4 ∧
      (∃ j, j < 4 ∧ j ≠ wordBits c.sqe.cdw13 1 0 ∧ s.rootUsable j = true) ∧ ends (exec (.otpRevokeRootKey a true) s) (fun t
      => decide (t.statusOf a = some St.success ∧ t.rootUsable (wordBits c.sqe.cdw13 1 0) = false)) = true) ∧
    (∃ (s : State) (a : Nat) (c : Ctx) (f : FwImage), s.mayExecute a c ∧ c.adm 0xC4 = true ∧ s.updateWaits a = false ∧
      c.sqe.action = 5 ∧ s.boot.fwRun = some f ∧ wordBits c.sqe.cdw13 8 0 ≤ f.svn ∧ s.fwSvn < wordBits c.sqe.cdw13 8 0 ∧
      wordBits c.sqe.cdw13 8 0 ≤ 256 ∧ ends (exec (.otpRaiseFwSvn a true) s) (fun t => decide (t.statusOf a = some St.success
      ∧ wordBits c.sqe.cdw13 8 0 ≤ t.fwSvn)) = true) ∧
    (∃ (s : State) (a : Nat) (c : Ctx) (ok : _), s.mayExecute a c ∧ c.adm 0xC4 = true ∧ s.updateWaits a = false ∧
      c.sqe.action = 6 ∧ s.dpiOn = true ∧ wordBits c.sqe.cdw13 8 0 ≤ s.dpi.svn ∧ wordBits c.sqe.cdw13 8 0 ≤ s.dpiSvn ∧ ends
      (exec (.otpRaiseDpiSvn a ok) s) (fun t => decide (t.statusOf a = some St.success ∧ t.boot.otp = s.boot.otp)) = true) ∧
    (∃ (s : State) (a : Nat) (c : Ctx), s.mayExecute a c ∧ c.adm 0xC4 = true ∧ s.updateWaits a = false ∧ c.sqe.action = 6 ∧
      s.dpiOn = true ∧ wordBits c.sqe.cdw13 8 0 ≤ s.dpi.svn ∧ s.dpiSvn < wordBits c.sqe.cdw13 8 0 ∧ wordBits c.sqe.cdw13 8 0
      ≤ 256 ∧ ends (exec (.otpRaiseDpiSvn a true) s) (fun t => decide (t.statusOf a = some St.success ∧ wordBits c.sqe.cdw13
      8 0 ≤ t.dpiSvn)) = true) :=
  ⟨⟨(hostedWith (ready 0 (sqe 0xC4 0 [0x0, 0x0, 0x1])) []), 5, ready 0 (sqe 0xC4 0 [0x0, 0x0, 0x1]), crecData, 0, by unfold State.mayExecute; decide +kernel⟩,
   ⟨(hostedWith (ready 0 (sqe 0xC4 0 [0x0, 0x0, 0x1])) []).otpProgram 0x3C0 keyHash, 5, ready 0 (sqe 0xC4 0 [0x0, 0x0, 0x1]), crecData, true, by unfold State.mayExecute; decide +kernel⟩,
   ⟨(hostedWith (ready 0 (sqe 0xC4 0 [0x0, 0x0, 0x2])) []), 5, ready 0 (sqe 0xC4 0 [0x0, 0x0, 0x2]), keyHash, 0, by unfold State.mayExecute; decide +kernel⟩,
   ⟨(hostedWith (ready 0 (sqe 0xC4 0 [0x0, 0x0, 0x3, 0x1])) []).otpProgram 0x200 keyHash, 5, ready 0 (sqe 0xC4 0 [0x0, 0x0, 0x3, 0x1]), by unfold State.mayExecute; decide +kernel⟩,
   ⟨(hostedWith (ready 0 (sqe 0xC4 0 [0x0, 0x0, 0x3, 0x0])) []).otpProgram 0x200 keyHash, 5, ready 0 (sqe 0xC4 0 [0x0, 0x0, 0x3, 0x0]), true, by unfold State.mayExecute; decide +kernel⟩,
   ⟨(hostedWith (ready 0 (sqe 0xC4 0 [0x0, 0x0, 0x4, 0x1])) []).otpProgram 0x100 keyHash, 5, ready 0 (sqe 0xC4 0 [0x0, 0x0, 0x4, 0x1]), by unfold State.mayExecute; decide +kernel⟩,
   ⟨(hostedWith (ready 0 (sqe 0xC4 0 [0x0, 0x0, 0x5, 0x3])) []).modBoot (fun b => { b with fwRun := some fwImage }), 5, ready 0 (sqe 0xC4 0 [0x0, 0x0, 0x5, 0x3]), fwImage, by unfold State.mayExecute; decide +kernel⟩,
   ⟨(hostedWith (ready 0 (sqe 0xC4 0 [0x0, 0x0, 0x6, 0x0])) []), 5, ready 0 (sqe 0xC4 0 [0x0, 0x0, 0x6, 0x0]), true, by unfold State.mayExecute; decide +kernel⟩,
   ⟨(hostedWith (ready 0 (sqe 0xC4 0 [0x0, 0x0, 0x6, 0x1])) []), 5, ready 0 (sqe 0xC4 0 [0x0, 0x0, 0x6, 0x1]), by unfold State.mayExecute; decide +kernel⟩⟩

/-- Witness for Obligations.WritesAndTheCache, clause by clause. -/
theorem witness_WritesAndTheCache :
    (∃ (s : State) (a : Nat) (c : Ctx) (n : Ns) (data : List (List Byte)) (pays : _), s.nspace c.sqe.nsid = some n ∧
      s.mayExecute a c ∧ c.io 0x01 = true ∧ c.stallWc = false ∧ n.compressed = false ∧ s.cacheRoom c = true ∧ s.slotEmpty
      n.nsid c.slba (c.slba + c.sqe.nlb) = false ∧ ends (exec (.write a (some data) pays []) s) (fun t => decide (t.ctx a =
      some { c with started := true, data := data, pays := pays })) = true) ∧
    (∃ (s : State) (a : Nat) (c : Ctx) (n : Ns) (pays : _), s.nspace c.sqe.nsid = some n ∧ s.mayExecute a c ∧ c.io 0x01 =
      true ∧ c.stallWc = false ∧ s.cacheRoom c = true ∧ s.slotEmpty n.nsid c.slba (c.slba + c.sqe.nlb) = false ∧ ends (exec
      (.write a none pays []) s) (fun t => decide (t.statusOf a = some St.transferError)) = true) ∧
    (∃ (s : State) (a : Nat) (c : Ctx) (n : Ns) (data : _) (pays : _), s.nspace c.sqe.nsid = some n ∧ s.mayExecute a c ∧
      c.io 0x01 = true ∧ c.stallWc = false ∧ s.cacheRoom c = false ∧ ends (exec (.write a data pays []) s) (fun t => decide
      (t.ctx a = some { c with stallWc := true } ∧ (t.rd Reg.HQE_STALL_WC).toNat = min ((s.rd Reg.HQE_STALL_WC).toNat + 1)
      0xFFFFFFFF)) = true) ∧
    (∃ (s : State) (a : Nat) (c : Ctx) (n : Ns) (data : List (List Byte)) (pays : _), s.nspace c.sqe.nsid = some n ∧
      s.mayExecute a c ∧ c.io 0x7D = true ∧ c.stallWc = false ∧ n.compressed = false ∧ s.cacheRoom c = true ∧ s.slotEmpty
      n.nsid c.slba (c.slba + c.sqe.nlb) = false ∧ ends (exec (.zoneAppend a (some data) pays []) s) (fun t => decide (t.ctx
      a = some { c with started := true, data := data, pays := pays })) = true) ∧
    (∃ (s : State) (a : Nat) (c : Ctx) (n : Ns) (pays : _), s.nspace c.sqe.nsid = some n ∧ s.mayExecute a c ∧ c.io 0x08 =
      true ∧ c.stallWc = false ∧ n.compressed = false ∧ s.cacheRoom c = true ∧ s.slotEmpty n.nsid c.slba (c.slba + c.sqe.nlb)
      = false ∧ ends (exec (.writeZeroes a pays) s) (fun t => decide (t.ctx a = some
      { c with started := true, data := [], pays := pays })) = true) ∧
    (∃ (s : State) (a : Nat) (c : Ctx) (n : Ns), s.nspace c.sqe.nsid = some n ∧ s.boot.held = .off ∧ s.ctx a = some c ∧
      c.stallWc = true ∧ s.cacheRoom c = true ∧ ends (exec (.dirtyLimitResume a) s) (fun t => decide (t.ctx a = some
      { c with stallWc := false })) = true) ∧
    (∃ (s : State) (a : Nat) (c : Ctx) (n : Ns), s.nspace c.sqe.nsid = some n ∧ s.boot.held = .off ∧ s.recov.stopped = false
      ∧ s.ctx a = some c ∧ c.writes = true ∧ c.started = true ∧ c.stored = false ∧ c.status = none ∧ s.cachedWrite c = true ∧
      n.zoned = false ∧ ends (exec (.dataStored a []) s) (fun t => decide (t.statusOf a = some St.success ∧ ∀ i ∈ List.range
      2, (t.block c.sqe.nsid (c.slba + i)).map (fun b => (b.dirty, b.arr, b.failed, b.unrec)) = some (true, c.arr, false,
      false))) = true) ∧
    (∃ (s : State) (a : Nat) (c : Ctx) (n : Ns), s.nspace c.sqe.nsid = some n ∧ s.boot.held = .off ∧ s.recov.stopped = false
      ∧ s.ctx a = some c ∧ c.writes = true ∧ c.started = true ∧ c.stored = false ∧ c.status = none ∧ s.cachedWrite c = true ∧
      n.kind = .zoned ∧ (n.zone (c.slba / zoneLbas)).st ≠ .readOnly ∧ (n.zone (c.slba / zoneLbas)).st ≠ .offline ∧ ends (exec
      (.dataStored a []) s) (fun t => decide (t.statusOf a = some St.success ∧ t.nspace c.sqe.nsid = some ((t.nspace 1).getD
      nsc) ∧ (((t.nspace 1).getD nsc).zone (c.slba / zoneLbas)).wp = (n.zone (c.slba / zoneLbas)).wp + c.sqe.nlb ∧ (zoneLbas
      ≤ (n.zone (c.slba / zoneLbas)).wp + c.sqe.nlb → (((t.nspace 1).getD nsc).zone (c.slba / zoneLbas)).st = .full))) = true) ∧
    (∃ (s : State) (a : Nat) (c : Ctx) (n : Ns), s.nspace c.sqe.nsid = some n ∧ s.boot.held = .off ∧ s.recov.stopped = false
      ∧ s.ctx a = some c ∧ c.writes = true ∧ c.started = true ∧ c.stored = false ∧ c.status = none ∧ s.cachedWrite c = true ∧
      n.kind = .zoned ∧ (n.zone (c.slba / zoneLbas)).st = .readOnly ∧ ends (exec (.dataStored a []) s) (fun t => decide
      (t.statusOf a = some St.zoneReadOnly ∧ t.ns = s.ns)) = true) :=
  ⟨⟨(hostedWith (ready 3 (sqe 0x01 1 [0x8, 0x0, 0x1])) []), 5, ready 3 (sqe 0x01 1 [0x8, 0x0, 0x1]), nsc, [[1#8], [2#8]], [], by unfold State.mayExecute; decide +kernel⟩,
   ⟨(hostedWith (ready 3 (sqe 0x01 1 [0x8, 0x0, 0x1])) []), 5, ready 3 (sqe 0x01 1 [0x8, 0x0, 0x1]), nsc, [], by unfold State.mayExecute; decide +kernel⟩,
   ⟨(hostedWith (ready 3 (sqe 0x01 1 [0x8, 0x0, 0x1])) [(Reg.MSC_DESTAGE_EST_MS, 30000)]), 5, ready 3 (sqe 0x01 1 [0x8, 0x0, 0x1]), nsc, some [], [], by unfold State.mayExecute; decide +kernel⟩,
   ⟨(hostedWith (ready 3 (sqe 0x7D 1 [0x8, 0x0, 0x1])) []), 5, ready 3 (sqe 0x7D 1 [0x8, 0x0, 0x1]), nsc, [[1#8], [2#8]], [], by unfold State.mayExecute; decide +kernel⟩,
   ⟨(hostedWith (ready 3 (sqe 0x08 1 [0x8, 0x0, 0x1])) []), 5, ready 3 (sqe 0x08 1 [0x8, 0x0, 0x1]), nsc, [], by unfold State.mayExecute; decide +kernel⟩,
   ⟨hostedWith { ready 3 (sqe 0x01 1 [0x8, 0x0, 0x1]) with stallWc := true } [], 5, { ready 3 (sqe 0x01 1 [0x8, 0x0, 0x1]) with stallWc := true }, nsc, by decide +kernel⟩,
   ⟨hostedWith { ready 3 (sqe 0x01 1 [0x8, 0x0, 0x1]) with started := true, data := [[1#8], [2#8]] } [], 5, { ready 3 (sqe 0x01 1 [0x8, 0x0, 0x1]) with started := true, data := [[1#8], [2#8]] }, nsc, by decide +kernel⟩,
   ⟨zoned storing .implOpen, 5, storing, nsz .implOpen, by decide +kernel⟩,
   ⟨zoned storing .readOnly, 5, storing, nsz .readOnly, by decide +kernel⟩⟩

/-- Witness for Obligations.ReadsFlushesDeallocation, clause by clause. -/
theorem witness_ReadsFlushesDeallocation :
    (∃ (s : State) (a : Nat) (c : Ctx) (n : Ns), s.mayExecute a c ∧ s.nspace c.sqe.nsid = some n ∧ c.io 0x02 = true ∧
      s.readStatus (s.readOutcome n c.slba c.sqe.nlb) = none ∧ s.slotEmpty n.nsid c.slba (c.slba + c.sqe.nlb) = false ∧
      c.media = 0 ∧ n.compressed = false ∧ ends (exec (.read a [] [] []) s) (fun t => decide (t.statusOf a = some St.success
      ∧ t.out.length = s.out.length + 1)) = true) ∧
    (∃ (s : State) (a : Nat) (c : Ctx) (n : Ns) (posts : _) (seen : _) (merr : _) (st : _), s.mayExecute a c ∧ s.nspace
      c.sqe.nsid = some n ∧ c.io 0x02 = true ∧ s.readStatus (s.readOutcome n c.slba c.sqe.nlb) = some st ∧ ends (exec (.read
      a posts seen merr) s) (fun t => decide (t.statusOf a = some st ∧ t.out = s.out)) = true) ∧
    (∃ (s : State) (a : Nat) (c : Ctx) (n : Ns) (seen : _) (u : State) (l : List (Nat × Byte)), s.mayExecute a c ∧ s.nspace
      c.sqe.nsid = some n ∧ c.io 0x02 = true ∧ s.readStatus (s.readOutcome n c.slba c.sqe.nlb) = none ∧ s.slotEmpty n.nsid
      c.slba (c.slba + c.sqe.nlb) = false ∧ c.media = 0 ∧ n.compressed = true ∧ (s.modCtx a (fun c =>
      { c with started := true })).compRead n c.slba c.sqe.nlb seen = (u, true, l) ∧ ends (exec (.read a [] seen []) s) (fun
      t => decide (t.statusOf a = some St.success ∧ .hostData a l ∈ t.out)) = true) ∧
    (∃ (s : State) (a : Nat) (c : Ctx) (n : Ns) (p : _) (rest : _), s.mayExecute a c ∧ s.nspace c.sqe.nsid = some n ∧ c.io
      0x02 = true ∧ s.readStatus (s.readOutcome n c.slba c.sqe.nlb) = none ∧ s.slotEmpty n.nsid c.slba (c.slba + c.sqe.nlb) =
      false ∧ s.cmdPostable c 1 (p :: rest) = true ∧ ends (exec (.read a (p :: rest) [] []) s) (fun t => decide (t.ctx a =
      some { c with started := true, media := (p :: rest).length })) = true) ∧
    (∃ (s : State) (a : Nat) (c : Ctx) (n : Ns) (k : Lock), s.mayExecute a c ∧ s.nspace c.sqe.nsid = some n ∧ k ∈ c.locks ∧
      c.io 0x09 = true ∧ n.zoned = false ∧ ends (exec (.datasetManagement a) s) (fun t => decide (t.statusOf a = some
      St.success ∧ ∀ lba, lba < k.hi → k.lo ≤ lba → t.block c.sqe.nsid lba = none)) = true) ∧
    (∃ (s : State) (a : Nat) (c : Ctx) (n : Ns), s.mayExecute a c ∧ s.nspace c.sqe.nsid = some n ∧ c.io 0x09 = true ∧
      n.zoned = true ∧ ends (exec (.datasetManagement a) s) (fun t => decide (t.statusOf a = some St.success ∧ t.ns = s.ns))
      = true) ∧
    (∃ (s : State) (a : Nat) (c : Ctx), s.mayExecute a c ∧ c.io 0x00 = true ∧ (∀ n ∈ s.ns.list, n.compressed = false) ∧
      s.flushed c = true ∧ c.covered = [] ∧ s.carried c.ctrl c.arr c.sqe.nsid c.deAt = none ∧ ends (exec (.flush a) s) (fun t
      => decide (t.statusOf a = some St.success)) = true) ∧
    (∃ (s : State) (a : Nat) (c : Ctx) (r : DeRec), s.mayExecute a c ∧ c.io 0x00 = true ∧ (∀ n ∈ s.ns.list, n.compressed =
      false) ∧ s.flushed c = true ∧ c.covered = [] ∧ s.carried c.ctrl c.arr c.sqe.nsid c.deAt = some r ∧ ends (exec (.flush
      a) s) (fun t => decide (t.statusOf a = some St.deferred)) = true) ∧
    (∃ (s : State) (a : Nat) (c : Ctx), s.mayExecute a c ∧ c.io 0x00 = true ∧ (∀ n ∈ s.ns.list, n.compressed = false) ∧
      s.flushed c = false ∧ ends (exec (.flush a) s) (fun t => decide (t.statusOf a = none)) = true) ∧
    (∃ (s : State) (r : PostReq), s.boot.held = .off ∧ s.pagesFree (s.sysDesc r) = true ∧ s.msc.rings.length = 6 ∧ ends
      (exec (.recordPersist [r]) s) (fun t => decide (t.host.de = s.host.de ∧ t.msc.rings.getD r.ring.val [] =
      s.msc.rings.getD r.ring.val [] ++ (t.msc.rings.getD r.ring.val []).drop (s.msc.rings.getD r.ring.val []).length)) =
      true) :=
  ⟨⟨(hostedWith (ready 3 (sqe 0x02 1 [0x8, 0x0, 0x1])) []).modNsSt (fun x => { x with blocks := [(2 ^ 40 + 8, ⟨[1#8, 2#8], true, 3, 0, 3, 9, false, false, 1, none, none, false⟩)] }), 5, ready 3 (sqe 0x02 1 [0x8, 0x0, 0x1]), nsc, by unfold State.mayExecute; decide +kernel⟩,
   ⟨(hostedWith (ready 3 (sqe 0x02 1 [0x8, 0x0, 0x1])) []).modNsSt (fun x => { x with blocks := [(2 ^ 40 + 8, ⟨[1#8, 2#8], false, 3, 0, 3, 9, false, true, 1, none, none, false⟩)] }), 5, ready 3 (sqe 0x02 1 [0x8, 0x0, 0x1]), nsc, [], [], [], St.readError, by unfold State.mayExecute; decide +kernel⟩,
   ⟨{ hostedWith (ready 3 (sqe 0x02 1 [0x8, 0x0, 0x1])) [] with ns := ⟨[{ nsc with kind := .compressed, nsze := 2 ^ 20, bands := 16 }], false, [], [], [], 0⟩ }, 5, ready 3 (sqe 0x02 1 [0x8, 0x0, 0x1]), { nsc with kind := .compressed, nsze := 2 ^ 20, bands := 16 }, [], ((({ hostedWith (ready 3 (sqe 0x02 1 [0x8, 0x0, 0x1])) [] with ns := ⟨[{ nsc with kind := .compressed, nsze := 2 ^ 20, bands := 16 }], false, [], [], [], 0⟩ }).modCtx 5 (fun c => { c with started := true })).compRead ({ nsc with kind := .compressed, nsze := 2 ^ 20, bands := 16 }) 8 2 []).1, ((({ hostedWith (ready 3 (sqe 0x02 1 [0x8, 0x0, 0x1])) [] with ns := ⟨[{ nsc with kind := .compressed, nsze := 2 ^ 20, bands := 16 }], false, [], [], [], 0⟩ }).modCtx 5 (fun c => { c with started := true })).compRead ({ nsc with kind := .compressed, nsze := 2 ^ 20, bands := 16 }) 8 2 []).2.2, by unfold State.mayExecute; decide +kernel⟩,
   ⟨(hostedWith (ready 3 (sqe 0x02 1 [0x8, 0x0, 0x1])) []).modNsSt (fun x => { x with blocks := [(2 ^ 40 + 8, ⟨[1#8, 2#8], true, 3, 0, 3, 9, false, false, 1, none, none, false⟩)] }), 5, ready 3 (sqe 0x02 1 [0x8, 0x0, 0x1]), nsc, read0, [], by unfold State.mayExecute; decide +kernel⟩,
   ⟨hostedWith { ready 3 (sqe 0x09 1 [0x0, 0x4]) with locks := [⟨1, 8, 10, true, false⟩] } []|>.modNsSt (fun x => { x with blocks := [(2 ^ 40 + 8, ⟨[1#8], false, 3, 0, 3, 9, false, false, 1, none, none, false⟩)] }), 5, { ready 3 (sqe 0x09 1 [0x0, 0x4]) with locks := [⟨1, 8, 10, true, false⟩] }, nsc, ⟨1, 8, 10, true, false⟩, by unfold State.mayExecute; decide +kernel⟩,
   ⟨zoned (ready 3 (sqe 0x09 1 [0, 4])) .explOpen, 5, ready 3 (sqe 0x09 1 [0, 4]), nsz .explOpen, by unfold State.mayExecute; decide +kernel⟩,
   ⟨(hostedWith (ready 3 (sqe 0x00 1 [])) []), 5, ready 3 (sqe 0x00 1 []), by unfold State.mayExecute; decide +kernel⟩,
   ⟨(hostedWith { ready 3 (sqe 0x00 1 []) with deAt := 9 } []).modHost (fun h => { h with de := [⟨4, 77, 3, 1, 1, 2, 0, 3, 8, 1, Duo.all false, Duo.all true, false, 0, 0, 0, true⟩] }), 5, { ready 3 (sqe 0x00 1 []) with deAt := 9 }, ⟨4, 77, 3, 1, 1, 2, 0, 3, 8, 1, Duo.all false, Duo.all true, false, 0, 0, 0, true⟩, by unfold State.mayExecute; decide +kernel⟩,
   ⟨(hostedWith (ready 3 (sqe 0x00 1 [])) []).modNsSt (fun x => { x with blocks := [(2 ^ 40 + 8, ⟨[1#8, 2#8], true, 3, 0, 3, 9, false, false, 1, none, none, false⟩)] }), 5, ready 3 (sqe 0x00 1 []), by unfold State.mayExecute; decide +kernel⟩,
   ⟨(hosted []).modHost (fun h => { h with de := [⟨4, 77, 3, 1, 1, 2, 0, 3, 8, 1, Duo.all false, Duo.all true, false, 0, 0, 0, false⟩] }), read0, by decide +kernel⟩⟩

/-- Witness for Obligations.Reservations, clause by clause. -/
theorem witness_Reservations :
    (∃ (s : State) (a : Nat) (c : Ctx) (n : Ns) (cr : Nat) (nr : _), s.mayExecute a c ∧ s.nspace c.sqe.nsid = some n ∧ c.io
      0x0D = true ∧ wordBits c.sqe.cdw10 2 0 = 0 ∧ n.resv.keyOf (s.hostOf c.ctrl) = none ∧ ends (exec (.reservationRegister a
      cr nr) s) (fun t => decide (t.statusOf a = some St.success ∧ t.nspace c.sqe.nsid = some ((t.nspace 1).getD nsc) ∧
      ((t.nspace 1).getD nsc).resv.keyOf (s.hostOf c.ctrl) = some nr)) = true) ∧
    (∃ (s : State) (a : Nat) (c : Ctx) (n : Ns) (cr : Nat) (nr : _) (k : _), s.mayExecute a c ∧ s.nspace c.sqe.nsid = some n
      ∧ c.io 0x0D = true ∧ wordBits c.sqe.cdw10 2 0 = 1 ∧ n.resv.keyOf (s.hostOf c.ctrl) = some k ∧ k ≠ cr ∧
      c.sqe.cdw10.getLsbD 3 = false ∧ ends (exec (.reservationRegister a cr nr) s) (fun t => decide (t.statusOf a = some
      St.reservation ∧ t.ns = s.ns)) = true) ∧
    (∃ (s : State) (a : Nat) (c : Ctx) (n : Ns) (cr : Nat) (pr : _), s.mayExecute a c ∧ s.nspace c.sqe.nsid = some n ∧ c.io
      0x11 = true ∧ wordBits c.sqe.cdw10 2 0 = 0 ∧ n.resv.keyOf (s.hostOf c.ctrl) = some cr ∧ n.resv.rtype = 0 ∧ ends (exec
      (.reservationAcquire a cr pr) s) (fun t => decide (t.statusOf a = some St.success ∧ t.nspace c.sqe.nsid = some
      ((t.nspace 1).getD nsc) ∧ ((t.nspace 1).getD nsc).resv.rtype = wordBits c.sqe.cdw10 15 8 ∧ ((t.nspace 1).getD
      nsc).resv.holder = some (s.hostOf c.ctrl))) = true) ∧
    (∃ (s : State) (a : Nat) (c : Ctx) (n : Ns) (cr : Nat) (pr : _), s.mayExecute a c ∧ s.nspace c.sqe.nsid = some n ∧ c.io
      0x11 = true ∧ n.resv.keyOf (s.hostOf c.ctrl) = none ∧ ends (exec (.reservationAcquire a cr pr) s) (fun t => decide
      (t.statusOf a = some St.reservation ∧ t.ns = s.ns)) = true) ∧
    (∃ (s : State) (a : Nat) (c : Ctx) (n : Ns) (cr : Nat), s.mayExecute a c ∧ s.nspace c.sqe.nsid = some n ∧ c.io 0x15 =
      true ∧ wordBits c.sqe.cdw10 2 0 = 0 ∧ n.resv.keyOf (s.hostOf c.ctrl) = some cr ∧ n.resv.holds (s.hostOf c.ctrl) = true
      ∧ n.resv.rtype = wordBits c.sqe.cdw10 15 8 ∧ ends (exec (.reservationRelease a cr) s) (fun t => decide (t.statusOf a =
      some St.success ∧ t.nspace c.sqe.nsid = some ((t.nspace 1).getD nsc) ∧ ((t.nspace 1).getD nsc).resv.rtype = 0 ∧
      ((t.nspace 1).getD nsc).resv.holder = none ∧ ((t.nspace 1).getD nsc).resv.regs = n.resv.regs)) = true) ∧
    (∃ (s : State) (a : Nat) (c : Ctx) (n : Ns), s.mayExecute a c ∧ s.nspace c.sqe.nsid = some n ∧ c.io 0x0E = true ∧
      n.resv.regs = [] ∧ c.sqe.cdw11.getLsbD 0 = false ∧ 5 ≤ c.sqe.cdw10.toNat ∧ ends (exec (.reservationReport a) s) (fun t
      => decide (t.statusOf a = some St.success ∧ t.out = .hostData a (listedBytes (leBytes n.resv.gen 4 ++ leBytes
      n.resv.rtype 1 ++ leBytes 0 4 ++ leBytes (if n.resv.ptpl then 1 else 0) 1 ++ leBytes 0 14)) :: s.out)) = true) :=
  ⟨⟨(hostedWith (ready 3 (sqe 0x0D 1 [0x0])) []), 5, ready 3 (sqe 0x0D 1 [0x0]), { nsc with resv := ⟨0, none, [], 0, false⟩ }, 11, 22, by unfold State.mayExecute; decide +kernel⟩,
   ⟨(hostedWith (ready 3 (sqe 0x0D 1 [0x1])) []).modNs 1 (fun n => { n with resv := ⟨0, none, [(2 ^ 128, 33)], 0, false⟩ }), 5, ready 3 (sqe 0x0D 1 [0x1]), { nsc with resv := ⟨0, none, [(2 ^ 128, 33)], 0, false⟩ }, 11, 22, 33, by unfold State.mayExecute; decide +kernel⟩,
   ⟨(hostedWith (ready 3 (sqe 0x11 1 [0x100])) []).modNs 1 (fun n => { n with resv := ⟨0, none, [(2 ^ 128, 11)], 0, false⟩ }), 5, ready 3 (sqe 0x11 1 [0x100]), { nsc with resv := ⟨0, none, [(2 ^ 128, 11)], 0, false⟩ }, 11, 0, by unfold State.mayExecute; decide +kernel⟩,
   ⟨(hostedWith (ready 3 (sqe 0x11 1 [0x100])) []), 5, ready 3 (sqe 0x11 1 [0x100]), { nsc with resv := ⟨0, none, [], 0, false⟩ }, 11, 0, by unfold State.mayExecute; decide +kernel⟩,
   ⟨(hostedWith (ready 3 (sqe 0x15 1 [0x100])) []).modNs 1 (fun n => { n with resv := ⟨1, some (2 ^ 128), [(2 ^ 128, 11)], 0, false⟩ }), 5, ready 3 (sqe 0x15 1 [0x100]), { nsc with resv := ⟨1, some (2 ^ 128), [(2 ^ 128, 11)], 0, false⟩ }, 11, by unfold State.mayExecute; decide +kernel⟩,
   ⟨(hostedWith (ready 3 (sqe 0x0E 1 [0x9])) []), 5, ready 3 (sqe 0x0E 1 [0x9]), { nsc with resv := ⟨0, none, [], 0, false⟩ }, by unfold State.mayExecute; decide +kernel⟩⟩

/-- Witness for Obligations.ZoneManagement, clause by clause. -/
theorem witness_ZoneManagement :
    (∃ (s : State) (a : Nat) (c : Ctx) (n : Ns), s.mayExecute a c ∧ s.nspace c.sqe.nsid = some n ∧ c.io 0x79 = true ∧
      c.sqe.selectAll = false ∧ n.kind = .zoned ∧ c.sqe.zoneAction = 1 ∧ (n.zone (c.sqe.slba / zoneLbas)).open? = true ∧ ends
      (exec (.zoneClose a) s) (fun t => decide (t.statusOf a = some St.success ∧ t.nspace c.sqe.nsid = some ((t.nspace
      1).getD nsc) ∧ (((t.nspace 1).getD nsc).zone (c.sqe.slba / zoneLbas)).st = .closed)) = true) ∧
    (∃ (s : State) (a : Nat) (c : Ctx) (n : Ns), s.mayExecute a c ∧ s.nspace c.sqe.nsid = some n ∧ c.io 0x79 = true ∧
      c.sqe.selectAll = false ∧ n.kind = .zoned ∧ c.sqe.zoneAction = 2 ∧ ends (exec (.zoneFinish a) s) (fun t => decide
      (t.statusOf a = some St.success ∧ t.nspace c.sqe.nsid = some ((t.nspace 1).getD nsc) ∧ (((t.nspace 1).getD nsc).zone
      (c.sqe.slba / zoneLbas)).st = .full ∧ (((t.nspace 1).getD nsc).zone (c.sqe.slba / zoneLbas)).wp = (n.zone (c.sqe.slba /
      zoneLbas)).wp)) = true) ∧
    (∃ (s : State) (a : Nat) (c : Ctx) (n : Ns), s.mayExecute a c ∧ s.nspace c.sqe.nsid = some n ∧ c.io 0x79 = true ∧
      c.sqe.selectAll = false ∧ n.kind = .zoned ∧ c.sqe.zoneAction = 3 ∧ ends (exec (.zoneOpen a) s) (fun t => decide
      (t.statusOf a = some St.success ∧ t.nspace c.sqe.nsid = some ((t.nspace 1).getD nsc) ∧ (((t.nspace 1).getD nsc).zone
      (c.sqe.slba / zoneLbas)).st = .explOpen)) = true) ∧
    (∃ (s : State) (a : Nat) (c : Ctx) (n : Ns), s.mayExecute a c ∧ s.nspace c.sqe.nsid = some n ∧ c.io 0x79 = true ∧
      c.sqe.selectAll = false ∧ n.kind = .zoned ∧ c.sqe.zoneAction = 4 ∧ ends (exec (.zoneReset a) s) (fun t => decide
      (t.statusOf a = some St.success ∧ t.nspace c.sqe.nsid = some ((t.nspace 1).getD nsc) ∧ (((t.nspace 1).getD nsc).zone
      (c.sqe.slba / zoneLbas)).st = .empty ∧ (((t.nspace 1).getD nsc).zone (c.sqe.slba / zoneLbas)).wp = 0 ∧ (((t.nspace
      1).getD nsc).zone (c.sqe.slba / zoneLbas)).band = none ∧ ∀ i ∈ ([0, 1, 99, 65535] : List Nat), i < zoneLbas → t.block
      c.sqe.nsid (c.sqe.slba / zoneLbas * zoneLbas + i) = none)) = true) ∧
    (∃ (s : State) (a : Nat) (c : Ctx) (n : Ns), s.mayExecute a c ∧ s.nspace c.sqe.nsid = some n ∧ c.io 0x79 = true ∧
      c.sqe.selectAll = false ∧ n.kind = .zoned ∧ c.sqe.zoneAction = 5 ∧ ends (exec (.zoneOffline a) s) (fun t => decide
      (t.statusOf a = some St.success ∧ t.nspace c.sqe.nsid = some ((t.nspace 1).getD nsc) ∧ (((t.nspace 1).getD nsc).zone
      (c.sqe.slba / zoneLbas)).st = .offline)) = true) ∧
    (∃ (s : State) (a : Nat) (c : Ctx) (n : Ns), s.mayExecute a c ∧ s.nspace c.sqe.nsid = some n ∧ c.io 0x7A = true ∧ ends
      (exec (.zoneManagementReceive a) s) (fun t => decide (t.statusOf a = some St.success ∧ t.out = .hostData a (listedBytes
      (s.zoneReport n c.sqe.slba c.sqe.zras ((c.sqe.cdw12.toNat + 1) * 4) (decide (c.sqe.zoneAction = 1))
      (c.sqe.cdw13.getLsbD 16))) :: s.out)) = true) ∧
    (∃ (s : State) (c : Ctx) (n : Ns), s.boot.held = .off ∧ s.recov.stopped = false ∧ s.fget Reg.SYS_BOOT_MODE ≠ 3 ∧
      s.nextAdmit = some c ∧ s.ctx c.arr = some c ∧ c.io 0x79 = true ∧ c.sqe.zoneAction = 0x10 ∧ s.nspace c.sqe.nsid = some n
      ∧ n.zoned = true ∧ ends (exec (.setZoneDescriptorExtension c.arr) s) (fun t => decide (t.statusOf c.arr = some
      St.invalidField)) = true) :=
  ⟨⟨zoned (ready 3 (sqe 0x79 1 [0x20000, 0, 15, 0x1])) .implOpen, 5, ready 3 (sqe 0x79 1 [0x20000, 0, 15, 0x1]), nsz .implOpen, by unfold State.mayExecute; decide +kernel⟩,
   ⟨zoned (ready 3 (sqe 0x79 1 [0x20000, 0, 15, 0x2])) .implOpen, 5, ready 3 (sqe 0x79 1 [0x20000, 0, 15, 0x2]), nsz .implOpen, by unfold State.mayExecute; decide +kernel⟩,
   ⟨zoned (ready 3 (sqe 0x79 1 [0x20000, 0, 15, 0x3])) .implOpen, 5, ready 3 (sqe 0x79 1 [0x20000, 0, 15, 0x3]), nsz .implOpen, by unfold State.mayExecute; decide +kernel⟩,
   ⟨zoned (ready 3 (sqe 0x79 1 [0x20000, 0, 15, 0x4])) .implOpen, 5, ready 3 (sqe 0x79 1 [0x20000, 0, 15, 0x4]), nsz .implOpen, by unfold State.mayExecute; decide +kernel⟩,
   ⟨zoned (ready 3 (sqe 0x79 1 [0x20000, 0, 15, 0x5])) .implOpen, 5, ready 3 (sqe 0x79 1 [0x20000, 0, 15, 0x5]), nsz .implOpen, by unfold State.mayExecute; decide +kernel⟩,
   ⟨zoned (ready 3 (sqe 0x7A 1 [0x20000, 0, 15, 0x0])) .implOpen, 5, ready 3 (sqe 0x7A 1 [0x20000, 0, 15, 0x0]), nsz .implOpen, by unfold State.mayExecute; decide +kernel⟩,
   ⟨zoned (fetched 3 (sqe 0x79 1 [0x20000, 0, 0, 0x10])) .implOpen, fetched 3 (sqe 0x79 1 [0x20000, 0, 0, 0x10]), nsz .implOpen, by decide +kernel⟩⟩

/-- Witness for Obligations.KeyOperations, clause by clause. -/
theorem witness_KeyOperations :
    (∃ (s : State) (m : _) (slot : _) (auth : _), s.boot.held = .off ∧ s.xtsMaster m = true ∧ s.fbit Reg.XTS_STATUS_BUSY =
      false ∧ ends (exec (.xtsGenerate m slot auth) s) (fun t => decide (t.xts.op = some ⟨1, slot, auth⟩ ∧ t.fget
      Reg.XTS_STATUS_BUSY = 1)) = true) ∧
    (∃ (s : State) (m : _) (slot : _) (auth : _), s.boot.held = .off ∧ s.xtsMaster m = true ∧ s.fbit Reg.XTS_STATUS_BUSY =
      false ∧ ends (exec (.xtsLoad m slot auth) s) (fun t => decide (t.xts.op = some ⟨2, slot, auth⟩ ∧ t.fget
      Reg.XTS_STATUS_BUSY = 1)) = true) ∧
    (∃ (s : State) (m : _) (slot : _) (auth : _), s.boot.held = .off ∧ s.xtsMaster m = true ∧ s.fbit Reg.XTS_STATUS_BUSY =
      false ∧ ends (exec (.xtsClear m slot auth) s) (fun t => decide (t.xts.op = some ⟨3, slot, auth⟩ ∧ t.fget
      Reg.XTS_STATUS_BUSY = 1)) = true) ∧
    (∃ (s : State) (m : _) (slot : _) (auth : _), s.boot.held = .off ∧ s.xtsMaster m = true ∧ s.fbit Reg.XTS_STATUS_BUSY =
      false ∧ ends (exec (.xtsRewrap m slot auth) s) (fun t => decide (t.xts.op = some ⟨4, slot, auth⟩ ∧ t.fget
      Reg.XTS_STATUS_BUSY = 1)) = true) ∧
    (∃ (s : State) (m : _) (slot : _) (auth : _), s.boot.held = .off ∧ s.xtsMaster m = true ∧ s.fbit Reg.XTS_STATUS_BUSY =
      true ∧ ends (exec (.xtsGenerate m slot auth) s) (fun t => decide (t.xts = s.xts ∧ t.fget Reg.XTS_STATUS_ERR = 5)) =
      true) ∧
    (∃ (s : State) (m : Master) (slot : _) (auth : _), s.boot.held = .off ∧ s.xtsMaster m = false ∧ ends (exec (.xtsClear m
      slot auth) s) (fun t => decide (t.xts = s.xts)) = true) ∧
    (∃ (s : State) (slot : _) (auth : _), s.boot.held = .off ∧ s.xts.op = some ⟨1, slot, auth⟩ ∧ s.drbgOk = true) ∧
    (∃ (s : State) (slot : _) (auth : _), s.boot.held = .off ∧ s.xts.op = some ⟨1, slot, auth⟩ ∧ s.drbgOk = false ∧ ends
      (exec .xtsOperationDone s) (fun t => decide (t.xts.keys = s.xts.keys ∧ t.fget Reg.XTS_STATUS_ERR = 2)) = true) ∧
    (∃ (s : State) (slot : _) (auth : _) (k : _), s.boot.held = .off ∧ s.xts.op = some ⟨2, slot, auth⟩ ∧ unwrapped (s.kek
      auth slot s.credBytes) s.blob = some k ∧ ends (exec .xtsOperationDone s) (fun t => decide (sparseFind slot t.xts.keys =
      some k ∧ t.fget Reg.XTS_STATUS_DONE = 1)) = true) ∧
    (∃ (s : State) (slot : _) (auth : _), s.boot.held = .off ∧ s.xts.op = some ⟨2, slot, auth⟩ ∧ unwrapped (s.kek auth slot
      s.credBytes) s.blob = none ∧ ends (exec .xtsOperationDone s) (fun t => decide (t.xts.keys = s.xts.keys ∧ t.fget
      Reg.XTS_STATUS_ERR = 3 ∧ t.fget Reg.XTS_EVT_STAT_UNWRAP = 1)) = true) ∧
    (∃ (s : State) (slot : _) (auth : _), s.boot.held = .off ∧ s.xts.op = some ⟨3, slot, auth⟩ ∧ ends (exec
      .xtsOperationDone s) (fun t => decide (sparseFind slot t.xts.keys = none ∧ t.fget Reg.XTS_STATUS_DONE = 1)) = true) ∧
    (∃ (s : State) (slot : _) (auth : _) (k : _), s.boot.held = .off ∧ s.xts.op = some ⟨4, slot, auth⟩ ∧ sparseFind slot
      s.xts.keys = some k) ∧
    (∃ (s : State) (slot : _) (auth : _), s.boot.held = .off ∧ s.xts.op = some ⟨4, slot, auth⟩ ∧ sparseFind slot s.xts.keys
      = none ∧ ends (exec .xtsOperationDone s) (fun t => decide (t.fget Reg.XTS_STATUS_ERR = 4)) = true) ∧
    (∃ (s : State), s.boot.held = .off ∧ s.drbgOk = false ∧ ends (exec (.drbgHealthRetest true) s) (fun t => decide (t.fget
      Reg.XTS_STATUS_DRBGOK = 1)) = true) ∧
    (∃ (s : State), s.boot.held = .off ∧ ends (exec .entropyHealthTestFail s) (fun t => decide (t.fget Reg.XTS_STATUS_DRBGOK
      = 0 ∧ t.fget Reg.XTS_EVT_STAT_HEALTH = 1)) = true) :=
  ⟨⟨run, .core 2, 3, 1, by decide +kernel⟩,
   ⟨run, .core 2, 3, 1, by decide +kernel⟩,
   ⟨run, .core 2, 3, 1, by decide +kernel⟩,
   ⟨run, .core 2, 3, 1, by decide +kernel⟩,
   ⟨at_ [(Reg.XTS_STATUS_BUSY, 1)], .core 2, 3, 1, by decide +kernel⟩,
   ⟨run, .host 0, 3, 1, by decide +kernel⟩,
   ⟨(at_ [(Reg.XTS_STATUS_DRBGOK, 1), (Reg.XTS_STATUS_BUSY, 1)]).modXts (fun x => { x with op := some ⟨1, 3, 1⟩ }), 3, 1, by decide +kernel⟩,
   ⟨run.modXts (fun x => { x with op := some ⟨1, 3, 1⟩ }), 3, 1, by decide +kernel⟩,
   ⟨blobbed.modXts (fun x => { x with op := some ⟨2, 3, 1⟩ }), 3, 1, 12345, by decide +kernel⟩,
   ⟨run.modXts (fun x => { x with op := some ⟨2, 3, 1⟩ }), 3, 1, by decide +kernel⟩,
   ⟨run.modXts (fun x => { x with op := some ⟨3, 3, 1⟩ }), 3, 1, by decide +kernel⟩,
   ⟨(run.modXts (fun x => { x with keys := [(3, 12345)] })).modXts (fun x => { x with op := some ⟨4, 3, 1⟩ }), 3, 1, 12345, by decide +kernel⟩,
   ⟨run.modXts (fun x => { x with op := some ⟨4, 3, 1⟩ }), 3, 1, by decide +kernel⟩,
   ⟨run, by decide +kernel⟩,
   ⟨at_ [(Reg.XTS_STATUS_DRBGOK, 1)], by decide +kernel⟩⟩

/-- Witness for Obligations.MediaIntakeAndSelection, clause by clause. -/
theorem witness_MediaIntakeAndSelection :
    (∃ (s : State) (r : Fin 6) (p : PostedOp) (rest : _), s.boot.held = .off ∧ r.val < 4 ∧ s.msc.rings[r.val]? = some (p ::
      rest) ∧ s.slotCount (ringActuators r).1 < 2048 ∧ (∀ o ∈ s.msc.moveList, o.act ≠ (ringActuators r).1) ∧ s.badDescriptor
      (ringActuators r).1 p.d = false ∧ s.mayRun (ringActuators r).1 p.d = true ∧ ends (exec (.intakeAccept r) s) (fun t =>
      decide (t.msc.rings[r.val]? = some rest ∧ t.msc.ops = s.msc.ops ++ [(t.msc.ops.headD slotted)] ∧ (t.msc.ops.headD
      slotted).acc = s.msc.nextAcc ∧ (t.msc.ops.headD slotted).act = (ringActuators r).1 ∧ (t.msc.ops.headD slotted).p.d.cyl
      = p.d.cyl ∧ t.msc.nextAcc = s.msc.nextAcc + 1)) = true) ∧
    (∃ (s : State) (r : Fin 6) (p : PostedOp) (rest : _), s.boot.held = .off ∧ r.val < 4 ∧ s.msc.rings[r.val]? = some (p ::
      rest) ∧ s.slotCount (ringActuators r).1 < 2048 ∧ (∀ o ∈ s.msc.moveList, o.act ≠ (ringActuators r).1) ∧ s.badDescriptor
      (ringActuators r).1 p.d = true ∧ ends (exec (.intakeAccept r) s) (fun t => decide (t.msc.ops = s.msc.ops ∧
      t.msc.outcomes = s.msc.outcomes ++ [⟨0, Outc.rejected, false, 0, 0xFFFF, s.stamp⟩])) = true) ∧
    (∃ (s : State) (r : Fin 6) (p : PostedOp) (rest : _), s.boot.held = .off ∧ r.val < 4 ∧ s.msc.rings[r.val]? = some (p ::
      rest) ∧ 2048 ≤ s.slotCount (ringActuators r).1 ∧ (∀ x ∈ s.msc.stalls, x.1 ≠ r.val) ∧ ends (exec (.intakeAccept r) s)
      (fun t => decide (t.msc.rings = s.msc.rings ∧ (t.rd (Reg.MSC_STALLn (ringActuators r).1)).toNat = min ((s.rd
      (Reg.MSC_STALLn (ringActuators r).1)).toNat + 1) 0xFFFFFFFF)) = true) ∧
    (∃ (s : State) (n : _) (o : MscOp), s.boot.held = .off ∧ s.msc.commit.get n = none ∧ s.selectTime n = true ∧ s.heldBack
      n = false ∧ s.msc.leases = [] ∧ (∀ q ∈ s.msc.ops, s.underCap q.p.d = true) ∧ s.selectChoice n = some (o, false) ∧ ends
      (exec (.operationSelect n) s) (fun t => decide (t.msc.commit.get n = some ((t.msc.commit.get n).getD committed) ∧
      ((t.msc.commit.get n).getD committed).op.acc = o.acc ∧ ((t.msc.commit.get n).getD committed).op.act = n ∧ t.msc.ops =
      s.msc.ops.filter (fun q => decide (q.acc ≠ o.acc)) ∧ t.msc.lastCyl.get n = o.p.d.cyl)) = true) ∧
    (∃ (s : State), s.boot.held = .off ∧ ends (exec .leaseExpiry s) (fun t => decide (t.msc.leases = s.msc.leases.filter
      (fun l => decide (s.linStamp < l.expiry)))) = true) ∧
    (∃ (s : State) (n : _), s.boot.held = .off ∧ s.msc.avail.get n = .out ∧ (s.trs.get n).st = .idle ∧ (s.trs.get n).wg =
      false ∧ ends (exec (.leaseRevoke n) s) (fun t => decide (t.msc.leases = s.msc.leases.filter (fun (l : Lease) => decide
      (l.holder ≠ n)))) = true) ∧
    (∃ (s : State) (o : MscOp), s.boot.held = .off ∧ o ∈ s.msc.moveList ∧ s.slotCount o.act < 2048 ∧ (∀ q ∈ s.msc.moveList,
      s.slotCount q.act < 2048 → q ≠ o → o.acc < q.acc) ∧ ends (exec .moveListEntry s) (fun t => decide (t.msc.ops =
      s.msc.ops ++ [(t.msc.ops.headD slotted)] ∧ (t.msc.ops.headD slotted).acc = o.acc ∧ (t.msc.ops.headD slotted).act =
      o.act ∧ t.msc.moveList = s.msc.moveList.filter (fun q => decide (q.acc ≠ o.acc)))) = true) ∧
    (∃ (s : State), s.boot.held = .off ∧ ends (exec .destageRouteCheck s) (fun t => decide (∀ o ∈ t.msc.ops, o.noRoute < max
      1 (s.fget Reg.MSC_DESTAGE_BOUND) * s.piers)) = true) ∧
    (∃ (s : State), s.boot.held = .off ∧ marginCap (s.fget Reg.PMU_VMOT_MV) (s.fget Reg.MSC_WCG_VMOT_T1) (s.fget
      Reg.MSC_WCG_VMOT_T2) (s.fget Reg.MSC_WCG_VMOT_T3) < s.fget Reg.MSC_WCG_STATUS_VMOT_CAP ∧ ends (exec .marginCapEval s)
      (fun t => decide (t.fget Reg.MSC_WCG_STATUS_VMOT_CAP = marginCap (s.fget Reg.PMU_VMOT_MV) (s.fget Reg.MSC_WCG_VMOT_T1)
      (s.fget Reg.MSC_WCG_VMOT_T2) (s.fget Reg.MSC_WCG_VMOT_T3))) = true) ∧
    (∃ (s : State), s.boot.held = .off ∧ ends (exec (.destageEstimateUpdate []) s) (fun t => decide (t.fget
      Reg.MSC_DESTAGE_EST_MS = 0)) = true) ∧
    (∃ (s : State) (r : Fin 6) (d : OpDesc) (d' : OpDesc) (nsid : _) (lba : _) (nlb : _) (l : _), s.boot.held = .off ∧
      s.msc.rings[r.val]? = some l ∧ d.kind ≠ 4 ∧ d' =
      { d with prio := if 15000 ≤ s.fget Reg.MSC_DESTAGE_EST_MS then 2 else 0, flags := s.postFlags r d nsid, kind := 2 } ∧
      s.abrupt = false ∧ s.postable d' = true ∧ ends (exec (.cacheDestagePost r d nsid lba nlb) s) (fun t => decide
      (t.msc.rings[r.val]? = some (l ++ (((t.msc.rings[r.val]?).getD []).headD posted) :: (([] : List PostedOp))) ∧
      (((t.msc.rings[r.val]?).getD []).headD posted).destage = true ∧ (((t.msc.rings[r.val]?).getD []).headD posted).d.kind =
      2 ∧ (((t.msc.rings[r.val]?).getD []).headD posted).ext = some (nsid, lba, nlb) ∧ (((t.msc.rings[r.val]?).getD []).headD
      posted).d.entry = s.routeEntry d' ∧ (((t.msc.rings[r.val]?).getD []).headD posted).d.prio = d'.prio ∧
      (((t.msc.rings[r.val]?).getD []).headD posted).d.flags = d'.flags ∧ ((∀ g ∈ s.recov.grown, g.spare = none) → (([] :
      List PostedOp)) = []))) = true) ∧
    (∃ (s : State) (r : Fin 6) (d : OpDesc) (d' : OpDesc) (nsid : _) (lba : _) (nlb : _) (l : _), s.boot.held = .off ∧
      s.msc.rings[r.val]? = some l ∧ d.kind = 4 ∧ d' =
      { d with prio := if 15000 ≤ s.fget Reg.MSC_DESTAGE_EST_MS then 2 else 0, flags := s.postFlags r d nsid, kind := 4 } ∧
      s.abrupt = false ∧ s.postable d' = true ∧ s.parityOff nsid = false ∧ ends (exec (.cacheDestagePost r d nsid lba nlb) s)
      (fun t => decide (t.msc.rings[r.val]? = some (l ++ [(((t.msc.rings[r.val]?).getD []).headD posted)]) ∧
      (((t.msc.rings[r.val]?).getD []).headD posted).destage = true ∧ (((t.msc.rings[r.val]?).getD []).headD posted).d.kind =
      4 ∧ (((t.msc.rings[r.val]?).getD []).headD posted).ext = none)) = true) ∧
    (∃ (s : State) (r : Fin 6) (d : OpDesc) (nsid : _) (lba : _) (nlb : _), s.boot.held = .off ∧ d.kind = 4 ∧ s.parityOff
      nsid = true ∧ ends (exec (.cacheDestagePost r d nsid lba nlb) s) (fun t => decide (t.msc = s.msc)) = true) :=
  ⟨⟨(driven []).modMsc (fun m => { m with rings := [[posted], [], [], [], [], []], avail := m.avail.set 0 .available }), 0, posted, [], by decide +kernel⟩,
   ⟨(driven []).modMsc (fun m => { m with rings := [[{ posted with d := { rdOp with kind := 0 } }], [], [], [], [], []] }), 0, { posted with d := { rdOp with kind := 0 } }, [], by decide +kernel⟩,
   ⟨(driven []).modMsc (fun m => { m with rings := [[posted], [], [], [], [], []], ops := List.replicate 2048 slotted }), 0, posted, [], by decide +kernel⟩,
   ⟨((driven [(Reg.ATB_STATUS_QUAL, 1), (Reg.MSC_WCG_STATUS_XFER_CAP, 4)]).modPair 0 (fun p => { p with law := 3 })).modMsc (fun m => { m with ops := [slotted], avail := m.avail.set 0 .available }), 0, slotted, by decide +kernel⟩,
   ⟨(driven []).modMsc (fun m => { m with leases := [⟨1, 2, 0, 3, 0⟩, ⟨1, 3, 0, 2 ^ 60, 0⟩] }), by decide +kernel⟩,
   ⟨(idleTrs []).modMsc (fun m => { m with leases := [⟨1, 2, 0, 3, 0⟩, ⟨1, 3, 1, 2 ^ 60, 0⟩], avail := m.avail.set 0 .out }), 0, by decide +kernel⟩,
   ⟨(driven []).modMsc (fun m => { m with moveList := [slotted] }), slotted, by decide +kernel⟩,
   ⟨(driven []).modMsc (fun m => { m with ops := [slotted, { slotted with p := { posted with destage := true, d := { rdOp with kind := 2 } }, acc := 2, noRoute := 2 ^ 20 }] }), by decide +kernel⟩,
   ⟨driven [(Reg.MSC_WCG_STATUS_VMOT_CAP, 4), (Reg.PMU_VMOT_MV, 100), (Reg.MSC_WCG_VMOT_T1, 2000)], by decide +kernel⟩,
   ⟨driven [(Reg.MSC_DESTAGE_EST_MS, 5)], by decide +kernel⟩,
   ⟨driven [], 0, rdOp, { (rdOp : OpDesc) with prio := 0, flags := ((driven [])).postFlags 0 rdOp 1, kind := 2 }, 1, 5, 2, [], by decide +kernel⟩,
   ⟨driven [], 0, { rdOp with kind := 4 }, { (rdOp : OpDesc) with prio := 0, flags := ((driven [])).postFlags 0 { rdOp with kind := 4 } 1, kind := 4 }, 1, 5, 2, [], by decide +kernel⟩,
   ⟨{ driven [] with ns := ⟨[{ nsc with noParity := true }], false, [], [], [], 0⟩ }, 0, { rdOp with kind := 4 }, 1, 5, 2, by decide +kernel⟩⟩

/-- Witness for Obligations.SequencersRun, clause by clause. -/
theorem witness_SequencersRun :
    (∃ (s : State) (n : Fin 4) (c : Commit) (x : _), s.boot.held = .off ∧ s.unitOff (Reg.TRSn_CTRL n) = false ∧
      s.msc.commit.get n = some c ∧ (s.trs.get n).st = .idle ∧ s.fget (Reg.TRSn_CTRL_HOLD n) = 0 ∧ s.msc.running.get n = none
      ∧ s.spt c.op.p.d.surf c.op.p.d.rz ≠ 0 ∧ c.op.p.d.defect = 0xFFFF ∧ (s.pa.get n).faultLine = false ∧ c.op.p.d.wrap =
      false ∧ c.op.p.d.customer = false ∧ s.leaseFor n c.op.p.d = true ∧ s.csWord (c.op.p.d.entry % 64) = x + csParity x * 2
      ^ 144 ∧ x < 2 ^ 144 ∧ mwWait x = 0 ∧ s.issueCheck false c.op.p.d.kind x = none ∧ ends (exec (.trsDescriptorAccept n) s)
      (fun t => decide (t.msc.commit.get n = none ∧ t.msc.running.get n = some c ∧ (t.trs.get n).st = .running ∧ (t.trs.get
      n).op = c.op.p.d ∧ (t.trs.get n).pc = c.op.p.d.entry % 64 ∧ (t.trs.get n).stalled = some x ∧ (t.trs.get n).done = 0 ∧
      (t.trs.get n).psec = c.op.p.d.first)) = true) ∧
    (∃ (s : State) (n : Fin 4) (c : Commit), s.boot.held = .off ∧ s.unitOff (Reg.TRSn_CTRL n) = false ∧ s.msc.commit.get n =
      some c ∧ s.leaseFor n c.op.p.d = false ∧ ends (exec (.trsDescriptorAccept n) s) (fun t => decide (t.msc = s.msc ∧ t.trs
      = s.trs)) = true) ∧
    (∃ (s : State) (n : Fin 4) (x : _), s.boot.held = .off ∧ s.unitOff (Reg.TRSn_CTRL n) = false ∧ (s.trs.get n).stalled =
      some x ∧ (s.trs.get n).st = .running ∧ (s.trs.get n).rg = false ∧ (s.pa.get n).astHeld = false ∧ mwHalt x = true ∧
      mwSafe x = false ∧ mwWait x = 0 ∧ mwCond x = 0 ∧ mwFmt x = 0 ∧ mwPreamp x = 0 ∧ mwRegsel x = 0 ∧ mwCntop x = 0 ∧ mwEvt
      x = 0 ∧ mwRg x = false ∧ mwWg x = false ∧ mwAg x = false ∧ mwPg x = false ∧ ends (exec (.wordRelease n) s) (fun t =>
      decide ((t.trs.get n).st = .idle ∧ t.msc.reports = s.msc.reports ++ [(t.msc.reports.headD noReport)] ∧
      (t.msc.reports.headD noReport).lane = n ∧ (t.msc.reports.headD noReport).code = (s.trs.get n).code ∧
      (t.msc.reports.headD noReport).op = (s.trs.get n).op)) = true) ∧
    (∃ (s : State) (n : Fin 4) (x : _), s.boot.held = .off ∧ s.unitOff (Reg.TRSn_CTRL n) = false ∧ (s.trs.get n).stalled =
      some x ∧ s.waitDone n x = false ∧ ends (exec (.wordRelease n) s) (fun t => decide (t.trs = s.trs)) = true) ∧
    (∃ (s : State) (n : Fin 4) (m : Master), s.boot.held = .off ∧ s.unitOff (Reg.TRSn_CTRL n) = false ∧ s.trsRunning n =
      true ∧ (s.trs.get n).rg = false ∧ ends (exec (.trsCtrlStop m n) s) (fun t => decide ((t.trs.get n).st = .idle ∧
      t.msc.reports = s.msc.reports ++ [(t.msc.reports.headD noReport)] ∧ (t.msc.reports.headD noReport).lane = n ∧
      (t.msc.reports.headD noReport).code = Outc.aborted)) = true) ∧
    (∃ (s : State) (n : Fin 4) (m : Master), s.boot.held = .off ∧ s.unitOff (Reg.TRSn_CTRL n) = false ∧ s.trsRunning n =
      true ∧ ends (exec (.trsCtrlAbort m n) s) (fun t => decide ((t.trs.get n).abortP = true ∧ (t.trs.get n).st = (s.trs.get
      n).st)) = true) ∧
    (∃ (s : State) (n : Fin 4) (m : Master), s.boot.held = .off ∧ s.unitOff (Reg.TRSn_CTRL n) = false ∧ (s.trs.get n).st =
      .checked ∧ ends (exec (.trsCtrlClr m n) s) (fun t => decide ((t.trs.get n).st = .idle ∧ t.fget (Reg.TRSn_MCHK_VALID n)
      = 0 ∧ t.recov.depth = 0)) = true) ∧
    (∃ (s : State) (n : Fin 4) (m : Master), s.boot.held = .off ∧ s.unitOff (Reg.TRSn_CTRL n) = false ∧ ends (exec
      (.trsCtrlHold m n true) s) (fun t => decide (t.fget (Reg.TRSn_CTRL_HOLD n) = 1 ∧ t.trs = s.trs)) = true) ∧
    (∃ (s : State) (n : Fin 4) (m : Master), s.boot.held = .off ∧ s.unitOff (Reg.TRSn_CTRL n) = false ∧ (s.trs.get n).st =
      .held ∧ (s.pa.get n).faultLine = true ∧ (s.trs.get n).rg = false ∧ ends (exec (.trsCtrlHold m n false) s) (fun t =>
      decide ((t.trs.get n).st = .idle ∧ t.msc.reports = s.msc.reports ++ [(t.msc.reports.headD noReport)] ∧
      (t.msc.reports.headD noReport).lane = n ∧ (t.msc.reports.headD noReport).code = Outc.preampFault)) = true) ∧
    (∃ (s : State) (n : Fin 4) (m : Master) (x : _), s.boot.held = .off ∧ s.unitOff (Reg.TRSn_CTRL n) = false ∧ (s.trs.get
      n).st = .held ∧ (s.trs.get n).stalled = some x ∧ (s.pa.get n).faultLine = false ∧ ends (exec (.trsCtrlHold m n false)
      s) (fun t => decide (t.fget (Reg.TRSn_CTRL_HOLD n) = 0 ∧ (t.trs.get n).st = .running ∧ (t.trs.get n).stalled = some x))
      = true) ∧
    (∃ (s : State) (n : Fin 4) (m : Master) (x : _), s.boot.held = .off ∧ s.unitOff (Reg.TRSn_CTRL n) = false ∧ (s.trs.get
      n).st = .held ∧ (s.trs.get n).stalled = none ∧ (s.pa.get n).faultLine = false ∧ s.csWord (s.trs.get n).heldNext = x +
      csParity x * 2 ^ 144 ∧ x < 2 ^ 144 ∧ mwWait x = 0 ∧ s.issueCheck (s.trs.get n).op.customer (s.trs.get n).op.kind x =
      none ∧ ends (exec (.trsCtrlStep m n) s) (fun t => decide ((t.trs.get n).st = .running ∧ (t.trs.get n).stalled = some x
      ∧ (t.trs.get n).pc = (s.trs.get n).heldNext)) = true) ∧
    (∃ (s : State) (n : Fin 4), s.boot.held = .off ∧ s.unitOff (Reg.TRSn_CTRL n) = false ∧ s.trsRunning n = true ∧ s.linOf
      (s.trs.get n).acceptStamp + max 2 (s.fget Reg.MSC_DISPATCH_TMO) * revLen s.piers ≤ s.linStamp ∧ ends (exec
      (.abortPendingTimeout n) s) (fun t => decide ((t.trs.get n).abortP = true ∧ t.msc.tmoStage.get n = 1)) = true) ∧
    (∃ (s : State) (n : Fin 4), s.boot.held = .off ∧ s.unitOff (Reg.TRSn_CTRL n) = false ∧ s.trsRunning n = true ∧ s.linOf
      (s.trs.get n).acceptStamp + (max 2 (s.fget Reg.MSC_DISPATCH_TMO) + 1) * revLen s.piers ≤ s.linStamp ∧ (escalate
      (s.msc.forcedWin.get n) s.stamp (s.revs 64) 3).1 = false ∧ (s.trs.get n).rg = false ∧ ends (exec (.forcedStopTimeout n)
      s) (fun t => decide ((t.trs.get n).st = .idle ∧ t.msc.reports = s.msc.reports ++ [(t.msc.reports.headD noReport)] ∧
      (t.msc.reports.headD noReport).lane = n ∧ (t.msc.reports.headD noReport).code = Outc.timeout)) = true) ∧
    (∃ (s : State) (n : Fin 4) (r : TrsReport) (c : Commit) (posts : _), s.boot.held = .off ∧ s.unitOff (Reg.TRSn_CTRL n) =
      false ∧ s.msc.reports.find? (fun r => decide (r.lane = n)) = some r ∧ s.msc.running.get n = some c ∧ r.code = 0 ∧
      c.op.p.d.isWrite = false ∧ s.ladderOf c.op.p = none ∧ c.op.p.groupRead = false ∧ s.pinLost n c.op r = false ∧ (s.head
      (laneHead n c.op.p.d.surf)).realloc < s.dpi.retr ∧ (s.head (laneHead n c.op.p.d.surf)).wfault < s.dpi.retw ∧ ends (exec
      (.operationOutcome n posts false) s) (fun t => decide (t.msc.running.get n = none ∧ t.msc.reports = s.msc.reports.erase
      r ∧ t.msc.outcomes = s.msc.outcomes ++ [⟨c.op.p.d.slot, 0, s.missed c r, r.done, r.fail, r.stamp⟩])) = true) :=
  ⟨⟨((idleTrs [(Reg.TRS_SPT_n_i_EVEN 0 0, 512)])).modMsc (fun m => { m with commit := m.commit.set 0 (some committed) }), 0, committed, 0, by decide +kernel⟩,
   ⟨((idleTrs [(Reg.TRS_SPT_n_i_EVEN 0 0, 512)])).modMsc (fun m => { m with leases := [⟨0, 0, 1, 2 ^ 60, 0⟩], commit := m.commit.set 0 (some { committed with op := { slotted with p := { posted with d := { rdOp with kind := 2 } } } }) }), 0, { committed with op := { slotted with p := { posted with d := { rdOp with kind := 2 } } } }, by decide +kernel⟩,
   ⟨(runTrs []).modTrs 0 (fun t => { t with stalled := some (2 ^ 110) }), 0, 2 ^ 110, by decide +kernel⟩,
   ⟨(runTrs []).modTrs 0 (fun t => { t with stalled := some (2 ^ 102) }), 0, 2 ^ 102, by decide +kernel⟩,
   ⟨runTrs [], 0, .core 1, by decide +kernel⟩,
   ⟨runTrs [], 0, .core 1, by decide +kernel⟩,
   ⟨((runTrs []).modTrs 0 (fun t => { t with st := .checked })).fput (Reg.TRSn_MCHK_VALID 0) 1, 0, .core 1, by decide +kernel⟩,
   ⟨runTrs [], 0, .core 1, by decide +kernel⟩,
   ⟨((runTrs []).modTrs 0 (fun t => { t with st := .held })).modPa 0 (fun p => { p with faultLine := true }), 0, .core 1, by decide +kernel⟩,
   ⟨((runTrs []).modTrs 0 (fun t => { t with st := .held, stalled := some 5 })).fput (Reg.TRSn_CTRL_HOLD 0) 1, 0, .core 1, 5, by decide +kernel⟩,
   ⟨((runTrs []).modTrs 0 (fun t => { t with st := .held })).fput (Reg.TRSn_CTRL_HOLD 0) 1, 0, .core 1, 0, by decide +kernel⟩,
   ⟨(runTrs []).modAtb (fun a => { a with rev := 100 }), 0, by decide +kernel⟩,
   ⟨(runTrs []).modAtb (fun a => { a with rev := 100 }), 0, by decide +kernel⟩,
   ⟨(runTrs []).modMsc (fun m => { m with reports := [noReport] }), 0, noReport, committed, [], by decide +kernel⟩⟩

/-- Witness for Obligations.ControlStoreWrites, clause by clause. -/
theorem witness_ControlStoreWrites :
    (∃ (s : State) (m : Master) (w : Fin 16384) (v : Word) (part : Fin 4), s.boot.held = .off ∧ s.csWritable m w = true ∧
      ends (exec (.controlStoreHoldingWrite m w part v) s) (fun t => decide (sparseGet (fun _ => 0) t.cs.hold m.number =
      putBits (sparseGet (fun _ => 0) s.cs.hold m.number) (32 * part + 31) (32 * part) v.toNat ∧ t.cs.words = s.cs.words)) =
      true) ∧
    (∃ (s : State) (m : Master) (w : Fin 16384) (v : Word) (part : Fin 4), s.boot.held = .off ∧ s.csWritable m w = false ∧
      ends (exec (.controlStoreHoldingWrite m w part v) s) (fun t => decide (t.cs = s.cs ∧ t.fget Reg.TRS_EVT_STAT_REFUSED =
      1)) = true) ∧
    (∃ (s : State) (m : Master) (w : Fin 16384) (v : Word), s.boot.held = .off ∧ s.csWritable m w = true ∧ s.fget
      Reg.TRS_CS_CTRL_INJ = 0 ∧ ends (exec (.controlStoreCommit m w v) s) (fun t => decide (t.csWord w % 2 ^ 144 = sparseGet
      (fun _ => 0) s.cs.hold m.number % 2 ^ 128 + v.toNat % 65536 * 2 ^ 128 ∧ t.csWord w / 2 ^ 144 = csParity (t.csWord w % 2
      ^ 144) ∧ sparseGet (fun _ => 0) t.cs.hold m.number = 0 ∧ ∀ k ∈ List.range 9, k ≠ w.val → t.csWord k = s.csWord k)) =
      true) ∧
    (∃ (s : State) (m : Master) (w : Fin 16384) (v : Word), s.boot.held = .off ∧ s.csWritable m w = false ∧ ends (exec
      (.controlStoreCommit m w v) s) (fun t => decide (t.cs = s.cs ∧ t.fget Reg.TRS_EVT_STAT_REFUSED = 1)) = true) :=
  ⟨⟨at_ [(Reg.TRS_CS_CTRL_COPEN, 1)], .core 2, 0x1234, 0xABCD1234, 2, by decide +kernel⟩,
   ⟨run, .host 0, 0x1234, 0xABCD1234, 2, by decide +kernel⟩,
   ⟨{ at_ [(Reg.TRS_CS_CTRL_COPEN, 1)] with cs := ⟨[], [(2, 0x123456789)], none, none⟩ }, .core 2, 0x1234, 0xABCD1234, by decide +kernel⟩,
   ⟨run, .host 0, 0x1234, 0xABCD1234, by decide +kernel⟩⟩

/-- Witness for Obligations.ChannelsReadAndWrite, clause by clause. -/
theorem witness_ChannelsReadAndWrite :
    (∃ (s : State) (n : Fin 4) (e : Int) (bits : Word) (y : SyncSt), s.boot.held = .off ∧ (s.rwc.get n).sync.getD
      SyncSt.empty = y ∧ s.markSeen n y 2 (96 + e) (s.rd (Reg.RWCn_SM1 n)) bits = true ∧ e.natAbs ≤ s.syncW n ∧ y.sm1 = none
      ∧ y.sm2 = none ∧ y.closed = false ∧ ends (exec (.sm1Accept n e bits) s) (fun t => decide ((t.rwc.get n).sync = some
      { y with sm1 := some e } ∧ (t.trs.get n).syncFound = true)) = true) ∧
    (∃ (s : State) (n : Fin 4) (e : Int) (bits : Word) (y : SyncSt), s.boot.held = .off ∧ (s.rwc.get n).sync.getD
      SyncSt.empty = y ∧ (s.markSeen n y 2 (96 + e) (s.rd (Reg.RWCn_SM1 n)) bits = false ∨ s.syncW n < e.natAbs ∨ y.found =
      true ∨ y.closed = true) ∧ ends (exec (.sm1Accept n e bits) s) (fun t => decide (t.rwc = s.rwc ∧ t.trs = s.trs)) = true) ∧
    (∃ (s : State) (n : Fin 4) (e : Int) (e1 : Int) (bits : Word) (y : SyncSt), s.boot.held = .off ∧ (s.rwc.get n).sync =
      some y ∧ y.sm1 = some e1 ∧ y.checked = false ∧ s.samplesUsed n = true ∧ ((s.rwc.get n).elems.head?.map (·.fmt)) = some
      3 ∧ s.reached n (176 + e1 + e) = true ∧ ends (exec (.sm2Check n (some (e, bits))) s) (fun t => decide ((t.rwc.get
      n).sync = some
      { y with checked := true, sm2ok := decide (e.natAbs ≤ s.syncConf n) && s.markMatch n (s.rd (Reg.RWCn_SM2 n)) bits })) =
      true) ∧
    (∃ (s : State) (n : Fin 4) (e : Int) (bits : Word) (y : SyncSt), s.boot.held = .off ∧ (s.rwc.get n).sync.getD
      SyncSt.empty = y ∧ s.markSeen n y 3 (144 + e) (s.rd (Reg.RWCn_SM2 n)) bits = true ∧ e.natAbs ≤ s.syncW n ∧ y.sm1 = none
      ∧ y.sm2 = none ∧ y.closed = false ∧ ends (exec (.sm2Check n (some (e, bits))) s) (fun t => decide ((t.rwc.get n).sync =
      some { y with sm2 := some e } ∧ (t.trs.get n).syncFound = true ∧ (t.rd (Reg.RWCn_SM1MISS n)).toNat = min ((s.rd
      (Reg.RWCn_SM1MISS n)).toNat + 1) 0xFFFFFFFF)) = true) ∧
    (∃ (s : State) (n : Fin 4) (y : SyncSt) (vals : Samples), s.boot.held = .off ∧ (s.rwc.get n).sync = some y ∧ s.reached n
      (176 + s.syncW n) = true ∧ (s.trs.get n).winClosed = false ∧ y.closed = false ∧ y.found = false ∧ ends (exec
      (.syncWindowClose n vals) s) (fun t => decide ((t.trs.get n).winClosed = true ∧ (t.trs.get n).syncMissed = true ∧ (t.rd
      (Reg.RWCn_SM1MISS n)).toNat = min ((s.rd (Reg.RWCn_SM1MISS n)).toNat + 1) 0xFFFFFFFF ∧ (t.rd (Reg.RWCn_SYNCMISS
      n)).toNat = min ((s.rd (Reg.RWCn_SYNCMISS n)).toNat + 1) 0xFFFFFFFF)) = true) ∧
    (∃ (s : State) (n : Fin 4) (y : SyncSt) (vals : Samples), s.boot.held = .off ∧ (s.rwc.get n).sync = some y ∧ s.reached n
      (176 + s.syncW n) = true ∧ (s.trs.get n).winClosed = false ∧ y.closed = false ∧ y.found = true ∧ ends (exec
      (.syncWindowClose n vals) s) (fun t => decide ((t.trs.get n).winClosed = true ∧ (t.trs.get n).syncMissed = false ∧
      (t.rwc.get n).elems = (s.rwc.get n).elems)) = true) ∧
    (∃ (s : State) (n : Fin 4) (vals : Samples), s.boot.held = .off ∧ s.reached n (176 + s.syncW n) = false ∧ ends (exec
      (.syncWindowClose n vals) s) (fun t => decide (t.rwc = s.rwc ∧ t.trs = s.trs)) = true) ∧
    (∃ (s : State) (n : Fin 4) (y : SyncSt) (p : Elem) (vals : Samples), s.boot.held = .off ∧ (s.rwc.get n).sync = some y ∧
      y.found = true ∧ nextPayload (s.rwc.get n).elems = some p ∧ s.samplesUsed n = true ∧ s.reached n (y.payloadBit + 36544)
      = true ∧ (s.rwc.get n).inbuf = [] ∧ (s.rwc.get n).units.length < 3 ∧ ends (exec (.codewordArrival n vals) s) (fun t =>
      decide ((dropThrough 5 (s.rwc.get n).elems = [] → (t.rwc.get n).sync = none) ∧ (t.rwc.get n).inbuf = [] ∧ (t.rwc.get
      n).units = (s.rwc.get n).units ++ [((t.rwc.get n).units.headD word0)] ∧ ((t.rwc.get n).units.headD word0).idx = p.idx ∧
      ((t.rwc.get n).units.headD word0).page = p.page ∧ ((t.rwc.get n).units.headD word0).seq = p.seq ∧ ((t.rwc.get
      n).units.headD word0).redec = false)) = true) ∧
    (∃ (s : State) (n : Fin 4) (y : SyncSt) (p : Elem) (vals : Samples), s.boot.held = .off ∧ (s.rwc.get n).sync = some y ∧
      y.found = true ∧ nextPayload (s.rwc.get n).elems = some p ∧ s.samplesUsed n = true ∧ s.reached n (y.payloadBit + 36544)
      = true ∧ 2 ≤ (s.rwc.get n).inbuf.length ∧ ends (exec (.codewordArrival n vals) s) (fun t => decide ((t.rwc.get n).units
      = (s.rwc.get n).units ∧ t.fget (Reg.RWCn_EVT_STAT_OVERRUN n) = 1 ∧ (t.rd (Reg.RWCn_OVERRUN n)).toNat = min ((s.rd
      (Reg.RWCn_OVERRUN n)).toNat + 1) 0xFFFFFFFF)) = true) ∧
    (∃ (s : State) (n : Fin 4) (u : Nat) (w : Codeword) (iters : _) (payload : _) (parity : _), s.boot.held = .off ∧
      (s.rwc.get n).units[u]? = some w ∧ w.redec = false ∧ w.dpath / 32 % 2 = 0 ∧ w.sound = true ∧ checksHold (s.codeRam n)
      payload parity = true ∧ (s.rwc.get n).results.length < 3 ∧ (s.rwc.get n).held = [] ∧ (s.rwc.get n).ready = [] ∧
      (s.rwc.get n).owed.head? = some w.seq ∧ w.seq ∉ (s.rwc.get n).owed.drop 1 ∧ ends (exec (.decodeComplete n u iters
      payload parity) s) (fun t => decide ((t.rwc.get n).results = (s.rwc.get n).results ++ [((t.rwc.get n).results.headD
      result0)] ∧ ((t.rwc.get n).results.headD result0).cause = 0 ∧ ((t.rwc.get n).results.headD result0).idx = w.idx ∧
      ((t.rwc.get n).results.headD result0).iter = if w.ldpc.getLsbD 8 then max 1 (min iters (s.iterLimit n w)) else
      s.iterLimit n w)) = true) ∧
    (∃ (s : State) (n : Fin 4) (u : Nat) (w : Codeword) (iters : _) (payload : _) (parity : _), s.boot.held = .off ∧
      (s.rwc.get n).units[u]? = some w ∧ w.redec = false ∧ (w.sound = false ∨ checksHold (s.codeRam n) payload parity =
      false) ∧ (s.rwc.get n).results.length < 3 ∧ (s.rwc.get n).held = [] ∧ (s.rwc.get n).ready = [] ∧ (s.rwc.get
      n).owed.head? = some w.seq ∧ w.seq ∉ (s.rwc.get n).owed.drop 1 ∧ ends (exec (.decodeComplete n u iters payload parity)
      s) (fun t => decide ((t.rwc.get n).results = (s.rwc.get n).results ++ [((t.rwc.get n).results.headD result0)] ∧
      ((t.rwc.get n).results.headD result0).cause = 1 ∧ t.mem = s.mem ∧ (t.rd (Reg.RWCn_LDPCFAIL n)).toNat = min ((s.rd
      (Reg.RWCn_LDPCFAIL n)).toNat + 1) 0xFFFFFFFF)) = true) ∧
    (∃ (s : State) (n : Fin 4) (u : Nat) (w : Codeword) (q : Nat) (iters : _) (payload : _) (parity : _), s.boot.held = .off
      ∧ (s.rwc.get n).units[u]? = some w ∧ w.redec = false ∧ (s.rwc.get n).held = [] ∧ (s.rwc.get n).owed.head? = some q ∧ q
      ≠ w.seq ∧ (∀ x ∈ (s.rwc.get n).ready, x.1 ≠ q) ∧ ends (exec (.decodeComplete n u iters payload parity) s) (fun t =>
      decide ((t.rwc.get n).results = (s.rwc.get n).results)) = true) ∧
    (∃ (s : State) (n : Fin 4) (p : Elem) (r : RdResult) (k : Nat) (x : SampleSlot), s.boot.held = .off ∧ frontPayload
      (s.rwc.get n).elems = some p ∧ p.dpath / 8 % 2 = 1 ∧ (s.rwc.get n).units.length < 3 ∧ (s.rwc.get n).inbuf = [] ∧
      (s.rwc.get n).results.length < 4 ∧ (s.trs.get n).popped = some r ∧ r.slot = some k ∧ sparseFind k (s.rwc.get n).slots =
      some x ∧ ends (exec (.redecodeStart n) s) (fun t => decide ((t.rwc.get n).units = (s.rwc.get n).units ++ [((t.rwc.get
      n).units.headD word0)] ∧ ((t.rwc.get n).units.headD word0).redec = true ∧ ((t.rwc.get n).units.headD word0).slot = some
      k ∧ ((t.rwc.get n).units.headD word0).idx = x.idx ∧ ((t.rwc.get n).units.headD word0).page = x.page ∧ (t.rwc.get
      n).elems = (s.rwc.get n).elems.drop 1)) = true) ∧
    (∃ (s : State) (n : Fin 4) (p : Elem), s.boot.held = .off ∧ frontPayload (s.rwc.get n).elems = some p ∧ p.dpath / 8 % 2
      = 1 ∧ (s.rwc.get n).units.length < 3 ∧ (s.rwc.get n).inbuf = [] ∧ (s.rwc.get n).results.length < 4 ∧ (s.rwc.get n).held
      = [] ∧ (s.trs.get n).popped = none ∧ ends (exec (.redecodeStart n) s) (fun t => decide ((t.rwc.get n).results =
      ((t.rwc.get n).results.headD result0) :: (s.rwc.get n).results ∧ ((t.rwc.get n).results.headD result0).cause = 5 ∧
      ((t.rwc.get n).results.headD result0).redec = true ∧ (t.rwc.get n).elems = (s.rwc.get n).elems.drop 1)) = true) ∧
    (∃ (s : State) (n : Fin 4), s.boot.held = .off ∧ s.inServoWindow n = true ∧ ends (exec (.servoWindowBegin n) s) (fun t
      => decide ((t.rwc.get n).svw = true ∧ t.gatesOpen n = false)) = true) ∧
    (∃ (s : State) (n : Fin 4), s.boot.held = .off ∧ s.inServoWindow n = false ∧ ends (exec (.servoWindowEnd n) s) (fun t =>
      decide ((t.rwc.get n).svw = false)) = true) ∧
    (∃ (s : State) (n : Fin 4) (p : Elem), s.boot.held = .off ∧ (s.trs.get n).wg = true ∧ frontPayload (s.rwc.get n).elems =
      some p ∧ (s.trs.get n).underrun = false ∧ ends (exec (.bufferUnderrun n) s) (fun t => decide ((t.trs.get n).underrun =
      true ∧ (t.rwc.get n).wmask = true ∧ t.fget (Reg.RWCn_EVT_STAT_UNDERRUN n) = 1)) = true) ∧
    (∃ (s : State) (n : Fin 4) (m : _) (w : Word), s.boot.held = .off ∧ s.unitOff (Reg.RWCn_SVWIN n) = false ∧ s.fget
      (Reg.RWCn_LOCK_LOCK n) = 0 ∧ 16 * (w.toNat / 65536 + w.toNat % 65536) ≤ 0x80000 ∧ ends (exec (.rwcSvwinWrite m n w) s)
      (fun t => decide (t.rd (Reg.RWCn_SVWIN n) = w)) = true) ∧
    (∃ (s : State) (n : Fin 4) (m : _) (w : Word), s.boot.held = .off ∧ 0x80000 < 16 * (w.toNat / 65536 + w.toNat % 65536) ∧
      ends (exec (.rwcSvwinWrite m n w) s) (fun t => decide (t.rd (Reg.RWCn_SVWIN n) = s.rd (Reg.RWCn_SVWIN n))) = true) :=
  ⟨⟨far (reading (fun c => { c with sync := some { SyncSt.empty with from' := some 0 } })), 0, 0, ((far (reading (fun c => { c with sync := some { SyncSt.empty with from' := some 0 } })))).rd (Reg.RWCn_SM1 0), { SyncSt.empty with from' := some 0 }, by decide +kernel⟩,
   ⟨far (reading (fun c => { c with sync := some (sm1At 1) })), 0, 1, 0, sm1At 1, by decide +kernel⟩,
   ⟨far (reading (fun c => { c with sync := some (sm1At 1), elems := sectorElems.drop 2 })), 0, 0, 1, ((far (reading (fun c => { c with sync := some (sm1At 1), elems := sectorElems.drop 2 })))).rd (Reg.RWCn_SM2 0), sm1At 1, by decide +kernel⟩,
   ⟨far (reading (fun c => { c with sync := some { SyncSt.empty with from' := some 0 }, elems := sectorElems.drop 2 })), 0, 0, ((far (reading (fun c => { c with sync := some { SyncSt.empty with from' := some 0 }, elems := sectorElems.drop 2 })))).rd (Reg.RWCn_SM2 0), { SyncSt.empty with from' := some 0 }, by decide +kernel⟩,
   ⟨far (reading (fun c => { c with sync := some { SyncSt.empty with from' := some 0 } })), 0, { SyncSt.empty with from' := some 0 }, [], by decide +kernel⟩,
   ⟨far (reading (fun c => { c with sync := some (sm1At 1) })), 0, sm1At 1, [], by decide +kernel⟩,
   ⟨reading id, 0, [], by decide +kernel⟩,
   ⟨far (reading (fun c => { c with sync := some (sm1At 1), elems := sectorElems.drop 3 })), 0, sm1At 1, ⟨4, 0, 32832, 3, 1, 0, none, 1, none, none⟩, [], by decide +kernel⟩,
   ⟨far (reading (fun c => { c with sync := some (sm1At 1), elems := sectorElems.drop 3, inbuf := [word0, word0] })), 0, sm1At 1, ⟨4, 0, 32832, 3, 1, 0, none, 1, none, none⟩, [], by decide +kernel⟩,
   ⟨reading (fun c => { c with units := [word0] }), 0, 0, word0, 5, [], [], by decide +kernel⟩,
   ⟨reading (fun c => { c with units := [{ word0 with sound := false }] }), 0, 0, { word0 with sound := false }, 5, [], [], by decide +kernel⟩,
   ⟨reading (fun c => { c with units := [word0], owed := [0, 1] }), 0, 0, word0, 0, 5, [], [], by decide +kernel⟩,
   ⟨(reading (fun c => { c with elems := [⟨4, 8, 32832, 3, 1, 0, none, 1, none, none⟩], slots := [(2, ⟨3, 0, 1, SyncSt.empty, 0, []⟩)] })).modTrs 0 (fun t => { t with popped := some { result0 with slot := some 2 } }), 0, ⟨4, 8, 32832, 3, 1, 0, none, 1, none, none⟩, { result0 with slot := some 2 }, 2, ⟨3, 0, 1, SyncSt.empty, 0, []⟩, by decide +kernel⟩,
   ⟨reading (fun c => { c with elems := [⟨4, 8, 32832, 3, 1, 0, none, 1, none, none⟩] }), 0, ⟨4, 8, 32832, 3, 1, 0, none, 1, none, none⟩, by decide +kernel⟩,
   ⟨reading (fun c => { c with sect := some ⟨0, 0, 0, 0x00010001, 0, 0, 0, none, true⟩ }), 0, by decide +kernel⟩,
   ⟨reading (fun c => { c with svw := true }), 0, by decide +kernel⟩,
   ⟨(reading (fun c => { c with elems := [⟨4, 0, 32832, 3, 1, 0, none, 1, none, none⟩] })).modTrs 0 (fun t => { t with rg := false, wg := true }), 0, ⟨4, 0, 32832, 3, 1, 0, none, 1, none, none⟩, by decide +kernel⟩,
   ⟨driven [], 0, .core 0, 0x10002, by decide +kernel⟩,
   ⟨driven [], 0, .core 0, 0x80010000, by decide +kernel⟩⟩

/-- Witness for Obligations.PreampShockAndInhibit, clause by clause. -/
theorem witness_PreampShockAndInhibit :
    (∃ (s : State) (n : Fin 4) (c : PaCmd) (rest : _), s.boot.held = .off ∧ (s.pa.get n).flight = none ∧ (s.pa.get n).queue
      = c :: rest ∧ s.paEntryOk c.entry = true ∧ ends (exec (.preampCommandSend n) s) (fun t => decide ((t.pa.get n).flight =
      some (c, (((t.pa.get n).flight.map (·.2)).getD 0)) ∧ (t.pa.get n).queue = rest ∧ t.out = .paFrame n (((t.pa.get
      n).flight.map (·.2)).getD 0) :: s.out ∧ (((t.pa.get n).flight.map (·.2)).getD 0) / 2 ^ 23 = s.fget (Reg.PIF_CMD_n_LO_RW
      c.entry) ∧ (((t.pa.get n).flight.map (·.2)).getD 0) / 2 ^ 16 % 2 ^ 7 = s.fget (Reg.PIF_CMD_n_LO_ADDR c.entry) ∧ (s.fget
      (Reg.PIF_CMD_n_LO_RW c.entry) = 1 → (((t.pa.get n).flight.map (·.2)).getD 0) % 2 ^ 16 = 0))) = true) ∧
    (∃ (s : State) (n : Fin 4) (c : PaCmd) (rest : _), s.boot.held = .off ∧ (s.pa.get n).flight = none ∧ (s.pa.get n).queue
      = c :: rest ∧ s.paEntryOk c.entry = false ∧ ends (exec (.preampCommandSend n) s) (fun t => decide (t.fget
      (Reg.PAn_STATUS_CMDERR n) = 1 ∧ t.fget (Reg.PAn_STATUS_FAULT n) = 1)) = true) ∧
    (∃ (s : State) (n : Fin 4) (c : PaCmd) (frame : _) (x : BitVec 16), s.boot.held = .off ∧ (s.pa.get n).flight = some (c,
      frame) ∧ c.origin = .trs ∧ frame / 2 ^ 23 = 1 ∧ Nat.land x.toNat (s.fget (Reg.PIF_CMD_n_HI_MASK c.entry)) = Nat.land
      (s.fget (Reg.PIF_CMD_n_HI_EXPECT c.entry)) (s.fget (Reg.PIF_CMD_n_HI_MASK c.entry)) ∧ ends (exec (.preampFrameAck n x)
      s) (fun t => decide ((t.pa.get n).flight = none ∧ t.fget (Reg.PAn_RDATA_DATA n) = x.toNat)) = true) ∧
    (∃ (s : State) (n : Fin 4) (c : PaCmd) (frame : _) (x : BitVec 16), s.boot.held = .off ∧ (s.pa.get n).flight = some (c,
      frame) ∧ c.origin = .trs ∧ frame / 2 ^ 23 = 1 ∧ Nat.land x.toNat (s.fget (Reg.PIF_CMD_n_HI_MASK c.entry)) ≠ Nat.land
      (s.fget (Reg.PIF_CMD_n_HI_EXPECT c.entry)) (s.fget (Reg.PIF_CMD_n_HI_MASK c.entry)) ∧ ends (exec (.preampFrameAck n x)
      s) (fun t => decide (t.fget (Reg.PAn_STATUS_CHKERR n) = 1)) = true) ∧
    (∃ (s : State) (n : Fin 4) (c : Nat), s.boot.held = .off ∧ (s.pa.get n).inhSince = some c ∧ s.winh n ≠ 0 ∧ c + 8 ≤
      s.cycle ∧ (s.winh n).testBit 8 = false ∧ ends (exec (.escapeDetect n) s) (fun t => decide (t.msc.avail.get n = .out ∧
      t.msc.outCause.get n = some .escape)) = true) ∧
    (∃ (s : State) (n : Fin 4) (held : Nat), s.boot.held = .off ∧ (s.pa.get n).faultLine = false ∧ s.faultDwell n ≤ held ∧
      ends (exec (.preampFaultLine n held) s) (fun t => decide ((t.pa.get n).faultLine = true ∧ t.fget (Reg.PAn_STATUS_FAULT
      n) = 1)) = true) ∧
    (∃ (s : State) (n : Fin 4) (held : Nat), s.boot.held = .off ∧ held < s.faultDwell n ∧ ends (exec (.preampFaultLine n
      held) s) (fun t => decide (t.pa = s.pa)) = true) ∧
    (∃ (s : State) (n : Fin 4) (held : Nat), s.boot.held = .off ∧ s.fget (Reg.PAn_STATUS_FAULT n) = 0 ∧ s.faultDwell n ≤
      held ∧ ends (exec (.preampFaultLineInactive n held) s) (fun t => decide ((t.pa.get n).faultLine = false ∧ (t.winh
      n).testBit 6 = false)) = true) ∧
    (∃ (s : State) (n : Fin 4) (m : Master), s.boot.held = .off ∧ s.unitOff (Reg.PAn_CTRL n) = false ∧ ends (exec
      (.paForceWrite m n true) s) (fun t => decide (t.fget (Reg.PAn_CTRL_FORCE n) = 1 ∧ (t.winh n).testBit 9 = true)) = true) ∧
    (∃ (s : State) (n : Fin 4) (m : Master), s.boot.held = .off ∧ s.unitOff (Reg.PAn_CTRL n) = false ∧ s.recov.stopped =
      false ∧ ends (exec (.paForceWrite m n false) s) (fun t => decide (t.fget (Reg.PAn_CTRL_FORCE n) = 0 ∧ (t.winh
      n).testBit 9 = false)) = true) ∧
    (∃ (s : State) (n : Fin 4) (a : Nat), s.boot.held = .off ∧ (s.pa.get n).writeSince = some a ∧ a + max 1 (s.fget
      Reg.AST_GUARD_MAXON) < (s.atb.lanes.get n).spans ∧ ends (exec (.assistOveron n) s) (fun t => decide ((t.pa.get
      n).window = false ∧ (t.winh n).testBit 7 = true)) = true) ∧
    (∃ (s : State) (level : Nat) (held : Nat), s.boot.held = .off ∧ max 1 (s.fget Reg.PIF_SHK_CFG_MINDWELL) ≤ held ∧ 4 *
      s.fget Reg.PIF_SHK_CFG_LIN_THR < level ∧ s.fget Reg.PIF_SHK_STAT_LIN_ACT = 0 ∧ s.fget Reg.PIF_SHK_STAT_ANA_MASKED = 0 ∧
      (s.winh 0).testBit 1 = false ∧ ends (exec (.shockComparatorChange false level held) s) (fun t => decide (t.fget
      Reg.PIF_SHK_STAT_LIN_ACT = 1 ∧ (t.rd Reg.PIF_SHK_LINCNT).toNat = min ((s.rd Reg.PIF_SHK_LINCNT).toNat + 1) 0xFFFFFFFF ∧
      ∀ n : Fin 4, (t.winh n).testBit 1 = true)) = true) ∧
    (∃ (s : State) (level : Nat) (held : Nat), s.boot.held = .off ∧ max 1 (s.fget Reg.PIF_SHK_CFG_MINDWELL) ≤ held ∧ level ≤
      4 * s.fget Reg.PIF_SHK_CFG_ROT_THR ∧ s.fget Reg.PIF_SHK_STAT_ROT_ACT = 1 ∧ ends (exec (.shockComparatorChange true
      level held) s) (fun t => decide (t.fget Reg.PIF_SHK_STAT_ROT_ACT = 0)) = true) ∧
    (∃ (s : State) (q : _), s.boot.held = .off ∧ s.pif.quietSince = some q ∧ s.shockInput = false ∧ s.shockForced = false ∧
      q + s.fget Reg.PIF_SHK_CFG_HOLD ≤ s.atb.spansG ∧ ends (exec .shockHoldExpiry s) (fun t => decide (∀ n : Fin 4, (t.winh
      n).testBit 1 = false)) = true) ∧
    (∃ (s : State) (x0 : Byte) (x1 : Byte) (y0 : Byte) (y1 : Byte) (z0 : Byte) (z1 : Byte), s.boot.held = .off ∧
      s.atb.spansG ≤ s.pif.memsAt ∧ ends (exec (.memsRead x0 x1 y0 y1 z0 z1) s) (fun t => decide (t.pif = s.pif)) = true) ∧
    (∃ (s : State) (x0 : Byte) (x1 : Byte) (y0 : Byte) (y1 : Byte) (z0 : Byte) (z1 : Byte), s.boot.held = .off ∧
      s.pif.memsAt < s.atb.spansG ∧ s.fget Reg.PIF_SHK_STAT_MEMS_ACT = 0 ∧ s.fget Reg.PIF_MEMS_CFG_THR < (leInt16 z0
      z1).natAbs ∧ ends (exec (.memsRead x0 x1 y0 y1 z0 z1) s) (fun t => decide (t.fget Reg.PIF_SHK_STAT_MEMS_ACT = 1 ∧ (t.rd
      Reg.PIF_SHK_MEMSCNT).toNat = min ((s.rd Reg.PIF_SHK_MEMSCNT).toNat + 1) 0xFFFFFFFF)) = true) ∧
    (∃ (s : State), s.boot.held = .off ∧ stuckSince s.atb.spansG s.pif.linSince = true ∧ s.fget Reg.PIF_SHK_STAT_ANA_MASKED
      = 0 ∧ s.fget Reg.PIF_SHK_STAT_LIN_STUCK = 0 ∧ ends (exec (.shockInputStuck 0) s) (fun t => decide (t.fget
      Reg.PIF_SHK_STAT_LIN_STUCK = 1 ∧ t.fget Reg.PIF_EVT_STAT_STUCK = 1)) = true) ∧
    (∃ (s : State) (m : Master), s.boot.held = .off ∧ s.isOwner m = true ∧ s.fget Reg.PIF_SHK_STAT_LIN_STUCK = 1 ∧ ends
      (exec (.pifShkAckWrite m 1#2) s) (fun t => decide (t.fget Reg.PIF_SHK_STAT_ANA_MASKED = 1 ∧ t.fget
      Reg.PIF_SHK_STAT_LIN_STUCK = 0)) = true) ∧
    (∃ (s : State) (m : Master) (ack : _), s.boot.held = .off ∧ s.isOwner m = false ∧ ends (exec (.pifShkAckWrite m ack) s)
      (fun t => decide (∀ r ∈ keys s t, r ≠ Reg.EVR_DROPQ → t.rd r = s.rd r)) = true) ∧
    (∃ (s : State) (k : Nat) (p : PostedOp) (r : Fin 6) (l : _), s.boot.held = .off ∧ s.recov.inhibited[k]? = some p ∧ (∀ n
      : Fin 4, s.winh n = 0) ∧ s.surfWritable p.d.surf = true ∧ s.msc.rings[r.val]? = some l ∧ ends (exec
      (.inhibitClearRepost k r) s) (fun t => decide (t.recov.inhibited = s.recov.inhibited.eraseIdx k ∧ t.msc.rings[r.val]? =
      some (l ++ [((((t.msc.rings[r.val]?).getD []).headD posted))]) ∧ ((((t.msc.rings[r.val]?).getD []).headD posted)).cmd =
      p.cmd ∧ ((((t.msc.rings[r.val]?).getD []).headD posted)).ext = p.ext)) = true) ∧
    (∃ (s : State) (a : Nat) (c : Ctx) (t0 : Nat), s.boot.held = .off ∧ s.recov.stopped = false ∧ s.ctx a = some c ∧
      c.status = none ∧ c.inhStart = some t0 ∧ t0 + 120 * revLen s.piers ≤ s.linStamp ∧ ends (exec (.writeInhibitedTimeout a)
      s) (fun t => decide (t.statusOf a = some St.writeInhibited)) = true) :=
  ⟨⟨(driven [(Reg.PIF_CMD_n_LO_RW 5, 1), (Reg.PIF_CMD_n_LO_ADDR 5, 9), (Reg.PIF_CMD_n_HI_MASK 5, 255), (Reg.PIF_CMD_n_HI_EXPECT 5, 3), (⟨Reg.PIF_CMD_n_LO 5, 31, 31⟩, 1)]).modPa 0 (fun p => { p with queue := [⟨5, .trs⟩] }), 0, ⟨5, .trs⟩, [], by decide +kernel⟩,
   ⟨(driven []).modPa 0 (fun p => { p with queue := [⟨5, .trs⟩] }), 0, ⟨5, .trs⟩, [], by decide +kernel⟩,
   ⟨(driven [(Reg.PIF_CMD_n_LO_RW 5, 1), (Reg.PIF_CMD_n_LO_ADDR 5, 9), (Reg.PIF_CMD_n_HI_MASK 5, 255), (Reg.PIF_CMD_n_HI_EXPECT 5, 3), (⟨Reg.PIF_CMD_n_LO 5, 31, 31⟩, 1)]).modPa 0 (fun p => { p with flight := some (⟨5, .trs⟩, 2 ^ 23 + 9 * 2 ^ 16) }), 0, ⟨5, .trs⟩, 2 ^ 23 + 9 * 2 ^ 16, 0x7703#16, by decide +kernel⟩,
   ⟨(driven [(Reg.PIF_CMD_n_LO_RW 5, 1), (Reg.PIF_CMD_n_LO_ADDR 5, 9), (Reg.PIF_CMD_n_HI_MASK 5, 255), (Reg.PIF_CMD_n_HI_EXPECT 5, 3), (⟨Reg.PIF_CMD_n_LO 5, 31, 31⟩, 1)]).modPa 0 (fun p => { p with flight := some (⟨5, .trs⟩, 2 ^ 23 + 9 * 2 ^ 16) }), 0, ⟨5, .trs⟩, 2 ^ 23 + 9 * 2 ^ 16, 0x7702#16, by decide +kernel⟩,
   ⟨((driven []).modPa 0 (fun p => { p with inhSince := some 17 })).fput (Reg.PAn_WINH_SRC 0) 4, 0, 17, by decide +kernel⟩,
   ⟨driven [], 0, 1000000, by decide +kernel⟩,
   ⟨driven [], 0, 0, by decide +kernel⟩,
   ⟨(driven []).modPa 0 (fun p => { p with faultLine := true }), 0, 1000000, by decide +kernel⟩,
   ⟨driven [], 0, .core 0, by decide +kernel⟩,
   ⟨driven [(Reg.PAn_CTRL_FORCE 0, 1)], 0, .core 0, by decide +kernel⟩,
   ⟨((driven []).modPa 0 (fun p => { p with writeSince := some 3, window := true })).modAtbLane 0 (fun l => { l with spans := 5000 }), 0, 3, by decide +kernel⟩,
   ⟨driven [], 1000000, 1000000, by decide +kernel⟩,
   ⟨driven [(Reg.PIF_SHK_STAT_ROT_ACT, 1)], 0, 1000000, by decide +kernel⟩,
   ⟨({ driven [] with pif := ⟨none, none, none, some 0, 0, 0, []⟩ }).modAtb (fun a => { a with spansG := 500000 }), 0, by decide +kernel⟩,
   ⟨driven [], 0, 0, 0, 0, 0xFF, 0x7F, by decide +kernel⟩,
   ⟨(driven []).modAtb (fun a => { a with spansG := 5 }), 0, 0, 0, 0, 0xFF, 0x7F, by decide +kernel⟩,
   ⟨({ driven [] with pif := ⟨some 0, none, none, none, 0, 0, []⟩ }).modAtb (fun a => { a with spansG := 5000000 }), by decide +kernel⟩,
   ⟨at_ [(Reg.OWN_STATE_STATE, 1), (Reg.OWN_STATE_OWNER, 0), (Reg.OWN_STATE_TARGET, 0), (Reg.PIF_SHK_STAT_LIN_STUCK, 1)], .core 0, by decide +kernel⟩,
   ⟨driven [], .host 0, 3#2, by decide +kernel⟩,
   ⟨{ driven [] with recov := { RecSt.reset with inhibited := [{ posted with cmd := some 5 }] } }, 0, { posted with cmd := some 5 }, 0, [], by decide +kernel⟩,
   ⟨(hostedWith { ready 3 (sqe 0x01 1 []) with inhStart := some 0 } []).modAtb (fun a => { a with rev := 1000 }), 5, { ready 3 (sqe 0x01 1 []) with inhStart := some 0 }, 0, by decide +kernel⟩⟩

/-- Witness for Obligations.ServoSamplesAndLock, clause by clause. -/
theorem witness_ServoSamplesAndLock :
    (∃ (s : State) (n : Fin 4) (instant : _) (bits : BitVec 16) (bn : Int) (bq : Int) (idx : _) (gray : _), s.boot.held =
      .off ∧ popCount (Nat.xor bits.toNat 0xE9B2) 16 ≤ 1 ∧ (s.pair.get n).sam = none ∧ s.svdLock n = false ∧ ends (exec
      (.samDetect n instant bits bn bq idx gray) s) (fun t => decide ((t.pair.get n).sam.map (fun m => (m.amp, m.idx)) = some
      (65535, 7))) = true) ∧
    (∃ (s : State) (n : Fin 4), s.boot.held = .off ∧ s.publishDue n = false ∧ ends (exec (.samplePublish n) s) (fun t =>
      decide (t.pair = s.pair)) = true) ∧
    (∃ (s : State) (n : Fin 4) (instant : _) (bits : BitVec 16) (bn : Int) (bq : Int) (idx : _) (gray : _), s.boot.held =
      .off ∧ 1 < popCount (Nat.xor bits.toNat 0xE9B2) 16 ∧ ends (exec (.samDetect n instant bits bn bq idx gray) s) (fun t =>
      decide (t.pair = s.pair)) = true) ∧
    (∃ (s : State) (n : Fin 4), s.boot.held = .off ∧ (s.pair.get n).flight = none ∧ (s.pair.get n).sam = none ∧ s.publishDue
      n = true ∧ ends (exec (.samplePublish n) s) (fun t => decide ((t.pair.get n).sampValid = false ∧ t.fget
      (Reg.SVDn_STATUS_VALID n) = 0 ∧ (t.rd (Reg.SVDn_SAMMISS n)).toNat = min ((s.rd (Reg.SVDn_SAMMISS n)).toNat + 1)
      0xFFFFFFFF)) = true) ∧
    (∃ (s : State) (n : Fin 4) (m : SamData), s.boot.held = .off ∧ (s.pair.get n).flight = none ∧ (s.pair.get n).sam = some
      m ∧ s.sampleFaults n m = (false, false, false) ∧ s.publishDue n = true ∧ ends (exec (.samplePublish n) s) (fun t =>
      decide ((t.pair.get n).sam = none ∧ (t.pair.get n).sampValid = true ∧ (t.pair.get n).sampX = s.headPos n m ∧ t.fget
      (Reg.SVDn_STATUS_VALID n) = 1 ∧ (t.rd (Reg.SVDn_SAMPLES n)).toNat = min ((s.rd (Reg.SVDn_SAMPLES n)).toNat + 1)
      0xFFFFFFFF)) = true) ∧
    (∃ (s : State) (n : Fin 4) (m : SamData), s.boot.held = .off ∧ (s.pair.get n).flight = none ∧ (s.pair.get n).sam = some
      m ∧ m.amp < s.fget (Reg.SVDn_CFG0_AMIN n) ∧ s.publishDue n = true ∧ ends (exec (.samplePublish n) s) (fun t => decide
      ((t.pair.get n).sampValid = false ∧ (t.rd (Reg.SVDn_LOWAMP n)).toNat = min ((s.rd (Reg.SVDn_LOWAMP n)).toNat + 1)
      0xFFFFFFFF)) = true) ∧
    (∃ (s : State) (n : Fin 4) (m : SamData) (j : _), s.boot.held = .off ∧ (s.pair.get n).flight = none ∧ (s.pair.get n).sam
      = some m ∧ s.sampleFaults n m = (false, false, false) ∧ s.svdLock n = false ∧ (s.pair.get n).lastIdx = some j ∧ (j + 1)
      % s.piers = m.idx ∧ max 1 (s.fget (Reg.SVDn_CFG1_LOCKN n)) ≤ (s.pair.get n).lockRun + 1 ∧ s.publishDue n = true ∧ ends
      (exec (.samplePublish n) s) (fun t => decide (t.svdLock n = true)) = true) ∧
    (∃ (s : State) (n : Fin 4), s.boot.held = .off ∧ (s.pair.get n).flight = none ∧ (s.pair.get n).sam = none ∧ s.svdLock n
      = true ∧ max 1 (s.fget (Reg.SVDn_CFG1_MISSN n)) ≤ (s.pair.get n).missRun + 1 ∧ s.publishDue n = true ∧ ends (exec
      (.samplePublish n) s) (fun t => decide (t.svdLock n = false ∧ (t.rd (Reg.SVDn_LOCKLOSS n)).toNat = min ((s.rd
      (Reg.SVDn_LOCKLOSS n)).toNat + 1) 0xFFFFFFFF)) = true) :=
  ⟨⟨driven [], 0, 327600000000, 0xE9B3, 9000, -70000, 0x1D, 0x000007, by decide +kernel⟩,
   ⟨driven [], 0, by decide +kernel⟩,
   ⟨driven [], 0, 327600000000, 0xE9B1, 9000, -70000, 0x1D, 0x000007, by decide +kernel⟩,
   ⟨((driven []).modAtbLane 0 (fun l => { l with spans := 5 })).modAtb (fun a => { a with g := 2 ^ 41 }), 0, by decide +kernel⟩,
   ⟨(driven []).modPair 0 (fun p => { p with sam := some field }), 0, field, by decide +kernel⟩,
   ⟨(driven [(Reg.SVDn_CFG0_AMIN 0, 200)]).modPair 0 (fun p => { p with sam := some { field with amp := 100 } }), 0, { field with amp := 100 }, by decide +kernel⟩,
   ⟨(driven []).modPair 0 (fun p => { p with sam := some field, lastIdx := some 6, lockRun := 300 }), 0, field, 6, by decide +kernel⟩,
   ⟨(((driven [(Reg.SVDn_STATUS_LOCK 0, 1)]).modPair 0 (fun p => { p with missRun := 300 })).modAtbLane 0 (fun l => { l with spans := 5 })).modAtb (fun a => { a with g := 2 ^ 41 }), 0, by decide +kernel⟩⟩

/-- Witness for Obligations.ServoLawTransitions, clause by clause. -/
theorem witness_ServoLawTransitions :
    (∃ (s : State) (n : Fin 4), s.boot.held = .off ∧ (s.pair.get n).flight = none ∧ (s.pair.get n).law = 0 ∧ (s.pair.get
      n).loadReq = true ∧ s.publishDue n = true) ∧
    (∃ (s : State) (n : Fin 4), s.boot.held = .off ∧ (s.pair.get n).flight = none ∧ 1 ≤ (s.pair.get n).law ∧ (s.pair.get
      n).law ≤ 4 ∧ (s.pair.get n).sam = none ∧ s.svdLock n = false ∧ s.publishDue n = true ∧ ends (exec (.samplePublish n) s)
      (fun t => decide ((t.pair.get n).law = 5 ∧ t.fget (Reg.SCE_PAIRn_STATUS_LAW n) = 5)) = true) ∧
    (∃ (s : State) (n : Fin 4) (m : SamData), s.boot.held = .off ∧ (s.pair.get n).flight = none ∧ (s.pair.get n).law = 5 ∧
      (s.pair.get n).sam = some m ∧ s.sampleFaults n m = (false, false, false) ∧ s.svdLock n = true ∧ s.publishDue n = true ∧
      ends (exec (.samplePublish n) s) (fun t => decide ((t.pair.get n).law = 2)) = true) ∧
    (∃ (s : State) (n : Fin 4) (m : SamData), s.boot.held = .off ∧ (s.pair.get n).flight = none ∧ 1 ≤ (s.pair.get n).law ∧
      (s.pair.get n).law ≤ 3 ∧ (s.pair.get n).sam = some m ∧ s.sampleFaults n m = (false, false, false) ∧ s.svdLock n = true
      ∧ (s.pair.get n).redReq = true ∧ s.publishDue n = true ∧ ends (exec (.samplePublish n) s) (fun t => decide ((t.pair.get
      n).law = 4 ∧ t.msc.avail.get n ≠ .available)) = true) ∧
    (∃ (s : State) (n : Fin 4) (m : SamData), s.boot.held = .off ∧ (s.pair.get n).flight = none ∧ (s.pair.get n).law = 3 ∧
      (s.pair.get n).sam = some m ∧ s.sampleFaults n m = (false, false, false) ∧ s.svdLock n = true ∧ (s.pair.get n).redReq =
      false ∧ (s.pair.get n).unloadReq = true ∧ s.publishDue n = true) ∧
    (∃ (s : State) (n : Fin 4), s.boot.held = .off ∧ (s.pair.get n).law = 6 ∧ (s.pair.get n).rampIn = true ∧ s.svdLock n =
      false ∧ (s.pair.get n).since + s.revs 2 ≤ s.stamp ∧ ends (exec (.rampLoadTimeout n) s) (fun t => decide ((t.pair.get
      n).law = 6 ∧ (t.pair.get n).rampIn = false)) = true) ∧
    (∃ (s : State) (n : Fin 4), s.boot.held = .off ∧ (s.pair.get n).law = 5 ∧ s.svdLock n = false ∧ s.actEnabled n = true ∧
      (s.pair.get n).since + max 1 (s.fget (Reg.SCEn_TBL_RELOCK (engX n))) ≤ (s.atb.lanes.get n).spans ∧ ends (exec
      (.holdRelockTimeout n) s) (fun t => decide ((t.pair.get n).law = 7 ∧ t.fget (Reg.VCDn_STATUS_BRIDGE n) = 4)) = true) ∧
    (∃ (s : State) (n : Fin 4), s.boot.held = .off ∧ (s.pair.get n).retract = 1 ∧ (s.pair.get n).retractAt + max 1 (s.fget
      Reg.SMC_RETRACT1_RET1) ≤ s.atb.spansG ∧ s.boot.resetCause = none ∧ ends (exec (.retractPhaseEnd n) s) (fun t => decide
      ((t.pair.get n).retract = 2 ∧ (t.pair.get n).law = (s.pair.get n).law)) = true) ∧
    (∃ (s : State) (n : Fin 4), s.boot.held = .off ∧ (s.pair.get n).retract = 2 ∧ (s.pair.get n).retractAt + max 1 (s.fget
      Reg.SMC_RETRACT1_RET2) ≤ s.atb.spansG ∧ s.boot.resetCause = none ∧ ends (exec (.retractPhaseEnd n) s) (fun t => decide
      ((t.pair.get n).retract = 0 ∧ (t.pair.get n).law = 0 ∧ t.fget (Reg.VCDn_STATUS_BRIDGE n) = 0)) = true) :=
  ⟨⟨(driven []).modPair 0 (fun p => { p with loadReq := true, sam := some field }), 0, by decide +kernel⟩,
   ⟨(((driven []).modPair 0 (fun p => { p with law := 3 })).modAtbLane 0 (fun l => { l with spans := 5 })).modAtb (fun a => { a with g := 2 ^ 41 }), 0, by decide +kernel⟩,
   ⟨(driven [(Reg.SVDn_STATUS_LOCK 0, 1), (Reg.SVDn_CFG0_CYLTOL 0, 255)]).modPair 0 (fun p => { p with law := 5, sam := some field, lastIdx := some 6 }), 0, field, by decide +kernel⟩,
   ⟨(driven [(Reg.SVDn_STATUS_LOCK 0, 1), (Reg.SVDn_CFG0_CYLTOL 0, 255)]).modPair 0 (fun p => { p with law := 3, sam := some field, lastIdx := some 6, redReq := true }), 0, field, by decide +kernel⟩,
   ⟨(driven [(Reg.SVDn_STATUS_LOCK 0, 1), (Reg.SVDn_CFG0_CYLTOL 0, 255)]).modPair 0 (fun p => { p with law := 3, sam := some field, lastIdx := some 6, unloadReq := true }), 0, field, by decide +kernel⟩,
   ⟨((driven []).modPair 0 (fun p => { p with law := 6, rampIn := true, since := 0 })).modAtb (fun a => { a with rev := 9 }), 0, by decide +kernel⟩,
   ⟨((driven []).modPair 0 (fun p => { p with law := 5, since := 0 })).modAtbLane 0 (fun l => { l with spans := 500000 }), 0, by decide +kernel⟩,
   ⟨((driven []).modPair 0 (fun p => { p with law := 7, retract := 1, retractAt := 0 })).modAtb (fun a => { a with spansG := 500000 }), 0, by decide +kernel⟩,
   ⟨((driven []).modPair 0 (fun p => { p with law := 7, retract := 2, retractAt := 0 })).modAtb (fun a => { a with spansG := 500000 }), 0, by decide +kernel⟩⟩

/-- Witness for Obligations.ServoPairCommands, clause by clause. -/
theorem witness_ServoPairCommands :
    (∃ (s : State) (m : Master) (e : Fin 8) (n : Fin 4), s.boot.held = .off ∧ n = enginePair e ∧ s.unitOff (Reg.SCEn_CTRL e)
      = false ∧ (s.pair.get n).law = 0 ∧ s.engState n 0 = 2 ∧ ends (exec (.sceCtrlLoad m e) s) (fun t => decide ((t.pair.get
      n).loadReq = true ∧ t.holder n = 0 ∧ t.engState n 0 = 1)) = true) ∧
    (∃ (s : State) (m : Master) (e : Fin 8) (n : Fin 4), s.boot.held = .off ∧ n = enginePair e ∧ s.unitOff (Reg.SCEn_CTRL e)
      = false ∧ (s.pair.get n).law = 0 ∧ s.engState n 0 = 3 ∧ s.engState n 1 = 2 ∧ ends (exec (.sceCtrlLoad m e) s) (fun t =>
      decide ((t.pair.get n).loadReq = true ∧ t.holder n = 1 ∧ t.engState n 1 = 1)) = true) ∧
    (∃ (s : State) (m : Master) (e : Fin 8) (n : Fin 4), s.boot.held = .off ∧ n = enginePair e ∧ s.unitOff (Reg.SCEn_CTRL e)
      = false ∧ s.engState n 0 = 3 ∧ s.engState n 1 = 3 ∧ ends (exec (.sceCtrlLoad m e) s) (fun t => decide (t.pair =
      s.pair)) = true) ∧
    (∃ (s : State) (m : Master) (e : Fin 8) (n : Fin 4), s.boot.held = .off ∧ n = enginePair e ∧ s.unitOff (Reg.SCEn_CTRL e)
      = false ∧ ends (exec (.sceCtrlUnload m e) s) (fun t => decide (t.pair = s.pair.modify n (fun p =>
      { p with unloadReq := true }))) = true) ∧
    (∃ (s : State) (m : Master) (e : Fin 8) (n : Fin 4), s.boot.held = .off ∧ n = enginePair e ∧ s.unitOff (Reg.SCEn_CTRL e)
      = false ∧ ends (exec (.sceCtrlForceRed m e) s) (fun t => decide (t.pair = s.pair.modify n (fun p =>
      { p with redReq := true }))) = true) ∧
    (∃ (s : State) (m : Master) (e : Fin 8) (n : Fin 4), s.boot.held = .off ∧ n = enginePair e ∧ s.unitOff (Reg.SCEn_CTRL e)
      = false ∧ ends (exec (.sceCtrlResume m e) s) (fun t => decide (t.pair = s.pair.modify n (fun p =>
      { p with resumeReq := true }))) = true) ∧
    (∃ (s : State) (m : Master) (e : Fin 8) (n : Fin 4), s.boot.held = .off ∧ n = enginePair e ∧ s.unitOff (Reg.SCEn_CTRL e)
      = false ∧ ends (exec (.sceCtrlApply m e) s) (fun t => decide (t.pair = s.pair.modify n (fun p =>
      { p with applyReq := true }))) = true) ∧
    (∃ (s : State) (m : Master) (e : Fin 8) (n : Fin 4) (w : Word), s.boot.held = .off ∧ n = enginePair e ∧ s.unitOff
      (Reg.SCEn_CTRL e) = false ∧ ends (exec (.scePairRegisterWrite m (Reg.SCEn_SETTLE0 e) w) s) (fun t => decide
      ((Reg.SCEn_SETTLE0 (engX n), w) ∈ (t.pair.get n).shadow ∧ t.fget (Reg.SCEn_STATUS_SHADOW e) = 1 ∧ ∀ k : Fin 8, t.rd
      (Reg.SCEn_SETTLE0 k) = s.rd (Reg.SCEn_SETTLE0 k))) = true) :=
  ⟨⟨driven [(Reg.SRFn_STATUS_XSTATE 0, 2), (Reg.SRFn_STATUS_YSTATE 0, 2), (Reg.SRFn_STATUS_HOLDER 0, 0)], .core 0, 1, 0, by decide +kernel⟩,
   ⟨driven [(Reg.SRFn_STATUS_XSTATE 0, 3), (Reg.SRFn_STATUS_YSTATE 0, 2), (Reg.SRFn_STATUS_HOLDER 0, 0)], .core 0, 1, 0, by decide +kernel⟩,
   ⟨driven [(Reg.SRFn_STATUS_XSTATE 0, 3), (Reg.SRFn_STATUS_YSTATE 0, 3), (Reg.SRFn_STATUS_HOLDER 0, 0)], .core 0, 1, 0, by decide +kernel⟩,
   ⟨driven [], .core 0, 1, 0, by decide +kernel⟩,
   ⟨driven [], .core 0, 1, 0, by decide +kernel⟩,
   ⟨driven [], .core 0, 1, 0, by decide +kernel⟩,
   ⟨driven [], .core 0, 1, 0, by decide +kernel⟩,
   ⟨driven [], .core 0, 1, 0, 0x00FF1234, by decide +kernel⟩⟩

/-- Witness for Obligations.RefereeDecidesSamples, clause by clause. -/
theorem witness_RefereeDecidesSamples :
    (∃ (s : State) (n : Fin 4) (k : Nat) (e : Fin 2), s.boot.held = .off ∧ (s.pair.get n).flight = some k ∧ e = s.holder n ∧
      s.checking n = none ∧ s.engState n e = 1 ∧ s.pastPier n k ≤ s.deadline ∧ (s.pair.get n).recs.get e = none ∧ (s.pair.get
      n).corrupt.get e = false ∧ ((s.pair.get n).outs.get e).cyc ≤ 4096 ∧ s.refOk n (satBits 16 ((s.pair.get n).outs.get
      e).uv) = true ∧ ends (exec (.engineDelivery n e 0 0 0#32 false 0) s) (fun t => decide ((t.pair.get n).flight = none ∧
      (t.pair.get n).uv = limitTo (s.currentLimit n).1 (satBits 16 ((s.pair.get n).outs.get e).uv) ∧ (t.pair.get n).um =
      limitTo (s.fget (Reg.MADn_CFG_MALIM n)) (satBits 16 ((s.pair.get n).outs.get e).um))) = true) ∧
    (∃ (s : State) (n : Fin 4) (k : Nat) (c : Fin 2) (rh : EngOut), s.boot.held = .off ∧ (s.pair.get n).flight = some k ∧ c
      = otherEng (s.holder n) ∧ s.engState n c = 2 ∧ s.engState n (s.holder n) = 1 ∧ s.pastPier n k ≤ s.deadline ∧
      (s.pair.get n).recs.get c = none ∧ (s.pair.get n).recs.get (s.holder n) = some rh ∧ rh.selfChk = false ∧ (s.pair.get
      n).swapReq = false ∧ (s.pair.get n).corrupt.get c = false ∧ ((s.pair.get n).outs.get c).cyc ≤ 4096 ∧ satBits 16
      ((s.pair.get n).outs.get c).uv = rh.uv ∧ satBits 16 ((s.pair.get n).outs.get c).um = rh.um ∧ ((s.pair.get n).outs.get
      c).sig = rh.sig ∧ (s.pair.get n).resync.get c = .none ∧ ends (exec (.engineDelivery n c 0 0 0#32 false 0) s) (fun t =>
      decide ((t.pair.get n).flight = none ∧ (t.pair.get n).uv = limitTo (s.currentLimit n).1 rh.uv ∧ t.engState n c = 2 ∧
      (t.rd (Reg.SRFn_CMP n)).toNat = min ((s.rd (Reg.SRFn_CMP n)).toNat + 1) 0xFFFFFFFF)) = true) ∧
    (∃ (s : State) (n : Fin 4) (k : Nat) (c : Fin 2) (rh : EngOut) (dv : _) (dm : _) (dsig : _) (ecc : _), s.boot.held =
      .off ∧ (s.pair.get n).flight = some k ∧ c = otherEng (s.holder n) ∧ s.engState n c = 2 ∧ s.engState n (s.holder n) = 1
      ∧ s.pastPier n k ≤ s.deadline ∧ (s.pair.get n).recs.get c = none ∧ (s.pair.get n).recs.get (s.holder n) = some rh ∧
      rh.selfChk = false ∧ (s.pair.get n).corrupt.get c = false ∧ ((s.pair.get n).outs.get c).cyc + 4 * ecc ≤ 4096 ∧ satBits
      16 (((s.pair.get n).outs.get c).uv + dv) ≠ rh.uv ∧ (s.pair.get n).uref = none ∧ ends (exec (.engineDelivery n c dv dm
      dsig false ecc) s) (fun t => decide (t.engState n c = (if (escalate ((s.pair.get n).judged.get c) s.stamp (s.revs 64)
      (max 1 (s.fget (Reg.SRFn_CFG_RTRY n)))).1 then 5 else 3) ∧ t.fget (Reg.SRFn_JUDGE_CAUSE n) = 5 ∧ t.fget
      (Reg.SRFn_JUDGE_ENGINE n) = c.val ∧ (t.pair.get n).uv = limitTo (s.currentLimit n).1 rh.uv)) = true) ∧
    (∃ (s : State) (n : Fin 4) (k : Nat) (c : Fin 2) (rh : EngOut) (dv : _) (dm : _) (dsig : _) (ecc : _), s.boot.held =
      .off ∧ (s.pair.get n).flight = some k ∧ c = otherEng (s.holder n) ∧ s.engState n c = 2 ∧ s.engState n (s.holder n) = 1
      ∧ s.pastPier n k ≤ s.deadline ∧ (s.pair.get n).recs.get c = none ∧ (s.pair.get n).recs.get (s.holder n) = some rh ∧
      rh.selfChk = true ∧ ends (exec (.engineDelivery n c dv dm dsig true ecc) s) (fun t => decide (t.msc.avail.get n = .out
      ∧ t.msc.outCause.get n = some .fenced)) = true) ∧
    (∃ (s : State) (n : Fin 4) (k : Nat) (e : Fin 2) (dv : _) (dm : _) (dsig : _) (flag : _) (ecc : _), s.boot.held = .off ∧
      (s.pair.get n).flight = some k ∧ s.deadline < s.pastPier n k ∧ ends (exec (.engineDelivery n e dv dm dsig flag ecc) s)
      (fun t => decide (t.pair = s.pair ∧ t.fget (Reg.SCEn_STATUS_LATE (engNo n e)) = 1)) = true) ∧
    (∃ (s : State) (n : Fin 4) (k : Nat), s.boot.held = .off ∧ (s.pair.get n).flight = some k ∧ s.checking n = none ∧
      s.deadline ≤ s.pastPier n k ∧ ((s.pair.get n).lates.filter (fun b => b)).length < 7 ∧ ends (exec (.outputDeadline n) s)
      (fun t => decide ((t.pair.get n).flight = none ∧ (t.pair.get n).uv = (s.pair.get n).uv ∧ (t.pair.get n).um =
      (s.pair.get n).um ∧ (t.pair.get n).lates.headD false = true ∧ (t.rd (Reg.SCE_PAIRn_OVR n)).toNat = min ((s.rd
      (Reg.SCE_PAIRn_OVR n)).toNat + 1) 0xFFFFFFFF)) = true) ∧
    (∃ (s : State) (n : Fin 4) (k : Nat), s.boot.held = .off ∧ (s.pair.get n).flight = some k ∧ s.checking n = none ∧
      s.deadline ≤ s.pastPier n k ∧ 7 ≤ ((s.pair.get n).lates.take 63 |>.filter (fun b => b)).length ∧ (s.pair.get n).law = 4
      ∧ s.actEnabled n = true ∧ ends (exec (.outputDeadline n) s) (fun t => decide ((t.pair.get n).law = 7 ∧ t.msc.avail.get
      n = .out)) = true) ∧
    (∃ (s : State) (n : Fin 4) (k : Nat), s.boot.held = .off ∧ (s.pair.get n).flight = some k ∧ s.pastPier n k < s.deadline
      ∧ ends (exec (.outputDeadline n) s) (fun t => decide (t.pair = s.pair)) = true) :=
  ⟨⟨((driven [(Reg.SRFn_STATUS_XSTATE 0, 1), (Reg.SRFn_STATUS_YSTATE 0, 0), (Reg.SRFn_STATUS_HOLDER 0, 0)]).modPair 0 (fun p => { p with flight := some 7, law := 3, outs := p.outs.set 0 ⟨5, 6, 5, 6, 0#32, false, 100⟩ })).modAtb (fun a => { a with g := 7 * 2 ^ 42 + 1000 * 2 ^ 20, gPrev := 7 * 2 ^ 42 }), 0, 7, 0, by decide +kernel⟩,
   ⟨((driven [(Reg.SRFn_STATUS_XSTATE 0, 1), (Reg.SRFn_STATUS_YSTATE 0, 2), (Reg.SRFn_STATUS_HOLDER 0, 0)]).modPair 0 (fun p => { p with flight := some 7, law := 3, outs := Duo.all ⟨5, 6, 5, 6, 0#32, false, 100⟩, recs := p.recs.set 0 (some ⟨5, 6, 5, 6, 0#32, false, 100⟩) })).modAtb (fun a => { a with g := 7 * 2 ^ 42 + 1000 * 2 ^ 20, gPrev := 7 * 2 ^ 42 }), 0, 7, 1, ⟨5, 6, 5, 6, 0#32, false, 100⟩, by decide +kernel⟩,
   ⟨((driven [(Reg.SRFn_STATUS_XSTATE 0, 1), (Reg.SRFn_STATUS_YSTATE 0, 2), (Reg.SRFn_STATUS_HOLDER 0, 0)]).modPair 0 (fun p => { p with flight := some 7, law := 3, outs := Duo.all ⟨5, 6, 5, 6, 0#32, false, 100⟩, recs := p.recs.set 0 (some ⟨5, 6, 5, 6, 0#32, false, 100⟩) })).modAtb (fun a => { a with g := 7 * 2 ^ 42 + 1000 * 2 ^ 20, gPrev := 7 * 2 ^ 42 }), 0, 7, 1, ⟨5, 6, 5, 6, 0#32, false, 100⟩, 3, 0, 0#32, 1, by decide +kernel⟩,
   ⟨((driven [(Reg.SRFn_STATUS_XSTATE 0, 1), (Reg.SRFn_STATUS_YSTATE 0, 2), (Reg.SRFn_STATUS_HOLDER 0, 0)]).modPair 0 (fun p => { p with flight := some 7, law := 3, outs := Duo.all ⟨5, 6, 5, 6, 0#32, false, 100⟩, recs := p.recs.set 0 (some ⟨5, 6, 5, 6, 0#32, true, 100⟩) })).modAtb (fun a => { a with g := 7 * 2 ^ 42 + 1000 * 2 ^ 20, gPrev := 7 * 2 ^ 42 }), 0, 7, 1, ⟨5, 6, 5, 6, 0#32, true, 100⟩, 3, 0, 0#32, 1, by decide +kernel⟩,
   ⟨((driven [(Reg.SRFn_STATUS_XSTATE 0, 1), (Reg.SRFn_STATUS_YSTATE 0, 2), (Reg.SRFn_STATUS_HOLDER 0, 0)]).modPair 0 (fun p => { p with flight := some 7, law := 3 })).modAtb (fun a => { a with g := 7 * 2 ^ 42 + 4000000 * 2 ^ 20, gPrev := 7 * 2 ^ 42 }), 0, 7, 0, 3, 0, 0#32, false, 1, by decide +kernel⟩,
   ⟨((driven [(Reg.SRFn_STATUS_XSTATE 0, 1), (Reg.SRFn_STATUS_YSTATE 0, 0), (Reg.SRFn_STATUS_HOLDER 0, 0)]).modPair 0 (fun p => { p with flight := some 7, law := 3 })).modAtb (fun a => { a with g := 7 * 2 ^ 42 + 4000000 * 2 ^ 20, gPrev := 7 * 2 ^ 42 }), 0, 7, by decide +kernel⟩,
   ⟨((driven [(Reg.SRFn_STATUS_XSTATE 0, 1), (Reg.SRFn_STATUS_YSTATE 0, 0), (Reg.SRFn_STATUS_HOLDER 0, 0)]).modPair 0 (fun p => { p with flight := some 7, law := 4, lates := List.replicate 7 true })).modAtb (fun a => { a with g := 7 * 2 ^ 42 + 4000000 * 2 ^ 20, gPrev := 7 * 2 ^ 42 }), 0, 7, by decide +kernel⟩,
   ⟨((driven [(Reg.SRFn_STATUS_XSTATE 0, 1), (Reg.SRFn_STATUS_YSTATE 0, 0), (Reg.SRFn_STATUS_HOLDER 0, 0)]).modPair 0 (fun p => { p with flight := some 7, law := 3 })).modAtb (fun a => { a with g := 7 * 2 ^ 42 + 1000 * 2 ^ 20, gPrev := 7 * 2 ^ 42 }), 0, 7, by decide +kernel⟩⟩

/-- Witness for Obligations.RefereeKeystone, clause by clause. -/
theorem witness_RefereeKeystone :
    (∃ (s : State) (n : Fin 4) (h : Fin 2), s.boot.held = .off ∧ h = s.holder n ∧ (s.pair.get n).law ≠ 0 ∧ (s.pair.get
      n).law ≠ 7 ∧ s.engState n h = 1 ∧ s.engState n (otherEng h) = 2 ∧ s.laneAngle n / 2 ^ 22 = s.fget
      (Reg.SRFn_STATUS_EXPIRY n) ∧ (s.pair.get n).leased = true ∧ ends (exec (.keystoneExpiry n) s) (fun t => decide
      (t.holder n = otherEng h ∧ t.engState n (otherEng h) = 1 ∧ (t.engState n h = 3 ∨ t.engState n h = 5) ∧ t.fget
      (Reg.SRFn_JUDGE_CAUSE n) = 6 ∧ (t.rd (Reg.SRFn_SWITCH n)).toNat = min ((s.rd (Reg.SRFn_SWITCH n)).toNat + 1)
      0xFFFFFFFF)) = true) ∧
    (∃ (s : State) (n : Fin 4) (c : Nat), s.boot.held = .off ∧ (s.pair.get n).relAt = some c ∧ c ≤ s.cycle ∧ ends (exec
      (.switchoverInhibitRelease n) s) (fun t => decide (t.fget (Reg.SRFn_STATUS_WINH n) = 0 ∧ (t.pair.get n).relAt = none))
      = true) ∧
    (∃ (s : State) (n : Fin 4) (e : Fin 2) (c : Nat), s.boot.held = .off ∧ (s.pair.get n).resync.get e = .copying c ∧
      (s.pair.get n).law = 0 ∧ ends (exec (.resyncParameterCopyDone n e) s) (fun t => decide (t.engState n e = 4)) = true) ∧
    (∃ (s : State) (n : Fin 4) (e : Fin 2) (c : Nat), s.boot.held = .off ∧ (s.pair.get n).resync.get e = .copying c ∧
      (s.pair.get n).law ≠ 0 ∧ ends (exec (.resyncParameterCopyDone n e) s) (fun t => decide ((t.pair.get n).resync.get e =
      .waiting ∧ t.engState n e = s.engState n e)) = true) ∧
    (∃ (s : State) (n : Fin 4), s.boot.held = .off ∧ (s.pair.get n).law ≠ 0 ∧ (s.pair.get n).law ≠ 7 ∧ s.msc.commit.get n =
      none ∧ s.msc.running.get n = none ∧ s.engState n (s.holder n) = 1 ∧ s.engState n (otherEng (s.holder n)) = 2 ∧
      (s.pair.get n).swapAt + 86400 * 10 ^ 9 ≤ s.cycle ∧ ends (exec (.plannedSwapSchedule n) s) (fun t => decide ((t.pair.get
      n).swapReq = true)) = true) ∧
    (∃ (s : State) (n : Fin 4) (m : Master), s.boot.held = .off ∧ s.unitOff (Reg.SRFn_CTRL n) = false ∧ s.isOwner m = true ∧
      s.engState n (s.holder n) = 1 ∧ s.engState n (otherEng (s.holder n)) = 2 ∧ ends (exec (.srfCtrlSwap m n) s) (fun t =>
      decide ((t.pair.get n).swapReq = true)) = true) ∧
    (∃ (s : State) (n : Fin 4) (m : Master) (e : Fin 2), s.boot.held = .off ∧ s.unitOff (Reg.SRFn_CTRL n) = false ∧
      s.isOwner m = true ∧ s.engState n e = 1 ∧ s.holder n = e ∧ s.engState n (otherEng e) = 2 ∧ ends (exec (.srfCtrlFence m
      n e) s) (fun t => decide (t.holder n = otherEng e ∧ (t.engState n e = 3 ∨ t.engState n e = 5) ∧ t.fget
      (Reg.SRFn_JUDGE_CAUSE n) = 7)) = true) ∧
    (∃ (s : State) (n : Fin 4) (m : Master) (e : Fin 2), s.boot.held = .off ∧ s.unitOff (Reg.SRFn_CTRL n) = false ∧
      s.isOwner m = true ∧ s.engState n e = 3 ∨ s.engState n e = 5 ∧ ends (exec (.srfCtrlResync m n e) s) (fun t => decide
      (t.engState n e = 3 ∧ (t.pair.get n).judged.get e = [] ∧ (t.pair.get n).resync.get e = .copying (s.atb.lanes.get
      n).spans)) = true) ∧
    (∃ (s : State) (n : Fin 4) (m : Master) (e : Fin 2), s.boot.held = .off ∧ s.unitOff (Reg.SRFn_CTRL n) = false ∧
      s.isOwner m = true ∧ s.engState n e = 2 ∧ ends (exec (.srfCtrlCorrupt m n e) s) (fun t => decide ((t.pair.get
      n).corrupt.get e = true ∧ t.fget (Reg.SRFn_CTRL_ESEL n) = e.val)) = true) ∧
    (∃ (s : State) (n : Fin 4) (m : Master) (e : Fin 2), s.boot.held = .off ∧ s.isOwner m = false ∧ ends (exec
      (.srfCtrlFence m n e) s) (fun t => decide (t.pair = s.pair ∧ ∀ r ∈ keys s t, r ≠ Reg.EVR_DROPQ → t.rd r = s.rd r)) =
      true) :=
  ⟨⟨((driven [(Reg.SRFn_STATUS_XSTATE 0, 1), (Reg.SRFn_STATUS_YSTATE 0, 2), (Reg.SRFn_STATUS_HOLDER 0, 0), (Reg.SRFn_STATUS_EXPIRY 0, 7)]).modPair 0 (fun p => { p with law := 3, leased := true })).modAtb (fun a => { a with g := 7 * 2 ^ 42 + 1000 * 2 ^ 20, gPrev := 7 * 2 ^ 42 }), 0, 0, by decide +kernel⟩,
   ⟨(driven [(Reg.SRFn_STATUS_WINH 0, 1)]).modPair 0 (fun p => { p with relAt := some 17 }), 0, 17, by decide +kernel⟩,
   ⟨(driven [(Reg.SRFn_STATUS_XSTATE 0, 3), (Reg.SRFn_STATUS_YSTATE 0, 1), (Reg.SRFn_STATUS_HOLDER 0, 1)]).modPair 0 (fun p => { p with resync := p.resync.set 0 (.copying 3) }), 0, 0, 3, by decide +kernel⟩,
   ⟨(driven [(Reg.SRFn_STATUS_XSTATE 0, 3), (Reg.SRFn_STATUS_YSTATE 0, 1), (Reg.SRFn_STATUS_HOLDER 0, 1)]).modPair 0 (fun p => { p with law := 3, resync := p.resync.set 0 (.copying 3) }), 0, 0, 3, by decide +kernel⟩,
   ⟨{ (driven [(Reg.SRFn_STATUS_XSTATE 0, 1), (Reg.SRFn_STATUS_YSTATE 0, 2), (Reg.SRFn_STATUS_HOLDER 0, 0)]).modPair 0 (fun p => { p with law := 3 }) with cycle := 10 ^ 14 }, 0, by decide +kernel⟩,
   ⟨(driven [(Reg.SRFn_STATUS_XSTATE 0, 1), (Reg.SRFn_STATUS_YSTATE 0, 2), (Reg.SRFn_STATUS_HOLDER 0, 0), (Reg.OWN_STATE_STATE, 1), (Reg.OWN_STATE_OWNER, 0), (Reg.OWN_STATE_TARGET, 0)]).modPair 0 (fun p => { p with law := 3 }), 0, .core 0, by decide +kernel⟩,
   ⟨(driven [(Reg.SRFn_STATUS_XSTATE 0, 1), (Reg.SRFn_STATUS_YSTATE 0, 2), (Reg.SRFn_STATUS_HOLDER 0, 0), (Reg.OWN_STATE_STATE, 1), (Reg.OWN_STATE_OWNER, 0), (Reg.OWN_STATE_TARGET, 0)]).modPair 0 (fun p => { p with law := 3 }), 0, .core 0, 0, by decide +kernel⟩,
   ⟨(driven [(Reg.SRFn_STATUS_XSTATE 0, 1), (Reg.SRFn_STATUS_YSTATE 0, 3), (Reg.SRFn_STATUS_HOLDER 0, 0), (Reg.OWN_STATE_STATE, 1), (Reg.OWN_STATE_OWNER, 0), (Reg.OWN_STATE_TARGET, 0)]).modPair 0 (fun p => { p with law := 3 }), 0, .core 0, 1, by decide +kernel⟩,
   ⟨(driven [(Reg.SRFn_STATUS_XSTATE 0, 1), (Reg.SRFn_STATUS_YSTATE 0, 2), (Reg.SRFn_STATUS_HOLDER 0, 0), (Reg.OWN_STATE_STATE, 1), (Reg.OWN_STATE_OWNER, 0), (Reg.OWN_STATE_TARGET, 0)]).modPair 0 (fun p => { p with law := 3 }), 0, .core 0, 1, by decide +kernel⟩,
   ⟨(driven [(Reg.SRFn_STATUS_XSTATE 0, 1), (Reg.SRFn_STATUS_YSTATE 0, 2), (Reg.SRFn_STATUS_HOLDER 0, 0)]).modPair 0 (fun p => { p with law := 3 }), 0, .host 0, 0, by decide +kernel⟩⟩

/-- Witness for Obligations.DriveAndCapture, clause by clause. -/
theorem witness_DriveAndCapture :
    (∃ (s : State) (n : Fin 4) (i : Int), s.boot.held = .off ∧ (s.pair.get n).law ≠ 0 ∧ (s.pair.get n).law ≠ 7 ∧ (s.pair.get
      n).ocOff = false ∧ s.fbit (Reg.VCDn_BASIC_ENABLE n) = true ∧ i < (s.pair.get n).uv - (s.fget (Reg.VCDn_LOOP_HB n) :
      Int) ∧ s.fbit (Reg.VCDn_LOOP_SW n) = false ∧ s.fget (Reg.VCDn_STATUS_BRIDGE n) ≠ 1 ∧ (s.pair.get n).changedAt + max 250
      (s.fget (Reg.VCDn_LOOP_DWELL n)) ≤ s.cycle ∧ ends (exec (.bridgeSwitch n i) s) (fun t => decide (t.fget
      (Reg.VCDn_STATUS_BRIDGE n) = 1)) = true) ∧
    (∃ (s : State) (n : Fin 4) (i : Int), s.boot.held = .off ∧ (s.pair.get n).law = 0 ∧ ends (exec (.bridgeSwitch n i) s)
      (fun t => decide (∀ r ∈ keys s t, r ≠ Reg.EVR_DROPQ → t.rd r = s.rd r)) = true) ∧
    (∃ (s : State) (n : Fin 4) (i : Int), s.boot.held = .off ∧ s.fget (Reg.VCDn_ILIM_CFG_IOC n) < i.natAbs ∧ (s.pair.get
      n).law ≠ 7 ∧ (escalate (s.pair.get n).trips (s.atb.lanes.get n).spans 64 8).1 = false ∧ ends (exec (.vcmOvercurrentTrip
      n i) s) (fun t => decide (t.fget (Reg.VCDn_STATUS_BRIDGE n) = 0 ∧ (t.pair.get n).ocOff = true ∧ (t.rd (Reg.VCDn_OCTRIPS
      n)).toNat = min ((s.rd (Reg.VCDn_OCTRIPS n)).toNat + 1) 0xFFFFFFFF)) = true) ∧
    (∃ (s : State) (n : Fin 4) (i : Int), s.boot.held = .off ∧ s.fget (Reg.VCDn_ILIM_CFG_IOC n) < i.natAbs ∧ (s.pair.get
      n).law ≠ 7 ∧ s.actEnabled n = true ∧ (escalate (s.pair.get n).trips (s.atb.lanes.get n).spans 64 8).1 = true ∧ ends
      (exec (.vcmOvercurrentTrip n i) s) (fun t => decide ((t.pair.get n).law = 7 ∧ t.msc.avail.get n = .out ∧
      t.msc.outCause.get n = some .overcurrent)) = true) ∧
    (∃ (s : State), s.boot.held = .off) ∧
    (∃ (s : State), s.boot.held = .off) ∧
    (∃ (s : State) (n : Fin 4), s.boot.held = .off ∧ s.injOn n = true ∧ s.fget (Reg.SCE_PAIRn_INJ2_SAMPLES n) ≠ 0 ∧ s.fget
      (Reg.SCE_PAIRn_INJ2_SAMPLES n) ≤ (s.pair.get n).injCount ∧ ends (exec (.injectionEnd n) s) (fun t => decide (t.injOn n
      = false)) = true) ∧
    (∃ (s : State) (m : Master) (u : Fin 2), s.boot.held = .off ∧ s.isOwner m = true ∧ s.fbit (Reg.SVD_CAPn_CFG_MODE u) =
      false ∧ s.fbit (Reg.SVD_CAPn_CFG_TRIG u) = false ∧ ends (exec (.captureArm m u) s) (fun t => decide ((t.cap.get u).st =
      2 ∧ (t.cap.get u).left = some (s.capCount u) ∧ t.rd (Reg.SVD_CAPn_STAT u) = 0x10000#32)) = true) ∧
    (∃ (s : State) (m : Master) (u : Fin 2), s.boot.held = .off ∧ s.isOwner m = true ∧ s.fbit (Reg.SVD_CAPn_CFG_MODE u) =
      false ∧ s.fbit (Reg.SVD_CAPn_CFG_TRIG u) = true ∧ ends (exec (.captureArm m u) s) (fun t => decide ((t.cap.get u).st =
      1)) = true) ∧
    (∃ (s : State) (m : Master) (u : Fin 2), s.boot.held = .off ∧ s.isOwner m = true ∧ (s.cap.get u).st = 2 ∧ s.fbit
      (Reg.SVD_CAPn_CFG_MODE u) = true ∧ s.fbit (Reg.SVD_CAPn_CFG_TRIG u) = false ∧ (s.cap.get u).left = none ∧ ends (exec
      (.captureCtrlStop m u) s) (fun t => decide ((t.cap.get u).left = some (s.capCount u))) = true) ∧
    (∃ (s : State) (n : Fin 4) (m : Master), s.boot.held = .off ∧ s.unitOff (Reg.SVDn_POS_LO n) = false ∧ ends (exec
      (.svdPosRead m n) s) (fun t => decide (t.out = .regRead (s.rd (Reg.SVDn_POS_LO n)) :: s.out ∧ t.fget (Reg.SVDn_POS_HI_X
      n) = ((s.pair.get n).sampX / 2 ^ 32 % 16).toNat)) = true) ∧
    (∃ (s : State) (m : Master), s.boot.held = .off ∧ ends (exec (.hqeArrivalRead m) s) (fun t => decide (t.rd
      Reg.HQE_ARRIVAL_HI = BitVec.ofNat 32 ((s.host.nextArr - 1) / 2 ^ 32))) = true) :=
  ⟨⟨(driven [(Reg.VCDn_BASIC_ENABLE 0, 1)]).modPair 0 (fun p => { p with law := 3, uv := 500 }), 0, 10, by decide +kernel⟩,
   ⟨driven [], 0, 10, by decide +kernel⟩,
   ⟨(driven [(Reg.VCDn_STATUS_BRIDGE 0, 2), (Reg.VCDn_ILIM_CFG_IOC 0, 2000)]).modPair 0 (fun p => { p with law := 3 }), 0, 30000, by decide +kernel⟩,
   ⟨(driven [(Reg.VCDn_STATUS_BRIDGE 0, 2), (Reg.VCDn_ILIM_CFG_IOC 0, 2000)]).modPair 0 (fun p => { p with law := 3, trips := [0, 0, 0, 0, 0, 0, 0] }), 0, 30000, by decide +kernel⟩,
   ⟨driven [], by decide +kernel⟩,
   ⟨driven [], by decide +kernel⟩,
   ⟨(driven [(Reg.SCE_PAIRn_INJ2_SAMPLES 0, 9), (Reg.SCE_PAIRn_INJ0_EN 0, 1)]).modPair 0 (fun p => { p with injCount := 9 }), 0, by decide +kernel⟩,
   ⟨driven [(Reg.OWN_STATE_STATE, 1), (Reg.OWN_STATE_OWNER, 0), (Reg.OWN_STATE_TARGET, 0)], .core 0, 0, by decide +kernel⟩,
   ⟨driven [(Reg.OWN_STATE_STATE, 1), (Reg.OWN_STATE_OWNER, 0), (Reg.OWN_STATE_TARGET, 0), (Reg.SVD_CAPn_CFG_TRIG 0, 1)], .core 0, 0, by decide +kernel⟩,
   ⟨(driven [(Reg.OWN_STATE_STATE, 1), (Reg.OWN_STATE_OWNER, 0), (Reg.OWN_STATE_TARGET, 0), (Reg.SVD_CAPn_CFG_MODE 0, 1)]).modCap 0 (fun c => { c with st := 2, left := none }), .core 0, 0, by decide +kernel⟩,
   ⟨(driven []).modPair 0 (fun p => { p with sampX := -5 }), 0, .core 0, by decide +kernel⟩,
   ⟨run.modHost (fun h => { h with nextArr := 2 ^ 33 + 5 }), .core 0, by decide +kernel⟩⟩

/-- Witness for Obligations.SpindleStarts, clause by clause. -/
theorem witness_SpindleStarts :
    (∃ (s : State) (m : Master), s.boot.held = .off ∧ s.unitOff Reg.SMC_CTRL = false ∧ s.smcLatched = false ∧ s.smcState = 0
      ∧ ends (exec (.smcCtrlStart m) s) (fun t => decide (t.smcState = 1 ∧ t.fget Reg.SMC_STATUS_ATTEMPT = 1 ∧ t.smc.starting
      = true ∧ (t.rd Reg.SMC_STARTS).toNat = min ((s.rd Reg.SMC_STARTS).toNat + 1) 0xFFFFFFFF ∧ ∀ n : Fin 4, (t.winh
      n).testBit 5 = true)) = true) ∧
    (∃ (s : State) (m : Master), s.boot.held = .off ∧ s.smcLatched = true ∧ s.smcState = 0 ∧ ends (exec (.smcCtrlStart m) s)
      (fun t => decide (t.smc = s.smc ∧ ∀ r ∈ keys s t, r ≠ Reg.EVR_DROPQ → t.rd r = s.rd r)) = true) ∧
    (∃ (s : State) (m : Master), s.boot.held = .off ∧ s.unitOff Reg.SMC_CTRL = false ∧ s.fget Reg.SMC_BRAKE_MODE = 1 ∧ 1 ≤
      s.smcState ∧ s.smcState ≤ 7 ∧ ends (exec (.smcCtrlStop m) s) (fun t => decide (t.smcState = 8 ∧ t.smc.starting =
      false)) = true) ∧
    (∃ (s : State) (m : Master), s.boot.held = .off ∧ s.unitOff Reg.SMC_CTRL = false ∧ s.fget Reg.SMC_BRAKE_MODE = 0 ∧
      s.smcState = 6 ∧ ends (exec (.smcCtrlStop m) s) (fun t => decide (t.smcState = 6 ∧ t.smc.stopping = true)) = true) ∧
    (∃ (s : State) (m : Master) (w : Word), s.boot.held = .off ∧ s.unitOff Reg.SMC_SETPT = false ∧ 5400 ≤ w.toNat % 65536 ∧
      w.toNat % 65536 ≤ 7200 ∧ w.toNat / 65536 % 4 = 0 ∧ ends (exec (.smcSetptWrite m w) s) (fun t => decide (t.fget
      Reg.SMC_SETPT_RPM = w.toNat % 65536 ∧ t.fget Reg.SMC_SETPT_SRC = 0 ∧ t.fget Reg.SMC_STATUS_SYNC = 0 ∧ t.fget
      Reg.SMC_TRIM_TRIM = 0)) = true) ∧
    (∃ (s : State) (m : Master) (w : Word), s.boot.held = .off ∧ w.toNat % 65536 < 5400 ∨ 7200 < w.toNat % 65536 ∨ w.toNat /
      65536 % 4 = 3 ∧ ends (exec (.smcSetptWrite m w) s) (fun t => decide (∀ r ∈ keys s t, r ≠ Reg.EVR_DROPQ → t.rd r = s.rd
      r)) = true) ∧
    (∃ (s : State) (p : Nat), s.boot.held = .off ∧ s.smcState = 1 ∧ s.smc.detAt + 48000 ≤ s.cycle ∧ 0 < p ∧ s.fget
      Reg.SMC_START_DETMIN * p ≤ p * 256 ∧ ends (exec (.detectComplete 0 p 0 0 0 0) s) (fun t => decide (t.smcState = 3 ∧
      t.smc.step = (1 + s.fget Reg.SMC_MOTOR1_DETOFF) % 6)) = true) ∧
    (∃ (s : State) (p : Nat), s.boot.held = .off ∧ s.smcState = 1 ∧ s.smc.detAt + 48000 ≤ s.cycle ∧ 0 < s.fget
      Reg.SMC_START_DETMIN * p ∧ ends (exec (.detectComplete p p p p p p) s) (fun t => decide (t.smcState = 2)) = true) ∧
    (∃ (s : State), s.boot.held = .off ∧ s.smcState = 2 ∧ s.smc.alignAt + max 1 (s.fget Reg.SMC_START_ALIGNT) ≤ s.atb.spansG
      ∧ ends (exec .alignEnd s) (fun t => decide (t.smcState = 3 ∧ t.smc.step = 2)) = true) ∧
    (∃ (s : State), s.boot.held = .off ∧ s.smcState = 3 ∧ s.smc.olAt + s.smc.olInt ≤ s.atb.spansG ∧ ends (exec .openLoopStep
      s) (fun t => decide (t.smc.step = (s.smc.step + 1) % 6 ∧ t.smc.olInt = max (max 1 (s.fget Reg.SMC_START2_OLMIN))
      (s.smc.olInt * 15 / 16))) = true) ∧
    (∃ (s : State), s.boot.held = .off ∧ s.smcState = 3 ∧ s.smc.olSpan + s.fget Reg.SMC_START1_OLMAX * 16 ≤ s.atb.spansG ∧
      s.fget Reg.SMC_STATUS_ATTEMPT < 4 ∧ ends (exec .openLoopBoundExpiry s) (fun t => decide (t.smcState = 8 ∧ (t.rd
      Reg.SMC_ABORTS).toNat = min ((s.rd Reg.SMC_ABORTS).toNat + 1) 0xFFFFFFFF)) = true) ∧
    (∃ (s : State), s.boot.held = .off ∧ s.smcState = 3 ∧ s.smc.olSpan + s.fget Reg.SMC_START1_OLMAX * 16 ≤ s.atb.spansG ∧ 4
      ≤ s.fget Reg.SMC_STATUS_ATTEMPT ∧ ends (exec .openLoopBoundExpiry s) (fun t => decide (t.smcState = 0 ∧ t.fget
      Reg.SMC_FAULT_SPINFAIL = 1)) = true) ∧
    (∃ (s : State), s.boot.held = .off ∧ s.smc.starting = true ∧ s.smc.startSpan + s.fget Reg.SMC_HOVER_SPINMAX * 1024 ≤
      s.atb.spansG ∧ ends (exec .startBoundExpiry s) (fun t => decide (t.smcState = 0 ∧ t.fget Reg.SMC_FAULT_SPINFAIL = 1 ∧
      t.smc.starting = false)) = true) ∧
    (∃ (s : State) (kind : Fin 6) (edge : Nat) (held : Nat), s.boot.held = .off ∧ edge < s.fget Reg.SMC_MOTOR1_BLANK ∨ held
      < 100 ∧ ends (exec (.bemfCrossing kind edge held) s) (fun t => decide (t.smc = s.smc)) = true) ∧
    (∃ (s : State) (k : Nat) (kind : Fin 6) (edge : Nat) (held : Nat), s.boot.held = .off ∧ s.fget Reg.SMC_MOTOR1_BLANK ≤
      edge ∧ 100 ≤ held ∧ s.smcState = 3 ∧ s.smc.lastKind = some k ∧ kind.val = (k + 1) % 6 ∧ s.smc.fwdRun = 5 ∧ ends (exec
      (.bemfCrossing kind edge held) s) (fun t => decide (t.smcState = 4 ∧ t.smc.lastKind = some kind.val)) = true) ∧
    (∃ (s : State) (k : Nat) (kind : Fin 6) (edge : Nat) (held : Nat), s.boot.held = .off ∧ s.fget Reg.SMC_MOTOR1_BLANK ≤
      edge ∧ 100 ≤ held ∧ s.smcState = 3 ∧ s.smc.lastKind = some k ∧ kind.val = (k + 5) % 6 ∧ s.smc.revCount + 1 ≤ s.fget
      Reg.SMC_START_BACKMAX ∧ ends (exec (.bemfCrossing kind edge held) s) (fun t => decide (t.smcState = 3 ∧ t.smc.revCount
      = s.smc.revCount + 1 ∧ (t.rd Reg.SMC_BACKJ).toNat = min ((s.rd Reg.SMC_BACKJ).toNat + 1) 0xFFFFFFFF)) = true) ∧
    (∃ (s : State) (k : Nat) (kind : Fin 6) (edge : Nat) (held : Nat), s.boot.held = .off ∧ s.fget Reg.SMC_MOTOR1_BLANK ≤
      edge ∧ 100 ≤ held ∧ s.smcState = 7 ∧ s.smc.lastKind = some k ∧ kind.val = (k + 5) % 6 ∧ ends (exec (.bemfCrossing kind
      edge held) s) (fun t => decide (t.smcState = 8 ∧ t.fget Reg.SMC_FAULT_CATCHFAIL = 1)) = true) ∧
    (∃ (s : State) (c : Nat), s.boot.held = .off ∧ s.smcState = 4 ∧ s.smc.commAt = some c ∧ c ≤ s.cycle ∧ ends (exec
      .commutation s) (fun t => decide (t.smc.step = (s.smc.step + 1) % 6 ∧ t.smc.commAt = none)) = true) ∧
    (∃ (s : State), s.boot.held = .off ∧ s.smcStopped = true ∧ s.smcState = 9 ∧ ends (exec .standstillDetect s) (fun t =>
      decide (t.smcState = 0)) = true) ∧
    (∃ (s : State), s.boot.held = .off ∧ s.smcStopped = true ∧ s.smcState = 8 ∧ s.smcLatched = false ∧ s.smc.between = true
      ∧ s.fget Reg.SMC_STATUS_ATTEMPT < 4 ∧ ends (exec .standstillDetect s) (fun t => decide (t.fget Reg.SMC_STATUS_ATTEMPT =
      s.fget Reg.SMC_STATUS_ATTEMPT + 1)) = true) ∧
    (∃ (s : State), s.boot.held = .off ∧ s.smcState = 7 ∧ s.smc.catchAt + s.fget Reg.SMC_CATCH_CATCHMAX ≤ s.atb.spansG ∧
      ends (exec .catchTimeout s) (fun t => decide (t.smcState = 8 ∧ t.fget Reg.SMC_FAULT_CATCHFAIL = 1)) = true) :=
  ⟨⟨driven [(Reg.SMC_STATUS_STATE, 0)], .core 0, by decide +kernel⟩,
   ⟨driven [(Reg.SMC_STATUS_STATE, 0), (Reg.SMC_FAULT_CHOP, 1)], .core 0, by decide +kernel⟩,
   ⟨(driven [(Reg.SMC_STATUS_STATE, 3), (Reg.SMC_BRAKE_MODE, 1)]).modSmc (fun m => { m with starting := true }), .core 0, by decide +kernel⟩,
   ⟨driven [(Reg.SMC_STATUS_STATE, 6), (Reg.SMC_BRAKE_MODE, 0)], .core 0, by decide +kernel⟩,
   ⟨driven [(Reg.SMC_STATUS_SYNC, 1), (Reg.SMC_TRIM_TRIM, 5), (Reg.SMC_SETPT_SRC, 1)], .core 0, 7200, by decide +kernel⟩,
   ⟨driven [], .core 0, 5399, by decide +kernel⟩,
   ⟨driven [(Reg.SMC_STATUS_STATE, 1), (Reg.SMC_START_DETMIN, 20), (Reg.SMC_MOTOR1_DETOFF, 2)], 100, by decide +kernel⟩,
   ⟨driven [(Reg.SMC_STATUS_STATE, 1), (Reg.SMC_START_DETMIN, 20)], 100, by decide +kernel⟩,
   ⟨((driven [(Reg.SMC_STATUS_STATE, 2)]).modSmc (fun m => { m with alignAt := 5 })).modAtb (fun a => { a with spansG := 90000000 }), by decide +kernel⟩,
   ⟨((driven [(Reg.SMC_STATUS_STATE, 3)]).modSmc (fun m => { m with olInt := 1000, step := 5 })).modAtb (fun a => { a with spansG := 90000000 }), by decide +kernel⟩,
   ⟨(driven [(Reg.SMC_STATUS_STATE, 3), (Reg.SMC_STATUS_ATTEMPT, 3)]).modAtb (fun a => { a with spansG := 90000000 }), by decide +kernel⟩,
   ⟨(driven [(Reg.SMC_STATUS_STATE, 3), (Reg.SMC_STATUS_ATTEMPT, 4)]).modAtb (fun a => { a with spansG := 90000000 }), by decide +kernel⟩,
   ⟨((driven [(Reg.SMC_STATUS_STATE, 5)]).modSmc (fun m => { m with starting := true })).modAtb (fun a => { a with spansG := 90000000 }), by decide +kernel⟩,
   ⟨driven [], 3, 10^6, 99, by decide +kernel⟩,
   ⟨(driven [(Reg.SMC_STATUS_STATE, 3)]).modSmc (fun m => { m with lastKind := some 2, fwdRun := 5 }), 2, 3, 10^6, 10^6, by decide +kernel⟩,
   ⟨(driven [(Reg.SMC_STATUS_STATE, 3), (Reg.SMC_START_BACKMAX, 4)]).modSmc (fun m => { m with lastKind := some 0, revCount := 0 }), 0, 5, 10^6, 10^6, by decide +kernel⟩,
   ⟨(driven [(Reg.SMC_STATUS_STATE, 7)]).modSmc (fun m => { m with lastKind := some 2 }), 2, 1, 10^6, 10^6, by decide +kernel⟩,
   ⟨(driven [(Reg.SMC_STATUS_STATE, 4)]).modSmc (fun m => { m with commAt := some 17, step := 5 }), 17, by decide +kernel⟩,
   ⟨(driven [(Reg.SMC_STATUS_STATE, 9)]).modAtb (fun a => { a with spansG := 90000000 }), by decide +kernel⟩,
   ⟨((driven [(Reg.SMC_STATUS_STATE, 8), (Reg.SMC_STATUS_ATTEMPT, 2)]).modSmc (fun m => { m with between := true })).modAtb (fun a => { a with spansG := 90000000 }), by decide +kernel⟩,
   ⟨(driven [(Reg.SMC_STATUS_STATE, 7)]).modAtb (fun a => { a with spansG := 90000000 }), by decide +kernel⟩⟩

/-- Witness for Obligations.SpindleLoopAndSupply, clause by clause. -/
theorem witness_SpindleLoopAndSupply :
    (∃ (s : State) (th : Nat) (sp : Nat) (emf : Nat) (ibr : _), s.boot.held = .off ∧ s.smc.loopBlock = some (s.atb.rev * 64
      + s.angleG / 2 ^ 26) ∧ ends (exec (.speedLoopRun th sp emf ibr) s) (fun t => decide (t.smc = s.smc)) = true) ∧
    (∃ (s : State) (th : Nat) (sp : Nat) (emf : Nat) (ibr : _), s.boot.held = .off ∧ s.smc.loopBlock ≠ some (s.atb.rev * 64
      + s.angleG / 2 ^ 26) ∧ s.smcState = 5 ∧ ends (exec (.speedLoopRun th sp emf ibr) s) (fun t => decide (t.fget
      Reg.SMC_SPEED_SPEED = min sp 65535 ∧ t.fget Reg.SMC_SPEED_TARGET = (s.nextTarget / 64).toNat % 65536 ∧ t.smc.loopBlock
      = some (s.atb.rev * 64 + s.angleG / 2 ^ 26) ∧ t.fget Reg.SMC_IBR_I = ibr.toNat ∧ ∀ n : Fin 4, (t.winh n).testBit 5 =
      true)) = true) ∧
    (∃ (s : State) (th : Nat) (sp : Nat) (emf : Nat) (ibr : _), s.boot.held = .off ∧ s.smc.loopBlock ≠ some (s.atb.rev * 64
      + s.angleG / 2 ^ 26) ∧ s.smcState = 5 ∧ s.smc.stopping = false ∧ s.fbit Reg.SMC_STATUS_OBSLOCK = true ∧ s.smc.obsBad +
      1 < s.fget Reg.SMC_OBS_OBSN ∧ s.fbit Reg.ATB_STATUS_QUAL = true ∧ 63 ≤ s.smc.learn.length ∧ ends (exec (.speedLoopRun
      th sp emf ibr) s) (fun t => decide (t.smcState = 6 ∧ t.fget Reg.SMC_STATUS_ROTOK = 1)) = true) ∧
    (∃ (s : State) (i : Nat), s.boot.held = .off ∧ s.fget Reg.SMC_ILIM_IOC < i ∧ (escalate s.smc.trips s.atb.spansG 1024
      64).1 = false ∧ ends (exec (.spindleOvercurrentTrip i) s) (fun t => decide (t.smcState = s.smcState ∧ (t.rd
      Reg.SMC_OCTRIPS).toNat = min ((s.rd Reg.SMC_OCTRIPS).toNat + 1) 0xFFFFFFFF)) = true) ∧
    (∃ (s : State) (i : Nat), s.boot.held = .off ∧ s.fget Reg.SMC_ILIM_IOC < i ∧ (escalate s.smc.trips s.atb.spansG 1024
      64).1 = true ∧ s.smcState = 6 ∧ ends (exec (.spindleOvercurrentTrip i) s) (fun t => decide (t.smcState = 7 ∧ t.fget
      Reg.SMC_FAULT_OCESC = 1)) = true) ∧
    (∃ (s : State) (code : BitVec 12), s.boot.held = .off ∧ s.atb.spansG ≤ s.smc.sprefAt ∧ ends (exec (.sprefSample code) s)
      (fun t => decide (t.smc = s.smc)) = true) ∧
    (∃ (s : State) (code : BitVec 12), s.boot.held = .off ∧ s.smc.sprefAt < s.atb.spansG ∧ ends (exec (.sprefSample code) s)
      (fun t => decide (t.smc.spref = (code.toNat :: s.smc.spref).take 64 ∧ t.fget Reg.SMC_SPREF_IN_CODE = (t.smc.spref.sum /
      t.smc.spref.length) % 4096)) = true) ∧
    (∃ (s : State) (mv : Nat) (held : Nat), s.boot.held = .off ∧ 16500 ≤ mv ∧ vmotDwell ≤ held ∧ s.fbit Reg.SMC_STATUS_CHOPG
      = false ∧ s.fbit Reg.SMC_FAULT_CHOP = false ∧ ends (exec (.chopperGateOn mv held) s) (fun t => decide (t.fget
      Reg.SMC_STATUS_CHOPG = 1 ∧ t.smc.chopAt = some s.cycle)) = true) ∧
    (∃ (s : State) (mv : Nat) (held : Nat), s.boot.held = .off ∧ s.fbit Reg.SMC_FAULT_CHOP = true ∧ ends (exec
      (.chopperGateOn mv held) s) (fun t => decide (t.smc = s.smc)) = true) ∧
    (∃ (s : State) (mv : Nat) (held : Nat), s.boot.held = .off ∧ mv ≤ 16000 ∧ vmotDwell ≤ held ∧ ends (exec (.chopperGateOff
      mv held) s) (fun t => decide (t.fget Reg.SMC_STATUS_CHOPG = 0 ∧ t.fget Reg.SMC_VMOT_MV = mv)) = true) ∧
    (∃ (s : State) (c : Nat) (mv : Nat) (brki : Nat), s.boot.held = .off ∧ s.smc.chopAt = some c ∧ c + 2000000 ≤ s.cycle ∧
      16500 ≤ mv ∧ mv < 17500 ∧ ends (exec (.chopperFault mv brki) s) (fun t => decide (t.smcState = 8 ∧ t.fget
      Reg.SMC_STATUS_CHOPG = 0 ∧ t.fget Reg.SMC_FAULT_CHOP = 1 ∧ t.recov.stopped = true)) = true) ∧
    (∃ (s : State) (mv : Nat) (held : Nat), s.boot.held = .off ∧ 17500 ≤ mv ∧ vmotDwell ≤ held ∧ ends (exec
      (.vmotOvervoltage mv held) s) (fun t => decide (t.smcState = 9 ∧ t.fget Reg.SMC_FAULT_OVP = 1 ∧ t.recov.stopped = true
      ∧ ∀ n, s.actEnabled n = true → (t.pair.get n).law = 7)) = true) ∧
    (∃ (s : State) (mv : Nat) (held : Nat), s.boot.held = .off ∧ mv < 14000 ∧ vmotDwell ≤ held ∧ s.smcLatched = true ∧
      s.smcState = 9 ∧ ends (exec (.ovpShortBrakeRetry mv held) s) (fun t => decide (t.smcState = 8)) = true) ∧
    (∃ (s : State) (mv : Nat) (held : Nat), s.boot.held = .off ∧ mv < 8000 ∧ vmotDwell ≤ held ∧ s.fbit Reg.PMU_PSTATE_VLOSS
      = false ∧ s.eps < 3 ∧ ends (exec (.vmotPowerLoss mv held) s) (fun t => decide (t.smcState = 10 ∧ t.fget
      Reg.PMU_PSTATE_VLOSS = 1 ∧ t.fget Reg.SMC_FAULT_PLOSS = 1 ∧ t.smc.iso = false ∧ t.recov.faultRanges = s.dirtyRanges ∧
      (∀ n, s.actEnabled n = true → (t.pair.get n).law = 7) ∧ ∀ n : Fin 4, (t.winh n).testBit 3 = true)) = true) ∧
    (∃ (s : State) (mv : Nat) (held : Nat), s.boot.held = .off ∧ mv < 8000 ∧ vmotDwell ≤ held ∧ s.fbit Reg.PMU_PSTATE_VLOSS
      = false ∧ 3 ≤ s.eps ∧ ends (exec (.vmotPowerLoss mv held) s) (fun t => decide (t.fget Reg.PMU_PSTATE_VLOSS = 1 ∧ t.smc
      = s.smc ∧ t.pair = s.pair)) = true) ∧
    (∃ (s : State) (mv : Nat) (held : Nat), s.boot.held = .off ∧ held < vmotDwell ∧ ends (exec (.vmotPowerLoss mv held) s)
      (fun t => decide (t.fget Reg.PMU_PSTATE_VLOSS = s.fget Reg.PMU_PSTATE_VLOSS ∧ t.smc = s.smc ∧ t.pair = s.pair)) = true) ∧
    (∃ (s : State) (mv : Nat), s.boot.held = .off ∧ 9000 ≤ mv ∧ s.fbit Reg.PMU_PSTATE_VLOSS = true ∧ ends (exec
      (.vmotRestore mv) s) (fun t => decide (t.fget Reg.PMU_PSTATE_VLOSS = 0 ∧ ∀ n : Fin 4, (t.winh n).testBit 3 = false)) =
      true) ∧
    (∃ (s : State), s.boot.held = .off ∧ s.pow.lossTick.isSome = true ∧ 1000 ≤ s.pow.vmotRun ∧ s.pow.coolStart = none ∧
      s.eps < 3 ∧ s.recov.stopped = false ∧ s.smcLatched = false ∧ s.smcState = 10 ∧ 9000 ≤ s.fget Reg.PMU_VMOT_MV ∧
      s.smcStopped = true ∧ ends (exec .vmotRestartCount s) (fun t => decide (t.smcState = 1 ∧ t.pow.lossTick = none)) = true) ∧
    (∃ (s : State) (a : _) (c : Ctx) (t0 : Nat), s.boot.held = .off ∧ s.recov.stopped = false ∧ s.pow.lossAt = some t0 ∧ t0
      + 60000 ≤ s.pow.ticks ∧ s.smcState ≠ 6 ∧ c ∈ s.mediaWaiters ∧ c.arr = a ∧ s.ctx a = some c ∧ (∀ x ∈ s.host.ctxs, x.arr
      = a → x = c) ∧ ends (exec .vmotLossRunTimeout s) (fun t => decide (t.statusOf a = some St.notReady)) = true) :=
  ⟨⟨(driven [(Reg.SMC_STATUS_STATE, 5)]).modSmc (fun m => { m with loopBlock := some 0 }), 0, 70000, 0, 5, by decide +kernel⟩,
   ⟨driven [(Reg.SMC_STATUS_STATE, 5)], 0, 70000, 0, 5, by decide +kernel⟩,
   ⟨(driven [(Reg.SMC_STATUS_STATE, 5), (Reg.SMC_STATUS_OBSLOCK, 1), (Reg.SMC_OBS_OBSN, 9), (Reg.ATB_STATUS_QUAL, 1)]).modSmc (fun m => { m with learn := List.replicate 63 0 }), 0, 70000, 0, 5, by decide +kernel⟩,
   ⟨driven [(Reg.SMC_STATUS_STATE, 6), (Reg.SMC_ILIM_IOC, 20000)], 30000, by decide +kernel⟩,
   ⟨((driven [(Reg.SMC_STATUS_STATE, 6), (Reg.SMC_ILIM_IOC, 20000)]).modSmc (fun m => { m with trips := List.replicate 63 89999999 })).modAtb (fun a => { a with spansG := 90000000 }), 30000, by decide +kernel⟩,
   ⟨driven [(Reg.SMC_STATUS_STATE, 6)], 5, by decide +kernel⟩,
   ⟨((driven [(Reg.SMC_STATUS_STATE, 6)]).modSmc (fun m => { m with spref := List.replicate 64 100 })).modAtb (fun a => { a with spansG := 90000000 }), 0xFFF, by decide +kernel⟩,
   ⟨driven [(Reg.SMC_STATUS_STATE, 6)], 17000, 64, by decide +kernel⟩,
   ⟨driven [(Reg.SMC_STATUS_STATE, 6), (Reg.SMC_FAULT_CHOP, 1)], 17000, 64, by decide +kernel⟩,
   ⟨(driven [(Reg.SMC_STATUS_STATE, 6), (Reg.SMC_STATUS_CHOPG, 1)]).modSmc (fun m => { m with chopAt := some 17 }), 15999, 64, by decide +kernel⟩,
   ⟨(driven [(Reg.SMC_STATUS_STATE, 6), (Reg.SMC_STATUS_CHOPG, 1)]).modSmc (fun m => { m with chopAt := some 17 }), 17, 17000, 0, by decide +kernel⟩,
   ⟨driven [(Reg.SMC_STATUS_STATE, 6)], 17500, 64, by decide +kernel⟩,
   ⟨driven [(Reg.SMC_STATUS_STATE, 9), (Reg.SMC_FAULT_OVP, 1)], 100, 64, by decide +kernel⟩,
   ⟨(driven [(Reg.SMC_STATUS_STATE, 6)]).modSmc (fun m => { m with iso := true }), 7999, 64, by decide +kernel⟩,
   ⟨driven [(Reg.SMC_STATUS_STATE, 0), (Reg.PMU_PSTATE_EPS, 3)], 7999, 64, by decide +kernel⟩,
   ⟨driven [(Reg.SMC_STATUS_STATE, 6)], 100, 63, by decide +kernel⟩,
   ⟨driven [(Reg.SMC_STATUS_STATE, 0), (Reg.PMU_PSTATE_VLOSS, 1), (Reg.PAn_WINH_SRC 0, 8)], 9000, by decide +kernel⟩,
   ⟨((driven [(Reg.SMC_STATUS_STATE, 10), (Reg.PMU_VMOT_MV, 9001)]).modPow (fun p => { p with lossTick := some 3, vmotRun := 1000 })).modAtb (fun a => { a with spansG := 90000000 }), by decide +kernel⟩,
   ⟨(hostedWith { ready 3 (sqe 0x02 1 []) with media := 1 } [(Reg.PMU_PSTATE_VLOSS, 1)]).modPow (fun p => { p with lossAt := some 0, ticks := 60000 }), 5, { ready 3 (sqe 0x02 1 []) with media := 1 }, 0, by decide +kernel⟩⟩

/-- Witness for Obligations.MemoryProtection, clause by clause. -/
theorem witness_MemoryProtection :
    (∃ (s : State) (content : _) (cl : Option Bool), s.boot.held = .off ∧ s.passCycles true ≠ 0 ∧ s.eps ≠ 4 ∧ s.memp.flaws =
      [] ∧ s.memp.poison = [] ∧ s.fget Reg.SCB_DPOS_LINE + 1 < s.scrubUnits true ∧ s.fget Reg.SCB_DPOS_LINE + 1 < 2 ^ 29 ∧
      ends (exec (.scrubRead true 0 content cl) s) (fun t => decide (t.fget Reg.SCB_DPOS_LINE = s.fget Reg.SCB_DPOS_LINE + 1
      ∧ t.rd Reg.MEM_DRAM_CE = s.rd Reg.MEM_DRAM_CE ∧ t.rd Reg.MEM_DRAM_UE = s.rd Reg.MEM_DRAM_UE ∧ t.mem = s.mem)) = true) ∧
    (∃ (s : State) (nsym : Fin 256) (content : _) (cl : Option Bool), s.boot.held = .off ∧ s.passCycles true ≠ 0 ∧ s.eps ≠ 4
      ∧ s.memp.flaws = [] ∧ s.memp.poison = [] ∧ 0 < nsym.val ∧ nsym.val < 255 ∧ ends (exec (.scrubRead true nsym content cl)
      s) (fun t => decide (t.fget Reg.MEM_EVT_STAT_DCE = 1 ∧ t.mem = s.mem ∧ (t.rd Reg.MEM_DRAM_CE).toNat = min ((s.rd
      Reg.MEM_DRAM_CE).toNat + 1) 0xFFFFFFFF)) = true) ∧
    (∃ (s : State) (cl : Option Bool), s.boot.held = .off ∧ cl ≠ some true ∧ s.passCycles true ≠ 0 ∧ s.eps ≠ 4 ∧
      s.memp.flaws = [] ∧ s.memp.poison = []) ∧
    (∃ (s : State), s.boot.held = .off ∧ s.passCycles true ≠ 0 ∧ s.eps ≠ 4 ∧ s.memp.flaws = [] ∧ s.memp.poison = []) ∧
    (∃ (s : State) (sub : Fin 4) (deg : Int), s.boot.held = .off ∧ s.pow.selfRef = false ∧ (s.fget
      Reg.MEM_CFG_SUBCH).testBit sub.val = true ∧ ends (exec (.dramRefresh sub deg) s) (fun t => decide ((t.fget
      Reg.MEM_STATUS_HOTREF).testBit sub.val = decide (85 < deg) ∧ ∀ k : Fin 4, k ≠ sub → (t.fget
      Reg.MEM_STATUS_HOTREF).testBit k.val = (s.fget Reg.MEM_STATUS_HOTREF).testBit k.val)) = true) ∧
    (∃ (s : State) (c : Fin 8) (dram : Bool) (i : Fin 32) (w : Word), s.boot.held = .off ∧ i.val < rmtCount dram ∧ s.fbit
      (rmtBusy dram i.val) = false ∧ w.getLsbD 31 = true ∧ ends (exec (.rmtEntryWrite (.core c) dram i w) s) (fun t => decide
      (t.fget (rmtBusy dram i.val) = 1 ∧ t.fget (rmtV dram i.val) = 1 ∧ t.fget (rmtUnit dram i.val) = w.toNat % 2 ^ (if dram
      then 23 else 15))) = true) ∧
    (∃ (s : State) (m : Master) (dram : Bool) (i : Fin 32) (w : Word), s.boot.held = .off ∧ s.fbit (rmtBusy dram i.val) =
      true ∧ ends (exec (.rmtEntryWrite m dram i w) s) (fun t => decide (t.memp = s.memp ∧ ∀ r ∈ keys s t, r ≠ Reg.EVR_DROPQ
      → t.rd r = s.rd r)) = true) ∧
    (∃ (s : State) (m : Master) (dram : Bool) (i : Fin 32) (w : Word), s.boot.held = .off ∧ s.fbit Reg.MEM_LOCK_LOCK = true
      ∧ (∀ c, m ≠ .core c) ∧ m ≠ .jtag ∧ ends (exec (.rmtEntryWrite m dram i w) s) (fun t => decide (t.memp = s.memp ∧ ∀ r ∈
      keys s t, r ≠ Reg.EVR_DROPQ → t.rd r = s.rd r)) = true) ∧
    (∃ (s : State) (dram : Bool) (i : Fin 32) (base : _), s.boot.held = .off ∧ Memory.wf s.mem = true ∧ i.val < rmtCount
      dram ∧ s.fbit (rmtBusy dram i.val) = true ∧ base = rmtBase dram (s.fget (rmtUnit dram i.val)) ∧ ends (exec
      (.rmtCopyDone dram i) s) (fun t => decide (t.fget (rmtBusy dram i.val) = 0 ∧ ∀ a ∈ ([0x10001C00, 0x10001C05,
      0x10001FFF] : List Nat), base ≤ a → a < base + rmtLen dram → t.memByte a = s.memByte a ∧ remapped t.memp.remap a =
      rmtSpare dram i.val + (a - base))) = true) ∧
    (∃ (s : State) (c : Fin 8) (w : Word), s.boot.held = .off ∧ ends (exec (.fmrArm (.core c) w) s) (fun t => decide (t.fget
      Reg.MEM_FMR_CTRL_ARM = 1)) = true) ∧
    (∃ (s : State) (m : Master) (w : Word), s.boot.held = .off ∧ (∀ c, m ≠ .core c) ∧ m ≠ .jtag ∧ ends (exec (.fmrArm m w)
      s) (fun t => decide (∀ r ∈ keys s t, r ≠ Reg.EVR_DROPQ → t.rd r = s.rd r)) = true) :=
  ⟨⟨driven [(Reg.PMU_PSTATE_EPS, 0), (Reg.SCB_CFG_DPASS, 24), (Reg.SCB_DPOS_LINE, 5), (Reg.MEM_CFG_SUBCH, 15)], .clean, none, by decide +kernel⟩,
   ⟨driven [(Reg.PMU_PSTATE_EPS, 0), (Reg.SCB_CFG_DPASS, 24), (Reg.SCB_DPOS_LINE, 5), (Reg.MEM_CFG_SUBCH, 15)], 9, .clean, some false, by decide +kernel⟩,
   ⟨driven [(Reg.PMU_PSTATE_EPS, 0), (Reg.SCB_CFG_DPASS, 24), (Reg.SCB_DPOS_LINE, 5), (Reg.MEM_CFG_SUBCH, 15)], none, by decide +kernel⟩,
   ⟨driven [(Reg.PMU_PSTATE_EPS, 0), (Reg.SCB_CFG_DPASS, 24), (Reg.SCB_DPOS_LINE, 5), (Reg.MEM_CFG_SUBCH, 15)], by decide +kernel⟩,
   ⟨driven [(Reg.PMU_PSTATE_EPS, 0), (Reg.SCB_CFG_DPASS, 24), (Reg.SCB_DPOS_LINE, 5), (Reg.MEM_CFG_SUBCH, 15)], 2, 86, by decide +kernel⟩,
   ⟨driven [(Reg.PMU_PSTATE_EPS, 0), (Reg.SCB_CFG_DPASS, 24), (Reg.SCB_DPOS_LINE, 5), (Reg.MEM_CFG_SUBCH, 15)], 1, true, 3, 0x80000007, by decide +kernel⟩,
   ⟨driven [(rmtBusy true 3, 1)], .host 0, true, 3, 0x80000007, by decide +kernel⟩,
   ⟨driven [(Reg.MEM_LOCK_LOCK, 1)], .host 0, true, 3, 0x80000007, by decide +kernel⟩,
   ⟨{ driven [(rmtBusy false 3, 1), (rmtUnit false 3, 7), (rmtV false 3, 1)] with mem := [(0x10001C05, 9#8), (0x10001FFF, 1#8)] }, false, 3, 0x10001C00, by decide +kernel⟩,
   ⟨driven [(Reg.PMU_PSTATE_EPS, 0), (Reg.SCB_CFG_DPASS, 24), (Reg.SCB_DPOS_LINE, 5), (Reg.MEM_CFG_SUBCH, 15)], 1, 0x80000007, by decide +kernel⟩,
   ⟨driven [(Reg.PMU_PSTATE_EPS, 0), (Reg.SCB_CFG_DPASS, 24), (Reg.SCB_DPOS_LINE, 5), (Reg.MEM_CFG_SUBCH, 15)], .host 0, 0x80000007, by decide +kernel⟩⟩

/-- Witness for Obligations.RecoveryAndFaultStop, clause by clause. -/
theorem witness_RecoveryAndFaultStop :
    (∃ (s : State) (nsid : _) (z : _) (n : Ns), s.boot.held = .off ∧ s.nspace nsid = some n ∧ n.compressed = true ∧
      s.host.ctxs = [] ∧ (n.zone z).unsealed = true ∧ s.fget Reg.CXE_CFG_IDLE ≠ 0 ∧ (n.zone z).comp.lastRev + s.fget
      Reg.CXE_CFG_IDLE ≤ s.atb.rev ∧ ends (exec (.idleSeal nsid z) s) (fun t => decide (t.nspace nsid = some ((t.nspace
      1).getD nsc) ∧ (((t.nspace 1).getD nsc).zone z).comp.b % 4096 = 0 ∧ (t.rd Reg.CXE_SEALS).toNat = min ((s.rd
      Reg.CXE_SEALS).toNat + 1) 0xFFFFFFFF)) = true) ∧
    (∃ (s : State) (nsid : _) (z : _), s.boot.held = .off ∧ s.fget Reg.CXE_CFG_IDLE = 0 ∧ ends (exec (.idleSeal nsid z) s)
      (fun t => decide (t.ns = s.ns)) = true) ∧
    (∃ (s : State) (k : Nat) (l : Ladder) (n : Fin 4) (c : Commit), s.boot.held = .off ∧ s.recov.ladders[k]? = some l ∧
      l.write = false ∧ l.step < 8 ∧ l.p.groupRead = false ∧ s.boundReached l = true ∧ s.msc.running.get n = some c ∧
      l.p.same c.op.p = true ∧ (∀ j, j ≠ n → s.msc.running.get j = none) ∧ s.trsRunning n = true ∧ ends (exec
      (.recoveryBoundReached k) s) (fun t => decide ((t.trs.get n).abortP = true)) = true) ∧
    (∃ (s : State) (k : Nat) (l : _), s.boot.held = .off ∧ s.recov.ladders[k]? = some l ∧ s.boundReached l = false ∧ ends
      (exec (.recoveryBoundReached k) s) (fun t => decide (t.recov = s.recov ∧ t.trs = s.trs)) = true) ∧
    (∃ (s : State) (r : Fin 6) (d : OpDesc) (ext : _) (l : _), s.boot.held = .off ∧ s.recov.scanQueue = [] ∧
      s.msc.rings[r.val]? = some l ∧ s.postable { d with kind := 3, prio := 0 } = true ∧ (s.dpi.actEn (surfActuators
      d.surf).1 = false ∨ s.dpi.actEn (surfActuators d.surf).2 = false ∨ 4 ≤ r.val) ∧ max s.eps (s.pow.moving.getD 0) < 2 ∧
      ends (exec (.backgroundScanPost r d ext) s) (fun t => decide (t.msc.rings[r.val]? = some (l ++
      [(((t.msc.rings[r.val]?).getD []).headD posted)]) ∧ (((t.msc.rings[r.val]?).getD []).headD posted).cmd = none ∧
      (((t.msc.rings[r.val]?).getD []).headD posted).ext = ext ∧ (((t.msc.rings[r.val]?).getD []).headD posted).d.kind = 3 ∧
      (((t.msc.rings[r.val]?).getD []).headD posted).d.prio = 0 ∧ t.recov.scanPos = (d.surf, d.cyl, d.first + d.count))) =
      true) ∧
    (∃ (s : State) (r : Fin 6) (d : OpDesc) (ext : _), s.boot.held = .off ∧ 2 ≤ max s.eps (s.pow.moving.getD 0) ∧ ends (exec
      (.backgroundScanPost r d ext) s) (fun t => decide (t.msc = s.msc ∧ t.recov = s.recov)) = true) ∧
    (∃ (s : State), s.boot.held = .off ∧ s.recov.depth ≠ 0 ∧ s.recov.handlerAt + 10 ^ 8 ≤ s.cycle) ∧
    (∃ (s : State), s.boot.held = .off ∧ s.recov.depth = 0 ∨ s.cycle < s.recov.handlerAt + 10 ^ 8 ∧ ends (exec
      .faultHandlerTimeout s) (fun t => decide (t.recov = s.recov)) = true) ∧
    (∃ (s : State) (n : Fin 4), s.boot.held = .off ∧ s.recov.stopped = true ∧ (∀ m, (s.ctrl m).en = false) ∧
      s.boot.resetCause = none ∧ s.actEnabled n = true ∧ (s.pair.get n).law ≠ 7 ∧ ends (exec .faultStopResetRequest s) (fun t
      => decide (t.boot.resetCause = some 3 ∧ (t.pair.get n).law = 7)) = true) ∧
    (∃ (s : State) (m : Fin 2), s.boot.held = .off ∧ s.recov.stopped = true ∧ m ∈ s.controllers ∧ (s.ctrl m).en = true ∧
      ends (exec .faultStopResetRequest s) (fun t => decide (t.boot = s.boot ∧ t.pair = s.pair)) = true) :=
  ⟨⟨({ driven [(Reg.CXE_CFG_IDLE, 100)] with ns := ⟨[{ nsc with kind := .compressed, nsze := 2 ^ 20, bands := 16, zones := [(2, { zoneIn .implOpen with comp := { (zoneIn .implOpen).comp with b := 100, cls := some false, ctx := true } })] }], false, [], [], [(1, 2)], 0⟩ }).modAtb (fun a => { a with rev := 10000 }), 1, 2, { nsc with kind := .compressed, nsze := 2 ^ 20, bands := 16, zones := [(2, { zoneIn .implOpen with comp := { (zoneIn .implOpen).comp with b := 100, cls := some false, ctx := true } })] }, by decide +kernel⟩,
   ⟨driven [(Reg.CXE_CFG_IDLE, 0)], 1, 2, by decide +kernel⟩,
   ⟨({ runTrs [] with recov := { RecSt.reset with ladders := [ladder0] } }).modAtb (fun a => { a with rev := 10000 }), 0, ladder0, 0, committed, by decide +kernel⟩,
   ⟨{ runTrs [] with recov := { RecSt.reset with ladders := [ladder0] } }, 0, ladder0, by decide +kernel⟩,
   ⟨driven [], 0, rdOp, some (1, 5, 2), [], by decide +kernel⟩,
   ⟨driven [(Reg.PMU_PSTATE_EPS, 2)], 0, rdOp, none, by decide +kernel⟩,
   ⟨{ driven [] with recov := { RecSt.reset with depth := 1 }, cycle := 10 ^ 9 }, by decide +kernel⟩,
   ⟨driven [], by decide +kernel⟩,
   ⟨{ (driven []).modPair 0 (fun p => { p with law := 3 }) with recov := { RecSt.reset with stopped := true } }, 0, by decide +kernel⟩,
   ⟨{ hosted [] with recov := { RecSt.reset with stopped := true } }, 0, by decide +kernel⟩⟩

/-- Witness for Obligations.RecorderTakesOffers, clause by clause. -/
theorem witness_RecorderTakesOffers :
    (∃ (s : State) (c : Fin 8) (w : Word) (o : Offer), s.boot.held = .off ∧ s.evr.staged = [] ∧ w.getLsbD 4 = false ∧ o =
      ⟨(s.rd Reg.EVR_BOOT).toNat * 2 ^ 32 + (s.evr.seq + 1) % 2 ^ 32, s.stamp, 0x40, 0xFFFF, 0xFFFF0000 + wordBits w 31 16,
      sevOf (wordBits w 1 0), none, (List.range 6).flatMap (fun d => leBytes (s.rd (Reg.EVR_POST_Dn d)).toNat 4), s.cycle⟩ ∧
      s.recorded o = true ∧ s.evr.queue.length < 64 ∧ ends (exec (.evrPost (.core c) w) s) (fun t => decide (t.evr.queue =
      s.evr.queue ++ [o] ∧ t.evr.seq = s.evr.seq + 1)) = true) ∧
    (∃ (s : State) (c : Fin 8) (w : Word) (o : Offer), s.boot.held = .off ∧ s.evr.staged = [] ∧ w.getLsbD 4 = false ∧ o =
      ⟨(s.rd Reg.EVR_BOOT).toNat * 2 ^ 32 + (s.evr.seq + 1) % 2 ^ 32, s.stamp, 0x40, 0xFFFF, 0xFFFF0000 + wordBits w 31 16,
      sevOf (wordBits w 1 0), none, (List.range 6).flatMap (fun d => leBytes (s.rd (Reg.EVR_POST_Dn d)).toNat 4), s.cycle⟩ ∧
      s.recorded o = true ∧ 64 ≤ s.evr.queue.length ∧ (∀ q ∈ s.evr.queue, o.sev.code ≤ q.sev.code) ∧ ends (exec (.evrPost
      (.core c) w) s) (fun t => decide (t.evr.queue = s.evr.queue ∧ t.evr.seq = s.evr.seq + 1 ∧ t.evr.dropped = min
      (s.evr.dropped + 1) 0xFFFF ∧ (t.rd Reg.EVR_DROPQ).toNat = min ((s.rd Reg.EVR_DROPQ).toNat + 1) 0xFFFFFFFF)) = true) ∧
    (∃ (s : State) (c : Fin 8) (w : Word) (o : Offer) (q : Offer), s.boot.held = .off ∧ s.evr.staged = [] ∧ w.getLsbD 4 =
      false ∧ o = ⟨(s.rd Reg.EVR_BOOT).toNat * 2 ^ 32 + (s.evr.seq + 1) % 2 ^ 32, s.stamp, 0x40, 0xFFFF, 0xFFFF0000 +
      wordBits w 31 16, sevOf (wordBits w 1 0), none, (List.range 6).flatMap (fun d => leBytes (s.rd (Reg.EVR_POST_Dn
      d)).toNat 4), s.cycle⟩ ∧ s.recorded o = true ∧ 64 ≤ s.evr.queue.length ∧ q ∈ s.evr.queue ∧ q.sev.code < o.sev.code ∧ (∀
      x ∈ s.evr.queue, q.sev.code ≤ x.sev.code ∧ (x.sev.code = q.sev.code → x.seq ≤ q.seq)) ∧ ends (exec (.evrPost (.core c)
      w) s) (fun t => decide (t.evr.seq = s.evr.seq + 1 ∧ t.evr.queue = s.evr.queue.filter (fun x => decide (x.seq ≠ q.seq))
      ++ [o] ∧ t.evr.dropped = min (s.evr.dropped + 1) 0xFFFF ∧ (t.rd Reg.EVR_DROPQ).toNat = min ((s.rd Reg.EVR_DROPQ).toNat
      + 1) 0xFFFFFFFF)) = true) ∧
    (∃ (s : State) (c : Fin 8) (w : Word) (o : Offer), s.boot.held = .off ∧ s.evr.staged = [] ∧ w.getLsbD 4 = false ∧ o =
      ⟨(s.rd Reg.EVR_BOOT).toNat * 2 ^ 32 + (s.evr.seq + 1) % 2 ^ 32, s.stamp, 0x40, 0xFFFF, 0xFFFF0000 + wordBits w 31 16,
      sevOf (wordBits w 1 0), none, (List.range 6).flatMap (fun d => leBytes (s.rd (Reg.EVR_POST_Dn d)).toNat 4), s.cycle⟩ ∧
      s.recorded o = false ∧ ends (exec (.evrPost (.core c) w) s) (fun t => decide (t.evr = s.evr)) = true) ∧
    (∃ (s : State) (w : Word) (o : Offer), s.boot.held = .off ∧ s.evr.staged = [] ∧ w.getLsbD 4 = false ∧ o = ⟨(s.rd
      Reg.EVR_BOOT).toNat * 2 ^ 32 + (s.evr.seq + 1) % 2 ^ 32, s.stamp, 0x40, 0xFFFF, 0xFFFF0000 + wordBits w 31 16, sevOf
      (wordBits w 1 0), none, (List.range 6).flatMap (fun d => leBytes (s.rd (Reg.EVR_POST_Dn d)).toNat 4), s.cycle⟩ ∧ s.fbit
      Reg.EVR_STATUS_FROZEN = true ∧ o.sev.code < 2) :=
  ⟨⟨at_ [(Reg.EVR_LINE_n_EN 0x40, 1), (Reg.EVR_LINE_n_MINSEV 0x40, 0)], 3, 0x00120001, ⟨1, ((at_ [(Reg.EVR_LINE_n_EN 0x40, 1), (Reg.EVR_LINE_n_MINSEV 0x40, 0)])).stamp, 0x40, 0xFFFF, 0xFFFF0012, .notice, none, (List.range 6).flatMap (fun _ => leBytes 0 4), 5000000⟩, by decide +kernel⟩,
   ⟨(at_ [(Reg.EVR_LINE_n_EN 0x40, 1), (Reg.EVR_LINE_n_MINSEV 0x40, 0)]).modEvr (fun e => { e with queue := (List.range 64).map (fun i => (⟨1000 + i, 7, 3, 0, 5, .notice, none, [], 0⟩ : Offer)) }), 3, 0x00120001, ⟨1, (((at_ [(Reg.EVR_LINE_n_EN 0x40, 1), (Reg.EVR_LINE_n_MINSEV 0x40, 0)]).modEvr (fun e => { e with queue := (List.range 64).map (fun i => (⟨1000 + i, 7, 3, 0, 5, .notice, none, [], 0⟩ : Offer)) }))).stamp, 0x40, 0xFFFF, 0xFFFF0012, .notice, none, (List.range 6).flatMap (fun _ => leBytes 0 4), 5000000⟩, by decide +kernel⟩,
   ⟨(at_ [(Reg.EVR_LINE_n_EN 0x40, 1), (Reg.EVR_LINE_n_MINSEV 0x40, 0)]).modEvr (fun e => { e with queue := (List.range 64).map (fun i => (⟨1000 + i, 7, 3, 0, 5, .trace, none, [], 0⟩ : Offer)) }), 3, 0x00120001, ⟨1, (((at_ [(Reg.EVR_LINE_n_EN 0x40, 1), (Reg.EVR_LINE_n_MINSEV 0x40, 0)]).modEvr (fun e => { e with queue := (List.range 64).map (fun i => (⟨1000 + i, 7, 3, 0, 5, .trace, none, [], 0⟩ : Offer)) }))).stamp, 0x40, 0xFFFF, 0xFFFF0012, .notice, none, (List.range 6).flatMap (fun _ => leBytes 0 4), 5000000⟩, ⟨1063, 7, 3, 0, 5, .trace, none, [], 0⟩, by decide +kernel⟩,
   ⟨at_ [(Reg.EVR_LINE_n_EN 0x40, 0)], 3, 0x00120001, ⟨1, ((at_ [(Reg.EVR_LINE_n_EN 0x40, 0)])).stamp, 0x40, 0xFFFF, 0xFFFF0012, .notice, none, (List.range 6).flatMap (fun _ => leBytes 0 4), 5000000⟩, by decide +kernel⟩,
   ⟨at_ [(Reg.EVR_LINE_n_EN 0x40, 1), (Reg.EVR_LINE_n_MINSEV 0x40, 0), (Reg.EVR_STATUS_FROZEN, 1)], 0x00120001, ⟨1, ((at_ [(Reg.EVR_LINE_n_EN 0x40, 1), (Reg.EVR_LINE_n_MINSEV 0x40, 0), (Reg.EVR_STATUS_FROZEN, 1)])).stamp, 0x40, 0xFFFF, 0xFFFF0012, .notice, none, (List.range 6).flatMap (fun _ => leBytes 0 4), 5000000⟩, by decide +kernel⟩⟩

/-- Witness for Obligations.RecorderWritesRecords, clause by clause. -/
theorem witness_RecorderWritesRecords :
    (∃ (s : State) (o : Offer) (rest : _) (k : Nat), s.boot.held = .off ∧ s.evr.queue = o :: rest ∧ s.fbit Reg.EVR_LOCK_LOCK
      = true ∧ s.evr.staged = [] ∧ o.sev ≠ .fatal ∧ pickSlot 1024 s.evr.lastSlot s.validSlots o.sev.code = some k ∧ ends
      (exec .evrRecordWrite s) (fun t => decide (t.evr.queue = rest ∧ sparseFind k t.evr.ring = some (.valid ((recAt t 0))) ∧
      ((recAt t 0)).offer = o ∧ ((recAt t 0)).dropped = s.evr.dropped ∧ t.evr.dropped = 0 ∧ t.evr.lastSlot = k ∧ ((recAt t
      0)).bytes.length = 256 ∧ (s.fbit (Reg.EVR_LINE_n_SNAP o.line) = false → ((recAt t 0)).snap = [] ∧ ((recAt t 0)).list =
      none) ∧ (t.rd Reg.EVR_WRITTEN).toNat = min ((s.rd Reg.EVR_WRITTEN).toNat + 1) 0xFFFFFFFF)) = true) ∧
    (∃ (s : State) (o : Offer) (rest : _), s.boot.held = .off ∧ s.evr.queue = o :: rest ∧ s.fbit Reg.EVR_LOCK_LOCK = true ∧
      o.sev = .fatal ∧ s.fbit Reg.EVR_CFG_FRZ = true ∧ (pickSlot 1024 s.evr.lastSlot s.validSlots 3).isSome = true ∧ ends
      (exec .evrRecordWrite s) (fun t => decide (t.fget Reg.EVR_STATUS_FROZEN = 1 ∧ t.fget Reg.EVR_EVT_STAT_FATAL = 1)) =
      true) ∧
    (∃ (s : State), s.boot.held = .off ∧ s.fbit Reg.EVR_LOCK_LOCK = false ∧ s.evr.staged = [] ∧ ends (exec .evrRecordWrite
      s) (fun t => decide (t.evr = s.evr)) = true) ∧
    (∃ (s : State) (k : Nat) (r : EvRecord) (posts : List PostReq), s.boot.held = .off ∧ s.validSlots.find? (fun kr =>
      decide (kr.1 = k)) = some (k, r) ∧ s.evr.mirror = [] ∧ s.fget Reg.EVR_CFG_MIRSEV ≤ r.offer.sev.code ∧ r.offer.seq ∉
      s.evr.mirrored ∧ ends (exec (.evrMirrorCopy k posts) s) (fun t => decide (t.evr.mirror.map (·.2) = [r] ∧ r.offer.seq ∈
      t.evr.mirrored)) = true) ∧
    (∃ (s : State) (m : Master) (w : Word), s.boot.held = .off ∧ w.getLsbD 0 = true ∧ ends (exec (.evrCtrlClear m w) s) (fun
      t => decide (t.validSlots = [])) = true) ∧
    (∃ (s : State) (m : Master) (w : Word), s.boot.held = .off ∧ w.getLsbD 1 = true ∧ ends (exec (.evrCtrlUnfreeze m w) s)
      (fun t => decide (t.fget Reg.EVR_STATUS_FROZEN = 0)) = true) ∧
    (∃ (s : State) (m : Master) (l : Fin 8) (k : Fin 48) (w : Word), s.boot.held = .off ∧ s.isOwner m = true ∧ listEntryOk
      w.toNat = true ∧ ends (exec (.evrListWrite m l k w) s) (fun t => decide (t.rd (Reg.EVR_LIST_n_i l k) = w)) = true) ∧
    (∃ (s : State) (m : Master) (l : Fin 8) (k : Fin 48) (w : Word), s.boot.held = .off ∧ s.isOwner m = false ∨ listEntryOk
      w.toNat = false ∧ ends (exec (.evrListWrite m l k w) s) (fun t => decide (∀ r ∈ keys s t, r ≠ Reg.EVR_DROPQ → t.rd r =
      s.rd r)) = true) :=
  ⟨⟨(at_ [(Reg.EVR_LOCK_LOCK, 1)]).modEvr (fun e => { e with queue := [(⟨9, 7, 3, 0, 5, .notice, none, [], 0⟩ : Offer)], dropped := 3 }), (⟨9, 7, 3, 0, 5, .notice, none, [], 0⟩ : Offer), [], 0, by decide +kernel⟩,
   ⟨(at_ [(Reg.EVR_LOCK_LOCK, 1), (Reg.EVR_CFG_FRZ, 1)]).modEvr (fun e => { e with queue := [(⟨9, 7, 3, 0, 5, .fatal, none, [], 0⟩ : Offer)] }), (⟨9, 7, 3, 0, 5, .fatal, none, [], 0⟩ : Offer), [], by decide +kernel⟩,
   ⟨(at_ []).modEvr (fun e => { e with queue := [(⟨9, 7, 3, 0, 5, .notice, none, [], 0⟩ : Offer)] }), by decide +kernel⟩,
   ⟨(at_ [(Reg.EVR_CFG_MIRSEV, 1)]).modEvr (fun e => { e with ring := (List.range 3).map (fun i => (i, EvSlot.valid ⟨⟨i + 1, 7, 3, 0, 5, .notice, none, [], 0⟩, none, [], 0, 0⟩)) }), 1, ⟨⟨2, 7, 3, 0, 5, .notice, none, [], 0⟩, none, [], 0, 0⟩, [], by decide +kernel⟩,
   ⟨(at_ []).modEvr (fun e => { e with ring := (List.range 3).map (fun i => (i, EvSlot.valid ⟨⟨i + 1, 7, 3, 0, 5, .notice, none, [], 0⟩, none, [], 0, 0⟩)) }), .core 0, 1, by decide +kernel⟩,
   ⟨at_ [(Reg.EVR_STATUS_FROZEN, 1)], .core 0, 2, by decide +kernel⟩,
   ⟨at_ [(Reg.OWN_STATE_STATE, 1), (Reg.OWN_STATE_OWNER, 0), (Reg.OWN_STATE_TARGET, 0)], .core 0, 3, 7, 0, by decide +kernel⟩,
   ⟨at_ [(Reg.OWN_STATE_STATE, 1), (Reg.OWN_STATE_OWNER, 0), (Reg.OWN_STATE_TARGET, 0)], .host 0, 3, 7, 0, by decide +kernel⟩⟩

/-- Witness for Obligations.ChainLinksAndHead, clause by clause. -/
theorem witness_ChainLinksAndHead :
    (∃ (s : State) (idles : Nat) (present : _), s.boot.held = .off ∧ 64 ≤ idles ∧ s.linkUp true = false ∧ ends (exec
      (.chainLinkUp true idles present) s) (fun t => decide (t.fget Reg.VCH_STATUS_UPPRES = (if present then 1 else 0) ∧
      t.linkUp true = true ∧ t.isHead = false ∧ t.chain.probeAt = some s.cycle ∧ t.out = .chainUp (frameOf t) :: s.out ∧
      (frameOf t).ty = 3 ∧ t.fget Reg.VCH_EVT_STAT_LINK = 1)) = true) ∧
    (∃ (s : State) (up : _) (idles : Nat) (present : _), s.boot.held = .off ∧ idles < 64 ∧ ends (exec (.chainLinkUp up idles
      present) s) (fun t => decide (t.linkUp up = s.linkUp up ∧ t.chain = s.chain ∧ t.out = s.out)) = true) ∧
    (∃ (s : State) (idles : Nat) (present : _), s.boot.held = .off ∧ 64 ≤ idles ∧ s.linkUp false = false ∧ ends (exec
      (.chainLinkUp false idles present) s) (fun t => decide (t.fget Reg.VCH_STATUS_DNPRES = (if present then 1 else 0) ∧
      t.linkUp false = true ∧ t.chain.dnEchoed = false ∧ t.out = s.out ∧ t.fget Reg.VCH_EVT_STAT_LINK = 1)) = true) ∧
    (∃ (s : State) (v : Nat) (silent : Nat) (present : _), s.boot.held = .off ∧ (16 ≤ v ∨ 1000 ≤ silent) ∧ s.linkUp true =
      true ∧ ends (exec (.chainLinkDown true v silent present) s) (fun t => decide (t.linkUp true = false ∧ t.chain.probeAt =
      none ∧ (t.rd Reg.VCH_CODEERR).toNat = min ((s.rd Reg.VCH_CODEERR).toNat + v) 0xFFFFFFFF)) = true) ∧
    (∃ (s : State) (up : _) (v : Nat) (silent : Nat) (present : _), s.boot.held = .off ∧ v < 16 ∧ silent < 1000 ∧ ends (exec
      (.chainLinkDown up v silent present) s) (fun t => decide (t.linkUp up = s.linkUp up ∧ t.out = s.out ∧ (t.rd
      Reg.VCH_CODEERR).toNat = min ((s.rd Reg.VCH_CODEERR).toNat + v) 0xFFFFFFFF)) = true) ∧
    (∃ (s : State) (v : Nat) (silent : Nat) (present : _), s.boot.held = .off ∧ (16 ≤ v ∨ 1000 ≤ silent) ∧ s.linkUp false =
      true ∧ s.linkUp true = true ∧ s.isHead = false ∧ s.chainAddr ≠ 0 ∧ ends (exec (.chainLinkDown false v silent present)
      s) (fun t => decide (t.linkUp false = false ∧ t.out = .chainUp (frameOf t) :: s.out ∧ (frameOf t).ty = 7 ∧ (frameOf
      t).dst = 0 ∧ (frameOf t).src = s.chainAddr ∧ (frameOf t).payload = leBytes s.chainAddr 4)) = true) ∧
    (∃ (s : State), s.boot.held = .off ∧ s.fbit Reg.VCH_CFG_HEADEN = true ∧ s.linkUp true = false ∧ s.isHead = false ∧
      s.chain.downAt + 10 ^ 9 ≤ s.cycle ∧ ends (exec .headTimerExpiry s) (fun t => decide (t.isHead = true ∧ t.chainAddr = 1
      ∧ t.chain.enumDue = true ∧ (s.fbit Reg.VCH_CFG_MASTER = true → t.vchSync = 4))) = true) ∧
    (∃ (s : State), s.boot.held = .off ∧ s.fbit Reg.VCH_CFG_HEADEN = false ∨ s.linkUp true = true ∧ ends (exec
      .headTimerExpiry s) (fun t => decide (t.chain = s.chain ∧ t.isHead = s.isHead)) = true) ∧
    (∃ (s : State), s.boot.held = .off ∧ s.linkUp true = true ∧ s.chain.probedAt + 10 ^ 10 ≤ s.cycle ∧ ends (exec
      .probeTimer s) (fun t => decide (t.chain.probeAt = some s.cycle ∧ t.out = .chainUp (frameOf t) :: s.out ∧ (frameOf
      t).ty = 3 ∧ (frameOf t).dst = 0)) = true) ∧
    (∃ (s : State) (c : Nat), s.boot.held = .off ∧ s.chain.probeAt = some c ∧ c + 2000 < s.cycle ∧ ends (exec .echoTimeout
      s) (fun t => decide (t.chain.probeAt = none ∧ t.fget Reg.VCH_UPDLY_DLY = s.fget Reg.VCH_UPDLY_DLY)) = true) ∧
    (∃ (s : State), s.boot.held = .off ∧ s.chain.enumDue = true ∧ s.isHead = true ∧ s.linkUp false = true ∧ ends (exec
      .enumSend s) (fun t => decide (t.chain.enumDue = false ∧ t.out = .chainDn (Frame.sealed ⟨127, 0, 1, 0, 0, 8, leBytes 2
      4 ++ leBytes 0 4, 0⟩) :: s.out)) = true) ∧
    (∃ (s : State), s.boot.held = .off ∧ s.chain.attachDue = true ∧ s.linkUp false = true ∧ s.linkUp true = true ∧ ends
      (exec .attachSend s) (fun t => decide (t.chain.attachDue = false ∧ t.out = .chainUp (frameOf t) :: s.out ∧ (frameOf
      t).ty = 6 ∧ (frameOf t).payload = leBytes s.chainAddr 4 ∧ (t.rd Reg.VCH_ATTACHES).toNat = min ((s.rd
      Reg.VCH_ATTACHES).toNat + 1) 0xFFFFFFFF)) = true) ∧
    (∃ (s : State) (m : _), s.boot.held = .off ∧ s.isHead = true ∧ ends (exec (.vchCtrlEnum m) s) (fun t => decide
      (t.chain.enumDue = true)) = true) ∧
    (∃ (s : State) (m : _), s.boot.held = .off ∧ s.isHead = false ∧ ends (exec (.vchCtrlEnum m) s) (fun t => decide (t.chain
      = s.chain)) = true) ∧
    (∃ (s : State) (m : _), s.boot.held = .off ∧ s.linkUp true = true ∧ ends (exec (.vchCtrlProbe m) s) (fun t => decide
      (t.chain.probeAt = some s.cycle ∧ t.out = .chainUp (frameOf t) :: s.out ∧ (frameOf t).ty = 3)) = true) :=
  ⟨⟨at_ [], 64, true, by decide +kernel⟩,
   ⟨at_ [], true, 63, true, by decide +kernel⟩,
   ⟨at_ [], 64, true, by decide +kernel⟩,
   ⟨chained [], 16, 999, true, by decide +kernel⟩,
   ⟨chained [], true, 15, 999, true, by decide +kernel⟩,
   ⟨chained [], 16, 999, true, by decide +kernel⟩,
   ⟨{ at_ [(Reg.VCH_CFG_HEADEN, 1), (Reg.VCH_CFG_MASTER, 1)] with cycle := 10 ^ 9 }, by decide +kernel⟩,
   ⟨chained [(Reg.VCH_CFG_HEADEN, 1)], by decide +kernel⟩,
   ⟨{ chained [] with cycle := 10 ^ 10 }, by decide +kernel⟩,
   ⟨(chained []).modChain (fun x => { x with probeAt := some 17 }), 17, by decide +kernel⟩,
   ⟨(chained [(Reg.VCH_STATUS_HEAD, 1)]).modChain (fun x => { x with enumDue := true }), by decide +kernel⟩,
   ⟨(chained []).modChain (fun x => { x with attachDue := true }), by decide +kernel⟩,
   ⟨chained [(Reg.VCH_STATUS_HEAD, 1)], .core 0, by decide +kernel⟩,
   ⟨chained [], .core 0, by decide +kernel⟩,
   ⟨chained [], .core 0, by decide +kernel⟩⟩

/-- Witness for Obligations.ChainFrames, clause by clause. -/
theorem witness_ChainFrames :
    (∃ (s : State) (f : Frame) (up : Bool) (g : Bool → Frame → Instr), s.boot.held = .off ∧ s.linkUp up = true ∧ f.crcOk =
      false ∧ ends (exec (g up f) s) (fun t => decide (t.out = s.out ∧ t.chain = s.chain ∧ (t.rd Reg.VCH_CRCERR).toNat = min
      ((s.rd Reg.VCH_CRCERR).toNat + 1) 0xFFFFFFFF)) = true) ∧
    (∃ (s : State) (f : Frame) (up : Bool) (g : Bool → Frame → Instr), s.boot.held = .off ∧ s.linkUp up = true ∧ f.crcOk =
      true ∧ (frameLen f.ty ≠ some f.len ∨ f.payload.length ≠ f.len) ∧ ends (exec (g up f) s) (fun t => decide (t.out = s.out
      ∧ t.chain = s.chain ∧ (t.rd Reg.VCH_RXDROP).toNat = min ((s.rd Reg.VCH_RXDROP).toNat + 1) 0xFFFFFFFF)) = true) ∧
    (∃ (s : State) (f : Frame) (up : Bool) (g : Bool → Frame → Instr), s.boot.held = .off ∧ s.linkUp up = false ∧ ends (exec
      (g up f) s) (fun t => decide (t = s.settle)) = true) ∧
    (∃ (s : State) (f : Frame) (b : Byte), s.boot.held = .off ∧ f.crcOk = true ∧ f.payload.length = f.len ∧ s.linkUp true =
      true ∧ f.ty = 1 ∧ f.payload.length = 8 ∧ f.dst = 127 ∧ s.isHead = false ∧ f.payload.getD 0 0#8 = b ∧ 1 ≤ b.toNat ∧
      b.toNat < 127 ∧ s.linkUp false = true ∧ ends (exec (.enumFrame true f) s) (fun t => decide (t.chainAddr = b.toNat ∧
      t.out = .chainDn (frameOf t) :: s.out ∧ (frameOf t).ty = 1 ∧ (frameOf t).payload.getD 0 0#8 = b + 1#8)) = true) ∧
    (∃ (s : State) (f : Frame) (b : Byte), s.boot.held = .off ∧ f.crcOk = true ∧ f.payload.length = f.len ∧ s.linkUp false =
      true ∧ f.ty = 2 ∧ f.payload.length = 4 ∧ f.dst = 0 ∧ s.isHead = true ∧ f.payload.getD 0 0#8 = b ∧ b.toNat < 128 ∧ ends
      (exec (.enumEndFrame false f) s) (fun t => decide (t.fget Reg.VCH_ADDR_COUNT = b.toNat ∧ t.out = s.out)) = true) ∧
    (∃ (s : State) (f : Frame), s.boot.held = .off ∧ f.crcOk = true ∧ f.payload.length = f.len ∧ s.linkUp false = true ∧
      f.ty = 3 ∧ f.payload = [] ∧ ends (exec (.probeFrame false f) s) (fun t => decide (t.out = .chainEcho (s.cycle + 200)
      (frameOf t) :: s.out ∧ (frameOf t).ty = 4 ∧ (frameOf t).payload = [] ∧ t.chain.dnEchoed = true)) = true) ∧
    (∃ (s : State) (f : Frame) (c : Nat), s.boot.held = .off ∧ f.crcOk = true ∧ f.payload.length = f.len ∧ s.linkUp true =
      true ∧ f.ty = 4 ∧ f.payload = [] ∧ s.chain.probeAt = some c ∧ s.cycle - c ≤ 2000 ∧ ends (exec (.echoFrame true f) s)
      (fun t => decide (t.chain.probeAt = none ∧ t.fget Reg.VCH_UPDLY_DLY = 8 * (s.cycle - c - 200) ∧ t.fget
      Reg.VCH_ACCDLY_DLY = (s.chain.accIn + t.fget Reg.VCH_UPDLY_DLY) % 2 ^ 24)) = true) ∧
    (∃ (s : State) (f : Frame), s.boot.held = .off ∧ f.crcOk = true ∧ f.payload.length = f.len ∧ s.linkUp true = true ∧ f.ty
      = 5 ∧ f.payload.length = 24 ∧ f.dst = 127 ∧ s.chain.timeOk = true ∧ ends (exec (.timeFrame true f) s) (fun t => decide
      (t.chain.timeOk = false ∧ t.chain.tref = (leNat (f.payload.take 8), leNat ((f.payload.drop 8).take 8),
      s.chain.ownVsync))) = true) ∧
    (∃ (s : State) (f : Frame), s.boot.held = .off ∧ f.crcOk = true ∧ f.payload.length = f.len ∧ s.linkUp false = true ∧
      f.ty = 6 ∧ f.payload.length = 4 ∧ f.dst = 0 ∧ s.isHead = true ∧ ends (exec (.attachFrame false f) s) (fun t => decide
      (t.chain.enumDue = true ∧ (t.rd Reg.VCH_ATTACHES).toNat = min ((s.rd Reg.VCH_ATTACHES).toNat + 1) 0xFFFFFFFF)) = true) ∧
    (∃ (s : State) (f : Frame), s.boot.held = .off ∧ f.crcOk = true ∧ f.payload.length = f.len ∧ s.linkUp false = true ∧
      f.ty = 7 ∧ f.payload.length = 4 ∧ f.dst = 0 ∧ s.isHead = true ∧ ends (exec (.detachFrame false f) s) (fun t => decide
      (t.chain.enumDue = true ∧ t.fget Reg.VCH_EVT_STAT_DETACH = 1)) = true) ∧
    (∃ (s : State) (f : Frame), s.boot.held = .off ∧ f.crcOk = true ∧ f.payload.length = f.len ∧ s.linkUp false = true ∧
      s.linkUp true = true ∧ f.ty = 7 ∧ f.payload.length = 4 ∧ f.dst = 0 ∧ s.isHead = false ∧ ends (exec (.detachFrame false
      f) s) (fun t => decide (t.out = .chainUp f :: s.out ∧ t.chain = s.chain)) = true) ∧
    (∃ (s : State) (f : Frame), s.boot.held = .off ∧ f.crcOk = true ∧ f.payload.length = f.len ∧ s.linkUp false = true ∧
      s.linkUp true = true ∧ f.ty = 0x13 ∧ f.payload.length = 8 ∧ f.dst = 0 ∧ s.isHead = false ∧ ends (exec (.responseFrame
      false f) s) (fun t => decide (t.out = .chainUp f :: s.out ∧ t.chain = s.chain)) = true) ∧
    (∃ (s : State) (f : Frame), s.boot.held = .off ∧ f.crcOk = true ∧ f.payload.length = f.len ∧ s.linkUp false = true ∧
      f.ty = 0x13 ∧ f.payload.length = 8 ∧ f.dst = 0 ∧ s.isHead = true ∧ ends (exec (.responseFrame false f) s) (fun t =>
      decide (t.out = s.out ∧ t.chain = s.chain)) = true) :=
  ⟨⟨chained [], { frame 0 6 (leBytes 3 4) with crc := 1 }, true, Instr.attachFrame, by decide +kernel⟩,
   ⟨chained [], frame 0 6 (leBytes 3 5), true, Instr.attachFrame, by decide +kernel⟩,
   ⟨at_ [], frame 0 6 (leBytes 3 4), true, Instr.attachFrame, by decide +kernel⟩,
   ⟨chained [], frame 127 0x1 (leBytes 126 8), 126#8, by decide +kernel⟩,
   ⟨chained [(Reg.VCH_STATUS_HEAD, 1)], frame 0 0x2 (leBytes 127 4), 127#8, by decide +kernel⟩,
   ⟨chained [], frame 0 0x3 ([]), by decide +kernel⟩,
   ⟨(chained []).modChain (fun x => { x with probeAt := some 4999000, accIn := 5 }), frame 0 0x4 ([]), 4999000, by decide +kernel⟩,
   ⟨(chained []).modChain (fun x => { x with timeOk := true, ownVsync := 9 }), frame 127 0x5 (leBytes 7 24), by decide +kernel⟩,
   ⟨chained [(Reg.VCH_STATUS_HEAD, 1)], frame 0 0x6 (leBytes 3 4), by decide +kernel⟩,
   ⟨chained [(Reg.VCH_STATUS_HEAD, 1)], frame 0 0x7 (leBytes 3 4), by decide +kernel⟩,
   ⟨chained [], frame 0 0x7 (leBytes 3 4), by decide +kernel⟩,
   ⟨chained [], frame 0 0x13 (leBytes 3 8), by decide +kernel⟩,
   ⟨chained [(Reg.VCH_STATUS_HEAD, 1)], frame 0 0x13 (leBytes 3 8), by decide +kernel⟩⟩

/-- Witness for Obligations.ChainRequests, clause by clause. -/
theorem witness_ChainRequests :
    (∃ (s : State) (f : Frame) (t0 : State) (v : Word), s.boot.held = .off ∧ s.linkUp true = true ∧ f.crcOk = true ∧
      f.payload.length = f.len ∧ f.dst = s.chainAddr ∧ s.chainAddr ≠ 0 ∧ f.dst ≠ 127 ∧ f.ty = 0x10 ∧ f.payload.length = 4 ∧
      inRegSpace (leNat f.payload) = true ∧ s.busRead .chain (leNat f.payload) = (t0, v, .done) ∧ t0.out = s.out ∧ t0.linkUp
      true = true ∧ ends (exec (.regReadFrame true f) s) (fun t => decide (t.out = .chainUp (frameOf t) :: s.out ∧ (frameOf
      t).ty = 0x13 ∧ (frameOf t).tag = f.tag ∧ (frameOf t).dst = 0 ∧ (frameOf t).payload = leBytes 0 4 ++ leBytes v.toNat 4))
      = true) ∧
    (∃ (s : State) (f : Frame), s.boot.held = .off ∧ s.linkUp true = true ∧ f.crcOk = true ∧ f.payload.length = f.len ∧
      f.dst = s.chainAddr ∧ s.chainAddr ≠ 0 ∧ f.dst ≠ 127 ∧ f.ty = 0x10 ∧ f.payload.length = 4 ∧ inRegSpace (leNat f.payload)
      = false ∧ ends (exec (.regReadFrame true f) s) (fun t => decide (t.out = .chainUp (frameOf t) :: s.out ∧ (frameOf t).ty
      = 0x13 ∧ (frameOf t).tag = f.tag ∧ (frameOf t).payload = leBytes 1 4 ++ leBytes 0 4 ∧ (t.rd Reg.VCH_REFUSED).toNat =
      min ((s.rd Reg.VCH_REFUSED).toNat + 1) 0xFFFFFFFF)) = true) ∧
    (∃ (s : State) (f : Frame) (t0 : State), s.boot.held = .off ∧ s.linkUp true = true ∧ f.crcOk = true ∧ f.payload.length =
      f.len ∧ f.dst = s.chainAddr ∧ s.chainAddr ≠ 0 ∧ f.dst ≠ 127 ∧ f.ty = 0x11 ∧ f.payload.length = 8 ∧ inRegSpace (leNat
      (f.payload.take 4)) = true ∧ s.busWrite .chain (leNat (f.payload.take 4)) (BitVec.ofNat 32 (leNat (f.payload.drop 4)))
      = (t0, .done) ∧ t0.out = s.out ∧ t0.linkUp true = true ∧ ends (exec (.regWriteFrame true f) s) (fun t => decide (t.out
      = .chainUp (frameOf t) :: s.out ∧ (frameOf t).ty = 0x13 ∧ (frameOf t).tag = f.tag ∧ (frameOf t).payload = leBytes 0 4
      ++ leBytes 0 4 ∧ ∀ r ∈ keys s t, r ≠ Reg.EVR_DROPQ → t.rd r = t0.rd r)) = true) ∧
    (∃ (s : State) (f : Frame), s.boot.held = .off ∧ s.linkUp true = true ∧ f.crcOk = true ∧ f.payload.length = f.len ∧
      f.dst = s.chainAddr ∧ s.chainAddr ≠ 0 ∧ f.dst ≠ 127 ∧ f.ty = 0x11 ∧ f.payload.length = 8 ∧ inRegSpace (leNat
      (f.payload.take 4)) = true ∧ s.busWrite .chain (leNat (f.payload.take 4)) (BitVec.ofNat 32 (leNat (f.payload.drop 4)))
      = (s, .notOwner) ∧ ends (exec (.regWriteFrame true f) s) (fun t => decide (t.out = .chainUp (frameOf t) :: s.out ∧
      (frameOf t).ty = 0x13 ∧ (frameOf t).payload = leBytes 2 4 ++ leBytes 0 4 ∧ t.own.last = (4, 2, 0x11, leNat
      (f.payload.take 4)) ∧ (t.rd Reg.OWN_REFUSED).toNat = min ((s.rd Reg.OWN_REFUSED).toNat + 1) 0xFFFFFFFF)) = true) ∧
    (∃ (s : State) (f : Frame) (target : _) (token : _), s.boot.held = .off ∧ s.linkUp true = true ∧ f.crcOk = true ∧
      f.payload.length = f.len ∧ f.dst = s.chainAddr ∧ s.chainAddr ≠ 0 ∧ f.dst ≠ 127 ∧ f.ty = 0x12 ∧ f.payload.length = 16 ∧
      ownFields f.payload = (1, target, token, false) ∧ s.ownValid 1 target token false = true ∧ s.ownState = 0 ∧ ends (exec
      (.ownFrame true f) s) (fun t => decide (t.out = .chainUp (frameOf t) :: s.out ∧ (frameOf t).ty = 0x13 ∧ (frameOf t).tag
      = f.tag ∧ (frameOf t).payload = leBytes 0 4 ++ leBytes (4 + 16) 4 ∧ t.owner = 4 ∧ t.ownState = 1 ∧ t.own.token =
      token)) = true) :=
  ⟨⟨chained [], frame 3 0x10 (leBytes 0x40000000 4), (chained []), ((chained [])).rd 0x40000000, by decide +kernel⟩,
   ⟨chained [], frame 3 0x10 (leBytes 0x10000000 4), by decide +kernel⟩,
   ⟨chained [], frame 3 0x11 (leBytes 0x400B0020 4 ++ leBytes 5 4), ((chained []).busWrite .chain 0x400B0020 5).1, by decide +kernel⟩,
   ⟨chained [], frame 3 0x11 (leBytes 0x40000200 4 ++ leBytes 5 4), by decide +kernel⟩,
   ⟨chained [], frame 3 0x12 (ownData 1 0 99), 0, 99, by decide +kernel⟩⟩

/-- Witness for Obligations.ChainSynchronisation, clause by clause. -/
theorem witness_ChainSynchronisation :
    (∃ (s : State), s.boot.held = .off ∧ s.linkUp true = true ∧ s.vchSync = 0 ∧ ends (exec .vsyncReceive s) (fun t => decide
      (t.vchSync = 1 ∧ t.chain.tLast = s.vsyncArrival ∧ t.chain.fwd = s.chain.fwd ++ [s.cycle])) = true) ∧
    (∃ (s : State), s.boot.held = .off ∧ s.linkUp true = true ∧ s.vchSync = 1 ∧ 8166667 ≤ s.vsyncArrival - s.chain.tLast ∧
      s.vsyncArrival - s.chain.tLast ≤ 11333333 ∧ ends (exec .vsyncReceive s) (fun t => decide (t.vchSync = 2 ∧ (t.rd
      Reg.VCH_PERIOD).toNat = s.vsyncArrival - s.chain.tLast ∧ t.chain.timeOk = true ∧ t.chain.rejRun = 0 ∧ (t.rd
      Reg.VCH_SYNCACC).toNat = min ((s.rd Reg.VCH_SYNCACC).toNat + 1) 0xFFFFFFFF)) = true) ∧
    (∃ (s : State) (p : _), s.boot.held = .off ∧ s.linkUp true = true ∧ s.vchSync = 2 ∧ (s.rd Reg.VCH_PERIOD).toNat = p ∧
      s.chain.tLast + s.chain.winK * p + p / 50 < s.vsyncArrival ∧ s.chain.rejRun < 7 ∧ ends (exec .vsyncReceive s) (fun t =>
      decide (t.vchSync = 2 ∧ t.chain.rejRun = s.chain.rejRun + 1 ∧ t.chain.tLast = s.chain.tLast ∧ (t.rd
      Reg.VCH_SYNCREJ).toNat = min ((s.rd Reg.VCH_SYNCREJ).toNat + 1) 0xFFFFFFFF)) = true) ∧
    (∃ (s : State), s.boot.held = .off ∧ s.linkUp true = false ∧ ends (exec .vsyncReceive s) (fun t => decide (t =
      s.settle)) = true) ∧
    (∃ (s : State) (c : Nat) (rest : _), s.boot.held = .off ∧ s.chain.fwd = c :: rest ∧ c + 48 ≤ s.cycle ∧ s.linkUp false =
      true ∧ ends (exec .vsyncForward s) (fun t => decide (t.out = .vsyncDn :: s.out ∧ t.chain.fwd = rest)) = true) ∧
    (∃ (s : State) (p : _), s.boot.held = .off ∧ s.vchSync = 2 ∧ (s.rd Reg.VCH_PERIOD).toNat = p ∧ s.chain.tLast +
      s.chain.winK * p + p / 50 < s.vsyncArrival ∧ s.chain.rejRun < 7 ∧ ends (exec .vsyncWindowClose s) (fun t => decide
      (t.vchSync = 2 ∧ t.chain.winK = s.chain.winK + 1 ∧ t.chain.rejRun = s.chain.rejRun + 1)) = true) ∧
    (∃ (s : State) (p : _), s.boot.held = .off ∧ s.vchSync = 2 ∧ (s.rd Reg.VCH_PERIOD).toNat = p ∧ s.chain.tLast +
      s.chain.winK * p + p / 50 < s.vsyncArrival ∧ s.chain.rejRun = 7 ∧ ends (exec .vsyncWindowClose s) (fun t => decide
      (t.vchSync = 3 ∧ t.fget Reg.VCH_EVT_STAT_HOLD = 1 ∧ (t.rd Reg.VCH_HOLDS).toNat = min ((s.rd Reg.VCH_HOLDS).toNat + 1)
      0xFFFFFFFF)) = true) ∧
    (∃ (s : State) (stamp : _) (ms : Nat), s.boot.held = .off ∧ s.chain.timeDue = some (stamp, ms) ∧ s.vchSync = 4 ∧
      s.linkUp false = true ∧ ends (exec .timeSend s) (fun t => decide (t.chain.timeDue = none ∧ t.out = .chainDn (frameOf t)
      :: s.out ∧ (frameOf t).ty = 5 ∧ (frameOf t).dst = 127 ∧ (frameOf t).payload = leBytes stamp 8 ++ leBytes ms 8 ++
      leBytes s.chain.emitted 4 ++ leBytes 0 4)) = true) ∧
    (∃ (s : State) (m : _), s.boot.held = .off ∧ ends (exec (.vchTrefRead m) s) (fun t => decide (t.out = .regRead
      (BitVec.ofNat 32 s.chain.tref.1) :: s.out ∧ t.rd Reg.VCH_TREF_MLO = BitVec.ofNat 32 s.chain.tref.1 ∧ t.rd
      Reg.VCH_TREF_MHI = BitVec.ofNat 32 (s.chain.tref.1 / 2 ^ 32) ∧ t.rd Reg.VCH_TREF_TLO = BitVec.ofNat 32 s.chain.tref.2.1
      ∧ t.rd Reg.VCH_TREF_OLO = BitVec.ofNat 32 s.chain.tref.2.2)) = true) :=
  ⟨⟨chained [], by decide +kernel⟩,
   ⟨({ chained [(Reg.VCH_STATUS_SYNC, 1)] with cycle := 20000000 }).modChain (fun x => { x with tLast := 11000000 }), by decide +kernel⟩,
   ⟨({ chained [(Reg.VCH_STATUS_SYNC, 2), (⟨Reg.VCH_PERIOD, 31, 0⟩, 9000000)] with cycle := 20000000 }).modChain (fun x => { x with tLast := 1000000 }), 9000000, by decide +kernel⟩,
   ⟨at_ [], by decide +kernel⟩,
   ⟨({ chained [] with cycle := 20000000 }).modChain (fun x => { x with fwd := [17] }), 17, [], by decide +kernel⟩,
   ⟨({ chained [(Reg.VCH_STATUS_SYNC, 2), (⟨Reg.VCH_PERIOD, 31, 0⟩, 9000000)] with cycle := 20000000 }).modChain (fun x => { x with tLast := 1000000 }), 9000000, by decide +kernel⟩,
   ⟨({ chained [(Reg.VCH_STATUS_SYNC, 2), (⟨Reg.VCH_PERIOD, 31, 0⟩, 9000000)] with cycle := 20000000 }).modChain (fun x => { x with tLast := 1000000, rejRun := 7 }), 9000000, by decide +kernel⟩,
   ⟨({ chained [(Reg.VCH_STATUS_SYNC, 4), (⟨Reg.VCH_PERIOD, 31, 0⟩, 9000000)] with cycle := 20000000 }).modChain (fun x => { x with timeDue := some (7, 8), emitted := 3 }), 7, 8, by decide +kernel⟩,
   ⟨({ chained [] with cycle := 20000000 }).modChain (fun x => { x with tref := (2 ^ 33 + 1, 2 ^ 34 + 2, 3) }), .core 0, by decide +kernel⟩⟩

/-- Witness for Obligations.PowerTickAndTemperatures, clause by clause. -/
theorem witness_PowerTickAndTemperatures :
    (∃ (s : State) (rails : List (Nat × Nat)) (d0 : Option Int) (d1 : Option Int) (d2 : Option Int) (d3 : Option Int) (d4 :
      Option Int) (d5 : Option Int) (vmot : Nat) (vdda : Nat), s.boot.held = .off ∧ ends (exec (.pmuTick rails d0 d1 d2 d3 d4
      d5 vmot vdda) s) (fun t => decide (t.pow.ticks = s.pow.ticks + 1 ∧ t.fget Reg.PMU_VMOT_MV = min vmot 65535 ∧ t.fget
      Reg.PMU_VDDA_MV = min 65535 vdda ∧ t.fget Reg.PMU_POWER_P = min 65535 (devicePower rails) ∧ t.pow.vmotRun = (if 9000 ≤
      vmot then s.pow.vmotRun + 1 else 0))) = true) ∧
    (∃ (s : State) (rails : List (Nat × Nat)) (vmot : Nat) (vdda : Nat), s.boot.held = .off ∧ (s.tthr : Int) * 16 ≤
      s.composite ∧ 3 ≤ s.pow.hot ∧ s.fbit Reg.PMU_PSTATE_THROT = false ∧ ends (exec (.pmuTick rails none none none none none
      none vmot vdda) s) (fun t => decide (t.fget Reg.PMU_PSTATE_THROT = 1 ∧ t.fget Reg.PMU_TCOMP_VALID = 0 ∧ (t.rd
      Reg.PMU_THROTS).toNat = min ((s.rd Reg.PMU_THROTS).toNat + 1) 0xFFFFFFFF)) = true) ∧
    (∃ (s : State) (rails : List (Nat × Nat)) (d0 : Option Int) (d1 : Option Int) (d2 : Option Int) (d3 : Option Int) (d4 :
      Option Int) (d5 : Option Int) (vmot : Nat) (vdda : Nat), s.boot.held = .off ∧ s.fget Reg.PMU_PSTATE_PEAK = 0 ∧ s.psus *
      100 < devicePower rails ∧ devicePower rails ≤ s.ppeak * 100 ∧ ends (exec (.pmuTick rails d0 d1 d2 d3 d4 d5 vmot vdda)
      s) (fun t => decide (t.fget Reg.PMU_PSTATE_PEAK = 1 ∧ (t.rd Reg.PMU_PEAKS).toNat = min ((s.rd Reg.PMU_PEAKS).toNat + 1)
      0xFFFFFFFF)) = true) ∧
    (∃ (s : State) (rails : List (Nat × Nat)) (d0 : Option Int) (d1 : Option Int) (d2 : Option Int) (d3 : Option Int) (d4 :
      Option Int) (d5 : Option Int) (vmot : Nat) (vdda : Nat), s.boot.held = .off ∧ s.fget Reg.PMU_PSTATE_PEAK ≤ 1 ∧ s.ppeak
      * 100 < devicePower rails ∧ ends (exec (.pmuTick rails d0 d1 d2 d3 d4 d5 vmot vdda) s) (fun t => decide (t.fget
      Reg.PMU_PSTATE_PEAK = 2 ∧ t.fget Reg.PMU_CAPS_PCT = min s.pctMax s.rpct ∧ t.fget Reg.PMU_EVT_STAT_RECOV = 1 ∧ ∀ n : Fin
      4, t.fget (Reg.RWCn_PEAK_GRANT n) = 0)) = true) ∧
    (∃ (s : State) (k : Fin 4) (x : Int), s.boot.held = .off ∧ -880 ≤ x ∧ x ≤ 2400 ∧ sparseFind k.val s.pow.diode = none ∧
      ends (exec (.diodeConversion k (some x)) s) (fun t => decide (t.fget (Reg.PMU_TDn_T k) = (BitVec.ofInt 16 x).toNat ∧
      t.fget (Reg.PMU_TDn_VALID k) = 1)) = true) ∧
    (∃ (s : State) (k : Fin 4), s.boot.held = .off ∧ ends (exec (.diodeConversion k none) s) (fun t => decide (t.fget
      (Reg.PMU_TDn_T k) = s.fget (Reg.PMU_TDn_T k) ∧ (t.rd Reg.PMU_TDINV).toNat = min ((s.rd Reg.PMU_TDINV).toNat + 1)
      0xFFFFFFFF)) = true) ∧
    (∃ (s : State) (k : Fin 4), s.boot.held = .off ∧ sparseFind k.val s.pow.diodeBad = some 7 ∧ ends (exec (.diodeConversion
      k none) s) (fun t => decide (t.fget (Reg.PMU_TDn_FAIL k) = 1)) = true) :=
  ⟨⟨driven [(Reg.PMU_PEAK0_PSUS, 80), (Reg.PMU_PEAK0_PPEAK, 120), (Reg.PMU_PEAK1_RPCT, 50), (Reg.PMU_LIMIT_PCTMAX, 80)], (9000, 1000) :: List.replicate 5 (0, 0), none, none, none, none, none, none, 12000, 3300, by decide +kernel⟩,
   ⟨(driven [(Reg.PMU_TCOMP_T, 1600), (Reg.PMU_TCOMP_VALID, 1), (Reg.PMU_THERM_TTHR, 90), (Reg.PMU_PEAK0_PSUS, 80), (Reg.PMU_PEAK0_PPEAK, 120), (Reg.PMU_PEAK1_RPCT, 50), (Reg.PMU_LIMIT_PCTMAX, 80)]).modPow (fun p => { p with hot := 3 }), (9000, 1000) :: List.replicate 5 (0, 0), 12000, 3300, by decide +kernel⟩,
   ⟨driven [(Reg.PMU_PEAK0_PSUS, 80), (Reg.PMU_PEAK0_PPEAK, 120), (Reg.PMU_PEAK1_RPCT, 50), (Reg.PMU_LIMIT_PCTMAX, 80)], (9000, 1000) :: List.replicate 5 (0, 0), none, none, none, none, none, none, 12000, 3300, by decide +kernel⟩,
   ⟨driven [(Reg.PMU_PEAK0_PSUS, 80), (Reg.PMU_PEAK0_PPEAK, 120), (Reg.PMU_PEAK1_RPCT, 50), (Reg.PMU_LIMIT_PCTMAX, 80), (Reg.PMU_PSTATE_PEAK, 1)], (12001, 1000) :: List.replicate 5 (0, 0), none, none, none, none, none, none, 12000, 3300, by decide +kernel⟩,
   ⟨driven [], 2, -880, by decide +kernel⟩,
   ⟨driven [(Reg.PMU_TDn_T 2, 77)], 2, by decide +kernel⟩,
   ⟨(driven []).modPow (fun p => { p with diodeBad := [(2, 7)] }), 2, by decide +kernel⟩⟩

/-- Witness for Obligations.PowerStates, clause by clause. -/
theorem witness_PowerStates :
    (∃ (s : State), s.boot.held = .off ∧ s.pow.moving = none ∧ s.eps = 4 ∧ s.psGoal < 4 ∧ ends (exec .powerStateTransition
      s) (fun t => decide (t.eps = 3 ∧ t.pow.selfRef = false)) = true) ∧
    (∃ (s : State), s.boot.held = .off ∧ s.pow.moving = none ∧ s.eps = 3 ∧ s.psGoal = 4 ∧ ends (exec .powerStateTransition
      s) (fun t => decide (t.eps = 4 ∧ t.pow.selfRef = true)) = true) ∧
    (∃ (s : State), s.boot.held = .off ∧ s.pow.moving = none ∧ s.eps = 1 ∧ s.psGoal = 0 ∧ ends (exec .powerStateTransition
      s) (fun t => decide (t.eps = 0)) = true) ∧
    (∃ (s : State), s.boot.held = .off ∧ s.pow.moving = some 3 ∧ s.smcState = 0 ∧ ends (exec .powerStateTransition s) (fun t
      => decide (t.eps = 3 ∧ t.pow.moving = none)) = true) ∧
    (∃ (s : State), s.boot.held = .off ∧ s.pow.moving = some 3 ∧ s.smcState ≠ 0 ∧ ends (exec .powerStateTransition s) (fun t
      => decide (t.eps = s.eps ∧ t.pow = s.pow)) = true) ∧
    (∃ (s : State), s.boot.held = .off ∧ s.pow.moving = some 2 ∧ s.eps = 3 ∧ s.smcState = 6 ∧ ends (exec
      .powerStateTransition s) (fun t => decide (t.eps = 2)) = true) ∧
    (∃ (s : State) (a : _) (c : Ctx) (ps : _), s.boot.held = .off ∧ s.recov.stopped = false ∧ s.pow.moving = none ∧ s.eps =
      s.psGoal ∧ s.pow.reqs = [(ps, some a)] ∧ s.ctx a = some c ∧ c.status = none ∧ ends (exec .powerStateTransition s) (fun
      t => decide (t.statusOf a = some St.success ∧ t.pow.reqs = [])) = true) ∧
    (∃ (s : State), s.boot.held = .off ∧ s.eps = 4 ∧ ends (exec .ps4Wake s) (fun t => decide (t.pow.selfRef = false ∧ t.eps
      = 4)) = true) ∧
    (∃ (s : State), s.boot.held = .off ∧ s.eps ≠ 4 ∧ ends (exec .ps4Wake s) (fun t => decide (t = s.settle)) = true) ∧
    (∃ (s : State), s.boot.held = .off ∧ s.eps = 4 ∧ s.pow.selfRef = false ∧ s.pow.refTick + 1000 ≤ s.pow.ticks ∧ ends (exec
      .selfRefreshReturn s) (fun t => decide (t.pow.selfRef = true)) = true) ∧
    (∃ (s : State) (c : Fin 8) (w : Word), s.boot.held = .off ∧ wordBits w 2 0 ≤ 4 ∧ ends (exec (.pmuPstateReqWrite (.core
      c) w) s) (fun t => decide (t.psReq = wordBits w 2 0 ∧ t.eps = s.eps)) = true) ∧
    (∃ (s : State) (m : Master) (w : Word), s.boot.held = .off ∧ (∀ c, m ≠ .core c) ∧ m ≠ .jtag ∧ ends (exec
      (.pmuPstateReqWrite m w) s) (fun t => decide (∀ r ∈ keys s t, r ≠ Reg.EVR_DROPQ → t.rd r = s.rd r)) = true) ∧
    (∃ (s : State) (k : Fin 2) (c : Nat), s.boot.held = .off ∧ s.pow.choiceDue.get k = true ∧ s.pow.choiceAt.get k = some c
      ∧ c + 64 * 2 ^ 32 ≤ s.stamp ∧ s.inPs1 = true ∧ (∀ a, s.pow.choice.get k = some a → s.fbit (Reg.SCE_PAIRn_INJ0_EN a) =
      false) ∧ ends (exec (.ps1ChoiceHoldoffEnd k) s) (fun t => decide (t.pow.choice.get k = s.ps1Best k ∧
      t.pow.choiceDue.get k = false)) = true) :=
  ⟨⟨(driven [(Reg.PMU_PSTATE_EPS, 4), (Reg.PMU_PSTATE_REQ, 2)]).modPow (fun p => { p with selfRef := true }), by decide +kernel⟩,
   ⟨driven [(Reg.PMU_PSTATE_EPS, 3), (Reg.PMU_PSTATE_REQ, 4)], by decide +kernel⟩,
   ⟨driven [(Reg.PMU_PSTATE_EPS, 1)], by decide +kernel⟩,
   ⟨(driven [(Reg.PMU_PSTATE_EPS, 0)]).modPow (fun p => { p with moving := some 3 }), by decide +kernel⟩,
   ⟨(driven [(Reg.PMU_PSTATE_EPS, 0), (Reg.SMC_STATUS_STATE, 6)]).modPow (fun p => { p with moving := some 3 }), by decide +kernel⟩,
   ⟨(driven [(Reg.PMU_PSTATE_EPS, 3), (Reg.SMC_STATUS_STATE, 6)]).modPow (fun p => { p with moving := some 2 }), by decide +kernel⟩,
   ⟨(hostedWith (ready 0 (sqe 0x09 0 [2, 1])) [(Reg.PMU_PSTATE_EPS, 0)]).modPow (fun p => { p with reqs := [(1, some 5)] }), 5, ready 0 (sqe 0x09 0 [2, 1]), 1, by decide +kernel⟩,
   ⟨(driven [(Reg.PMU_PSTATE_EPS, 4)]).modPow (fun p => { p with selfRef := true }), by decide +kernel⟩,
   ⟨driven [], by decide +kernel⟩,
   ⟨(driven [(Reg.PMU_PSTATE_EPS, 4)]).modPow (fun p => { p with ticks := 5000 }), by decide +kernel⟩,
   ⟨driven [], 2, 4, by decide +kernel⟩,
   ⟨driven [], .host 0, 4, by decide +kernel⟩,
   ⟨((driven [(Reg.PMU_PSTATE_EPS, 1)]).modPow (fun p => { p with choiceDue := Duo.all true, choiceAt := Duo.all (some 0) })).modAtb (fun a => { a with rev := 65 }), 0, 0, by decide +kernel⟩⟩

/-- Witness for Obligations.ActuatorsLoadAndRestore, clause by clause. -/
theorem witness_ActuatorsLoadAndRestore :
    (∃ (s : State) (n : Fin 4), s.boot.held = .off ∧ s.msc.avail.get n = .degraded ∧ (s.pair.get n).law = 3 ∧ s.pairImpaired
      n = false ∧ s.msc.escStamp.get n + s.dpi.restore * 2 ^ 32 ≤ s.stamp ∧ ends (exec (.actuatorRestore n) s) (fun t =>
      decide (t.msc.avail.get n = .available)) = true) ∧
    (∃ (s : State) (n : Fin 4), s.boot.held = .off ∧ s.msc.avail.get n = .degraded ∧ (s.pair.get n).law = 3 ∧ s.pairImpaired
      n = true ∧ ends (exec (.actuatorRestore n) s) (fun t => decide (t.msc.avail.get n = .degraded)) = true) ∧
    (∃ (s : State) (n : Fin 4), s.boot.held = .off ∧ s.msc.avail.get n = .degraded ∧ (s.pair.get n).law = 4 ∧ (s.pair.get
      n).lateAt = none ∧ (s.pair.get n).since + s.dpi.restore * 2 ^ 32 ≤ s.stamp ∧ ends (exec (.actuatorRestore n) s) (fun t
      => decide ((t.pair.get n).resumeReq = true)) = true) ∧
    (∃ (s : State) (n : Fin 4), s.boot.held = .off ∧ s.msc.avail.get n = .out ∧ s.msc.trial.get n = none ∧
      s.msc.outCause.get n = some .overrun ∧ s.msc.escStamp.get n + s.dpi.restore * 2 ^ 32 ≤ s.stamp ∧ s.msc.restoreTries.get
      n < s.dpi.outRetry ∧ s.recov.stopped = false ∧ s.eps = 0 ∧ s.pow.moving = none ∧ s.smcState = 6 ∧ s.retracting n =
      false ∧ (s.pair.get n).law = 0 ∧ s.engState n 0 = 2 ∧ ends (exec (.outRestoreAttempt n) s) (fun t => decide
      (t.msc.trial.get n = some s.stamp ∧ t.msc.restoreTries.get n = s.msc.restoreTries.get n + 1 ∧ (t.pair.get n).loadReq =
      true ∧ t.msc.avail.get n = .out)) = true) ∧
    (∃ (s : State) (n : Fin 4), s.boot.held = .off ∧ s.msc.avail.get n = .out ∧ s.msc.trial.get n = none ∧
      s.msc.outCause.get n = some .escape ∧ ends (exec (.outRestoreAttempt n) s) (fun t => decide (t.msc = s.msc ∧ t.pair =
      s.pair)) = true) ∧
    (∃ (s : State) (n : Fin 4) (c : Nat), s.boot.held = .off ∧ s.msc.avail.get n = .out ∧ s.msc.trial.get n = some c ∧
      (s.pair.get n).badAt = none ∧ (s.pair.get n).law = 3 ∧ c + 64 * 2 ^ 32 ≤ s.stamp ∧ ends (exec (.outRestoreAttempt n) s)
      (fun t => decide (t.msc.avail.get n = .degraded ∧ t.msc.trial.get n = none ∧ t.msc.outCause.get n = none)) = true) ∧
    (∃ (s : State) (n : Fin 4), s.boot.held = .off ∧ s.msc.avail.get n = .parked ∧ (s.pair.get n).law = 0 ∧ s.eps = 0 ∧
      s.pow.moving = none ∧ s.smcState = 6 ∧ s.fbit Reg.ATB_STATUS_QUAL = true ∧ s.retracting n = false ∧ s.recov.stopped =
      false ∧ s.actEnabled n = true ∧ s.engState n 0 = 2 ∧ ends (exec (.actuatorLoad n) s) (fun t => decide ((t.pair.get
      n).loadReq = true)) = true) ∧
    (∃ (s : State) (n : Fin 4), s.boot.held = .off ∧ s.msc.avail.get n = .out ∨ s.recov.stopped = true ∨ s.smcState ≠ 6 ∧
      ends (exec (.actuatorLoad n) s) (fun t => decide (t.pair = s.pair)) = true) ∧
    (∃ (s : State), s.boot.held = .off ∧ s.recov.stopped = false ∧ s.smc.spun = true ∧ s.pow.firstAct = Duo.all none ∧
      s.actEnabled 0 = true ∧ s.msc.avail.get 0 ≠ .out ∧ (s.pair.get 0).law = 0 ∧ s.engState 0 0 = 2 ∧ ends (exec .firstLoads
      s) (fun t => decide (t.smc.spun = false ∧ t.pow.firstAct.get 0 = some 0 ∧ (t.pair.get 0).loadReq = true)) = true) ∧
    (∃ (s : State) (a : _) (c : Ctx), s.boot.held = .off ∧ s.recov.stopped = false ∧ s.mediaReady = false ∧ s.ctx a = some c
      ∧ 0 < c.media ∧ c.status = none ∧ c.admitCycle + 60 * 10 ^ 9 ≤ s.cycle ∧ ends (exec (.mediaNotReadyTimeout a) s) (fun t
      => decide (t.statusOf a = some St.notReady)) = true) ∧
    (∃ (s : State), s.boot.held = .off ∧ s.firstBegun = true ∧ (∀ k, s.loadFailed k = true) ∧ s.firstNext 0 = none ∧
      s.firstNext 1 = none ∧ ends (exec .startUpMediaFailure s) (fun t => decide (t.eps = 3 ∧ t.pow.spinFail = true)) = true) ∧
    (∃ (s : State), s.boot.held = .off ∧ s.fget Reg.SYS_BOOT_MODE = 1 ∧ s.fget Reg.SYS_BOOT_STEP = 11 ∧ s.recov.sysTry =
      none ∧ ends (exec (.systemAreaReadRetry true) s) (fun t => decide (t.fget Reg.SYS_BOOT_STEP = 12 ∧ t.recov.sysDe = [] ∧
      t.recov.faultRecs = [] ∧ t.recov.sysRmt = [])) = true) ∧
    (∃ (s : State) (c : Nat), s.boot.held = .off ∧ s.fget Reg.SYS_BOOT_MODE = 1 ∧ s.fget Reg.SYS_BOOT_STEP = 11 ∧
      s.recov.sysTry = some c ∧ c + 60 * 10 ^ 9 ≤ s.cycle ∧ ends (exec (.systemAreaReadRetry true) s) (fun t => decide
      (t.fget Reg.SYS_BOOT_STEP = 12 ∧ t.recov.sysDe = [] ∧ t.recov.faultRecs = [] ∧ t.recov.sysRmt = [])) = true) ∧
    (∃ (s : State), s.boot.held = .off ∧ s.fget Reg.SYS_BOOT_MODE = 1 ∧ s.fget Reg.SYS_BOOT_STEP = 11 ∧ s.recov.sysTry =
      none ∧ ends (exec (.systemAreaReadRetry false) s) (fun t => decide (t.fget Reg.SYS_BOOT_STEP = 11 ∧ t.recov =
      { s.recov with sysTry := some s.cycle })) = true) ∧
    (∃ (s : State) (c : Nat) (ok : _), s.boot.held = .off ∧ s.recov.sysTry = some c ∧ s.cycle < c + 60 * 10 ^ 9 ∧ ends (exec
      (.systemAreaReadRetry ok) s) (fun t => decide (t.recov = s.recov ∧ t.fget Reg.SYS_BOOT_STEP = s.fget
      Reg.SYS_BOOT_STEP)) = true) :=
  ⟨⟨((driven []).modPair 0 (fun p => { p with law := 3 })).modMsc (fun m => { m with avail := m.avail.set 0 .degraded }) |>.modAtb (fun a => { a with rev := 500 }), 0, by decide +kernel⟩,
   ⟨((driven [(Reg.SRFn_STATUS_XSTATE 0, 5)]).modPair 0 (fun p => { p with law := 3 })).modMsc (fun m => { m with avail := m.avail.set 0 .degraded }) |>.modAtb (fun a => { a with rev := 500 }), 0, by decide +kernel⟩,
   ⟨((driven []).modPair 0 (fun p => { p with law := 4 })).modMsc (fun m => { m with avail := m.avail.set 0 .degraded }) |>.modAtb (fun a => { a with rev := 500 }), 0, by decide +kernel⟩,
   ⟨((driven [(Reg.SRFn_STATUS_XSTATE 0, 2), (Reg.SMC_STATUS_STATE, 6)]).modPair 0 (fun p => { p with law := 0 })).modMsc (fun m => { m with avail := m.avail.set 0 .out, outCause := m.outCause.set 0 (some .overrun) }) |>.modAtb (fun a => { a with rev := 500 }), 0, by decide +kernel⟩,
   ⟨((driven []).modPair 0 (fun p => { p with law := 0 })).modMsc (fun m => { m with avail := m.avail.set 0 .out, outCause := m.outCause.set 0 (some .escape) }) |>.modAtb (fun a => { a with rev := 500 }), 0, by decide +kernel⟩,
   ⟨((driven []).modPair 0 (fun p => { p with law := 3 })).modMsc (fun m => { m with avail := m.avail.set 0 .out, trial := m.trial.set 0 (some 0) }) |>.modAtb (fun a => { a with rev := 500 }), 0, 0, by decide +kernel⟩,
   ⟨((driven [(Reg.SRFn_STATUS_XSTATE 0, 2), (Reg.SMC_STATUS_STATE, 6), (Reg.ATB_STATUS_QUAL, 1)]).modPair 0 (fun p => { p with law := 0 })).modMsc (fun m => { m with avail := m.avail.set 0 .parked }) |>.modAtb (fun a => { a with rev := 500 }), 0, by decide +kernel⟩,
   ⟨((driven []).modPair 0 (fun p => { p with law := 0 })).modMsc (fun m => { m with avail := m.avail.set 0 .out }) |>.modAtb (fun a => { a with rev := 500 }), 0, by decide +kernel⟩,
   ⟨(((driven [(Reg.SRFn_STATUS_XSTATE 0, 2)]).modPair 0 (fun p => { p with law := 0 })).modMsc (fun m => { m with avail := m.avail.set 0 .parked }) |>.modAtb (fun a => { a with rev := 500 })).modSmc (fun m => { m with spun := true }), by decide +kernel⟩,
   ⟨{ hostedWith { ready 3 (sqe 0x02 1 []) with media := 1 } [] with cycle := 60 * 10 ^ 9 }, 5, { ready 3 (sqe 0x02 1 []) with media := 1 }, by decide +kernel⟩,
   ⟨(driven []).modPow (fun p => { p with firstAct := ⟨some 0, none⟩ }), by decide +kernel⟩,
   ⟨driven [(Reg.SYS_BOOT_STEP, 11)], by decide +kernel⟩,
   ⟨{ driven [(Reg.SYS_BOOT_STEP, 11)] with recov := { RecSt.reset with sysTry := some 0 }, cycle := 60 * 10 ^ 9 }, 0, by decide +kernel⟩,
   ⟨driven [(Reg.SYS_BOOT_STEP, 11)], by decide +kernel⟩,
   ⟨{ driven [(Reg.SYS_BOOT_STEP, 11)] with recov := { RecSt.reset with sysTry := some 1 }, cycle := 60 * 10 ^ 9 }, 1, true, by decide +kernel⟩⟩

/-- Witness for Obligations.ManagementAndPins, clause by clause. -/
theorem witness_ManagementAndPins :
    (∃ (s : State), s.boot.held = .off) ∧
    (∃ (s : State) (eid : Fin 256), s.boot.held = .off ∧ 8 ≤ eid.val ∧ eid.val ≤ 254 ∧ ends (exec (.mctpSetEndpointId eid)
      s) (fun t => decide (t.mctp.eid = 8)) = true) ∧
    (∃ (s : State) (eid : Fin 256), s.boot.held = .off ∧ eid.val < 8 ∧ ends (exec (.mctpSetEndpointId eid) s) (fun t =>
      decide (t.mctp.eid = s.mctp.eid)) = true) ∧
    (∃ (s : State), s.boot.held = .off) ∧
    (∃ (s : State), s.boot.held = .off) ∧
    (∃ (s : State), s.boot.held = .off ∧ ends (exec .mctpGetMessageTypeSupport s) (fun t => decide (t.out = .mi none 0 [0#8,
      1#8, 4#8] :: s.out)) = true) ∧
    (∃ (s : State), s.boot.held = .off) ∧
    (∃ (s : State), s.boot.held = .off) ∧
    (∃ (s : State), s.boot.held = .off) ∧
    (∃ (s : State), s.boot.held = .off ∧ ends (exec (.miConfigurationGet 1) s) (fun t => decide (t.out = .mi none 0 (leBytes
      s.mctp.freq 3) :: s.out)) = true) ∧
    (∃ (s : State) (id : Fin 256), s.boot.held = .off ∧ id ≠ 1 ∧ id ≠ 3 ∧ ends (exec (.miConfigurationGet id) s) (fun t =>
      decide (t.out = .mi none miInvalid [] :: s.out)) = true) ∧
    (∃ (s : State) (v : _), s.boot.held = .off ∧ v = 1 ∨ v = 2 ∧ ends (exec (.miConfigurationSet 1 v) s) (fun t => decide
      (t.mctp.freq = v ∧ t.out = .mi none 0 [] :: s.out)) = true) ∧
    (∃ (s : State), s.boot.held = .off) ∧
    (∃ (s : State), s.boot.held = .off ∧ ends (exec .miGetState s) (fun t => decide (t.out.length = 1)) = true) ∧
    (∃ (s : State), s.boot.held = .off ∧ ends (exec .miAbort s) (fun t => decide (t.host = s.host)) = true) ∧
    (∃ (s : State) (e : Sqe), s.boot.held = .off ∧ e.opc ∈ tunnelled ∧ (e.opc = 0x09 → wordBits e.cdw10 7 0 ∈ [0x0E, 0xC0])
      ∧ ends (exec (.miTunnelledAdmin e) s) (fun t => decide (t.host.nextArr = s.host.nextArr + 1 ∧ ∃ c ∈ t.host.ctxs, c.arr
      = s.host.nextArr ∧ c.smbus = true ∧ c.sqe = e ∧ c.ctrl = 0 ∧ c.status = none)) = true) ∧
    (∃ (s : State) (e : Sqe), s.boot.held = .off ∧ e.opc ∉ tunnelled ∧ s.recov.stopped = false ∧ (∀ x ∈ s.host.ctxs, x.arr ≠
      s.host.nextArr) ∧ ends (exec (.miTunnelledAdmin e) s) (fun t => decide (t.statusOf s.host.nextArr = some
      St.invalidOpcode)) = true) ∧
    (∃ (s : State) (e : Sqe), s.boot.held = .off ∧ e.opc = 0x09 ∧ wordBits e.cdw10 7 0 ∉ [0x0E, 0xC0] ∧ s.recov.stopped =
      false ∧ (∀ x ∈ s.host.ctxs, x.arr ≠ s.host.nextArr) ∧ ends (exec (.miTunnelledAdmin e) s) (fun t => decide (t.statusOf
      s.host.nextArr = some St.invalidField)) = true) ∧
    (∃ (s : State), s.boot.held = .off ∧ ends (exec .smbusBusTimeout s) (fun t => decide (t = s.settle)) = true) ∧
    (∃ (s : State) (k : Fin 32) (level : _) (held : _), s.boot.held = .off ∧ 64 ≤ held ∧ ends (exec (.gpioInputChange k
      level held) s) (fun t => decide (t.fget (Reg.SYS_GPIO_CFGn_IN k) = if level then 1 else 0)) = true) ∧
    (∃ (s : State) (k : Fin 32) (level : _) (held : _), s.boot.held = .off ∧ held < 64 ∧ ends (exec (.gpioInputChange k
      level held) s) (fun t => decide (t = s.settle)) = true) ∧
    (∃ (s : State) (ch : _) (framed : _), s.boot.held = .off ∧ s.jtagPermitted = false ∨ framed = true ∧ ends (exec
      (.uartRxCharacter ch framed) s) (fun t => decide (t = s.settle)) = true) ∧
    (∃ (s : State) (ch : _), s.boot.held = .off ∧ s.jtagPermitted = true ∧ ends (exec (.uartRxCharacter ch false) s) (fun t
      => decide (t.pow = { s.pow with uartErr := s.pow.uartErr + 1 })) = true) ∧
    (∃ (s : State), ends (exec .jtagBypass s) (fun t => decide (t.boot.jtag = .bypass ∧ t.out = .tdo 0 :: s.out)) = true) ∧
    (∃ (s : State) (pins : _) (shift : _), ends (exec (.jtagSamplePreload pins shift) s) (fun t => decide (t.boot.jtag =
      .sample ∧ t.boot.bsr = shift ∧ t.out = .tdo pins :: s.out)) = true) ∧
    (∃ (s : State) (pins : _) (shift : _), ends (exec (.jtagExtest pins shift) s) (fun t => decide (t.boot.jtag = .extest ∧
      t.boot.bsr = shift ∧ t.out = .tdo pins :: s.out)) = true) ∧
    (∃ (s : State), ends (exec .jtagHighz s) (fun t => decide (t.boot.jtag = .highz ∧ t.out = .tdo 0 :: s.out)) = true) ∧
    (∃ (s : State), ends (exec .jtagClamp s) (fun t => decide (t.boot.jtag = .clamp ∧ t.boot.bsr = s.boot.bsr ∧ t.out = .tdo
      0 :: s.out)) = true) :=
  ⟨⟨hosted [], by decide +kernel⟩,
   ⟨hosted [], 8, by decide +kernel⟩,
   ⟨hosted [], 7, by decide +kernel⟩,
   ⟨hosted [], by decide +kernel⟩,
   ⟨hosted [], by decide +kernel⟩,
   ⟨hosted [], by decide +kernel⟩,
   ⟨hosted [], by decide +kernel⟩,
   ⟨hosted [], by decide +kernel⟩,
   ⟨hosted [], by decide +kernel⟩,
   ⟨hosted [], by decide +kernel⟩,
   ⟨hosted [], 2, by decide +kernel⟩,
   ⟨hosted [], 2, by decide +kernel⟩,
   ⟨hosted [], by decide +kernel⟩,
   ⟨hosted [], by decide +kernel⟩,
   ⟨hosted [], by decide +kernel⟩,
   ⟨hosted [], sqe 0x06 0 [1], by decide +kernel⟩,
   ⟨hosted [], sqe 0x33 0 [], by decide +kernel⟩,
   ⟨hosted [], sqe 0x09 0 [2], by decide +kernel⟩,
   ⟨hosted [], by decide +kernel⟩,
   ⟨hosted [], 17, true, 64, by decide +kernel⟩,
   ⟨hosted [], 17, true, 63, by decide +kernel⟩,
   ⟨hosted [], 65, true, by decide +kernel⟩,
   ⟨hosted [(Reg.OTP_STATUS_DEBUG, 1)], 65, by decide +kernel⟩,
   ⟨hosted [], by decide +kernel⟩,
   ⟨hosted [], 5, 6, by decide +kernel⟩,
   ⟨hosted [], 5, 6, by decide +kernel⟩,
   ⟨hosted [], by decide +kernel⟩,
   ⟨hosted [], by decide +kernel⟩⟩

/-! ### An image that passes every check of R597

The checks are decided one by one; the code of table 6 (R304), 57 rows of 27 columns, is read by lemmas. -/

/-- A byte is looked up past a list that does not hold its key. -/
theorem byteAt_skip (l m : List (Nat × Byte)) (k : Nat) (h : ∀ x ∈ l, x.1 ≠ k) : byteAt (l ++ m) k = byteAt m k := by
  induction l with
  | nil => rfl
  | cons x l ih =>
    obtain ⟨j, v⟩ := x
    have hj : j ≠ k := h (j, v) (by simp)
    simp only [List.cons_append, byteAt, if_neg hj]
    exact ih (fun y hy => h y (by simp [hy]))

/-- A key that a list does not hold reads as 0. -/
theorem byteAt_absent (l : List (Nat × Byte)) (k : Nat) (h : ∀ x ∈ l, x.1 ≠ k) : byteAt l k = 0 := by
  have := byteAt_skip l [] k h
  simpa [byteAt] using this

/-- A byte is looked up before a list that does not hold its key. -/
theorem byteAt_stop (l m : List (Nat × Byte)) (k : Nat) (h : ∀ x ∈ m, x.1 ≠ k) : byteAt (l ++ m) k = byteAt l k := by
  induction l with
  | nil => simpa [byteAt] using byteAt_absent m k h
  | cons x l ih =>
    obtain ⟨j, v⟩ := x
    by_cases hj : j = k
    · simp [byteAt, hj]
    · simpa [byteAt, hj] using ih

/-- In a run of segments, each within its own range of w keys, a byte is looked up in its own segment. -/
theorem byteAt_segments (f : Nat → List (Nat × Byte)) (b w : Nat)
    (hf : ∀ i, ∀ x ∈ f i, b + w * i ≤ x.1 ∧ x.1 < b + w * (i + 1)) (n i j : Nat) (hj : j < w) :
    byteAt ((List.range n).flatMap f) (b + w * i + j) = if i < n then byteAt (f i) (b + w * i + j) else 0 := by
  induction n with
  | zero => simp [byteAt]
  | succ n ih =>
    rw [List.range_succ, List.flatMap_append]
    simp only [List.flatMap_cons, List.flatMap_nil, List.append_nil]
    by_cases hi : i = n
    · subst hi
      rw [byteAt_skip, if_pos (Nat.lt_succ_self i)]
      intro x hx
      obtain ⟨m, hm, hx⟩ := List.mem_flatMap.1 hx
      have h := (hf m x hx).2
      have : w * (m + 1) ≤ w * i := Nat.mul_le_mul_left _ (List.mem_range.1 hm)
      omega
    · rw [byteAt_stop, ih]
      · by_cases h : i < n
        · rw [if_pos h, if_pos (by omega)]
        · rw [if_neg h, if_neg (by omega)]
      · intro x hx
        have h := hf n x hx
        by_cases hlt : i < n
        · have : w * (i + 1) ≤ w * n := Nat.mul_le_mul_left _ hlt
          rw [Nat.mul_succ] at this
          omega
        · have : w * (n + 1) ≤ w * i := Nat.mul_le_mul_left _ (by omega)
          omega

/-- The column of entry k of row r of the code: every column stands in three rows. -/
def column (r k : Nat) : Nat := r % 19 * 27 + k
/-- The bytes of entry k of row r that are not 0 in every entry. -/
def entry (r k : Nat) : List (Nat × Byte) :=
  [(0x200 + 128 * r + 4 * k + 2, BitVec.ofNat 8 (column r k % 256)), (0x200 + 128 * r + 4 * k + 3, BitVec.ofNat 8 (128 + column r k / 256))]
/-- Row r. -/
def codeBytes (r : Nat) : List (Nat × Byte) := (List.range 27).flatMap (entry r)
/-- The code. -/
def code : List (Nat × Byte) := (List.range 57).flatMap codeBytes
/-- The image with its code. -/
def coded : DpiImage := imageOf code

/-- The bytes of table 6 before the code. -/
def before6 : List (Nat × Byte) :=
  le 0 2 1 ++ le 4 4 0x40000400 ++ le 8 4 0x0F0F0F0F ++ le 12 4 0xF0F0F0FF ++ le 0x2008 2 1 ++ le 0x200E 1 20 ++ le 0x200F 1 30

/-- A byte of the code's area. -/
theorem coded_byte (r k i : Nat) (hr : r < 58) (hk : k < 32) (hi : i < 4) :
    coded.byte 6 (0x200 + 128 * r + 4 * k + i) = if r < 57 ∧ k < 27 then byteAt (entry r k) (0x200 + 128 * r + 4 * k + i) else 0 := by
  have hb : coded.byte 6 (0x200 + 128 * r + 4 * k + i) = byteAt (before6 ++ code) (0x200 + 128 * r + 4 * k + i) := rfl
  have hin : ∀ x ∈ before6, x.1 < 0x200 ∨ 0x2000 ≤ x.1 := by decide +kernel
  rw [hb, byteAt_skip]
  · have h := byteAt_segments codeBytes 0x200 128 (fun i x hx => by
      obtain ⟨k, hk, hx⟩ := List.mem_flatMap.1 hx
      have := List.mem_range.1 hk
      simp only [entry, List.mem_cons, List.not_mem_nil, or_false] at hx
      rcases hx with rfl | rfl <;> simp only <;> omega) 57 r (4 * k + i) (by omega)
    rw [← Nat.add_assoc] at h
    rw [code, h]
    by_cases h57 : r < 57
    · have h2 := byteAt_segments (entry r) (0x200 + 128 * r) 4 (fun i x hx => by
        simp only [entry, List.mem_cons, List.not_mem_nil, or_false] at hx
        rcases hx with rfl | rfl <;> simp only <;> omega) 27 k i hi
      rw [if_pos h57, codeBytes, h2]
      by_cases h27 : k < 27
      · rw [if_pos h27, if_pos ⟨h57, h27⟩]
      · rw [if_neg h27, if_neg (fun h => h27 h.2)]
    · rw [if_neg h57, if_neg (fun h => h57 h.1)]
  · intro x hx
    have := hin x hx
    omega

/-- An entry of the code. -/
theorem coded_le (r k : Nat) (hr : r < 58) (hk : k < 32) :
    coded.le 6 4 (0x200 + 128 * r + 4 * k) = if r < 57 ∧ k < 27 then 2 ^ 31 + column r k * 2 ^ 16 else 0 := by
  have he : r < 57 ∧ k < 27 → ∀ i < 4, byteAt (entry r k) (0x200 + 128 * r + 4 * k + i) =
      if i = 2 then column r k % 256 else if i = 3 then 128 + column r k / 256 else 0 := by
    intro h i hi
    have hc : column r k < 19 * 27 := by unfold column; omega
    simp only [entry, byteAt, BitVec.toNat_ofNat]
    split_ifs <;> omega
  have hb (i : Nat) (hi : i < 4) : coded.byte 6 (0x200 + 128 * r + 4 * k + i) =
      if r < 57 ∧ k < 27 then (if i = 2 then column r k % 256 else if i = 3 then 128 + column r k / 256 else 0) else 0 := by
    rw [coded_byte r k i hr hk hi]
    split
    · next h => exact he h i hi
    · rfl
  have h0 := hb 0 (by omega)
  have h1 := hb 1 (by omega)
  have h2 := hb 2 (by omega)
  have h3 := hb 3 (by omega)
  simp only [DpiImage.le]
  rw [Nat.add_zero] at h0
  rw [show ∀ o : Nat, o + 1 + 1 = o + 2 from fun _ => rfl, show ∀ o : Nat, o + 2 + 1 = o + 3 from fun _ => rfl, h0, h1, h2, h3]
  by_cases h : r < 57 ∧ k < 27
  · simp only [if_pos h]; simp; omega
  · simp only [if_neg h]

/-- The columns of a row. -/
def columns (r : Nat) : List Nat := if r < 57 then (List.range 27).map (column r) else []

/-- A row of the code has those columns. -/
theorem coded_row (r : Nat) (hr : r < 58) : codeRow coded r = columns r := by
  have hc : ∀ c < 513, (2 ^ 31 + c * 2 ^ 16).testBit 31 = true ∧ bitsOf (2 ^ 31 + c * 2 ^ 16) 25 16 = c := by decide +kernel
  have h : codeRow coded r = (List.range 32).filterMap (fun k => if r < 57 ∧ k < 27 then some (column r k) else none) := by
    unfold codeRow
    apply List.filterMap_congr
    intro k hk
    have hk := List.mem_range.1 hk
    simp only [coded_le r k hr hk]
    by_cases h : r < 57 ∧ k < 27
    · have hlt : column r k < 513 := by unfold column; omega
      simp only [if_pos h, (hc _ hlt).1, (hc _ hlt).2, if_true]
    · simp [if_neg h]
  rw [h]
  have hd : ∀ r < 58, (List.range 32).filterMap (fun k => if r < 57 ∧ k < 27 then some (column r k) else none) = columns r := by
    decide +kernel
  exact hd r hr

/-- Which rows hold a column. -/
theorem columns_contains (r c : Nat) (hc : c < 513) : (columns r).contains c = decide (r < 57 ∧ r % 19 = c / 27) := by
  rw [Bool.eq_iff_iff, List.contains_iff_mem, decide_eq_true_iff]
  unfold columns
  by_cases h : r < 57
  · rw [if_pos h]
    simp only [List.mem_map, List.mem_range, column]
    constructor
    · rintro ⟨k, hk, rfl⟩; omega
    · rintro ⟨-, hr⟩; exact ⟨c % 27, by omega, by omega⟩
  · rw [if_neg h]; simp [h]

/-- No head but head 0 stands in an area of 32 bytes from 0x2020 up, and no byte of table 6 either. -/
theorem coded_zero6 (o : Nat) (h : 0x2020 ≤ o) : DpiZero coded 6 o 32 = true := by
  have hb : DpiZero coded 6 o 32 = (before6 ++ code).all (fun kb => decide (kb.1 < o) || decide (o + 32 ≤ kb.1) || decide (kb.2 = 0#8)) := rfl
  have hin : ∀ x ∈ before6 ++ code, x.1 < 0x2020 := by decide +kernel
  rw [hb, List.all_eq_true]
  intro x hx
  have := hin x hx
  simp; omega

/-- Head 0 alone is present, with one recording zone. -/
theorem coded_heads : (∀ s < 20, ∀ p < 2, coded.headPresent (20 * p + s) = decide (s = 0 ∧ p = 0)) ∧ coded.rzCount 0 = 1 := by
  decide +kernel

/-- R307 to R310 hold of the image. -/
theorem coded_channel : dpiChannelOk coded = true := by
  have hrows : (List.range 58).map (codeRow coded) = (List.range 58).map columns :=
    List.map_congr_left (fun r hr => coded_row r (List.mem_range.1 hr))
  have h1 : ((List.range 58).map columns).all distinct = true := by decide +kernel
  have h2 : (List.range 513).all (fun c => decide (3 ≤ ((List.range 58).map columns).countP (fun l => l.contains c))) = true := by
    have hq : ∀ q < 19, 3 ≤ (List.range 58).countP (fun r => decide (r < 57 ∧ r % 19 = q)) := by decide +kernel
    rw [List.all_eq_true]
    intro c hc
    have hc := List.mem_range.1 hc
    rw [decide_eq_true_iff, List.countP_map]
    have : (fun l : List Nat => l.contains c) ∘ columns = fun r => decide (r < 57 ∧ r % 19 = c / 27) := by
      funext r; exact columns_contains r c hc
    rw [this]
    exact hq _ (by omega)
  have h3 : (List.range 20).all (fun s => (List.range 64).all (fun k => (List.range 2).all (fun p =>
      let o := 0x2000 + 0x1000 * s + 0x40 * k + 0x20 * p
      if coded.headPresent (20 * p + s) ∧ k < coded.rzCount s then subRecordOk coded o (coded.spt s k) else DpiZero coded 6 o 32))) = true := by
    have hp : subRecordOk coded 0x2000 (coded.spt 0 0) = true := by decide +kernel
    simp only [List.all_eq_true, List.mem_range]
    intro s hs k hk p hp2
    have hh := coded_heads.1 s hs p hp2
    by_cases h : s = 0 ∧ p = 0
    · obtain ⟨rfl, rfl⟩ := h
      by_cases hk0 : k = 0
      · subst hk0
        rw [if_pos ⟨by rw [hh]; rfl, by rw [coded_heads.2]; omega⟩]; exact hp
      · rw [if_neg (by rw [coded_heads.2]; omega)]
        exact coded_zero6 _ (by omega)
    · rw [if_neg (by rw [hh]; simp [h])]
      exact coded_zero6 _ (by omega)
  have h4 : (profileValid coded 6 0 && DpiZero coded 6 2 2 && DpiZero coded 6 0x10 240 && DpiZero coded 6 0x1F00 256) = true := by
    decide +kernel
  have h5 : (decide (16 * (bitsOf (coded.le 6 4 4) 31 16 + bitsOf (coded.le 6 4 4) 15 0) ≤ 0x080000) &&
      decide (12 ≤ hamming32 (coded.le 6 4 8) (coded.le 6 4 12)) &&
      preamblePhases.all (fun x => decide (8 ≤ hamming32 (coded.le 6 4 8) x) && decide (8 ≤ hamming32 (coded.le 6 4 12) x)) &&
      (List.range 20).all (fun s => ! coded.surfEn s || (List.range (coded.rzCount s)).all (fun k =>
        zoneFits (coded.le 1 2 0) (coded.spt s k) (coded.baud s k) (bitsOf (coded.le 6 4 4) 31 16) (bitsOf (coded.le 6 4 4) 15 0)))) =
      true := by decide +kernel
  unfold dpiChannelOk
  simp only [hrows]
  simp only [Bool.and_eq_true] at h4 h5 ⊢
  exact ⟨⟨⟨⟨⟨⟨⟨h4, h5.1.1.1⟩, h5.1.1.2⟩, h5.1.2⟩, h1⟩, h2⟩, h3⟩, h5.2⟩

/-- A part whose DPI key slot 0 holds `keyHash`, with a DPI Load to execute. -/
def provisioned (c : Ctx) : State := (hostedWith c []).otpProgram 0x200 keyHash
/-- DPI Load of the image. -/
def loading : Ctx := ready 0 (sqe 0xC6 0 [imageNdt 400000, 0, 0])
/-- DPI Load of the other slot. -/
def switching : Ctx := ready 0 (sqe 0xC6 0 [0, 0, 1])

/-- A part whose other DPI slot holds the image. -/
def switched : State := (provisioned switching).modBoot (fun b => { b with dpis := ⟨none, some coded⟩ })

theorem coded_atb : dpiAtbOk coded = true := by decide +kernel
theorem coded_head : dpiHeadOk coded = true := by decide +kernel
theorem coded_zone : dpiZoneOk coded = true := by decide +kernel
theorem coded_msc : dpiMscOk coded = true := by decide +kernel
theorem coded_trs : dpiTrsOk coded = true := by decide +kernel
theorem coded_preamp : dpiPreampOk coded = true := by decide +kernel
theorem coded_servo : dpiServoOk coded = true := by decide +kernel
theorem coded_ref : dpiRefOk coded = true := by decide +kernel
theorem coded_spindle : dpiSpindleOk coded = true := by decide +kernel
theorem coded_comp : (dpiCompOk coded && dpiMemOk coded && dpiRecoveryOk coded) = true := by decide +kernel
theorem coded_power : dpiPowerOk coded = true := by decide +kernel
/-- The checks of R597 that look at the image as a whole and at the part's keys. -/
theorem coded_whole (s : State) (h : s.boot.otp = (provisioned loading).boot.otp) :
    (coded.layoutOk && decide (coded.format = 1) && decide (coded.ntab = 14) && decide (coded.len ≤ 512 * 1024 - 196) &&
      decide (coded.svn ≤ 256) && decide (coded.chain ≤ 3) && decide (coded.tables.length = 14) &&
      dpiSizes.all (fun ts => match coded.table ts.1 with | some t => decide (t.size = ts.2) && t.crcOk | none => false) &&
      [0, 1, 2, 3].any (fun k => s.dkeyUsable k && decide (s.otpBytes 48 (0x200 + 48 * k) = coded.keyHash)) &&
      coded.sigOk && decide (s.dpiSvn ≤ coded.svn)) = true := by
  simp only [State.dkeyUsable, State.otpBlank, State.dpiSvn, State.otpCount, State.otpBytes, State.otpByte, h]
  decide +kernel

/-- The image is valid on that part. -/
theorem coded_ok (s : State) (h : s.boot.otp = (provisioned loading).boot.otp) : s.dpiOk coded = true := by
  have hc := coded_comp
  have hw := coded_whole s h
  unfold State.dpiOk
  simp only [Bool.and_eq_true] at hc hw ⊢
  exact ⟨⟨⟨⟨⟨⟨⟨⟨⟨⟨⟨⟨⟨⟨hw, coded_atb⟩, coded_head⟩, coded_zone⟩, coded_msc⟩, coded_trs⟩, coded_channel⟩, coded_preamp⟩, coded_servo⟩,
    coded_ref⟩, coded_spindle⟩, hc.1.1⟩, hc.1.2⟩, hc.2⟩, coded_power⟩

/-- Witness for the clause of Obligations.ImageUpdates on a DPI Load that stores a valid image. -/
theorem witness_ImageUpdates_load :
    ∃ (s : State) (a : Nat) (c : Ctx) (d : DpiImage), s.mayExecute a c ∧ c.adm 0xC6 = true ∧ s.updateWaits a = false ∧ c.sqe.action = 0 ∧
      s.settings.dpi ≤ 1 ∧ c.sqe.ndt = imageNdt d.len ∧ s.dpiOk d = true :=
  ⟨provisioned loading, 5, loading, coded, by unfold State.mayExecute; decide +kernel, by decide +kernel, by decide +kernel,
    by decide +kernel, by decide +kernel, by decide +kernel, coded_ok _ (by decide +kernel)⟩

/-- Witness for its clause on the other slot, which holds a valid image. -/
theorem witness_ImageUpdates_other :
    ∃ (s : State) (a : Nat) (c : Ctx) (d : DpiImage), s.mayExecute a c ∧ c.adm 0xC6 = true ∧ s.updateWaits a = false ∧ c.sqe.action = 1 ∧
      s.dpiSlot (1 - s.settings.dpi) = some d ∧ s.dpiOk d = true :=
  ⟨switched, 5, switching, coded,
    by unfold State.mayExecute; decide +kernel, by decide +kernel, by decide +kernel, by decide +kernel,
    by rw [show 1 - switched.settings.dpi = 1 by decide +kernel]; rfl,
    coded_ok _ (by decide +kernel)⟩

/-! ### Witnesses that a single evaluation does not give -/

/-- What `ends` says: the outcome is a next state of which `p` holds. -/
theorem ends_next {o : Host.Outcome State Fault Refusal} {p : State → Bool} (h : ends o p = true) : ∃ t, o = .next t ∧ p t = true := by
  cases o with
  | next t => exact ⟨t, rfl, h⟩
  | fault _ => simp [ends] at h
  | refused _ => simp [ends] at h

/-- The record of ring slot i, of severity Fatal. -/
def fatal (i : Nat) : EvRecord := ⟨⟨i + 1, 7, 3, 0, 5, .fatal, none, [], 0⟩, none, [], 0, 0⟩
/-- A ring of 1,024 of them, and an offer of severity Notice. -/
def fullRing : State :=
  (at_ [(Reg.EVR_LOCK_LOCK, 1)]).modEvr (fun e => { e with
    ring := (List.range 1024).map (fun i => (i, EvSlot.valid (fatal i))), queue := [⟨2000, 7, 3, 0, 5, .notice, none, [], 0⟩] })

/-- A ring of which no slot is free. -/
theorem firstFree_none (cap : Nat) (used : List Nat) (h : ∀ i, used.contains (i % cap) = true) (n i : Nat) : firstFree cap used n i = none := by
  induction n generalizing i with
  | zero => rfl
  | succ n ih => simp only [firstFree, h i, if_true, ih]

/-- A ring of Fatal records has none to overwrite. -/
theorem oldestBelow_fatal (l : List (Nat × EvRecord)) (h : ∀ x ∈ l, x.2.offer.sev = .fatal) (sev : Nat) : oldestBelow l sev = none := by
  have hf : ∀ l : List (Nat × EvRecord), (∀ x ∈ l, x.2.offer.sev = .fatal) → l.foldl (fun acc kr => min acc kr.2.offer.sev.code) 3 = 3 := by
    intro l
    induction l with
    | nil => intro _; rfl
    | cons x l ih =>
      intro h
      rw [List.foldl_cons, h x (by simp)]
      exact ih (fun y hy => h y (by simp [hy]))
  unfold oldestBelow
  simp only [hf l h, true_or, if_true]

/-- The valid slots of a ring of Fatal records. -/
theorem validSlots_fatal (s : State) (l : List Nat) (h : s.evr.ring = l.map (fun i => (i, EvSlot.valid (fatal i)))) :
    s.validSlots = l.map (fun i => (i, fatal i)) := by
  rw [State.validSlots, h]
  clear h
  induction l with
  | nil => rfl
  | cons i l ih =>
    rw [List.map_cons, List.filterMap_cons, ih]
    rfl

/-- A full ring of Fatal records has no slot for a record. -/
theorem pickSlot_full (cap last : Nat) (l : List (Nat × EvRecord)) (sev : Nat) (hu : ∀ i, (l.map (·.1)).contains (i % cap) = true)
    (hf : ∀ x ∈ l, x.2.offer.sev = .fatal) : pickSlot cap last l sev = none := by
  unfold pickSlot
  rw [firstFree_none cap _ hu, oldestBelow_fatal l hf]

/-- Every slot is in use. -/
theorem full_used (n : Nat) (h : 0 < n) (i : Nat) : (((List.range n).map (fun i => (i, fatal i))).map (·.1)).contains (i % n) = true := by
  have : i % n < n := Nat.mod_lt _ h
  simp [this]

/-- Every record is Fatal. -/
theorem full_fatal {n : Nat} : ∀ x ∈ (List.range n).map (fun i => (i, fatal i)), x.2.offer.sev = .fatal := by
  intro x hx
  obtain ⟨i, -, rfl⟩ := List.mem_map.1 hx
  rfl

/-- Witness for the clause of Obligations.RecorderWritesRecords on a ring that has no slot for a record. -/
theorem witness_RecorderWritesRecords_full :
    ∃ (s : State) (o : Offer) (rest : List Offer), s.boot.held = .off ∧ s.evr.queue = o :: rest ∧ s.fbit Reg.EVR_LOCK_LOCK = true ∧
      s.evr.staged = [] ∧ pickSlot 1024 s.evr.lastSlot s.validSlots o.sev.code = none := by
  refine ⟨fullRing, ⟨2000, 7, 3, 0, 5, .notice, none, [], 0⟩, [], by decide +kernel, by decide +kernel, by decide +kernel, by decide +kernel, ?_⟩
  rw [validSlots_fatal fullRing (List.range 1024) (by simp only [fullRing, State.modEvr])]
  exact pickSlot_full _ _ _ _ (full_used 1024 (by omega)) full_fatal

/-- A state with a remap copy in progress, of a page that holds one byte. -/
def copying : State := { driven [(rmtBusy false 3, 1)] with mem := [(0x10000005, 7#8)] }
/-- The same with commands that wait. -/
def queued (l : List Instr) : State := { copying with pending := l }
/-- An offer in the recorder's queue, the recorder locked. -/
def offered : State := (at_ [(Reg.EVR_LOCK_LOCK, 1)]).modEvr (fun e => { e with queue := [⟨9, 7, 3, 0, 5, .notice, none, [], 0⟩] })

/-- Witness for Obligations.HeldPartTakesNoCommand. -/
theorem witness_HeldPart : ∃ (c : Instr) (s : State), s.boot.held ≠ .off ∧ reachesHeldPart c = false :=
  ⟨.evrRecordWrite, run.modBoot (fun b => { b with held := .clock }), by decide +kernel, by decide +kernel⟩

/-- Witness for Obligations.NoOfferStaysUnnumbered: a step that offers an event. -/
theorem witness_NoOfferStaysUnnumbered :
    ∃ s t : State, s.evr.staged = [] ∧ step s = .next t ∧ t.evr.queue ≠ s.evr.queue := by
  obtain ⟨t, h, hp⟩ := ends_next (o := step (queued [.rmtCopyDone false 3]))
    (p := fun t => decide (t.evr.queue ≠ (queued [.rmtCopyDone false 3]).evr.queue)) (by decide +kernel)
  exact ⟨_, t, by decide +kernel, h, of_decide_eq_true hp⟩

/-- Witness for Obligations.MemoryStaysCanonical: a step that stores. -/
theorem witness_MemoryStaysCanonical :
    ∃ s t : State, Memory.wf s.mem = true ∧ step s = .next t ∧ t.mem ≠ s.mem := by
  obtain ⟨t, h, hp⟩ := ends_next (o := step (queued [.rmtCopyDone false 3])) (p := fun t => decide (t.mem ≠ copying.mem)) (by decide +kernel)
  exact ⟨_, t, by decide +kernel, h, of_decide_eq_true hp⟩

/-- Witness for Obligations.QueueBelongsToStep and for every clause of Obligations.UnitFrames and the first of
Obligations.RegistersLeftAlone: two commands that go on, of none of the units' lists. -/
theorem witness_UnitFrames :
    (∃ (c : Instr) (s t : State), s.pending ≠ [] ∧ exec c s = .next t ∧ reachesAll c = false ∧ storesMemory c = false ∧ changesKeys c = false ∧
      changesControlStore c = false ∧ changesChip c = false ∧ changesMctp c = false ∧ (∀ a, c ≠ .setFeaturesModeProfile a) ∧ t.evr ≠ s.evr) ∧
    (∃ (c : Instr) (s t : State), exec c s = .next t ∧ writesNoRegister c = true ∧ t.evr ≠ s.evr) := by
  constructor
  · obtain ⟨t, h, hp⟩ := ends_next (o := exec .evrRecordWrite { offered with pending := [.commutation] }) (p := fun t => decide (t.evr ≠ offered.evr)) (by decide +kernel)
    exact ⟨_, _, t, by simp, h, rfl, rfl, rfl, rfl, rfl, rfl, fun a => by simp, of_decide_eq_true hp⟩
  · obtain ⟨t, h, hp⟩ := ends_next (o := exec (.evrPost (.core 3) 0x00120001#32) (at_ [(Reg.EVR_LINE_n_EN 0x40, 1), (Reg.EVR_LINE_n_MINSEV 0x40, 0)]))
      (p := fun t => decide (t.evr.queue.length = 1)) (by decide +kernel)
    refine ⟨_, _, t, h, rfl, fun he => ?_⟩
    have hp := of_decide_eq_true hp
    rw [he] at hp
    exact absurd hp (by decide +kernel)

/-- Witness for the other clauses of Obligations.RegistersLeftAlone: each command goes on. -/
theorem witness_RegistersLeftAlone :
    ∃ s : State,
      [Instr.smcSetptWrite (.core 0) 7000#32, .captureArm (.core 0) 1, .evrListWrite (.core 0) 3 7 0x40000000#32, .evrCtrlClear (.core 0) 1#32,
        .evrCtrlUnfreeze (.core 0) 2#32, .diodeConversion 2 (some 300), .dramRefresh 1 90, .fmrArm (.core 0) 1#32, .rmtEntryWrite (.core 0) true 4 5#32,
        .gpioInputChange 3 true 64, .miTunnelledAdmin (sqe 0x06 0 [1]), .pmuPstateReqWrite (.core 0) 1#32, .svdPosRead (.core 0) 2,
        .hqeArrivalRead (.core 0)].all (fun c => ends (exec c s) (fun _ => true)) = true :=
  ⟨offered, by decide +kernel⟩

/-! ### Operands outside their fields are refused -/

/-- The commands of a list, none of them well formed. -/
def refused (l : List Instr) : Bool := l.all (fun c => ! c.wf)

/-- The supplies and the clock: 4 subchannels train. -/
theorem test_wf_startUp : refused [.powerOnReset ⟨16, true, 12000, []⟩ true, .chipResetPin ⟨16, true, 12000, []⟩ 0, .referenceClockRestore ⟨16, true, 12000, []⟩] = true := by
  decide

/-- Register accesses: an address of 32 bits, aligned but for MISALIGNED_ACCESS. -/
theorem test_wf_registers :
    refused [.registerWrite .jtag (2 ^ 32) 0, .registerWrite .jtag 0x40000002 0, .misalignedAccess .jtag (2 ^ 32 + 1) 4 true 0,
      .misalignedAccess .jtag 0x40000000 4 true 0, .misalignedAccess .jtag 1 0 true 0, .misalignedAccess .jtag 1 9 true 0,
      .misalignedAccess .jtag 1 1 true 256, .unassignedAccess .jtag (2 ^ 32) true, .unassignedAccess .jtag 1 true, .blockBasicWrite .jtag (2 ^ 32) 0,
      .blockBasicWrite .jtag 1 0, .blockBasicKeepWrite .jtag (2 ^ 32) 0, .blockBasicKeepWrite .jtag 2 0, .expertRegisterWrite .jtag (2 ^ 32) 0,
      .expertRegisterWrite .jtag 3 0, .lockSet .jtag (2 ^ 32) 0, .lockSet .jtag 1 0, .counterClear .jtag (2 ^ 32) 0, .counterClear .jtag 1 0,
      .atbOffsetTableWrite .jtag (2 ^ 32) 0, .atbOffsetTableWrite .jtag 2 0, .scePairRegisterWrite .jtag (2 ^ 32) 0,
      .scePairRegisterWrite .jtag 1 0] = true := by
  decide

/-- Angle time base and triggers: 40 heads, cylinders of 24 bits, 1,024 piers, 64 or 32 slots; 32 pins. -/
theorem test_wf_angle :
    refused [.pierDetection 0 0 none 40 0, .pierDetection 0 0 none 0 (2 ^ 24), .pierDetection 0 0 (some 1024) 0 0, .triggerCtrlWrite .jtag 3 64 0,
      .triggerCtrlWrite .jtag 4 32 0, .triggerAngleWrite .jtag 0 64 0, .triggerAngleWrite .jtag 4 32 0, .triggerFire 2 64, .triggerFire 4 32,
      .gpioPulseEnd 32, .samDetect 0 0 0 (2 ^ 15) 0 0 0, .samDetect 0 0 0 0 (-2 ^ 15) 0 0, .evrMirrorCopy 1024 []] = true := by
  decide

/-- A descriptor with a field that does not fit. -/
def wide : OpDesc := { rdOp with buf := 2 ^ 16 }

/-- Queues, messages and the controllers' registers. -/
theorem test_wf_host :
    refused [.sqTailDoorbell 0 (2 ^ 18) .read, .sqTailDoorbell 0 0x1000 (.write (2 ^ 32)), .cqHeadDoorbell 0 (2 ^ 18) .read,
      .cqHeadDoorbell 0 0x1004 (.write (2 ^ 32)), .pcieErrorLogged 0 0 (2 ^ 128) none, .pcieConfigWrite 0 (.read 2), .pcieConfigWrite 0 (.read 4096),
      .pcieConfigWrite 0 (.device 8 0), .pcieConfigWrite 0 (.device 0 8),
      .commandFetch 0 (2 ^ 16) (sqe 0 0 []), .commandFetch 0 0 (sqe 256 0 []), .commandFetch 0 0 ⟨0, 2 ^ 16, 0, 0, 0, 0, 0, 0, 0⟩,
      .commandFetch 0 0 (sqe 0 (2 ^ 32) []), .msixUnmask 0 (2 ^ 18) .read, .msixUnmask 0 0x2000 (.write (2 ^ 32)), .coalesceTimerExpiry 0 2048, .ccEnable 0 8 0 0 6 4 15 15 0 0,
      .ccEnable 0 6 16 0 6 4 15 15 0 0, .ccEnable 0 6 0 8 6 4 15 15 0 0, .ccEnable 0 6 0 0 16 4 15 15 0 0, .ccEnable 0 6 0 0 6 16 15 15 0 0,
      .ccEnable 0 6 0 0 6 4 4096 15 0 0, .ccEnable 0 6 0 0 6 4 15 4096 0 0, .ccEnable 0 6 0 0 6 4 15 15 4095 0, .ccEnable 0 6 0 0 6 4 15 15 0 (2 ^ 64),
      .pcieLinkChange 0 3 4 4 false false, .pcieLinkChange 0 1 0 4 false false, .pcieLinkChange 0 1 6 4 false false,
      .pcieLinkChange 0 1 4 3 false false, .miTunnelledAdmin (sqe 256 0 [])] = true := by
  decide +kernel

/-- Data of the admin commands: lengths and fields. -/
theorem test_wf_admin :
    refused [.setFeatures 5 (List.replicate 17 0), .namespaceCreate 5 [(4096, 1#8)],
      .namespaceAttach 5 [2 ^ 16], .namespaceAttach 5 (List.replicate 2048 0), .namespaceDetach 5 [2 ^ 16], .namespaceDetach 5 (List.replicate 2048 0),
      .ownershipClaim 5 [], .ownershipHandover 5 [], .ownershipAccept 5 [], .ownershipRelease 5 [], .captureRead 5 [⟨2 ^ 64, 1, 0, .clean⟩],
      .captureRead 5 [⟨0, 256, 0, .clean⟩], .otpProgramConfigRecord 5 [] true,
      .otpProgramDpiKey 5 [] true, .evrWriteList 5 [], .evrPostMarker 5 [], .dpiLoad 5 { dpi with keyHash := [] } true true] = true := by
  decide +kernel

/-- Images longer than the field of their length can say. -/
theorem test_wf_images :
    (Instr.firmwareImageDownload 5 (List.replicate (2 ^ 34) 0#8)).wf = false ∧
      (Instr.customerMicrocodeLoad 5 ⟨List.replicate (2 ^ 32) 0#8⟩ [] true).wf = false := by
  simp only [Instr.wf, List.length_replicate]
  decide

/-- Power: 6 rails, diodes in steps of 0.25 degrees. -/
theorem test_wf_power :
    refused [.pmuTick [] none none none none none none 0 0, .pmuTick (List.replicate 6 (0, 0)) (some 1) none none none none none 0 0] = true := by
  decide

/-- I/O commands and media operations. -/
theorem test_wf_io :
    refused [.dataStored 5 [⟨0, wide, 0, 1⟩], .write 5 (some [[]]) [] [], .write 5 none [] [⟨0, 256, 0, .clean⟩], .read 5 [⟨0, wide, 0, 1⟩] [] [],
      .read 5 [] [(0, 0, [])] [], .read 5 [] [] [⟨0, 256, 0, .clean⟩], .zoneAppend 5 (some [[]]) [] [],
      .zoneAppend 5 none [] [⟨0, 256, 0, .clean⟩], .reservationRegister 5 (2 ^ 64) 0, .reservationRegister 5 0 (2 ^ 64), .reservationAcquire 5 (2 ^ 64) 0,
      .reservationAcquire 5 0 (2 ^ 64), .reservationRelease 5 (2 ^ 64), .operationOutcome 0 [⟨0, wide, 0, 1⟩] true, .recordPersist [⟨0, wide, 0, 1⟩], .evrMirrorCopy 0 [⟨0, wide, 0, 1⟩],
      .idleSeal 0 0, .idleSeal 65 0,
      .idleSeal 1 (2 ^ 20), .backgroundScanPost 0 wide none, .backgroundScanPost 0 { rdOp with slot := 2 ^ 16 } none,
      .backgroundScanPost 0 { rdOp with head := 256 } none, .backgroundScanPost 0 { rdOp with cyl := 2 ^ 32 } none, .cacheDestagePost 0 wide 1 0 1,
      .cacheDestagePost 0 rdOp 0 0 1, .cacheDestagePost 0 rdOp 65 0 1] = true := by
  decide +kernel

/-- Chain frames, BAR2 and the management endpoint. -/
theorem test_wf_chain :
    refused [.enumFrame true (frame 0 2 []), .enumEndFrame true (frame 0 1 []), .probeFrame true (frame 0 1 []), .echoFrame true (frame 0 1 []),
      .timeFrame true (frame 0 1 []), .attachFrame true (frame 0 1 []), .detachFrame true (frame 0 1 []), .regReadFrame true (frame 0 1 []),
      .regWriteFrame true (frame 0 1 []), .ownFrame true (frame 0 1 []), .responseFrame true (frame 0 1 []), .enumFrame true (frame 256 1 []),
      .enumFrame true { frame 0 1 [] with src := 256 }, .enumFrame true { frame 0 1 [] with ty := 256 }, .enumFrame true { frame 0 1 [] with flags := 256 },
      .enumFrame true { frame 0 1 [] with tag := 2 ^ 16 }, .enumFrame true { frame 0 1 [] with len := 2 ^ 16 },
      .enumFrame true { frame 0 1 [] with crc := 2 ^ 32 }, .bar2OwnAction 0 (2 ^ 16) .read, .bar2OwnAction 0 0 (.write (2 ^ 32)),
      .miReadDataStructure 4225, .miConfigurationSet 1 (2 ^ 24), .miVpdRead 4225] = true := by
  decide +kernel

/-- The same commands with operands at the ends of their ranges are well formed. -/
theorem test_wf_accepts :
    ([.registerWrite .jtag 0xFFFFFFFC 0, .misalignedAccess .jtag 0xFFFFFFFF 4 true 0, .pierDetection 0 0 (some 1023) 39 (2 ^ 24 - 1),
      .triggerFire 3 63, .triggerFire 4 31, .gpioPulseEnd 31, .msixUnmask 0 (2 ^ 18 - 4) (.write 1), .ccEnable 0 7 15 7 15 15 4095 4095 (2 ^ 64 - 4096) 0,
      .pcieLinkChange 0 2 5 4 true true, .setFeatures 5 (List.replicate 16 0), .firmwareCommitStore 5 true, .otpProgramConfigRecord 5 crecData.reverse true,
      .ownershipClaim 5 (ownData 1 0 7), .idleSeal 64 (2 ^ 20 - 1), .backgroundScanPost 0 rdOp none, .enumFrame true (frame 255 1 []),
      .enumFrame true (frame 255 0x20 []), .evrMirrorCopy 1023 [], .sysRstChip .jtag 0, .jtagBypass] : List Instr).map (fun c => c.wf) =
      [true, true, true, true, true, true, true, true, true, true, true, false, true, true, true, true, true, true, true, true] := by
  decide +kernel

/-! ### Words and reset -/

/-- The table gives no bits, so no word spells a command. -/
theorem test_decodeTableWord : decodeTableWord 32 0x12345678 = none := rfl

/-- A word in front of the queue leaves the queue. -/
theorem test_withFetchWord : (run.withFetchWord 32 7).pending = [] := by decide +kernel

/-- A command in front of the queue runs, and the rest waits. -/
theorem test_step_takes_front :
    ends (step { run with pending := [.atbCtrlAcq (.core 0), .evrRecordWrite] }) (fun t => decide (t.atbState = 1 ∧ t.pending = [.evrRecordWrite])) = true := by
  decide +kernel

end Sys2Proof.Tests
end

section
/-!
PROOF. Queue creation and deletion, Abort and Asynchronous Event Request (R94, R118, R138, R140): first what the ending of a
command leaves alone, then what each of the six commands comes down to, then O18.
-/
namespace Sys2Proof.Machine

/-! ### A controller after a change -/

@[simp] theorem Duo.get_modify_same {α : Type} (q : Duo α) (m : Fin 2) (f : α → α) : (q.modify m f).get m = f (q.get m) := by
  fin_cases m <;> rfl

theorem Duo.get_modify_ne {α : Type} (q : Duo α) {m n : Fin 2} (h : n ≠ m) (f : α → α) : (q.modify m f).get n = q.get n := by
  match m, n with
  | 0, 0 | 1, 1 => exact absurd rfl h
  | 0, 1 | 1, 0 => rfl

@[simp] theorem State.ctrl_modCtrl_same (s : State) (m : Fin 2) (f : Ctrl → Ctrl) : (s.modCtrl m f).ctrl m = f (s.ctrl m) :=
  Duo.get_modify_same s.host.ctrls m f

theorem State.ctrl_modCtrl_ne (s : State) {m n : Fin 2} (h : m ≠ n) (f : Ctrl → Ctrl) : (s.modCtrl n f).ctrl m = s.ctrl m :=
  Duo.get_modify_ne s.host.ctrls h f

theorem State.logError_eq (s : State) (m : Fin 2) (e : ErrInfo) :
    s.logError m e = s.modCtrl m (fun c => { c with errLog := (e :: c.errLog).take 64 }) := rfl

@[simp] theorem State.ctrl_settle (s : State) (m : Fin 2) : s.settle.ctrl m = s.ctrl m := by
  unfold State.ctrl
  rw [State.settle_host]

@[simp] theorem State.dw0Of_settle (s : State) (a : Nat) : s.settle.dw0Of a = s.dw0Of a := by
  unfold State.dw0Of
  rw [State.ctx_settle]

/-! ### What the ending of a command leaves alone (R132, R153) -/

/-- An observation of the state that none of the updates changes by which the outcome of command `a` is fixed. -/
structure KeptByEnding {α : Type} (a : Nat) (p : State → α) : Prop where
  modCtx : ∀ (s : State) (f : Ctx → Ctx), (∀ c, (f c).arr = c.arr) → p (s.modCtx a f) = p s
  refreshRlt : ∀ s : State, p s.refreshRlt = p s
  logError : ∀ (s : State) (m : Fin 2) (e : ErrInfo), p (s.logError m e) = p s

namespace KeptByEnding

variable {α : Type} {a : Nat} {p : State → α}

theorem releaseLocks (h : KeptByEnding a p) (s : State) : p (s.releaseLocks a) = p s :=
  (h.refreshRlt _).trans (h.modCtx s _ fun _ => rfl)

theorem finishNs (h : KeptByEnding a p) (s : State) (st : Status) (dw0 dw1 nsid lba vendor : Nat) :
    p (s.finishNs a st dw0 dw1 nsid lba vendor) = p s := by
  unfold State.finishNs
  split
  · rfl
  · dsimp only
    generalize (if s.recov.stopped = true then St.internalError else st) = fixed
    split_ifs
    · rfl
    · exact (h.logError ..).trans (h.modCtx _ _ fun _ => rfl)
    · exact (h.logError ..).trans ((h.releaseLocks _).trans (h.modCtx _ _ fun _ => rfl))
    · exact h.modCtx _ _ fun _ => rfl
    · exact (h.releaseLocks _).trans (h.modCtx _ _ fun _ => rfl)

theorem endWith (h : KeptByEnding a p) (s : State) (st : Status) : p (s.endWith a st) = p s := h.finishNs ..

theorem endOk (h : KeptByEnding a p) (s : State) (dw0 : Nat) : p (s.endOk a dw0) = p s := h.finishNs ..

end KeptByEnding

theorem State.refreshRlt_host (s : State) : s.refreshRlt.host = s.host :=
  (State.fput_host _ _ _).trans (State.fput_host _ _ _)

theorem State.refreshRlt_recov (s : State) : s.refreshRlt.recov = s.recov :=
  (State.fput_recov _ _ _).trans (State.fput_recov _ _ _)

theorem keptByEnding_sqs (a : Nat) : KeptByEnding a (fun s => s.host.sqs) :=
  ⟨fun _ _ _ => rfl, fun s => congrArg HostSt.sqs s.refreshRlt_host, fun _ _ _ => rfl⟩

theorem keptByEnding_cqs (a : Nat) : KeptByEnding a (fun s => s.host.cqs) :=
  ⟨fun _ _ _ => rfl, fun s => congrArg HostSt.cqs s.refreshRlt_host, fun _ _ _ => rfl⟩

theorem keptByEnding_recov (a : Nat) : KeptByEnding a (fun s => s.recov) :=
  ⟨fun _ _ _ => rfl, State.refreshRlt_recov, fun _ _ _ => rfl⟩

theorem keptByEnding_ctx {a b : Nat} (h : b ≠ a) : KeptByEnding a (fun s => s.ctx b) :=
  ⟨fun _ f hf => State.ctx_modCtx_ne f hf h, fun s => s.ctx_refreshRlt b, fun s m e => s.ctx_logError m e b⟩

/-- An Error Information log entry leaves the events that wait. -/
theorem keptByEnding_events (a : Nat) (m : Fin 2) : KeptByEnding a (fun s => (s.ctrl m).events) where
  modCtx _ _ _ := rfl
  refreshRlt s := by rw [State.ctrl, State.refreshRlt_host, State.ctrl]
  logError s n e := by
    by_cases hn : m = n
    · rw [State.logError_eq, hn, State.ctrl_modCtrl_same]
    · rw [State.logError_eq, State.ctrl_modCtrl_ne s hn]

theorem State.endOk_dw0Of {s : State} {a : Nat} {c : Ctx} (dw0 : Nat) (h : s.ctx a = some c) (hs : c.status = none) :
    (s.endOk a dw0).dw0Of a = some dw0 := by
  have key : ∀ n, (s.finishNs a St.success dw0 0 n 0 0).dw0Of a = some dw0 := by
    intro n
    obtain ⟨c', hc, -, hdw, -⟩ := State.finishNs_ctx St.success dw0 0 n 0 0 h hs
    simp [State.dw0Of, hc, hdw]
  exact key _

/-! ### What an early end leaves alone (R140, R142) -/

@[simp] theorem State.outcome_host (s : State) (r : OutcomeRec) : (s.outcome r).host = s.host := rfl

@[simp] theorem State.outcome_recov (s : State) (r : OutcomeRec) : (s.outcome r).recov = s.recov := rfl

@[simp] theorem State.clearStepOffset_host (s : State) (n : Fin 4) (d : OpDesc) : (s.clearStepOffset n d).host = s.host := by
  unfold State.clearStepOffset
  split
  · exact State.fput_host _ _ _
  · rfl

@[simp] theorem State.clearStepOffset_recov (s : State) (n : Fin 4) (d : OpDesc) : (s.clearStepOffset n d).recov = s.recov := by
  unfold State.clearStepOffset
  split
  · exact State.fput_recov _ _ _
  · rfl

@[simp] theorem State.refreshUsed_host (s : State) (n : Fin 4) : (s.refreshUsed n).host = s.host :=
  (State.fput_host _ _ _).trans (State.fput_host _ _ _)

@[simp] theorem State.refreshUsed_recov (s : State) (n : Fin 4) : (s.refreshUsed n).recov = s.recov :=
  (State.fput_recov _ _ _).trans (State.fput_recov _ _ _)

@[simp] theorem State.refreshAllUsed_host (s : State) : s.refreshAllUsed.host = s.host := by
  simp [State.refreshAllUsed, lanes]

@[simp] theorem State.refreshAllUsed_recov (s : State) : s.refreshAllUsed.recov = s.recov := by
  simp [State.refreshAllUsed, lanes]

/-- Media operations withdrawn change neither the host side nor the recovery state. -/
theorem State.withdrawWhere_host_recov (s : State) (sel : PostedOp → Bool) :
    (s.withdrawWhere sel).host = s.host ∧ (s.withdrawWhere sel).recov = s.recov := by
  simp only [State.withdrawWhere, State.refreshAllUsed_host, State.refreshAllUsed_recov]
  refine List.foldlRecOn (motive := fun t : State => t.host = s.host ∧ t.recov = s.recov) _ _ ⟨rfl, rfl⟩ ?_
  intro t ht o _
  simpa using ht

@[simp] theorem State.letGo_host (s : State) (x : Ctx) : (s.letGo x).host = s.host := by
  unfold State.letGo
  split
  · rfl
  · exact (s.withdrawWhere_host_recov _).1

@[simp] theorem State.letGo_stopped (s : State) (x : Ctx) : (s.letGo x).recov.stopped = s.recov.stopped := by
  unfold State.letGo
  split
  · rfl
  · exact congrArg RecSt.stopped (s.withdrawWhere_host_recov _).2

theorem State.endEarly_sqs (s : State) (x : Ctx) (st : Status) : (s.endEarly x st).host.sqs = s.host.sqs := by
  rw [State.endEarly, (keptByEnding_sqs x.arr).endWith, State.letGo_host]

theorem State.endEarly_stopped (s : State) (x : Ctx) (st : Status) : (s.endEarly x st).recov.stopped = s.recov.stopped := by
  rw [State.endEarly, (keptByEnding_recov x.arr).endWith, State.letGo_stopped]

theorem State.endEarly_ctx_ne (s : State) {x : Ctx} {a : Nat} (h : a ≠ x.arr) (st : Status) : (s.endEarly x st).ctx a = s.ctx a :=
  ((keptByEnding_ctx h).endWith _ st).trans (State.ctx_congr (by rw [State.letGo_host]) a)

theorem State.foldEndEarly_keeps {α : Type} (p : State → α) (st : Status) (l : List Ctx)
    (h : ∀ s : State, ∀ x ∈ l, p (s.endEarly x st) = p s) (s : State) : p (l.foldl (fun s x => s.endEarly x st) s) = p s :=
  List.foldlRecOn (motive := fun t => p t = p s) l _ rfl fun t ht x hx => (h t x hx).trans ht

/-! ### Fetch counters refreshed -/

/-- A stall that is entered is counted and offered, which changes nothing on the host side. -/
theorem State.host_stallNoted (s : State) (entered : Prop) [Decidable entered] (a : Nat) :
    (if entered then (s.bump a).note a .trace else s).host = s.host := by
  split
  · exact (State.note_host _ _ _).trans (State.bump_host _ _)
  · rfl

/-- On the host side a refresh changes only whether fetching stalls. -/
theorem State.refreshFetch_keeps {α : Type} (p : HostSt → α) (hp : ∀ h i j, p { h with stallCtx := i, stallCq := j } = p h)
    (s : State) : p s.refreshFetch.host = p s.host := by
  have hcount : ∀ v w, ((s.fput Reg.HQE_CTX_FREE_COUNT v).fput Reg.HQE_CTX_LOW_COUNT w).host = s.host := fun _ _ =>
    (State.fput_host _ _ _).trans (State.fput_host _ _ _)
  unfold State.refreshFetch
  dsimp only
  rw [State.host_stallNoted, State.host_stallNoted]
  exact (hp _ _ _).trans (congrArg p (hcount _ _))

@[simp] theorem State.refreshFetch_sqs (s : State) : s.refreshFetch.host.sqs = s.host.sqs :=
  State.refreshFetch_keeps HostSt.sqs (fun _ _ _ => rfl) s

@[simp] theorem State.refreshFetch_ctxs (s : State) : s.refreshFetch.host.ctxs = s.host.ctxs :=
  State.refreshFetch_keeps HostSt.ctxs (fun _ _ _ => rfl) s

@[simp] theorem State.statusOf_refreshFetch (s : State) (a : Nat) : s.refreshFetch.statusOf a = s.statusOf a := by
  unfold State.statusOf
  rw [State.ctx_congr s.refreshFetch_ctxs]

/-! ### A command that may be executed -/

/-- The check of a queue identifier passes when it names an I/O queue that is there. -/
theorem not_adminQueue_or_isNone {β : Type} {qid : Nat} {q : Option β} (h0 : qid ≠ 0) (hq : q.isSome = true) :
    ¬ (qid = 0 ∨ q.isNone = true) := by
  simp [h0, Option.isSome_iff_ne_none.mp hq]

theorem Ctx.status_none_of_ready {c : Ctx} (h : c.ready = true) : c.status = none := by
  simp only [Ctx.ready, Bool.and_eq_true, Option.isNone_iff_eq_none] at h
  exact h.2

theorem Ctx.adm_sqid {c : Ctx} {opc : Nat} (h : c.adm opc = true) : c.sqid = 0 := by
  simp only [Ctx.adm, Ctx.isAdmin, Bool.and_eq_true, decide_eq_true_eq] at h
  exact h.1

namespace State.mayExecute

variable {s : State} {a : Nat} {c : Ctx}

theorem held (h : s.mayExecute a c) : s.boot.held = .off := by
  obtain ⟨hheld, -⟩ := h
  exact hheld

theorem stopped (h : s.mayExecute a c) : s.recov.stopped = false := by
  obtain ⟨-, hstop, -⟩ := h
  exact hstop

theorem ctx (h : s.mayExecute a c) : s.ctx a = some c := by
  obtain ⟨-, -, hctx, -⟩ := h
  exact hctx

theorem status_none (h : s.mayExecute a c) : c.status = none := by
  obtain ⟨-, -, -, hready, -⟩ := h
  exact Ctx.status_none_of_ready hready

theorem eq_of_arr (h : s.mayExecute a c) {x : Ctx} (hx : x ∈ s.host.ctxs) (ha : x.arr = a) : x = c := by
  obtain ⟨-, -, -, -, -, huniq, -⟩ := h
  exact huniq x hx ha

/-- The effect of an admin command takes place. -/
theorem adm_eq (h : s.mayExecute a c) {opc : Nat} (ho : c.adm opc = true) (f : Ctx → State) : s.adm opc a f = f c := by
  obtain ⟨-, -, hctx, hready, hnew, -⟩ := h
  simp [State.adm, hctx, ho, hready, hnew]

/-- The command ends with success in any state that has its context as it is, outside Fault Stop. -/
theorem endOk_statusOf (h : s.mayExecute a c) {u : State} {dw0 : Nat} (hc : u.ctx a = s.ctx a)
    (hr : u.recov.stopped = s.recov.stopped) : (u.endOk a dw0).statusOf a = some St.success :=
  State.endOk_statusOf dw0 (hc.trans h.ctx) h.status_none (hr.trans h.stopped)

theorem endOk_dw0Of (h : s.mayExecute a c) {u : State} {dw0 : Nat} (hc : u.ctx a = s.ctx a) :
    (u.endOk a dw0).dw0Of a = some dw0 :=
  State.endOk_dw0Of dw0 (hc.trans h.ctx) h.status_none

/-! ### Create I/O Submission Queue (R94) -/

section

variable (h : s.mayExecute a c) (ho : c.adm 0x01 = true)
  (hq : s.queueCheck c false (s.sq c.ctrl (wordBits c.sqe.cdw10 15 0)).isSome = none)
  (h0 : wordBits c.sqe.cdw11 31 16 ≠ 0) (hcq : (s.cq c.ctrl (wordBits c.sqe.cdw11 31 16)).isSome = true)

include h ho hq h0 hcq

theorem createSq_endOk :
    s.createSq a = (s.modHost (fun x => { x with sqs := x.sqs ++ [⟨c.ctrl, wordBits c.sqe.cdw10 15 0,
      wordBits c.sqe.cdw10 31 16 + 1, 0, 0, wordBits c.sqe.cdw11 31 16, wordBits c.sqe.cdw11 2 1⟩] })).endOk a 0 := by
  rw [State.createSq, h.adm_eq ho]
  simp only [hq, if_neg (not_adminQueue_or_isNone h0 hcq)]

theorem createSq_success :
    ∃ t, exec (.createIoSq a) s = .next t ∧ t.statusOf a = some St.success ∧
      ⟨c.ctrl, wordBits c.sqe.cdw10 15 0, wordBits c.sqe.cdw10 31 16 + 1, 0, 0, wordBits c.sqe.cdw11 31 16,
        wordBits c.sqe.cdw11 2 1⟩ ∈ t.host.sqs := by
  refine ⟨_, exec_createIoSq s a h.held, ?_, ?_⟩
  · rw [State.statusOf_settle, h.createSq_endOk ho hq h0 hcq]
    exact h.endOk_statusOf rfl rfl
  · rw [State.settle_host, h.createSq_endOk ho hq h0 hcq, (keptByEnding_sqs a).endOk]
    exact List.mem_append_right _ (List.mem_singleton_self _)

end

theorem createSq_refused (h : s.mayExecute a c) (ho : c.adm 0x01 = true) {st : Status}
    (hq : s.queueCheck c false (s.sq c.ctrl (wordBits c.sqe.cdw10 15 0)).isSome = some st) : s.createSq a = s.endWith a st := by
  rw [State.createSq, h.adm_eq ho]
  simp only [hq]

theorem createSq_check (h : s.mayExecute a c) (ho : c.adm 0x01 = true) {st : Status}
    (hq : s.queueCheck c false (s.sq c.ctrl (wordBits c.sqe.cdw10 15 0)).isSome = some st) :
    ∃ t, exec (.createIoSq a) s = .next t ∧ t.statusOf a = some st ∧ t.host.sqs = s.host.sqs := by
  refine ⟨_, exec_createIoSq s a h.held, ?_, ?_⟩
  · rw [State.statusOf_settle, h.createSq_refused ho hq, State.endWith_statusOf st h.ctx h.status_none h.stopped]
  · rw [State.settle_host, h.createSq_refused ho hq, (keptByEnding_sqs a).endWith]

/-! ### Create I/O Completion Queue (R94) -/

section

variable (h : s.mayExecute a c) (ho : c.adm 0x05 = true)
  (hq : s.queueCheck c true (s.cq c.ctrl (wordBits c.sqe.cdw10 15 0)).isSome = none)
  (hv : wordBits c.sqe.cdw11 31 16 < s.vectors)

include h ho hq hv

theorem createCq_endOk :
    s.createCq a = (s.modHost (fun x => { x with cqs := x.cqs ++ [⟨c.ctrl, wordBits c.sqe.cdw10 15 0,
      wordBits c.sqe.cdw10 31 16 + 1, 0, 0, true, wordBits c.sqe.cdw11 31 16, c.sqe.cdw11.getLsbD 1⟩] })).endOk a 0 := by
  rw [State.createCq, h.adm_eq ho]
  simp only [hq, if_neg (Nat.not_le.mpr hv)]

theorem createCq_success :
    ∃ t, exec (.createIoCq a) s = .next t ∧ t.statusOf a = some St.success ∧
      ⟨c.ctrl, wordBits c.sqe.cdw10 15 0, wordBits c.sqe.cdw10 31 16 + 1, 0, 0, true, wordBits c.sqe.cdw11 31 16,
        c.sqe.cdw11.getLsbD 1⟩ ∈ t.host.cqs := by
  refine ⟨_, exec_createIoCq s a h.held, ?_, ?_⟩
  · rw [State.statusOf_settle, h.createCq_endOk ho hq hv]
    exact h.endOk_statusOf rfl rfl
  · rw [State.settle_host, h.createCq_endOk ho hq hv, (keptByEnding_cqs a).endOk]
    exact List.mem_append_right _ (List.mem_singleton_self _)

end

end State.mayExecute

/-! ### Delete I/O Submission Queue (R140) -/

/-- The state without a submission queue. -/
def State.withoutSq (s : State) (m : Fin 2) (qid : Nat) : State :=
  s.modHost (fun h => { h with sqs := h.sqs.filter (fun q => ! (decide (q.ctrl = m) && decide (q.qid = qid))) })

/-- The state without a completion queue. -/
def State.withoutCq (s : State) (m : Fin 2) (qid : Nat) : State :=
  s.modHost (fun h => { h with cqs := h.cqs.filter (fun q => ! (decide (q.ctrl = m) && decide (q.qid = qid))) })

/-- The commands of a submission queue that its deletion ends. -/
def State.sqUncommitted (s : State) (m : Fin 2) (qid : Nat) : List Ctx :=
  s.host.ctxs.filter (fun x => decide (x.ctrl = m) && decide (x.sqid = qid) && ! s.pastCommit x)

/-- A queue deleted, the uncommitted commands of it ended (R140 steps 1 to 3). -/
def State.sqGone (s : State) (m : Fin 2) (qid : Nat) : State :=
  (s.sqUncommitted m qid).foldl (fun s x => s.endEarly x St.sqDeleted) (s.withoutSq m qid)

theorem State.sq_withoutSq (s : State) (m : Fin 2) (qid : Nat) : (s.withoutSq m qid).sq m qid = none := by
  simp only [State.sq, State.withoutSq, State.modHost, List.find?_eq_none, List.mem_filter]
  rintro q ⟨-, hq⟩
  simpa [imp_iff_not_or] using hq

theorem State.cq_withoutCq (s : State) (m : Fin 2) (qid : Nat) : (s.withoutCq m qid).cq m qid = none := by
  simp only [State.cq, State.withoutCq, State.modHost, List.find?_eq_none, List.mem_filter]
  rintro q ⟨-, hq⟩
  simpa [imp_iff_not_or] using hq

theorem State.sq_congr {s t : State} (h : t.host.sqs = s.host.sqs) (m : Fin 2) (qid : Nat) : t.sq m qid = s.sq m qid := by
  unfold State.sq
  rw [h]

theorem State.cq_congr {s t : State} (h : t.host.cqs = s.host.cqs) (m : Fin 2) (qid : Nat) : t.cq m qid = s.cq m qid := by
  unfold State.cq
  rw [h]

theorem State.sqGone_sqs (s : State) (m : Fin 2) (qid : Nat) : (s.sqGone m qid).host.sqs = (s.withoutSq m qid).host.sqs :=
  State.foldEndEarly_keeps (fun s => s.host.sqs) _ _ (fun s x _ => s.endEarly_sqs x _) _

theorem State.sqGone_stopped (s : State) (m : Fin 2) (qid : Nat) : (s.sqGone m qid).recov.stopped = s.recov.stopped :=
  State.foldEndEarly_keeps (fun s => s.recov.stopped) _ _ (fun s x _ => s.endEarly_stopped x _) _

namespace State.mayExecute

variable {s : State} {a : Nat} {c : Ctx}

/-- An admin command is none of the commands of an I/O queue, so a deletion does not end it. -/
theorem arr_ne_of_sqUncommitted (h : s.mayExecute a c) (hc : c.sqid = 0) {m : Fin 2} {qid : Nat} (h0 : qid ≠ 0) {x : Ctx}
    (hx : x ∈ s.sqUncommitted m qid) : a ≠ x.arr := by
  intro ha
  simp only [State.sqUncommitted, List.mem_filter, Bool.and_eq_true, decide_eq_true_eq] at hx
  obtain ⟨hmem, ⟨-, hsqid⟩, -⟩ := hx
  rw [h.eq_of_arr hmem ha.symm, hc] at hsqid
  exact h0 hsqid.symm

theorem ctx_sqGone (h : s.mayExecute a c) (hc : c.sqid = 0) {m : Fin 2} {qid : Nat} (h0 : qid ≠ 0) :
    (s.sqGone m qid).ctx a = s.ctx a :=
  State.foldEndEarly_keeps (fun s => s.ctx a) _ _
    (fun s _ hx => s.endEarly_ctx_ne (h.arr_ne_of_sqUncommitted hc h0 hx) _) _

section

variable (h : s.mayExecute a c) (ho : c.adm 0x00 = true) (h0 : wordBits c.sqe.cdw10 15 0 ≠ 0)
  (hsq : (s.sq c.ctrl (wordBits c.sqe.cdw10 15 0)).isSome = true)

include h ho h0 hsq

theorem deleteSq_eq :
    s.deleteSq a = ((s.sqGone c.ctrl (wordBits c.sqe.cdw10 15 0)).endOk a 0).refreshFetch := by
  rw [State.deleteSq, h.adm_eq ho]
  simp only [if_neg (not_adminQueue_or_isNone h0 hsq)]
  rfl

theorem deleteSq_success :
    ∃ t, exec (.deleteIoSq a) s = .next t ∧ t.statusOf a = some St.success ∧
      t.sq c.ctrl (wordBits c.sqe.cdw10 15 0) = none := by
  refine ⟨_, exec_deleteIoSq s a h.held, ?_, ?_⟩
  · rw [State.statusOf_settle, h.deleteSq_eq ho h0 hsq, State.statusOf_refreshFetch]
    exact h.endOk_statusOf (h.ctx_sqGone (Ctx.adm_sqid ho) h0) (s.sqGone_stopped _ _)
  · have hsqs : (s.deleteSq a).settle.host.sqs = (s.withoutSq c.ctrl (wordBits c.sqe.cdw10 15 0)).host.sqs := by
      rw [State.settle_host, h.deleteSq_eq ho h0 hsq, State.refreshFetch_sqs, (keptByEnding_sqs a).endOk, State.sqGone_sqs]
    rw [State.sq_congr hsqs, State.sq_withoutSq]

end

/-! ### Delete I/O Completion Queue (R94) -/

section

variable (h : s.mayExecute a c) (ho : c.adm 0x04 = true) (h0 : wordBits c.sqe.cdw10 15 0 ≠ 0)
  (hcq : (s.cq c.ctrl (wordBits c.sqe.cdw10 15 0)).isSome = true)
  (hs : ∀ q ∈ s.host.sqs, q.ctrl = c.ctrl → q.cqid ≠ wordBits c.sqe.cdw10 15 0)
  (hx : ∀ x ∈ s.host.ctxs, x.ctrl = c.ctrl → x.cqid = wordBits c.sqe.cdw10 15 0 → x.isAdmin = true)

include h ho h0 hcq hs hx

theorem deleteCq_eq :
    s.deleteCq a = (s.withoutCq c.ctrl (wordBits c.sqe.cdw10 15 0)).endOk a 0 := by
  have hfree : ¬ (s.host.sqs.any (fun q => decide (q.ctrl = c.ctrl) && decide (q.cqid = wordBits c.sqe.cdw10 15 0)) = true ∨
      s.host.ctxs.any (fun x => decide (x.ctrl = c.ctrl) && decide (x.cqid = wordBits c.sqe.cdw10 15 0) && ! x.isAdmin) =
        true) := by
    simpa using ⟨hs, hx⟩
  rw [State.deleteCq, h.adm_eq ho]
  simp only [if_neg (not_adminQueue_or_isNone h0 hcq), if_neg hfree]
  rfl

theorem deleteCq_success :
    ∃ t, exec (.deleteIoCq a) s = .next t ∧ t.statusOf a = some St.success ∧
      t.cq c.ctrl (wordBits c.sqe.cdw10 15 0) = none := by
  have heq := h.deleteCq_eq ho h0 hcq hs hx
  refine ⟨_, exec_deleteIoCq s a h.held, ?_, ?_⟩
  · rw [State.statusOf_settle, heq]
    exact h.endOk_statusOf rfl rfl
  · have hcqs : (s.deleteCq a).settle.host.cqs = (s.withoutCq c.ctrl (wordBits c.sqe.cdw10 15 0)).host.cqs := by
      rw [State.settle_host, heq, (keptByEnding_cqs a).endOk]
    rw [State.cq_congr hcqs, State.cq_withoutCq]

end

/-! ### Abort (R138) -/

theorem abortCmd_eq (h : s.mayExecute a c) (ho : c.adm 0x08 = true) : s.abortCmd a = s.endOk a 1 := by
  rw [State.abortCmd, h.adm_eq ho]

/-- Abort answers "command not aborted" and leaves every other command as it was. -/
theorem abort_success (h : s.mayExecute a c) (ho : c.adm 0x08 = true) :
    ∃ t, exec (.abort a) s = .next t ∧ t.statusOf a = some St.success ∧ t.dw0Of a = some 1 ∧
      ∀ x, x ≠ a → t.ctx x = s.ctx x := by
  refine ⟨_, exec_abort s a h.held, ?_, ?_, fun x hx => ?_⟩
  · rw [State.statusOf_settle, h.abortCmd_eq ho]
    exact h.endOk_statusOf rfl rfl
  · rw [State.dw0Of_settle, h.abortCmd_eq ho]
    exact h.endOk_dw0Of rfl
  · rw [State.ctx_settle, h.abortCmd_eq ho, (keptByEnding_ctx hx).endOk]

/-! ### Asynchronous Event Request (R118) -/

theorem eventRequest_endOk (h : s.mayExecute a c) (ho : c.adm 0x0C = true) {dw l : Nat} {rest : List (Nat × Nat)}
    (he : (s.ctrl c.ctrl).events = (dw, l) :: rest) :
    s.eventRequest a = (s.modCtrl c.ctrl (fun k => { k with events := rest })).endOk a dw := by
  rw [State.eventRequest, h.adm_eq ho]
  simp only [he]

theorem eventRequest_waits (h : s.mayExecute a c) (ho : c.adm 0x0C = true) (he : (s.ctrl c.ctrl).events = [])
    (hl : (s.ctrl c.ctrl).aers.length < 8) :
    s.eventRequest a = (s.modCtx a (fun c => { c with started := true })).modCtrl c.ctrl
      (fun k => { k with aers := k.aers ++ [a] }) := by
  rw [State.eventRequest, h.adm_eq ho]
  simp only [he, if_neg (Nat.not_le.mpr hl)]

/-- An event that waits completes the request. -/
theorem eventRequest_success (h : s.mayExecute a c) (ho : c.adm 0x0C = true) {dw l : Nat} {rest : List (Nat × Nat)}
    (he : (s.ctrl c.ctrl).events = (dw, l) :: rest) :
    ∃ t, exec (.asyncEventRequest a) s = .next t ∧ t.statusOf a = some St.success ∧ t.dw0Of a = some dw ∧
      (t.ctrl c.ctrl).events = rest := by
  refine ⟨_, exec_asyncEventRequest s a h.held, ?_, ?_, ?_⟩
  · rw [State.statusOf_settle, h.eventRequest_endOk ho he]
    exact h.endOk_statusOf rfl rfl
  · rw [State.dw0Of_settle, h.eventRequest_endOk ho he]
    exact h.endOk_dw0Of rfl
  · rw [State.ctrl_settle, h.eventRequest_endOk ho he, (keptByEnding_events a c.ctrl).endOk, State.ctrl_modCtrl_same]

/-- With no event waiting the request is outstanding. -/
theorem eventRequest_outstanding (h : s.mayExecute a c) (ho : c.adm 0x0C = true) (he : (s.ctrl c.ctrl).events = [])
    (hl : (s.ctrl c.ctrl).aers.length < 8) :
    ∃ t, exec (.asyncEventRequest a) s = .next t ∧ t.statusOf a = none ∧
      (t.ctrl c.ctrl).aers = (s.ctrl c.ctrl).aers ++ [a] := by
  refine ⟨_, exec_asyncEventRequest s a h.held, ?_, ?_⟩
  · have hctx : (s.eventRequest a).ctx a = some { c with started := true } := by
      rw [h.eventRequest_waits ho he hl]
      exact State.ctx_modCtx_same (fun c => { c with started := true }) (fun _ => rfl) h.ctx
    rw [State.statusOf_settle, State.statusOf, hctx]
    exact h.status_none
  · rw [State.ctrl_settle, h.eventRequest_waits ho he hl, State.ctrl_modCtrl_same]
    rfl

end State.mayExecute

/-- Settles O18: each clause is what its command comes down to (`createSq_endOk`, `deleteSq_eq` and their like), of which the
ending of a command and the numbering of its offers leave the queues, the waiting events and the other contexts alone. -/
theorem queueCommands : Obligations.QueueCommands := by
  unfold Obligations.QueueCommands
  intro s a c h
  exact ⟨h.createSq_success, fun _ ho hq => h.createSq_check ho hq, h.createCq_success, h.deleteSq_success, h.deleteCq_success,
    h.abort_success, fun _ _ _ ho he => h.eventRequest_success ho he, h.eventRequest_outstanding⟩

end Sys2Proof.Machine
end

section
/-!
PROOF. The recorder's queue (R498 to R501): what the lowest severity and the latest SEQ of the queue are, what taking one offer does to
the recorder, what a firmware post offers, then O48.
-/
namespace Sys2Proof.Machine

/-! ### The lowest severity in the queue and its latest SEQ -/

theorem le_foldl_min_code {q : List Offer} {m n : Nat} :
    n ≤ q.foldl (fun m o => min m o.sev.code) m ↔ n ≤ m ∧ ∀ x ∈ q, n ≤ x.sev.code := by
  induction q generalizing m with
  | nil => simp
  | cons o q ih => simp [ih, and_assoc]

theorem foldl_max_seq_le {q : List Offer} {v m n : Nat} :
    q.foldl (fun m o => if o.sev.code = v then max m o.seq else m) m ≤ n ↔ m ≤ n ∧ ∀ x ∈ q, x.sev.code = v → x.seq ≤ n := by
  induction q generalizing m with
  | nil => simp
  | cons o q ih =>
    rw [List.foldl_cons, ih, List.forall_mem_cons, ← and_assoc]
    split
    · next h => simp [h]
    · next h => simp [h]

theorem Sev.code_le (v : Sev) : v.code ≤ 3 := by
  cases v <;> decide

/-- No severity is above Fatal, so the start of the fold does not lower what the queue holds. -/
theorem le_lowestSev_iff {q : List Offer} {v : Sev} : v.code ≤ lowestSev q ↔ ∀ x ∈ q, v.code ≤ x.sev.code := by
  rw [lowestSev, le_foldl_min_code, and_iff_right v.code_le]

theorem lowestSev_eq {q : List Offer} {p : Offer} (hp : p ∈ q) (hmin : ∀ x ∈ q, p.sev.code ≤ x.sev.code) :
    lowestSev q = p.sev.code :=
  Nat.le_antisymm ((le_foldl_min_code.mp le_rfl).2 p hp) (le_lowestSev_iff.mpr hmin)

theorem lastOf_eq {q : List Offer} {p : Offer} (hp : p ∈ q) (hmax : ∀ x ∈ q, x.sev.code = p.sev.code → x.seq ≤ p.seq) :
    lastOf q p.sev.code = p.seq :=
  Nat.le_antisymm (foldl_max_seq_le.mpr ⟨Nat.zero_le _, hmax⟩) ((foldl_max_seq_le.mp le_rfl).2 p hp rfl)

/-! ### Taking one offer (R499 to R501) -/

/-- A frozen recorder records no offer below Fault (R499). -/
theorem State.recorded_of_frozen {s : State} {o : Offer} (hf : s.fbit Reg.EVR_STATUS_FROZEN = true) (hc : o.sev.code < 2) :
    s.recorded o = false := by
  have hsev : o.sev ≠ .fatal := by
    intro h
    rw [h] at hc
    exact absurd hc (by decide)
  simp [State.recorded, hf, hsev, hc]

/-- The offer as it is recorded: with the next SEQ (R500), which the payload of a Fault Stop repeats (R506). -/
def State.numbered (s : State) (o : Offer) : Offer :=
  let num := (s.rd Reg.EVR_BOOT).toNat * 2 ^ 32 + (s.evr.seq + 1) % 2 ^ 32
  { o with
    seq := num
    payload := if o.cls = some .ft ∧ o.payload.length = 13 then o.payload.take 4 ++ leBytes num 8 ++ o.payload.drop 12 else o.payload }

theorem State.enqueueOffer_of_discarded {s : State} {o : Offer} (h : s.recorded o = false) : s.enqueueOffer o = s := by
  simp [State.enqueueOffer, h]

section

variable {s : State} {o : Offer} (hr : s.recorded o = true)

include hr

theorem State.enqueueOffer_evr_of_room (hroom : s.evr.queue.length < 64) :
    (s.enqueueOffer o).evr = { s.evr with seq := s.evr.seq + 1, queue := s.evr.queue ++ [s.numbered o] } := by
  simp [State.enqueueOffer, hr, hroom, State.numbered]

theorem State.enqueueOffer_evr_of_drop (hfull : 64 ≤ s.evr.queue.length) (hlow : o.sev.code ≤ lowestSev s.evr.queue) :
    (s.enqueueOffer o).evr = { s.evr with seq := s.evr.seq + 1, dropped := min (s.evr.dropped + 1) 0xFFFF } := by
  simp [State.enqueueOffer, hr, Nat.not_lt.mpr hfull, Nat.not_lt.mpr hlow]

theorem State.enqueueOffer_evr_of_displace (hfull : 64 ≤ s.evr.queue.length) (hlow : lowestSev s.evr.queue < o.sev.code) :
    (s.enqueueOffer o).evr = { s.evr with
      seq := s.evr.seq + 1
      dropped := min (s.evr.dropped + 1) 0xFFFF
      queue := s.evr.queue.filter (fun x => decide (x.seq ≠ lastOf s.evr.queue (lowestSev s.evr.queue))) ++ [s.numbered o] } := by
  simp only [State.enqueueOffer, hr, not_true_eq_false, if_false, Nat.not_lt.mpr hfull, State.bump_evr, hlow, if_true]
  rfl

/-- A full queue loses one offer, the new one or a queued one, and counts it. -/
theorem State.enqueueOffer_dropq_of_full (hfull : 64 ≤ s.evr.queue.length) :
    ((s.enqueueOffer o).rd Reg.EVR_DROPQ).toNat = min ((s.rd Reg.EVR_DROPQ).toNat + 1) 0xFFFFFFFF := by
  have hregs : (s.enqueueOffer o).rd Reg.EVR_DROPQ = (s.bump Reg.EVR_DROPQ).rd Reg.EVR_DROPQ := by
    simp only [State.enqueueOffer, hr, not_true_eq_false, if_false, if_neg (Nat.not_lt.mpr hfull)]
    split <;> rfl
  rw [hregs]
  exact State.rd_addc_same s _ 1

end

/-! ### A firmware post (R498) -/

/-- With no other offer of the command, settling takes the one it made. -/
theorem State.settle_offer {s : State} (hs : s.evr.staged = []) (line inst cause : Nat) (sev : Sev) (cls : Option ErrClass)
    (pay : List Byte) :
    (s.offer line inst cause sev cls pay).settle = s.enqueueOffer ⟨0, s.stamp, line, inst, cause, sev, cls, pay, s.cycle⟩ := by
  have hback : { s with evr := { s.evr with staged := [] } } = s := by rw [← hs]
  simp only [State.settle, State.offer, hs, List.nil_append, List.reverse_singleton, sortOffers, insertOffer, List.foldl_cons,
    List.foldl_nil, hback]

/-- What a write of POST_CTRL without a class offers, not yet numbered. -/
def State.firmwarePost (s : State) (w : Word) : Offer :=
  ⟨0, s.stamp, 0x40, 0xFFFF, 0xFFFF0000 + wordBits w 31 16, sevOf (wordBits w 1 0), none,
    (List.range 6).flatMap (fun d => leBytes (s.rd (Reg.EVR_POST_Dn d)).toNat 4), s.cycle⟩

theorem State.numbered_firmwarePost (s : State) (w : Word) :
    s.numbered (s.firmwarePost w) =
      { s.firmwarePost w with seq := (s.rd Reg.EVR_BOOT).toNat * 2 ^ 32 + (s.evr.seq + 1) % 2 ^ 32 } := rfl

theorem exec_evrPost_core {s : State} (c : Fin 8) {w : Word} (hheld : s.boot.held = .off) (hs : s.evr.staged = [])
    (hw : w.getLsbD 4 = false) : exec (.evrPost (.core c) w) s = .next (s.enqueueOffer (s.firmwarePost w)) := by
  have hcls : w.toNat.testBit 4 = false := hw
  rw [exec_evrPost s _ w hheld, State.evrPost]
  simp only [State.coreOrJtag, Master.isCore, Bool.true_or, not_true_eq_false, if_false, hcls, Bool.false_eq_true]
  rw [State.settle_offer hs]
  rfl

/-- Settles O48: a post is settled as one offer (`exec_evrPost_core`), which a queue with room takes, and of which a full queue drops
the new one or displaces the latest of the lowest severity (the `enqueueOffer_evr` lemmas). -/
theorem recorderTakesOffers : Obligations.RecorderTakesOffers := by
  unfold Obligations.RecorderTakesOffers
  intro s c w o hheld hs hw ho
  have hexec := exec_evrPost_core c hheld hs hw
  have hnum : s.numbered (s.firmwarePost w) = o := ho ▸ s.numbered_firmwarePost w
  have hsev : (s.firmwarePost w).sev = o.sev := by rw [← hnum]; rfl
  have hrec : s.recorded (s.firmwarePost w) = s.recorded o := by rw [← hnum]; rfl
  rw [← hrec, ← hsev]
  refine ⟨fun hr hroom => ⟨_, hexec, ?_⟩, fun hr hfull hmin => ⟨_, hexec, ?_⟩, fun q hr hfull hq hlt hfirst => ⟨_, hexec, ?_⟩,
    fun hr => ⟨_, hexec, ?_⟩, fun hf hc => State.recorded_of_frozen hf hc⟩
  · simp [State.enqueueOffer_evr_of_room hr hroom, hnum]
  · simp [State.enqueueOffer_evr_of_drop hr hfull (le_lowestSev_iff.mpr hmin), State.enqueueOffer_dropq_of_full hr hfull]
  · have hlow : lowestSev s.evr.queue = q.sev.code := lowestSev_eq hq fun x hx => (hfirst x hx).1
    have hlast : lastOf s.evr.queue q.sev.code = q.seq := lastOf_eq hq fun x hx => (hfirst x hx).2
    simp [State.enqueueOffer_evr_of_displace hr hfull (hlow ▸ hlt), hlow, hlast, hnum, State.enqueueOffer_dropq_of_full hr hfull]
  · rw [State.enqueueOffer_of_discarded hr]

end Sys2Proof.Machine
end

section
/-!
PROOF. Frames of the chain (R526 to R531, R537): what an asynchronous event and a change of address leave alone, which frames a unit
drops, passes on or handles, what handling one of each type does, then O51.
-/
namespace Sys2Proof.Machine

/-! ### Events leave the other registers alone -/

theorem State.fget_evt_addr (s : State) (f g : Fld) (v : Sev) (h : g.addr ≠ f.addr) : (s.evt f v).fget g = s.fget g :=
  s.fget_fput_addr f g 1 h

theorem State.fget_evt_same (s : State) (f : Fld) (v : Sev) (hl : f.lo ≤ f.hi) (hh : f.hi ≤ 31) : (s.evt f v).fget f = 1 := by
  have hput : (s.fput f 1).fget f = 1 := by
    rw [s.fget_fput_same f 1 hl hh]
    exact Nat.one_mod_two_pow_eq_one.mpr (by omega)
  exact hput

theorem State.rd_evt_ne (s : State) (f : Fld) (v : Sev) {a : Nat} (h : a ≠ f.addr) : (s.evt f v).rd a = s.rd a :=
  s.rd_fput_ne f 1 h

section

variable {α : Type} {p : State → α} (hhost : ∀ (s : State) f, p (s.modHost f) = p s) (hrlt : ∀ s : State, p s.refreshRlt = p s)

include hhost hrlt

theorem keptByEnding_of_modHost (a : Nat) : KeptByEnding a p :=
  ⟨fun s _ _ => hhost s _, hrlt, fun s _ _ => hhost s _⟩

/-- An asynchronous event changes the host side, and RLT_USED and RLT_HIGH when it completes a request. -/
theorem State.asyncEvent_keeps (s : State) (m : Fin 2) (ty info lid : Nat) : p (s.asyncEvent m ty info lid) = p s := by
  unfold State.asyncEvent
  dsimp only
  split
  · rfl
  · split
    · exact ((keptByEnding_of_modHost hhost hrlt _).endOk _ _).trans (hhost s _)
    · split
      · rfl
      · exact hhost s _

theorem State.vendorEvent_keeps (s : State) (lid : Nat) : p (s.vendorEvent lid) = p s :=
  List.foldlRecOn (motive := fun t => p t = p s) _ _ rfl fun t ht m _ => (t.asyncEvent_keeps hhost hrlt m 7 lid lid).trans ht

end

@[simp] theorem State.vendorEvent_out (s : State) (lid : Nat) : (s.vendorEvent lid).out = s.out :=
  State.vendorEvent_keeps (p := fun s => s.out) (fun _ _ => rfl) (fun _ => rfl) s lid

theorem State.fget_refreshRlt (s : State) {g : Fld} (hused : g.addr ≠ Reg.RLT_USED) (hhigh : g.addr ≠ Reg.RLT_HIGH) :
    s.refreshRlt.fget g = s.fget g :=
  (State.fget_fput_addr _ Reg.RLT_HIGH_COUNT g _ hhigh).trans (State.fget_fput_addr s Reg.RLT_USED_COUNT g _ hused)

theorem State.fget_vendorEvent (s : State) (lid : Nat) {g : Fld} (hused : g.addr ≠ Reg.RLT_USED) (hhigh : g.addr ≠ Reg.RLT_HIGH) :
    (s.vendorEvent lid).fget g = s.fget g :=
  State.vendorEvent_keeps (p := fun s => s.fget g) (fun _ _ => rfl) (fun s => s.fget_refreshRlt hused hhigh) s lid

/-! ### A change of address (R530) -/

@[simp] theorem State.setAddr_out (s : State) (a : Nat) : (s.setAddr a).out = s.out := by
  unfold State.setAddr
  split
  · rfl
  · simp

/-- A change of address is put into VCH_ADDR.ADDR and shows elsewhere only in VCH_ENUMS, VCH_EVT_STAT and what the event changes. -/
theorem State.fget_setAddr {s : State} {a : Nat} (ha : s.chainAddr ≠ a) {g : Fld}
    (hg : g.addr ∉ [Reg.VCH_ENUMS, Reg.VCH_EVT_STAT, Reg.RLT_USED, Reg.RLT_HIGH]) :
    (s.setAddr a).fget g = (s.fput Reg.VCH_ADDR_ADDR a).fget g := by
  simp only [List.mem_cons, List.not_mem_nil, or_false, not_or] at hg
  obtain ⟨henums, hevt, hused, hhigh⟩ := hg
  rw [State.setAddr, if_neg ha, State.fget_vendorEvent _ _ hused hhigh, State.fget_evt_addr _ _ _ _ hevt]
  exact State.fget_wr_ne _ _ _ _ henums

theorem State.setAddr_chainAddr (s : State) {a : Nat} (ha : a < 128) : (s.setAddr a).chainAddr = a := by
  by_cases h : s.chainAddr = a
  · rw [State.setAddr, if_pos h, h]
  · rw [State.chainAddr, State.fget_setAddr h (by decide), State.fget_fput_same _ _ _ (by decide) (by decide)]
    exact Nat.mod_eq_of_lt ha

@[simp] theorem State.setAddr_linkUp (s : State) (a : Nat) (up : Bool) : (s.setAddr a).linkUp up = s.linkUp up := by
  by_cases h : s.chainAddr = a
  · rw [State.setAddr, if_pos h]
  · have hstatus : (if up then Reg.VCH_STATUS_UPLINK else Reg.VCH_STATUS_DNLINK).addr = Reg.VCH_STATUS := by cases up <;> rfl
    rw [State.linkUp, State.fbit, State.fget_setAddr h (by rw [hstatus]; decide),
      State.fget_fput_addr _ _ _ _ (by rw [hstatus]; decide)]
    rfl

/-! ### Which frames are dropped (R526) -/

/-- A frame arrives on a link that is Up with its CRC, a TYPE that is not reserved and the LEN of its type. -/
structure State.Accepts (s : State) (up : Bool) (f : Frame) : Prop where
  link : s.linkUp up = true
  crc : f.crcOk = true
  len : frameLen f.ty = some f.len
  payload : f.payload.length = f.len

theorem State.rx_of_linkDown {s : State} {up : Bool} (h : s.linkUp up = false) (f : Frame) : s.rx up f = s := by
  simp [State.rx, State.rxFrame, h]

theorem State.rx_of_badCrc {s : State} {up : Bool} {f : Frame} (h : s.linkUp up = true) (hcrc : f.crcOk = false) :
    s.rx up f = s.bump Reg.VCH_CRCERR := by
  simp [State.rx, State.rxFrame, h, hcrc]

theorem State.rx_of_badLen {s : State} {up : Bool} {f : Frame} (h : s.linkUp up = true) (hcrc : f.crcOk = true)
    (hlen : frameLen f.ty ≠ some f.len ∨ f.payload.length ≠ f.len) : s.rx up f = s.bump Reg.VCH_RXDROP := by
  rw [State.rx, State.rxFrame, if_neg (by simp [h]), if_neg (by simp [hcrc]), if_pos hlen]

/-- A counter after the command that added 1 to it. -/
theorem State.rd_settle_bump (s : State) {a : Nat} (h : a ≠ Reg.EVR_DROPQ) :
    ((s.bump a).settle.rd a).toNat = min ((s.rd a).toNat + 1) 0xFFFFFFFF := by
  rw [State.settle_rd _ h]
  exact s.rd_addc_same a 1

/-- A frame that is dropped is counted, and nothing is sent or changed on the chain. -/
theorem State.counted_of_rx_eq_bump {s : State} {up : Bool} {f : Frame} {a : Nat} (ha : a ≠ Reg.EVR_DROPQ)
    (h : s.rx up f = s.bump a) : (s.rx up f).settle.out = s.out ∧ (s.rx up f).settle.chain = s.chain ∧
      ((s.rx up f).settle.rd a).toNat = min ((s.rd a).toNat + 1) 0xFFFFFFFF := by
  rw [h]
  exact ⟨by simp, by simp, s.rd_settle_bump ha⟩

/-! ### Which frames are passed on and which are handled (R527) -/

theorem State.sendFrame_of_up {s : State} (h : s.linkUp true = true) (f : Frame) : s.sendFrame true f = s.emit (.chainUp f) := by
  simp [State.sendFrame, h]

theorem State.sendFrame_of_down {s : State} (h : s.linkUp false = true) (f : Frame) :
    s.sendFrame false f = s.emit (.chainDn f) := by
  simp [State.sendFrame, h]

@[simp] theorem State.sendFrame_chain (s : State) (up : Bool) (f : Frame) : (s.sendFrame up f).chain = s.chain := by
  unfold State.sendFrame
  split <;> rfl

@[simp] theorem State.sendFrame_consumes (s : State) (port up : Bool) (f g : Frame) :
    (s.sendFrame port f).consumes up g = s.consumes up g := by
  unfold State.sendFrame
  split <;> rfl

theorem State.consumes_of_head {s : State} (h : s.isHead = true) (up : Bool) {f : Frame} (hd : f.dst = 0) :
    s.consumes up f = true := by
  simp [State.consumes, h, hd]

theorem State.consumes_of_broadcast (s : State) {f : Frame} (hd : f.dst = 127) : s.consumes true f = true := by
  simp [State.consumes, hd]

/-- No unit but the head has address 0 (R519). -/
theorem State.consumes_of_not_head {s : State} (h : s.isHead = false) {f : Frame} (hd : f.dst = 0) :
    s.consumes false f = false := by
  simp [State.consumes, h, hd, eq_comm]

/-- What a unit does with an accepted frame once it has passed it on where R527 says so. -/
def State.handled (s : State) (up : Bool) (f : Frame) : State :=
  if f.ty = 3 then (if up then s else s.rxProbe)
  else if f.ty = 4 then (if up then s.rxEcho else s)
  else if ¬ s.consumes up f then s
  else if f.ty = 1 then (if up then s.rxEnum f else s)
  else if f.ty = 2 then (if s.isHead then s.fput Reg.VCH_ADDR_COUNT (f.payload.getD 0 0#8).toNat else s)
  else if f.ty = 5 then (if up then s.rxTime f else s)
  else if f.ty = 6 ∨ f.ty = 7 then (if s.isHead then s.rxAttach (decide (f.ty = 6)) else s)
  else if 0x10 ≤ f.ty ∧ f.ty ≤ 0x12 ∧ up ∧ f.dst = s.chainAddr then s.serve f
  else s

theorem State.handled_of_not_consumed {s : State} {up : Bool} {f : Frame} (hprobe : f.ty ≠ 3) (hecho : f.ty ≠ 4)
    (hc : s.consumes up f = false) : s.handled up f = s := by
  rw [State.handled, if_neg hprobe, if_neg hecho, if_pos (by simp [hc])]

theorem State.forward_hop (s : State) (up : Bool) {f : Frame} (hty : f.ty = 3 ∨ f.ty = 4) : s.forward up f = s := by
  rw [State.forward, if_neg (by omega), if_pos hty]

theorem State.forward_consumed {s : State} {f : Frame} (hc : s.consumes false f = true) : s.forward false f = s := by
  simp [State.forward, hc]

theorem State.forward_of_not_consumed {s : State} {f : Frame} (hprobe : f.ty ≠ 3) (hecho : f.ty ≠ 4)
    (hc : s.consumes false f = false) : s.forward false f = s.sendFrame true f := by
  simp [State.forward, hprobe, hecho, hc]

namespace State.Accepts

variable {s : State} {up : Bool} {f : Frame}

theorem rx_eq (h : s.Accepts up f) : s.rx up f = (s.forward up f).handled up f := by
  have hlen : ¬ (frameLen f.ty ≠ some f.len ∨ f.payload.length ≠ f.len) := by simp [h.len, h.payload]
  rw [State.rx, State.rxFrame, if_neg (by simp [h.link]), if_neg (by simp [h.crc]), if_neg hlen]
  rfl

/-- A frame for the head goes on upstream from a unit that is not head. -/
theorem rx_passed (h : s.Accepts false f) (hprobe : f.ty ≠ 3) (hecho : f.ty ≠ 4) (hd : f.dst = 0) (hhead : s.isHead = false)
    (hup : s.linkUp true = true) : s.rx false f = s.emit (.chainUp f) := by
  have hc := State.consumes_of_not_head hhead hd
  rw [h.rx_eq, State.forward_of_not_consumed hprobe hecho hc,
    State.handled_of_not_consumed hprobe hecho (by rw [State.sendFrame_consumes, hc]), State.sendFrame_of_up hup]

/-- A head handles a frame with DST 0 and passes it nowhere. -/
theorem rx_head (h : s.Accepts false f) (hd : f.dst = 0) (hhead : s.isHead = true) : s.rx false f = s.handled false f := by
  rw [h.rx_eq, State.forward_consumed (State.consumes_of_head hhead false hd)]

theorem rx_enum (h : s.Accepts true f) (hty : f.ty = 1) (hd : f.dst = 127) : s.rx true f = s.rxEnum f := by
  have hfwd : s.forward true f = s := by simp [State.forward, hty]
  simp [h.rx_eq, hfwd, State.handled, hty, s.consumes_of_broadcast hd]

theorem rx_enumEnd (h : s.Accepts false f) (hty : f.ty = 2) (hd : f.dst = 0) (hhead : s.isHead = true) :
    s.rx false f = s.fput Reg.VCH_ADDR_COUNT (f.payload.getD 0 0#8).toNat := by
  simp [h.rx_head hd hhead, State.handled, hty, hhead, State.consumes_of_head hhead false hd]

theorem rx_probe (h : s.Accepts false f) (hty : f.ty = 3) : s.rx false f = s.rxProbe := by
  simp [h.rx_eq, s.forward_hop false (.inl hty), State.handled, hty]

theorem rx_echo (h : s.Accepts true f) (hty : f.ty = 4) : s.rx true f = s.rxEcho := by
  simp [h.rx_eq, s.forward_hop true (.inr hty), State.handled, hty]

theorem rx_time (h : s.Accepts true f) (hty : f.ty = 5) (hd : f.dst = 127) : s.rx true f = (s.sendFrame false f).rxTime f := by
  have hfwd : s.forward true f = s.sendFrame false f := by simp [State.forward, hty, hd]
  simp [h.rx_eq, hfwd, State.handled, hty, s.consumes_of_broadcast hd]

theorem rx_attach (h : s.Accepts false f) (hty : f.ty = 6) (hd : f.dst = 0) (hhead : s.isHead = true) :
    s.rx false f = s.rxAttach true := by
  simp [h.rx_head hd hhead, State.handled, hty, hhead, State.consumes_of_head hhead false hd]

theorem rx_detach (h : s.Accepts false f) (hty : f.ty = 7) (hd : f.dst = 0) (hhead : s.isHead = true) :
    s.rx false f = s.rxAttach false := by
  simp [h.rx_head hd hhead, State.handled, hty, hhead, State.consumes_of_head hhead false hd]

theorem rx_response (h : s.Accepts false f) (hty : f.ty = 0x13) (hd : f.dst = 0) (hhead : s.isHead = true) :
    s.rx false f = s := by
  simp [h.rx_head hd hhead, State.handled, hty]

end State.Accepts

/-! ### What handling a frame does (R528 to R531, R537) -/

/-- NEXT of an ENUM. -/
def enumNext (f : Frame) : Byte := f.payload.getD 0 0#8

/-- ACC of an ENUM. -/
def enumAcc (f : Frame) : Nat := leNat ((f.payload.drop 4).take 4)

/-- ENUM as a unit with a hop delay passes it on, with NEXT raised by 1 (R530). -/
def enumOn (f : Frame) (dly : Nat) : Frame :=
  Frame.sealed { f with
    payload := leBytes ((enumNext f).toNat + 1) 1 ++ (f.payload.drop 1).take 3 ++ leBytes (enumAcc f + dly + 68 * 16) 4 }

theorem enumOn_next (f : Frame) (dly : Nat) : (enumOn f dly).payload.getD 0 0#8 = enumNext f + 1#8 :=
  calc (enumOn f dly).payload.getD 0 0#8
    _ = BitVec.ofNat 8 ((enumNext f).toNat + 1) := by simp [enumOn, Frame.sealed, leBytes]
    _ = enumNext f + 1#8 := by simp [BitVec.ofNat_add]

/-- The state after the first two actions of R530 for an ENUM that gives an address: the address, ACCIN and VCH_ACCDLY are set. -/
def State.enumTaken (s : State) (f : Frame) : State :=
  ((s.setAddr (enumNext f).toNat).modChain (fun c => { c with accIn := enumAcc f })).fput Reg.VCH_ACCDLY_DLY
    (enumAcc f + (s.setAddr (enumNext f).toNat).fget Reg.VCH_UPDLY_DLY)

theorem State.enumTaken_out (s : State) (f : Frame) : (s.enumTaken f).out = s.out := by
  rw [State.enumTaken, State.fput_out, State.modChain_out, State.setAddr_out]

theorem State.enumTaken_chainAddr (s : State) {f : Frame} (h : (enumNext f).toNat < 127) :
    (s.enumTaken f).chainAddr = (enumNext f).toNat :=
  (State.fget_fput_addr _ Reg.VCH_ACCDLY_DLY Reg.VCH_ADDR_ADDR _ (by decide)).trans (s.setAddr_chainAddr (by omega))

theorem State.enumTaken_linkUp (s : State) (f : Frame) : (s.enumTaken f).linkUp false = s.linkUp false := by
  have hdn : (s.enumTaken f).fget Reg.VCH_STATUS_DNLINK = (s.setAddr (enumNext f).toNat).fget Reg.VCH_STATUS_DNLINK :=
    State.fget_fput_addr _ Reg.VCH_ACCDLY_DLY _ _ (by decide)
  exact (congrArg (fun v => decide (v = 1)) hdn).trans (s.setAddr_linkUp _ false)

/-- A unit that is not head takes the address an ENUM gives it and passes the ENUM on (R530). -/
theorem State.rxEnum_addressed {s : State} {f : Frame} (hhead : s.isHead = false) (hpos : 1 ≤ (enumNext f).toNat)
    (hlt : (enumNext f).toNat < 127) (hdn : s.linkUp false = true) :
    s.rxEnum f =
      (s.enumTaken f).emit (.chainDn (enumOn f ((s.setAddr (enumNext f).toNat).fget Reg.VCH_UPDLY_DLY))) := by
  have hgives : ¬ 127 ≤ (f.payload.getD 0 0#8).toNat := Nat.not_le.mpr hlt
  have hlink : (s.enumTaken f).linkUp false = true := (s.enumTaken_linkUp f).trans hdn
  have hpass : (s.enumTaken f).chainAddr ≠ 0 ∧ (s.enumTaken f).linkUp false = true := by
    rw [s.enumTaken_chainAddr hlt]
    exact ⟨by omega, hlink⟩
  rw [← State.sendFrame_of_down hlink, State.rxEnum, if_neg (by simp [hhead])]
  simp only [if_neg hgives]
  exact if_pos hpass

theorem State.rxProbe_eq {s : State} (hdn : s.linkUp false = true) :
    s.rxProbe = (s.emit (.chainEcho (s.cycle + 200) (s.ownFrame 0 4 []))).modChain (fun c =>
      { c with dnEchoed := true, attachDue := c.attachDue || (! s.chain.dnEchoed && decide (s.chainAddr ≠ 0) && ! s.isHead) }) := by
  simp only [State.rxProbe, hdn, if_true]

/-- A PROBE answered after a round trip: no PROBE waits, and VCH_UPDLY holds the one-way hop delay (R528). -/
def State.hopMeasured (s : State) (rtt : Nat) : State :=
  (s.modChain (fun c => { c with probeAt := none })).fput Reg.VCH_UPDLY_DLY (8 * (rtt - 200))

theorem State.hopMeasured_updly (s : State) {rtt : Nat} (h : rtt ≤ 2000) :
    (s.hopMeasured rtt).fget Reg.VCH_UPDLY_DLY = 8 * (rtt - 200) := by
  have hfits : 8 * (rtt - 200) < 2 ^ 20 := by omega
  rw [State.hopMeasured, State.fget_fput_same _ _ _ (by decide) (by decide)]
  exact Nat.mod_eq_of_lt hfits

theorem State.hopMeasured_chain (s : State) (rtt : Nat) : (s.hopMeasured rtt).chain = { s.chain with probeAt := none } := by
  rw [State.hopMeasured, State.fput_chain, State.modChain]

theorem State.rxEcho_eq {s : State} {c : Nat} (hprobe : s.chain.probeAt = some c) (hrtt : s.cycle - c ≤ 2000) :
    s.rxEcho = (s.hopMeasured (s.cycle - c)).fput Reg.VCH_ACCDLY_DLY
      ((s.hopMeasured (s.cycle - c)).chain.accIn + (s.hopMeasured (s.cycle - c)).fget Reg.VCH_UPDLY_DLY) := by
  simp only [State.rxEcho, hprobe]
  exact if_neg (Nat.not_lt.mpr hrtt)

theorem State.rxEcho_delays {s : State} {c : Nat} (hprobe : s.chain.probeAt = some c) (hrtt : s.cycle - c ≤ 2000) :
    s.rxEcho.chain.probeAt = none ∧ s.rxEcho.fget Reg.VCH_UPDLY_DLY = 8 * (s.cycle - c - 200) ∧
      s.rxEcho.fget Reg.VCH_ACCDLY_DLY = (s.chain.accIn + s.rxEcho.fget Reg.VCH_UPDLY_DLY) % 2 ^ 24 := by
  have hkept : s.rxEcho.fget Reg.VCH_UPDLY_DLY = (s.hopMeasured (s.cycle - c)).fget Reg.VCH_UPDLY_DLY := by
    rw [State.rxEcho_eq hprobe hrtt, State.fget_fput_addr _ _ _ _ (by decide)]
  refine ⟨?_, hkept.trans (s.hopMeasured_updly hrtt), ?_⟩
  · rw [State.rxEcho_eq hprobe hrtt, State.fput_chain, State.hopMeasured_chain]
  · have hwidth : Reg.VCH_ACCDLY_DLY.hi + 1 - Reg.VCH_ACCDLY_DLY.lo = 24 := rfl
    rw [hkept, State.rxEcho_eq hprobe hrtt, State.fget_fput_same _ _ _ (by decide) (by decide), hwidth,
      State.hopMeasured_chain]

theorem State.rxTime_latches {s : State} (f : Frame) (hok : s.chain.timeOk = true) :
    (s.rxTime f).chain.timeOk = false ∧
      (s.rxTime f).chain.tref = (leNat (f.payload.take 8), leNat ((f.payload.drop 8).take 8), s.chain.ownVsync) := by
  rw [State.rxTime, if_neg (by simp [hok])]
  exact ⟨rfl, rfl⟩

theorem State.rxAttach_enumDue (s : State) (attach : Bool) : (s.rxAttach attach).chain.enumDue = true := by
  cases attach <;> simp [State.rxAttach, State.modChain]

theorem State.rxAttach_attaches (s : State) :
    ((s.rxAttach true).rd Reg.VCH_ATTACHES).toNat = min ((s.rd Reg.VCH_ATTACHES).toNat + 1) 0xFFFFFFFF := by
  have hevt : (s.rxAttach true).rd Reg.VCH_ATTACHES = (s.bump Reg.VCH_ATTACHES).rd Reg.VCH_ATTACHES :=
    State.rd_evt_ne _ Reg.VCH_EVT_STAT_ATTACH .notice (by decide)
  rw [hevt]
  exact s.rd_addc_same _ 1

theorem State.rxAttach_detach (s : State) : (s.rxAttach false).fget Reg.VCH_EVT_STAT_DETACH = 1 :=
  State.fget_evt_same _ Reg.VCH_EVT_STAT_DETACH .notice (by decide) (by decide)

/-! ### The commands -/

theorem exec_chainFrame {s : State} (hheld : s.boot.held = .off) (up : Bool) (f : Frame) :
    ∀ g ∈ ([Instr.enumFrame, Instr.enumEndFrame, Instr.probeFrame, Instr.echoFrame, Instr.timeFrame, Instr.attachFrame,
        Instr.detachFrame, Instr.regReadFrame, Instr.regWriteFrame, Instr.ownFrame, Instr.responseFrame] :
        List (Bool → Frame → Instr)), exec (g up f) s = .next (s.rx up f).settle := by
  simp only [List.forall_mem_cons]
  exact ⟨exec_enumFrame s up f hheld, exec_enumEndFrame s up f hheld, exec_probeFrame s up f hheld, exec_echoFrame s up f hheld,
    exec_timeFrame s up f hheld, exec_attachFrame s up f hheld, exec_detachFrame s up f hheld, exec_regReadFrame s up f hheld,
    exec_regWriteFrame s up f hheld, exec_ownFrame s up f hheld, exec_responseFrame s up f hheld, List.forall_mem_nil _⟩

namespace State.Accepts

variable {s : State} {up : Bool} {f : Frame}

theorem of_ty (hlink : s.linkUp up = true) (hcrc : f.crcOk = true) (hpay : f.payload.length = f.len) {ty n : Nat}
    (hty : f.ty = ty) (hn : f.payload.length = n) (hlen : frameLen ty = some n) : s.Accepts up f :=
  ⟨hlink, hcrc, by rw [hty, hlen, ← hpay, hn], hpay⟩

theorem settle_enum (h : s.Accepts true f) (hty : f.ty = 1) (hd : f.dst = 127) (hhead : s.isHead = false)
    (hpos : 1 ≤ (enumNext f).toNat) (hlt : (enumNext f).toNat < 127) (hdn : s.linkUp false = true) :
    (s.rx true f).settle.chainAddr = (enumNext f).toNat ∧
      (s.rx true f).settle.out = .chainDn (enumOn f ((s.setAddr (enumNext f).toNat).fget Reg.VCH_UPDLY_DLY)) :: s.out := by
  rw [h.rx_enum hty hd, State.rxEnum_addressed hhead hpos hlt hdn]
  constructor
  · exact (State.settle_fget _ _ (by decide)).trans (s.enumTaken_chainAddr hlt)
  · rw [State.settle_out, State.emit, State.enumTaken_out]

theorem settle_enumEnd (h : s.Accepts false f) (hty : f.ty = 2) (hd : f.dst = 0) (hhead : s.isHead = true)
    (hlt : (f.payload.getD 0 0#8).toNat < 128) :
    (s.rx false f).settle.fget Reg.VCH_ADDR_COUNT = (f.payload.getD 0 0#8).toNat ∧ (s.rx false f).settle.out = s.out := by
  rw [h.rx_enumEnd hty hd hhead]
  constructor
  · rw [State.settle_fget _ _ (by decide), State.fget_fput_same _ _ _ (by decide) (by decide)]
    exact Nat.mod_eq_of_lt hlt
  · rw [State.settle_out, State.fput_out]

theorem settle_probe (h : s.Accepts false f) (hty : f.ty = 3) :
    (s.rx false f).settle.out = .chainEcho (s.cycle + 200) (s.ownFrame 0 4 []) :: s.out ∧
      (s.rx false f).settle.chain.dnEchoed = true := by
  rw [h.rx_probe hty, State.rxProbe_eq h.link]
  constructor
  · exact State.settle_out _
  · rw [State.settle_chain, State.modChain]

theorem settle_echo (h : s.Accepts true f) (hty : f.ty = 4) {c : Nat} (hprobe : s.chain.probeAt = some c)
    (hrtt : s.cycle - c ≤ 2000) :
    (s.rx true f).settle.chain.probeAt = none ∧
      (s.rx true f).settle.fget Reg.VCH_UPDLY_DLY = 8 * (s.cycle - c - 200) ∧
      (s.rx true f).settle.fget Reg.VCH_ACCDLY_DLY =
        (s.chain.accIn + (s.rx true f).settle.fget Reg.VCH_UPDLY_DLY) % 2 ^ 24 := by
  rw [h.rx_echo hty, State.settle_chain, State.settle_fget _ _ (by decide), State.settle_fget _ _ (by decide)]
  exact State.rxEcho_delays hprobe hrtt

theorem settle_time (h : s.Accepts true f) (hty : f.ty = 5) (hd : f.dst = 127) (hok : s.chain.timeOk = true) :
    (s.rx true f).settle.chain.timeOk = false ∧
      (s.rx true f).settle.chain.tref = (leNat (f.payload.take 8), leNat ((f.payload.drop 8).take 8), s.chain.ownVsync) := by
  rw [h.rx_time hty hd, State.settle_chain, ← s.sendFrame_chain false f]
  exact State.rxTime_latches f (by rw [State.sendFrame_chain, hok])

theorem settle_attach (h : s.Accepts false f) (hty : f.ty = 6) (hd : f.dst = 0) (hhead : s.isHead = true) :
    (s.rx false f).settle.chain.enumDue = true ∧
      ((s.rx false f).settle.rd Reg.VCH_ATTACHES).toNat = min ((s.rd Reg.VCH_ATTACHES).toNat + 1) 0xFFFFFFFF := by
  rw [h.rx_attach hty hd hhead, State.settle_chain, State.settle_rd _ (by decide)]
  exact ⟨s.rxAttach_enumDue true, s.rxAttach_attaches⟩

theorem settle_detach (h : s.Accepts false f) (hty : f.ty = 7) (hd : f.dst = 0) (hhead : s.isHead = true) :
    (s.rx false f).settle.chain.enumDue = true ∧ (s.rx false f).settle.fget Reg.VCH_EVT_STAT_DETACH = 1 := by
  rw [h.rx_detach hty hd hhead, State.settle_chain, State.settle_fget _ _ (by decide)]
  exact ⟨s.rxAttach_enumDue false, s.rxAttach_detach⟩

theorem settle_passed (h : s.Accepts false f) (hprobe : f.ty ≠ 3) (hecho : f.ty ≠ 4) (hd : f.dst = 0) (hhead : s.isHead = false)
    (hup : s.linkUp true = true) :
    (s.rx false f).settle.out = .chainUp f :: s.out ∧ (s.rx false f).settle.chain = s.chain := by
  rw [h.rx_passed hprobe hecho hd hhead hup]
  exact ⟨State.settle_out _, State.settle_chain _⟩

theorem settle_response (h : s.Accepts false f) (hty : f.ty = 0x13) (hd : f.dst = 0) (hhead : s.isHead = true) :
    (s.rx false f).settle.out = s.out ∧ (s.rx false f).settle.chain = s.chain := by
  rw [h.rx_response hty hd hhead]
  exact ⟨s.settle_out, s.settle_chain⟩

end State.Accepts

/-- Settles O51: each row receives its frame (`exec_chainFrame`); one that is not accepted is dropped and counted (`rx_of_badCrc`,
`rx_of_badLen`), and what an accepted one does goes by its TYPE and DST (the `settle_` lemmas of `State.Accepts`). -/
theorem chainFrames : Obligations.ChainFrames := by
  unfold Obligations.ChainFrames
  intro s f hheld
  refine ⟨fun up g hg => ?dropped, fun hcrc hpay => ?accepted⟩
  case dropped =>
    have hexec := exec_chainFrame hheld up f g hg
    refine ⟨fun hl hbad => ⟨_, hexec, ?_⟩, fun hl hgood hlen => ⟨_, hexec, ?_⟩, fun hl => ?_⟩
    · exact State.counted_of_rx_eq_bump (by decide) (State.rx_of_badCrc hl hbad)
    · exact State.counted_of_rx_eq_bump (by decide) (State.rx_of_badLen hl hgood hlen)
    · rw [hexec, State.rx_of_linkDown hl]
  case accepted =>
    have acc : ∀ {up ty n}, s.linkUp up = true → f.ty = ty → f.payload.length = n → frameLen ty = some n → s.Accepts up f :=
      fun hl => State.Accepts.of_ty hl hcrc hpay
    refine ⟨?enum, ?enumEnd, ?probe, ?echo, ?time, ?attach, ?detach, ?detachPassed, ?responsePassed, ?response⟩
    case enum =>
      rintro b hl hty hn hd hhead rfl hpos hlt hdn
      obtain ⟨haddr, hout⟩ := (acc hl hty hn rfl).settle_enum hty hd hhead hpos hlt hdn
      exact ⟨_, _, exec_enumFrame s true f hheld, haddr, hout, hty, enumOn_next f _⟩
    case enumEnd =>
      rintro b hl hty hn hd hhead rfl hlt
      exact ⟨_, exec_enumEndFrame s false f hheld, (acc hl hty hn rfl).settle_enumEnd hty hd hhead hlt⟩
    case probe =>
      intro hl hty hnil
      obtain ⟨hout, hechoed⟩ := (acc hl hty (congrArg List.length hnil) rfl).settle_probe hty
      exact ⟨_, _, exec_probeFrame s false f hheld, hout, rfl, rfl, hechoed⟩
    case echo =>
      intro c hl hty hnil hprobe hrtt
      exact ⟨_, exec_echoFrame s true f hheld, (acc hl hty (congrArg List.length hnil) rfl).settle_echo hty hprobe hrtt⟩
    case time =>
      intro hl hty hn hd hok
      exact ⟨_, exec_timeFrame s true f hheld, (acc hl hty hn rfl).settle_time hty hd hok⟩
    case attach =>
      intro hl hty hn hd hhead
      exact ⟨_, exec_attachFrame s false f hheld, (acc hl hty hn rfl).settle_attach hty hd hhead⟩
    case detach =>
      intro hl hty hn hd hhead
      exact ⟨_, exec_detachFrame s false f hheld, (acc hl hty hn rfl).settle_detach hty hd hhead⟩
    case detachPassed =>
      intro hl hup hty hn hd hhead
      exact ⟨_, exec_detachFrame s false f hheld,
        (acc hl hty hn rfl).settle_passed (by omega) (by omega) hd hhead hup⟩
    case responsePassed =>
      intro hl hup hty hn hd hhead
      exact ⟨_, exec_responseFrame s false f hheld,
        (acc hl hty hn rfl).settle_passed (by omega) (by omega) hd hhead hup⟩
    case response =>
      intro hl hty hn hd hhead
      exact ⟨_, exec_responseFrame s false f hheld, (acc hl hty hn rfl).settle_response hty hd hhead⟩

end Sys2Proof.Machine
end
